-- ==== Sys2Proof/Word.lean ====
section
/-!
DEFINITION. The words and names that the whole model uses: register words, actuators, channels, initiators, fields.
-/
namespace Sys2Proof

/-- A 32-bit register word. -/
abbrev Word := BitVec 32

/-- A byte. -/
abbrev Byte := BitVec 8

/-- The two actuators (R1). -/
inductive Act where
  | a | b
deriving DecidableEq, Repr

/-- The number of an actuator: A is 0, B is 1. -/
def Act.idx : Act → Nat
  | .a => 0
  | .b => 1

/-- The other actuator. -/
def Act.other : Act → Act
  | .a => .b
  | .b => .a

/-- A read/write channel, CH0 to CH3 (R15). -/
abbrev Chan := Fin 4

/-- The two logical cores (R31, R672). -/
inductive LCore where
  | lc0 | lc1
deriving DecidableEq, Repr

/-- The number of a logical core. -/
def LCore.idx : LCore → Nat
  | .lc0 => 0
  | .lc1 => 1

/-- The initiators of register accesses: LC0, LC1 and the debug port (R63, R78), and the two sequencers (R182). -/
inductive Initiator where
  | lc0 | lc1 | dbg | msqA | msqB
deriving DecidableEq, Repr

/-- The number of an initiator; 0, 1 and 2 are the codes of SYS_BUSERR.INIT (R78). -/
def Initiator.idx : Initiator → Nat
  | .lc0 => 0
  | .lc1 => 1
  | .dbg => 2
  | .msqA => 3
  | .msqB => 4

/-- A field of a register: the register's address, its low bit and its length. -/
structure Field where
  addr : Nat
  lo : Nat
  len : Nat
deriving DecidableEq, Repr

end Sys2Proof
end

