-- ==== Sys2Proof/Syntax.lean ====
section
/-!
DEFINITION. The commands of the block: one constructor per row of the table of operations and events, in its order, with
what the sender of the command supplies.
-/
namespace Sys2Proof

/-- The fields of an instruction of format R (R129, R131): G, N, P, RD, RS1, RS2, I, the zero bit [32], IMM. -/
structure FmtR where
  g : Bool
  n : Bool
  p : BitVec 2
  rd : BitVec 6
  rs1 : BitVec 6
  rs2 : BitVec 6
  i : Bool
  z : Bool
  imm : BitVec 32
deriving DecidableEq, Repr

/-- The fields of an instruction of format Q (R129, R132): G, N, P, AQ, QOP, OPS. -/
structure FmtQ where
  g : Bool
  n : Bool
  p : BitVec 2
  aq : BitVec 2
  qop : BitVec 26
  ops : BitVec 24
deriving DecidableEq, Repr

/-- The operands of a microword of format M (R236). -/
structure FmtM where
  d : BitVec 7
  a : BitVec 7
  b : BitVec 7
deriving DecidableEq, Repr

/-- The kind of an access to the address map (R67): a load, a store, an atomic memory operation or store-conditional, an instruction
fetch, a load-reserved. -/
inductive AccKind where
  | load | store | amo | fetch | lr
deriving DecidableEq, Repr

/-- A microcode patch section that verification kept (R264, R621): its release, words by micro-address, patch comparators (none: one
that is not enabled, R246) and dispatch entries. -/
structure PatchImg where
  release : Nat
  words : List (Nat × Word)
  comps : List (Nat × Option (Nat × Nat))
  disp : List (Nat × Nat)
deriving DecidableEq, Repr

/-- What XSP finds in the flash device (R684): its profile parameters were read, they declare profile 1.0, its size code. -/
structure FlashId where
  found : Bool
  octal : Bool
  size : Nat
deriving DecidableEq, Repr

/-- What a start-up finds: the straps as they stand at the sampling instant (R784), HIFSEL, SPINUP_AUTO, GEN7, SLOTID, CANOPY;
the flash device; the core pairs that pass their self-test (R669): P0, P1 of LC0, P0, P1 of LC1. -/
structure Straps where
  hifsel : Bool
  spinup : Bool
  gen7 : Bool
  slotid : Nat
  canopy : Bool
  flash : FlashId
  pairs : BitVec 4
deriving DecidableEq, Repr

/-- An image that a boot tries (R618): its slot is B, its flash offset, its signatures and key block pass (R617), its patch section. -/
structure BootTry where
  slotB : Bool
  base : Nat
  sigs : Bool
  patch : Option PatchImg
deriving DecidableEq, Repr

/-- What an on-the-fly decode meets (R269, R270): the syndrome weight after each global iteration; the CRC passes;
the 8 bytes of the media tag read, the first byte lowest (R273); an uncorrectable word of the sample ring; the loop state the sector leaves: AGC and offset
values, timing values, and the equaliser taps that LMS moves, by number (R292, R295). -/
structure DecodeOut where
  weights : List Nat
  crc : Bool
  tag : BitVec 64
  sramBad : Bool
  agc : Word
  tloop : Word
  taps : List (Nat × Word)
deriving DecidableEq, Repr

/-- One offset that re-detection decodes from (R287), in its ranked order: whether the ring still holds the sector as its
turn comes; the syndrome weight after each global iteration; the CRC passes; the 8 bytes of the tag read. -/
structure RedetTry where
  inRing : Bool
  weights : List Nat
  crc : Bool
  tag : BitVec 64
deriving DecidableEq, Repr

/-- What the servo demodulator gives for a bound head at a wedge (R416, R417): an address mark was found; the burst amplitude in
1/64 of nominal; the Gray code is valid; the raw bursts; the Gray-coded wedge number and track; the PES in 1/4,096 of the pitch. -/
structure HeadIn where
  mark : Bool
  amp : Nat
  gray : Bool
  bursts : Nat
  wedge : Nat
  track : Nat
  pes : BitVec 16
deriving DecidableEq, Repr

/-- A host command as its transport delivers it (R632, R635, R638, R640): PORT 0 SAS A, 1 SAS B, 2 PCIe; fast path or not; unit; tag
or command identifier; submission queue; write, FUA; first LBA and length in sectors; the key tag it carries; ACA, HEAD OF QUEUE
and ORDERED attributes; the raw command's 16 words; every LBA lies in the unit; a restricted state serves it (R654). -/
structure HostCmd where
  port : Nat
  fast : Bool
  unit : Nat
  tag : Nat
  sq : Nat
  write : Bool
  fua : Bool
  lba : Nat
  len : Nat
  keytag : Option Nat
  aca : Bool
  hoq : Bool
  ordered : Bool
  raw : List Word
  inUnit : Bool
  served : Bool
deriving DecidableEq, Repr

/-- A downloaded image that the boot ROM holds (R655, R685): its bytes; the image slot it goes to, the slot's base and the boot
record's base in the flash, as the layout record gives them. -/
structure Download where
  bytes : List Byte
  slotB : Bool
  base : Nat
  recBase : Nat
deriving DecidableEq, Repr

/-- What every received Vale message but SYNC carries (R701 to R705): its sender's SLOTID, its SEQ, and whether its MAC passes under
TXSLOT's and under ALTSLOT's key with the counter that R704 derives. -/
structure ValeRx where
  sender : BitVec 6
  seq : BitVec 8
  macTx : Bool
  macAlt : Bool
deriving DecidableEq, Repr

/-- The commands (spec/opcode_table.json). Each constructor cites the rule that its row names. -/
inductive Instr where
  /-- FRAME_CRC_ERROR (R38). -/
  | frameCrcError
  /-- LANE_FAILURE (R38). -/
  | laneFailure (lane : Nat)
  /-- LANE_REMAP_ACK (R38). -/
  | laneRemapAck
  /-- LANE_REMAP_COMPLETE (R38). -/
  | laneRemapComplete
  /-- LANE_REMAP_TIMEOUT (R38). -/
  | laneRemapTimeout
  /-- LINK_LOSS_SAFE_STATE (R39). -/
  | linkLossSafeState
  /-- LINK_TRAINING_COMPLETE (R797). -/
  | linkTrainingComplete (passing : BitVec 9)
  /-- D2D_RELEASE (R41). -/
  | d2dRelease
  /-- REGISTER_WRITE (R60). -/
  | registerWrite (i : Initiator) (addr : Nat) (v : Word)
  /-- LAT_READ (R62). -/
  | latRead (i : Initiator) (addr : Nat)
  /-- LATH_WRITE (R64). -/
  | lathWrite (i : Initiator) (addr : Nat) (v : Word)
  /-- LAT_WRITE (R64). -/
  | latWrite (i : Initiator) (addr : Nat) (v : Word)
  /-- ACCESS_64BIT (R65). -/
  | access64bit (i : Initiator) (write : Bool) (addr : Nat) (v : BitVec 64)
  /-- NARROW_WRITE (R67). -/
  | narrowWrite (i : Initiator) (addr : Nat) (half : Bool) (v : BitVec 16)
  /-- ACCESS_FAULT (R67). -/
  | accessFault (i : Initiator) (kind : AccKind) (size addr : Nat)
  /-- SERVO_CORRECTION (R92). -/
  | servoCorrection (wedge : Nat)
  /-- BEMF_CORRECTION (R93). -/
  | bemfCorrection (k angle : Nat)
  /-- SERVO_SOURCE_TIMEOUT (R95). -/
  | servoSourceTimeout
  /-- ANGLE_LOSS (R97). -/
  | angleLoss
  /-- MASTER_SWITCH (R98). -/
  | masterSwitch
  /-- COMPARATOR_FIRE (R102). -/
  | comparatorFire (x : Act) (k : Nat)
  /-- MSQ_SUBMIT (R117). -/
  | msqSubmit (x : Act)
  /-- RESUME_CONTEXT_ANSWER (R121). -/
  | resumeContextAnswer (x : Act)
  /-- SLOT_START (R123). -/
  | slotStart (x : Act)
  /-- SLOT_RESUME (R127). -/
  | slotResume (x : Act) (k : Nat)
  /-- SLOT_DISCARD (R127). -/
  | slotDiscard (x : Act) (k : Nat)
  /-- SLOT_ABORT (R127). -/
  | slotAbort (x : Act) (k : Nat)
  /-- SLOTDONE_CLEAR (R126). -/
  | slotdoneClear (x : Act) (k : Nat)
  /-- NOP (R142). -/
  | nop (x : Act) (f : FmtR)
  /-- BR (R143). -/
  | br (x : Act) (f : FmtR)
  /-- BRC (R144). -/
  | brc (x : Act) (f : FmtR)
  /-- CALL (R143). -/
  | call (x : Act) (f : FmtR)
  /-- RET (R143). -/
  | ret (x : Act) (f : FmtR)
  /-- HALT (R145). -/
  | halt (x : Act) (f : FmtR)
  /-- WAITA (R146). -/
  | waita (x : Act) (f : FmtQ)
  /-- WAITE (R147). -/
  | waite (x : Act) (f : FmtR)
  /-- YIELD (R149). -/
  | yield (x : Act) (f : FmtR)
  /-- LDI (R150). -/
  | ldi (x : Act) (f : FmtR)
  /-- MOV (R150). -/
  | mov (x : Act) (f : FmtR)
  /-- ADD (R150). -/
  | add (x : Act) (f : FmtR)
  /-- SUB (R150). -/
  | sub (x : Act) (f : FmtR)
  /-- AND (R150). -/
  | and (x : Act) (f : FmtR)
  /-- OR (R150). -/
  | or (x : Act) (f : FmtR)
  /-- XOR (R150). -/
  | xor (x : Act) (f : FmtR)
  /-- SHL (R150). -/
  | shl (x : Act) (f : FmtR)
  /-- SHR (R150). -/
  | shr (x : Act) (f : FmtR)
  /-- CMP (R151). -/
  | cmp (x : Act) (f : FmtR)
  /-- SEEK (R154). -/
  | seek (x : Act) (f : FmtQ)
  /-- FOLLOW (R155). -/
  | follow (x : Act) (f : FmtQ)
  /-- OFFSET (R156). -/
  | offset (x : Act) (f : FmtQ)
  /-- HEADSEL (R157). -/
  | headsel (x : Act) (f : FmtQ)
  /-- LOADH (R159). -/
  | loadh (x : Act) (f : FmtQ)
  /-- UNLOADH (R159). -/
  | unloadh (x : Act) (f : FmtQ)
  /-- READ (R165). -/
  | read (x : Act) (f : FmtQ)
  /-- WRITE (R165). -/
  | write (x : Act) (f : FmtQ)
  /-- VERIFY (R165). -/
  | verify (x : Act) (f : FmtQ)
  /-- SCAN (R169). -/
  | scan (x : Act) (f : FmtQ)
  /-- ERASEB (R165). -/
  | eraseb (x : Act) (f : FmtQ)
  /-- ASSIST (R171). -/
  | assist (x : Act) (f : FmtR)
  /-- HEAT (R171). -/
  | heat (x : Act) (f : FmtR)
  /-- PREHEAT (R171). -/
  | preheat (x : Act) (f : FmtR)
  /-- BIND (R172). -/
  | bind (x : Act) (f : FmtR)
  /-- BADV (R174). -/
  | badv (x : Act) (f : FmtR)
  /-- TAG (R173). -/
  | tag (x : Act) (f : FmtR)
  /-- POST (R175). -/
  | post (x : Act) (f : FmtR)
  /-- COMMIT (R176). -/
  | commit (x : Act) (f : FmtR)
  /-- FENCE (R177). -/
  | fence (x : Act) (f : FmtR)
  /-- CHKPT (R178). -/
  | chkpt (x : Act) (f : FmtR)
  /-- EXT (R179). -/
  | ext (x : Act) (f : FmtR)
  /-- RDREG (R180). -/
  | rdreg (x : Act) (f : FmtR)
  /-- WRREG (R180). -/
  | wrreg (x : Act) (f : FmtR)
  /-- POSITIONING_COMPLETE (R142). -/
  | positioningComplete (x : Act)
  /-- MEDIA_INSTRUCTION_COMPLETE (R142). -/
  | mediaInstructionComplete (x : Act) (second : Bool)
  /-- HEATER_SETTLED (R324). -/
  | heaterSettled (x : Act) (second : Bool)
  /-- CCX_BIND_CONFIRM (R172). -/
  | ccxBindConfirm (x : Act)
  /-- WAITE_TIMEOUT (R147). -/
  | waiteTimeout (x : Act)
  /-- WAITA_TIMEOUT (R146). -/
  | waitaTimeout (x : Act)
  /-- SLOT_TIMEOUT (R184). -/
  | slotTimeout (x : Act)
  /-- WEDGE_CHECK (R193). -/
  | wedgeCheck (x : Act) (wedge : Nat)
  /-- SQUASH_RESTART (R217). -/
  | squashRestart (x : Act)
  /-- WEDGE_WATCHDOG (R226). -/
  | wedgeWatchdog (x : Act)
  /-- CONTROL_STORE_PARITY (R234). -/
  | controlStoreParity (x : Act) (uaddr : Nat)
  /-- STEP_LIMIT (R250). -/
  | stepLimit (x : Act)
  /-- UOP_NOP (R239). -/
  | uopNop (x : Act)
  /-- UOP_BR (R239). -/
  | uopBr (x : Act) (target : BitVec 15)
  /-- UOP_BRC (R239). -/
  | uopBrc (x : Act) (cond : BitVec 4) (target : BitVec 15)
  /-- UOP_CALL (R239). -/
  | uopCall (x : Act) (target : BitVec 15)
  /-- UOP_RET (R239). -/
  | uopRet (x : Act)
  /-- UOP_DISP (R248). -/
  | uopDisp (x : Act)
  /-- UOP_EXTD (R239). -/
  | uopExtd (x : Act)
  /-- UOP_YIELD (R239). -/
  | uopYield (x : Act)
  /-- UOP_COMMIT (R251). -/
  | uopCommit (x : Act)
  /-- UOP_TRAP (R239). -/
  | uopTrap (x : Act) (imm : BitVec 19)
  /-- UOP_WAIT (R239). -/
  | uopWait (x : Act) (imm : BitVec 19)
  /-- UOP_TESTEV (R239). -/
  | uopTestev (x : Act) (imm : BitVec 19)
  /-- UOP_ARM (R239). -/
  | uopArm (x : Act) (m : FmtM)
  /-- UOP_DISARM (R239). -/
  | uopDisarm (x : Act) (m : FmtM)
  /-- UOP_SETFLG (R239). -/
  | uopSetflg (x : Act) (imm : BitVec 19)
  /-- UOP_CLRFLG (R239). -/
  | uopClrflg (x : Act) (imm : BitVec 19)
  /-- UOP_ADD (R239). -/
  | uopAdd (x : Act) (m : FmtM)
  /-- UOP_SUB (R239). -/
  | uopSub (x : Act) (m : FmtM)
  /-- UOP_AND (R239). -/
  | uopAnd (x : Act) (m : FmtM)
  /-- UOP_OR (R239). -/
  | uopOr (x : Act) (m : FmtM)
  /-- UOP_XOR (R239). -/
  | uopXor (x : Act) (m : FmtM)
  /-- UOP_SHL (R239). -/
  | uopShl (x : Act) (m : FmtM)
  /-- UOP_SHR (R239). -/
  | uopShr (x : Act) (m : FmtM)
  /-- UOP_SAR (R239). -/
  | uopSar (x : Act) (m : FmtM)
  /-- UOP_ADDI (R239). -/
  | uopAddi (x : Act) (d : BitVec 7) (imm : BitVec 19)
  /-- UOP_LDI (R239). -/
  | uopLdi (x : Act) (d : BitVec 7) (imm : BitVec 19)
  /-- UOP_LUI (R239). -/
  | uopLui (x : Act) (d : BitVec 7) (imm : BitVec 19)
  /-- UOP_MOV (R239). -/
  | uopMov (x : Act) (m : FmtM)
  /-- UOP_CMP (R239). -/
  | uopCmp (x : Act) (m : FmtM)
  /-- UOP_MIN (R239). -/
  | uopMin (x : Act) (m : FmtM)
  /-- UOP_MAX (R239). -/
  | uopMax (x : Act) (m : FmtM)
  /-- UOP_MUL (R239). -/
  | uopMul (x : Act) (m : FmtM)
  /-- UOP_LDS (R239). -/
  | uopLds (x : Act) (m : FmtM)
  /-- UOP_STS (R239). -/
  | uopSts (x : Act) (m : FmtM)
  /-- UOP_LDZ (R239). -/
  | uopLdz (x : Act) (m : FmtM)
  /-- UOP_LDPT (R239). -/
  | uopLdpt (x : Act) (m : FmtM)
  /-- UOP_RDR (R241). -/
  | uopRdr (x : Act) (m : FmtM)
  /-- UOP_WRR (R241). -/
  | uopWrr (x : Act) (m : FmtM)
  /-- UOP_SEL (R239). -/
  | uopSel (x : Act) (m : FmtM)
  /-- UOP_BITX (R239). -/
  | uopBitx (x : Act) (m : FmtM)
  /-- UOP_CHSET (R239). -/
  | uopChset (x : Act) (m : FmtM)
  /-- UOP_CHGO (R239). -/
  | uopChgo (x : Act) (m : FmtM)
  /-- UOP_CHWT (R239). -/
  | uopChwt (x : Act) (m : FmtM)
  /-- UOP_GATEW (R239). -/
  | uopGatew (x : Act) (m : FmtM)
  /-- UOP_GATEL (R239). -/
  | uopGatel (x : Act) (m : FmtM)
  /-- UOP_GATEE (R239). -/
  | uopGatee (x : Act) (m : FmtM)
  /-- UOP_TAGLD (R239). -/
  | uopTagld (x : Act) (m : FmtM)
  /-- UOP_BUFA (R239). -/
  | uopBufa (x : Act) (m : FmtM)
  /-- UOP_LPCMD (R239). -/
  | uopLpcmd (x : Act) (m : FmtM)
  /-- UOP_LPWT (R239). -/
  | uopLpwt (x : Act) (m : FmtM)
  /-- UOP_HDSEL (R239). -/
  | uopHdsel (x : Act) (m : FmtM)
  /-- UOP_PLKW (R239). -/
  | uopPlkw (x : Act) (m : FmtM)
  /-- UOP_PLKR (R239). -/
  | uopPlkr (x : Act) (m : FmtM)
  /-- UOP_HTR (R239). -/
  | uopHtr (x : Act) (m : FmtM)
  /-- UOP_ASST (R239). -/
  | uopAsst (x : Act) (m : FmtM)
  /-- UOP_WGLIM (R239). -/
  | uopWglim (x : Act) (m : FmtM)
  /-- UOP_CTXB (R239). -/
  | uopCtxb (x : Act) (m : FmtM)
  /-- UOP_CTXP (R239). -/
  | uopCtxp (x : Act) (m : FmtM)
  /-- UOP_KEYSEL (R239). -/
  | uopKeysel (x : Act) (m : FmtM)
  /-- UOP_BCLK (R239). -/
  | uopBclk (x : Act) (m : FmtM)
  /-- UOP_CKWR (R239). -/
  | uopCkwr (x : Act)
  /-- UOP_TICK (R239). -/
  | uopTick (x : Act) (m : FmtM)
  /-- UOP_RBKS (R239). -/
  | uopRbks (x : Act) (m : FmtM)
  /-- UOP_HALTS (R239). -/
  | uopHalts (x : Act)
  /-- MICRO_STALL_END (R239). -/
  | microStallEnd (x : Act) (reply : Word)
  /-- SAPWOOD_LOAD_OPEN (R262). -/
  | sapwoodLoadOpen (x : Act) (load : Bool)
  /-- SAPDATA_ACCESS (R256). -/
  | sapdataAccess (i : Initiator) (x : Act) (write : Bool) (v : Word)
  /-- SYNC_MARK_SEARCH (R279). -/
  | syncMarkSearch (n : Chan) (cands : List (Int × Nat))
  /-- SECTOR_DECODE (R269). -/
  | sectorDecode (n : Chan) (out : DecodeOut)
  /-- REDETECTION (R287). -/
  | redetection (n : Chan) (tries : List RedetTry) (sramBad : Bool)
  /-- REDETECTION_DEADLINE (R288). -/
  | redetectionDeadline (n : Chan)
  /-- DEFECT_FREEZE (R297). -/
  | defectFreeze (n : Chan) (on : Bool)
  /-- FREEZE_LIMIT (R298). -/
  | freezeLimit (n : Chan)
  /-- FRECPOP (R305). -/
  | frecpop (n : Chan)
  /-- EQDATA_ACCESS (R292). -/
  | eqdataAccess (i : Initiator) (n : Chan) (write : Bool) (v : Word)
  /-- XTS_SECTOR (R592). -/
  | xtsSector (n : Chan)
  /-- LASER_GATE_LIMIT (R318). -/
  | laserGateLimit (x : Act) (second : Bool)
  /-- MONITOR_READ (R319). -/
  | monitorRead (x : Act) (second : Bool) (reading : Option Nat)
  /-- LMREL (R323). -/
  | lmrel (x : Act)
  /-- HEAD_CONTACT (R325). -/
  | headContact (x : Act) (head : Nat)
  /-- WRITE_GUARD_TRIP (R329). -/
  | writeGuardTrip (x : Act) (bits : BitVec 8) (neg : Bool)
  /-- WRITE_GUARD_RELEASE (R330). -/
  | writeGuardRelease (x : Act) (quiet : Bool)
  /-- TORNPOP (R338). -/
  | tornpop (x : Act)
  /-- PLK_WRITE_FRAME (R342). -/
  | plkWriteFrame (x : Act) (addr : BitVec 7) (data : BitVec 16)
  /-- PLK_READ_FRAME (R342). -/
  | plkReadFrame (x : Act) (addr : BitVec 7) (data : BitVec 16) (crcOk : Bool)
  /-- PLK_RESPONSE_TIMEOUT (R343). -/
  | plkResponseTimeout (x : Act)
  /-- PLK_FIRMWARE_FRAME (R347). -/
  | plkFirmwareFrame (x : Act) (resp : BitVec 16)
  /-- PREAMP_FAULT (R346). -/
  | preampFault (x : Act) (pin : Bool) (status : BitVec 16)
  /-- VCM_SAMPLE (R389). -/
  | vcmSample (x : Act) (h0 h1 : HeadIn) (sh0 sh1 : Int) (iv : BitVec 16) (mv : Nat) (normal : Bool)
  /-- MICROACTUATOR_SAMPLE (R397). -/
  | microactuatorSample (n : Chan)
  /-- SPINDLE_SAMPLE (R385). -/
  | spindleSample (pinA pinB mv : Nat)
  /-- BUS_VOLTAGE_SAMPLE (R385). -/
  | busVoltageSample (mv : Nat)
  /-- LASER_POWER_SAMPLE (R385). -/
  | laserPowerSample (n : Chan) (reading : Nat)
  /-- HEATER_SAMPLE (R385). -/
  | heaterSample (n : Chan) (reported : Nat)
  /-- SEARCH_START (R420). -/
  | searchStart (x : Act)
  /-- SEARCH_EXPIRY (R420). -/
  | searchExpiry (x : Act)
  /-- FOLLOWING_ERROR (R407). -/
  | followingError (loop : Nat)
  /-- OUTPUT_SATURATION (R409). -/
  | outputSaturation (loop : Nat)
  /-- LOOP_OVERRUN (R410). -/
  | loopOverrun (loop : Nat)
  /-- SAFE_LAW_EXIT (R412). -/
  | safeLawExit (x : Act)
  /-- LPE_COPY_MISMATCH (R423). -/
  | lpeCopyMismatch (loop : Nat) (checkerBad : Bool)
  /-- SIMPLEX_RESIDUE_FAILURE (R424). -/
  | simplexResidueFailure
  /-- READMIT (R425). -/
  | readmit
  /-- READMIT_TEST_DONE (R425). -/
  | readmitTestDone (pass : Bool)
  /-- BANK_SWAP (R429). -/
  | bankSwap (g : Nat)
  /-- COEFDATA_ACCESS (R429). -/
  | coefdataAccess (i : Initiator) (write : Bool) (v : Word)
  /-- RETRACT_DONE (R422). -/
  | retractDone (x : Act)
  /-- VCM_OVERCURRENT (R432). -/
  | vcmOvercurrent (x : Act)
  /-- VCM_OPEN_COIL (R432). -/
  | vcmOpenCoil (x : Act)
  /-- UACT_OVERCURRENT (R432). -/
  | uactOvercurrent (k : Nat)
  /-- BEMF_CROSSING (R443). -/
  | bemfCrossing (place amp : Nat) (handoff : Bool)
  /-- BEMF_LOSS (R445). -/
  | bemfLoss
  /-- BEMF_COAST_TIMEOUT (R447). -/
  | bemfCoastTimeout
  /-- START_DECISION (R457). -/
  | startDecision
  /-- SENSE_TIMEOUT (R457). -/
  | senseTimeout (amp : Nat)
  /-- PROBE_COMPLETE (R460). -/
  | probeComplete (peaks : List Nat)
  /-- HANDOFF_TIMEOUT (R461). -/
  | handoffTimeout
  /-- KE_MEASUREMENT_START (R462). -/
  | keMeasurementStart
  /-- KE_MEASUREMENT_DONE (R463). -/
  | keMeasurementDone (ke : Nat)
  /-- KEREQ (R462). -/
  | kereq
  /-- KENOM_WRITE (R464). -/
  | kenomWrite (v : Word)
  /-- RUN_SET (R456). -/
  | runSet
  /-- RUN_CLEAR (R465). -/
  | runClear
  /-- SHORT_BRAKE_WINDOW (R466). -/
  | shortBrakeWindow (amp : Nat)
  /-- STOP_TIMEOUT (R467). -/
  | stopTimeout
  /-- SPINDLE_OVERCURRENT (R471). -/
  | spindleOvercurrent
  /-- SPINDLE_OC_PAUSE_END (R471). -/
  | spindleOcPauseEnd
  /-- OV2_BRAKE_END (R468). -/
  | ov2BrakeEnd
  /-- SPDCMD_INVALID (R453). -/
  | spdcmdInvalid
  /-- VIN_UVW_FALL (R485). -/
  | vinUvwFall (vin : Nat)
  /-- VIN_UVW_RELEASE (R486). -/
  | vinUvwRelease (vin : Nat)
  /-- DIP_TIMER_EXPIRY (R487). -/
  | dipTimerExpiry
  /-- VIN_PLD_FALL (R488). -/
  | vinPldFall (vin : Nat)
  /-- LOWV_SET (R489). -/
  | lowvSet (vin : Nat)
  /-- LOWV_CLEAR (R489). -/
  | lowvClear (vin : Nat)
  /-- OV1 (R501). -/
  | ov1 (vin : Nat)
  /-- OV2 (R506). -/
  | ov2 (vin : Nat)
  /-- OV3 (R506). -/
  | ov3 (vin : Nat)
  /-- OV_RELEASE (R506). -/
  | ovRelease (level vin : Nat)
  /-- CHOP_OPEN (R503). -/
  | chopOpen
  /-- CHOP_STUCK (R504). -/
  | chopStuck
  /-- CHOPREL (R505). -/
  | choprel
  /-- PRERAIL_FAULT (R479). -/
  | prerailFault
  /-- PREEN_WRITE (R479). -/
  | preenWrite
  /-- VCORE_PHASE_DROP (R480). -/
  | vcorePhaseDrop (phase : Nat)
  /-- VCORE_CURRENT_LIMIT (R481). -/
  | vcoreCurrentLimit
  /-- VCORE_CURRENT_LIMIT_END (R481). -/
  | vcoreCurrentLimitEnd
  /-- RETRACT_ENTRY (R492). -/
  | retractEntry
  /-- RETRACT_END_WRITE (R494). -/
  | retractEndWrite
  /-- RETRACT_DONE_WRITE (R494). -/
  | retractDoneWrite
  /-- MEDIA_PHASE_END (R494). -/
  | mediaPhaseEnd
  /-- BRAKE_PHASE (R494). -/
  | brakePhase (late : Bool)
  /-- BRAKE_BOR_EXIT (R499). -/
  | brakeBorExit (straps : Straps) (memOk : Bool) (vin : Nat)
  /-- THM_SAMPLE (R509). -/
  | thmSample (ts : List (Option Int)) (therm pre : Option Int)
  /-- TJ_WARN (R516). -/
  | tjWarn
  /-- TJ_SHUT (R521). -/
  | tjShut (sensor : Nat) (peak : Int)
  /-- THERMAL_RESET (R522). -/
  | thermalReset (f : FlashId) (pairs : BitVec 4)
  /-- POR (R760). -/
  | por (p : Straps) (memOk : Bool)
  /-- BOR (R484). -/
  | bor
  /-- PIN_RESET (R760). -/
  | pinReset
  /-- PIN_RESET_RELEASE (R761). -/
  | pinResetRelease (p : Straps) (memOk : Bool)
  /-- WARM_RESET (R760). -/
  | warmReset (src : Nat) (pairs : BitVec 4) (verified : Bool)
  /-- ACTUATOR_RESET (R762). -/
  | actuatorReset (x : Act) (svc : Bool)
  /-- SECURE_BOOT (R618). -/
  | secureBoot (root ent : Bool) (first second : BootTry) (prot : List (Nat × Nat)) (sasA sasB : BitVec 64)
  /-- DRAM_TRAINING_DONE (R531). -/
  | dramTrainingDone
  /-- DRAM_TRAINING_TIMEOUT (R531). -/
  | dramTrainingTimeout
  /-- RANK_RETRAIN (R532). -/
  | rankRetrain (rank : Nat)
  /-- RANK_RETRAIN_DONE (R532). -/
  | rankRetrainDone (rank : Nat)
  /-- DRAM_TEMPERATURE_POLL (R533). -/
  | dramTemperaturePoll (hot : Bool)
  /-- REFRESH_WATCHDOG (R534). -/
  | refreshWatchdog
  /-- ZERO_FILL (R544). -/
  | zeroFill
  /-- ZERO_FILL_DONE (R544). -/
  | zeroFillDone
  /-- CORRECTION_TRACK (R548). -/
  | correctionTrack
  /-- TRACKER_ENTRY_FREE (R551). -/
  | trackerEntryFree
  /-- SCRUB_GRANULE (R552). -/
  | scrubGranule (granule : Nat)
  /-- BUFFER_RESERVATION_GRANT (R560). -/
  | bufferReservationGrant
  /-- BUF_POOL_WRITE (R561). -/
  | bufPoolWrite (v : Word)
  /-- SEGMENT_RELEASE (R562). -/
  | segmentRelease (seg : Nat)
  /-- GETINFO (R613). -/
  | getinfo
  /-- KEYGEN (R578). -/
  | keygen (flash : Bool)
  /-- KEYLOAD (R578). -/
  | keyload (flash : Bool)
  /-- KEYWRAP (R613). -/
  | keywrap
  /-- KEYERASE (R584). -/
  | keyerase
  /-- RANDOM (R613). -/
  | random
  /-- IMGVERIFY (R621). -/
  | imgverify (sigs : Bool) (patch : Option PatchImg)
  /-- PATCHLOAD (R264). -/
  | patchload
  /-- ROLLBACK (R620). -/
  | rollback (flash : Bool)
  /-- MEASURE (R623). -/
  | measure
  /-- SIGN (R622). -/
  | sign
  /-- SESSKEY (R603). -/
  | sesskey
  /-- DBGCHAL (R626). -/
  | dbgchal
  /-- DBGRESP (R626). -/
  | dbgresp (ok : Bool)
  /-- MAILBOX_TIMEOUT (R611). -/
  | mailboxTimeout
  /-- HEARTWOOD_RESET (R612). -/
  | heartwoodReset (root ent : Bool)
  /-- DEBUG_NONCE_LAPSE (R626). -/
  | debugNonceLapse
  /-- ENTROPY_HEALTH_FAILURE (R573). -/
  | entropyHealthFailure
  /-- MASK_DRBG_RESEED (R574). -/
  | maskDrbgReseed
  /-- KEY_ACTIVATION (R578). -/
  | keyActivation (sys : Bool) (index : Nat)
  /-- ERASE_COMPLETE (R586). -/
  | eraseComplete (sys : Bool) (index : Nat)
  /-- LRDATA_ACCESS (R589). -/
  | lrdataAccess (i : Initiator) (write : Bool) (v : Word)
  /-- GCM_ENCRYPT (R598). -/
  | gcmEncrypt
  /-- GCM_DECRYPT (R604). -/
  | gcmDecrypt
  /-- GMAC_GENERATE (R598). -/
  | gmacGenerate
  /-- GMAC_VERIFY (R598). -/
  | gmacVerify
  /-- COUNTER_RESERVATION (R601). -/
  | counterReservation (index : Nat) (ok : Bool)
  /-- COMMAND_ADMISSION (R641). -/
  | commandAdmission (c : HostCmd)
  /-- CTX_OPEN (R642). -/
  | ctxOpen
  /-- CTX_ADMIT (R642). -/
  | ctxAdmit (n : Nat)
  /-- CTX_QUEUEA (R642). -/
  | ctxQueuea (n : Nat)
  /-- CTX_QUEUEB (R642). -/
  | ctxQueueb (n : Nat)
  /-- CTX_CACHE (R642). -/
  | ctxCache (n : Nat)
  /-- CTX_ZERO (R642). -/
  | ctxZero (n : Nat)
  /-- CTX_END (R642). -/
  | ctxEnd (n : Nat) (status : BitVec 8)
  /-- CCX_POP (R661). -/
  | ccxPop (i : Initiator) (q : Nat)
  /-- CONTEXT_COMPLETE (R643). -/
  | contextComplete (n : Nat)
  /-- CONTEXT_TIMEOUT (R646). -/
  | contextTimeout (n : Nat)
  /-- HOST_ABORT (R647). -/
  | hostAbort (port unit tag : Option Nat) (tmf : Bool)
  /-- SAS_HARD_RESET (R651). -/
  | sasHardReset (portB : Bool)
  /-- PERST (R651). -/
  | perst
  /-- FUNCTION_LEVEL_RESET (R651). -/
  | functionLevelReset (flr : Bool)
  /-- CSTS_RDY (R636). -/
  | cstsRdy
  /-- RECOVERY_DOWNLOAD_COMMIT (R655). -/
  | recoveryDownloadCommit (n : Nat) (pass : Bool) (img : Download) (p : Straps) (memOk : Bool)
  /-- MGT_WRITE (R656). -/
  | mgtWrite (ofs : BitVec 8)
  /-- MGT_READ (R657). -/
  | mgtRead (len : Nat)
  /-- PAIR_DROPOUT (R667). -/
  | pairDropout (core p1 : Bool) (pairs : BitVec 4) (verified : Bool)
  /-- PAIR_READMIT (R670). -/
  | pairReadmit (core : Bool)
  /-- PAIR_READMIT_DONE (R670). -/
  | pairReadmitDone (core pass : Bool)
  /-- WATCHDOG_KICK (R672). -/
  | watchdogKick (i : Initiator) (v : Word)
  /-- WATCHDOG_ENABLE (R673). -/
  | watchdogEnable (core : Bool)
  /-- WATCHDOG_EXPIRY (R674). -/
  | watchdogExpiry (core : Bool) (pairs : BitVec 4) (verified : Bool)
  /-- INTERRUPT_CAUSE_LATCH (R677). -/
  | interruptCauseLatch (core : Bool)
  /-- CAUSE_READ_CLEAR (R802). -/
  | causeReadClear (i : Initiator) (core : Bool)
  /-- COUNTDOWN_TIMER_START (R678). -/
  | countdownTimerStart (core : Bool) (v : BitVec 24)
  /-- COUNTDOWN_TIMER_EXPIRY (R678). -/
  | countdownTimerExpiry (core : Bool)
  /-- MCMO (R666). -/
  | mcmo (core : Bool) (v : BitVec 64)
  /-- ROMINFO (R681). -/
  | rominfo (core : Bool)
  /-- XSPREAD (R681). -/
  | xspread (core : Bool) (ofs dst n : Nat)
  /-- ZEROFILL (R681). -/
  | zerofill (core : Bool) (ofs granules : Nat)
  /-- MBOXCALL (R681). -/
  | mboxcall (core : Bool) (code : Nat) (req : List Word)
  /-- XSP_READ (R687). -/
  | xspRead
  /-- XSP_PROGRAM (R687). -/
  | xspProgram (fail : Option Nat)
  /-- XSP_ERASE4K (R687). -/
  | xspErase4k (fail : Bool)
  /-- XSP_ERASE64K (R687). -/
  | xspErase64k (fail : Bool)
  /-- XSP_STATUS (R687). -/
  | xspStatus (dev : BitVec 8)
  /-- XSP_OPERATION_END (R688). -/
  | xspOperationEnd
  /-- XSP_TIMEOUT (R688). -/
  | xspTimeout (units : Nat) (f : FlashId)
  /-- UART_TRANSMIT (R693). -/
  | uartTransmit (v : BitVec 8)
  /-- UART_RECEIVE_READ (R693). -/
  | uartReceiveRead (i : Initiator)
  /-- UART_BYTE_RECEIVED (R693). -/
  | uartByteReceived (v : BitVec 8) (framing : Bool)
  /-- TRACE_RECORD (R694). -/
  | traceRecord (src : BitVec 2) (kind : BitVec 4) (info : BitVec 16) (a1 a2 : Word) (lost : Bool)
  /-- VALE_SLOT_TRANSMIT (R706). -/
  | valeSlotTransmit
  /-- BEACON (R712). -/
  | beacon (rx : ValeRx) (ref : Word) (refOk hand : Bool) (slot : BitVec 6) (tokvalid : Bool) (budget : BitVec 9) (cap : Word)
  /-- STATUS (R717). -/
  | status (rx : ValeRx) (elig tokreq tokhold inreg retract : Bool)
  /-- SEEK_ANNOUNCEMENT (R723). -/
  | seekAnnouncement (rx : ValeRx) (start : Word) (cls : BitVec 2) (dir act : Bool)
  /-- SYNC (R704). -/
  | sync (sender : BitVec 6) (high : BitVec 56) (macTx macAlt : Bool)
  /-- CANOPY_ELECTION (R708). -/
  | canopyElection
  /-- BEACON_LOSS (R724). -/
  | beaconLoss
  /-- CANOPY_HANDOVER (R710). -/
  | canopyHandover
  /-- TOKEN_TIMEOUT (R718). -/
  | tokenTimeout (slot : BitVec 6)
  /-- STAGGER_EXPIRY (R716). -/
  | staggerExpiry
  /-- VALE_KEY_WRITE (R705). -/
  | valeKeyWrite (v : Word)
  /-- VALE_JOIN (R724). -/
  | valeJoin
  /-- VALE_CLRCTR (R725). -/
  | valeClrctr
  /-- RINGBOOK_FOLD (R741). -/
  | ringbookFold
  /-- FWEV_WRITE (R737). -/
  | fwevWrite (v : Word)
  /-- RBK_SNAP (R732). -/
  | rbkSnap
  /-- RBK_SNAP_DONE (R732). -/
  | rbkSnapDone
  /-- RBK_FLUSH (R743). -/
  | rbkFlush (period : Bool)
  /-- RBK_FLUSH_DONE (R742). -/
  | rbkFlushDone (ok : Bool) (regions : BitVec 6)
  /-- RBK_WINDOW_WRITE (R729). -/
  | rbkWindowWrite (addr : Nat) (v : Word)
  /-- MODE_REQ_SPLIT (R754). -/
  | modeReqSplit (x : Act)
  /-- MODE_REQ_SELFWRITE (R754). -/
  | modeReqSelfwrite
  /-- MODE_REQ_LEAVE (R754). -/
  | modeReqLeave
  /-- FIRMWARE_SWITCH (R770). -/
  | firmwareSwitch (hash : Bool)
  /-- ANGLE_WRAP (R82). -/
  | angleWrap
  /-- VCM_OC_PAUSE_END (R432). -/
  | vcmOcPauseEnd (x : Act)
  /-- BOOST_OUT_OF_REGULATION (R434). -/
  | boostOutOfRegulation
  /-- MEDIA_BUS_EXCURSION (R495). -/
  | mediaBusExcursion (vin : Nat)
  /-- MEDIA_BUS_SETTLED (R495). -/
  | mediaBusSettled (vin : Nat)
  /-- BOR_RELEASE (R800). -/
  | borRelease (p : Straps) (memOk : Bool)
  /-- ACTIVE_IDLE_TIMEOUT (R749). -/
  | activeIdleTimeout
  /-- HOST_DATA_TRANSFER (R558). -/
  | hostDataTransfer (n : Nat) (second : Bool) (data pi : List (BitVec 64))
  /-- HOST_LINK_CHANGE (R658). -/
  | hostLinkChange (link rate width : Nat) (reset : Bool)
  /-- PHY_PLL_LOCK_LOSS (R658). -/
  | phyPllLockLoss
  /-- CONTROLLER_ENABLE (R636). -/
  | controllerEnable
  /-- PREAMP_FAULT_CLEAR (R329). -/
  | preampFaultClear (x : Act)
  /-- UART_BYTE_SENT (R697). -/
  | uartByteSent
  /-- RINGBOOK_PERIODIC_SAMPLE (R733). -/
  | ringbookPeriodicSample (second : Bool)
  /-- DEBUG_HALT (R696). -/
  | debugHalt (core halt : Bool)
deriving DecidableEq, Repr

end Sys2Proof
end

