-- ==== Sys2Proof/Decode.lean ====
section
/-!
DEFINITION. Reading a command from a word. The table of operations and events gives its rows no bits; the two kinds of word that the spec
encodes are the instructions of a track program (R129, R131, R132, R142) and the microwords (R236, R239).
-/
namespace Sys2Proof

/-- The field of `len` bits from bit `lo` of a word. -/
def wordBits (w lo len : Nat) : BitVec len := BitVec.ofNat len (w / 2 ^ lo)

/-- The fields of format R (R129, R131). -/
def fmtROf (w : Nat) : FmtR :=
  { g := w.testBit 55, n := w.testBit 54, p := wordBits w 52 2, rd := wordBits w 46 6, rs1 := wordBits w 40 6, rs2 := wordBits w 34 6,
    i := w.testBit 33, z := w.testBit 32, imm := wordBits w 0 32 }

/-- The fields of format Q (R129, R132). -/
def fmtQOf (w : Nat) : FmtQ :=
  { g := w.testBit 55, n := w.testBit 54, p := wordBits w 52 2, aq := wordBits w 50 2, qop := wordBits w 24 26, ops := wordBits w 0 24 }

/-- The instruction of a 64-bit word of a track program on an actuator's sequencer, by its opcode (R129, R142); none for an opcode that
is not defined. -/
def decodeTrackWord (x : Act) (w : Nat) : Option Instr :=
  match (wordBits w 56 8).toNat with
  | 0x00 => some (.nop x (fmtROf w))
  | 0x01 => some (.br x (fmtROf w))
  | 0x02 => some (.brc x (fmtROf w))
  | 0x03 => some (.call x (fmtROf w))
  | 0x04 => some (.ret x (fmtROf w))
  | 0x05 => some (.halt x (fmtROf w))
  | 0x06 => some (.waita x (fmtQOf w))
  | 0x07 => some (.waite x (fmtROf w))
  | 0x08 => some (.yield x (fmtROf w))
  | 0x20 => some (.ldi x (fmtROf w))
  | 0x21 => some (.mov x (fmtROf w))
  | 0x22 => some (.add x (fmtROf w))
  | 0x23 => some (.sub x (fmtROf w))
  | 0x24 => some (.and x (fmtROf w))
  | 0x25 => some (.or x (fmtROf w))
  | 0x26 => some (.xor x (fmtROf w))
  | 0x27 => some (.shl x (fmtROf w))
  | 0x28 => some (.shr x (fmtROf w))
  | 0x29 => some (.cmp x (fmtROf w))
  | 0x40 => some (.seek x (fmtQOf w))
  | 0x41 => some (.follow x (fmtQOf w))
  | 0x42 => some (.offset x (fmtQOf w))
  | 0x43 => some (.headsel x (fmtQOf w))
  | 0x44 => some (.loadh x (fmtQOf w))
  | 0x45 => some (.unloadh x (fmtQOf w))
  | 0x60 => some (.read x (fmtQOf w))
  | 0x61 => some (.write x (fmtQOf w))
  | 0x62 => some (.verify x (fmtQOf w))
  | 0x63 => some (.scan x (fmtQOf w))
  | 0x64 => some (.eraseb x (fmtQOf w))
  | 0x80 => some (.assist x (fmtROf w))
  | 0x81 => some (.heat x (fmtROf w))
  | 0x82 => some (.preheat x (fmtROf w))
  | 0xA0 => some (.bind x (fmtROf w))
  | 0xA1 => some (.badv x (fmtROf w))
  | 0xA2 => some (.tag x (fmtROf w))
  | 0xA3 => some (.post x (fmtROf w))
  | 0xC0 => some (.commit x (fmtROf w))
  | 0xC1 => some (.fence x (fmtROf w))
  | 0xC2 => some (.chkpt x (fmtROf w))
  | 0xE0 => some (.ext x (fmtROf w))
  | 0xE1 => some (.rdreg x (fmtROf w))
  | 0xE2 => some (.wrreg x (fmtROf w))
  | _ => none

/-- The operands of format M (R236). -/
def fmtMOf (w : Nat) : FmtM := { d := wordBits w 19 7, a := wordBits w 12 7, b := wordBits w 5 7 }

/-- The micro-op of a 32-bit microword on an actuator's sequencer (R236, R239). -/
def decodeMicroWord (x : Act) (w : Nat) : Option Instr :=
  match (wordBits w 26 6).toNat with
  | 0x00 => some (.uopNop x)
  | 0x01 => some (.uopBr x (wordBits w 0 15))
  | 0x02 => some (.uopBrc x (wordBits w 22 4) (wordBits w 0 15))
  | 0x03 => some (.uopCall x (wordBits w 0 15))
  | 0x04 => some (.uopRet x)
  | 0x05 => some (.uopDisp x)
  | 0x06 => some (.uopExtd x)
  | 0x07 => some (.uopYield x)
  | 0x08 => some (.uopCommit x)
  | 0x09 => some (.uopTrap x (wordBits w 0 19))
  | 0x0A => some (.uopWait x (wordBits w 0 19))
  | 0x0B => some (.uopTestev x (wordBits w 0 19))
  | 0x0C => some (.uopArm x (fmtMOf w))
  | 0x0D => some (.uopDisarm x (fmtMOf w))
  | 0x0E => some (.uopSetflg x (wordBits w 0 19))
  | 0x0F => some (.uopClrflg x (wordBits w 0 19))
  | 0x10 => some (.uopAdd x (fmtMOf w))
  | 0x11 => some (.uopSub x (fmtMOf w))
  | 0x12 => some (.uopAnd x (fmtMOf w))
  | 0x13 => some (.uopOr x (fmtMOf w))
  | 0x14 => some (.uopXor x (fmtMOf w))
  | 0x15 => some (.uopShl x (fmtMOf w))
  | 0x16 => some (.uopShr x (fmtMOf w))
  | 0x17 => some (.uopSar x (fmtMOf w))
  | 0x18 => some (.uopAddi x (wordBits w 19 7) (wordBits w 0 19))
  | 0x19 => some (.uopLdi x (wordBits w 19 7) (wordBits w 0 19))
  | 0x1A => some (.uopLui x (wordBits w 19 7) (wordBits w 0 19))
  | 0x1B => some (.uopMov x (fmtMOf w))
  | 0x1C => some (.uopCmp x (fmtMOf w))
  | 0x1D => some (.uopMin x (fmtMOf w))
  | 0x1E => some (.uopMax x (fmtMOf w))
  | 0x1F => some (.uopMul x (fmtMOf w))
  | 0x20 => some (.uopLds x (fmtMOf w))
  | 0x21 => some (.uopSts x (fmtMOf w))
  | 0x22 => some (.uopLdz x (fmtMOf w))
  | 0x23 => some (.uopLdpt x (fmtMOf w))
  | 0x24 => some (.uopRdr x (fmtMOf w))
  | 0x25 => some (.uopWrr x (fmtMOf w))
  | 0x26 => some (.uopSel x (fmtMOf w))
  | 0x27 => some (.uopBitx x (fmtMOf w))
  | 0x28 => some (.uopChset x (fmtMOf w))
  | 0x29 => some (.uopChgo x (fmtMOf w))
  | 0x2A => some (.uopChwt x (fmtMOf w))
  | 0x2B => some (.uopGatew x (fmtMOf w))
  | 0x2C => some (.uopGatel x (fmtMOf w))
  | 0x2D => some (.uopGatee x (fmtMOf w))
  | 0x2E => some (.uopTagld x (fmtMOf w))
  | 0x2F => some (.uopBufa x (fmtMOf w))
  | 0x30 => some (.uopLpcmd x (fmtMOf w))
  | 0x31 => some (.uopLpwt x (fmtMOf w))
  | 0x32 => some (.uopHdsel x (fmtMOf w))
  | 0x33 => some (.uopPlkw x (fmtMOf w))
  | 0x34 => some (.uopPlkr x (fmtMOf w))
  | 0x35 => some (.uopHtr x (fmtMOf w))
  | 0x36 => some (.uopAsst x (fmtMOf w))
  | 0x37 => some (.uopWglim x (fmtMOf w))
  | 0x38 => some (.uopCtxb x (fmtMOf w))
  | 0x39 => some (.uopCtxp x (fmtMOf w))
  | 0x3A => some (.uopKeysel x (fmtMOf w))
  | 0x3B => some (.uopBclk x (fmtMOf w))
  | 0x3C => some (.uopCkwr x)
  | 0x3D => some (.uopTick x (fmtMOf w))
  | 0x3E => some (.uopRbks x (fmtMOf w))
  | 0x3F => some (.uopHalts x)
  | _ => none

/-- The command that a word of nbits bits spells: an instruction word or a microword of actuator A's sequencer (log 17). No row of the
table has bits of its own: every other command comes with its operands, not as a word. -/
def decodeTableWord (nbits w : Nat) : Option Instr :=
  if nbits = 64 then decodeTrackWord .a w else if nbits = 32 then decodeMicroWord .a w else none

end Sys2Proof
end

