-- ==== Sys2Proof/Machine/Bits.lean ====
section
/-!
DEFINITION. Bit fields of words, sign extension, saturation and byte order.
-/
namespace Sys2Proof.Machine

/-- The field of `len` bits from bit `lo` of a number. -/
def nbits (v lo len : Nat) : Nat := (v / 2 ^ lo) % 2 ^ len

/-- A number with its field of `len` bits from bit `lo` set to `x` (its low `len` bits). -/
def nput (v lo len x : Nat) : Nat :=
  v - nbits v lo len * 2 ^ lo + (x % 2 ^ len) * 2 ^ lo

/-- A bit of a number. -/
def nbit (v i : Nat) : Bool := v.testBit i

/-- The field of a word. -/
def wfield (w : Word) (lo len : Nat) : Nat := nbits w.toNat lo len

/-- A word with a field set. -/
def wput (w : Word) (lo len x : Nat) : Word := BitVec.ofNat 32 (nput w.toNat lo len x)

/-- A bit as a number. -/
def b2n (b : Bool) : Nat := if b then 1 else 0

/-- The number of a field of `len` bits read as two's complement. -/
def sgn (len v : Nat) : Int := if v % 2 ^ len < 2 ^ (len - 1) then ((v % 2 ^ len : Nat) : Int) else ((v % 2 ^ len : Nat) : Int) - ((2 ^ len : Nat) : Int)

/-- A two's complement field of `len` bits that holds an integer. -/
def unsgn (len : Nat) (x : Int) : Nat := (x % ((2 ^ len : Nat) : Int)).toNat

/-- An integer held to the range of a bound. -/
def clampI (lo hi x : Int) : Int := if x < lo then lo else if hi < x then hi else x

/-- A number held to a range (the nearer bound outside it). -/
def clampN (lo hi x : Nat) : Nat := if x < lo then lo else if hi < x then hi else x

/-- A count increased by n that saturates at the greatest value of its field. -/
def satAdd (len v n : Nat) : Nat := if v + n < 2 ^ len then v + n else 2 ^ len - 1

/-- The bits of w under a mask replaced by those of v. -/
def merge (w v mask : Word) : Word := (w &&& ~~~mask) ||| (v &&& mask)

/-- The masked write of R61: the low 16 bits take the written value where the bit 16 above is 1; under GEN7 the high
half is ignored and the low half written as given (R774). -/
def mrwWrite (gen7 : Bool) (w v : Word) : Word :=
  if gen7 then v &&& 0xFFFF#32
  else merge w v ((v >>> 16) &&& 0xFFFF#32) &&& 0xFFFF#32

/-- Little-endian bytes of a number. -/
def leBytes : Nat → Nat → List Byte
  | 0, _ => []
  | n + 1, v => BitVec.ofNat 8 v :: leBytes n (v / 256)

/-- The number that little-endian bytes spell. -/
def leNat : List Byte → Nat
  | [] => 0
  | b :: t => b.toNat + 256 * leNat t

/-- The count of ones among the low n bits. -/
def popcount (n v : Nat) : Nat := ((List.range n).filter (fun i => v.testBit i)).length

/-- One bit of a CRC-32 (R274), the polynomial 0x04C1_1DB7 taken least significant bit first as IEEE 802.3 sends bytes. -/
def crcBit (c : BitVec 32) : BitVec 32 := if c.getLsbD 0 then (c >>> 1) ^^^ 0xEDB88320#32 else c >>> 1

/-- A byte into a CRC-32. -/
def crcByte (c : BitVec 32) (b : Byte) : BitVec 32 :=
  (List.range 8).foldl (fun r _ => crcBit r) (c ^^^ b.zeroExtend 32)

/-- CRC-32 of bytes (R274). -/
def crc32 (l : List Byte) : BitVec 32 := ~~~(l.foldl crcByte 0xFFFFFFFF#32)

end Sys2Proof.Machine
end

