-- ==== Sys2Proof/Machine/Sparse.lean ====
section
/-!
DEFINITION. Sparse maps in one canonical form: a list of (key, value) pairs, keys strictly rising, no entry equal to what
an unlisted key reads as. `d k` is what the unlisted key k reads as. Registers, memories and tables are held so.
-/
namespace Sys2Proof.Machine

/-- The value at a key. -/
def mget {α : Type} (d : Nat → α) : List (Nat × α) → Nat → α
  | [], k => d k
  | (j, v) :: t, k => if j = k then v else mget d t k

/-- The entry of a key set to a value that is listed, in key order. -/
def mput {α : Type} : List (Nat × α) → Nat → α → List (Nat × α)
  | [], k, v => [(k, v)]
  | (j, w) :: t, k, v =>
    if j < k then (j, w) :: mput t k v
    else if j = k then (k, v) :: t
    else (k, v) :: (j, w) :: t

/-- The entry of a key removed. -/
def mdel {α : Type} : List (Nat × α) → Nat → List (Nat × α)
  | [], _ => []
  | (j, w) :: t, k => if j = k then mdel t k else (j, w) :: mdel t k

/-- A key set to a value: a value equal to the unlisted one removes the entry. -/
def mset {α : Type} [DecidableEq α] (d : Nat → α) (m : List (Nat × α)) (k : Nat) (v : α) : List (Nat × α) :=
  if v = d k then mdel m k else mput m k v

/-- Every entry replaced by f of it, the entries that become unlisted values removed. -/
def mmap {α : Type} [DecidableEq α] (d : Nat → α) (f : Nat → α → α) : List (Nat × α) → List (Nat × α)
  | [] => []
  | (j, w) :: t => if f j w = d j then mmap d f t else (j, f j w) :: mmap d f t

/-- A listed entry, for maps whose unlisted keys hold nothing. -/
def mfind {α : Type} : List (Nat × α) → Nat → Option α
  | [], _ => none
  | (j, v) :: t, k => if j = k then some v else mfind t k

/-- The keys rise strictly from a bound. -/
def mrising {α : Type} : Nat → List (Nat × α) → Bool
  | _, [] => true
  | b, (j, _) :: t => decide (b ≤ j) && mrising (j + 1) t

/-- No entry equals what an unlisted key reads as. -/
def mlean {α : Type} [DecidableEq α] (d : Nat → α) : List (Nat × α) → Bool
  | [] => true
  | (j, v) :: t => decide (v ≠ d j) && mlean d t

/-- The canonical form. -/
def mwf {α : Type} [DecidableEq α] (d : Nat → α) (m : List (Nat × α)) : Bool :=
  mrising 0 m && mlean d m

end Sys2Proof.Machine
end

