-- ==== Sys2Proof/Config.lean ====
section
/-!
DEFINITION. What the spec leaves open (free values, constants with no body) and what an implementation fixes. Nothing can be
proved of the value of a free constant.
-/
namespace Sys2Proof

/-- The n-th free value: a fresh value each time the counter of State is applied to it. -/
opaque Config.freeValue : Nat → BitVec 64

/-- The vendor microcode in ROM (R232): the spec gives no words. -/
opaque Config.romWord : Nat → Word

/-- The ROM address in the default dispatch entry of an opcode of R142 (R249): the spec gives no addresses. -/
opaque Config.romEntry : Nat → BitVec 14

/-- The boot ROM's release, which GETINFO and ROMINFO return (R613, R681): the spec gives no number. -/
opaque Config.bootRomRelease : Word

/-- A word of general SRAM that hardware reads as a table and that nothing has written since its content was lost, or that is
uncorrectable (R540): its content is undefined. -/
opaque Config.lostWord : Nat → Word

/-- A byte of the output of AES-256 in counter mode under a key and a 96-bit IV (R597 to R607): the cipher itself is the standard's
(log 40). -/
opaque Config.gcmCrypt : BitVec 256 → BitVec 96 → List Byte → Nat → Byte

/-- A byte of the GCM tag over additional data and ciphertext (log 40). -/
opaque Config.gcmTag : BitVec 256 → BitVec 96 → List Byte → List Byte → Nat → Byte

/-- A word of the wrapped blob of a slot's key under MKEK or SKEK and a salt (R575, R576, log 40). -/
opaque Config.keyWrap : Bool → List Word → BitVec 512 → Word → Nat → Word

/-- The key and fixed field that a blob unwraps to, none when its check value or type word fails (R576, log 40). -/
opaque Config.keyUnwrap : Bool → List Word → List Word → Option (BitVec 512 × Word)

/-- The identifier of a system key's counter record (R602, log 40). -/
opaque Config.keyId : BitVec 512 → Nat

/-- A cryptographic result that Heartwood returns: the service code, the request words, the response word (log 40). -/
opaque Config.hwdWord : Nat → List Word → Nat → Word

/-- A byte of the flash as it stands at the first power-on: what manufacture and earlier life left there (R685, log 6). -/
opaque Config.flashByte : Nat → Byte

/-- A byte of a data unit through AES-256-XTS (R592): enciphering or not, the keys, the tweak; the cipher itself is the standard's
(log 40). -/
opaque Config.xtsCrypt : Bool → BitVec 512 → BitVec 128 → List Byte → Nat → Byte

/-- A bit of the LDPC parity of an information block at a RATE (R275): the code's matrix is not stated (log 92). -/
opaque Config.ldpcParity : Nat → List Bool → Nat → Bool

/-- The version and the manufacturer of the JTAG IDCODE (R782), which the spec does not give. -/
opaque Config.idcodeVersion : BitVec 4
opaque Config.idcodeMaker : BitVec 11

/-- The greatest rectified torque current, in the units of R387, at a speed in 1/4 rpm that keeps the deceleration of RETRACT within
R107's rate (R496): the spec gives neither the rotor's inertia nor the arithmetic. -/
opaque Config.rectLimit : Nat → Nat

/-- A coefficient word of group 2 as its ROM default gives it (R428): the spec gives no values. -/
opaque Config.coefRom : Nat → Word

end Sys2Proof
end

