-- ==== Sys2Proof/Machine/Names.lean ====
section
/-!
DEFINITION. The addresses of the registers (Reg) and the places of their fields (Fld), from the register lists and
field tables of spec/ (R22, R23). A per-actuator register takes its actuator, a per-channel one its channel, a
numbered one its index.
-/
namespace Sys2Proof.Machine

def Reg.SYS_D2DSTAT : Nat := 0x80000060
def Reg.SYS_D2DCNT : Nat := 0x80000064
def Reg.SYS_D2DREL : Nat := 0x80000068
def Reg.SYS_BUSERR : Nat := 0x80000040
def Reg.SYS_BUSADDR : Nat := 0x80000044
def Reg.ANG_EVT : Nat := 0x80030000
def Reg.ANG_EVTEN : Nat := 0x80030004
def Reg.ANG_STAT : Nat := 0x80030008
def Reg.ANG_CFG : Nat := 0x80030020
def Reg.ANG_SLIPLIM : Nat := 0x80030024
def Reg.ANG_SAMLAT : Nat := 0x80030028
def Reg.ANG_NOW : Nat := 0x80030030
def Reg.ANG_NOWH : Nat := 0x80030034
def Reg.ANG_SPEED : Nat := 0x80030038
def Reg.ANG_LASTERR : Nat := 0x8003003C
def Reg.ANG_SLIPCNT : Nat := 0x80030040
def Reg.ANG_REFERR : Nat := 0x80030044
def Reg.ANG_CMPARMA0 : Nat := 0x80030050
def Reg.ANG_CMPARMA1 : Nat := 0x80030054
def Reg.ANG_CMPARMB0 : Nat := 0x80030058
def Reg.ANG_CMPARMB1 : Nat := 0x8003005C
def Reg.ANG_BPR (k : Nat) : Nat := 0x80030060 + 4 * k
def Reg.ANG_WPO (k : Nat) : Nat := 0x80030100 + 4 * k
def Reg.MSQ_EVT (x : Act) : Nat := 0x80040000 + 0x10000 * x.idx
def Reg.MSQ_EVTEN (x : Act) : Nat := 0x80040004 + 0x10000 * x.idx
def Reg.MSQ_STAT (x : Act) : Nat := 0x80040008 + 0x10000 * x.idx
def Reg.MSQ_CTL (x : Act) : Nat := 0x80040020 + 0x10000 * x.idx
def Reg.MSQ_CFG (x : Act) : Nat := 0x80040024 + 0x10000 * x.idx
def Reg.MSQ_TMO (x : Act) : Nat := 0x80040028 + 0x10000 * x.idx
def Reg.MSQ_HEADS (x : Act) : Nat := 0x8004002C + 0x10000 * x.idx
def Reg.MSQ_CKBASE (x : Act) : Nat := 0x80040030 + 0x10000 * x.idx
def Reg.MSQ_SUBPC (x : Act) : Nat := 0x80040034 + 0x10000 * x.idx
def Reg.MSQ_SUBCTL (x : Act) : Nat := 0x80040038 + 0x10000 * x.idx
def Reg.MSQ_SUBGO (x : Act) : Nat := 0x8004003C + 0x10000 * x.idx
def Reg.MSQ_SUBRES (x : Act) : Nat := 0x80040040 + 0x10000 * x.idx
def Reg.MSQ_SLOTCMD (x : Act) : Nat := 0x80040044 + 0x10000 * x.idx
def Reg.MSQ_SLOTDONE (x : Act) : Nat := 0x80040048 + 0x10000 * x.idx
def Reg.MSQ_DOORBELL (x : Act) : Nat := 0x8004004C + 0x10000 * x.idx
def Reg.MSQ_SUBARG (x : Act) (k : Nat) : Nat := 0x80040050 + 0x10000 * x.idx + 4 * k
def Reg.MSQ_FLTPC (x : Act) : Nat := 0x80040060 + 0x10000 * x.idx
def Reg.MSQ_SLOTSTAT (x : Act) (k : Nat) : Nat := 0x80040080 + 0x10000 * x.idx + 4 * k
def Reg.MSQ_SLOTPC (x : Act) (k : Nat) : Nat := 0x800400C0 + 0x10000 * x.idx + 4 * k
def Reg.MSQ_MBOX (x : Act) (k : Nat) : Nat := 0x80040100 + 0x10000 * x.idx + 4 * k
def Reg.MSQ_SQCAUSE (x : Act) : Nat := 0x80040064 + 0x10000 * x.idx
def Reg.MSQ_SQLAST (x : Act) : Nat := 0x80040068 + 0x10000 * x.idx
def Reg.MSQ_SQCNT (x : Act) : Nat := 0x8004006C + 0x10000 * x.idx
def Reg.MSQ_ESC (x : Act) : Nat := 0x80040070 + 0x10000 * x.idx
def Reg.SYS_ESCCFG : Nat := 0x80000070
def Reg.SYS_ESCSTAT : Nat := 0x80000074
def Reg.UCS_EVT : Nat := 0x80060000
def Reg.UCS_EVTEN : Nat := 0x80060004
def Reg.UCS_STAT : Nat := 0x80060008
def Reg.UCS_USTEP : Nat := 0x80060020
def Reg.UCS_ROMVER : Nat := 0x80060024
def Reg.UCS_PATCH (x : Act) : Nat := 0x80060028 + 0x4 * x.idx
def Reg.UCS_SAPCTL (x : Act) : Nat := 0x80060030 + 0x10 * x.idx
def Reg.UCS_SAPADDR (x : Act) : Nat := 0x80060034 + 0x10 * x.idx
def Reg.UCS_SAPDATA (x : Act) : Nat := 0x80060038 + 0x10 * x.idx
def Reg.UCS_SAPWIN (x : Act) : Nat := 0x8006003C + 0x10 * x.idx
def Reg.UCS_CAPLAST : Nat := 0x80060050
def Reg.UCS_PARCNT : Nat := 0x80060054
def Reg.CH_EVT (n : Chan) : Nat := 0x80080000 + 0x10000 * n.val
def Reg.CH_EVTEN (n : Chan) : Nat := 0x80080004 + 0x10000 * n.val
def Reg.CH_STAT (n : Chan) : Nat := 0x80080008 + 0x10000 * n.val
def Reg.CH_CFG (n : Chan) : Nat := 0x80080020 + 0x10000 * n.val
def Reg.CH_SYNC (n : Chan) : Nat := 0x80080024 + 0x10000 * n.val
def Reg.CH_SMPAT (n : Chan) : Nat := 0x80080028 + 0x10000 * n.val
def Reg.CH_REDET (n : Chan) : Nat := 0x8008002C + 0x10000 * n.val
def Reg.CH_DEFECT (n : Chan) : Nat := 0x80080030 + 0x10000 * n.val
def Reg.CH_LOOPEN (n : Chan) : Nat := 0x80080034 + 0x10000 * n.val
def Reg.CH_RECCFG (n : Chan) : Nat := 0x80080038 + 0x10000 * n.val
def Reg.CH_TARGET (n : Chan) : Nat := 0x8008003C + 0x10000 * n.val
def Reg.CH_FE (n : Chan) : Nat := 0x80080040 + 0x10000 * n.val
def Reg.CH_EQADDR (n : Chan) : Nat := 0x80080044 + 0x10000 * n.val
def Reg.CH_EQDATA (n : Chan) : Nat := 0x80080048 + 0x10000 * n.val
def Reg.CH_AGC (n : Chan) : Nat := 0x8008004C + 0x10000 * n.val
def Reg.CH_TLOOP (n : Chan) : Nat := 0x80080050 + 0x10000 * n.val
def Reg.CH_FREC (n : Chan) (k : Nat) : Nat := 0x80080060 + 0x10000 * n.val + 4 * k
def Reg.CH_FRECPOP (n : Chan) : Nat := 0x80080070 + 0x10000 * n.val
def Reg.CH_FRECSTAT (n : Chan) : Nat := 0x80080074 + 0x10000 * n.val
def Reg.CH_SECTORS (n : Chan) : Nat := 0x80080080 + 0x10000 * n.val
def Reg.CH_SECTORSH (n : Chan) : Nat := 0x80080084 + 0x10000 * n.val
def Reg.CH_CNTR (n : Chan) : Nat := 0x80080088 + 0x10000 * n.val
def Reg.CH_CNTF (n : Chan) : Nat := 0x8008008C + 0x10000 * n.val
def Reg.WRP_EVT (x : Act) : Nat := 0x800C0000 + 0x10000 * x.idx
def Reg.WRP_EVTEN (x : Act) : Nat := 0x800C0004 + 0x10000 * x.idx
def Reg.WRP_STAT (x : Act) : Nat := 0x800C0008 + 0x10000 * x.idx
def Reg.WRP_CFG (x : Act) : Nat := 0x800C0020 + 0x10000 * x.idx
def Reg.WRP_PTBASE (x : Act) : Nat := 0x800C0024 + 0x10000 * x.idx
def Reg.WRP_ASSIST (x : Act) : Nat := 0x800C0028 + 0x10000 * x.idx
def Reg.WRP_LMON (x : Act) : Nat := 0x800C002C + 0x10000 * x.idx
def Reg.WRP_WGLIM (x : Act) : Nat := 0x800C0030 + 0x10000 * x.idx
def Reg.WRP_WGCTL (x : Act) : Nat := 0x800C0034 + 0x10000 * x.idx
def Reg.WRP_WGLAST (x : Act) : Nat := 0x800C0038 + 0x10000 * x.idx
def Reg.WRPA_SHOCK : Nat := 0x800C003C
def Reg.WRP_TORN (x : Act) (k : Nat) : Nat := 0x800C0050 + 0x10000 * x.idx + 4 * k
def Reg.WRP_TORNPOP (x : Act) : Nat := 0x800C0060 + 0x10000 * x.idx
def Reg.WRP_TORNSTAT (x : Act) : Nat := 0x800C0064 + 0x10000 * x.idx
def Reg.PLK_EVT (x : Act) : Nat := 0x800E0000 + 0x10000 * x.idx
def Reg.PLK_EVTEN (x : Act) : Nat := 0x800E0004 + 0x10000 * x.idx
def Reg.PLK_STAT (x : Act) : Nat := 0x800E0008 + 0x10000 * x.idx
def Reg.PLK_CFG (x : Act) : Nat := 0x800E0020 + 0x10000 * x.idx
def Reg.PLK_ADDR (x : Act) : Nat := 0x800E0024 + 0x10000 * x.idx
def Reg.PLK_REQ (x : Act) : Nat := 0x800E0028 + 0x10000 * x.idx
def Reg.PLK_RSP (x : Act) : Nat := 0x800E002C + 0x10000 * x.idx
def Reg.PLK_FLTCODE (x : Act) : Nat := 0x800E0030 + 0x10000 * x.idx
def Reg.PLK_CNT (x : Act) : Nat := 0x800E0034 + 0x10000 * x.idx
def Reg.PLK_WFADDR (x : Act) : Nat := 0x800E0038 + 0x10000 * x.idx
def Reg.LPE_EVT : Nat := 0x80100000
def Reg.LPE_EVTEN : Nat := 0x80100004
def Reg.LPE_STAT : Nat := 0x80100008
def Reg.LPE_CTL : Nat := 0x80100020
def Reg.LPE_REGION : Nat := 0x80100024
def Reg.LPE_SETTLE : Nat := 0x80100028
def Reg.LPE_SERVO : Nat := 0x8010002C
def Reg.LPE_SAT : Nat := 0x80100030
def Reg.LPE_FEUA : Nat := 0x80100034
def Reg.LPE_FELAS : Nat := 0x80100038
def Reg.LPE_FEHTR : Nat := 0x8010003C
def Reg.LPE_FEBUS : Nat := 0x80100040
def Reg.LPE_FESTAT : Nat := 0x80100044
def Reg.LPE_ILIM (x : Act) : Nat := 0x80100050 + 0x4 * x.idx
def Reg.LPE_SILIM : Nat := 0x80100058
def Reg.LPE_ARB (x : Act) : Nat := 0x80100060 + 0x4 * x.idx
def Reg.LPE_ARBS : Nat := 0x80100068
def Reg.LPE_OVR : Nat := 0x80100070
def Reg.LPE_DUP : Nat := 0x80100074
def Reg.LPE_RET : Nat := 0x80100078
def Reg.LPE_BANK : Nat := 0x80100080
def Reg.LPE_COEFADDR : Nat := 0x80100084
def Reg.LPE_COEFDATA : Nat := 0x80100088
def Reg.LPE_PES (x : Act) : Nat := 0x80100090 + 0x4 * x.idx
def Reg.LPE_POS (x : Act) : Nat := 0x80100098 + 0x4 * x.idx
def Reg.LPE_NCOEF (x : Act) (k : Nat) : Nat := 0x801000A0 + 0x20 * x.idx + 4 * k
def Reg.DRV_EVT : Nat := 0x80120000
def Reg.DRV_EVTEN : Nat := 0x80120004
def Reg.DRV_STAT : Nat := 0x80120008
def Reg.DRV_CFG : Nat := 0x80120020
def Reg.DRV_RETRACT : Nat := 0x80120024
def Reg.DRV_UACT : Nat := 0x80120028
def Reg.DRV_IVCM : Nat := 0x8012002C
def Reg.SPN_EVT : Nat := 0x80110000
def Reg.SPN_EVTEN : Nat := 0x80110004
def Reg.SPN_STAT : Nat := 0x80110008
def Reg.SPN_CTL : Nat := 0x80110020
def Reg.SPN_TARGET : Nat := 0x80110024
def Reg.SPN_RAMP : Nat := 0x80110028
def Reg.SPN_MOTOR : Nat := 0x8011002C
def Reg.SPN_LEVEL : Nat := 0x80110030
def Reg.SPN_START : Nat := 0x80110034
def Reg.SPN_CATCH : Nat := 0x80110038
def Reg.SPN_BRAKE : Nat := 0x8011003C
def Reg.SPN_BEMF : Nat := 0x80110040
def Reg.SPN_KENOM : Nat := 0x80110044
def Reg.SPN_KE : Nat := 0x80110048
def Reg.SPN_CMDSRC : Nat := 0x8011004C
def Reg.SPN_PIN : Nat := 0x80110050
def Reg.SPN_LOWV : Nat := 0x80110054
def Reg.SPN_SPEED : Nat := 0x80110058
def Reg.SPN_CNT : Nat := 0x8011005C
def Reg.SPN_CNT2 : Nat := 0x80110060
def Reg.PWR_EVT : Nat := 0x80010000
def Reg.PWR_EVTEN : Nat := 0x80010004
def Reg.PWR_STAT : Nat := 0x80010008
def Reg.PWR_VINCFG : Nat := 0x80010020
def Reg.PWR_LOWV : Nat := 0x80010024
def Reg.PWR_RET : Nat := 0x80010028
def Reg.PWR_RETCTL : Nat := 0x8001002C
def Reg.PWR_BUS : Nat := 0x80010030
def Reg.PWR_CHOP : Nat := 0x80010034
def Reg.PWR_CTL : Nat := 0x80010038
def Reg.PWR_BUDGET : Nat := 0x8001003C
def Reg.PWR_VIN : Nat := 0x80010040
def Reg.PWR_RAIL : Nat := 0x80010044
def Reg.PWR_CNT : Nat := 0x80010048
def Reg.THM_EVT : Nat := 0x80020000
def Reg.THM_EVTEN : Nat := 0x80020004
def Reg.THM_STAT : Nat := 0x80020008
def Reg.THM_CFG : Nat := 0x80020020
def Reg.THM_EDGES0 : Nat := 0x80020024
def Reg.THM_EDGES1 : Nat := 0x80020028
def Reg.THM_WARN : Nat := 0x8002002C
def Reg.THM_NTC : Nat := 0x80020030
def Reg.THM_BASELIM : Nat := 0x80020034
def Reg.THM_TS01 : Nat := 0x80020040
def Reg.THM_TS23 : Nat := 0x80020044
def Reg.THM_TS45 : Nat := 0x80020048
def Reg.THM_EXT : Nat := 0x8002004C
def Reg.THM_SHUT : Nat := 0x80020050
def Reg.THM_PEAK : Nat := 0x80020054
def Reg.MEM_EVT : Nat := 0x80140000
def Reg.MEM_EVTEN : Nat := 0x80140004
def Reg.MEM_STAT : Nat := 0x80140008
def Reg.MEM_CFG : Nat := 0x80140020
def Reg.MEM_CTL : Nat := 0x80140024
def Reg.MEM_ZFOFS : Nat := 0x80140028
def Reg.MEM_ZFLEN : Nat := 0x8014002C
def Reg.MEM_UEADDR : Nat := 0x80140030
def Reg.MEM_UEINFO : Nat := 0x80140034
def Reg.MEM_CETCTL : Nat := 0x80140038
def Reg.MEM_CETADDR : Nat := 0x8014003C
def Reg.MEM_CETCNT : Nat := 0x80140040
def Reg.MEM_SCRRNG : Nat := 0x80140044
def Reg.MEM_SCRCFG : Nat := 0x80140048
def Reg.MEM_SRAMERR : Nat := 0x8014004C
def Reg.MEM_CNT : Nat := 0x80140050
def Reg.BUF_EVT : Nat := 0x80150000
def Reg.BUF_EVTEN : Nat := 0x80150004
def Reg.BUF_STAT : Nat := 0x80150008
def Reg.BUF_POOL : Nat := 0x80150020
def Reg.BUF_FAILQ : Nat := 0x80150024
def Reg.BUF_SEGCTL : Nat := 0x80150028
def Reg.BUF_CNT : Nat := 0x8015002C
def Reg.HWD_EVT : Nat := 0x80170000
def Reg.HWD_EVTEN : Nat := 0x80170004
def Reg.HWD_STAT : Nat := 0x80170008
def Reg.HWD_MBCTL : Nat := 0x80170020
def Reg.HWD_MBCMD : Nat := 0x80170024
def Reg.HWD_MBRES : Nat := 0x80170028
def Reg.HWD_MBTMO : Nat := 0x8017002C
def Reg.HWD_CTL : Nat := 0x80170030
def Reg.HWD_BOOT : Nat := 0x80170034
def Reg.HWD_MBREQ (k : Nat) : Nat := 0x80170100 + 4 * k
def Reg.HWD_MBRSP (k : Nat) : Nat := 0x80170200 + 4 * k
def Reg.CPH_EVT : Nat := 0x80160000
def Reg.CPH_EVTEN : Nat := 0x80160004
def Reg.CPH_STAT : Nat := 0x80160008
def Reg.CPH_SLOTSEL : Nat := 0x80160020
def Reg.CPH_SLOTINFO : Nat := 0x80160024
def Reg.CPH_NSCFG0 : Nat := 0x80160028
def Reg.CPH_NSCFG1 : Nat := 0x8016002C
def Reg.CPH_LRADDR : Nat := 0x80160030
def Reg.CPH_LRDATA : Nat := 0x80160034
def Reg.CPH_JOBBASE : Nat := 0x80160038
def Reg.CPH_JOBPI : Nat := 0x8016003C
def Reg.CPH_JOBCI : Nat := 0x80160040
def Reg.CPH_UNTRUST : Nat := 0x80160044
def Reg.CPH_UNTRUSTINFO : Nat := 0x80160048
def Reg.CPH_CNT : Nat := 0x8016004C
def Reg.HIF_EVT : Nat := 0x80180000
def Reg.HIF_EVTEN : Nat := 0x80180004
def Reg.HIF_STAT : Nat := 0x80180008
def Reg.HIF_MGTCFG : Nat := 0x80180020
def Reg.HIF_MGTID (k : Nat) : Nat := 0x80180030 + 4 * k
def Reg.SAS_EVT : Nat := 0x80190000
def Reg.SAS_EVTEN : Nat := 0x80190004
def Reg.SAS_STAT : Nat := 0x80190008
def Reg.SAS_CFG : Nat := 0x80190020
def Reg.SAS_ADDRA : Nat := 0x80190028
def Reg.SAS_ADDRAH : Nat := 0x8019002C
def Reg.SAS_ADDRB : Nat := 0x80190030
def Reg.SAS_ADDRBH : Nat := 0x80190034
def Reg.SAS_CNT : Nat := 0x80190038
def Reg.PCIE_EVT : Nat := 0x801A0000
def Reg.PCIE_EVTEN : Nat := 0x801A0004
def Reg.PCIE_STAT : Nat := 0x801A0008
def Reg.PCIE_CFG : Nat := 0x801A0020
def Reg.PCIE_ID : Nat := 0x801A0024
def Reg.PCIE_CNT : Nat := 0x801A0028
def Reg.CCX_EVT : Nat := 0x801B0000
def Reg.CCX_EVTEN : Nat := 0x801B0004
def Reg.CCX_STAT : Nat := 0x801B0008
def Reg.CCX_CFG : Nat := 0x801B0020
def Reg.CCX_CTXBASE : Nat := 0x801B0024
def Reg.CCX_POPA : Nat := 0x801B0028
def Reg.CCX_POPB : Nat := 0x801B002C
def Reg.CCX_POPN : Nat := 0x801B0030
def Reg.CCX_CTXCMD : Nat := 0x801B0034
def Reg.CCX_CTXRES : Nat := 0x801B0038
def Reg.CCX_CNT : Nat := 0x801B003C
def Reg.SYS_ID : Nat := 0x80000080
def Reg.INTC_EVT : Nat := 0x801E0000
def Reg.INTC_EVTEN : Nat := 0x801E0004
def Reg.INTC_STAT : Nat := 0x801E0008
def Reg.INTC_THR : Nat := 0x801E0020
def Reg.INTC_CAUSE0 : Nat := 0x801E0024
def Reg.INTC_CAUSE1 : Nat := 0x801E0028
def Reg.INTC_SWI : Nat := 0x801E002C
def Reg.INTC_TMR0 : Nat := 0x801E0030
def Reg.INTC_TMR1 : Nat := 0x801E0034
def Reg.INTC_CORE : Nat := 0x801E0038
def Reg.INTC_WDCFG : Nat := 0x801E003C
def Reg.INTC_WDKICK : Nat := 0x801E0040
def Reg.INTC_SRCCFG (k : Nat) : Nat := 0x801E0100 + 4 * k
def Reg.INTC_PEND (k : Nat) : Nat := 0x801E0200 + 4 * k
def Reg.XSP_EVT : Nat := 0x801F0000
def Reg.XSP_EVTEN : Nat := 0x801F0004
def Reg.XSP_STAT : Nat := 0x801F0008
def Reg.XSP_CFG : Nat := 0x801F0020
def Reg.XSP_TMO : Nat := 0x801F0024
def Reg.XSP_FADDR : Nat := 0x801F0030
def Reg.XSP_MADDR : Nat := 0x801F0034
def Reg.XSP_MADDRH : Nat := 0x801F0038
def Reg.XSP_LEN : Nat := 0x801F003C
def Reg.XSP_CMD : Nat := 0x801F0040
def Reg.XSP_RESULT : Nat := 0x801F0044
def Reg.XSP_CNT : Nat := 0x801F0048
def Reg.XSP_PROTB (k : Nat) : Nat := 0x801F0060 + 8 * k
def Reg.XSP_PROTL (k : Nat) : Nat := 0x801F0064 + 8 * k
def Reg.DBG_EVT : Nat := 0x80200000
def Reg.DBG_EVTEN : Nat := 0x80200004
def Reg.DBG_STAT : Nat := 0x80200008
def Reg.DBG_UARTCFG : Nat := 0x80200020
def Reg.DBG_UARTTX : Nat := 0x80200024
def Reg.DBG_UARTRX : Nat := 0x80200028
def Reg.DBG_UARTCNT : Nat := 0x8020002C
def Reg.DBG_TRCCFG : Nat := 0x80200030
def Reg.DBG_TRCBASE : Nat := 0x80200034
def Reg.DBG_TRCWP : Nat := 0x80200038
def Reg.DBG_TRCLOST : Nat := 0x8020003C
def Reg.VALE_EVT : Nat := 0x801C0000
def Reg.VALE_EVTEN : Nat := 0x801C0004
def Reg.VALE_STAT : Nat := 0x801C0008
def Reg.VALE_CFG : Nat := 0x801C0020
def Reg.VALE_KEY : Nat := 0x801C0024
def Reg.VALE_PHOFS : Nat := 0x801C0028
def Reg.VALE_SEEKCLS : Nat := 0x801C002C
def Reg.VALE_CANCFG : Nat := 0x801C0030
def Reg.VALE_CTL : Nat := 0x801C0034
def Reg.VALE_MEMB : Nat := 0x801C0038
def Reg.VALE_MEMBH : Nat := 0x801C003C
def Reg.VALE_EFFOFS : Nat := 0x801C0040
def Reg.VALE_CNT : Nat := 0x801C0044
def Reg.RBK_EVT : Nat := 0x801D0000
def Reg.RBK_EVTEN : Nat := 0x801D0004
def Reg.RBK_STAT : Nat := 0x801D0008
def Reg.RBK_CFG : Nat := 0x801D0020
def Reg.RBK_FLASH : Nat := 0x801D0024
def Reg.RBK_CTL : Nat := 0x801D0028
def Reg.RBK_SNAPBASE : Nat := 0x801D002C
def Reg.RBK_WIN : Nat := 0x801D0030
def Reg.RBK_FWEV (k : Nat) : Nat := 0x801D0034 + 4 * k
def Reg.RBK_CNT : Nat := 0x801D0048
def Reg.SYS_EVT : Nat := 0x80000000
def Reg.SYS_EVTEN : Nat := 0x80000004
def Reg.SYS_STAT : Nat := 0x80000008
def Reg.SYS_MODE : Nat := 0x80000020
def Reg.SYS_MODEREQ : Nat := 0x80000024
def Reg.SYS_ACTCTL : Nat := 0x80000028
def Reg.SYS_RSTCTL : Nat := 0x8000002C
def Reg.SYS_RSTCAUSE : Nat := 0x80000030
def Reg.SYS_COMPAT : Nat := 0x80000034
def Reg.SYS_LOCK : Nat := 0x80000038
def Reg.SYS_UPDCTL : Nat := 0x8000003C

def Fld.SYS_D2DSTAT_SAFE : Field := ⟨Reg.SYS_D2DSTAT, 8, 1⟩
def Fld.SYS_D2DSTAT_SPARE_LANE : Field := ⟨Reg.SYS_D2DSTAT, 4, 4⟩
def Fld.SYS_D2DSTAT_SPARE_USED : Field := ⟨Reg.SYS_D2DSTAT, 3, 1⟩
def Fld.SYS_D2DSTAT_TRAINED : Field := ⟨Reg.SYS_D2DSTAT, 2, 1⟩
def Fld.SYS_D2DSTAT_HALF : Field := ⟨Reg.SYS_D2DSTAT, 1, 1⟩
def Fld.SYS_D2DCNT_REPLAY : Field := ⟨Reg.SYS_D2DCNT, 16, 16⟩
def Fld.SYS_D2DCNT_RETRAIN : Field := ⟨Reg.SYS_D2DCNT, 0, 8⟩
def Fld.SYS_D2DREL_RELEASE : Field := ⟨Reg.SYS_D2DREL, 0, 1⟩
def Fld.SYS_BUSERR_OVF : Field := ⟨Reg.SYS_BUSERR, 31, 1⟩
def Fld.SYS_BUSERR_KIND : Field := ⟨Reg.SYS_BUSERR, 28, 3⟩
def Fld.SYS_BUSERR_INIT : Field := ⟨Reg.SYS_BUSERR, 26, 2⟩
def Fld.SYS_BUSERR_WRITE : Field := ⟨Reg.SYS_BUSERR, 25, 1⟩
def Fld.SYS_BUSERR_SIZE : Field := ⟨Reg.SYS_BUSERR, 23, 2⟩
def Fld.SYS_BUSERR_ADDR_HI : Field := ⟨Reg.SYS_BUSERR, 16, 4⟩
def Fld.SYS_BUSERR_VALID : Field := ⟨Reg.SYS_BUSERR, 0, 1⟩
def Fld.ANG_EV_BCLKRNG : Field := ⟨Reg.ANG_EVT, 5, 1⟩
def Fld.ANG_EV_MASTER : Field := ⟨Reg.ANG_EVT, 4, 1⟩
def Fld.ANG_EV_SRC : Field := ⟨Reg.ANG_EVT, 3, 1⟩
def Fld.ANG_FLT_LOST : Field := ⟨Reg.ANG_EVT, 2, 1⟩
def Fld.ANG_EV_SLIP : Field := ⟨Reg.ANG_EVT, 1, 1⟩
def Fld.ANG_EV_VALID : Field := ⟨Reg.ANG_EVT, 0, 1⟩
def Fld.ANG_STAT_WEDGE : Field := ⟨Reg.ANG_STAT, 16, 10⟩
def Fld.ANG_STAT_CANLOCK : Field := ⟨Reg.ANG_STAT, 7, 1⟩
def Fld.ANG_STAT_MASTER : Field := ⟨Reg.ANG_STAT, 6, 1⟩
def Fld.ANG_STAT_SLEWING : Field := ⟨Reg.ANG_STAT, 5, 1⟩
def Fld.ANG_STAT_VALID : Field := ⟨Reg.ANG_STAT, 4, 1⟩
def Fld.ANG_STAT_SRC : Field := ⟨Reg.ANG_STAT, 0, 2⟩
def Fld.ANG_CFG_WEDGES : Field := ⟨Reg.ANG_CFG, 11, 11⟩
def Fld.ANG_CFG_SPDFILT : Field := ⟨Reg.ANG_CFG, 8, 3⟩
def Fld.ANG_CFG_AUTOMASTER : Field := ⟨Reg.ANG_CFG, 7, 1⟩
def Fld.ANG_CFG_MASTER : Field := ⟨Reg.ANG_CFG, 6, 1⟩
def Fld.ANG_CFG_BEMFEN : Field := ⟨Reg.ANG_CFG, 5, 1⟩
def Fld.ANG_CFG_SERVOEN : Field := ⟨Reg.ANG_CFG, 4, 1⟩
def Fld.ANG_CFG_FREEMAX : Field := ⟨Reg.ANG_CFG, 0, 4⟩
def Fld.MSQ_FLT_STEP (x : Act) : Field := ⟨Reg.MSQ_EVT x, 10, 1⟩
def Fld.MSQ_FLT_SAPCAP (x : Act) : Field := ⟨Reg.MSQ_EVT x, 9, 1⟩
def Fld.MSQ_FLT_PROG (x : Act) : Field := ⟨Reg.MSQ_EVT x, 8, 1⟩
def Fld.MSQ_EV_SUBBAD (x : Act) : Field := ⟨Reg.MSQ_EVT x, 5, 1⟩
def Fld.MSQ_EV_PARITY (x : Act) : Field := ⟨Reg.MSQ_EVT x, 4, 1⟩
def Fld.MSQ_EV_HOLD (x : Act) : Field := ⟨Reg.MSQ_EVT x, 3, 1⟩
def Fld.MSQ_EV_SUBFULL (x : Act) : Field := ⟨Reg.MSQ_EVT x, 2, 1⟩
def Fld.MSQ_EV_SQUASH (x : Act) : Field := ⟨Reg.MSQ_EVT x, 1, 1⟩
def Fld.MSQ_EV_DONE (x : Act) : Field := ⟨Reg.MSQ_EVT x, 0, 1⟩
def Fld.MSQ_STAT_AHEADI (x : Act) : Field := ⟨Reg.MSQ_STAT x, 16, 6⟩
def Fld.MSQ_STAT_AHEADW (x : Act) : Field := ⟨Reg.MSQ_STAT x, 12, 4⟩
def Fld.MSQ_STAT_HELD (x : Act) : Field := ⟨Reg.MSQ_STAT x, 8, 1⟩
def Fld.MSQ_STAT_RUN (x : Act) : Field := ⟨Reg.MSQ_STAT x, 4, 1⟩
def Fld.MSQ_STAT_RSLOT (x : Act) : Field := ⟨Reg.MSQ_STAT x, 0, 4⟩
def Fld.MSQ_CTL_HOLD (x : Act) : Field := ⟨Reg.MSQ_CTL x, 0, 1⟩
def Fld.MSQ_CFG_LEADMIN (x : Act) : Field := ⟨Reg.MSQ_CFG x, 0, 16⟩
def Fld.MSQ_TMO_SLOT_REV (x : Act) : Field := ⟨Reg.MSQ_TMO x, 8, 4⟩
def Fld.MSQ_TMO_WAITA_REV (x : Act) : Field := ⟨Reg.MSQ_TMO x, 0, 4⟩
def Fld.MSQ_HEADS_EN (x : Act) : Field := ⟨Reg.MSQ_HEADS x, 0, 12⟩
def Fld.MSQ_CKBASE_BASE (x : Act) : Field := ⟨Reg.MSQ_CKBASE x, 12, 20⟩
def Fld.MSQ_SUBPC_PC (x : Act) : Field := ⟨Reg.MSQ_SUBPC x, 0, 32⟩
def Fld.MSQ_SUBCTL_RSLOT (x : Act) : Field := ⟨Reg.MSQ_SUBCTL x, 16, 4⟩
def Fld.MSQ_SUBCTL_RESUME (x : Act) : Field := ⟨Reg.MSQ_SUBCTL x, 8, 1⟩
def Fld.MSQ_SUBCTL_PRIO (x : Act) : Field := ⟨Reg.MSQ_SUBCTL x, 0, 2⟩
def Fld.MSQ_SUBGO_GO (x : Act) : Field := ⟨Reg.MSQ_SUBGO x, 0, 1⟩
def Fld.MSQ_SUBRES_BADCTX (x : Act) : Field := ⟨Reg.MSQ_SUBRES x, 11, 1⟩
def Fld.MSQ_SUBRES_BADCK (x : Act) : Field := ⟨Reg.MSQ_SUBRES x, 10, 1⟩
def Fld.MSQ_SUBRES_BADPC (x : Act) : Field := ⟨Reg.MSQ_SUBRES x, 9, 1⟩
def Fld.MSQ_SUBRES_FULL (x : Act) : Field := ⟨Reg.MSQ_SUBRES x, 8, 1⟩
def Fld.MSQ_SUBRES_OK (x : Act) : Field := ⟨Reg.MSQ_SUBRES x, 4, 1⟩
def Fld.MSQ_SUBRES_SLOT (x : Act) : Field := ⟨Reg.MSQ_SUBRES x, 0, 4⟩
def Fld.MSQ_SLOTCMD_CMD (x : Act) : Field := ⟨Reg.MSQ_SLOTCMD x, 8, 2⟩
def Fld.MSQ_SLOTCMD_SLOT (x : Act) : Field := ⟨Reg.MSQ_SLOTCMD x, 0, 4⟩
def Fld.MSQ_SLOTDONE_DONE (x : Act) : Field := ⟨Reg.MSQ_SLOTDONE x, 0, 16⟩
def Fld.MSQ_DOORBELL_RING (x : Act) : Field := ⟨Reg.MSQ_DOORBELL x, 0, 16⟩
def Fld.MSQ_SUBARG_ARG (x : Act) (k : Nat) : Field := ⟨Reg.MSQ_SUBARG x k, 0, 32⟩
def Fld.MSQ_FLTPC_PC (x : Act) : Field := ⟨Reg.MSQ_FLTPC x, 0, 32⟩
def Fld.MSQ_SLOTSTAT_FCODE (x : Act) (k : Nat) : Field := ⟨Reg.MSQ_SLOTSTAT x k, 24, 8⟩
def Fld.MSQ_SLOTSTAT_TAGERR (x : Act) (k : Nat) : Field := ⟨Reg.MSQ_SLOTSTAT x k, 23, 1⟩
def Fld.MSQ_SLOTSTAT_REDET (x : Act) (k : Nat) : Field := ⟨Reg.MSQ_SLOTSTAT x k, 22, 1⟩
def Fld.MSQ_SLOTSTAT_SKIP (x : Act) (k : Nat) : Field := ⟨Reg.MSQ_SLOTSTAT x k, 21, 1⟩
def Fld.MSQ_SLOTSTAT_FAIL (x : Act) (k : Nat) : Field := ⟨Reg.MSQ_SLOTSTAT x k, 20, 1⟩
def Fld.MSQ_SLOTSTAT_PRIO (x : Act) (k : Nat) : Field := ⟨Reg.MSQ_SLOTSTAT x k, 10, 2⟩
def Fld.MSQ_SLOTSTAT_STATE (x : Act) (k : Nat) : Field := ⟨Reg.MSQ_SLOTSTAT x k, 0, 4⟩
def Fld.MSQ_SLOTPC_PC (x : Act) (k : Nat) : Field := ⟨Reg.MSQ_SLOTPC x k, 0, 32⟩
def Fld.MSQ_MBOX_DATA (x : Act) (k : Nat) : Field := ⟨Reg.MSQ_MBOX x k, 0, 32⟩
def Fld.MSQ_SQCAUSE_CAUSE (x : Act) : Field := ⟨Reg.MSQ_SQCAUSE x, 0, 15⟩
def Fld.MSQ_SQLAST_SLOT (x : Act) : Field := ⟨Reg.MSQ_SQLAST x, 28, 4⟩
def Fld.MSQ_SQLAST_CAUSE (x : Act) : Field := ⟨Reg.MSQ_SQLAST x, 0, 15⟩
def Fld.MSQ_SQCNT_TORN (x : Act) : Field := ⟨Reg.MSQ_SQCNT x, 16, 16⟩
def Fld.MSQ_SQCNT_SQUASH (x : Act) : Field := ⟨Reg.MSQ_SQCNT x, 0, 16⟩
def Fld.MSQ_ESC_PEND (x : Act) : Field := ⟨Reg.MSQ_ESC x, 31, 1⟩
def Fld.MSQ_ESC_SLOT (x : Act) : Field := ⟨Reg.MSQ_ESC x, 16, 4⟩
def Fld.MSQ_ESC_NWIN (x : Act) : Field := ⟨Reg.MSQ_ESC x, 0, 4⟩
def Fld.SYS_ESCCFG_WIN_MS : Field := ⟨Reg.SYS_ESCCFG, 16, 16⟩
def Fld.SYS_ESCCFG_N : Field := ⟨Reg.SYS_ESCCFG, 0, 4⟩
def Fld.SYS_ESCSTAT_DRV : Field := ⟨Reg.SYS_ESCSTAT, 18, 1⟩
def Fld.SYS_ESCSTAT_ACTB : Field := ⟨Reg.SYS_ESCSTAT, 17, 1⟩
def Fld.SYS_ESCSTAT_ACTA : Field := ⟨Reg.SYS_ESCSTAT, 16, 1⟩
def Fld.SYS_ESCSTAT_WARM_N : Field := ⟨Reg.SYS_ESCSTAT, 8, 4⟩
def Fld.SYS_ESCSTAT_ACTB_N : Field := ⟨Reg.SYS_ESCSTAT, 4, 4⟩
def Fld.SYS_ESCSTAT_ACTA_N : Field := ⟨Reg.SYS_ESCSTAT, 0, 4⟩
def Fld.UCS_FLT_ROMPAR : Field := ⟨Reg.UCS_EVT, 8, 1⟩
def Fld.UCS_EV_PATCHB : Field := ⟨Reg.UCS_EVT, 4, 1⟩
def Fld.UCS_EV_PATCHA : Field := ⟨Reg.UCS_EVT, 3, 1⟩
def Fld.UCS_EV_LOADREJ : Field := ⟨Reg.UCS_EVT, 2, 1⟩
def Fld.UCS_EV_SAPCAP : Field := ⟨Reg.UCS_EVT, 1, 1⟩
def Fld.UCS_EV_PARITY : Field := ⟨Reg.UCS_EVT, 0, 1⟩
def Fld.UCS_STAT_SAPRUNB : Field := ⟨Reg.UCS_STAT, 9, 1⟩
def Fld.UCS_STAT_SAPRUNA : Field := ⟨Reg.UCS_STAT, 8, 1⟩
def Fld.UCS_STAT_PLOADB : Field := ⟨Reg.UCS_STAT, 3, 1⟩
def Fld.UCS_STAT_PLOADA : Field := ⟨Reg.UCS_STAT, 2, 1⟩
def Fld.UCS_STAT_LOADB : Field := ⟨Reg.UCS_STAT, 1, 1⟩
def Fld.UCS_STAT_LOADA : Field := ⟨Reg.UCS_STAT, 0, 1⟩
def Fld.UCS_USTEP_MAXB : Field := ⟨Reg.UCS_USTEP, 16, 16⟩
def Fld.UCS_USTEP_MAXA : Field := ⟨Reg.UCS_USTEP, 0, 16⟩
def Fld.UCS_ROMVER_REL : Field := ⟨Reg.UCS_ROMVER, 16, 16⟩
def Fld.UCS_ROMVER_BUILD : Field := ⟨Reg.UCS_ROMVER, 0, 16⟩
def Fld.UCS_PATCH_VER (x : Act) : Field := ⟨Reg.UCS_PATCH x, 16, 16⟩
def Fld.UCS_PATCH_NCMP (x : Act) : Field := ⟨Reg.UCS_PATCH x, 0, 6⟩
def Fld.UCS_SAPCTL_LOAD (x : Act) : Field := ⟨Reg.UCS_SAPCTL x, 0, 1⟩
def Fld.UCS_SAPADDR_ADDR (x : Act) : Field := ⟨Reg.UCS_SAPADDR x, 0, 12⟩
def Fld.UCS_SAPDATA_DATA (x : Act) : Field := ⟨Reg.UCS_SAPDATA x, 0, 32⟩
def Fld.UCS_SAPWIN_BASE (x : Act) : Field := ⟨Reg.UCS_SAPWIN x, 12, 20⟩
def Fld.UCS_SAPWIN_PAGES (x : Act) : Field := ⟨Reg.UCS_SAPWIN x, 0, 8⟩
def Fld.UCS_CAPLAST_ACT : Field := ⟨Reg.UCS_CAPLAST, 31, 1⟩
def Fld.UCS_CAPLAST_REASON : Field := ⟨Reg.UCS_CAPLAST, 28, 3⟩
def Fld.UCS_CAPLAST_UADDR : Field := ⟨Reg.UCS_CAPLAST, 0, 15⟩
def Fld.UCS_PARCNT_RAM : Field := ⟨Reg.UCS_PARCNT, 16, 16⟩
def Fld.UCS_PARCNT_ROM : Field := ⟨Reg.UCS_PARCNT, 0, 16⟩
def Fld.CH_FLT_SRAM (n : Chan) : Field := ⟨Reg.CH_EVT n, 8, 1⟩
def Fld.CH_EV_TLIM (n : Chan) : Field := ⟨Reg.CH_EVT n, 5, 1⟩
def Fld.CH_EV_FREEZE (n : Chan) : Field := ⟨Reg.CH_EVT n, 4, 1⟩
def Fld.CH_EV_FRECOVF (n : Chan) : Field := ⟨Reg.CH_EVT n, 3, 1⟩
def Fld.CH_EV_FAIL (n : Chan) : Field := ⟨Reg.CH_EVT n, 2, 1⟩
def Fld.CH_EV_REDETFAIL (n : Chan) : Field := ⟨Reg.CH_EVT n, 1, 1⟩
def Fld.CH_EV_REDETOK (n : Chan) : Field := ⟨Reg.CH_EVT n, 0, 1⟩
def Fld.CH_STAT_AVGN (n : Chan) : Field := ⟨Reg.CH_STAT n, 20, 4⟩
def Fld.CH_STAT_HEAD (n : Chan) : Field := ⟨Reg.CH_STAT n, 16, 4⟩
def Fld.CH_STAT_REDETQ (n : Chan) : Field := ⟨Reg.CH_STAT n, 8, 2⟩
def Fld.CH_STAT_FROZEN (n : Chan) : Field := ⟨Reg.CH_STAT n, 7, 1⟩
def Fld.CH_STAT_BCLKOK (n : Chan) : Field := ⟨Reg.CH_STAT n, 6, 1⟩
def Fld.CH_STAT_OP (n : Chan) : Field := ⟨Reg.CH_STAT n, 0, 2⟩
def Fld.CH_CFG_PI (n : Chan) : Field := ⟨Reg.CH_CFG n, 28, 2⟩
def Fld.CH_CFG_RATE (n : Chan) : Field := ⟨Reg.CH_CFG n, 26, 2⟩
def Fld.CH_CFG_RDSEL (n : Chan) : Field := ⟨Reg.CH_CFG n, 24, 2⟩
def Fld.CH_CFG_ITER_OTF (n : Chan) : Field := ⟨Reg.CH_CFG n, 20, 4⟩
def Fld.CH_CFG_LOCAL (n : Chan) : Field := ⟨Reg.CH_CFG n, 16, 4⟩
def Fld.CH_SYNC_PRE_LEN (n : Chan) : Field := ⟨Reg.CH_SYNC n, 16, 10⟩
def Fld.CH_SYNC_SM_THR (n : Chan) : Field := ⟨Reg.CH_SYNC n, 12, 4⟩
def Fld.CH_SYNC_SM_WIN (n : Chan) : Field := ⟨Reg.CH_SYNC n, 0, 7⟩
def Fld.CH_SMPAT_PATTERN (n : Chan) : Field := ⟨Reg.CH_SMPAT n, 0, 32⟩
def Fld.CH_REDET_SWMAX (n : Chan) : Field := ⟨Reg.CH_REDET n, 16, 16⟩
def Fld.CH_REDET_ITER (n : Chan) : Field := ⟨Reg.CH_REDET n, 12, 4⟩
def Fld.CH_REDET_MAXHYP (n : Chan) : Field := ⟨Reg.CH_REDET n, 8, 4⟩
def Fld.CH_REDET_ANYSYNC (n : Chan) : Field := ⟨Reg.CH_REDET n, 2, 1⟩
def Fld.CH_REDET_EARLY (n : Chan) : Field := ⟨Reg.CH_REDET n, 1, 1⟩
def Fld.CH_REDET_MISSED (n : Chan) : Field := ⟨Reg.CH_REDET n, 0, 1⟩
def Fld.CH_DEFECT_FREEZE_MAX (n : Chan) : Field := ⟨Reg.CH_DEFECT n, 20, 12⟩
def Fld.CH_DEFECT_FREEZE_TAIL (n : Chan) : Field := ⟨Reg.CH_DEFECT n, 14, 6⟩
def Fld.CH_DEFECT_DO_THR (n : Chan) : Field := ⟨Reg.CH_DEFECT n, 8, 6⟩
def Fld.CH_DEFECT_TA_THR (n : Chan) : Field := ⟨Reg.CH_DEFECT n, 4, 4⟩
def Fld.CH_DEFECT_EXC_LEN (n : Chan) : Field := ⟨Reg.CH_DEFECT n, 0, 4⟩
def Fld.CH_LOOPEN_LMS_MU (n : Chan) : Field := ⟨Reg.CH_LOOPEN n, 28, 4⟩
def Fld.CH_LOOPEN_TLG (n : Chan) : Field := ⟨Reg.CH_LOOPEN n, 24, 4⟩
def Fld.CH_LOOPEN_AGG (n : Chan) : Field := ⟨Reg.CH_LOOPEN n, 20, 4⟩
def Fld.CH_LOOPEN_DDNP (n : Chan) : Field := ⟨Reg.CH_LOOPEN n, 7, 1⟩
def Fld.CH_LOOPEN_LMS (n : Chan) : Field := ⟨Reg.CH_LOOPEN n, 6, 1⟩
def Fld.CH_LOOPEN_TFREQ (n : Chan) : Field := ⟨Reg.CH_LOOPEN n, 5, 1⟩
def Fld.CH_LOOPEN_TPHASE (n : Chan) : Field := ⟨Reg.CH_LOOPEN n, 4, 1⟩
def Fld.CH_LOOPEN_MRA (n : Chan) : Field := ⟨Reg.CH_LOOPEN n, 3, 1⟩
def Fld.CH_LOOPEN_DC (n : Chan) : Field := ⟨Reg.CH_LOOPEN n, 2, 1⟩
def Fld.CH_LOOPEN_AGC (n : Chan) : Field := ⟨Reg.CH_LOOPEN n, 1, 1⟩
def Fld.CH_RECCFG_ITER_REC (n : Chan) : Field := ⟨Reg.CH_RECCFG n, 25, 7⟩
def Fld.CH_RECCFG_EN (n : Chan) : Field := ⟨Reg.CH_RECCFG n, 24, 1⟩
def Fld.CH_RECCFG_AVG (n : Chan) : Field := ⟨Reg.CH_RECCFG n, 16, 4⟩
def Fld.CH_RECCFG_ERASE (n : Chan) : Field := ⟨Reg.CH_RECCFG n, 11, 1⟩
def Fld.CH_RECCFG_ATIC (n : Chan) : Field := ⟨Reg.CH_RECCFG n, 10, 1⟩
def Fld.CH_RECCFG_SLOWDEC (n : Chan) : Field := ⟨Reg.CH_RECCFG n, 9, 1⟩
def Fld.CH_TARGET_TLEN (n : Chan) : Field := ⟨Reg.CH_TARGET n, 30, 2⟩
def Fld.CH_TARGET_T4 (n : Chan) : Field := ⟨Reg.CH_TARGET n, 24, 6⟩
def Fld.CH_TARGET_T3 (n : Chan) : Field := ⟨Reg.CH_TARGET n, 18, 6⟩
def Fld.CH_TARGET_T2 (n : Chan) : Field := ⟨Reg.CH_TARGET n, 12, 6⟩
def Fld.CH_TARGET_T1 (n : Chan) : Field := ⟨Reg.CH_TARGET n, 6, 6⟩
def Fld.CH_TARGET_T0 (n : Chan) : Field := ⟨Reg.CH_TARGET n, 0, 6⟩
def Fld.CH_FE_RDLY (n : Chan) : Field := ⟨Reg.CH_FE n, 24, 8⟩
def Fld.CH_FE_CTF_FC (n : Chan) : Field := ⟨Reg.CH_FE n, 8, 8⟩
def Fld.CH_FE_BOOST (n : Chan) : Field := ⟨Reg.CH_FE n, 4, 4⟩
def Fld.CH_EQADDR_ADDR (n : Chan) : Field := ⟨Reg.CH_EQADDR n, 0, 7⟩
def Fld.CH_EQDATA_TAP (n : Chan) : Field := ⟨Reg.CH_EQDATA n, 0, 10⟩
def Fld.CH_AGC_VGA1 (n : Chan) : Field := ⟨Reg.CH_AGC n, 24, 8⟩
def Fld.CH_AGC_VGA0 (n : Chan) : Field := ⟨Reg.CH_AGC n, 16, 8⟩
def Fld.CH_AGC_DC1 (n : Chan) : Field := ⟨Reg.CH_AGC n, 8, 8⟩
def Fld.CH_AGC_DC0 (n : Chan) : Field := ⟨Reg.CH_AGC n, 0, 8⟩
def Fld.CH_TLOOP_FOFS (n : Chan) : Field := ⟨Reg.CH_TLOOP n, 16, 16⟩
def Fld.CH_TLOOP_PHASE (n : Chan) : Field := ⟨Reg.CH_TLOOP n, 0, 16⟩
def Fld.CH_FREC_REASON (n : Chan) (k : Nat) : Field := ⟨Reg.CH_FREC n k, 28, 4⟩
def Fld.CH_FREC_HEAD (n : Chan) (k : Nat) : Field := ⟨Reg.CH_FREC n k, 24, 4⟩
def Fld.CH_FREC_SECTOR (n : Chan) (k : Nat) : Field := ⟨Reg.CH_FREC n k, 12, 12⟩
def Fld.CH_FREC_CTX (n : Chan) (k : Nat) : Field := ⟨Reg.CH_FREC n k, 0, 10⟩
def Fld.CH_FRECPOP_POP (n : Chan) : Field := ⟨Reg.CH_FRECPOP n, 0, 1⟩
def Fld.CH_FRECSTAT_COUNT (n : Chan) : Field := ⟨Reg.CH_FRECSTAT n, 0, 6⟩
def Fld.CH_SECTORS_COUNT (n : Chan) : Field := ⟨Reg.CH_SECTORS n, 0, 32⟩
def Fld.CH_SECTORSH_COUNT (n : Chan) : Field := ⟨Reg.CH_SECTORSH n, 0, 32⟩
def Fld.CH_CNTR_REDET_OK (n : Chan) : Field := ⟨Reg.CH_CNTR n, 16, 16⟩
def Fld.CH_CNTR_REDET_FAIL (n : Chan) : Field := ⟨Reg.CH_CNTR n, 0, 16⟩
def Fld.CH_CNTF_FAIL (n : Chan) : Field := ⟨Reg.CH_CNTF n, 16, 16⟩
def Fld.CH_CNTF_DROP (n : Chan) : Field := ⟨Reg.CH_CNTF n, 8, 8⟩
def Fld.CH_CNTF_BUSY (n : Chan) : Field := ⟨Reg.CH_CNTF n, 0, 8⟩
def Fld.WRP_FLT_LMON (x : Act) : Field := ⟨Reg.WRP_EVT x, 9, 1⟩
def Fld.WRP_FLT_LGMAX (x : Act) : Field := ⟨Reg.WRP_EVT x, 8, 1⟩
def Fld.WRP_EV_CONTACT (x : Act) : Field := ⟨Reg.WRP_EVT x, 5, 1⟩
def Fld.WRP_EV_TORNOVF (x : Act) : Field := ⟨Reg.WRP_EVT x, 4, 1⟩
def Fld.WRP_EV_TORN (x : Act) : Field := ⟨Reg.WRP_EVT x, 3, 1⟩
def Fld.WRP_EV_WGREL (x : Act) : Field := ⟨Reg.WRP_EVT x, 2, 1⟩
def Fld.WRP_EV_WGTRIP (x : Act) : Field := ⟨Reg.WRP_EVT x, 0, 1⟩
def Fld.WRP_STAT_HOLDING (x : Act) : Field := ⟨Reg.WRP_STAT x, 8, 8⟩
def Fld.WRP_STAT_LG1 (x : Act) : Field := ⟨Reg.WRP_STAT x, 3, 1⟩
def Fld.WRP_STAT_LG0 (x : Act) : Field := ⟨Reg.WRP_STAT x, 2, 1⟩
def Fld.WRP_STAT_WG1 (x : Act) : Field := ⟨Reg.WRP_STAT x, 1, 1⟩
def Fld.WRP_STAT_WG0 (x : Act) : Field := ⟨Reg.WRP_STAT x, 0, 1⟩
def Fld.WRP_CFG_AMODE (x : Act) : Field := ⟨Reg.WRP_CFG x, 0, 2⟩
def Fld.WRP_PTBASE_BASE (x : Act) : Field := ⟨Reg.WRP_PTBASE x, 8, 24⟩
def Fld.WRP_ASSIST_HT_DWELL (x : Act) : Field := ⟨Reg.WRP_ASSIST x, 24, 8⟩
def Fld.WRP_ASSIST_LGMAX (x : Act) : Field := ⟨Reg.WRP_ASSIST x, 16, 6⟩
def Fld.WRP_ASSIST_RELEAD (x : Act) : Field := ⟨Reg.WRP_ASSIST x, 0, 8⟩
def Fld.WRP_LMON_LM_DELTA (x : Act) : Field := ⟨Reg.WRP_LMON x, 16, 8⟩
def Fld.WRP_LMON_LM_FRZ (x : Act) : Field := ⟨Reg.WRP_LMON x, 4, 4⟩
def Fld.WRP_LMON_LM_MISS (x : Act) : Field := ⟨Reg.WRP_LMON x, 0, 3⟩
def Fld.WRP_WGLIM_PESLIM (x : Act) : Field := ⟨Reg.WRP_WGLIM x, 0, 8⟩
def Fld.WRP_WGCTL_LMREL (x : Act) : Field := ⟨Reg.WRP_WGCTL x, 0, 1⟩
def Fld.WRP_WGLAST_TRIPS (x : Act) : Field := ⟨Reg.WRP_WGLAST x, 16, 16⟩
def Fld.WRP_WGLAST_CAUSE (x : Act) : Field := ⟨Reg.WRP_WGLAST x, 0, 8⟩
def Fld.WRPA_SHOCK_HOLD : Field := ⟨Reg.WRPA_SHOCK, 16, 8⟩
def Fld.WRPA_SHOCK_THR1 : Field := ⟨Reg.WRPA_SHOCK, 8, 8⟩
def Fld.WRPA_SHOCK_THR0 : Field := ⟨Reg.WRPA_SHOCK, 0, 8⟩
def Fld.WRP_TORN_CAUSE (x : Act) (k : Nat) : Field := ⟨Reg.WRP_TORN x k, 24, 8⟩
def Fld.WRP_TORN_HEAD (x : Act) (k : Nat) : Field := ⟨Reg.WRP_TORN x k, 20, 4⟩
def Fld.WRP_TORN_SECTOR (x : Act) (k : Nat) : Field := ⟨Reg.WRP_TORN x k, 8, 12⟩
def Fld.WRP_TORN_SHINGLED (x : Act) (k : Nat) : Field := ⟨Reg.WRP_TORN x k, 7, 1⟩
def Fld.WRP_TORN_VREQ (x : Act) (k : Nat) : Field := ⟨Reg.WRP_TORN x k, 6, 1⟩
def Fld.WRP_TORN_DIR (x : Act) (k : Nat) : Field := ⟨Reg.WRP_TORN x k, 5, 1⟩
def Fld.WRP_TORN_VALID (x : Act) (k : Nat) : Field := ⟨Reg.WRP_TORN x k, 0, 1⟩
def Fld.WRP_TORNPOP_POP (x : Act) : Field := ⟨Reg.WRP_TORNPOP x, 0, 1⟩
def Fld.WRP_TORNSTAT_COUNT (x : Act) : Field := ⟨Reg.WRP_TORNSTAT x, 0, 4⟩
def Fld.PLK_FLT_PREAMP (x : Act) : Field := ⟨Reg.PLK_EVT x, 8, 1⟩
def Fld.PLK_EV_TMO (x : Act) : Field := ⟨Reg.PLK_EVT x, 2, 1⟩
def Fld.PLK_EV_RETRY (x : Act) : Field := ⟨Reg.PLK_EVT x, 1, 1⟩
def Fld.PLK_EV_REQDONE (x : Act) : Field := ⟨Reg.PLK_EVT x, 0, 1⟩
def Fld.PLK_STAT_FLTPIN (x : Act) : Field := ⟨Reg.PLK_STAT x, 2, 1⟩
def Fld.PLK_STAT_FAULTED (x : Act) : Field := ⟨Reg.PLK_STAT x, 1, 1⟩
def Fld.PLK_STAT_BUSY (x : Act) : Field := ⟨Reg.PLK_STAT x, 0, 1⟩
def Fld.PLK_CFG_STATADDR (x : Act) : Field := ⟨Reg.PLK_CFG x, 24, 7⟩
def Fld.PLK_CFG_RSPTMO (x : Act) : Field := ⟨Reg.PLK_CFG x, 16, 8⟩
def Fld.PLK_CFG_FLTFILT (x : Act) : Field := ⟨Reg.PLK_CFG x, 8, 4⟩
def Fld.PLK_CFG_SCLKDIV (x : Act) : Field := ⟨Reg.PLK_CFG x, 0, 4⟩
def Fld.PLK_ADDR_HSADDR (x : Act) : Field := ⟨Reg.PLK_ADDR x, 24, 7⟩
def Fld.PLK_ADDR_HTRADDR (x : Act) : Field := ⟨Reg.PLK_ADDR x, 16, 7⟩
def Fld.PLK_ADDR_LASADDR (x : Act) : Field := ⟨Reg.PLK_ADDR x, 8, 7⟩
def Fld.PLK_ADDR_SENSADDR (x : Act) : Field := ⟨Reg.PLK_ADDR x, 0, 7⟩
def Fld.PLK_REQ_GO (x : Act) : Field := ⟨Reg.PLK_REQ x, 31, 1⟩
def Fld.PLK_REQ_RD (x : Act) : Field := ⟨Reg.PLK_REQ x, 30, 1⟩
def Fld.PLK_REQ_ADDR (x : Act) : Field := ⟨Reg.PLK_REQ x, 23, 7⟩
def Fld.PLK_REQ_DATA (x : Act) : Field := ⟨Reg.PLK_REQ x, 0, 16⟩
def Fld.PLK_RSP_TMO (x : Act) : Field := ⟨Reg.PLK_RSP x, 31, 1⟩
def Fld.PLK_RSP_RETRY (x : Act) : Field := ⟨Reg.PLK_RSP x, 30, 1⟩
def Fld.PLK_RSP_STATUS (x : Act) : Field := ⟨Reg.PLK_RSP x, 16, 8⟩
def Fld.PLK_RSP_DATA (x : Act) : Field := ⟨Reg.PLK_RSP x, 0, 16⟩
def Fld.PLK_FLTCODE_PIN (x : Act) : Field := ⟨Reg.PLK_FLTCODE x, 31, 1⟩
def Fld.PLK_FLTCODE_STATUS (x : Act) : Field := ⟨Reg.PLK_FLTCODE x, 0, 16⟩
def Fld.PLK_CNT_RETRY (x : Act) : Field := ⟨Reg.PLK_CNT x, 16, 16⟩
def Fld.PLK_CNT_TMO (x : Act) : Field := ⟨Reg.PLK_CNT x, 0, 16⟩
def Fld.PLK_WFADDR_IWADDR (x : Act) : Field := ⟨Reg.PLK_WFADDR x, 16, 7⟩
def Fld.PLK_WFADDR_OSAADDR (x : Act) : Field := ⟨Reg.PLK_WFADDR x, 8, 7⟩
def Fld.PLK_WFADDR_OSDADDR (x : Act) : Field := ⟨Reg.PLK_WFADDR x, 0, 7⟩
def Fld.LPE_FLT_SIMPLEX : Field := ⟨Reg.LPE_EVT, 16, 1⟩
def Fld.LPE_FLT_FE : Field := ⟨Reg.LPE_EVT, 15, 1⟩
def Fld.LPE_FLT_SSAT : Field := ⟨Reg.LPE_EVT, 14, 1⟩
def Fld.LPE_FLT_VSATB : Field := ⟨Reg.LPE_EVT, 13, 1⟩
def Fld.LPE_FLT_VSATA : Field := ⟨Reg.LPE_EVT, 12, 1⟩
def Fld.LPE_FLT_OVRB : Field := ⟨Reg.LPE_EVT, 11, 1⟩
def Fld.LPE_FLT_OVRA : Field := ⟨Reg.LPE_EVT, 10, 1⟩
def Fld.LPE_FLT_RETB : Field := ⟨Reg.LPE_EVT, 9, 1⟩
def Fld.LPE_FLT_RETA : Field := ⟨Reg.LPE_EVT, 8, 1⟩
def Fld.LPE_EV_READMIT : Field := ⟨Reg.LPE_EVT, 7, 1⟩
def Fld.LPE_EV_COASTB : Field := ⟨Reg.LPE_EVT, 4, 1⟩
def Fld.LPE_EV_COASTA : Field := ⟨Reg.LPE_EVT, 3, 1⟩
def Fld.LPE_EV_SAFEB : Field := ⟨Reg.LPE_EVT, 2, 1⟩
def Fld.LPE_EV_SAFEA : Field := ⟨Reg.LPE_EVT, 1, 1⟩
def Fld.LPE_EV_TAKEOVER : Field := ⟨Reg.LPE_EVT, 0, 1⟩
def Fld.LPE_STAT_COPY : Field := ⟨Reg.LPE_STAT, 30, 1⟩
def Fld.LPE_STAT_DUPLEX : Field := ⟨Reg.LPE_STAT, 29, 1⟩
def Fld.LPE_STAT_ACTB : Field := ⟨Reg.LPE_STAT, 8, 8⟩
def Fld.LPE_STAT_LOADED : Field := ⟨Reg.LPE_STAT, 7, 1⟩
def Fld.LPE_STAT_WROK : Field := ⟨Reg.LPE_STAT, 6, 1⟩
def Fld.LPE_STAT_RDOK : Field := ⟨Reg.LPE_STAT, 5, 1⟩
def Fld.LPE_STAT_SEARCH : Field := ⟨Reg.LPE_STAT, 4, 1⟩
def Fld.LPE_STAT_COAST : Field := ⟨Reg.LPE_STAT, 3, 1⟩
def Fld.LPE_STAT_SAFE : Field := ⟨Reg.LPE_STAT, 2, 1⟩
def Fld.LPE_STAT_REGION : Field := ⟨Reg.LPE_STAT, 0, 2⟩
def Fld.LPE_CTL_LMS_MU : Field := ⟨Reg.LPE_CTL, 12, 4⟩
def Fld.LPE_CTL_FFVALE : Field := ⟨Reg.LPE_CTL, 11, 1⟩
def Fld.LPE_CTL_LMS : Field := ⟨Reg.LPE_CTL, 10, 1⟩
def Fld.LPE_CTL_FFRV : Field := ⟨Reg.LPE_CTL, 9, 1⟩
def Fld.LPE_CTL_READMIT : Field := ⟨Reg.LPE_CTL, 0, 1⟩
def Fld.LPE_REGION_THR_SET : Field := ⟨Reg.LPE_REGION, 16, 12⟩
def Fld.LPE_REGION_FOL_N : Field := ⟨Reg.LPE_REGION, 12, 4⟩
def Fld.LPE_REGION_THR_FOL : Field := ⟨Reg.LPE_REGION, 0, 12⟩
def Fld.LPE_SETTLE_WR_N : Field := ⟨Reg.LPE_SETTLE, 28, 4⟩
def Fld.LPE_SETTLE_WR_CRIT : Field := ⟨Reg.LPE_SETTLE, 16, 10⟩
def Fld.LPE_SETTLE_RD_N : Field := ⟨Reg.LPE_SETTLE, 12, 4⟩
def Fld.LPE_SETTLE_RD_CRIT : Field := ⟨Reg.LPE_SETTLE, 0, 10⟩
def Fld.LPE_SERVO_SEARCH_REV : Field := ⟨Reg.LPE_SERVO, 24, 2⟩
def Fld.LPE_SERVO_FRZ_N : Field := ⟨Reg.LPE_SERVO, 16, 4⟩
def Fld.LPE_SERVO_BURST_MIN : Field := ⟨Reg.LPE_SERVO, 8, 6⟩
def Fld.LPE_SERVO_COAST_MAX : Field := ⟨Reg.LPE_SERVO, 0, 4⟩
def Fld.LPE_SAT_SSAT_TIME : Field := ⟨Reg.LPE_SAT, 16, 8⟩
def Fld.LPE_SAT_VSAT_TIME : Field := ⟨Reg.LPE_SAT, 0, 8⟩
def Fld.LPE_FEUA_FE_LIM : Field := ⟨Reg.LPE_FEUA, 16, 16⟩
def Fld.LPE_FEUA_FE_TIME : Field := ⟨Reg.LPE_FEUA, 0, 16⟩
def Fld.LPE_FELAS_FE_LIM : Field := ⟨Reg.LPE_FELAS, 16, 16⟩
def Fld.LPE_FELAS_FE_TIME : Field := ⟨Reg.LPE_FELAS, 0, 16⟩
def Fld.LPE_FEHTR_FE_LIM : Field := ⟨Reg.LPE_FEHTR, 16, 16⟩
def Fld.LPE_FEHTR_FE_TIME : Field := ⟨Reg.LPE_FEHTR, 0, 16⟩
def Fld.LPE_FEBUS_FE_LIM : Field := ⟨Reg.LPE_FEBUS, 16, 16⟩
def Fld.LPE_FEBUS_FE_TIME : Field := ⟨Reg.LPE_FEBUS, 0, 16⟩
def Fld.LPE_FESTAT_BUS : Field := ⟨Reg.LPE_FESTAT, 12, 1⟩
def Fld.LPE_FESTAT_HTR : Field := ⟨Reg.LPE_FESTAT, 8, 4⟩
def Fld.LPE_FESTAT_LAS : Field := ⟨Reg.LPE_FESTAT, 4, 4⟩
def Fld.LPE_FESTAT_UA : Field := ⟨Reg.LPE_FESTAT, 0, 4⟩
def Fld.LPE_ILIM_ILIM (x : Act) : Field := ⟨Reg.LPE_ILIM x, 0, 8⟩
def Fld.LPE_SILIM_ILIM : Field := ⟨Reg.LPE_SILIM, 0, 8⟩
def Fld.LPE_ARB_WIN (x : Act) : Field := ⟨Reg.LPE_ARB x, 16, 3⟩
def Fld.LPE_ARB_OUT (x : Act) : Field := ⟨Reg.LPE_ARB x, 0, 16⟩
def Fld.LPE_ARBS_WIN : Field := ⟨Reg.LPE_ARBS, 16, 3⟩
def Fld.LPE_ARBS_OUT : Field := ⟨Reg.LPE_ARBS, 0, 16⟩
def Fld.LPE_OVR_OTHER : Field := ⟨Reg.LPE_OVR, 24, 8⟩
def Fld.LPE_OVR_OVR_CNTB : Field := ⟨Reg.LPE_OVR, 12, 12⟩
def Fld.LPE_OVR_OVR_CNTA : Field := ⟨Reg.LPE_OVR, 0, 12⟩
def Fld.LPE_DUP_MISMATCH : Field := ⟨Reg.LPE_DUP, 16, 16⟩
def Fld.LPE_DUP_RDM : Field := ⟨Reg.LPE_DUP, 0, 2⟩
def Fld.LPE_RET_REASONB : Field := ⟨Reg.LPE_RET, 4, 4⟩
def Fld.LPE_RET_REASONA : Field := ⟨Reg.LPE_RET, 0, 4⟩
def Fld.LPE_BANK_ACTIVE : Field := ⟨Reg.LPE_BANK, 8, 3⟩
def Fld.LPE_BANK_SWAP : Field := ⟨Reg.LPE_BANK, 0, 3⟩
def Fld.LPE_COEFADDR_ACTV : Field := ⟨Reg.LPE_COEFADDR, 31, 1⟩
def Fld.LPE_COEFADDR_GROUP : Field := ⟨Reg.LPE_COEFADDR, 16, 2⟩
def Fld.LPE_COEFADDR_WORD : Field := ⟨Reg.LPE_COEFADDR, 0, 12⟩
def Fld.LPE_COEFDATA_DATA : Field := ⟨Reg.LPE_COEFDATA, 0, 32⟩
def Fld.LPE_PES_PES1 (x : Act) : Field := ⟨Reg.LPE_PES x, 16, 16⟩
def Fld.LPE_PES_PES0 (x : Act) : Field := ⟨Reg.LPE_PES x, 0, 16⟩
def Fld.LPE_POS_POS (x : Act) : Field := ⟨Reg.LPE_POS x, 0, 32⟩
def Fld.LPE_NCOEF_SLOT (x : Act) (k : Nat) : Field := ⟨Reg.LPE_NCOEF x k, 24, 6⟩
def Fld.LPE_NCOEF_EN (x : Act) (k : Nat) : Field := ⟨Reg.LPE_NCOEF x k, 23, 1⟩
def Fld.LPE_NCOEF_COEF (x : Act) (k : Nat) : Field := ⟨Reg.LPE_NCOEF x k, 0, 16⟩
def Fld.DRV_FLT_BOOST : Field := ⟨Reg.DRV_EVT, 12, 1⟩
def Fld.DRV_FLT_UAOC : Field := ⟨Reg.DRV_EVT, 11, 1⟩
def Fld.DRV_FLT_OPENB : Field := ⟨Reg.DRV_EVT, 10, 1⟩
def Fld.DRV_FLT_OPENA : Field := ⟨Reg.DRV_EVT, 9, 1⟩
def Fld.DRV_FLT_OC : Field := ⟨Reg.DRV_EVT, 8, 1⟩
def Fld.DRV_EV_RETDONEB : Field := ⟨Reg.DRV_EVT, 1, 1⟩
def Fld.DRV_EV_RETDONEA : Field := ⟨Reg.DRV_EVT, 0, 1⟩
def Fld.DRV_STAT_OFFB : Field := ⟨Reg.DRV_STAT, 10, 1⟩
def Fld.DRV_STAT_OFFA : Field := ⟨Reg.DRV_STAT, 9, 1⟩
def Fld.DRV_STAT_BOOSTOK : Field := ⟨Reg.DRV_STAT, 8, 1⟩
def Fld.DRV_STAT_UAON : Field := ⟨Reg.DRV_STAT, 4, 4⟩
def Fld.DRV_STAT_RETB : Field := ⟨Reg.DRV_STAT, 1, 1⟩
def Fld.DRV_STAT_RETA : Field := ⟨Reg.DRV_STAT, 0, 1⟩
def Fld.DRV_CFG_XOVER : Field := ⟨Reg.DRV_CFG, 8, 8⟩
def Fld.DRV_CFG_BOOSTEN : Field := ⟨Reg.DRV_CFG, 1, 1⟩
def Fld.DRV_CFG_PWMF : Field := ⟨Reg.DRV_CFG, 0, 1⟩
def Fld.DRV_RETRACT_TRET : Field := ⟨Reg.DRV_RETRACT, 16, 8⟩
def Fld.DRV_RETRACT_VRET : Field := ⟨Reg.DRV_RETRACT, 8, 8⟩
def Fld.DRV_RETRACT_IRET : Field := ⟨Reg.DRV_RETRACT, 0, 8⟩
def Fld.DRV_UACT_EN : Field := ⟨Reg.DRV_UACT, 0, 4⟩
def Fld.DRV_IVCM_IB : Field := ⟨Reg.DRV_IVCM, 16, 16⟩
def Fld.DRV_IVCM_IA : Field := ⟨Reg.DRV_IVCM, 0, 16⟩
def Fld.SPN_FLT_STOP : Field := ⟨Reg.SPN_EVT, 12, 1⟩
def Fld.SPN_FLT_OC : Field := ⟨Reg.SPN_EVT, 11, 1⟩
def Fld.SPN_FLT_BEMF : Field := ⟨Reg.SPN_EVT, 10, 1⟩
def Fld.SPN_FLT_KE : Field := ⟨Reg.SPN_EVT, 9, 1⟩
def Fld.SPN_FLT_PROBE : Field := ⟨Reg.SPN_EVT, 8, 1⟩
def Fld.SPN_EV_LEVEL : Field := ⟨Reg.SPN_EVT, 6, 1⟩
def Fld.SPN_EV_STOPPED : Field := ⟨Reg.SPN_EVT, 5, 1⟩
def Fld.SPN_EV_PININV : Field := ⟨Reg.SPN_EVT, 4, 1⟩
def Fld.SPN_EV_BEMFOK : Field := ⟨Reg.SPN_EVT, 3, 1⟩
def Fld.SPN_EV_BEMFLOST : Field := ⟨Reg.SPN_EVT, 2, 1⟩
def Fld.SPN_EV_KE : Field := ⟨Reg.SPN_EVT, 1, 1⟩
def Fld.SPN_EV_INREG : Field := ⟨Reg.SPN_EVT, 0, 1⟩
def Fld.SPN_STAT_STATE : Field := ⟨Reg.SPN_STAT, 24, 4⟩
def Fld.SPN_STAT_KEBAD : Field := ⟨Reg.SPN_STAT, 8, 1⟩
def Fld.SPN_STAT_LOWV : Field := ⟨Reg.SPN_STAT, 7, 1⟩
def Fld.SPN_STAT_REST : Field := ⟨Reg.SPN_STAT, 6, 1⟩
def Fld.SPN_STAT_DIR : Field := ⟨Reg.SPN_STAT, 5, 1⟩
def Fld.SPN_STAT_BEMFOK : Field := ⟨Reg.SPN_STAT, 4, 1⟩
def Fld.SPN_STAT_INREG : Field := ⟨Reg.SPN_STAT, 3, 1⟩
def Fld.SPN_STAT_LEVEL : Field := ⟨Reg.SPN_STAT, 2, 1⟩
def Fld.SPN_STAT_SRVCOM : Field := ⟨Reg.SPN_STAT, 1, 1⟩
def Fld.SPN_STAT_DRIVING : Field := ⟨Reg.SPN_STAT, 0, 1⟩
def Fld.SPN_CTL_KEREQ : Field := ⟨Reg.SPN_CTL, 1, 1⟩
def Fld.SPN_CTL_RUN : Field := ⟨Reg.SPN_CTL, 0, 1⟩
def Fld.SPN_TARGET_TOL : Field := ⟨Reg.SPN_TARGET, 24, 8⟩
def Fld.SPN_TARGET_RPM : Field := ⟨Reg.SPN_TARGET, 0, 14⟩
def Fld.SPN_RAMP_ACC : Field := ⟨Reg.SPN_RAMP, 16, 16⟩
def Fld.SPN_RAMP_DEC : Field := ⟨Reg.SPN_RAMP, 0, 16⟩
def Fld.SPN_MOTOR_T_MINWIN : Field := ⟨Reg.SPN_MOTOR, 24, 8⟩
def Fld.SPN_MOTOR_PWMF : Field := ⟨Reg.SPN_MOTOR, 16, 8⟩
def Fld.SPN_MOTOR_POLES : Field := ⟨Reg.SPN_MOTOR, 0, 4⟩
def Fld.SPN_LEVEL_L2_ON : Field := ⟨Reg.SPN_LEVEL, 16, 14⟩
def Fld.SPN_LEVEL_L2_OFF : Field := ⟨Reg.SPN_LEVEL, 0, 14⟩
def Fld.SPN_START_SENSE_T : Field := ⟨Reg.SPN_START, 24, 8⟩
def Fld.SPN_START_ISTART : Field := ⟨Reg.SPN_START, 16, 8⟩
def Fld.SPN_START_HANDOFF : Field := ⟨Reg.SPN_START, 0, 14⟩
def Fld.SPN_CATCH_CATCH_MIN : Field := ⟨Reg.SPN_CATCH, 16, 14⟩
def Fld.SPN_CATCH_REV_MIN : Field := ⟨Reg.SPN_CATCH, 0, 14⟩
def Fld.SPN_BRAKE_STOP_TMO : Field := ⟨Reg.SPN_BRAKE, 24, 8⟩
def Fld.SPN_BRAKE_SB_RPM : Field := ⟨Reg.SPN_BRAKE, 0, 14⟩
def Fld.SPN_BEMF_REST_MAX : Field := ⟨Reg.SPN_BEMF, 24, 8⟩
def Fld.SPN_BEMF_BEMF_MIN : Field := ⟨Reg.SPN_BEMF, 16, 8⟩
def Fld.SPN_BEMF_BFRZ_N : Field := ⟨Reg.SPN_BEMF, 8, 4⟩
def Fld.SPN_BEMF_BEMF_TMO : Field := ⟨Reg.SPN_BEMF, 0, 4⟩
def Fld.SPN_KENOM_NOM : Field := ⟨Reg.SPN_KENOM, 0, 16⟩
def Fld.SPN_KE_DEV : Field := ⟨Reg.SPN_KE, 24, 8⟩
def Fld.SPN_KE_KE : Field := ⟨Reg.SPN_KE, 0, 16⟩
def Fld.SPN_CMDSRC_PINFS : Field := ⟨Reg.SPN_CMDSRC, 16, 14⟩
def Fld.SPN_CMDSRC_FPR : Field := ⟨Reg.SPN_CMDSRC, 8, 8⟩
def Fld.SPN_CMDSRC_SRC : Field := ⟨Reg.SPN_CMDSRC, 0, 2⟩
def Fld.SPN_PIN_VALID : Field := ⟨Reg.SPN_PIN, 31, 1⟩
def Fld.SPN_PIN_RAW : Field := ⟨Reg.SPN_PIN, 16, 12⟩
def Fld.SPN_PIN_TGT : Field := ⟨Reg.SPN_PIN, 0, 14⟩
def Fld.SPN_LOWV_RPM : Field := ⟨Reg.SPN_LOWV, 0, 14⟩
def Fld.SPN_SPEED_DIR : Field := ⟨Reg.SPN_SPEED, 31, 1⟩
def Fld.SPN_SPEED_RPM4 : Field := ⟨Reg.SPN_SPEED, 0, 16⟩
def Fld.SPN_CNT_NARROW : Field := ⟨Reg.SPN_CNT, 16, 16⟩
def Fld.SPN_CNT_VLIM : Field := ⟨Reg.SPN_CNT, 0, 16⟩
def Fld.SPN_CNT2_OC : Field := ⟨Reg.SPN_CNT2, 24, 8⟩
def Fld.SPN_CNT2_LOST : Field := ⟨Reg.SPN_CNT2, 16, 8⟩
def Fld.SPN_CNT2_STARTS : Field := ⟨Reg.SPN_CNT2, 0, 16⟩
def Fld.PWR_EV_CHOP_STUCK : Field := ⟨Reg.PWR_EVT, 11, 1⟩
def Fld.PWR_EV_CHOP_OPEN : Field := ⟨Reg.PWR_EVT, 10, 1⟩
def Fld.PWR_EV_VCLIM : Field := ⟨Reg.PWR_EVT, 9, 1⟩
def Fld.PWR_FLT_PRERAIL : Field := ⟨Reg.PWR_EVT, 8, 1⟩
def Fld.PWR_EV_VCPHASE : Field := ⟨Reg.PWR_EVT, 7, 1⟩
def Fld.PWR_EV_OV3 : Field := ⟨Reg.PWR_EVT, 6, 1⟩
def Fld.PWR_EV_OV2 : Field := ⟨Reg.PWR_EVT, 5, 1⟩
def Fld.PWR_EV_OV1 : Field := ⟨Reg.PWR_EVT, 4, 1⟩
def Fld.PWR_EV_RETRACT : Field := ⟨Reg.PWR_EVT, 3, 1⟩
def Fld.PWR_EV_LOWV : Field := ⟨Reg.PWR_EVT, 2, 1⟩
def Fld.PWR_EV_UVREL : Field := ⟨Reg.PWR_EVT, 1, 1⟩
def Fld.PWR_EV_UVW : Field := ⟨Reg.PWR_EVT, 0, 1⟩
def Fld.PWR_STAT_RETPH : Field := ⟨Reg.PWR_STAT, 11, 2⟩
def Fld.PWR_STAT_CHOPBLK : Field := ⟨Reg.PWR_STAT, 9, 1⟩
def Fld.PWR_STAT_BRK : Field := ⟨Reg.PWR_STAT, 8, 1⟩
def Fld.PWR_STAT_ISO : Field := ⟨Reg.PWR_STAT, 7, 1⟩
def Fld.PWR_STAT_OV3 : Field := ⟨Reg.PWR_STAT, 6, 1⟩
def Fld.PWR_STAT_OV2 : Field := ⟨Reg.PWR_STAT, 5, 1⟩
def Fld.PWR_STAT_OV1 : Field := ⟨Reg.PWR_STAT, 4, 1⟩
def Fld.PWR_STAT_LOWV : Field := ⟨Reg.PWR_STAT, 3, 1⟩
def Fld.PWR_STAT_PLD : Field := ⟨Reg.PWR_STAT, 2, 1⟩
def Fld.PWR_STAT_UVHOLD : Field := ⟨Reg.PWR_STAT, 1, 1⟩
def Fld.PWR_STAT_UVW : Field := ⟨Reg.PWR_STAT, 0, 1⟩
def Fld.PWR_VINCFG_TUVW : Field := ⟨Reg.PWR_VINCFG, 24, 8⟩
def Fld.PWR_VINCFG_PLD : Field := ⟨Reg.PWR_VINCFG, 16, 8⟩
def Fld.PWR_VINCFG_UVW : Field := ⟨Reg.PWR_VINCFG, 0, 8⟩
def Fld.PWR_LOWV_VLOW : Field := ⟨Reg.PWR_LOWV, 0, 8⟩
def Fld.PWR_RET_TMAX : Field := ⟨Reg.PWR_RET, 16, 16⟩
def Fld.PWR_RET_DSTGMIN : Field := ⟨Reg.PWR_RET, 8, 8⟩
def Fld.PWR_RET_VBUS : Field := ⟨Reg.PWR_RET, 0, 8⟩
def Fld.PWR_RETCTL_DONE : Field := ⟨Reg.PWR_RETCTL, 1, 1⟩
def Fld.PWR_RETCTL_END : Field := ⟨Reg.PWR_RETCTL, 0, 1⟩
def Fld.PWR_BUS_BUSMAX : Field := ⟨Reg.PWR_BUS, 0, 8⟩
def Fld.PWR_CHOP_SNSG : Field := ⟨Reg.PWR_CHOP, 16, 16⟩
def Fld.PWR_CHOP_RBRK : Field := ⟨Reg.PWR_CHOP, 0, 16⟩
def Fld.PWR_CTL_CHOPREL : Field := ⟨Reg.PWR_CTL, 8, 1⟩
def Fld.PWR_CTL_PREEN : Field := ⟨Reg.PWR_CTL, 0, 1⟩
def Fld.PWR_BUDGET_PMAX : Field := ⟨Reg.PWR_BUDGET, 16, 16⟩
def Fld.PWR_BUDGET_SHSPN : Field := ⟨Reg.PWR_BUDGET, 8, 8⟩
def Fld.PWR_BUDGET_SHVCM : Field := ⟨Reg.PWR_BUDGET, 0, 8⟩
def Fld.PWR_VIN_VMIN : Field := ⟨Reg.PWR_VIN, 16, 16⟩
def Fld.PWR_VIN_VIN : Field := ⟨Reg.PWR_VIN, 0, 16⟩
def Fld.PWR_RAIL_PHASES : Field := ⟨Reg.PWR_RAIL, 8, 3⟩
def Fld.PWR_RAIL_OK : Field := ⟨Reg.PWR_RAIL, 0, 7⟩
def Fld.PWR_CNT_RET : Field := ⟨Reg.PWR_CNT, 24, 8⟩
def Fld.PWR_CNT_PLD : Field := ⟨Reg.PWR_CNT, 16, 8⟩
def Fld.PWR_CNT_UVW : Field := ⟨Reg.PWR_CNT, 0, 16⟩
def Fld.THM_FLT_SENSOR : Field := ⟨Reg.THM_EVT, 8, 1⟩
def Fld.THM_EV_THERMAL : Field := ⟨Reg.THM_EVT, 5, 1⟩
def Fld.THM_EV_EDGEERR : Field := ⟨Reg.THM_EVT, 4, 1⟩
def Fld.THM_EV_BASE : Field := ⟨Reg.THM_EVT, 3, 1⟩
def Fld.THM_EV_WARNREL : Field := ⟨Reg.THM_EVT, 2, 1⟩
def Fld.THM_EV_WARN : Field := ⟨Reg.THM_EVT, 1, 1⟩
def Fld.THM_EV_BAND : Field := ⟨Reg.THM_EVT, 0, 1⟩
def Fld.THM_STAT_BANDB : Field := ⟨Reg.THM_STAT, 24, 3⟩
def Fld.THM_STAT_BANDA : Field := ⟨Reg.THM_STAT, 20, 3⟩
def Fld.THM_STAT_BAND : Field := ⟨Reg.THM_STAT, 16, 3⟩
def Fld.THM_STAT_FAST : Field := ⟨Reg.THM_STAT, 4, 1⟩
def Fld.THM_STAT_THROT : Field := ⟨Reg.THM_STAT, 3, 1⟩
def Fld.THM_STAT_WARN : Field := ⟨Reg.THM_STAT, 2, 1⟩
def Fld.THM_STAT_BVALID : Field := ⟨Reg.THM_STAT, 1, 1⟩
def Fld.THM_CFG_WARN_HYST : Field := ⟨Reg.THM_CFG, 20, 4⟩
def Fld.THM_CFG_NEAR : Field := ⟨Reg.THM_CFG, 12, 4⟩
def Fld.THM_CFG_BAND_HYST : Field := ⟨Reg.THM_CFG, 4, 8⟩
def Fld.THM_CFG_BSRC : Field := ⟨Reg.THM_CFG, 0, 2⟩
def Fld.THM_EDGES0_E3 : Field := ⟨Reg.THM_EDGES0, 24, 8⟩
def Fld.THM_EDGES0_E2 : Field := ⟨Reg.THM_EDGES0, 16, 8⟩
def Fld.THM_EDGES0_E1 : Field := ⟨Reg.THM_EDGES0, 8, 8⟩
def Fld.THM_EDGES0_E0 : Field := ⟨Reg.THM_EDGES0, 0, 8⟩
def Fld.THM_EDGES1_E6 : Field := ⟨Reg.THM_EDGES1, 16, 8⟩
def Fld.THM_EDGES1_E5 : Field := ⟨Reg.THM_EDGES1, 8, 8⟩
def Fld.THM_EDGES1_E4 : Field := ⟨Reg.THM_EDGES1, 0, 8⟩
def Fld.THM_WARN_TJW : Field := ⟨Reg.THM_WARN, 24, 8⟩
def Fld.THM_WARN_TLS : Field := ⟨Reg.THM_WARN, 16, 8⟩
def Fld.THM_WARN_PLIMS : Field := ⟨Reg.THM_WARN, 8, 4⟩
def Fld.THM_WARN_DUTY : Field := ⟨Reg.THM_WARN, 0, 5⟩
def Fld.THM_NTC_BETA : Field := ⟨Reg.THM_NTC, 16, 16⟩
def Fld.THM_NTC_RNOM : Field := ⟨Reg.THM_NTC, 0, 16⟩
def Fld.THM_BASELIM_HI : Field := ⟨Reg.THM_BASELIM, 8, 8⟩
def Fld.THM_BASELIM_LO : Field := ⟨Reg.THM_BASELIM, 0, 8⟩
def Fld.THM_TS01_HIGH : Field := ⟨Reg.THM_TS01, 16, 16⟩
def Fld.THM_TS01_LOW : Field := ⟨Reg.THM_TS01, 0, 16⟩
def Fld.THM_TS23_HIGH : Field := ⟨Reg.THM_TS23, 16, 16⟩
def Fld.THM_TS23_LOW : Field := ⟨Reg.THM_TS23, 0, 16⟩
def Fld.THM_TS45_HIGH : Field := ⟨Reg.THM_TS45, 16, 16⟩
def Fld.THM_TS45_LOW : Field := ⟨Reg.THM_TS45, 0, 16⟩
def Fld.THM_EXT_HIGH : Field := ⟨Reg.THM_EXT, 16, 16⟩
def Fld.THM_EXT_LOW : Field := ⟨Reg.THM_EXT, 0, 16⟩
def Fld.THM_SHUT_COUNT : Field := ⟨Reg.THM_SHUT, 24, 8⟩
def Fld.THM_SHUT_RET : Field := ⟨Reg.THM_SHUT, 23, 1⟩
def Fld.THM_SHUT_SENSOR : Field := ⟨Reg.THM_SHUT, 20, 3⟩
def Fld.THM_SHUT_PEAK : Field := ⟨Reg.THM_SHUT, 0, 16⟩
def Fld.THM_PEAK_PEAK : Field := ⟨Reg.THM_PEAK, 0, 16⟩
def Fld.MEM_FLT_REFWD : Field := ⟨Reg.MEM_EVT, 11, 1⟩
def Fld.MEM_FLT_TRAIN : Field := ⟨Reg.MEM_EVT, 10, 1⟩
def Fld.MEM_FLT_SRAMUE : Field := ⟨Reg.MEM_EVT, 9, 1⟩
def Fld.MEM_EV_ZFDONE : Field := ⟨Reg.MEM_EVT, 7, 1⟩
def Fld.MEM_EV_RETRAINDONE : Field := ⟨Reg.MEM_EVT, 6, 1⟩
def Fld.MEM_EV_REFX2 : Field := ⟨Reg.MEM_EVT, 5, 1⟩
def Fld.MEM_EV_SCRPASS : Field := ⟨Reg.MEM_EVT, 4, 1⟩
def Fld.MEM_EV_CEREPEAT : Field := ⟨Reg.MEM_EVT, 3, 1⟩
def Fld.MEM_EV_UE : Field := ⟨Reg.MEM_EVT, 2, 1⟩
def Fld.MEM_EV_CE : Field := ⟨Reg.MEM_EVT, 1, 1⟩
def Fld.MEM_EV_STFAIL : Field := ⟨Reg.MEM_EVT, 0, 1⟩
def Fld.MEM_STAT_SIZE : Field := ⟨Reg.MEM_STAT, 24, 8⟩
def Fld.MEM_STAT_REFLOST : Field := ⟨Reg.MEM_STAT, 6, 1⟩
def Fld.MEM_STAT_REFX2 : Field := ⟨Reg.MEM_STAT, 5, 1⟩
def Fld.MEM_STAT_SCRUB : Field := ⟨Reg.MEM_STAT, 4, 1⟩
def Fld.MEM_STAT_ZFBUSY : Field := ⟨Reg.MEM_STAT, 3, 1⟩
def Fld.MEM_STAT_RETRAIN : Field := ⟨Reg.MEM_STAT, 2, 1⟩
def Fld.MEM_STAT_TRAINED : Field := ⟨Reg.MEM_STAT, 1, 1⟩
def Fld.MEM_STAT_DIS : Field := ⟨Reg.MEM_STAT, 0, 1⟩
def Fld.MEM_CFG_DENS : Field := ⟨Reg.MEM_CFG, 20, 4⟩
def Fld.MEM_CFG_SPEED : Field := ⟨Reg.MEM_CFG, 16, 4⟩
def Fld.MEM_CFG_RANKS : Field := ⟨Reg.MEM_CFG, 8, 1⟩
def Fld.MEM_CFG_WIDTH : Field := ⟨Reg.MEM_CFG, 4, 1⟩
def Fld.MEM_CFG_HALF : Field := ⟨Reg.MEM_CFG, 0, 1⟩
def Fld.MEM_CTL_RETRAIN : Field := ⟨Reg.MEM_CTL, 4, 2⟩
def Fld.MEM_CTL_ZFGO : Field := ⟨Reg.MEM_CTL, 3, 1⟩
def Fld.MEM_CTL_SCRWB : Field := ⟨Reg.MEM_CTL, 1, 1⟩
def Fld.MEM_CTL_SCRUBEN : Field := ⟨Reg.MEM_CTL, 0, 1⟩
def Fld.MEM_ZFOFS_OFS : Field := ⟨Reg.MEM_ZFOFS, 0, 32⟩
def Fld.MEM_ZFLEN_LEN : Field := ⟨Reg.MEM_ZFLEN, 0, 32⟩
def Fld.MEM_UEADDR_ADDR : Field := ⟨Reg.MEM_UEADDR, 0, 32⟩
def Fld.MEM_UEINFO_VALID : Field := ⟨Reg.MEM_UEINFO, 31, 1⟩
def Fld.MEM_UEINFO_OVF : Field := ⟨Reg.MEM_UEINFO, 30, 1⟩
def Fld.MEM_UEINFO_INIT : Field := ⟨Reg.MEM_UEINFO, 27, 3⟩
def Fld.MEM_CETCTL_CET_OVF : Field := ⟨Reg.MEM_CETCTL, 24, 8⟩
def Fld.MEM_CETCTL_THRESH : Field := ⟨Reg.MEM_CETCTL, 16, 8⟩
def Fld.MEM_CETCTL_IDX : Field := ⟨Reg.MEM_CETCTL, 0, 5⟩
def Fld.MEM_CETADDR_VALID : Field := ⟨Reg.MEM_CETADDR, 31, 1⟩
def Fld.MEM_CETADDR_ADDR : Field := ⟨Reg.MEM_CETADDR, 0, 31⟩
def Fld.MEM_CETCNT_SYM : Field := ⟨Reg.MEM_CETCNT, 8, 4⟩
def Fld.MEM_CETCNT_COUNT : Field := ⟨Reg.MEM_CETCNT, 0, 8⟩
def Fld.MEM_SCRRNG_LIM : Field := ⟨Reg.MEM_SCRRNG, 16, 16⟩
def Fld.MEM_SCRRNG_BASE : Field := ⟨Reg.MEM_SCRRNG, 0, 16⟩
def Fld.MEM_SCRCFG_POS : Field := ⟨Reg.MEM_SCRCFG, 16, 16⟩
def Fld.MEM_SCRCFG_PERIOD : Field := ⟨Reg.MEM_SCRCFG, 0, 8⟩
def Fld.MEM_SRAMERR_UE : Field := ⟨Reg.MEM_SRAMERR, 24, 8⟩
def Fld.MEM_SRAMERR_CE : Field := ⟨Reg.MEM_SRAMERR, 8, 16⟩
def Fld.MEM_SRAMERR_REGION : Field := ⟨Reg.MEM_SRAMERR, 0, 2⟩
def Fld.MEM_CNT_CE : Field := ⟨Reg.MEM_CNT, 16, 16⟩
def Fld.MEM_CNT_UE : Field := ⟨Reg.MEM_CNT, 0, 16⟩
def Fld.BUF_FLT_POOL : Field := ⟨Reg.BUF_EVT, 8, 1⟩
def Fld.BUF_EV_RESV : Field := ⟨Reg.BUF_EVT, 2, 1⟩
def Fld.BUF_EV_WAIT : Field := ⟨Reg.BUF_EVT, 1, 1⟩
def Fld.BUF_EV_SEGFAIL : Field := ⟨Reg.BUF_EVT, 0, 1⟩
def Fld.BUF_STAT_FREE : Field := ⟨Reg.BUF_STAT, 16, 16⟩
def Fld.BUF_STAT_WAITN : Field := ⟨Reg.BUF_STAT, 8, 8⟩
def Fld.BUF_STAT_RESV : Field := ⟨Reg.BUF_STAT, 7, 1⟩
def Fld.BUF_POOL_COUNT : Field := ⟨Reg.BUF_POOL, 16, 16⟩
def Fld.BUF_POOL_BASE : Field := ⟨Reg.BUF_POOL, 0, 16⟩
def Fld.BUF_FAILQ_VALID : Field := ⟨Reg.BUF_FAILQ, 31, 1⟩
def Fld.BUF_FAILQ_CTX : Field := ⟨Reg.BUF_FAILQ, 16, 10⟩
def Fld.BUF_FAILQ_SEG : Field := ⟨Reg.BUF_FAILQ, 0, 14⟩
def Fld.BUF_SEGCTL_RELEASE : Field := ⟨Reg.BUF_SEGCTL, 31, 1⟩
def Fld.BUF_SEGCTL_SEG : Field := ⟨Reg.BUF_SEGCTL, 0, 14⟩
def Fld.BUF_CNT_WAITS : Field := ⟨Reg.BUF_CNT, 16, 16⟩
def Fld.BUF_CNT_RESV : Field := ⟨Reg.BUF_CNT, 0, 16⟩
def Fld.HWD_FLT_ENTROPY : Field := ⟨Reg.HWD_EVT, 8, 1⟩
def Fld.HWD_EV_FALLBACK : Field := ⟨Reg.HWD_EVT, 4, 1⟩
def Fld.HWD_EV_DBGUNLOCK : Field := ⟨Reg.HWD_EVT, 3, 1⟩
def Fld.HWD_EV_HRESET : Field := ⟨Reg.HWD_EVT, 2, 1⟩
def Fld.HWD_EV_TMO : Field := ⟨Reg.HWD_EVT, 1, 1⟩
def Fld.HWD_EV_DONE : Field := ⟨Reg.HWD_EVT, 0, 1⟩
def Fld.HWD_STAT_DBGLVL : Field := ⟨Reg.HWD_STAT, 8, 2⟩
def Fld.HWD_STAT_ROOTOK : Field := ⟨Reg.HWD_STAT, 4, 1⟩
def Fld.HWD_STAT_ENTOK : Field := ⟨Reg.HWD_STAT, 3, 1⟩
def Fld.HWD_STAT_BUSY : Field := ⟨Reg.HWD_STAT, 1, 1⟩
def Fld.HWD_STAT_READY : Field := ⟨Reg.HWD_STAT, 0, 1⟩
def Fld.HWD_MBCTL_GO : Field := ⟨Reg.HWD_MBCTL, 0, 1⟩
def Fld.HWD_MBCMD_CODE : Field := ⟨Reg.HWD_MBCMD, 24, 8⟩
def Fld.HWD_MBCMD_LEN : Field := ⟨Reg.HWD_MBCMD, 0, 7⟩
def Fld.HWD_MBRES_STATUS : Field := ⟨Reg.HWD_MBRES, 24, 8⟩
def Fld.HWD_MBRES_CODE : Field := ⟨Reg.HWD_MBRES, 16, 8⟩
def Fld.HWD_MBRES_LEN : Field := ⟨Reg.HWD_MBRES, 0, 7⟩
def Fld.HWD_MBTMO_LIMIT : Field := ⟨Reg.HWD_MBTMO, 16, 16⟩
def Fld.HWD_MBTMO_ELAPSED : Field := ⟨Reg.HWD_MBTMO, 0, 16⟩
def Fld.HWD_CTL_RESET : Field := ⟨Reg.HWD_CTL, 0, 1⟩
def Fld.HWD_BOOT_SVN : Field := ⟨Reg.HWD_BOOT, 16, 16⟩
def Fld.HWD_BOOT_FLOOR : Field := ⟨Reg.HWD_BOOT, 4, 12⟩
def Fld.HWD_BOOT_FB : Field := ⟨Reg.HWD_BOOT, 1, 1⟩
def Fld.HWD_BOOT_IMG : Field := ⟨Reg.HWD_BOOT, 0, 1⟩
def Fld.HWD_MBREQ_DATA (k : Nat) : Field := ⟨Reg.HWD_MBREQ k, 0, 32⟩
def Fld.HWD_MBRSP_DATA (k : Nat) : Field := ⟨Reg.HWD_MBRSP k, 0, 32⟩
def Fld.CPH_FLT_MASK : Field := ⟨Reg.CPH_EVT, 8, 1⟩
def Fld.CPH_EV_REPLACED : Field := ⟨Reg.CPH_EVT, 3, 1⟩
def Fld.CPH_EV_ERASED : Field := ⟨Reg.CPH_EVT, 2, 1⟩
def Fld.CPH_EV_AUTHFAIL : Field := ⟨Reg.CPH_EVT, 1, 1⟩
def Fld.CPH_EV_JOBDONE : Field := ⟨Reg.CPH_EVT, 0, 1⟩
def Fld.CPH_STAT_JOBBUSY : Field := ⟨Reg.CPH_STAT, 9, 1⟩
def Fld.CPH_STAT_MASKOK : Field := ⟨Reg.CPH_STAT, 8, 1⟩
def Fld.CPH_STAT_LANE : Field := ⟨Reg.CPH_STAT, 0, 4⟩
def Fld.CPH_SLOTSEL_SYS : Field := ⟨Reg.CPH_SLOTSEL, 12, 1⟩
def Fld.CPH_SLOTSEL_INDEX : Field := ⟨Reg.CPH_SLOTSEL, 0, 12⟩
def Fld.CPH_SLOTINFO_GEN : Field := ⟨Reg.CPH_SLOTINFO, 16, 16⟩
def Fld.CPH_SLOTINFO_STATE : Field := ⟨Reg.CPH_SLOTINFO, 12, 2⟩
def Fld.CPH_SLOTINFO_USE : Field := ⟨Reg.CPH_SLOTINFO, 0, 11⟩
def Fld.CPH_NSCFG0_KPIO : Field := ⟨Reg.CPH_NSCFG0, 31, 1⟩
def Fld.CPH_NSCFG0_KBASE : Field := ⟨Reg.CPH_NSCFG0, 16, 12⟩
def Fld.CPH_NSCFG0_WLOCK : Field := ⟨Reg.CPH_NSCFG0, 13, 1⟩
def Fld.CPH_NSCFG0_RLOCK : Field := ⟨Reg.CPH_NSCFG0, 12, 1⟩
def Fld.CPH_NSCFG0_SLOT : Field := ⟨Reg.CPH_NSCFG0, 0, 12⟩
def Fld.CPH_NSCFG1_KPIO : Field := ⟨Reg.CPH_NSCFG1, 31, 1⟩
def Fld.CPH_NSCFG1_KBASE : Field := ⟨Reg.CPH_NSCFG1, 16, 12⟩
def Fld.CPH_NSCFG1_WLOCK : Field := ⟨Reg.CPH_NSCFG1, 13, 1⟩
def Fld.CPH_NSCFG1_RLOCK : Field := ⟨Reg.CPH_NSCFG1, 12, 1⟩
def Fld.CPH_NSCFG1_SLOT : Field := ⟨Reg.CPH_NSCFG1, 0, 12⟩
def Fld.CPH_LRADDR_ADDR : Field := ⟨Reg.CPH_LRADDR, 0, 12⟩
def Fld.CPH_LRDATA_DATA : Field := ⟨Reg.CPH_LRDATA, 0, 32⟩
def Fld.CPH_JOBBASE_BASE : Field := ⟨Reg.CPH_JOBBASE, 12, 20⟩
def Fld.CPH_JOBPI_INDEX : Field := ⟨Reg.CPH_JOBPI, 0, 6⟩
def Fld.CPH_JOBCI_INDEX : Field := ⟨Reg.CPH_JOBCI, 0, 6⟩
def Fld.CPH_UNTRUST_ADDR : Field := ⟨Reg.CPH_UNTRUST, 0, 32⟩
def Fld.CPH_UNTRUSTINFO_VALID : Field := ⟨Reg.CPH_UNTRUSTINFO, 31, 1⟩
def Fld.CPH_UNTRUSTINFO_OVF : Field := ⟨Reg.CPH_UNTRUSTINFO, 30, 1⟩
def Fld.CPH_UNTRUSTINFO_ADDRHI : Field := ⟨Reg.CPH_UNTRUSTINFO, 24, 4⟩
def Fld.CPH_UNTRUSTINFO_LEN : Field := ⟨Reg.CPH_UNTRUSTINFO, 0, 24⟩
def Fld.CPH_CNT_AUTHFAIL : Field := ⟨Reg.CPH_CNT, 16, 16⟩
def Fld.CPH_CNT_ERASE : Field := ⟨Reg.CPH_CNT, 0, 16⟩
def Fld.HIF_FLT_PLL : Field := ⟨Reg.HIF_EVT, 8, 1⟩
def Fld.HIF_EV_HOSTRST : Field := ⟨Reg.HIF_EVT, 1, 1⟩
def Fld.HIF_EV_LINK : Field := ⟨Reg.HIF_EVT, 0, 1⟩
def Fld.HIF_STAT_MODE : Field := ⟨Reg.HIF_STAT, 4, 1⟩
def Fld.HIF_STAT_LANEUP : Field := ⟨Reg.HIF_STAT, 0, 4⟩
def Fld.HIF_MGTCFG_EN : Field := ⟨Reg.HIF_MGTCFG, 15, 1⟩
def Fld.HIF_MGTCFG_ADDR : Field := ⟨Reg.HIF_MGTCFG, 0, 7⟩
def Fld.HIF_MGTID_DATA (k : Nat) : Field := ⟨Reg.HIF_MGTID k, 0, 32⟩
def Fld.SAS_EV_HARDRST : Field := ⟨Reg.SAS_EVT, 3, 1⟩
def Fld.SAS_EV_TMF : Field := ⟨Reg.SAS_EVT, 2, 1⟩
def Fld.SAS_EV_LINKB : Field := ⟨Reg.SAS_EVT, 1, 1⟩
def Fld.SAS_EV_LINKA : Field := ⟨Reg.SAS_EVT, 0, 1⟩
def Fld.SAS_STAT_RATEB : Field := ⟨Reg.SAS_STAT, 12, 2⟩
def Fld.SAS_STAT_RATEA : Field := ⟨Reg.SAS_STAT, 8, 2⟩
def Fld.SAS_STAT_UPB : Field := ⟨Reg.SAS_STAT, 1, 1⟩
def Fld.SAS_STAT_UPA : Field := ⟨Reg.SAS_STAT, 0, 1⟩
def Fld.SAS_CFG_ENB : Field := ⟨Reg.SAS_CFG, 5, 1⟩
def Fld.SAS_CFG_ENA : Field := ⟨Reg.SAS_CFG, 4, 1⟩
def Fld.SAS_CFG_MAXRATE : Field := ⟨Reg.SAS_CFG, 0, 2⟩
def Fld.SAS_ADDRA_ADDR : Field := ⟨Reg.SAS_ADDRA, 0, 32⟩
def Fld.SAS_ADDRAH_ADDR : Field := ⟨Reg.SAS_ADDRAH, 0, 32⟩
def Fld.SAS_ADDRB_ADDR : Field := ⟨Reg.SAS_ADDRB, 0, 32⟩
def Fld.SAS_ADDRBH_ADDR : Field := ⟨Reg.SAS_ADDRBH, 0, 32⟩
def Fld.SAS_CNT_RSTB : Field := ⟨Reg.SAS_CNT, 24, 8⟩
def Fld.SAS_CNT_RSTA : Field := ⟨Reg.SAS_CNT, 16, 8⟩
def Fld.SAS_CNT_INVDW : Field := ⟨Reg.SAS_CNT, 0, 16⟩
def Fld.PCIE_FLT_CFS : Field := ⟨Reg.PCIE_EVT, 8, 1⟩
def Fld.PCIE_EV_FLR : Field := ⟨Reg.PCIE_EVT, 3, 1⟩
def Fld.PCIE_EV_PERST : Field := ⟨Reg.PCIE_EVT, 2, 1⟩
def Fld.PCIE_EV_CCEN : Field := ⟨Reg.PCIE_EVT, 1, 1⟩
def Fld.PCIE_EV_LINK : Field := ⟨Reg.PCIE_EVT, 0, 1⟩
def Fld.PCIE_STAT_RDY : Field := ⟨Reg.PCIE_STAT, 16, 1⟩
def Fld.PCIE_STAT_SPEED : Field := ⟨Reg.PCIE_STAT, 8, 3⟩
def Fld.PCIE_STAT_WIDTH : Field := ⟨Reg.PCIE_STAT, 4, 2⟩
def Fld.PCIE_CFG_MAXSPD : Field := ⟨Reg.PCIE_CFG, 8, 3⟩
def Fld.PCIE_CFG_NIOQ : Field := ⟨Reg.PCIE_CFG, 0, 7⟩
def Fld.PCIE_ID_SSVID : Field := ⟨Reg.PCIE_ID, 16, 16⟩
def Fld.PCIE_ID_SSID : Field := ⟨Reg.PCIE_ID, 0, 16⟩
def Fld.PCIE_CNT_CORR : Field := ⟨Reg.PCIE_CNT, 16, 16⟩
def Fld.PCIE_CNT_UNCORR : Field := ⟨Reg.PCIE_CNT, 0, 16⟩
def Fld.CCX_FLT_TABLE : Field := ⟨Reg.CCX_EVT, 8, 1⟩
def Fld.CCX_EV_TMO : Field := ⟨Reg.CCX_EVT, 2, 1⟩
def Fld.CCX_EV_FULL : Field := ⟨Reg.CCX_EVT, 1, 1⟩
def Fld.CCX_EV_ABORT : Field := ⟨Reg.CCX_EVT, 0, 1⟩
def Fld.CCX_STAT_FREE : Field := ⟨Reg.CCX_STAT, 16, 11⟩
def Fld.CCX_STAT_NQ : Field := ⟨Reg.CCX_STAT, 2, 1⟩
def Fld.CCX_STAT_BQ : Field := ⟨Reg.CCX_STAT, 1, 1⟩
def Fld.CCX_STAT_AQ : Field := ⟨Reg.CCX_STAT, 0, 1⟩
def Fld.CCX_CFG_TMO : Field := ⟨Reg.CCX_CFG, 16, 8⟩
def Fld.CCX_CFG_INTLV : Field := ⟨Reg.CCX_CFG, 0, 1⟩
def Fld.CCX_CTXBASE_BASE : Field := ⟨Reg.CCX_CTXBASE, 17, 15⟩
def Fld.CCX_POPA_VALID : Field := ⟨Reg.CCX_POPA, 31, 1⟩
def Fld.CCX_POPA_CTX : Field := ⟨Reg.CCX_POPA, 0, 10⟩
def Fld.CCX_POPB_VALID : Field := ⟨Reg.CCX_POPB, 31, 1⟩
def Fld.CCX_POPB_CTX : Field := ⟨Reg.CCX_POPB, 0, 10⟩
def Fld.CCX_POPN_VALID : Field := ⟨Reg.CCX_POPN, 31, 1⟩
def Fld.CCX_POPN_IDONE : Field := ⟨Reg.CCX_POPN, 30, 1⟩
def Fld.CCX_POPN_CTX : Field := ⟨Reg.CCX_POPN, 0, 10⟩
def Fld.CCX_CTXCMD_STATUS : Field := ⟨Reg.CCX_CTXCMD, 24, 8⟩
def Fld.CCX_CTXCMD_CMD : Field := ⟨Reg.CCX_CTXCMD, 16, 3⟩
def Fld.CCX_CTXCMD_CTX : Field := ⟨Reg.CCX_CTXCMD, 0, 10⟩
def Fld.CCX_CTXRES_OK : Field := ⟨Reg.CCX_CTXRES, 31, 1⟩
def Fld.CCX_CTXRES_REFUSED : Field := ⟨Reg.CCX_CTXRES, 30, 1⟩
def Fld.CCX_CTXRES_CTX : Field := ⟨Reg.CCX_CTXRES, 0, 10⟩
def Fld.CCX_CNT_TMO : Field := ⟨Reg.CCX_CNT, 16, 16⟩
def Fld.CCX_CNT_ABORT : Field := ⟨Reg.CCX_CNT, 0, 16⟩
def Fld.SYS_ID_PART : Field := ⟨Reg.SYS_ID, 16, 16⟩
def Fld.SYS_ID_REV : Field := ⟨Reg.SYS_ID, 8, 8⟩
def Fld.SYS_ID_VARIANT : Field := ⟨Reg.SYS_ID, 0, 4⟩
def Fld.INTC_FLT_WDT : Field := ⟨Reg.INTC_EVT, 8, 1⟩
def Fld.INTC_EV_READMIT : Field := ⟨Reg.INTC_EVT, 3, 1⟩
def Fld.INTC_EV_DROP : Field := ⟨Reg.INTC_EVT, 2, 1⟩
def Fld.INTC_EV_TMR1 : Field := ⟨Reg.INTC_EVT, 1, 1⟩
def Fld.INTC_EV_TMR0 : Field := ⟨Reg.INTC_EVT, 0, 1⟩
def Fld.INTC_STAT_MSIP1 : Field := ⟨Reg.INTC_STAT, 9, 1⟩
def Fld.INTC_STAT_MSIP0 : Field := ⟨Reg.INTC_STAT, 8, 1⟩
def Fld.INTC_STAT_MEIP1 : Field := ⟨Reg.INTC_STAT, 1, 1⟩
def Fld.INTC_STAT_MEIP0 : Field := ⟨Reg.INTC_STAT, 0, 1⟩
def Fld.INTC_THR_THR1 : Field := ⟨Reg.INTC_THR, 8, 3⟩
def Fld.INTC_THR_THR0 : Field := ⟨Reg.INTC_THR, 0, 3⟩
def Fld.INTC_CAUSE0_VALID : Field := ⟨Reg.INTC_CAUSE0, 31, 1⟩
def Fld.INTC_CAUSE0_PRIO : Field := ⟨Reg.INTC_CAUSE0, 8, 3⟩
def Fld.INTC_CAUSE0_SRC : Field := ⟨Reg.INTC_CAUSE0, 0, 8⟩
def Fld.INTC_CAUSE1_VALID : Field := ⟨Reg.INTC_CAUSE1, 31, 1⟩
def Fld.INTC_CAUSE1_PRIO : Field := ⟨Reg.INTC_CAUSE1, 8, 3⟩
def Fld.INTC_CAUSE1_SRC : Field := ⟨Reg.INTC_CAUSE1, 0, 8⟩
def Fld.INTC_SWI_LC1 : Field := ⟨Reg.INTC_SWI, 1, 1⟩
def Fld.INTC_SWI_LC0 : Field := ⟨Reg.INTC_SWI, 0, 1⟩
def Fld.INTC_TMR0_COUNT : Field := ⟨Reg.INTC_TMR0, 0, 24⟩
def Fld.INTC_TMR1_COUNT : Field := ⟨Reg.INTC_TMR1, 0, 24⟩
def Fld.INTC_CORE_RDM : Field := ⟨Reg.INTC_CORE, 16, 2⟩
def Fld.INTC_WDCFG_EN1 : Field := ⟨Reg.INTC_WDCFG, 17, 1⟩
def Fld.INTC_WDCFG_EN0 : Field := ⟨Reg.INTC_WDCFG, 16, 1⟩
def Fld.INTC_WDCFG_PERIOD : Field := ⟨Reg.INTC_WDCFG, 0, 10⟩
def Fld.INTC_WDKICK_KEY : Field := ⟨Reg.INTC_WDKICK, 0, 16⟩
def Fld.INTC_PEND_PEND (k : Nat) : Field := ⟨Reg.INTC_PEND k, 0, 32⟩
def Fld.XSP_FLT_TMO : Field := ⟨Reg.XSP_EVT, 9, 1⟩
def Fld.XSP_FLT_FLASH : Field := ⟨Reg.XSP_EVT, 8, 1⟩
def Fld.XSP_EV_SLOW : Field := ⟨Reg.XSP_EVT, 2, 1⟩
def Fld.XSP_EV_PROT : Field := ⟨Reg.XSP_EVT, 1, 1⟩
def Fld.XSP_EV_DONE : Field := ⟨Reg.XSP_EVT, 0, 1⟩
def Fld.XSP_STAT_DEVSTAT : Field := ⟨Reg.XSP_STAT, 8, 8⟩
def Fld.XSP_STAT_SIZE : Field := ⟨Reg.XSP_STAT, 4, 2⟩
def Fld.XSP_STAT_BUSY : Field := ⟨Reg.XSP_STAT, 2, 1⟩
def Fld.XSP_STAT_OCTAL : Field := ⟨Reg.XSP_STAT, 1, 1⟩
def Fld.XSP_STAT_READY : Field := ⟨Reg.XSP_STAT, 0, 1⟩
def Fld.XSP_CFG_FREQ : Field := ⟨Reg.XSP_CFG, 0, 2⟩
def Fld.XSP_TMO_TERASE : Field := ⟨Reg.XSP_TMO, 16, 8⟩
def Fld.XSP_TMO_TPROG : Field := ⟨Reg.XSP_TMO, 0, 8⟩
def Fld.XSP_FADDR_ADDR : Field := ⟨Reg.XSP_FADDR, 0, 28⟩
def Fld.XSP_MADDR_ADDR : Field := ⟨Reg.XSP_MADDR, 0, 32⟩
def Fld.XSP_MADDRH_ADDRHI : Field := ⟨Reg.XSP_MADDRH, 0, 4⟩
def Fld.XSP_LEN_LEN : Field := ⟨Reg.XSP_LEN, 0, 24⟩
def Fld.XSP_CMD_GO : Field := ⟨Reg.XSP_CMD, 31, 1⟩
def Fld.XSP_CMD_OP : Field := ⟨Reg.XSP_CMD, 0, 3⟩
def Fld.XSP_RESULT_STATUS : Field := ⟨Reg.XSP_RESULT, 28, 4⟩
def Fld.XSP_RESULT_DONE : Field := ⟨Reg.XSP_RESULT, 0, 24⟩
def Fld.XSP_CNT_ERASES : Field := ⟨Reg.XSP_CNT, 16, 16⟩
def Fld.XSP_CNT_FLERR : Field := ⟨Reg.XSP_CNT, 8, 8⟩
def Fld.XSP_CNT_TMO : Field := ⟨Reg.XSP_CNT, 0, 8⟩
def Fld.XSP_PROTB_HWD (k : Nat) : Field := ⟨Reg.XSP_PROTB k, 31, 1⟩
def Fld.XSP_PROTB_RBK (k : Nat) : Field := ⟨Reg.XSP_PROTB k, 30, 1⟩
def Fld.XSP_PROTB_APC (k : Nat) : Field := ⟨Reg.XSP_PROTB k, 29, 1⟩
def Fld.XSP_PROTB_APCUL (k : Nat) : Field := ⟨Reg.XSP_PROTB k, 28, 1⟩
def Fld.XSP_PROTB_BASE (k : Nat) : Field := ⟨Reg.XSP_PROTB k, 0, 12⟩
def Fld.XSP_PROTL_LIMIT (k : Nat) : Field := ⟨Reg.XSP_PROTL k, 0, 13⟩
def Fld.DBG_EV_TRCFULL : Field := ⟨Reg.DBG_EVT, 3, 1⟩
def Fld.DBG_EV_RXOVR : Field := ⟨Reg.DBG_EVT, 2, 1⟩
def Fld.DBG_EV_TXEMPTY : Field := ⟨Reg.DBG_EVT, 1, 1⟩
def Fld.DBG_EV_RX : Field := ⟨Reg.DBG_EVT, 0, 1⟩
def Fld.DBG_STAT_RXN : Field := ⟨Reg.DBG_STAT, 16, 7⟩
def Fld.DBG_STAT_TXN : Field := ⟨Reg.DBG_STAT, 8, 7⟩
def Fld.DBG_STAT_TRCON : Field := ⟨Reg.DBG_STAT, 3, 1⟩
def Fld.DBG_STAT_LEVEL : Field := ⟨Reg.DBG_STAT, 0, 2⟩
def Fld.DBG_UARTCFG_EN : Field := ⟨Reg.DBG_UARTCFG, 16, 1⟩
def Fld.DBG_UARTCFG_DIV : Field := ⟨Reg.DBG_UARTCFG, 0, 12⟩
def Fld.DBG_UARTTX_DATA : Field := ⟨Reg.DBG_UARTTX, 0, 8⟩
def Fld.DBG_UARTRX_VALID : Field := ⟨Reg.DBG_UARTRX, 31, 1⟩
def Fld.DBG_UARTRX_DATA : Field := ⟨Reg.DBG_UARTRX, 0, 8⟩
def Fld.DBG_UARTCNT_FRAME : Field := ⟨Reg.DBG_UARTCNT, 16, 16⟩
def Fld.DBG_UARTCNT_RXOVR : Field := ⟨Reg.DBG_UARTCNT, 8, 8⟩
def Fld.DBG_UARTCNT_TXDROP : Field := ⟨Reg.DBG_UARTCNT, 0, 8⟩
def Fld.DBG_TRCCFG_SIZE : Field := ⟨Reg.DBG_TRCCFG, 24, 8⟩
def Fld.DBG_TRCCFG_EN : Field := ⟨Reg.DBG_TRCCFG, 16, 1⟩
def Fld.DBG_TRCCFG_WRAP : Field := ⟨Reg.DBG_TRCCFG, 8, 1⟩
def Fld.DBG_TRCCFG_SRC : Field := ⟨Reg.DBG_TRCCFG, 0, 4⟩
def Fld.DBG_TRCBASE_BASE : Field := ⟨Reg.DBG_TRCBASE, 12, 20⟩
def Fld.DBG_TRCWP_WRAPPED : Field := ⟨Reg.DBG_TRCWP, 31, 1⟩
def Fld.DBG_TRCWP_OFFSET : Field := ⟨Reg.DBG_TRCWP, 0, 20⟩
def Fld.DBG_TRCLOST_LOST : Field := ⟨Reg.DBG_TRCLOST, 0, 32⟩
def Fld.VALE_FLT_CTR : Field := ⟨Reg.VALE_EVT, 8, 1⟩
def Fld.VALE_EV_MACERR : Field := ⟨Reg.VALE_EVT, 5, 1⟩
def Fld.VALE_EV_ELECT : Field := ⟨Reg.VALE_EVT, 4, 1⟩
def Fld.VALE_EV_TOKEN : Field := ⟨Reg.VALE_EVT, 3, 1⟩
def Fld.VALE_EV_REFLOST : Field := ⟨Reg.VALE_EVT, 2, 1⟩
def Fld.VALE_EV_REFLOCK : Field := ⟨Reg.VALE_EVT, 1, 1⟩
def Fld.VALE_EV_ROLE : Field := ⟨Reg.VALE_EVT, 0, 1⟩
def Fld.VALE_STAT_CANSLOT : Field := ⟨Reg.VALE_STAT, 24, 6⟩
def Fld.VALE_STAT_SLOTID : Field := ⟨Reg.VALE_STAT, 16, 6⟩
def Fld.VALE_STAT_ELIG : Field := ⟨Reg.VALE_STAT, 15, 1⟩
def Fld.VALE_STAT_LEFT : Field := ⟨Reg.VALE_STAT, 7, 1⟩
def Fld.VALE_STAT_TOKEN : Field := ⟨Reg.VALE_STAT, 6, 1⟩
def Fld.VALE_STAT_PHOK : Field := ⟨Reg.VALE_STAT, 5, 1⟩
def Fld.VALE_STAT_REF : Field := ⟨Reg.VALE_STAT, 4, 1⟩
def Fld.VALE_STAT_ROLE : Field := ⟨Reg.VALE_STAT, 0, 2⟩
def Fld.VALE_CFG_LEAD : Field := ⟨Reg.VALE_CFG, 24, 8⟩
def Fld.VALE_CFG_PDLY : Field := ⟨Reg.VALE_CFG, 16, 8⟩
def Fld.VALE_CFG_STAG : Field := ⟨Reg.VALE_CFG, 8, 8⟩
def Fld.VALE_CFG_BUDGETEN : Field := ⟨Reg.VALE_CFG, 6, 1⟩
def Fld.VALE_CFG_TOKREQ : Field := ⟨Reg.VALE_CFG, 5, 1⟩
def Fld.VALE_CFG_ANNOUNCE : Field := ⟨Reg.VALE_CFG, 4, 1⟩
def Fld.VALE_CFG_PLOCK : Field := ⟨Reg.VALE_CFG, 3, 1⟩
def Fld.VALE_CFG_EN : Field := ⟨Reg.VALE_CFG, 0, 1⟩
def Fld.VALE_KEY_ALTSLOT : Field := ⟨Reg.VALE_KEY, 24, 6⟩
def Fld.VALE_KEY_ALTEN : Field := ⟨Reg.VALE_KEY, 23, 1⟩
def Fld.VALE_KEY_TXSLOT : Field := ⟨Reg.VALE_KEY, 0, 6⟩
def Fld.VALE_PHOFS_OFS : Field := ⟨Reg.VALE_PHOFS, 0, 32⟩
def Fld.VALE_SEEKCLS_T3 : Field := ⟨Reg.VALE_SEEKCLS, 20, 10⟩
def Fld.VALE_SEEKCLS_T2 : Field := ⟨Reg.VALE_SEEKCLS, 10, 10⟩
def Fld.VALE_SEEKCLS_T1 : Field := ⟨Reg.VALE_SEEKCLS, 0, 10⟩
def Fld.VALE_CANCFG_BUDGET : Field := ⟨Reg.VALE_CANCFG, 16, 9⟩
def Fld.VALE_CANCFG_TOKN : Field := ⟨Reg.VALE_CANCFG, 8, 4⟩
def Fld.VALE_CANCFG_TOKMAX : Field := ⟨Reg.VALE_CANCFG, 0, 8⟩
def Fld.VALE_CTL_HANDOVER : Field := ⟨Reg.VALE_CTL, 2, 1⟩
def Fld.VALE_CTL_JOIN : Field := ⟨Reg.VALE_CTL, 1, 1⟩
def Fld.VALE_CTL_CLRCTR : Field := ⟨Reg.VALE_CTL, 0, 1⟩
def Fld.VALE_MEMB_HEARD : Field := ⟨Reg.VALE_MEMB, 0, 32⟩
def Fld.VALE_MEMBH_HEARD : Field := ⟨Reg.VALE_MEMBH, 0, 32⟩
def Fld.VALE_EFFOFS_OFS : Field := ⟨Reg.VALE_EFFOFS, 0, 32⟩
def Fld.VALE_CNT_MACERR : Field := ⟨Reg.VALE_CNT, 16, 16⟩
def Fld.VALE_CNT_REPLAY : Field := ⟨Reg.VALE_CNT, 8, 8⟩
def Fld.VALE_CNT_ELECT : Field := ⟨Reg.VALE_CNT, 0, 8⟩
def Fld.RBK_FLT_FLASH : Field := ⟨Reg.RBK_EVT, 8, 1⟩
def Fld.RBK_EV_DROP : Field := ⟨Reg.RBK_EVT, 2, 1⟩
def Fld.RBK_EV_SNAPDONE : Field := ⟨Reg.RBK_EVT, 1, 1⟩
def Fld.RBK_EV_FLUSHDONE : Field := ⟨Reg.RBK_EVT, 0, 1⟩
def Fld.RBK_STAT_SLOT : Field := ⟨Reg.RBK_STAT, 8, 4⟩
def Fld.RBK_STAT_FOLD : Field := ⟨Reg.RBK_STAT, 3, 1⟩
def Fld.RBK_STAT_RECW : Field := ⟨Reg.RBK_STAT, 2, 1⟩
def Fld.RBK_STAT_CRIT : Field := ⟨Reg.RBK_STAT, 1, 1⟩
def Fld.RBK_STAT_FLUSH : Field := ⟨Reg.RBK_STAT, 0, 1⟩
def Fld.RBK_CFG_PERIOD : Field := ⟨Reg.RBK_CFG, 16, 11⟩
def Fld.RBK_CFG_COALESCE : Field := ⟨Reg.RBK_CFG, 0, 8⟩
def Fld.RBK_FLASH_SLOTS : Field := ⟨Reg.RBK_FLASH, 16, 4⟩
def Fld.RBK_FLASH_BASE : Field := ⟨Reg.RBK_FLASH, 0, 16⟩
def Fld.RBK_CTL_REGION : Field := ⟨Reg.RBK_CTL, 8, 3⟩
def Fld.RBK_CTL_SNAP : Field := ⟨Reg.RBK_CTL, 1, 1⟩
def Fld.RBK_CTL_FLUSH : Field := ⟨Reg.RBK_CTL, 0, 1⟩
def Fld.RBK_SNAPBASE_BASE : Field := ⟨Reg.RBK_SNAPBASE, 12, 20⟩
def Fld.RBK_WIN_PAGE : Field := ⟨Reg.RBK_WIN, 0, 3⟩
def Fld.RBK_FWEV_CODE (k : Nat) : Field := ⟨Reg.RBK_FWEV k, 8, 6⟩
def Fld.RBK_FWEV_SRC (k : Nat) : Field := ⟨Reg.RBK_FWEV k, 0, 5⟩
def Fld.RBK_CNT_FLUSHES : Field := ⟨Reg.RBK_CNT, 16, 16⟩
def Fld.RBK_CNT_FLERR : Field := ⟨Reg.RBK_CNT, 8, 8⟩
def Fld.RBK_CNT_DROPLO : Field := ⟨Reg.RBK_CNT, 0, 8⟩
def Fld.SYS_FLT_ACT : Field := ⟨Reg.SYS_EVT, 10, 1⟩
def Fld.SYS_FLT_ESC : Field := ⟨Reg.SYS_EVT, 9, 1⟩
def Fld.SYS_FLT_D2D : Field := ⟨Reg.SYS_EVT, 8, 1⟩
def Fld.SYS_EV_UPD : Field := ⟨Reg.SYS_EVT, 4, 1⟩
def Fld.SYS_EV_D2DLANE : Field := ⟨Reg.SYS_EVT, 3, 1⟩
def Fld.SYS_EV_BUSERR : Field := ⟨Reg.SYS_EVT, 2, 1⟩
def Fld.SYS_EV_ACT : Field := ⟨Reg.SYS_EVT, 1, 1⟩
def Fld.SYS_EV_MODE : Field := ⟨Reg.SYS_EVT, 0, 1⟩
def Fld.SYS_STAT_GEN7PIN : Field := ⟨Reg.SYS_STAT, 2, 1⟩
def Fld.SYS_STAT_SPINUP_AUTO : Field := ⟨Reg.SYS_STAT, 1, 1⟩
def Fld.SYS_STAT_HIFSEL : Field := ⟨Reg.SYS_STAT, 0, 1⟩
def Fld.SYS_MODE_ACTB : Field := ⟨Reg.SYS_MODE, 20, 4⟩
def Fld.SYS_MODE_ACTA : Field := ⟨Reg.SYS_MODE, 16, 4⟩
def Fld.SYS_MODE_SWLAT : Field := ⟨Reg.SYS_MODE, 11, 1⟩
def Fld.SYS_MODE_DEGLAT : Field := ⟨Reg.SYS_MODE, 10, 1⟩
def Fld.SYS_MODE_SPLITLAT : Field := ⟨Reg.SYS_MODE, 9, 1⟩
def Fld.SYS_MODE_SPLITACT : Field := ⟨Reg.SYS_MODE, 8, 1⟩
def Fld.SYS_MODE_PREV : Field := ⟨Reg.SYS_MODE, 4, 4⟩
def Fld.SYS_MODE_MODE : Field := ⟨Reg.SYS_MODE, 0, 4⟩
def Fld.SYS_MODEREQ_GO : Field := ⟨Reg.SYS_MODEREQ, 31, 1⟩
def Fld.SYS_MODEREQ_REFUSED : Field := ⟨Reg.SYS_MODEREQ, 30, 1⟩
def Fld.SYS_MODEREQ_DONE : Field := ⟨Reg.SYS_MODEREQ, 29, 1⟩
def Fld.SYS_MODEREQ_ACT : Field := ⟨Reg.SYS_MODEREQ, 8, 1⟩
def Fld.SYS_MODEREQ_REQ : Field := ⟨Reg.SYS_MODEREQ, 0, 4⟩
def Fld.SYS_ACTCTL_CALB : Field := ⟨Reg.SYS_ACTCTL, 1, 1⟩
def Fld.SYS_ACTCTL_CALA : Field := ⟨Reg.SYS_ACTCTL, 0, 1⟩
def Fld.SYS_RSTCTL_KEY : Field := ⟨Reg.SYS_RSTCTL, 16, 16⟩
def Fld.SYS_RSTCTL_SVC : Field := ⟨Reg.SYS_RSTCTL, 8, 1⟩
def Fld.SYS_RSTCTL_WARM : Field := ⟨Reg.SYS_RSTCTL, 2, 1⟩
def Fld.SYS_RSTCTL_ACTB : Field := ⟨Reg.SYS_RSTCTL, 1, 1⟩
def Fld.SYS_RSTCTL_ACTA : Field := ⟨Reg.SYS_RSTCTL, 0, 1⟩
def Fld.SYS_RSTCAUSE_WSRC : Field := ⟨Reg.SYS_RSTCAUSE, 28, 4⟩
def Fld.SYS_RSTCAUSE_ACTB : Field := ⟨Reg.SYS_RSTCAUSE, 7, 1⟩
def Fld.SYS_RSTCAUSE_ACTA : Field := ⟨Reg.SYS_RSTCAUSE, 6, 1⟩
def Fld.SYS_RSTCAUSE_HOST : Field := ⟨Reg.SYS_RSTCAUSE, 5, 1⟩
def Fld.SYS_RSTCAUSE_WARM : Field := ⟨Reg.SYS_RSTCAUSE, 4, 1⟩
def Fld.SYS_RSTCAUSE_THERMAL : Field := ⟨Reg.SYS_RSTCAUSE, 3, 1⟩
def Fld.SYS_RSTCAUSE_PIN : Field := ⟨Reg.SYS_RSTCAUSE, 2, 1⟩
def Fld.SYS_RSTCAUSE_BOR : Field := ⟨Reg.SYS_RSTCAUSE, 1, 1⟩
def Fld.SYS_RSTCAUSE_POR : Field := ⟨Reg.SYS_RSTCAUSE, 0, 1⟩
def Fld.SYS_COMPAT_GEN7 : Field := ⟨Reg.SYS_COMPAT, 0, 1⟩
def Fld.SYS_LOCK_LOCK : Field := ⟨Reg.SYS_LOCK, 0, 1⟩
def Fld.SYS_UPDCTL_SWITCH : Field := ⟨Reg.SYS_UPDCTL, 31, 1⟩
def Fld.SYS_UPDCTL_RESULT : Field := ⟨Reg.SYS_UPDCTL, 0, 2⟩

end Sys2Proof.Machine
end

