-- ==== Sys2Proof/Machine/RegTable.lean ====
section
/-!
DEFINITION. The register table (R22, R58, R60): for each register of the register lists of spec/ its offset, Reset value,
Cleared-by entry (R25), and which of its bits are RW, W1C and W1S; the value ranges its field table gives ("acts as",
"leaves the field unchanged"). Bits under no mask are RO, WO or reserved: a plain write ignores them.
-/
namespace Sys2Proof.Machine

/-- The Cleared-by entry of a register (R25); `never` is the table's dash. -/
inductive ClearedBy where
  | never | por | bor | pin | thermal | warm | host | actuator
deriving DecidableEq, Repr

/-- One row of a register list (R22). `cnt` registers stand `step` bytes apart from `off`. `acts`: fields whose stored
value acts as the nearer bound of a range, as (low bit, length, least, greatest). `keep`: fields that a written value
outside the range leaves unchanged. `parts`: the bits of each actuator in a register that holds fields of both (R25).
`pinBits`: bits cleared by PIN in a register whose entry is ACTUATOR. -/
structure RegDesc where
  off : Nat
  reset : Nat
  clr : ClearedBy
  rw : Nat := 0
  w1c : Nat := 0
  w1s : Nat := 0
  cnt : Nat := 1
  step : Nat := 4
  acts : List (Nat × Nat × Nat × Nat) := []
  keep : List (Nat × Nat × Nat × Nat) := []
  parts : List (Act × Nat) := []
  pinBits : Nat := 0
deriving DecidableEq, Repr

/-- The register list of SYS. -/
def regsSys : List RegDesc :=
  [ { off := 0x0, reset := 0x0, clr := .pin, w1c := 0x71F },
    { off := 0x4, reset := 0x700, clr := .pin, rw := 0x1F },
    { off := 0x8, reset := 0x0, clr := .never },
    { off := 0x20, reset := 0x1, clr := .pin },
    { off := 0x24, reset := 0x0, clr := .pin, rw := 0x10F, w1s := 0x80000000 },
    { off := 0x28, reset := 0x0, clr := .actuator, rw := 0x3, parts := [(.a, 0x1), (.b, 0x2)] },
    { off := 0x2C, reset := 0x0, clr := .pin },
    { off := 0x30, reset := 0x1, clr := .por, w1c := 0xFF },
    { off := 0x34, reset := 0x0, clr := .pin, rw := 0x1 },
    { off := 0x38, reset := 0x0, clr := .pin, w1s := 0x1 },
    { off := 0x3C, reset := 0x0, clr := .warm, w1s := 0x80000000 },
    { off := 0x40, reset := 0x0, clr := .pin, w1c := 0x80000001 },
    { off := 0x44, reset := 0x0, clr := .pin },
    { off := 0x60, reset := 0xF0, clr := .pin },
    { off := 0x64, reset := 0x0, clr := .pin, rw := 0xFFFF00FF },
    { off := 0x68, reset := 0x0, clr := .pin },
    { off := 0x70, reset := 0x3E80003, clr := .pin, rw := 0xFFFF000F, acts := [(16, 16, 1, 65535), (0, 4, 1, 15)] },
    { off := 0x74, reset := 0x0, clr := .pin, w1c := 0x70000 },
    { off := 0x80, reset := 0x86500001, clr := .never } ]

/-- The register list of PWR. -/
def regsPwr : List RegDesc :=
  [ { off := 0x0, reset := 0x0, clr := .pin, w1c := 0xFFF },
    { off := 0x4, reset := 0x100, clr := .pin, rw := 0xEFF },
    { off := 0x8, reset := 0x0, clr := .never },
    { off := 0x20, reset := 0x145A0068, clr := .pin, rw := 0xFFFF00FF, acts := [(24, 8, 1, 255), (16, 8, 60, 100), (0, 8, 80, 114)] },
    { off := 0x24, reset := 0x6C, clr := .pin, rw := 0xFF, acts := [(0, 8, 90, 114)] },
    { off := 0x28, reset := 0x3E83C64, clr := .pin, rw := 0xFFFFFFFF, acts := [(16, 16, 100, 4000), (8, 8, 50, 90), (0, 8, 80, 110)] },
    { off := 0x2C, reset := 0x0, clr := .pin },
    { off := 0x30, reset := 0xA0, clr := .pin, rw := 0xFF, acts := [(0, 8, 130, 185)] },
    { off := 0x34, reset := 0xA0190, clr := .pin, rw := 0xFFFFFFFF, acts := [(16, 16, 1, 65535)] },
    { off := 0x38, reset := 0x1, clr := .pin, rw := 0x1 },
    { off := 0x3C, reset := 0x8020, clr := .pin, rw := 0xFFFFFFFF },
    { off := 0x40, reset := 0xFFFF0000, clr := .pin, rw := 0xFFFF0000 },
    { off := 0x44, reset := 0x77F, clr := .never },
    { off := 0x48, reset := 0x0, clr := .por, rw := 0xFFFFFFFF } ]

/-- The register list of THM. -/
def regsThm : List RegDesc :=
  [ { off := 0x0, reset := 0x0, clr := .pin, w1c := 0x13F },
    { off := 0x4, reset := 0x100, clr := .pin, rw := 0x3F },
    { off := 0x8, reset := 0x0, clr := .never },
    { off := 0x20, reset := 0x505080, clr := .pin, rw := 0xF0FFF3, acts := [(20, 4, 1, 15), (12, 4, 1, 15), (4, 8, 1, 80)], keep := [(0, 2, 0, 2)] },
    { off := 0x24, reset := 0x281E140A, clr := .pin, rw := 0xFFFFFFFF },
    { off := 0x28, reset := 0x463C32, clr := .pin, rw := 0xFFFFFF },
    { off := 0x2C, reset := 0x736E0C08, clr := .pin, rw := 0xFFFF0F1F, acts := [(24, 8, 85, 115), (16, 8, 95, 115), (8, 4, 1, 15), (0, 5, 1, 16)] },
    { off := 0x30, reset := 0xD6B03E8, clr := .pin, rw := 0xFFFFFFFF, acts := [(0, 16, 1, 65535)] },
    { off := 0x34, reset := 0x4100, clr := .pin, rw := 0xFFFF },
    { off := 0x40, reset := 0x80008000, clr := .never },
    { off := 0x44, reset := 0x80008000, clr := .never },
    { off := 0x48, reset := 0x80008000, clr := .never },
    { off := 0x4C, reset := 0x80008000, clr := .never },
    { off := 0x50, reset := 0x0, clr := .bor },
    { off := 0x54, reset := 0x8000, clr := .pin, rw := 0xFFFF } ]

/-- The register list of ANG. -/
def regsAng : List RegDesc :=
  [ { off := 0x0, reset := 0x0, clr := .pin, w1c := 0x3F },
    { off := 0x4, reset := 0x4, clr := .pin, rw := 0x3B },
    { off := 0x8, reset := 0x3, clr := .pin },
    { off := 0x20, reset := 0x1903B4, clr := .pin, rw := 0x3FFFFF, keep := [(11, 11, 256, 1024)] },
    { off := 0x24, reset := 0x100000, clr := .pin, rw := 0xFFFFFFFF },
    { off := 0x28, reset := 0x40, clr := .pin, rw := 0xFFF },
    { off := 0x30, reset := 0x0, clr := .pin },
    { off := 0x34, reset := 0x0, clr := .pin },
    { off := 0x38, reset := 0x0, clr := .pin },
    { off := 0x3C, reset := 0x0, clr := .pin },
    { off := 0x40, reset := 0x0, clr := .pin, rw := 0xFFFF },
    { off := 0x44, reset := 0x0, clr := .pin },
    { off := 0x50, reset := 0x0, clr := .actuator, parts := [(.a, 0xFFFFFFFF)] },
    { off := 0x54, reset := 0x0, clr := .actuator, parts := [(.a, 0xFFFFFFFF)] },
    { off := 0x58, reset := 0x0, clr := .actuator, parts := [(.b, 0xFFFFFFFF)] },
    { off := 0x5C, reset := 0x0, clr := .actuator, parts := [(.b, 0xFFFFFFFF)] },
    { off := 0x60, reset := 0x0, clr := .actuator, cnt := 2, parts := [(.a, 0xFFFFFFFF)] },
    { off := 0x68, reset := 0x0, clr := .actuator, cnt := 2, parts := [(.b, 0xFFFFFFFF)] },
    { off := 0x100, reset := 0x0, clr := .pin, rw := 0xFFFFFFFF, cnt := 24 } ]

/-- The register list of MSQ. -/
def regsMsq : List RegDesc :=
  [ { off := 0x0, reset := 0x0, clr := .actuator, w1c := 0x73F },
    { off := 0x4, reset := 0x700, clr := .actuator, rw := 0x3F },
    { off := 0x8, reset := 0x100, clr := .never },
    { off := 0x20, reset := 0x1, clr := .actuator, rw := 0x1 },
    { off := 0x24, reset := 0x400, clr := .pin, rw := 0xFFFF, acts := [(0, 16, 64, 65535)] },
    { off := 0x28, reset := 0x402, clr := .pin, rw := 0xF0F, acts := [(8, 4, 1, 15), (0, 4, 1, 15)] },
    { off := 0x2C, reset := 0x0, clr := .pin, rw := 0xFFF },
    { off := 0x30, reset := 0x0, clr := .pin, rw := 0xFFFFF000 },
    { off := 0x34, reset := 0x0, clr := .actuator, rw := 0xFFFFFFFF },
    { off := 0x38, reset := 0x0, clr := .actuator, rw := 0xF0103 },
    { off := 0x3C, reset := 0x0, clr := .actuator, w1s := 0x1 },
    { off := 0x40, reset := 0x0, clr := .actuator },
    { off := 0x44, reset := 0x0, clr := .actuator },
    { off := 0x48, reset := 0x0, clr := .actuator, w1c := 0xFFFF },
    { off := 0x4C, reset := 0x0, clr := .actuator, w1s := 0xFFFF },
    { off := 0x50, reset := 0x0, clr := .actuator, rw := 0xFFFFFFFF, cnt := 4 },
    { off := 0x60, reset := 0x0, clr := .actuator },
    { off := 0x64, reset := 0x0, clr := .pin, w1c := 0x7FFF },
    { off := 0x68, reset := 0x0, clr := .pin },
    { off := 0x6C, reset := 0x0, clr := .pin, rw := 0xFFFFFFFF },
    { off := 0x70, reset := 0x0, clr := .pin, w1c := 0x80000000 },
    { off := 0x80, reset := 0x0, clr := .actuator, cnt := 16 },
    { off := 0xC0, reset := 0x0, clr := .actuator, cnt := 16 },
    { off := 0x100, reset := 0x0, clr := .actuator, rw := 0xFFFFFFFF, cnt := 64 } ]

/-- The register list of UCS. -/
def regsUcs : List RegDesc :=
  [ { off := 0x0, reset := 0x0, clr := .pin, w1c := 0x11F },
    { off := 0x4, reset := 0x100, clr := .pin, rw := 0x1F },
    { off := 0x8, reset := 0x0, clr := .never },
    { off := 0x20, reset := 0x10001000, clr := .pin, rw := 0xFFFFFFFF, acts := [(16, 16, 512, 65535), (0, 16, 512, 65535)] },
    { off := 0x24, reset := 0x10000, clr := .never },
    { off := 0x28, reset := 0x0, clr := .thermal },
    { off := 0x2C, reset := 0x0, clr := .thermal },
    { off := 0x30, reset := 0x0, clr := .actuator, rw := 0x1, parts := [(.a, 0xFFFFFFFF)] },
    { off := 0x34, reset := 0x0, clr := .actuator, rw := 0xFFF, parts := [(.a, 0xFFFFFFFF)] },
    { off := 0x38, reset := 0x0, clr := .never, rw := 0xFFFFFFFF },
    { off := 0x3C, reset := 0x0, clr := .thermal, rw := 0xFFFFF0FF },
    { off := 0x40, reset := 0x0, clr := .actuator, rw := 0x1, parts := [(.b, 0xFFFFFFFF)] },
    { off := 0x44, reset := 0x0, clr := .actuator, rw := 0xFFF, parts := [(.b, 0xFFFFFFFF)] },
    { off := 0x48, reset := 0x0, clr := .never, rw := 0xFFFFFFFF },
    { off := 0x4C, reset := 0x0, clr := .thermal, rw := 0xFFFFF0FF },
    { off := 0x50, reset := 0x0, clr := .pin },
    { off := 0x54, reset := 0x0, clr := .pin, rw := 0xFFFFFFFF } ]

/-- The register list of CH. -/
def regsCh : List RegDesc :=
  [ { off := 0x0, reset := 0x0, clr := .actuator, w1c := 0x13F },
    { off := 0x4, reset := 0x100, clr := .actuator, rw := 0x3F },
    { off := 0x8, reset := 0x0, clr := .never },
    { off := 0x20, reset := 0x8C40000, clr := .pin, rw := 0x3FFF0000, acts := [(20, 4, 1, 12), (16, 4, 1, 8)], keep := [(28, 2, 0, 2)] },
    { off := 0x24, reset := 0xA04010, clr := .pin, rw := 0x3FFF07F, acts := [(16, 10, 64, 1023), (12, 4, 0, 8), (0, 7, 4, 64)] },
    { off := 0x28, reset := 0x6B9D2A71, clr := .pin, rw := 0xFFFFFFFF },
    { off := 0x2C, reset := 0x190C803, clr := .pin, rw := 0xFFFFFF07, acts := [(12, 4, 1, 15), (8, 4, 1, 15)] },
    { off := 0x30, reset := 0x10081844, clr := .pin, rw := 0xFFFFFFFF, acts := [(20, 12, 8, 4095), (8, 6, 1, 63), (4, 4, 1, 15), (0, 4, 1, 15)] },
    { off := 0x34, reset := 0xA68000FE, clr := .pin, rw := 0xFFF000FE, acts := [(28, 4, 4, 15), (24, 4, 2, 15), (20, 4, 2, 15)] },
    { off := 0x38, reset := 0xA0000000, clr := .pin, rw := 0xFF0F0E00, acts := [(25, 7, 1, 80)] },
    { off := 0x3C, reset := 0x8408, clr := .pin, rw := 0xFFFFFFFF, keep := [(30, 2, 0, 2)] },
    { off := 0x40, reset := 0x5060, clr := .pin, rw := 0xFF00FFF0 },
    { off := 0x44, reset := 0x0, clr := .pin, rw := 0x7F },
    { off := 0x48, reset := 0x0, clr := .pin, rw := 0x3FF },
    { off := 0x4C, reset := 0x0, clr := .actuator, rw := 0xFFFFFFFF },
    { off := 0x50, reset := 0x0, clr := .actuator, rw := 0xFFFFFFFF },
    { off := 0x60, reset := 0x0, clr := .actuator, cnt := 4 },
    { off := 0x70, reset := 0x0, clr := .actuator },
    { off := 0x74, reset := 0x0, clr := .actuator },
    { off := 0x80, reset := 0x0, clr := .pin },
    { off := 0x84, reset := 0x0, clr := .pin },
    { off := 0x88, reset := 0x0, clr := .pin, rw := 0xFFFFFFFF },
    { off := 0x8C, reset := 0x0, clr := .pin, rw := 0xFFFFFFFF } ]

/-- The register list of WRP. -/
def regsWrp : List RegDesc :=
  [ { off := 0x0, reset := 0x0, clr := .actuator, w1c := 0x33D },
    { off := 0x4, reset := 0x300, clr := .actuator, rw := 0x3D },
    { off := 0x8, reset := 0x0, clr := .never },
    { off := 0x20, reset := 0x0, clr := .pin, rw := 0x3, keep := [(0, 2, 0, 2)] },
    { off := 0x24, reset := 0x0, clr := .pin, rw := 0xFFFFFF00 },
    { off := 0x28, reset := 0x10140040, clr := .pin, rw := 0xFF3F00FF, acts := [(24, 8, 1, 255), (16, 6, 1, 63)] },
    { off := 0x2C, reset := 0x400062, clr := .pin, rw := 0xFF00F7, acts := [(16, 8, 1, 255), (4, 4, 2, 15), (0, 3, 1, 7)] },
    { off := 0x30, reset := 0x64, clr := .pin, rw := 0xFF },
    { off := 0x34, reset := 0x0, clr := .actuator },
    { off := 0x38, reset := 0x0, clr := .pin, rw := 0xFFFF0000 },
    { off := 0x3C, reset := 0x201919, clr := .pin, rw := 0xFFFFFF },
    { off := 0x50, reset := 0x0, clr := .pin, cnt := 4 },
    { off := 0x60, reset := 0x0, clr := .pin },
    { off := 0x64, reset := 0x0, clr := .pin } ]

/-- The register list of PLK. -/
def regsPlk : List RegDesc :=
  [ { off := 0x0, reset := 0x0, clr := .actuator, w1c := 0x107 },
    { off := 0x4, reset := 0x100, clr := .actuator, rw := 0x7 },
    { off := 0x8, reset := 0x0, clr := .never },
    { off := 0x20, reset := 0x100403, clr := .pin, rw := 0x7FFF0F0F, acts := [(16, 8, 4, 128), (0, 4, 1, 15)] },
    { off := 0x24, reset := 0x0, clr := .pin, rw := 0x7F7F7F7F },
    { off := 0x28, reset := 0x0, clr := .actuator, rw := 0x7F80FFFF, w1s := 0x80000000 },
    { off := 0x2C, reset := 0x0, clr := .actuator },
    { off := 0x30, reset := 0x0, clr := .pin },
    { off := 0x34, reset := 0x0, clr := .pin, rw := 0xFFFFFFFF },
    { off := 0x38, reset := 0x0, clr := .pin, rw := 0x7F7F7F } ]

/-- The register list of LPE. -/
def regsLpe : List RegDesc :=
  [ { off := 0x0, reset := 0x0, clr := .pin, w1c := 0x1FF9F },
    { off := 0x4, reset := 0x1FF00, clr := .pin, rw := 0x9F },
    { off := 0x8, reset := 0x20000000, clr := .never },
    { off := 0x20, reset := 0xA00, clr := .pin, rw := 0xFE00, w1s := 0x1 },
    { off := 0x24, reset := 0x404008, clr := .pin, rw := 0xFFFFFFF, acts := [(16, 12, 16, 4095), (12, 4, 1, 15), (0, 12, 1, 4095)] },
    { off := 0x28, reset := 0x303C2078, clr := .pin, rw := 0xF3FFF3FF, acts := [(28, 4, 1, 15), (16, 10, 10, 1000), (12, 4, 1, 15), (0, 10, 10, 1000)] },
    { off := 0x2C, reset := 0x1061003, clr := .pin, rw := 0x30F3F0F, acts := [(24, 2, 1, 3), (16, 4, 2, 15), (8, 6, 1, 63), (0, 4, 1, 15)] },
    { off := 0x30, reset := 0x140014, clr := .pin, rw := 0xFF00FF, acts := [(16, 8, 1, 255), (0, 8, 1, 255)] },
    { off := 0x34, reset := 0x200008, clr := .pin, rw := 0xFFFFFFFF, acts := [(16, 16, 1, 65535), (0, 16, 1, 65535)] },
    { off := 0x38, reset := 0x1000004, clr := .pin, rw := 0xFFFFFFFF, acts := [(16, 16, 1, 65535), (0, 16, 1, 65535)] },
    { off := 0x3C, reset := 0x800010, clr := .pin, rw := 0xFFFFFFFF, acts := [(16, 16, 1, 65535), (0, 16, 1, 65535)] },
    { off := 0x40, reset := 0x140014, clr := .pin, rw := 0xFFFFFFFF, acts := [(16, 16, 1, 65535), (0, 16, 1, 65535)] },
    { off := 0x44, reset := 0x0, clr := .actuator, w1c := 0x1FFF, parts := [(.a, 0x333), (.b, 0xCCC)], pinBits := 0x1000 },
    { off := 0x50, reset := 0xFA, clr := .pin, rw := 0xFF, acts := [(0, 8, 0, 250)] },
    { off := 0x54, reset := 0xFA, clr := .pin, rw := 0xFF, acts := [(0, 8, 0, 250)] },
    { off := 0x58, reset := 0x7D, clr := .pin, rw := 0xFF, acts := [(0, 8, 0, 188)] },
    { off := 0x60, reset := 0x0, clr := .actuator, parts := [(.a, 0xFFFFFFFF)] },
    { off := 0x64, reset := 0x0, clr := .actuator, parts := [(.b, 0xFFFFFFFF)] },
    { off := 0x68, reset := 0x0, clr := .pin },
    { off := 0x70, reset := 0x0, clr := .pin, rw := 0xFFFFFFFF },
    { off := 0x74, reset := 0x0, clr := .pin, rw := 0xFFFF0000 },
    { off := 0x78, reset := 0x0, clr := .pin },
    { off := 0x80, reset := 0x0, clr := .pin, w1s := 0x7 },
    { off := 0x84, reset := 0x0, clr := .pin, rw := 0x80030FFF },
    { off := 0x88, reset := 0x0, clr := .never, rw := 0xFFFFFFFF },
    { off := 0x90, reset := 0x0, clr := .actuator, parts := [(.a, 0xFFFFFFFF)] },
    { off := 0x94, reset := 0x0, clr := .actuator, parts := [(.b, 0xFFFFFFFF)] },
    { off := 0x98, reset := 0x0, clr := .actuator, parts := [(.a, 0xFFFFFFFF)] },
    { off := 0x9C, reset := 0x0, clr := .actuator, parts := [(.b, 0xFFFFFFFF)] },
    { off := 0xA0, reset := 0x0, clr := .pin, rw := 0x3F80FFFF },
    { off := 0xC0, reset := 0x0, clr := .pin, rw := 0x3F80FFFF } ]

/-- The register list of SPN. -/
def regsSpn : List RegDesc :=
  [ { off := 0x0, reset := 0x0, clr := .pin, w1c := 0x1F7F },
    { off := 0x4, reset := 0x1F00, clr := .pin, rw := 0x7F },
    { off := 0x8, reset := 0x0, clr := .never },
    { off := 0x20, reset := 0x0, clr := .pin, rw := 0x1, w1s := 0x2 },
    { off := 0x24, reset := 0x5001C20, clr := .pin, rw := 0xFF003FFF, acts := [(24, 8, 1, 255)] },
    { off := 0x28, reset := 0x0, clr := .pin, rw := 0xFFFFFFFF },
    { off := 0x2C, reset := 0x3C500008, clr := .pin, rw := 0xFFFF000F },
    { off := 0x30, reset := 0x5DC04B0, clr := .pin, rw := 0x3FFF3FFF, acts := [(16, 14, 500, 5000)] },
    { off := 0x34, reset := 0x647D0096, clr := .pin, rw := 0xFFFF3FFF, acts := [(24, 8, 20, 255), (16, 8, 0, 250), (0, 14, 50, 1000)] },
    { off := 0x38, reset := 0x12C003C, clr := .pin, rw := 0x3FFF3FFF, acts := [(16, 14, 100, 2000), (0, 14, 10, 1000)] },
    { off := 0x3C, reset := 0x3C00012C, clr := .pin, rw := 0xFF003FFF, acts := [(24, 8, 1, 255), (0, 14, 100, 2000)] },
    { off := 0x40, reset := 0x140A0603, clr := .pin, rw := 0xFFFF0F0F, acts := [(24, 8, 1, 255), (16, 8, 1, 255), (8, 4, 2, 15), (0, 4, 2, 15)] },
    { off := 0x44, reset := 0x0, clr := .pin, rw := 0xFFFF },
    { off := 0x48, reset := 0x0, clr := .pin },
    { off := 0x4C, reset := 0x27100100, clr := .pin, rw := 0x3FFFFF03, acts := [(16, 14, 3600, 16383)] },
    { off := 0x50, reset := 0x0, clr := .never },
    { off := 0x54, reset := 0x1518, clr := .pin, rw := 0x3FFF },
    { off := 0x58, reset := 0x0, clr := .never },
    { off := 0x5C, reset := 0x0, clr := .pin, rw := 0xFFFFFFFF },
    { off := 0x60, reset := 0x0, clr := .pin, rw := 0xFFFFFFFF } ]

/-- The register list of DRV. -/
def regsDrv : List RegDesc :=
  [ { off := 0x0, reset := 0x0, clr := .pin, w1c := 0x1F03 },
    { off := 0x4, reset := 0x1F00, clr := .pin, rw := 0x3 },
    { off := 0x8, reset := 0x0, clr := .never },
    { off := 0x20, reset := 0x1403, clr := .pin, rw := 0xFF03 },
    { off := 0x24, reset := 0xC8324B, clr := .pin, rw := 0xFFFFFF, acts := [(16, 8, 10, 255)] },
    { off := 0x28, reset := 0xF, clr := .pin, rw := 0xF },
    { off := 0x2C, reset := 0x0, clr := .never } ]

/-- The register list of MEM. -/
def regsMem : List RegDesc :=
  [ { off := 0x0, reset := 0x0, clr := .pin, w1c := 0xEFF },
    { off := 0x4, reset := 0xE00, clr := .pin, rw := 0xFF },
    { off := 0x8, reset := 0x0, clr := .never },
    { off := 0x20, reset := 0x0, clr := .pin, rw := 0xFF0111 },
    { off := 0x24, reset := 0x0, clr := .pin, rw := 0x3, w1s := 0x38 },
    { off := 0x28, reset := 0x0, clr := .pin, rw := 0xFFFFFFFF },
    { off := 0x2C, reset := 0x0, clr := .pin, rw := 0xFFFFFFFF },
    { off := 0x30, reset := 0x0, clr := .pin },
    { off := 0x34, reset := 0x0, clr := .pin, w1c := 0xC0000000 },
    { off := 0x38, reset := 0x100000, clr := .pin, rw := 0xFFFF001F, acts := [(16, 8, 1, 255)] },
    { off := 0x3C, reset := 0x0, clr := .pin },
    { off := 0x40, reset := 0x0, clr := .pin, rw := 0xFF },
    { off := 0x44, reset := 0x0, clr := .pin, rw := 0xFFFFFFFF },
    { off := 0x48, reset := 0x18, clr := .pin, rw := 0xFF, acts := [(0, 8, 1, 255)] },
    { off := 0x4C, reset := 0x0, clr := .pin, rw := 0xFFFFFF00 },
    { off := 0x50, reset := 0x0, clr := .pin, rw := 0xFFFFFFFF } ]

/-- The register list of BUF. -/
def regsBuf : List RegDesc :=
  [ { off := 0x0, reset := 0x0, clr := .pin, w1c := 0x107 },
    { off := 0x4, reset := 0x100, clr := .pin, rw := 0x7 },
    { off := 0x8, reset := 0x0, clr := .never },
    { off := 0x20, reset := 0x0, clr := .pin, rw := 0xFFFFFFFF },
    { off := 0x24, reset := 0x0, clr := .warm },
    { off := 0x28, reset := 0x0, clr := .warm },
    { off := 0x2C, reset := 0x0, clr := .pin, rw := 0xFFFFFFFF } ]

/-- The register list of CPH. -/
def regsCph : List RegDesc :=
  [ { off := 0x0, reset := 0x0, clr := .thermal, w1c := 0x10F },
    { off := 0x4, reset := 0x100, clr := .thermal, rw := 0xF },
    { off := 0x8, reset := 0x0, clr := .never },
    { off := 0x20, reset := 0x0, clr := .thermal, rw := 0x1FFF },
    { off := 0x24, reset := 0x0, clr := .thermal },
    { off := 0x28, reset := 0x0, clr := .thermal, rw := 0x8FFF3FFF },
    { off := 0x2C, reset := 0x0, clr := .thermal, rw := 0x8FFF3FFF },
    { off := 0x30, reset := 0x0, clr := .thermal, rw := 0xFFF },
    { off := 0x34, reset := 0x0, clr := .never, rw := 0xFFFFFFFF },
    { off := 0x38, reset := 0x0, clr := .warm, rw := 0xFFFFF000 },
    { off := 0x3C, reset := 0x0, clr := .warm, rw := 0x3F },
    { off := 0x40, reset := 0x0, clr := .warm },
    { off := 0x44, reset := 0x0, clr := .thermal },
    { off := 0x48, reset := 0x0, clr := .thermal, w1c := 0xC0000000 },
    { off := 0x4C, reset := 0x0, clr := .thermal, rw := 0xFFFFFFFF } ]

/-- The register list of HWD. -/
def regsHwd : List RegDesc :=
  [ { off := 0x0, reset := 0x0, clr := .thermal, w1c := 0x11F },
    { off := 0x4, reset := 0x100, clr := .thermal, rw := 0x1F },
    { off := 0x8, reset := 0x0, clr := .never },
    { off := 0x20, reset := 0x0, clr := .thermal, w1s := 0x1 },
    { off := 0x24, reset := 0x0, clr := .thermal, rw := 0xFF00007F },
    { off := 0x28, reset := 0x0, clr := .thermal },
    { off := 0x2C, reset := 0x320000, clr := .thermal, rw := 0xFFFF0000, acts := [(16, 16, 10, 1000)] },
    { off := 0x30, reset := 0x0, clr := .thermal, w1s := 0x1 },
    { off := 0x34, reset := 0x0, clr := .thermal },
    { off := 0x100, reset := 0x0, clr := .thermal, rw := 0xFFFFFFFF, cnt := 64 },
    { off := 0x200, reset := 0x0, clr := .thermal, cnt := 64 } ]

/-- The register list of HIF. -/
def regsHif : List RegDesc :=
  [ { off := 0x0, reset := 0x0, clr := .pin, w1c := 0x103 },
    { off := 0x4, reset := 0x100, clr := .pin, rw := 0x3 },
    { off := 0x8, reset := 0x0, clr := .never },
    { off := 0x20, reset := 0x806A, clr := .pin, rw := 0x807F },
    { off := 0x30, reset := 0x0, clr := .pin, rw := 0xFFFFFFFF, cnt := 8 } ]

/-- The register list of SAS. -/
def regsSas : List RegDesc :=
  [ { off := 0x0, reset := 0x0, clr := .pin, w1c := 0xF },
    { off := 0x4, reset := 0x0, clr := .pin, rw := 0xF },
    { off := 0x8, reset := 0x0, clr := .never },
    { off := 0x20, reset := 0x3, clr := .pin, rw := 0x33, keep := [(0, 2, 1, 3)] },
    { off := 0x28, reset := 0x0, clr := .pin, rw := 0xFFFFFFFF },
    { off := 0x2C, reset := 0x0, clr := .pin, rw := 0xFFFFFFFF },
    { off := 0x30, reset := 0x0, clr := .pin, rw := 0xFFFFFFFF },
    { off := 0x34, reset := 0x0, clr := .pin, rw := 0xFFFFFFFF },
    { off := 0x38, reset := 0x0, clr := .pin, rw := 0xFFFFFFFF } ]

/-- The register list of PCIE. -/
def regsPcie : List RegDesc :=
  [ { off := 0x0, reset := 0x0, clr := .pin, w1c := 0x10F },
    { off := 0x4, reset := 0x100, clr := .pin, rw := 0xF },
    { off := 0x8, reset := 0x0, clr := .never },
    { off := 0x20, reset := 0x540, clr := .pin, rw := 0x77F, acts := [(8, 3, 1, 5), (0, 7, 1, 64)] },
    { off := 0x24, reset := 0x0, clr := .pin, rw := 0xFFFFFFFF },
    { off := 0x28, reset := 0x0, clr := .host, rw := 0xFFFFFFFF } ]

/-- The register list of CCX. -/
def regsCcx : List RegDesc :=
  [ { off := 0x0, reset := 0x0, clr := .pin, w1c := 0x107 },
    { off := 0x4, reset := 0x100, clr := .pin, rw := 0x7 },
    { off := 0x8, reset := 0x4000000, clr := .never },
    { off := 0x20, reset := 0x1E0000, clr := .pin, rw := 0xFF0001, acts := [(16, 8, 1, 254)] },
    { off := 0x24, reset := 0x0, clr := .pin, rw := 0xFFFE0000 },
    { off := 0x28, reset := 0x0, clr := .warm },
    { off := 0x2C, reset := 0x0, clr := .warm },
    { off := 0x30, reset := 0x0, clr := .warm },
    { off := 0x34, reset := 0x0, clr := .warm },
    { off := 0x38, reset := 0x0, clr := .warm },
    { off := 0x3C, reset := 0x0, clr := .pin, rw := 0xFFFFFFFF } ]

/-- The register list of VALE. -/
def regsVale : List RegDesc :=
  [ { off := 0x0, reset := 0x0, clr := .pin, w1c := 0x13F },
    { off := 0x4, reset := 0x100, clr := .pin, rw := 0x3F },
    { off := 0x8, reset := 0x0, clr := .never },
    { off := 0x20, reset := 0x64001978, clr := .pin, rw := 0xFFFFFF79, acts := [(24, 8, 100, 255), (8, 8, 1, 255)] },
    { off := 0x24, reset := 0x0, clr := .pin, rw := 0x3F80003F },
    { off := 0x28, reset := 0x0, clr := .pin, rw := 0xFFFFFFFF },
    { off := 0x2C, reset := 0x10004001, clr := .pin, rw := 0x3FFFFFFF },
    { off := 0x30, reset := 0x114, clr := .pin, rw := 0x1FF0FFF, acts := [(8, 4, 1, 8), (0, 8, 1, 60)] },
    { off := 0x34, reset := 0x0, clr := .pin, w1s := 0x7 },
    { off := 0x38, reset := 0x0, clr := .pin },
    { off := 0x3C, reset := 0x0, clr := .pin },
    { off := 0x40, reset := 0x0, clr := .pin },
    { off := 0x44, reset := 0x0, clr := .pin, rw := 0xFFFFFFFF } ]

/-- The register list of RBK. -/
def regsRbk : List RegDesc :=
  [ { off := 0x0, reset := 0x0, clr := .pin, w1c := 0x107 },
    { off := 0x4, reset := 0x100, clr := .pin, rw := 0x7 },
    { off := 0x8, reset := 0x0, clr := .never },
    { off := 0x20, reset := 0x3C0064, clr := .pin, rw := 0x7FF00FF, acts := [(16, 11, 1, 1440), (0, 8, 1, 255)] },
    { off := 0x24, reset := 0x30000, clr := .pin, rw := 0xFFFFF, acts := [(16, 4, 3, 15)] },
    { off := 0x28, reset := 0x0, clr := .pin, rw := 0x700, w1s := 0x3 },
    { off := 0x2C, reset := 0x0, clr := .pin, rw := 0xFFFFF000 },
    { off := 0x30, reset := 0x0, clr := .pin, rw := 0x7 },
    { off := 0x34, reset := 0x0, clr := .pin, rw := 0x3F1F },
    { off := 0x38, reset := 0x0, clr := .pin, rw := 0xFFFFFFFF, cnt := 4 },
    { off := 0x48, reset := 0x0, clr := .pin, rw := 0xFFFFFF00 } ]

/-- The register list of INTC. -/
def regsIntc : List RegDesc :=
  [ { off := 0x0, reset := 0x0, clr := .pin, w1c := 0x10F },
    { off := 0x4, reset := 0x100, clr := .pin, rw := 0xF },
    { off := 0x8, reset := 0x0, clr := .never },
    { off := 0x20, reset := 0x0, clr := .warm, rw := 0x707 },
    { off := 0x24, reset := 0x0, clr := .warm, w1c := 0x80000000 },
    { off := 0x28, reset := 0x0, clr := .warm, w1c := 0x80000000 },
    { off := 0x2C, reset := 0x0, clr := .warm, rw := 0x3 },
    { off := 0x30, reset := 0x0, clr := .warm, rw := 0xFFFFFF },
    { off := 0x34, reset := 0x0, clr := .warm, rw := 0xFFFFFF },
    { off := 0x38, reset := 0x303, clr := .pin, w1s := 0x30000 },
    { off := 0x3C, reset := 0xA, clr := .warm, rw := 0x3FF, w1s := 0x30000, acts := [(0, 10, 1, 1000)] },
    { off := 0x40, reset := 0x0, clr := .warm },
    { off := 0x100, reset := 0x0, clr := .pin, rw := 0x73737373, cnt := 64 },
    { off := 0x200, reset := 0x0, clr := .never, cnt := 8 } ]

/-- The register list of XSP. -/
def regsXsp : List RegDesc :=
  [ { off := 0x0, reset := 0x0, clr := .pin, w1c := 0x307 },
    { off := 0x4, reset := 0x300, clr := .pin, rw := 0x7 },
    { off := 0x8, reset := 0x0, clr := .never },
    { off := 0x20, reset := 0x0, clr := .pin, rw := 0x3 },
    { off := 0x24, reset := 0x140005, clr := .pin, rw := 0xFF00FF, acts := [(16, 8, 1, 255), (0, 8, 1, 255)] },
    { off := 0x30, reset := 0x0, clr := .warm, rw := 0xFFFFFFF },
    { off := 0x34, reset := 0x0, clr := .warm, rw := 0xFFFFFFFF },
    { off := 0x38, reset := 0x0, clr := .warm, rw := 0xF },
    { off := 0x3C, reset := 0x0, clr := .warm, rw := 0xFFFFFF },
    { off := 0x40, reset := 0x0, clr := .warm, rw := 0x7, w1s := 0x80000000 },
    { off := 0x44, reset := 0x0, clr := .warm },
    { off := 0x48, reset := 0x0, clr := .pin, rw := 0xFFFFFFFF },
    { off := 0x60, reset := 0x0, clr := .thermal, cnt := 4, step := 8 },
    { off := 0x64, reset := 0x0, clr := .thermal, cnt := 4, step := 8 } ]

/-- The register list of DBG. -/
def regsDbg : List RegDesc :=
  [ { off := 0x0, reset := 0x0, clr := .pin, w1c := 0xF },
    { off := 0x4, reset := 0x0, clr := .pin, rw := 0xF },
    { off := 0x8, reset := 0x0, clr := .never },
    { off := 0x20, reset := 0x1B, clr := .pin, rw := 0x10FFF, acts := [(0, 12, 4, 4095)] },
    { off := 0x24, reset := 0x0, clr := .pin },
    { off := 0x28, reset := 0x0, clr := .pin },
    { off := 0x2C, reset := 0x0, clr := .pin, rw := 0xFFFFFFFF },
    { off := 0x30, reset := 0x0, clr := .pin, rw := 0xFF01010F, acts := [(24, 8, 1, 255)] },
    { off := 0x34, reset := 0x0, clr := .pin, rw := 0xFFFFF000 },
    { off := 0x38, reset := 0x0, clr := .pin },
    { off := 0x3C, reset := 0x0, clr := .pin, rw := 0xFFFFFFFF } ]

/-- WRPB has no shared shock detector (R348): offset 0x003C is reserved there. -/
def regsWrpb : List RegDesc := regsWrp.filter (fun d => d.off != 0x3C)

/-- The register windows (R58): base, the actuator whose fields a per-actuator block holds (R25), and the block's list. -/
def blockTable : List (Nat × Option Act × List RegDesc) :=
  [ (0x80000000, none, regsSys),
    (0x80010000, none, regsPwr),
    (0x80020000, none, regsThm),
    (0x80030000, none, regsAng),
    (0x80040000, some .a, regsMsq),
    (0x80050000, some .b, regsMsq),
    (0x80060000, none, regsUcs),
    (0x80080000, some .a, regsCh),
    (0x80090000, some .a, regsCh),
    (0x800A0000, some .b, regsCh),
    (0x800B0000, some .b, regsCh),
    (0x800C0000, some .a, regsWrp),
    (0x800D0000, some .b, regsWrpb),
    (0x800E0000, some .a, regsPlk),
    (0x800F0000, some .b, regsPlk),
    (0x80100000, none, regsLpe),
    (0x80110000, none, regsSpn),
    (0x80120000, none, regsDrv),
    (0x80140000, none, regsMem),
    (0x80150000, none, regsBuf),
    (0x80160000, none, regsCph),
    (0x80170000, none, regsHwd),
    (0x80180000, none, regsHif),
    (0x80190000, none, regsSas),
    (0x801A0000, none, regsPcie),
    (0x801B0000, none, regsCcx),
    (0x801C0000, none, regsVale),
    (0x801D0000, none, regsRbk),
    (0x801E0000, none, regsIntc),
    (0x801F0000, none, regsXsp),
    (0x80200000, none, regsDbg) ]

end Sys2Proof.Machine
end

