-- ==== Sys2Proof/Machine/StateApc.lean ====
section
/-!
DEFINITION. State of the control cores' supervision, the flash controller, the debug port and the enclosure group that is not a
register of the register table.
-/
namespace Sys2Proof.Machine

/-- A watchdog (R672 to R674, R696): the tick of its last restart, the period in force in ticks, and the ticks it had run when its
core halted. -/
structure Watchdog where
  at_ : Nat
  period : Nat
  paused : Option Nat
deriving DecidableEq, Repr

/-- The control and status registers of a logical core (R663, R679) that its reset gives a value or the block counts: the privilege mode
(0 user, 1 supervisor, 3 machine), satp, the PMP entries by number (configuration byte, address); mcycle as it stood at a tick from
which it runs at 1.6 GHz, minstret, mhpmcounter3 to 6, mcountinhibit, and the events selected by mhpmevent3 to 6. -/
structure LcCsr where
  mode : Nat
  satp : BitVec 64
  pmp : List (Nat × (Nat × Nat))
  cycle : Nat
  cycleAt : Nat
  instret : BitVec 64
  hpm : List (Nat × BitVec 64)
  inhibit : Nat
  event : List (Nat × Nat)
deriving DecidableEq, Repr

/-- The control cores as the block sees them (R31, R662 to R681): released by the boot ROM, halted by the debug module, the pair
under self-test; watchdogs; the countdown timers' start ticks; the boot ROM service in progress (core, service) and the value the
last service returned to each core (R681); the status registers of each core; dirty bytes of the data caches (R665, R666); the start of a core's pair self-test
(R670). -/
structure ApcSt where
  rel0 : Bool
  rel1 : Bool
  halt0 : Bool
  halt1 : Bool
  wd0 : Watchdog
  wd1 : Watchdog
  tmr0 : Nat
  tmr1 : Nat
  svc : Option (Nat × Nat)
  ret0 : Int
  ret1 : Int
  csr0 : LcCsr
  csr1 : LcCsr
  dirty : List (Nat × Byte)
  rdmAt : List (Nat × Nat)
deriving DecidableEq, Repr

/-- The flash controller and its device (R684 to R690): the device's bytes that differ from those of manufacture, by offset; the
outcome of the operation that has run and not ended: STATUS and DONE (R688); a second operation requested meanwhile (R687); when the
operation in hand began. -/
structure XspSt where
  flash : List (Nat × Byte)
  res : Option (Nat × Nat)
  again : Bool
  goAt : Nat
deriving DecidableEq, Repr

/-- The debug port (R692 to R697): the transmit and receive FIFOs, oldest byte first. -/
structure DbgSt where
  tx : List Byte
  rx : List Byte
deriving DecidableEq, Repr

/-- A seek announcement (R720 to R722): its actuator, target position in 1/256 reference pitch, class, DIR, and, once sent, the
tick at which the seek may begin. -/
structure Announce where
  x : Act
  target : Int
  cls : Nat
  down : Bool
  start : Option Nat
deriving DecidableEq, Repr

/-- VALE (R698 to R725): the tick of the present cycle's start; the counters C by 64 x system slot + sender (R704); the next message
is a SYNC; transmission stopped (R703); announcements in issue order; the last message sent, and whether the previous cycle carried
a BEACON; senders by the tick of their last accepted message (R707) and by the flags of their last STATUS (ELIG 16, TOKREQ 8,
TOKHOLD 4, INREG 2, RETRACT 1); the tick of the last accepted beacon; REFOK of it; consecutive beacons toward PHOK; tokens granted
by the Canopy: slot and tick; a handover in progress: slot and beacons left; HANDOVER beacons accepted that name this drive; the
tick from which an election counts (R708); the tick at which this drive's token was granted; the drive was a member since the deferral began, and the tick it began (R716). -/
structure ValeSt where
  cycleAt : Nat
  counters : List (Nat × Nat)
  sync : Bool
  stopped : Bool
  ann : List Announce
  sent : Option (BitVec 96)
  beaconed : Bool
  heard : List (Nat × Nat)
  status : List (Nat × Nat)
  beaconAt : Option Nat
  refOk : Bool
  phok : Nat
  tokens : List (Nat × Nat)
  handover : Option (Nat × Nat)
  named : Nat
  enAt : Nat
  tokenAt : Nat
  memberSince : Bool
  deferAt : Nat
deriving DecidableEq, Repr

/-- A watchdog after reset. -/
def Watchdog.empty : Watchdog := { at_ := 0, period := 8000000, paused := none }

/-- A core's status registers at a reset at a tick (R679): machine mode, no translation, no PMP entry in force (log 96). -/
def LcCsr.at (t : Nat) : LcCsr :=
  { mode := 3, satp := 0, pmp := [], cycle := 0, cycleAt := t, instret := 0, hpm := [], inhibit := 0, event := [] }

/-- The cores after reset: held until the boot ROM releases them (R618). -/
def ApcSt.empty : ApcSt :=
  { rel0 := false, rel1 := false, halt0 := false, halt1 := false, wd0 := Watchdog.empty, wd1 := Watchdog.empty, tmr0 := 0,
    tmr1 := 0, svc := none, ret0 := 0, ret1 := 0, csr0 := LcCsr.at 0, csr1 := LcCsr.at 0, dirty := [], rdmAt := [] }

/-- The cores after a reset at a tick. -/
def ApcSt.resetAt (t : Nat) : ApcSt := { ApcSt.empty with csr0 := LcCsr.at t, csr1 := LcCsr.at t }

/-- The flash controller after reset. -/
def XspSt.empty : XspSt := { flash := [], res := none, again := false, goAt := 0 }

/-- The debug port after reset. -/
def DbgSt.empty : DbgSt := { tx := [], rx := [] }

/-- VALE after reset. -/
def ValeSt.empty : ValeSt :=
  { cycleAt := 0, counters := [], sync := false, stopped := false, ann := [], sent := none, beaconed := false, heard := [],
    status := [], beaconAt := none, refOk := false, phok := 0, tokens := [], handover := none, named := 0, enAt := 0, tokenAt := 0,
    memberSince := false, deferAt := 0 }

end Sys2Proof.Machine
end

