-- ==== Sys2Proof/Machine/StateCore.lean ====
section
/-!
DEFINITION. State of the register interface, the die-to-die link, the angle base, SYS, the pins and the Ringbook recorder
that is not a register of the register table.
-/
namespace Sys2Proof.Machine

/-- The register interface (R62 to R68): per initiator and pair the LATH shadow and the LAT holding register, keyed by
8 x the LAT address + the initiator's number; the value the initiator's last read returned; its last access fault
(0 none, 1 load, 2 store/AMO, 3 instruction access fault; 4 load, 5 store/AMO address-misaligned exception of R664; 6 illegal-instruction
exception of R666). -/
structure BusSt where
  shadow : List (Nat × Word)
  holding : List (Nat × Word)
  readData : List (Nat × BitVec 64)
  fault : List (Nat × Nat)
deriving DecidableEq, Repr

/-- The pins and fuses: the straps as sampled last (R784), FAULT_L driven low (R779), RESET_L held low, RESET_L low in a
RETRACT, which has it act at its end (R793), the variant (R8: 1 DN,
2 DS, 3 SN) and the revision (R682). -/
structure PinSt where
  hifsel : Bool
  spinup : Bool
  gen7 : Bool
  slotid : Nat
  canopy : Bool
  faultL : Bool
  resetL : Bool
  resetWaits : Bool
  variant : Nat
  rev : Nat
deriving DecidableEq, Repr

/-- The die-to-die link (R38, R44): a remap frame sent, acknowledged; the lanes that failed (bit 8 the spare); the no-frame
limit of R39 in us; when the remap was acknowledged. -/
structure D2dSt where
  remapSent : Bool
  remapAcked : Bool
  remapLane : Nat
  bad : Nat
  limitUs : Nat
  ackAt : Nat
  trainedOnce : Bool
  reads : List (Initiator × Nat × Nat)
deriving DecidableEq, Repr

/-- A comparator that is armed (R101): its target, its destination (0 own MSQ, 1 first channel, 2 second channel, 3 WRP,
4 PLK, 5 LPE, R239), and whether the angle has passed it in this tick (R104). -/
structure Cmp where
  target : Nat
  dest : Nat
  hit : Bool
deriving DecidableEq, Repr

/-- The angle base (R81 to R108): the 48-bit ATS and the fraction of the angle in 2^-16 ac; the ATS of the last tick, when a correction
has set the angle forward since (R89, R102); the correction not yet absorbed, in 2^-16 ac; the tick of the last SERVO and of the last correction; per source the ATS and tick of its last correction that
may give a speed; a SERVO correction since VALID was set or BEMF became the source; a WEDGES change that waits for the
wrap; the learned offset of each zero crossing (R94); SPN's BEMF valid and forward; comparators of A and B. -/
structure AngSt where
  ats : Nat
  frac : Nat
  prev : Option Nat
  slew : Int
  servoAt : Option Nat
  corrAt : Option Nat
  servoLast : Option (Nat × Nat)
  bemfLast : Option (Nat × Nat)
  servoSince : Bool
  masterWas : Option (Nat × Bool)
  pendWedges : Option Nat
  bemfOfs : List (Nat × Nat)
  cmpA : List (Nat × Cmp)
  cmpB : List (Nat × Cmp)
deriving DecidableEq, Repr

/-- SYS: the FAULT latch of each actuator (R758), the escalation histories (ticks of the counted ACTUATOR resets and WARM
resets within ESC_WIN, R225), the drive-level hold (R798), a firmware switch in progress and the image it takes (R770),
COOLDOWN and RETRACT in force (R748), INREG since the last start decision, a slot in RUN within 2 revolutions and since when none is in RUN (R749),
the tick of the last POR or BOR, each actuator's reset in
progress, its heads loaded (R195), an image accepted by IMGVERIFY since the last THERMAL reset (R770), and no image
accepted at boot (R619). -/
structure SysSt where
  faultA : Bool
  faultB : Bool
  actResetsA : List Nat
  actResetsB : List Nat
  warmResets : List Nat
  drvHold : Bool
  switching : Bool
  cooldown : Bool
  retract : Bool
  inregSince : Bool
  active : Bool
  idleAt : Option Nat
  porAt : Nat
  actRstA : Bool
  actRstB : Bool
  loadedA : Bool
  loadedB : Bool
  imageVerified : Bool
  noImage : Bool
deriving DecidableEq, Repr

/-- An occurrence, or several of one identity (R737, R740): TYPE, SOURCE, CODE; the count; first and last us time and ATS;
the context and SYS_MODE of R738, BLOCK_STAT and three data words at the first. -/
structure Occ where
  ty : Nat
  src : Nat
  code : Nat
  count : Nat
  t0 : Nat
  ats0 : Nat
  t1 : Nat
  ats1 : Nat
  ctx : Nat
  mode : Nat
  stat : Word
  d0 : Word
  d1 : Word
  d2 : Word
deriving DecidableEq, Repr

/-- An event record (R738): its sequence number, its age in the order of creation, and what it records. -/
structure EvRec where
  seq : Nat
  ord : Nat
  occ : Occ
deriving DecidableEq, Repr

/-- A histogram area (R733): sequence number, sample count, sum, bins by number. -/
structure HistArea where
  seq : Nat
  count : Nat
  sum : Int
  bins : List (Nat × Nat)
deriving DecidableEq, Repr

/-- One held extreme (R735). -/
structure ExtVal where
  val : Int
  ats : Nat
  us : Nat
  mode : Nat
  ctx : Nat
deriving DecidableEq, Repr

/-- An extreme area (R735): sequence number, least and greatest sample. -/
structure ExtArea where
  seq : Nat
  least : Option ExtVal
  most : Option ExtVal
deriving DecidableEq, Repr

/-- An update that waits for the end of a snapshot copy (R732). -/
inductive RbkUpd where
  | hist (id bin : Nat) (sample : Int) (ctx : Nat)
  | ctr (i n : Nat)
deriving DecidableEq, Repr

/-- The content of the retained SRAM by region (R727): boot count, WRIDX, WRAPS, DROPPED; counters and their area's
sequence; event records by ring index; extremes and histograms by ID; the firmware region's bytes. -/
structure Retained where
  bootCount : Nat
  wrIdx : Nat
  wraps : Nat
  dropped : Nat
  ctrSeq : Nat
  ctrs : List (Nat × Nat)
  recs : List (Nat × EvRec)
  exts : List (Nat × ExtArea)
  hists : List (Nat × HistArea)
  fw : List (Nat × Byte)
deriving DecidableEq, Repr

/-- A flash image of the Ringbook partition (R742): its sequence, complete or not, the regions that are complete, the flush
cause (0 fault, 1 RETRACT, 2 THERMAL, 3 FLUSH, 4 PERIOD), version 1 records, and the content copied. -/
structure RbkImage where
  seq : Nat
  complete : Bool
  regions : Nat
  cause : Nat
  v1 : Bool
  content : Retained
deriving DecidableEq, Repr

/-- A flush in progress (R743): its cause, whether the critical set is still being written, and the event records as copied. -/
structure Flush where
  cause : Nat
  crit : Bool
  recs : Option (List (Nat × EvRec))
deriving DecidableEq, Repr

/-- The Ringbook recorder (R727 to R746): the retained SRAM; the creation count; coalesce registers by SOURCE and the
pending FIFO (R740); a record write in progress; the region being copied by SNAP and the updates that wait; the flush in
progress and the cause of one that follows; the flash slot and the image sequence of the flush in progress or last made; the tick of
the last complete image; the images by slot. -/
structure RbkSt where
  ret : Retained
  ords : Nat
  coal : List (Nat × Occ)
  fifo : List Occ
  recw : Bool
  snap : Option Nat
  waiting : List RbkUpd
  flush : Option Flush
  again : Option Nat
  imgSlot : Nat
  imgSeq : Nat
  lastAt : Nat
  images : List (Nat × RbkImage)
deriving DecidableEq, Repr

end Sys2Proof.Machine
end

