-- ==== Sys2Proof/Machine/StateHost.lean ====
section
/-!
DEFINITION. State of MEM, BUF, CPH, Heartwood, CCX and the host links that is not a register of the register table.
-/
namespace Sys2Proof.Machine

/-- A DRAM code word that has been written (R535, R541): its 8 data and 2 check bytes (symbol 0 in the low byte), or merged data
under the fixed poison syndrome. -/
inductive DramCell where
  | word (cw : BitVec 80)
  | poison (data : BitVec 64)
deriving DecidableEq, Repr

/-- Memory (R526 to R555): SRAM words by address / 4 (none: uncorrectable), DRAM code words by offset / 8; unlisted words
were never written since the content was last lost (R540). The correction queue (address, symbol) and the tracker's entries
(address, count, symbol) by index (R547); consecutive cool polls (R533); a second training attempt and its start (R531). -/
structure MemSt where
  sram : List (Nat × Option Word)
  dram : List (Nat × DramCell)
  queue : List (Nat × Nat)
  cet : List (Nat × (Nat × (Nat × Nat)))
  cool : Nat
  retried : Bool
  trainAt : Nat
deriving DecidableEq, Repr

/-- A buffer reservation (R556 to R562): its context and segments, whether it is the reserve, the first positions of the two
windows, the positions filled (by the host for a write, by the lane for a read) and those marked failed, the media position of
the last BADV (R174), whether the segments are withheld from the host, and the first position that CCX fills with zeros
(R642). -/
structure Resv where
  ctx : Nat
  seg0 : Nat
  seg1 : Nat
  reserve : Bool
  win0 : Nat
  win1 : Nat
  filled : List Nat
  bad : List Nat
  pub : Nat
  held0 : Bool
  held1 : Bool
  zeroFrom : Option Nat
deriving DecidableEq, Repr

/-- BUF: the reservations, the waiting contexts in order of arrival, the withheld segments (context, segment). -/
structure BufSt where
  resv : List Resv
  wait : List Nat
  failq : List (Nat × Nat)
deriving DecidableEq, Repr

/-- A key slot (R577 to R603): state (0 EMPTY, 1 LOADED, 2 REPLACING, 3 ERASING), generation, use count, the active and the
staged key (Key1 in the low half; a system key in the low 256 bits), fixed field, invocation counter, recorded limit, a slot of
SESSKEY, a counter that reached its end (R600), a record write that failed (R601), the derived IV of a session slot
(R603), and the fixed field staged with a key. -/
structure KeySlot where
  st : Nat
  gen : Nat
  use : Nat
  key : BitVec 512
  staged : BitVec 512
  fixed : Word
  ctr : Nat
  limit : Nat
  sess : Bool
  sat : Bool
  resvFail : Bool
  iv : BitVec 96
  stFixed : Word
deriving DecidableEq, Repr

/-- CPH: media slots by index and system slots by 4096 + index; locking-range words by table address (R589); mask DRBG outputs since
its reseed (R574). -/
structure CphSt where
  slots : List (Nat × KeySlot)
  ranges : List (Nat × Word)
  masks : Nat
deriving DecidableEq, Repr

/-- Heartwood (R566 to R626): the OTP's device identifier, thermometer bits and root key state; the flash rollback floor; the
DRBG's generate requests since its seed; the address and length of the image that IMGVERIFY accepted last (R770) and the patch kept
for PATCHLOAD; the measurements by index; the debug nonce: level, time; unlocks since PIN; a
KEYERASE under way: first slot and count; system key identifiers whose records hold a limit; the time GO was set; the ranges of the image
slots A and B in 64 KiB, from the layout record (R685, R686). -/
structure HwdSt where
  devId : BitVec 64
  thermo : Nat
  flashFloor : Nat
  generates : Nat
  image : Nat × Nat
  patch : Option PatchImg
  meas : List (Nat × List Word)
  nonce : Option (Nat × Nat)
  unlocks : Nat
  erase : Option (Nat × Nat)
  records : List (Nat × Nat)
  goAt : Nat
  slotA : Nat × Nat
  slotB : Nat × Nat
deriving DecidableEq, Repr

/-- A command context in use (R638 to R648): STATE; KIND; PORT; unit; tag or command identifier; submission queue; write, FUA;
LBA and length; key slot bound and whether its old key (R581); reservation wait; STATUS; sectors credited and FINAL posts; the
host transfer has ended; sectors copied to the write cache; the queues that took it (bit 0 A, 1 B, 2 N); its allocation time; the
context came from an ORDERED command (R633); it ends without a host status (R651); it came from a HEAD OF QUEUE command; the key
tag that its command carries; firmware has it copied to the write cache (R642); the tick of its end, the rank of what ended it and the
status before (R649). -/
structure Ctx where
  st : Nat
  kind : Nat
  port : Nat
  unit : Nat
  tag : Nat
  sq : Nat
  write : Bool
  lba : Nat
  len : Nat
  slot : Option Nat
  status : Nat
  credited : Nat
  finals : Nat
  xferDone : Bool
  cached : Nat
  queues : Nat
  at_ : Nat
  ordered : Bool
  silent : Bool
  hoq : Bool
  keytag : Option Nat
  caching : Bool
  ended : Option (Nat × (Nat × Nat))
deriving DecidableEq, Repr

/-- CCX: the contexts in use by number; allocation sequences by number (R638 word 28); the queues (context, IDONE for N);
admissions that
wait for a REPLACING slot (context, slot), in arrival order (R581); the last host completion posted (port, tag, status); commands that wait in their NVMe queue for a free
context, or behind an ORDERED command, are the sender's. -/
structure CcxSt where
  ctxs : List (Nat × Ctx)
  seqs : List (Nat × Nat)
  qa : List Nat
  qb : List Nat
  qn : List (Nat × Bool)
  kwait : List (Nat × Nat)
  posted : Option (Nat × (Nat × Nat))
deriving DecidableEq, Repr

/-- The host links: the start instant of R636, the time of CC.EN, CC.EN and CSTS.RDY and CFS; UNIT ATTENTION pending per SAS
port (R653); MGT's byte offset and the bytes of its last read; the SAS addresses that the ports use (R634); the
PCIE_CFG and PCIE_ID in force (R660). -/
structure HostSt where
  startAt : Nat
  ccEnAt : Option Nat
  cfs : Bool
  ua : Nat
  mgtOfs : Nat
  mgtData : List Byte
  addrA : BitVec 64
  addrB : BitVec 64
  pcieCfg : Word
  pcieId : Word
deriving DecidableEq, Repr

/-- Memory after reset. -/
def MemSt.empty : MemSt := { sram := [], dram := [], queue := [], cet := [], cool := 0, retried := false, trainAt := 0 }

/-- BUF after reset. -/
def BufSt.empty : BufSt := { resv := [], wait := [], failq := [] }

/-- A key slot after reset (R579). -/
def KeySlot.empty : KeySlot :=
  { st := 0, gen := 0, use := 0, key := 0, staged := 0, fixed := 0, ctr := 0, limit := 0, sess := false, sat := false,
    resvFail := false, iv := 0, stFixed := 0 }

/-- CPH after reset. -/
def CphSt.empty : CphSt := { slots := [], ranges := [], masks := 0 }

/-- Heartwood after reset. -/
def HwdSt.empty : HwdSt :=
  { devId := 0, thermo := 0, flashFloor := 0, generates := 0, image := (0, 0), patch := none, meas := [], nonce := none, unlocks := 0,
    erase := none, records := [], goAt := 0, slotA := (0, 0), slotB := (0, 0) }

/-- CCX after reset. -/
def CcxSt.empty : CcxSt := { ctxs := [], seqs := [], qa := [], qb := [], qn := [], kwait := [], posted := none }

/-- The host links after reset. -/
def HostSt.empty : HostSt :=
  { startAt := 0, ccEnAt := none, cfs := false, ua := 0, mgtOfs := 0, mgtData := [],
    addrA := 0, addrB := 0, pcieCfg := 0x540, pcieId := 0 }

end Sys2Proof.Machine
end

