-- ==== Sys2Proof/Machine/StateLoop.lean ====
section
/-!
DEFINITION. State of the loop engine, the drivers, the spindle controller, the supplies and the thermal unit, that is not a
register of the register table. Times are ticks of 1.25 ns.
-/
namespace Sys2Proof.Machine

/-- One head's servo supervision (R402, R416 to R419): consecutive samples within the read and the write criterion; samples
without valid PES; identical raw bursts with the wedge number standing still, the last burst and wedge number; frozen; the
microactuator command; samples of following error (R407); the measured position of the last valid mark while searching; the
integrator of its microactuator loop (R397). -/
structure HeadSt where
  rd : Nat
  wr : Nat
  noPes : Nat
  frz : Nat
  burst : Nat
  wedge : Nat
  frozen : Bool
  ua : Int
  fe : Nat
  mark : Option Int
  integ : Rat
deriving DecidableEq, Repr

/-- An actuator's loops (R389 to R422): estimator position, velocity and bias; the previous applied current and sample time;
the integrator state; the band applied (R430); samples within THR_FOL; the two heads; samples since any bound head had valid
PES; the revolution of the search's start; consecutive overruns, overruns of a revolution and
its number; the last sample gave no result in time (R329, LOOP); samples in which the normal law met its deadline (R412); the time saturation has lasted since (R409); a seek
that waits (R421, R485); LOADH or UNLOADH executing; the last VCM overcurrent (R432); overcurrent pause; the targets LPE works
to in 1/256 reference pitch (R369, R371); the start of the seek and of SETTLE (R733); the states of the notches (R394): the VCM's
by number, those of the first and the second head's microactuator from 16 and from 32; the last eight rotational accelerations,
newest first (R399). -/
structure LpeAct where
  p : Rat
  v : Rat
  b : Rat
  u : Int
  at_ : Nat
  integ : Rat
  band : Nat
  fol : Nat
  h0 : HeadSt
  h1 : HeadSt
  blind : Nat
  searchRev : Nat
  ovr : Nat
  ovrRev : Nat
  ovrRevNo : Nat
  late : Bool
  safeOk : Nat
  satSince : Option Nat
  seekWait : Bool
  loading : Bool
  unloading : Bool
  ocAt : Option Nat
  ocPause : Bool
  target : Int
  seekAt : Nat
  settleAt : Nat
  notch : List (Nat × (Rat × Rat))
  rv : List Int
deriving DecidableEq, Repr

/-- The loop engine as a whole: the coefficient memory by 2^13 x group + 2^12 x bank + word (R426, unlisted words as R428 gives);
swaps that follow the requested ones (R429); outputs held in simplex (R424); spindle integrator and saturation (R409); laser,
heater and bus following-error counts (R407), and since when the bus error has stayed within its limit; net regeneration
forbidden by the bus supervisor; BUSLIM; the band of the spindle's row (R430); neighbour announcements being fed forward (R400): the sender's slot, class + 4 x
ACT, start ATS and DIR; the start of the retired copy's self-test (R425). -/
structure LpeSt where
  a : LpeAct
  b : LpeAct
  coef : List (Nat × Word)
  swapAgain : Nat
  held : Bool
  sInteg : Rat
  sSatSince : Option Nat
  feLas : List (Nat × Nat)
  feHtr : List (Nat × Nat)
  feBus : Nat
  busOkSince : Option Nat
  busForbid : Bool
  buslim : Nat
  sBand : Nat
  announced : List (Nat × (Nat × (Nat × Bool)))
  readmitAt : Nat
deriving DecidableEq, Repr

/-- The spindle controller (R435 to R472): consecutive valid crossings; the last valid crossing's place in the six-crossing
sequence and its time; the last valid interval; consecutive invalid crossings of one place, and that place; samples in
regulation (R454); the ramped target in rpm and the target it ramps to; the time BEMF was lost in COAST; sensing since; a probe
already repeated; HANDOFF reached at; RUN cleared at; the last overcurrent; the first window of an unbroken quiet run (R466); a
short brake inside the start decision (R466); the Ke measurement in progress (0 none, 1 of a start, 2 other); the
Ke measurement of this start made; the time of the last Ke measurement; overcurrent pause; OV2 brake held; a spin-up that waits
for a token or stagger; the stop of R452; the tick of the last spindle sample; sensing after a PIN reset with RUN at 0 (R761); coasting down after
a repeated overcurrent (R471); the electrical angle that the last probe gave, in 30 degrees (R460); when OV2 last ended (R468); the torque current
that SPN applies (R441). -/
structure SpnSt where
  valid : Nat
  place : Option Nat
  lastAt : Nat
  interval : Nat
  bad : Nat
  badPlace : Nat
  inreg : Nat
  ramped : Rat
  target : Nat
  lostAt : Option Nat
  senseAt : Nat
  probed : Bool
  handoffAt : Option Nat
  stopAt : Option Nat
  ocAt : Option Nat
  quietAt : Option Nat
  toProbe : Bool
  ke : Nat
  keStart : Bool
  keAt : Nat
  ocPause : Bool
  ov2 : Bool
  deferred : Bool
  pinStop : Bool
  sampleAt : Nat
  pinSense : Bool
  coastDown : Bool
  probe : Nat
  ov2End : Nat
  torque : Int
deriving DecidableEq, Repr

/-- The supplies (R474 to R507): the dip timer's start (R487); the start of RETRACT (R492); DONE written (R494); VIN was first
above VIN_UVW + 200 mV (R788); the VCORE phase throttle of R481; the BOR that BRAKE began (R499); rails on; in reset by
BOR; when BRK last went high, and whether it falls as soon as its 20 us are over (R502). -/
structure PwrSt where
  dipAt : Option Nat
  retAt : Nat
  done : Bool
  vinSeen : Bool
  vcThrot : Bool
  brakeBor : Bool
  bor : Bool
  brkAt : Nat
  brkOff : Bool
deriving DecidableEq, Repr

/-- The thermal unit (R508 to R522): the last filtered samples of the band source, newest first; consecutive samples toward a
rise and toward a fall; the band has been set (R513); consecutive fast samples below the release of WARN (R516); sensors whose
last sample was invalid (R510); since when TJ has stayed below 105 C in COOLDOWN; the power-down of step 4 made (R521). -/
structure ThmSt where
  hist : List Int
  up : Nat
  down : Nat
  set : Bool
  calm : Nat
  invalid : Nat
  coolSince : Option Nat
  shut : Bool
deriving DecidableEq, Repr

/-- A head's supervision after reset. -/
def HeadSt.empty : HeadSt :=
  { rd := 0, wr := 0, noPes := 0, frz := 0, burst := 0, wedge := 0, frozen := false, ua := 0, fe := 0, mark := none, integ := 0 }

/-- An actuator's loops after reset. -/
def LpeAct.empty : LpeAct :=
  { p := 0, v := 0, b := 0, u := 0, at_ := 0, integ := 0, band := 0, fol := 0, h0 := HeadSt.empty, h1 := HeadSt.empty, blind := 0,
    searchRev := 0, ovr := 0, ovrRev := 0, ovrRevNo := 0, late := false, safeOk := 0, satSince := none, seekWait := false,
    loading := false, unloading := false, ocAt := none, ocPause := false, target := 0, seekAt := 0, settleAt := 0, notch := [], rv := [] }

/-- The loop engine after reset. -/
def LpeSt.empty : LpeSt :=
  { a := LpeAct.empty, b := LpeAct.empty, coef := [], swapAgain := 0, held := false, sInteg := 0, sSatSince := none,
    feLas := [], feHtr := [], feBus := 0, busOkSince := none, busForbid := false, buslim := 0, sBand := 0, announced := [], readmitAt := 0 }

/-- The spindle controller after reset. -/
def SpnSt.empty : SpnSt :=
  { valid := 0, place := none, lastAt := 0, interval := 0, bad := 0, badPlace := 0, inreg := 0, ramped := 0, target := 0,
    lostAt := none, senseAt := 0, probed := false, handoffAt := none, stopAt := none, ocAt := none, quietAt := none,
    toProbe := false, ke := 0, keStart := false, keAt := 0, ocPause := false, ov2 := false, deferred := false,
    pinStop := false, sampleAt := 0, pinSense := false, coastDown := false, probe := 0, ov2End := 0, torque := 0 }

/-- The supplies after reset. -/
def PwrSt.empty : PwrSt :=
  { dipAt := none, retAt := 0, done := false, vinSeen := false, vcThrot := false, brakeBor := false, bor := false, brkAt := 0, brkOff := false }

/-- The thermal unit after reset. -/
def ThmSt.empty : ThmSt :=
  { hist := [], up := 0, down := 0, set := false, calm := 0, invalid := 0, coolSince := none, shut := false }

end Sys2Proof.Machine
end

