-- ==== Sys2Proof/Machine/StateMedia.lean ====
section
/-!
DEFINITION. State of the read/write channels, the write paths with their Write Guards, and the preamplifier links, that is not
a register of the register table.
-/
namespace Sys2Proof.Machine

/-- Four register words of a failure or torn record (R303, R338). -/
structure Rec4 where
  w0 : Word
  w1 : Word
  w2 : Word
  w3 : Word
deriving DecidableEq, Repr

/-- The settings of a channel that a sector keeps from its start (R271, R276): CHn_CFG, CHn_RECCFG, CHn_SYNC, CHn_SMPAT, CHn_TARGET,
CHn_FE and the equaliser taps. -/
structure ChSet where
  cfg : Word
  recc : Word
  sync : Word
  smpat : Word
  target : Word
  fe : Word
  taps : List (Nat × Word)
deriving DecidableEq, Repr

/-- A sector's samples in the ring (R282): the ordinal of its media instruction and its place in the run; its first sample, counted
from the channel's first; its length in samples; the loop state at P (CHn_AGC, CHn_TLOOP). -/
structure Span where
  item : Nat
  place : Nat
  start : Nat
  len : Nat
  agc : Word
  tloop : Word
deriving DecidableEq, Repr

/-- A sector that has passed a lane on its way to the media (R46, R310): its place in the run, its stream position, the LBA and
generation of its tag; some word of its position was uncorrectable (R542); and the bit cells that its write gate puts on the media, each
with its level and how far its transition comes early in 1/128 bit (R311). -/
structure WSec where
  place : Nat
  spos : Nat
  lba : Nat
  gen : Nat
  bad : Bool
  cells : List (Bool × Nat)
deriving DecidableEq, Repr

/-- A decoded sector that waits for an XTS lane (R290): the ordinal of its instruction (0 once a squash has dropped the ordinals), its
context and stream position, its LBA (R593), and the bytes of protection information of its format. -/
structure RSec where
  item : Nat
  ctx : Nat
  spos : Nat
  lba : Nat
  pi : Nat
deriving DecidableEq, Repr

/-- A sector of a run as its channel reads it (R272 to R281): the ordinal of its media instruction; the context, and whether its run is a
READ; its sector index, its place in the run, its stream position, the LBA and generation its tag must hold, and the settings of its
start (R271); the bit clock has stayed in range (R108); the accepted sync offset and distance and up to three further candidates
(R279). -/
structure Sec where
  item : Nat
  ctx : Nat
  read : Bool
  sector : Nat
  place : Nat
  spos : Nat
  lba : Nat
  gen : Nat
  set : ChSet
  clk : Bool
  sync : Option (Int × Nat)
  others : List (Int × Nat)
deriving DecidableEq, Repr

/-- A sector held by the re-detection engine (R285, R286): the sector, the reason of the on-the-fly attempt (R287), and the
ordinal of its media instruction. -/
structure Redet where
  sec : Sec
  reason : Nat
  item : Nat
deriving DecidableEq, Repr

/-- A staged failure record (R303), with the ordinal of the media instruction that read the sector and its place in the run. -/
structure StagedRec where
  item : Nat
  place : Nat
  r : Rec4
deriving DecidableEq, Repr

/-- A contribution to Ringbook that waits for its instruction's commit (R734): a histogram sample, or a counter. -/
inductive Contrib where
  | hist (id : Nat) (v : Int)
  | ctr (i n : Nat)
deriving DecidableEq, Repr

/-- A channel (R266 to R307): its 128 equaliser taps (R292); the operation in progress (R308, OP); the ATS at which its first
position passes the head (R162); the place of the next position; the sectors between sync search and decode, oldest first (R270); the
settings of the sector under the head when a write has changed them since its start (R271), with its place; the sectors in the sample
ring, oldest first (R282); the sectors of a WRITE that have passed a lane and not yet been written (R309); the media
instructions begun since the last squash and those that have ended here, and the media flags of the ones in progress by their
ordinal; the re-detection engine; failure records
staged and committed; the averaging accumulator: head, sector, passes (R301); a freeze in progress and the ATS of its start (R298); the descriptor of CHSET and
the comparator that starts it (R239); the gate-open and reading time since the last wrap in ticks (R518); loops restarted from
calibration values (R293); Ringbook contributions staged with their instruction's ordinal; decoded sectors that wait for an XTS
lane. -/
structure ChanSt where
  taps : List (Nat × Word)
  op : Nat
  startAts : Nat
  place : Nat
  cur : List Sec
  lat : Option (Nat × ChSet)
  ring : List Span
  wsecs : List WSec
  items : Nat
  ended : Nat
  flags : List (Nat × Nat)
  redet : List Redet
  staged : List StagedRec
  frec : List Rec4
  acc : Option (Nat × Nat × Nat)
  frozen : Bool
  frozenAt : Nat
  desc : List (Nat × Word)
  go : Option Nat
  duty : Nat
  contrib : List (Nat × Contrib)
  out : List RSec
deriving DecidableEq, Repr

/-- The laser side of a channel's head (R317 to R323): the commanded current; consecutive misses; identical readings, the
reading and the commanded current at the first of them. -/
structure LaserSt where
  cmd : Nat
  misses : Nat
  same : Nat
  reading : Nat
  cmd0 : Nat
deriving DecidableEq, Repr

/-- A write gate that micro-ops have scheduled: 0 write, 1 laser, 2 erase; its channel; the comparators that open and close it;
whether it is open, and the ATS at which it rose (R239, R318). -/
structure Gate where
  kind : Nat
  ch : Nat
  opens : Nat
  closes : Nat
  isOpen : Bool
  since : Nat
deriving DecidableEq, Repr

/-- A write path (R309 to R341): the triggers that hold the Write Guard; a trip since the last wedge check (R194); gates of
micro-ops; the torn queue; the lasers; the heater power commanded on each channel's head and the wedge at which it last changed
by more than 1/64 (R324); heads whose heater power contact has lowered (R325), and those that wait for the next wedge; the
speed multipliers of laser and heater on each channel's head (R327); a shock that has not yet been quiet for SHK_HOLD, and when an
input was last beyond its threshold (R332). -/
structure WrpSt where
  holding : Nat
  tripped : Bool
  gates : List Gate
  torn : List Rec4
  las0 : LaserSt
  las1 : LaserSt
  htr0 : Nat
  htr1 : Nat
  contact : Nat
  contactDue : Nat
  lasMul0 : Nat
  lasMul1 : Nat
  htrMul0 : Nat
  htrMul1 : Nat
  shockHold : Bool
  shockAt : Nat
deriving DecidableEq, Repr

/-- A preamplifier link (R342 to R347): the frame in progress was repeated (R343); a preamplifier fault holds; PLKx_FLT_L is
low; the head select staged for the next strobe, and the heads it applies per channel (R345); the waveform values last written by preamplifier address (R312); the
firmware frame waits for a microcode read that was asked before it (R344). -/
structure PlkSt where
  repeated : Bool
  faulted : Bool
  fltPin : Bool
  hsel : Option Word
  sel0 : Option Nat
  sel1 : Option Nat
  wf : List (Nat × Word)
  fwWaits : Bool
deriving DecidableEq, Repr

/-- A channel after reset. -/
def ChanSt.empty : ChanSt :=
  { taps := [], op := 0, startAts := 0, place := 0, cur := [], lat := none, ring := [], wsecs := [], items := 0, ended := 0, flags := [], redet := [], staged := [], frec := [],
    acc := none, frozen := false, frozenAt := 0, desc := [], go := none, duty := 0, contrib := [], out := [] }

/-- A laser after reset. -/
def LaserSt.empty : LaserSt := { cmd := 0, misses := 0, same := 0, reading := 0, cmd0 := 0 }

/-- A write path after reset; a speed multiplier of 128 is 1 (R327). -/
def WrpSt.empty : WrpSt :=
  { holding := 0, tripped := false, gates := [], torn := [], las0 := LaserSt.empty, las1 := LaserSt.empty, htr0 := 0,
    htr1 := 0, contact := 0, contactDue := 0, lasMul0 := 128, lasMul1 := 128, htrMul0 := 128,
    htrMul1 := 128, shockHold := false, shockAt := 0 }

/-- A preamplifier link after reset. -/
def PlkSt.empty : PlkSt := { repeated := false, faulted := false, fltPin := false, hsel := none, sel0 := none, sel1 := none, wf := [], fwWaits := false }

end Sys2Proof.Machine
end

