-- ==== Sys2Proof/Machine/StateMsq.lean ====
section
/-!
DEFINITION. State of the media sequencers: program slots, speculative and committed register state, issued work, squash and
restart, the microcode engine and the control store.
-/
namespace Sys2Proof.Machine

/-- A tag seed (R173): LBA of 35 bits and band generation of 16. -/
structure Seed where
  lba : Nat
  gen : Nat
deriving DecidableEq, Repr

/-- The register state of a slot (R110, R113): PC, g, b, a and p registers by their specifiers (R112; unlisted reads 0), CTX
(0x400 none), the call stack, the media flags (bits FAIL, SKIP, REDET, TAGERR) and the channels' tag seeds. -/
structure Arch where
  pc : Nat
  regs : List (Nat × Word)
  ctx : Nat
  stack : List Nat
  flags : Nat
  seed0 : Seed
  seed1 : Seed
deriving DecidableEq, Repr

/-- The state of a slot (R122). -/
inductive SlotState where
  | free | ready | run | done | fault
deriving DecidableEq, Repr

/-- A program slot (R115): state, priority, error code, submission order, the speculative and the committed register state
(R202), and per context the sectors committed for it since its previous POST (R175, log 88). -/
structure Slot where
  st : SlotState
  prio : Nat
  fcode : Nat
  ord : Nat
  spec : Arch
  comm : Arch
  credit : List (Nat × Nat)
deriving DecidableEq, Repr

/-- What a channel's head is set to (R203): the bound head, offset in 1/256 pitch, target track, heater mode (0 IDLE, 1 READ,
2 WRITE) and overriding power, assist enable and overriding setpoint, pre-heat lead (0: the table's). -/
structure ChPos where
  head : Option Nat
  ofs : Int
  target : Option Nat
  heat : Nat
  hpow : Option Nat
  assist : Bool
  setp : Option Nat
  lead : Nat
deriving DecidableEq, Repr

/-- What an instruction stages for the next commit (R203): a BADV position, a POST credit, a WRREG write, a checkpoint
record, a Ringbook contribution; and what an SRAM word or a register held before a microroutine wrote it, which a squash puts back
(R221, R252). -/
inductive Staged where
  | badv (ctx pos : Nat)
  | post (ctx status : Nat) (final : Bool)
  | wrreg (addr : Nat) (v : Word)
  | chkpt
  | rbks (id v : Nat)
  | sramWas (addr : Nat) (old : Option (Option Word))
  | regWas (addr : Nat) (old : Word)
deriving DecidableEq, Repr

/-- A media instruction's operation (R165). -/
inductive MediaOp where
  | read | write | verify | scan | eraseb
deriving DecidableEq, Repr

/-- A media instruction's run (R160 to R165): its operation, channels (bit 0 first, bit 1 second), COUNT, and per channel the
start sector, skip mask, first stream position and tag seed; the bound context; and per channel the
pre-heat lead at its issue (R171), the ATS at which its last gate closes (R139) and the positions that have passed a lane (R46). -/
structure MediaRun where
  op : MediaOp
  chs : Nat
  count : Nat
  sec0 : Nat
  sec1 : Nat
  skip0 : Nat
  skip1 : Nat
  buf0 : Nat
  buf1 : Nat
  seed0 : Seed
  seed1 : Seed
  ctx : Nat
  lead0 : Nat := 0
  lead1 : Nat := 0
  gate0 : Nat := 0
  gate1 : Nat := 0
  lane0 : Nat := 0
  lane1 : Nat := 0
deriving DecidableEq, Repr

/-- What a work item does. `chs` is the channels it uses (bit 0 first, bit 1 second).  A commit keeps what it
will make final: the register state and settings at its issue, the effects staged before it, its distance (R188), and
whether it is a HALT (1) or a YIELD (2). -/
inductive WorkKind where
  | seek (chs : Nat) (t1 t2 : Nat)
  | follow (chs : Nat) (wr : Bool)
  | offset (chs : Nat) (ofs : Int)
  | headsel (ch head : Nat)
  | loadh
  | unloadh
  | heat (chs mode : Nat) (pow : Option Nat)
  | assist (chs : Nat) (en : Bool) (setp : Option Nat)
  | media (r : MediaRun)
  | commit (kind : Nat) (arch : Arch) (p0 p1 : ChPos) (staged : List Staged) (dist : Nat)
deriving DecidableEq, Repr

/-- An issued instruction that has not committed: what it does, its address, its qualifier angle and the comparator armed
for it, whether the qualifier is met (false again on a HEAT that its wedge boundary has applied), whether it has begun, and
whether it has completed and at which ATS (R198); an operand that its rule refuses, once it is ready (R801); a commit that has
made it final (R206); and for a media instruction the ATS at which it was ready (R162). -/
structure Work where
  kind : WorkKind
  pc : Nat
  qang : Option Nat
  cmp : Option Nat
  qmet : Bool
  begun : Bool
  done : Bool
  doneAt : Nat := 0
  opErr : Bool := false
  final : Bool := false
  readyAt : Option Nat := none
deriving DecidableEq, Repr

/-- What holds issue (R141, R172): WAITA with its angle, comparator and the ATS at issue; WAITE with its events,
predicate and timeout in wedge periods and the tick of issue; BRC with its operands; HALT, FENCE and a switching YIELD; a
BIND that waits for CCX; a RDREG or PLK answer. -/
inductive IssueWait where
  | waita (ang : Nat) (cmp : Option Nat) (ats : Nat)
  | waite (events pred tmo since : Nat)
  | brc (mask : Nat) (sense clr : Bool) (imm : Int)
  | halt
  | fence
  | yield
  | bind (ctx : Nat)
deriving DecidableEq, Repr

/-- A shadowed effect of a microroutine (R239, R251). Slot-register writes are the first kind. -/
inductive Shadow where
  | reg (spec : Nat) (v : Word)
  | setflg (m : Nat)
  | clrflg (m : Nat)
  | sram (addr : Nat) (v : Word)
  | wrr (addr : Nat) (v : Word)
  | tag (ch : Nat) (lba gen : Word)
  | bufa (spec : Nat) (v : Word)
  | ctxp (status : Nat) (final : Bool)
  | ckwr
  | rbks (id v : Nat)
  | halts
deriving DecidableEq, Repr

/-- A stalled micro-op (R239): what it waits for and the destination register. -/
inductive Stall where
  | wait (mask : Nat)
  | lds (d addr : Nat)
  | ldz (d word ch : Nat)
  | ldpt (d word : Nat)
  | rdr (d addr : Nat)
  | chwt (d ch : Nat)
  | lpwt (d mask : Nat)
  | plkr (d reg : Nat)
  | ctxb (d ctx : Nat)
deriving DecidableEq, Repr

/-- The microcode engine of an MSQ (R236 to R254): a routine in progress, and none of its micro-ops
issued yet; micro-address and stack; temporaries; the
instruction words, operands, qualifier angle and address; flags; step count; capability mode; pending shadows in issue
order; the micro-op that stalls; the routine's result register; NORMAL events pending (bit mask of WAIT). -/
structure Micro where
  on : Bool
  fresh : Bool
  upc : Nat
  ustack : List Nat
  t : List (Nat × Word)
  irl : Word
  irh : Word
  opa : Word
  opb : Word
  qang : Word
  tpc : Nat
  z : Bool
  n : Bool
  c : Bool
  e : Bool
  steps : Nat
  cap : Bool
  shadows : List Shadow
  stall : Option Stall
  events : Nat
deriving DecidableEq, Repr

/-- The control store of an MSQ (R232, R246, R249, R256): patch RAM, patch comparators (ROM address and target), the
dispatch entries that differ from the ROM defaults, Sapwood words and Sapwood-table entries. -/
structure Ucs where
  patch : List (Nat × Word)
  comps : List (Nat × (Nat × Nat))
  disp : List (Nat × Nat)
  sap : List (Nat × Word)
  sapTab : List (Nat × Nat)
deriving DecidableEq, Repr

/-- A media sequencer: its slots; the submission count; a submission that waits for CCX (R121) and one that follows it
(R119); the channels' settings, speculative and committed; the work issued since the last effective commit in program
order; what it staged for the next commit; what holds issue; the instruction distance (R188); the angular commit point
(the last wedge boundary whose check passed, R191); the causes of a squash that has not restarted (R217) and whether the
restart gate of R218 is closed; the counted squashes within ESC_WIN (R225); the ATS of the last effective commit or slot
start (R184); the tick of the last wedge check (R226) and of an escalation that set HOLD (R229); the key slot selected for the actuator's XTS traffic (R172, R239 KEYSEL); microcode and control
store. -/
structure Msq where
  slots : List (Nat × Slot)
  subs : Nat
  subWait : Option Nat
  subAgain : Bool
  pos0 : ChPos
  pos1 : ChPos
  cpos0 : ChPos
  cpos1 : ChPos
  work : List Work
  staged : List Staged
  wait : Option IssueWait
  dist : Nat
  acp : Option Nat
  sqCauses : Nat
  sqWait : Bool
  gate218 : Bool
  wgPassed : Bool
  counted : List Nat
  sqCounted : Bool
  escDue : Bool
  unloaded : Bool
  lastCommitAts : Nat
  checkAt : Nat
  escAt : Option Nat
  keySlot : Option Nat
  micro : Micro
  ucs : Ucs
deriving DecidableEq, Repr

/-- The register state of an unused slot and of a fresh submission before its arguments (R111). -/
def Arch.empty : Arch :=
  { pc := 0, regs := [], ctx := 0x400, stack := [], flags := 0, seed0 := ⟨0, 0⟩, seed1 := ⟨0, 0⟩ }

/-- A FREE slot. -/
def Slot.empty : Slot :=
  { st := .free, prio := 0, fcode := 0, ord := 0, spec := Arch.empty, comm := Arch.empty, credit := [] }

/-- A channel with no head bound. -/
def ChPos.empty : ChPos :=
  { head := none, ofs := 0, target := none, heat := 0, hpow := none, assist := false, setp := none, lead := 0 }

/-- No microroutine in progress. -/
def Micro.idle : Micro :=
  { on := false, fresh := false, upc := 0, ustack := [], t := [], irl := 0, irh := 0, opa := 0, opb := 0, qang := 0, tpc := 0,
    z := false, n := false, c := false, e := false, steps := 0, cap := false, shadows := [], stall := none, events := 0 }

/-- The control store with nothing loaded (R235). -/
def Ucs.empty : Ucs :=
  { patch := [], comps := [], disp := [], sap := [], sapTab := [] }

/-- A sequencer with no slot taken. -/
def Msq.empty : Msq :=
  { slots := [], subs := 0, subWait := none, subAgain := false, pos0 := ChPos.empty, pos1 := ChPos.empty,
    cpos0 := ChPos.empty, cpos1 := ChPos.empty, work := [], staged := [], wait := none, dist := 0, acp := none,
    sqCauses := 0, sqWait := false, gate218 := false, wgPassed := false, counted := [], sqCounted := false,
    escDue := false, unloaded := false, lastCommitAts := 0, checkAt := 0, escAt := none, keySlot := none, micro := Micro.idle, ucs := Ucs.empty }

end Sys2Proof.Machine
end

