-- ==== Sys2Proof/Machine/State.lean ====
section
/-!
DEFINITION. The state of the block: everything the spec gives the machine, and the queue of waiting commands; the reset
state; the two reasons a step can stop.
-/
namespace Sys2Proof.Machine

/-- Faults. No command of the table ends in one. -/
inductive Fault where
  /-- Raised by no command: kept for a state that no run reaches. Safe. -/
  | brokenState
deriving DecidableEq, Repr

/-- Refusals. -/
inductive Refusal where
  /-- Raised by the dispatch for a command whose meaning is not written. Safe: the run stops. -/
  | notModelled (mnemonic : String)
deriving DecidableEq, Repr

/-- The machine. -/
structure State where
  /-- The waiting commands, first in, first out. -/
  pending : List Instr
  /-- The model's own counter of free values (log 2). -/
  freeCtr : Nat
  /-- The time in ticks of 1.25 ns (R87). -/
  now : Nat
  /-- The registers of the register table (R58, R60) that differ from their Reset values, by address. -/
  regs : List (Nat × Word)
  /-- The register interface (R62 to R68). -/
  bus : BusSt
  /-- Pins, straps and fuses (R777, R784, R6). -/
  pins : PinSt
  /-- The die-to-die link (R38 to R44). -/
  d2d : D2dSt
  /-- The angle base (R81 to R108). -/
  ang : AngSt
  /-- Modes, latches and escalation histories (R748 to R758, R225). -/
  sys : SysSt
  /-- The Ringbook recorder (R727 to R746). -/
  rbk : RbkSt
  /-- Sequencer A (R110 to R264). -/
  msqA : Msq
  /-- Sequencer B. -/
  msqB : Msq
  /-- The control-store words that failed a parity check (R234): address and tick of the last error. -/
  romPar : List (Nat × Nat)
  /-- Channel 0 (R266 to R307). -/
  ch0 : ChanSt
  /-- Channel 1. -/
  ch1 : ChanSt
  /-- Channel 2. -/
  ch2 : ChanSt
  /-- Channel 3. -/
  ch3 : ChanSt
  /-- Write path A (R309 to R341). -/
  wrpA : WrpSt
  /-- Write path B. -/
  wrpB : WrpSt
  /-- Preamplifier link A (R342 to R347). -/
  plkA : PlkSt
  /-- Preamplifier link B. -/
  plkB : PlkSt
  /-- The loop engine (R385 to R430). -/
  lpe : LpeSt
  /-- The spindle controller (R435 to R472). -/
  spn : SpnSt
  /-- The supplies (R474 to R507). -/
  pwr : PwrSt
  /-- The thermal unit (R508 to R522). -/
  thm : ThmSt
  /-- SRAM, DRAM and the corrected-error tracker (R526 to R555). -/
  mem : MemSt
  /-- Buffer reservations (R556 to R563). -/
  buf : BufSt
  /-- Key slots, locking ranges, lanes (R577 to R608). -/
  cph : CphSt
  /-- Heartwood (R566 to R626). -/
  hwd : HwdSt
  /-- Command contexts (R638 to R648). -/
  ccx : CcxSt
  /-- The host links (R629 to R657). -/
  host : HostSt
  /-- The control cores' supervision (R662 to R683). -/
  apc : ApcSt
  /-- The flash controller (R684 to R691). -/
  xsp : XspSt
  /-- The debug port (R692 to R697). -/
  dbg : DbgSt
  /-- The enclosure group (R698 to R726). -/
  vale : ValeSt
deriving DecidableEq, Repr

/-- The machine right after reset: every register at its Reset value (nothing listed), every other part as the spec
states it, or as the assumption log names it. -/
def State.reset : State :=
  { pending := [],
    freeCtr := 0,
    now := 0,
    regs := [],
    bus := { shadow := [], holding := [], readData := [], fault := [] },
    pins := { hifsel := false, spinup := false, gen7 := false, slotid := 0, canopy := false, faultL := false, resetL := false, resetWaits := false, variant := 1, rev := 0 },
    d2d := { remapSent := false, remapAcked := false, remapLane := 0xF, bad := 0, limitUs := 2, ackAt := 0, trainedOnce := false, reads := [] },
    ang := { ats := 0, frac := 0, prev := none, slew := 0, servoAt := none, corrAt := none, servoLast := none, bemfLast := none, servoSince := false, masterWas := none, pendWedges := none, bemfOfs := [], cmpA := [], cmpB := [] },
    sys := { faultA := false, faultB := false, actResetsA := [], actResetsB := [], warmResets := [], drvHold := false, switching := false, cooldown := false, retract := false, inregSince := false, active := false, idleAt := none, porAt := 0, actRstA := false, actRstB := false, loadedA := false, loadedB := false, imageVerified := false, noImage := false },
    rbk := { ret := { bootCount := 0, wrIdx := 0, wraps := 0, dropped := 0, ctrSeq := 0, ctrs := [], recs := [], exts := [], hists := [], fw := [] }, ords := 0, coal := [], fifo := [], recw := false, snap := none, waiting := [], flush := none, again := none, imgSlot := 0, imgSeq := 0, lastAt := 0, images := [] },
    msqA := Msq.empty,
    msqB := Msq.empty,
    romPar := [],
    ch0 := ChanSt.empty,
    ch1 := ChanSt.empty,
    ch2 := ChanSt.empty,
    ch3 := ChanSt.empty,
    wrpA := { WrpSt.empty with holding := 4 },
    wrpB := { WrpSt.empty with holding := 4 },
    plkA := PlkSt.empty,
    plkB := PlkSt.empty,
    lpe := LpeSt.empty,
    spn := SpnSt.empty,
    pwr := PwrSt.empty,
    thm := ThmSt.empty,
    mem := MemSt.empty,
    buf := BufSt.empty,
    cph := CphSt.empty,
    hwd := HwdSt.empty,
    ccx := CcxSt.empty,
    host := HostSt.empty,
    apc := ApcSt.empty,
    xsp := XspSt.empty,
    dbg := DbgSt.empty,
    vale := ValeSt.empty }

end Sys2Proof.Machine
end

