-- ==== Sys2Proof/Machine/Ops.lean ====
section
/-!
DEFINITION. The named operations over the state: registers and their fields, free values, per-actuator parts.
-/
namespace Sys2Proof.Machine

/-- The outcome of one command. -/
abbrev Out := Host.Outcome State Fault Refusal

/-- The register-list row that holds an address, with its block's actuator. -/
def descIn : List (Nat × Option Act × List RegDesc) → Nat → Option (Option Act × RegDesc)
  | [], _ => none
  | (b, o, l) :: t, a =>
    if b ≤ a ∧ a < b + 0x10000 then
      (l.find? (fun d => decide (b + d.off ≤ a) && decide (a < b + d.off + d.step * d.cnt) && decide ((a - b - d.off) % d.step = 0))).map
        (fun d => (o, d))
    else descIn t a

/-- The register at an address of the register space (R58), with its block's actuator. -/
def regDesc (a : Nat) : Option (Option Act × RegDesc) := descIn blockTable a

/-- The Reset value of the register at an address; 0 at a reserved location (R69). -/
def regReset (a : Nat) : Word :=
  match regDesc a with
  | some (_, d) => BitVec.ofNat 32 d.reset
  | none => 0

/-- The stored value of a register. -/
def State.rd (s : State) (a : Nat) : Word := mget regReset s.regs a

/-- A register set. -/
def State.wr (s : State) (a : Nat) (v : Word) : State := { s with regs := mset regReset s.regs a v }

/-- The stored value of a field. -/
def State.get (s : State) (f : Field) : Nat := wfield (s.rd f.addr) f.lo f.len

/-- A field set to the low bits of a number; the register's other fields stay. -/
def State.put (s : State) (f : Field) (v : Nat) : State := s.wr f.addr (wput (s.rd f.addr) f.lo f.len v)

/-- A one-bit field as a truth value. -/
def State.flag (s : State) (f : Field) : Bool := s.get f != 0

/-- A one-bit field set or cleared. -/
def State.putb (s : State) (f : Field) (b : Bool) : State := s.put f (b2n b)

/-- The range that a field's stored value acts within (R19, the "acts as" clauses of the field tables). -/
def fieldRange (f : Field) : Option (Nat × Nat) :=
  match regDesc f.addr with
  | some (_, d) => (d.acts.find? (fun r => r.1 == f.lo)).map (fun r => (r.2.2.1, r.2.2.2))
  | none => none

/-- The value a field acts with: its stored value, held to its range. -/
def State.eff (s : State) (f : Field) : Nat :=
  match fieldRange f with
  | some (lo, hi) => clampN lo hi (s.get f)
  | none => s.get f

/-- A counter field increased by n; it saturates at its greatest value (R71). -/
def State.bump (s : State) (f : Field) (n : Nat) : State := s.put f (satAdd f.len (s.get f) n)

/-- An access fault is delivered to its initiator (R57, R68). -/
def State.busFault (s : State) (i : Initiator) (kind : Nat) : State :=
  { s with bus := { s.bus with fault := mset (fun _ => 0) s.bus.fault i.idx kind } }

/-- The next free value, and the state whose counter has moved on. -/
def State.free (s : State) : BitVec 64 × State := (Config.freeValue s.freeCtr, { s with freeCtr := s.freeCtr + 1 })

/-- A sequencer. -/
def State.msq (s : State) : Act → Msq
  | .a => s.msqA
  | .b => s.msqB

/-- A sequencer changed. -/
def State.setMsq (s : State) (x : Act) (m : Msq) : State :=
  match x with
  | .a => { s with msqA := m }
  | .b => { s with msqB := m }

/-- The comparators of an actuator (R101). -/
def State.cmps (s : State) : Act → List (Nat × Cmp)
  | .a => s.ang.cmpA
  | .b => s.ang.cmpB

/-- The comparators of an actuator replaced. -/
def State.setCmps (s : State) (x : Act) (c : List (Nat × Cmp)) : State :=
  match x with
  | .a => { s with ang := { s.ang with cmpA := c } }
  | .b => { s with ang := { s.ang with cmpB := c } }

/-- The variant fuses CZ8650-SN (R7, R8). -/
def State.isSN (s : State) : Bool := s.pins.variant == 3

/-- The actuator exists: B is fused off on CZ8650-SN (R7). -/
def State.actOk (s : State) (x : Act) : Bool := !(s.isSN && x == .b)

/-- The channel exists (R7). -/
def State.chanOk (s : State) (n : Chan) : Bool := !(s.isSN && decide (2 ≤ n.val))

/-- The channel of an actuator: first or second (R15). -/
def chanOf (x : Act) (second : Bool) : Chan :=
  match x, second with
  | .a, false => 0
  | .a, true => 1
  | .b, false => 2
  | .b, true => 3

/-- The actuator of a channel (R25). -/
def actOf (n : Chan) : Act := if n.val < 2 then .a else .b

/-- The channel is its actuator's second. -/
def isSecond (n : Chan) : Bool := n.val % 2 == 1

/-- The us time since the last POR or BOR (R735): 800 ticks of 1.25 ns each. -/
def State.us (s : State) : Nat := (s.now - s.sys.porAt) / 800

/-- The angle (R81). -/
def State.angle (s : State) : Nat := s.ang.ats % 2 ^ 32

/-- The ac from a 48-bit ATS to now; it wraps with the ATS (R81). -/
def State.atsSince (s : State) (t : Nat) : Nat := (s.ang.ats + 2 ^ 48 - t % 2 ^ 48) % 2 ^ 48

/-- An ATS has come: it lies at most half the counter's range back. -/
def State.atsPast (s : State) (t : Nat) : Bool := decide (s.atsSince t < 2 ^ 47)

/-- The revolution count of the ATS (R82). -/
def State.rev (s : State) : Nat := s.ang.ats / 2 ^ 32

/-- The sequencer an initiator number names (R182). -/
def msqInit : Act → Initiator
  | .a => .msqA
  | .b => .msqB

/-- A field named by the text of the spec as x for an actuator, for register pairs that carry A and B. -/
def byAct (x : Act) (fa fb : Field) : Field :=
  match x with
  | .a => fa
  | .b => fb

end Sys2Proof.Machine
end

