-- ==== Sys2Proof/Machine/Slots.lean ====
section
/-!
DEFINITION. Program slots and the register state of a slot (R110 to R113, R122).
-/
namespace Sys2Proof.Machine

/-- A slot; an unused one is FREE. -/
def Msq.slot (m : Msq) (k : Nat) : Slot := mget (fun _ => Slot.empty) m.slots k

/-- A slot changed. -/
def Msq.setSlot (m : Msq) (k : Nat) (sl : Slot) : Msq := { m with slots := mset (fun _ => Slot.empty) m.slots k sl }

/-- The slot in RUN (R122). -/
def Msq.running (m : Msq) : Option Nat := (List.range 16).find? (fun k => (m.slot k).st == .run)

/-- The lowest-numbered FREE slot (R117). -/
def Msq.lowestFree (m : Msq) : Option Nat := (List.range 16).find? (fun k => (m.slot k).st == .free)

/-- Of two slots, the one that starts first (R123): the higher PRIO, and among equals the one submitted first. -/
def Slot.before (a b : Slot) : Bool := decide (b.prio < a.prio) || (a.prio == b.prio && decide (a.ord < b.ord))

/-- The READY slot that starts next (R123). -/
def Msq.nextReady (m : Msq) : Option Nat :=
  (List.range 16).foldl (fun best k =>
    if (m.slot k).st == .ready then
      match best with
      | none => some k
      | some j => if (m.slot k).before (m.slot j) then some k else some j
    else best) none

/-- The speculative register state of the slot in RUN, if any. -/
def Msq.spec (m : Msq) : Option Arch := m.running.map (fun k => (m.slot k).spec)

/-- The speculative register state of a slot changed. -/
def Msq.setSpec (m : Msq) (k : Nat) (a : Arch) : Msq := m.setSlot k { m.slot k with spec := a }

/-- A register of a slot by its specifier (R112); a p register reads 0 or 1; 0x34 reads CTX. -/
def Arch.reg (a : Arch) (r : Nat) : Word :=
  if r = 0x34 then BitVec.ofNat 32 a.ctx else mget (fun _ => (0 : Word)) a.regs r

/-- A register of a slot written; a p register stores bit 0 (R110). -/
def Arch.setReg (a : Arch) (r : Nat) (v : Word) : Arch :=
  { a with regs := mset (fun _ => (0 : Word)) a.regs r (if 0x30 ≤ r ∧ r ≤ 0x33 then v &&& 1#32 else v) }

/-- A predicate (R110). -/
def Arch.pred (a : Arch) (k : Nat) : Bool := a.reg (0x30 + k) != 0#32

/-- The tag seed of a channel. -/
def Arch.seed (a : Arch) (second : Bool) : Seed := if second then a.seed1 else a.seed0

/-- The tag seed of a channel set. -/
def Arch.setSeed (a : Arch) (second : Bool) (sd : Seed) : Arch :=
  if second then { a with seed1 := sd } else { a with seed0 := sd }

/-- The settings of a channel's head. -/
def Msq.pos (m : Msq) (second : Bool) : ChPos := if second then m.pos1 else m.pos0

/-- The settings of a channel's head changed. -/
def Msq.setPos (m : Msq) (second : Bool) (p : ChPos) : Msq :=
  if second then { m with pos1 := p } else { m with pos0 := p }

/-- The channels of a CHS field as a mask: 00 first, 01 second, 10 both (R153). -/
def chsMask (chs : Nat) : Nat := if chs = 0 then 1 else if chs = 1 then 2 else 3

/-- The channel is in a mask. -/
def inMask (mask : Nat) (second : Bool) : Bool := mask.testBit (b2n second)

/-- The context bound in the running slot of an actuator; 0x400 when there is none (R735). -/
def State.boundCtx (s : State) (x : Act) : Nat :=
  match (s.msq x).spec with
  | some a => a.ctx
  | none => 0x400

/-- A slot of the sequencer, changed. -/
def State.setSlot (s : State) (x : Act) (k : Nat) (sl : Slot) : State := s.setMsq x ((s.msq x).setSlot k sl)

/-- A context in use. -/
def State.ctx (s : State) (n : Nat) : Option Ctx := mfind s.ccx.ctxs n

/-- The key slot of a context (R47); none without a context. -/
def State.keyOf (s : State) (n : Nat) : Option Nat := (s.ctx n).bind (fun c => c.slot)

/-- The key slot of a context selected for the actuator's XTS traffic (R172, KEYSEL). -/
def State.selectKey (s : State) (x : Act) (n : Nat) : State := s.setMsq x { s.msq x with keySlot := s.keyOf n }

/-- The head on a channel is on this surface (R114): S k for HA k, S (12 + k) for HB k. -/
def surfOf (x : Act) (head : Nat) : Nat := 12 * x.idx + head

/-- The reference surface of an actuator (R799). -/
def State.refSurface (s : State) (x : Act) : Nat :=
  match (s.msq x).pos0.head with
  | some h => surfOf x h
  | none =>
    match (s.msq x).pos1.head with
    | some h => surfOf x h
    | none => 12 * x.idx

/-- The angle of wedge n of a surface (R84). -/
def State.wedgeAngle (s : State) (surface n : Nat) : Nat :=
  (n * 2 ^ 32 / s.get Fld.ANG_CFG_WEDGES + (s.rd (Reg.ANG_WPO surface)).toNat) % 2 ^ 32

/-- A wedge period in ticks (R226): from ANG_SPEED and ANG_CFG.WEDGES; 0 while the speed is 0. -/
def State.wedgePeriod (s : State) : Nat :=
  let v := (s.rd Reg.ANG_SPEED).toNat
  if v = 0 then 0 else 2 ^ 48 / (v * s.get Fld.ANG_CFG_WEDGES)

/-- A head of the actuator is loaded (R195). -/
def State.loaded (s : State) : Act → Bool
  | .a => s.sys.loadedA
  | .b => s.sys.loadedB

/-- The heads of an actuator marked loaded or not. -/
def State.setLoaded (s : State) (x : Act) (v : Bool) : State :=
  match x with
  | .a => { s with sys := { s.sys with loadedA := v } }
  | .b => { s with sys := { s.sys with loadedB := v } }

/-- The actuator is latched in FAULT (R758). -/
def State.faulted (s : State) : Act → Bool
  | .a => s.sys.faultA
  | .b => s.sys.faultB

/-- The FAULT latch set or cleared. -/
def State.setFaulted (s : State) (x : Act) (v : Bool) : State :=
  match x with
  | .a => { s with sys := { s.sys with faultA := v } }
  | .b => { s with sys := { s.sys with faultB := v } }

end Sys2Proof.Machine
end

