-- ==== Sys2Proof/Machine/Parts.lean ====
section
/-!
DEFINITION. The parts of the state that blocks share and what they show: channels, write paths, links and loops by actuator; the
zone table and sector placement (R350 to R355), parameter tables (R326 to R328), bit clocks, buffer positions, open gates; settle
criteria and actuator states. Nothing here changes more than the part it names.
-/
namespace Sys2Proof.Machine

/-- A 32-bit word at this address lies in the general SRAM (R56). -/
def inSram (addr : Nat) : Bool := decide (0x20000000 ≤ addr ∧ addr + 4 ≤ 0x20800000)

/-- A channel. -/
def State.ch (s : State) (n : Chan) : ChanSt :=
  match n with
  | 0 => s.ch0
  | 1 => s.ch1
  | 2 => s.ch2
  | 3 => s.ch3

/-- A channel changed. -/
def State.setCh (s : State) (n : Chan) (c : ChanSt) : State :=
  match n with
  | 0 => { s with ch0 := c }
  | 1 => { s with ch1 := c }
  | 2 => { s with ch2 := c }
  | 3 => { s with ch3 := c }

/-- A write path. -/
def State.wrp (s : State) : Act → WrpSt
  | .a => s.wrpA
  | .b => s.wrpB

/-- A write path changed. -/
def State.setWrp (s : State) (x : Act) (w : WrpSt) : State :=
  match x with
  | .a => { s with wrpA := w }
  | .b => { s with wrpB := w }

/-- A preamplifier link. -/
def State.plk (s : State) : Act → PlkSt
  | .a => s.plkA
  | .b => s.plkB

/-- A preamplifier link changed. -/
def State.setPlk (s : State) (x : Act) (p : PlkSt) : State :=
  match x with
  | .a => { s with plkA := p }
  | .b => { s with plkB := p }

/-- A word of SRAM that hardware reads as a table. -/
def State.peek (s : State) (addr : Nat) : Word :=
  match mfind s.mem.sram (addr / 4) with
  | some (some w) => w
  | _ => Config.lostWord addr

/-! ### Zones -/

/-- The address of word i of the zone-table entry for head h and zone z (R350). -/
def State.zoneAddr (s : State) (x : Act) (h z i : Nat) : Nat :=
  s.get (Fld.MSQ_CKBASE_BASE x) * 2 ^ 12 + 0x1000 + (64 * h + z) * 0x100 + 4 * i

/-- Word i of a zone-table entry; 0 where it does not lie in SRAM. -/
def State.zoneEntry (s : State) (x : Act) (h z i : Nat) : Word :=
  if inSram (s.zoneAddr x h z i) then s.peek (s.zoneAddr x h z i) else 0

/-- The zone of a track of a head (R352): the lowest VALID entry with FIRST <= track < END. -/
def State.zoneOf (s : State) (x : Act) (h t : Nat) : Option Nat :=
  (List.range 64).find? (fun z =>
    (s.zoneEntry x h z 0).getLsbD 31 && decide (wfield (s.zoneEntry x h z 0) 0 24 ≤ t)
      && decide (t < wfield (s.zoneEntry x h z 1) 0 24))

/-- The head, target track and zone of a channel, when all are known. -/
def State.chZone (s : State) (x : Act) (second : Bool) : Option (Nat × Nat × Nat) :=
  let p := (s.msq x).pos second
  match p.head, p.target with
  | some h, some t => (s.zoneOf x h t).map (fun z => (h, t, z))
  | _, _ => none

/-- Word i of the zone-table entry of a channel's zone; 0 with no zone. -/
def State.chZoneWord (s : State) (x : Act) (second : Bool) (i : Nat) : Word :=
  match s.chZone x second with
  | some (h, _, z) => s.zoneEntry x h z i
  | none => 0

/-- Sectors per track of a channel's zone (R351); 0 with no zone, which R161 and R352 refuse. -/
def State.spt (s : State) (x : Act) (second : Bool) : Nat := wfield (s.chZoneWord x second 2) 0 12

/-- The zone is shingled (R351). -/
def State.shingled (s : State) (x : Act) (second : Bool) : Bool := (s.chZoneWord x second 2).getLsbD 24

/-- The position of a track of a head in 1/256 of the reference pitch (R369). -/
def State.trackPos (s : State) (x : Act) (h t : Nat) : Option Int :=
  (s.zoneOf x h t).map (fun z =>
    let first := wfield (s.zoneEntry x h z 0) 0 24
    sgn 32 (s.zoneEntry x h z 9).toNat + (((t - first) * wfield (s.zoneEntry x h z 10) 0 24 / 256 : Nat) : Int))

/-- The targets of a SEEK lie in zones (R352), and those of a pair within 307 units of each other (R369). -/
def State.pairReach (s : State) (x : Act) (t1 t2 : Nat) : Bool :=
  match (s.msq x).pos0.head, (s.msq x).pos1.head with
  | some h1, some h2 =>
    match s.trackPos x h1 t1, s.trackPos x h2 t2 with
    | some a, some b => decide (a - b ≤ 307 ∧ b - a ≤ 307)
    | _, _ => false
  | _, _ => true

/-- The target of one channel of a SEEK lies in a zone of its head (R352). -/
def State.seekZone (s : State) (x : Act) (second : Bool) (t : Nat) : Bool :=
  match ((s.msq x).pos second).head with
  | some h => (s.zoneOf x h t).isSome
  | none => true

/-- The position a channel's head is to hold: its track position and its offset; none with no target (R370). -/
def State.chTarget (s : State) (x : Act) (second : Bool) : Option Int :=
  let p := (s.msq x).pos second
  match p.head, p.target with
  | some h, some t => (s.trackPos x h t).map (fun v => v + p.ofs)
  | _, _ => none

/-- An OFFSET leaves both residuals within 154 units of some VCM position (R371). -/
def State.offsetReach (s : State) (x : Act) (mask : Nat) (o : Int) : Bool :=
  let at_ (second : Bool) : Option Int :=
    if inMask mask second then (s.chTarget x second).map (fun v => v - ((s.msq x).pos second).ofs + o) else s.chTarget x second
  match at_ false, at_ true with
  | some a, some b => decide (a - b ≤ 308 ∧ b - a ≤ 308)
  | _, _ => true

/-- The surface of a channel's head, or the actuator's reference (R114, R799). -/
def State.chSurf (s : State) (x : Act) (second : Bool) : Nat :=
  match ((s.msq x).pos second).head with
  | some h => surfOf x h
  | none => s.refSurface x

/-- The start angle of slot j of a channel's track (R353). -/
def State.slotAngle (s : State) (x : Act) (second : Bool) (j : Nat) : Nat :=
  (s.wedgeAngle (s.chSurf x second) 0 + (s.chZoneWord x second 5).toNat + j * 2 ^ 32 / max 1 (s.spt x second)) % 2 ^ 32

/-- The slot of sector k of a channel's target track (R353). -/
def State.sectorSlot (s : State) (x : Act) (second : Bool) (k : Nat) : Nat :=
  match s.chZone x second with
  | some (h, t, z) =>
    (k + (t - wfield (s.zoneEntry x h z 0) 0 24) * wfield (s.zoneEntry x h z 4) 0 12) % max 1 (s.spt x second)
  | none => 0

/-- The servo field of wedge n on a channel's surface: its start, the length to its end and to its split point in ac
(R354). -/
def State.servoField (s : State) (x : Act) (second : Bool) (n : Nat) : Nat × Nat × Nat :=
  let w6 := s.chZoneWord x second 6
  let len := wfield w6 16 16 * 2 ^ 8
  (s.wedgeAngle (s.chSurf x second) n, len, len + wfield w6 0 8 * 2 ^ 12)

/-- An angle lies between the start of a servo field and its split point (R354). -/
def State.inServo (s : State) (x : Act) (second : Bool) (ang : Nat) : Bool :=
  (List.range (s.get Fld.ANG_CFG_WEDGES)).any (fun n =>
    let f := s.servoField x second n
    decide ((ang + 2 ^ 32 - f.1) % 2 ^ 32 < f.2.2))

/-- The bits of a sector from its first preamble bit on (R272, R275): preamble, sync mark, 4,096 bytes, protection information,
tag, CRC, parity, postamble. -/
def sectorBits (pre rate pi : Nat) : Nat :=
  let par := if rate = 0 then 6144 else if rate = 1 then 5120 else if rate = 2 then 4096 else 3072
  let piBytes := if pi = 0 then 0 else if pi = 1 then 8 else 16
  pre + 32 + 8 * (4096 + piBytes + 8 + 4) + par + 16

/-- The ac that the servo fields and split gaps inside an interval of angle take, the one that its start lies in counted from there
(R354). -/
def State.pauses (s : State) (x : Act) (second : Bool) (start len : Nat) : Nat :=
  let part (f : Nat × Nat × Nat) : Nat :=
    let ahead := (f.1 + 2 ^ 32 - start) % 2 ^ 32
    let behind := (start + 2 ^ 32 - f.1) % 2 ^ 32
    if ahead < len then min f.2.2 (len - ahead) else min (f.2.2 - behind) len
  if len = 0 then 0
  else (List.range (s.get Fld.ANG_CFG_WEDGES)).foldl (fun p n => p + part (s.servoField x second n)) 0

/-! ### Parameter tables -/

/-- The address of word i of the parameter-table entry of a head for the band its sequencer applies (R326, R328). -/
def State.ptAddr (s : State) (x : Act) (h i : Nat) : Nat :=
  let band := s.get (byAct x Fld.THM_STAT_BANDA Fld.THM_STAT_BANDB)
  s.get (Fld.WRP_PTBASE_BASE x) * 256 + 0x100 + (8 * h + band) * 0x80 + 4 * i

/-- The entry of a head lies wholly in the general SRAM (R326). -/
def State.ptOk (s : State) (x : Act) (h : Nat) : Bool := inSram (s.ptAddr x h 0) && inSram (s.ptAddr x h 31)

/-- Word i of the entry of a head. -/
def State.ptWord (s : State) (x : Act) (h i : Nat) : Word := s.peek (s.ptAddr x h i)

/-- The entries of the bound heads of a mask lie in SRAM. -/
def State.ptAll (s : State) (x : Act) (mask : Nat) : Bool :=
  let ok (second : Bool) : Bool := match ((s.msq x).pos second).head with
    | some h => s.ptOk x h
    | none => true
  (!inMask mask false || ok false) && (!inMask mask true || ok true)

/-- The multiplier of a speed axis word (R327) in 1/128 at a speed of f / 1000 of nominal: linear between 0.60, 0.70, 0.85 and
1.00. -/
def speedMul (m : Word) (f : Nat) : Nat :=
  let m85 := wfield m 0 8
  let m70 := wfield m 8 8
  let m60 := wfield m 16 8
  let mid (lo hi a b : Nat) : Nat := ((a * (hi - f) + b * (f - lo)) / (hi - lo))
  if 1000 ≤ f then 128
  else if 850 ≤ f then mid 850 1000 m85 128
  else if 700 ≤ f then mid 700 850 m70 m85
  else if 600 ≤ f then mid 600 700 m60 m70
  else m60

/-- The speed factor in 1/1000 (R327): 1 with no nominal speed or no header in SRAM. -/
def State.speedFactor (s : State) (x : Act) : Nat :=
  let base := s.get (Fld.WRP_PTBASE_BASE x) * 256
  let nom := (s.peek base).toNat
  if !inSram base || nom == 0 then 1000 else (s.rd Reg.ANG_SPEED).toNat * 1000 / nom

/-! ### Bit clocks -/

/-- The frequency of a channel's bit clock in Hz (R105). -/
def bitClock (bpr speed : Nat) : Nat := bpr * speed * 800000000 / 2 ^ 48

/-- The bit clock is within 0.8 to 6.0 Gbaud (R108). -/
def bclkRange (hz : Nat) : Bool := decide (800000000 ≤ hz) && decide (hz ≤ 6000000000)

/-- The channel has a bit clock (R108). -/
def State.bclkOk (s : State) (n : Chan) : Bool :=
  let b := (s.rd (Reg.ANG_BPR n.val)).toNat
  b != 0 && bclkRange (bitClock b (s.rd Reg.ANG_SPEED).toNat)

/-! ### Buffer positions -/

/-- The reservation of a context. -/
def State.resvOf (s : State) (ctx : Nat) : Option Resv := s.buf.resv.find? (fun r => r.ctx == ctx)

/-- The reservation of a context changed. -/
def State.setResv (s : State) (r : Resv) : State :=
  { s with buf := { s.buf with resv := s.buf.resv.map (fun q => if q.ctx == r.ctx then r else q) } }

/-- A stream position lies in a current window (R558). -/
def Resv.inWin (r : Resv) (p : Nat) : Bool :=
  (decide (r.win0 ≤ p) && decide (p < r.win0 + 256)) || (decide (r.win1 ≤ p) && decide (p < r.win1 + 256))

/-- A media instruction's positions are ready in BUF: a READ or SCAN needs every position in a current window and unpublished
(R559), a WRITE every position filled (R309). -/
def State.bufReady (s : State) (op : MediaOp) (ctx first n : Nat) : Bool :=
  match s.resvOf ctx with
  | none => false
  | some r =>
    match op with
    | .read | .scan => (List.range n).all (fun i => r.inWin (first + i) && decide (r.pub ≤ first + i))
    | .write => (List.range n).all (fun i => r.filled.contains (first + i))
    | _ => true

/-- The positions of a run of a channel (R163). -/
def MediaRun.active (r : MediaRun) (second : Bool) : Nat :=
  r.count - popcount (min r.count 32) (if second then r.skip1 else r.skip0)

/-- Place i of a run is suppressed on a channel (R163). -/
def MediaRun.isSkipped (r : MediaRun) (second : Bool) (i : Nat) : Bool :=
  decide (i < 32) && (if second then r.skip1 else r.skip0).testBit i

/-- The unsuppressed places before place i. -/
def MediaRun.before (r : MediaRun) (second : Bool) (i : Nat) : Nat :=
  i - popcount (min i 32) (if second then r.skip1 else r.skip0)

/-- The start sector, first stream position and seed of a channel's run. -/
def MediaRun.sec (r : MediaRun) (second : Bool) : Nat := if second then r.sec1 else r.sec0
def MediaRun.buf (r : MediaRun) (second : Bool) : Nat := if second then r.buf1 else r.buf0
def MediaRun.seed (r : MediaRun) (second : Bool) : Seed := if second then r.seed1 else r.seed0

/-- The first ATS at or after `from_` with an angle (R162). -/
def nextAts (from_ ang : Nat) : Nat := (from_ + (ang + 2 ^ 32 - from_ % 2 ^ 32) % 2 ^ 32) % 2 ^ 48

/-- The pre-heat lead of a run on a channel: PREHEAT's at its issue (R171). -/
def MediaRun.lead (r : MediaRun) (second : Bool) : Nat := if second then r.lead1 else r.lead0

/-- Every position of a WRITE has passed a lane (R46, R309); of another operation none does on its way to the media. -/
def MediaRun.laned (r : MediaRun) : Bool :=
  r.op != .write || ((!inMask r.chs false || decide (r.active false ≤ r.lane0)) && (!inMask r.chs true || decide (r.active true ≤ r.lane1)))

/-- The place of the j-th unsuppressed position of a run on a channel (R163); COUNT beyond the last. -/
def MediaRun.placeOf (r : MediaRun) (second : Bool) (j : Nat) : Nat :=
  (((List.range r.count).filter (fun i => !r.isSkipped second i))[j]?).getD r.count

/-- The ac from the start of a run to the closing of its last gate on a channel (R139, R163). -/
def State.runLength (s : State) (x : Act) (second : Bool) (r : MediaRun) : Nat :=
  let last := r.placeOf second (r.active second - 1)
  ((last + 1) * 2 ^ 32 + s.spt x second - 1) / max 1 (s.spt x second)

/-- A media run waits (R309, R518, R559): its positions are not ready in BUF, or the throttled channel has spent its duty. -/
def State.mediaWaits (s : State) (x : Act) (r : MediaRun) : Bool :=
  let buf (second : Bool) : Bool := !inMask r.chs second
    || (match r.op with
      | .verify => true
      | .eraseb => true
      | .scan => s.bufReady r.op r.ctx (r.buf second) (2 * r.count)
      | _ => s.bufReady r.op r.ctx (r.buf second) (r.active second))
  let v := (s.rd Reg.ANG_SPEED).toNat
  let rev := if v = 0 then 0 else 2 ^ 48 / v
  let spent (second : Bool) : Bool := inMask r.chs second
    && decide (s.eff Fld.THM_WARN_DUTY < 16)
    && decide (s.eff Fld.THM_WARN_DUTY * rev ≤ 16 * (s.ch (chanOf x second)).duty)
  let throt := s.flag Fld.THM_STAT_THROT && !s.sys.retract
  !(buf false && buf true) || (throt && (spent false || spent true))

/-- The split point of a field inside a run stands less than RELEAD after the field's end (R316). -/
def State.releadBad (s : State) (x : Act) (second : Bool) (r : MediaRun) : Bool :=
  let w6 := s.chZoneWord x second 6
  let start := s.slotAngle x second (s.sectorSlot x second (r.sec second))
  let len := r.count * 2 ^ 32 / max 1 (s.spt x second)
  s.get (Fld.WRP_CFG_AMODE x) == 1 && ((s.msq x).pos second).assist
    && decide (wfield w6 0 8 < s.get (Fld.WRP_ASSIST_RELEAD x)) && decide (0 < s.pauses x second start len)

/-- A sector placed by R353 and R354 would run into its neighbour (R355): bits and pauses exceed the slot less 64 bits. -/
def State.sectorTooLong (s : State) (x : Act) (second : Bool) (r : MediaRun) : Bool :=
  let bpr := (s.chZoneWord x second 3).toNat
  let w2 := s.chZoneWord x second 2
  let pre := max 64 (wfield (s.chZoneWord x second 7) 16 10)
  let bits := sectorBits pre (wfield w2 26 2) (wfield w2 28 2)
  let slot := 2 ^ 32 / max 1 (s.spt x second)
  (List.range r.count).any (fun i =>
    let st := s.slotAngle x second ((s.sectorSlot x second (r.sec second) + i) % max 1 (s.spt x second))
    let need := (bits + 64) * 2 ^ 32 / max 1 bpr
    decide (slot < need + s.pauses x second st slot))

/-- What stops a media instruction as it is about to begin besides R167 (R316, R326, R352, R355, R407): none when nothing
does. -/
def State.mediaBlocked (s : State) (x : Act) (r : MediaRun) : Option Nat :=
  let wr := r.op == .write || r.op == .eraseb
  let any (f : Bool → Bool) : Bool := (inMask r.chs false && f false) || (inMask r.chs true && f true)
  if any (fun c => (s.chZone x c).isNone) then some 0x02
  else if !s.ptAll x r.chs then some 0x03
  else if wr && any (fun c => (s.get Fld.LPE_FESTAT_LAS).testBit (chanOf x c).val) then some 0x03
  else if r.op != .scan && any (fun c => s.sectorTooLong x c r) then some 0x02
  else if wr && any (fun c => s.releadBad x c r) then some 0x02
  else none

/-! ### Gates -/

/-- The media item in progress on a channel: the last one begun that has not completed. -/
def Msq.mediaOn (m : Msq) (second : Bool) : Option MediaRun :=
  (m.work.reverse.find? (fun w => w.begun && !w.done && (match w.kind with | .media r => inMask r.chs second | _ => false))).bind
    (fun w => match w.kind with | .media r => some r | _ => none)

/-- The place of a run under a channel's head now (R353), from the ATS of its first position (R162); none outside the run. -/
def State.placeNow (s : State) (x : Act) (second : Bool) (r : MediaRun) : Option Nat :=
  let i := s.atsSince (s.ch (chanOf x second)).startAts * s.spt x second / 2 ^ 32
  if i < r.count then some i else none

/-- A bridge that is switched off keeps its actuator's gates low (R432). -/
def State.bridgeOff (s : State) (x : Act) : Bool := s.flag (byAct x Fld.DRV_STAT_OFFA Fld.DRV_STAT_OFFB)

/-- A channel's write gate is high (R108, R313, R316, R334): a WRITE or ERASEB position is under the head outside the servo fields
and the channel has a bit clock, or micro-ops opened it. -/
def State.wgOpen (s : State) (x : Act) (second : Bool) : Bool :=
  let w := s.wrp x
  if w.holding != 0 || s.bridgeOff x then false
  else
    w.gates.any (fun g => g.isOpen && (g.kind == 0 || g.kind == 2) && g.ch == b2n second)
    || (match (s.msq x).mediaOn second with
      | some r =>
        (r.op == .write || r.op == .eraseb) && (s.ch (chanOf x second)).op == 2 && s.bclkOk (chanOf x second) &&
          (match s.placeNow x second r with
          | some i => !r.isSkipped second i && !s.inServo x second s.angle
          | none => false)
      | none => false)

/-- The pre-heat lead of a run on a channel in ac (R315): PREHEAT's, or the table's. -/
def State.preheat (s : State) (x : Act) (second : Bool) (r : MediaRun) : Nat :=
  match ((s.msq x).pos second).head with
  | some h => (if r.lead second = 0 then (if s.ptOk x h then wfield (s.ptWord x h 2) 16 16 else 0) else r.lead second) * 2 ^ 12
  | none => 0

/-- The sample of its template that a neighbour's seek with this start has reached (R400): 32 samples, one a wedge. -/
def State.annSample (s : State) (start : Nat) : Option Nat :=
  let i := s.atsSince start * max 1 (s.get Fld.ANG_CFG_WEDGES) / 2 ^ 32
  if s.atsPast start && decide (i < 32) then some i else none

/-- The ATS at which a run begins on a channel (R162): the first pass of its start sector at least LEADMIN, and for a WRITE or ERASEB
with assist the pre-heat lead, after it was ready, and not before now. -/
def State.runStart (s : State) (x : Act) (second : Bool) (r : MediaRun) (ready : Nat) : Nat :=
  let wr := r.op == .write || r.op == .eraseb
  let lead := s.eff (Fld.MSQ_CFG_LEADMIN x) * 2 ^ 12
    + (if wr && ((s.msq x).pos second).assist && s.get (Fld.WRP_CFG_AMODE x) != 0 then s.preheat x second r else 0)
  nextAts (if s.atsPast (ready + lead) then s.ang.ats else ready + lead) (s.slotAngle x second (s.sectorSlot x second (r.sec second)))

/-- The settings a channel holds now. -/
def State.chSetNow (s : State) (n : Chan) : ChSet :=
  { cfg := s.rd (Reg.CH_CFG n), recc := s.rd (Reg.CH_RECCFG n), sync := s.rd (Reg.CH_SYNC n), smpat := s.rd (Reg.CH_SMPAT n),
    target := s.rd (Reg.CH_TARGET n), fe := s.rd (Reg.CH_FE n), taps := (s.ch n).taps }

/-- The settings that the sector at a place of a channel's run keeps from its start (R271, R276): those of before a write that came
while it was under the head, or those of now. -/
def State.chSetFor (s : State) (n : Chan) (place : Nat) : ChSet :=
  match (s.ch n).lat with
  | some (i, c) => if i = place then c else s.chSetNow n
  | none => s.chSetNow n

/-- The settings of the sector under a channel's head are kept for it before a write changes them (R271, R276). -/
def State.latchSector (s : State) (n : Chan) : State :=
  match (s.msq (actOf n)).mediaOn (isSecond n) with
  | some r =>
    match s.placeNow (actOf n) (isSecond n) r with
    | some i => s.setCh n { s.ch n with lat := some (i, s.chSetFor n i) }
    | none => s
  | none => s

/-- The bits of a sector that have passed under the head since its start (R354): the sector at place i of a channel's run. -/
def State.bitsPassed (s : State) (x : Act) (second : Bool) (i : Nat) : Nat :=
  let spt := max 1 (s.spt x second)
  let start := (s.ch (chanOf x second)).startAts + (i * 2 ^ 32 + spt - 1) / spt
  let run := s.atsSince start
  (run - s.pauses x second (start % 2 ^ 32) run) * (s.rd (Reg.ANG_BPR (chanOf x second).val)).toNat / 2 ^ 32

/-- The bits of a sector written or read under given settings, from its first preamble bit on (R272, R275). -/
def ChSet.bits (c : ChSet) : Nat := sectorBits (max 64 (wfield c.sync 16 10)) (wfield c.cfg 26 2) (wfield c.cfg 28 2)

/-- The samples of a sector that the ring captures (R282): from P - 80 bits to 80 bits past its last postamble bit. -/
def ChSet.span (c : ChSet) : Nat := c.bits - max 64 (wfield c.sync 16 10) + 160

/-- The samples a channel has captured (R282): up to the sector whose capture began last, and of that one the bits from P - 80 on that
have passed. -/
def State.captured (s : State) (n : Chan) : Nat :=
  match (s.ch n).ring.getLast? with
  | none => 0
  | some p =>
    match (s.msq (actOf n)).mediaOn (isSecond n) with
    | some _ =>
      if p.item = (s.ch n).items then
        p.start + min p.len (s.bitsPassed (actOf n) (isSecond n) p.place + 80 - max 64 (wfield (s.chSetFor n p.place).sync 16 10))
      else p.start + p.len
    | none => p.start + p.len

/-- The samples that the ring holds (R282, R301): 149,760, or 112,320 while a quarter serves as the averaging accumulator. -/
def State.ringSize (s : State) (n : Chan) : Nat :=
  if s.flag (Fld.CH_RECCFG_EN n) && decide (2 ≤ s.get (Fld.CH_RECCFG_AVG n)) then 112320 else 149760

/-- The ring still holds every sample of a sector (R283). -/
def State.ringHolds (s : State) (n : Chan) (item place : Nat) : Bool :=
  (s.ch n).ring.any (fun p => p.item == item && p.place == place && decide (s.captured n ≤ p.start + s.ringSize n))

/-- Capture is about to overwrite a sample of a sector, or has (R288). -/
def State.ringFull (s : State) (n : Chan) (item place : Nat) : Bool :=
  !(s.ch n).ring.any (fun p => p.item == item && p.place == place && decide (s.captured n < p.start + s.ringSize n))

/-- A channel's laser gate is high (R315): with the write gate, and before it by the pre-heat lead. -/
def State.lgOpen (s : State) (x : Act) (second : Bool) : Bool :=
  let w := s.wrp x
  let c := s.ch (chanOf x second)
  if w.holding != 0 || s.bridgeOff x then false
  else
    w.gates.any (fun g => g.isOpen && g.kind == 1 && g.ch == b2n second)
    || (s.get (Fld.WRP_CFG_AMODE x) != 0 && ((s.msq x).pos second).assist
      && (s.wgOpen x second
        || (match (s.msq x).mediaOn second with
          | some r => (r.op == .write || r.op == .eraseb) && c.op == 2
              && decide (0 < (c.startAts + 2 ^ 48 - s.ang.ats) % 2 ^ 48)
              && decide ((c.startAts + 2 ^ 48 - s.ang.ats) % 2 ^ 48 ≤ s.preheat x second r)
          | none => false)))

/-! ### Loops and actuators -/

/-- An actuator's loops. -/
def State.la (s : State) : Act → LpeAct
  | .a => s.lpe.a
  | .b => s.lpe.b

/-- An actuator's loops changed. -/
def State.setLa (s : State) (x : Act) (l : LpeAct) : State :=
  match x with
  | .a => { s with lpe := { s.lpe with a := l } }
  | .b => { s with lpe := { s.lpe with b := l } }

/-- A head's supervision by its channel. -/
def LpeAct.head (l : LpeAct) (second : Bool) : HeadSt := if second then l.h1 else l.h0

/-- A head's supervision changed. -/
def LpeAct.setHead (l : LpeAct) (second : Bool) (h : HeadSt) : LpeAct :=
  if second then { l with h1 := h } else { l with h0 := h }

/-- The fields of LPE_STAT of an actuator: ACTA's layout, in [15:8] for B. -/
def lpeF (x : Act) (lo len : Nat) : Field := ⟨Reg.LPE_STAT, 8 * x.idx + lo, len⟩
def lpeRegion (x : Act) : Field := lpeF x 0 2
def lpeSafe (x : Act) : Field := lpeF x 2 1
def lpeCoast (x : Act) : Field := lpeF x 3 1
def lpeSearch (x : Act) : Field := lpeF x 4 1

/-- The fields of DRV of an actuator. -/
def drvRet (x : Act) : Field := byAct x Fld.DRV_STAT_RETA Fld.DRV_STAT_RETB
def drvOff (x : Act) : Field := byAct x Fld.DRV_STAT_OFFA Fld.DRV_STAT_OFFB

/-- A head meets the read or the write criterion (R402); one in following error meets neither (R407). -/
def State.headSettled (s : State) (x : Act) (second wr : Bool) : Bool :=
  let h := (s.la x).head second
  !(s.get Fld.LPE_FESTAT_UA).testBit (chanOf x second).val
    && (if wr then decide (s.eff Fld.LPE_SETTLE_WR_N ≤ h.wr) else decide (s.eff Fld.LPE_SETTLE_RD_N ≤ h.rd))

/-- Every bound head of a mask meets the read or the write criterion. -/
def State.settled (s : State) (x : Act) (mask : Nat) (wr : Bool) : Bool :=
  let ok (second : Bool) : Bool := !inMask mask second || ((s.msq x).pos second).head.isNone || s.headSettled x second wr
  ok false && ok true

/-- The state of an actuator (R757). -/
def State.actState (s : State) (x : Act) : Nat :=
  let m := s.msq x
  if !s.actOk x then 0
  else if s.faulted x then 7
  else if (s.la x).loading || (s.la x).unloading || s.flag (drvRet x) then 2
  else if s.flag (byAct x Fld.SYS_ACTCTL_CALA Fld.SYS_ACTCTL_CALB) && s.loaded x then 6
  else if m.work.any (fun w => w.begun && !w.done && (match w.kind with | .media _ => true | _ => false)) then 5
  else if s.get (lpeRegion x) = 1 ∨ s.get (lpeRegion x) = 2 ∨ s.flag (lpeCoast x) = true ∨ s.flag (lpeSearch x) = true then 4
  else if s.get (lpeRegion x) = 3 then 3
  else if !s.loaded x && s.sys.inregSince then 1
  else 0

/-! ### Host side -/

/-- The place of a slot: media slots by index, system slots from 4096 on. -/
def slotIx (sys : Bool) (i : Nat) : Nat := if sys then 4096 + i else i

/-- A key slot. -/
def State.ks (s : State) (i : Nat) : KeySlot := mget (fun _ => KeySlot.empty) s.cph.slots i

/-- The reserve's segments: the pool's last two (log 31). -/
def State.reserveFirst (s : State) : Nat := s.get Fld.BUF_POOL_COUNT - 2

/-- Segment k is held. -/
def State.segHeld (s : State) (k : Nat) : Bool := s.buf.resv.any (fun r => r.seg0 == k || r.seg1 == k)

/-- The free segments outside the reserve (R560). -/
def State.freeSegs (s : State) : List Nat := (List.range s.reserveFirst).filter (fun k => !s.segHeld k)

/-- The oldest entry of a queue (0 A, 1 B, 2 N) as CCX_POPx shows it (R661). -/
def State.popView (s : State) (q : Nat) : Word :=
  let show_ (n : Nat) (done : Bool) : Word := BitVec.ofNat 32 (2 ^ 31 + b2n done * 2 ^ 30 + n)
  if q = 0 then (match s.ccx.qa with | n :: _ => show_ n false | [] => 0)
  else if q = 1 then (match s.ccx.qb with | n :: _ => show_ n false | [] => 0)
  else (match s.ccx.qn with | (n, d) :: _ => show_ n d | [] => 0)

/-- PCIe is the host mode (R629, R10: CZ8650-DS is always SAS). -/
def State.pcieMode (s : State) : Bool := s.pins.hifsel && s.pins.variant != 2

end Sys2Proof.Machine
end

