-- ==== Sys2Proof/Machine/View.lean ====
section
/-!
DEFINITION. What a read of a register returns where the register shows state that has its home elsewhere: live status, queues'
heads, the angle, counts within a window. Every other register reads as stored.
-/
namespace Sys2Proof.Machine

/-- The number of ticks of a history entry's age that still counts (R225): less than ESC_WIN. -/
def State.escTicks (s : State) : Nat := s.eff Fld.SYS_ESCCFG_WIN_MS * 800000

/-- The entries of a history within ESC_WIN of now (R225). -/
def State.within (s : State) (h : List Nat) : List Nat := h.filter (fun t => decide (s.now < t + s.escTicks))

/-- A count that shows at most 15 (R230, R231). -/
def sat15 (n : Nat) : Nat := if n < 15 then n else 15

/-- The code of a slot's state in MSQx_SLOTSTATk. -/
def SlotState.code : SlotState → Nat
  | .free => 0
  | .ready => 1
  | .run => 2
  | .done => 3
  | .fault => 4

/-- MSQx_SLOTSTATk (R187). The flags shown are those of the speculative state. -/
def slotStat (sl : Slot) : Word :=
  BitVec.ofNat 32 (sl.st.code + 2 ^ 10 * sl.prio + 2 ^ 20 * sl.spec.flags + 2 ^ 24 * sl.fcode)

/-- The bits of MSQx_SLOTDONE: the slots in DONE (R126). -/
def Msq.doneBits (m : Msq) : Nat :=
  (List.range 16).foldl (fun v k => if (m.slot k).st == .done then v + 2 ^ k else v) 0

/-- The wedge boundaries from the angular commit point to the farthest armed operation (R191): armed comparators, and the starts of
media runs that lie within 8 boundaries. -/
def State.aheadW (s : State) (x : Act) : Nat :=
  match (s.msq x).acp with
  | none => 0
  | some w =>
    let base := s.wedgeAngle (s.refSurface x) w
    let wedges (ang : Nat) : Nat := ((ang + 2 ^ 32 - base) % 2 ^ 32) * s.get Fld.ANG_CFG_WEDGES / 2 ^ 32
    let media (second : Bool) : Nat := match (s.msq x).mediaOn second with
      | some _ => if wedges (s.ch (chanOf x second)).startAts ≤ 8 then wedges (s.ch (chanOf x second)).startAts else 0
      | none => 0
    max (max (media false) (media true)) ((s.cmps x).foldl (fun far c => max far (wedges c.2.target)) 0) % 16

/-- MSQx_STAT (R187). -/
def msqStat (s : State) (x : Act) : Word :=
  let m := s.msq x
  let run := match m.running with
    | some k => 16 + k
    | none => if s.flag (Fld.MSQ_CTL_HOLD x) then 256 else 0
  BitVec.ofNat 32 (run + 2 ^ 12 * s.aheadW x + 2 ^ 16 * (m.dist % 64))

/-- The registers of an MSQ that show other state. -/
def viewMsq (s : State) (x : Act) (off : Nat) (raw : Word) : Word :=
  let m := s.msq x
  if off = 0x8 then msqStat s x
  else if off = 0x48 then BitVec.ofNat 32 m.doneBits
  else if off = 0x70 then wput raw 0 4 (sat15 (s.within m.counted).length)
  else if 0x80 ≤ off ∧ off < 0xC0 then slotStat (m.slot ((off - 0x80) / 4))
  else if 0xC0 ≤ off ∧ off < 0x100 then BitVec.ofNat 32 (m.slot ((off - 0xC0) / 4)).comm.pc
  else raw

/-- The armed comparators 32 w to 32 w + 31 of an actuator (R109). -/
def armedBits (c : List (Nat × Cmp)) (w : Nat) : Word :=
  BitVec.ofNat 32 (c.foldl (fun v e => if e.1 / 32 = w then v + 2 ^ (e.1 % 32) else v) 0)

/-- The registers of ANG that show other state. -/
def viewAng (s : State) (off : Nat) (raw : Word) : Word :=
  if off = 0x8 then wput raw 5 1 (b2n (s.ang.slew != 0))
  else if off = 0x20 then
    (match s.ang.pendWedges with
      | some w => wput raw 11 11 w
      | none => raw)
  else if off = 0x30 then BitVec.ofNat 32 s.angle
  else if off = 0x34 then BitVec.ofNat 32 (s.rev % 2 ^ 16)
  else if off = 0x50 then armedBits s.ang.cmpA 0
  else if off = 0x54 then armedBits s.ang.cmpA 1
  else if off = 0x58 then armedBits s.ang.cmpB 0
  else if off = 0x5C then armedBits s.ang.cmpB 1
  else raw

/-- Heartwood has a patch load of an actuator in hand (R263): its request waits for its answer. -/
def State.ploading (s : State) (x : Act) : Bool :=
  s.flag Fld.HWD_MBCTL_GO && s.get Fld.HWD_MBCMD_CODE == 8 && ((s.rd (Reg.HWD_MBREQ 0)).toNat % 2 == x.idx)

/-- The registers of UCS that show other state (R265). -/
def viewUcs (s : State) (off : Nat) (raw : Word) : Word :=
  if off = 0x8 then
    BitVec.ofNat 32 (s.get (Fld.UCS_SAPCTL_LOAD .a) + 2 * s.get (Fld.UCS_SAPCTL_LOAD .b)
      + 4 * b2n (s.ploading .a) + 8 * b2n (s.ploading .b)
      + 256 * b2n s.msqA.micro.cap + 512 * b2n s.msqB.micro.cap)
  else raw

/-- The registers of RBK that show other state (R747); the window of R729 is read in Ringbook.lean. -/
def viewRbk (s : State) (off : Nat) (raw : Word) : Word :=
  if off = 0x8 then
    BitVec.ofNat 32 (b2n s.rbk.flush.isSome
      + 2 * b2n (match s.rbk.flush with | some f => f.crit | none => false)
      + 4 * b2n s.rbk.recw + 256 * (s.rbk.imgSlot % 16))
  else if off = 0x48 then wput raw 0 8 (s.rbk.ret.dropped % 256)
  else raw

/-- The registers of SYS that show other state (R231, R757, R776, R682). -/
def viewSys (s : State) (a : Nat) (raw : Word) : Word :=
  if a = Reg.SYS_STAT then BitVec.ofNat 32 (b2n s.pins.hifsel + 2 * b2n s.pins.spinup + 4 * b2n s.pins.gen7)
  else if a = Reg.SYS_MODE then wput (wput raw 16 4 (s.actState .a)) 20 4 (s.actState .b)
  else if a = Reg.SYS_ESCSTAT then
    wput raw 0 12 (sat15 (s.within s.sys.actResetsA).length + 16 * sat15 (s.within s.sys.actResetsB).length
      + 256 * sat15 (s.within s.sys.warmResets).length)
  else if a = Reg.SYS_ID then BitVec.ofNat 32 (0x86500000 + s.pins.rev % 256 * 256 + s.pins.variant % 16)
  else raw

/-- The words of the oldest failure record of a channel; 0 with none (R305). -/
def frecWord (l : List Rec4) (k : Nat) : Word :=
  match l with
  | [] => 0
  | r :: _ => if k = 0 then r.w0 else if k = 1 then r.w1 else if k = 2 then r.w2 else r.w3

/-- The registers of a channel that show other state (R308). -/
def viewCh (s : State) (n : Chan) (a : Nat) (raw : Word) : Word :=
  let c := s.ch n
  if a = Reg.CH_STAT n then
    let avgn := match c.acc with
      | some (_, _, p) => min p 8
      | none => 0
    BitVec.ofNat 32 (c.op % 4 + 64 * b2n (s.bclkOk n) + 128 * b2n c.frozen + 256 * (c.redet.length % 4)
      + 2 ^ 16 * (((s.msq (actOf n)).pos (isSecond n)).head.getD 0 % 16) + 2 ^ 20 * avgn)
  else if a = Reg.CH_FRECSTAT n then BitVec.ofNat 32 c.frec.length
  else if Reg.CH_FREC n 0 ≤ a ∧ a ≤ Reg.CH_FREC n 3 then frecWord c.frec ((a - Reg.CH_FREC n 0) / 4)
  else raw

/-- The registers of a write path that show other state (R348). -/
def viewWrp (s : State) (x : Act) (a : Nat) (raw : Word) : Word :=
  let w := s.wrp x
  if a = Reg.WRP_STAT x then
    BitVec.ofNat 32 (b2n (s.wgOpen x false) + 2 * b2n (s.wgOpen x true) + 4 * b2n (s.lgOpen x false) + 8 * b2n (s.lgOpen x true)
      + 256 * (w.holding % 256))
  else if a = Reg.WRP_TORNSTAT x then BitVec.ofNat 32 w.torn.length
  else if Reg.WRP_TORN x 0 ≤ a ∧ a ≤ Reg.WRP_TORN x 3 then frecWord w.torn ((a - Reg.WRP_TORN x 0) / 4)
  else raw

/-- PLKx_STAT (R349). -/
def viewPlk (s : State) (x : Act) (a : Nat) (raw : Word) : Word :=
  let p := s.plk x
  if a = Reg.PLK_STAT x then BitVec.ofNat 32 (b2n (s.flag (Fld.PLK_REQ_GO x)) + 2 * b2n p.faulted + 4 * b2n p.fltPin) else raw

/-- LPE_STAT (R433): LOADED, WROK and RDOK of both actuators; the criteria read 0 with no head bound (DEDUCED). -/
def viewLpe (s : State) (a : Nat) (raw : Word) : Word :=
  let one (x : Act) (w : Word) : Word :=
    let bound := (s.msq x).pos0.head.isSome || (s.msq x).pos1.head.isSome
    wput w (8 * x.idx + 5) 3 (b2n (bound && s.settled x 3 false) + 2 * b2n (bound && s.settled x 3 true) + 4 * b2n (s.loaded x))
  if a = Reg.LPE_STAT then one .b (one .a raw) else raw

/-- The registers of MEM that show other state (R564). -/
def viewMem (s : State) (a : Nat) (raw : Word) : Word :=
  let e := mfind s.mem.cet (s.get Fld.MEM_CETCTL_IDX)
  if a = Reg.MEM_STAT then
    wput raw 2 3 (b2n (s.get Fld.MEM_CTL_RETRAIN != 0) + 2 * b2n (s.flag Fld.MEM_CTL_ZFGO)
      + 4 * b2n (s.flag Fld.MEM_CTL_SCRUBEN && s.flag Fld.MEM_STAT_TRAINED))
  else if a = Reg.MEM_CETADDR then
    (match e with
      | some (ad, _) => BitVec.ofNat 32 (2 ^ 31 + ad % 2 ^ 31)
      | none => 0)
  else if a = Reg.MEM_CETCNT then
    (match e with
      | some (_, n, k) => BitVec.ofNat 32 (k % 16 * 256 + n % 256)
      | none => 0)
  else raw

/-- The registers of BUF that show other state (R565). -/
def viewBuf (s : State) (a : Nat) (raw : Word) : Word :=
  if a = Reg.BUF_STAT then
    BitVec.ofNat 32 (2 ^ 7 * b2n (s.buf.resv.any (fun r => r.reserve)) + 2 ^ 8 * min 255 s.buf.wait.length
      + 2 ^ 16 * (s.freeSegs.length % 2 ^ 16))
  else if a = Reg.BUF_FAILQ then
    (match s.buf.failq with
      | (c, g) :: _ => BitVec.ofNat 32 (2 ^ 31 + c % 2 ^ 10 * 2 ^ 16 + g % 2 ^ 14)
      | [] => 0)
  else raw

/-- The registers of CPH that show other state (R628). The XTS lanes are idle between commands (log 41). -/
def viewCph (s : State) (a : Nat) (raw : Word) : Word :=
  if a = Reg.CPH_STAT then
    wput raw 9 1 (b2n (s.get Fld.CPH_JOBPI_INDEX != s.get Fld.CPH_JOBCI_INDEX && s.flag Fld.CPH_STAT_MASKOK))
  else if a = Reg.CPH_SLOTINFO then
    let sys := s.flag Fld.CPH_SLOTSEL_SYS
    let i := s.get Fld.CPH_SLOTSEL_INDEX
    if sys && decide (63 < i) then 0
    else
      let k := s.ks (slotIx sys i)
      BitVec.ofNat 32 (k.gen % 2 ^ 16 * 2 ^ 16 + k.st % 4 * 2 ^ 12 + k.use % 2 ^ 11)
  else if a = Reg.CPH_LRDATA then mget (fun _ => (0 : Word)) s.cph.ranges (s.get Fld.CPH_LRADDR_ADDR)
  else raw

/-- The registers of HWD that show other state (R627). -/
def viewHwd (s : State) (a : Nat) (raw : Word) : Word :=
  if a = Reg.HWD_STAT then wput raw 1 1 (b2n (s.flag Fld.HWD_MBCTL_GO))
  else if a = Reg.HWD_MBTMO ∧ s.flag Fld.HWD_MBCTL_GO = true then wput raw 0 16 (min 0xFFFF ((s.now - s.hwd.goAt) / 800000))
  else raw

/-- The registers of CCX that show other state (R661). -/
def viewCcx (s : State) (a : Nat) (raw : Word) : Word :=
  if a = Reg.CCX_STAT then
    BitVec.ofNat 32 (b2n (!s.ccx.qa.isEmpty) + 2 * b2n (!s.ccx.qb.isEmpty) + 4 * b2n (!s.ccx.qn.isEmpty)
      + 2 ^ 16 * (1024 - s.ccx.ctxs.length))
  else if a = Reg.CCX_POPA then s.popView 0
  else if a = Reg.CCX_POPB then s.popView 1
  else if a = Reg.CCX_POPN then s.popView 2
  else raw

/-- The senders from which a message was accepted in the last 3 cycles (R707, R726), as a 64-bit map. -/
def State.valeHeard (s : State) : Nat :=
  s.vale.heard.foldl (fun v e => if s.now < e.2 + 3 * 64000 then v ||| 2 ^ (e.1 % 64) else v) 0

/-- The registers of VALE that show other state (R726). -/
def viewVale (s : State) (a : Nat) (raw : Word) : Word :=
  if a = Reg.VALE_STAT then wput (wput raw 15 7 (b2n s.pins.canopy + 2 * (s.pins.slotid % 64))) 4 1 (s.get Fld.ANG_STAT_CANLOCK)
  else if a = Reg.VALE_MEMB then BitVec.ofNat 32 s.valeHeard
  else if a = Reg.VALE_MEMBH then BitVec.ofNat 32 (s.valeHeard / 2 ^ 32)
  else raw

/-- The debug level in force (R625, R692). -/
def State.dbgLevel (s : State) : Nat := s.get Fld.HWD_STAT_DBGLVL

/-- A block that the variant has fused off (R7, R9): MSQB, CH2, CH3, WRPB, PLKB on CZ8650-SN, PCIE/NVMe on CZ8650-DS. -/
def State.fusedOff (s : State) (a : Nat) : Bool :=
  let w := (a - 0x80000000) / 0x10000
  (s.isSN && (w == 5 || w == 10 || w == 11 || w == 13 || w == 15)) || (s.pins.variant == 2 && w == 26)

/-- An EVT register holds an enabled event (lines 0) or a fault (line 1) (R76): a fault's enable has Reset value 1 (R74). -/
def State.evtLine (s : State) (base : Nat) (fault : Bool) : Bool :=
  let e := s.rd base
  let fm := regReset (base + 4)
  if fault then (e &&& fm) != 0#32 else (e &&& s.rd (base + 4) &&& ~~~fm) != 0#32

/-- The lines of a block's own (R308, R524, R525, R565, R661, R697, R187, R348). -/
def State.ownLine (s : State) (w k : Nat) : Bool :=
  if w = 1 then (if k = 2 then s.get Fld.PWR_STAT_RETPH != 0 else k == 3 && s.flag Fld.PWR_STAT_UVHOLD)
  else if w = 2 then k == 2 && s.flag Fld.THM_STAT_THROT
  else if w = 4 then k == 2 && s.msqA.doneBits != 0
  else if w = 5 then k == 2 && s.msqB.doneBits != 0
  else if w = 7 then k == 2 && !s.dbg.rx.isEmpty && decide (1 ≤ s.dbgLevel)
  else if w = 8 then k == 2 && !s.ch0.frec.isEmpty
  else if w = 9 then k == 2 && !s.ch1.frec.isEmpty
  else if w = 10 then k == 2 && !s.ch2.frec.isEmpty
  else if w = 11 then k == 2 && !s.ch3.frec.isEmpty
  else if w = 12 then (if k = 2 then !s.wrpA.torn.isEmpty else k == 3 && s.wrpA.holding != 0)
  else if w = 13 then (if k = 2 then !s.wrpB.torn.isEmpty else k == 3 && s.wrpB.holding != 0)
  else if w = 21 then k == 2 && !s.buf.failq.isEmpty
  else if w = 27 then (if k = 2 then !s.ccx.qa.isEmpty else if k = 3 then !s.ccx.qb.isEmpty else k == 4 && !s.ccx.qn.isEmpty)
  else false

/-- An interrupt source is asserted (R76, R77, R9). Group 7 is DBG's, window 0x13 has none. -/
def State.asserted (s : State) (src : Nat) : Bool :=
  let w := src / 8
  let base := if w = 7 then 0x80200000 else 0x80000000 + w * 0x10000
  if w = 19 || s.fusedOff base then false
  else if src % 8 < 2 then s.evtLine base (src % 8 == 1)
  else s.ownLine w (src % 8)

/-- The priority and the route of a source (R675, R683). -/
def State.srcPrio (s : State) (src : Nat) : Nat := wfield (s.rd (Reg.INTC_SRCCFG (src / 4))) (8 * (src % 4) + 4) 3
def State.srcRoute (s : State) (src core : Nat) : Bool := (s.rd (Reg.INTC_SRCCFG (src / 4))).getLsbD (8 * (src % 4) + core)

/-- The threshold of a core. -/
def State.coreThr (s : State) (core : Nat) : Nat := if core = 0 then s.get Fld.INTC_THR_THR0 else s.get Fld.INTC_THR_THR1

/-- A source interrupts a core (R675). -/
def State.qualifies (s : State) (core src : Nat) : Bool :=
  s.asserted src && s.srcRoute src core && decide (s.coreThr core < s.srcPrio src) && decide (0 < s.srcPrio src)

/-- The qualifying source of the highest priority, the lowest number among equals (R677). -/
def State.bestSource (s : State) (core : Nat) : Option Nat :=
  (List.range 256).foldl (fun b i =>
    if s.qualifies core i then
      match b with
      | none => some i
      | some j => if s.srcPrio j < s.srcPrio i then some i else b
    else b) none

/-- mip.MEIP of a core (R675). -/
def State.meip (s : State) (core : Nat) : Bool := (s.bestSource core).isSome

/-- The 32 sources of a PEND register (R683). -/
def State.pendWord (s : State) (w : Nat) : Word :=
  BitVec.ofNat 32 ((List.range 32).foldl (fun v i => if s.asserted (32 * w + i) then v + 2 ^ i else v) 0)

/-- The us left of a countdown timer (R678). -/
def State.tmrLeft (s : State) (core : Nat) : Nat :=
  s.get (if core = 0 then Fld.INTC_TMR0_COUNT else Fld.INTC_TMR1_COUNT) - (s.now - (if core = 0 then s.apc.tmr0 else s.apc.tmr1)) / 800

/-- The registers of INTC that show other state (R683). -/
def viewIntc (s : State) (a : Nat) (raw : Word) : Word :=
  if a = Reg.INTC_STAT then
    BitVec.ofNat 32 (b2n (s.meip 0) + 2 * b2n (s.meip 1) + 256 * (s.rd Reg.INTC_SWI).toNat)
  else if a = Reg.INTC_TMR0 then BitVec.ofNat 32 (s.tmrLeft 0)
  else if a = Reg.INTC_TMR1 then BitVec.ofNat 32 (s.tmrLeft 1)
  else if Reg.INTC_PEND 0 ≤ a ∧ a ≤ Reg.INTC_PEND 7 then s.pendWord ((a - Reg.INTC_PEND 0) / 4)
  else raw

/-- XSP_STAT.BUSY (R691). -/
def viewXsp (s : State) (a : Nat) (raw : Word) : Word :=
  if a = Reg.XSP_STAT then wput raw 2 1 (b2n (s.flag Fld.XSP_CMD_GO || s.rbk.flush.isSome)) else raw

/-- Trace writes records (R692, R694). -/
def State.traceOn (s : State) : Bool := s.flag Fld.DBG_TRCCFG_EN && decide (1 ≤ s.dbgLevel)

/-- The registers of DBG that show other state (R697). -/
def viewDbg (s : State) (a : Nat) (raw : Word) : Word :=
  if a = Reg.DBG_STAT then
    BitVec.ofNat 32 (s.dbgLevel + 8 * b2n s.traceOn + 2 ^ 8 * s.dbg.tx.length + 2 ^ 16 * s.dbg.rx.length)
  else if a = Reg.DBG_UARTRX then
    (match s.dbg.rx with
      | b :: _ => BitVec.ofNat 32 (2 ^ 31 + b.toNat)
      | [] => 0)
  else raw

/-- A register as a read returns it, before the clears and latches that some reads make (R60). -/
def State.view (s : State) (a : Nat) : Word :=
  let raw := s.rd a
  let w := (a - 0x80000000) / 0x10000
  let off := a % 0x10000
  match w with
  | 0 => viewSys s a raw
  | 3 => viewAng s off raw
  | 4 => viewMsq s .a off raw
  | 5 => viewMsq s .b off raw
  | 6 => viewUcs s off raw
  | 8 => viewCh s 0 a raw
  | 9 => viewCh s 1 a raw
  | 10 => viewCh s 2 a raw
  | 11 => viewCh s 3 a raw
  | 12 => viewWrp s .a a raw
  | 13 => viewWrp s .b a raw
  | 14 => viewPlk s .a a raw
  | 15 => viewPlk s .b a raw
  | 16 => viewLpe s a raw
  | 20 => viewMem s a raw
  | 21 => viewBuf s a raw
  | 22 => viewCph s a raw
  | 23 => viewHwd s a raw
  | 24 => if a = Reg.HIF_STAT then wput raw 4 1 (b2n s.pcieMode) else raw
  | 27 => viewCcx s a raw
  | 28 => viewVale s a raw
  | 29 => viewRbk s off raw
  | 30 => viewIntc s a raw
  | 31 => viewXsp s a raw
  | 32 => viewDbg s a raw
  | _ => raw

/-- A field as a read returns it. -/
def State.see (s : State) (f : Field) : Nat := wfield (s.view f.addr) f.lo f.len

end Sys2Proof.Machine
end

