-- ==== Sys2Proof/Machine/Ringbook.lean ====
section
/-!
DEFINITION. The Ringbook recorder's shared operations (R727 to R745): filing occurrences, coalescing, histograms, extremes,
counters, flush starts; and raising an event or fault bit (R75, R737).
-/
namespace Sys2Proof.Machine

/-- The SOURCE of a block's occurrences (R737, R58): its INTC group / 8; DBG takes the group of the empty window 7. -/
def sourceOf (a : Nat) : Nat :=
  let w := (a - 0x80000000) / 0x10000
  if w = 0x20 then 7 else w

/-- The actuator of a source: MSQ, CH, WRP and PLK blocks (R25). -/
def sourceAct (src : Nat) : Option Act :=
  if src = 4 ∨ src = 8 ∨ src = 9 ∨ src = 12 ∨ src = 14 then some .a
  else if src = 5 ∨ src = 10 ∨ src = 11 ∨ src = 13 ∨ src = 15 then some .b
  else none

/-- The address of the BLOCK_STAT of a source (R73). -/
def statAddr (src : Nat) : Nat := (if src = 7 then 0x80200000 else 0x80000000 + src * 0x10000) + 8

/-- One occurrence now (R737, R738). The context is the one bound in the running slot of the source's actuator. -/
def State.occNow (s : State) (ty src code : Nat) (d0 d1 d2 d3 : Word) : Occ :=
  { ty := ty, src := src, code := code, count := 1, t0 := s.us, ats0 := s.ang.ats, t1 := s.us, ats1 := s.ang.ats,
    ctx := match sourceAct src with
      | some x => s.boundCtx x
      | none => 0x400
    mode := s.get Fld.SYS_MODE_MODE, stat := d0, d0 := d1, d1 := d2, d2 := d3 }

/-- The newest record of a SOURCE (R739): the one created last among those still in the ring, with its ring index. -/
def newestOf (recs : List (Nat × EvRec)) (src : Nat) : Option (Nat × EvRec) :=
  recs.foldl (fun best e =>
    if e.2.occ.src = src then
      match best with
      | none => some e
      | some b => if b.2.ord < e.2.ord then some e else some b
    else best) none

/-- A new record at WRIDX, overwriting the oldest once the ring is full (R739). -/
def newRecord (r : RbkSt) (o : Occ) : RbkSt :=
  let old := match mfind r.ret.recs r.ret.wrIdx with
    | some e => e.seq
    | none => 0
  { r with
    ords := r.ords + 1,
    ret := { r.ret with
      recs := mput r.ret.recs r.ret.wrIdx { seq := old + 2, ord := r.ords, occ := o },
      wrIdx := (r.ret.wrIdx + 1) % 512,
      wraps := if r.ret.wrIdx + 1 = 512 then r.ret.wraps + 1 else r.ret.wraps } }

/-- Records for a count that may exceed one record's REPEAT (R741): each takes at most 65,535. -/
def newRecords : Nat → RbkSt → Occ → RbkSt
  | 0, r, _ => r
  | n + 1, r, o =>
    if o.count ≤ 65535 then newRecord r o
    else newRecords n (newRecord r { o with count := 65535 }) { o with count := o.count - 65535 }

/-- COALESCE in us (R739). -/
def State.coalesceUs (s : State) : Nat := s.eff Fld.RBK_CFG_COALESCE * 10000

/-- Filing of an occurrence, or of a folded entry, under R739 and R741. -/
def fileOcc (coalUs : Nat) (r : RbkSt) (o : Occ) : RbkSt :=
  match newestOf r.ret.recs o.src with
  | some (i, e) =>
    if e.occ.ty = o.ty ∧ e.occ.code = o.code ∧ o.t0 ≤ e.occ.t1 + coalUs ∧ e.occ.count < 65535 then
      let room := 65535 - e.occ.count
      let took := min room o.count
      let e2 : EvRec := { e with seq := e.seq + 2, occ := { e.occ with count := e.occ.count + took, t1 := o.t1, ats1 := o.ats1 } }
      let r2 := { r with ret := { r.ret with recs := mput r.ret.recs i e2 } }
      if took < o.count then newRecords (o.count / 65535 + 1) r2 { o with count := o.count - took } else r2
    else newRecords (o.count / 65535 + 1) r o
  | none => newRecords (o.count / 65535 + 1) r o

/-- An arrival during a record write (R740): it counts in the coalesce register of its SOURCE, or displaces that register's
content to the FIFO's tail; with 8 entries there the content is lost and counted in DROPPED. The Bool says that content was
lost. -/
def coalesce (r : RbkSt) (o : Occ) : RbkSt × Bool :=
  match mfind r.coal o.src with
  | none => ({ r with coal := mput r.coal o.src o }, false)
  | some c =>
    if c.ty = o.ty ∧ c.code = o.code then
      ({ r with coal := mput r.coal o.src { c with count := satAdd 32 c.count o.count, t1 := o.t1, ats1 := o.ats1 } }, false)
    else if r.fifo.length < 8 then
      ({ r with coal := mput r.coal o.src o, fifo := r.fifo ++ [c] }, false)
    else
      ({ r with coal := mput r.coal o.src o, ret := { r.ret with dropped := satAdd 32 r.ret.dropped c.count } }, true)

/-- The event-record region is held: a record write (R740) or a snapshot of the region (R732). -/
def State.recHeld (s : State) : Bool := s.rbk.recw || s.rbk.snap == some 2

/-- An occurrence goes to the ring, or to the coalesce registers while the region is held; a loss raises RBK_EV_DROP, which
is itself an occurrence (SOURCE 29, CODE 2). -/
def State.recordOcc (s : State) (o : Occ) : State :=
  if s.recHeld then
    match coalesce s.rbk o with
    | (r, false) => { s with rbk := r }
    | (r, true) =>
      let s1 := { s with rbk := r }.putb Fld.RBK_EV_DROP true
      { s1 with rbk := (coalesce s1.rbk (s1.occNow 2 29 2 (s1.view (statAddr 29)) 0 0 0)).1 }
  else { s with rbk := fileOcc s.coalesceUs s.rbk o }

/-- The image of the flush in progress (R742), complete or not. -/
def State.imageOf (s : State) (f : Flush) (complete : Bool) (regions : Nat) : RbkImage :=
  { seq := s.rbk.imgSeq, complete := complete, regions := regions, cause := f.cause, v1 := s.flag Fld.SYS_COMPAT_GEN7,
    content := { s.rbk.ret with recs := f.recs.getD s.rbk.ret.recs } }

/-- A flush begins in the next slot in rotation (R742, R743); the event-record region is held from its start until the fold
(log 12). -/
def State.beginFlush (s : State) (cause : Nat) : State :=
  let s1 : State := { s with rbk := { s.rbk with
    flush := some { cause := cause, crit := cause == 1, recs := none }, recw := true,
    imgSlot := (s.rbk.imgSlot + 1) % max 1 (s.eff Fld.RBK_FLASH_SLOTS), imgSeq := s.rbk.imgSeq + 1 } }
  s1.putb Fld.RBK_CTL_FLUSH false

/-- A flush trigger (R743): a flush starts, or one more follows the flush in progress. A RETRACT trigger abandons the flush in
progress (R744). -/
def State.startFlush (s : State) (cause : Nat) : State :=
  match s.rbk.flush with
  | none => s.beginFlush cause
  | some f =>
    if cause = 1 then
      ({ s with rbk := { s.rbk with images := mput s.rbk.images s.rbk.imgSlot (s.imageOf f false 0) } }).beginFlush 1
    else { s with rbk := { s.rbk with again := some (s.rbk.again.getD cause) } }

/-- An occurrence of a block: it is recorded, and a fault triggers a flush (R743). -/
def State.occur (s : State) (ty src code : Nat) : State :=
  let s1 := s.recordOcc (s.occNow ty src code (s.view (statAddr src)) 0 0 0)
  if ty = 1 then s1.startFlush 0 else s1

/-- The bit of BLOCK_EVT is a fault: its EVTEN position reads 1 at reset (R74). -/
def isFault (f : Field) : Bool := (regReset (f.addr + 4)).getLsbD f.lo

/-- Raising an event or fault bit (R75): the bit is latched, enabled or not, and the occurrence recorded (R737). -/
def State.raise (s : State) (f : Field) : State :=
  (s.putb f true).occur (if isFault f then 1 else 2) (sourceOf f.addr) f.lo

/-- An update of a counter of area 0 (R736); a 64-bit counter wraps. -/
def ctrApply (r : Retained) (i n : Nat) : Retained :=
  { r with ctrSeq := r.ctrSeq + 2, ctrs := mset (fun _ => 0) r.ctrs i ((mget (fun _ => 0) r.ctrs i + n) % 2 ^ 64) }

/-- An empty histogram area. -/
def HistArea.zero : HistArea := { seq := 0, count := 0, sum := 0, bins := [] }

/-- A sample of a histogram (R733) and its extremes (R735). -/
def histApply (s : State) (r : Retained) (id bin : Nat) (sample : Int) (ctx : Nat) : Retained :=
  let h := mget (fun _ => HistArea.zero) r.hists id
  let h2 : HistArea :=
    { seq := h.seq + 2, count := h.count + 1, sum := h.sum + sample,
      bins := mset (fun _ => 0) h.bins bin (satAdd 32 (mget (fun _ => 0) h.bins bin) 1) }
  let e := mget (fun _ => ({ seq := 0, least := none, most := none } : ExtArea)) r.exts id
  let v : ExtVal := { val := sample, ats := s.ang.ats, us := s.us, mode := s.get Fld.SYS_MODE_MODE, ctx := ctx }
  let least := match e.least with
    | none => some v
    | some o => if sample < o.val then some v else some o
  let most := match e.most with
    | none => some v
    | some o => if o.val < sample then some v else some o
  { r with hists := mput r.hists id h2, exts := mput r.exts id { seq := e.seq + 2, least := least, most := most } }

/-- A counter update, which waits while a snapshot copies the counters region (R732). -/
def State.count (s : State) (i n : Nat) : State :=
  if s.rbk.snap == some 1 then { s with rbk := { s.rbk with waiting := s.rbk.waiting ++ [.ctr i n] } }
  else { s with rbk := { s.rbk with ret := ctrApply s.rbk.ret i n } }

/-- A histogram sample, which waits while a snapshot copies the histograms or extremes region (R732). -/
def State.sample (s : State) (id bin : Nat) (v : Int) (ctx : Nat) : State :=
  if s.rbk.snap == some 3 || s.rbk.snap == some 4 then
    { s with rbk := { s.rbk with waiting := s.rbk.waiting ++ [.hist id bin v ctx] } }
  else { s with rbk := { s.rbk with ret := histApply s s.rbk.ret id bin v ctx } }

/-- The bin of a sample (R733): below the first bin the first, beyond the last the last. -/
def binOf (bins : Nat) (lo width v : Int) : Nat :=
  if v < lo then 0 else min (bins - 1) ((v - lo) / width).toNat

/-- The updates that waited for the end of a snapshot, applied in order (R732). -/
def State.applyWaiting (s : State) : State :=
  let r := s.rbk.waiting.foldl (fun r u =>
    match u with
    | .hist id bin v ctx => histApply s r id bin v ctx
    | .ctr i n => ctrApply r i n) s.rbk.ret
  { s with rbk := { s.rbk with ret := r, waiting := [] } }

/-- The fold after a record write (R741): the FIFO from head to tail, then the coalesce registers in ascending SOURCE
order, each filed under R739. -/
def State.fold (s : State) : State :=
  let r0 := { s.rbk with recw := false, fifo := [], coal := [] }
  let r1 := s.rbk.fifo.foldl (fileOcc s.coalesceUs) r0
  { s with rbk := (s.rbk.coal.map (fun e => e.2)).foldl (fileOcc s.coalesceUs) r1 }

end Sys2Proof.Machine
end

