-- ==== Sys2Proof/Machine/MemOps.lean ====
section
/-!
DEFINITION. Memory accesses: the general SRAM (R554), the DRAM behind its Reed-Solomon code (R535 to R543), and the tracker of
repeated corrections (R547 to R550).
-/
namespace Sys2Proof.Machine

/-- The canonical form of the memories: SRAM words and DRAM code words by rising number, each at most once (log 32). -/
def Memory.wf (m : MemSt) : Bool := mrising 0 m.sram && mrising 0 m.dram

/-- An uncorrectable SRAM word was read (R554). -/
def State.sramUe (s : State) (region : Nat) : State :=
  ((s.bump Fld.MEM_SRAMERR_UE 1).put Fld.MEM_SRAMERR_REGION region).raise Fld.MEM_FLT_SRAMUE

/-- An SRAM word as delivered, whether it is uncorrectable, and the state after (R554, R540): a word that was never written is
undefined, and may be uncorrectable or corrected. -/
def State.sramRead (s : State) (addr : Nat) : (Word × Bool) × State :=
  match mfind s.mem.sram (addr / 4) with
  | some (some w) => ((w, false), s)
  | some none =>
    let (v, s1) := s.free
    ((BitVec.ofNat 32 v.toNat, true), s1.sramUe 0)
  | none =>
    let (v, s1) := s.free
    if v.getLsbD 32 then ((BitVec.ofNat 32 v.toNat, true), s1.sramUe 0)
    else ((BitVec.ofNat 32 v.toNat, false), if v.getLsbD 33 then s1.bump Fld.MEM_SRAMERR_CE 1 else s1)

/-- An SRAM word put back as it was held before (R221, R252). -/
def State.sramBack (s : State) (addr : Nat) (old : Option (Option Word)) : State :=
  { s with mem := { s.mem with sram := match old with
    | some c => mput s.mem.sram (addr / 4) c
    | none => mdel s.mem.sram (addr / 4) } }

/-- An SRAM word as delivered; outside the SRAM a free value (log 30). -/
def State.sramWord (s : State) (addr : Nat) : Word × State :=
  if inSram addr then ((s.sramRead addr).1.1, (s.sramRead addr).2)
  else
    let (v, s1) := s.free
    (BitVec.ofNat 32 v.toNat, s1)

/-- An SRAM word written; nothing outside the SRAM. -/
def State.sramPut (s : State) (addr : Nat) (v : Word) : State :=
  if inSram addr then { s with mem := { s.mem with sram := mput s.mem.sram (addr / 4) (some v) } } else s

/-- Multiplication by the root of the field polynomial of R535. -/
def gfDouble (a : Nat) : Nat := if a < 128 then 2 * a else (2 * a) ^^^ 0x11D

/-- Multiplication by a power of the root. -/
def gfShift (a : Nat) : Nat → Nat
  | 0 => a
  | n + 1 => gfDouble (gfShift a n)

/-- Division by 1 + the root (R535), by the inverse's power: (1 + a)^-1. -/
def gfDivCheck (a : Nat) : Nat := (List.range 256).foldl (fun r k => if (gfDouble k ^^^ k) = a then k else r) 0

/-- Symbol i of a code word: byte i. -/
def sym (cw : Nat) (i : Nat) : Nat := nbits cw (8 * i) 8

/-- The syndromes of a code word (R535): its values at 1 and at the root. -/
def syndromes (cw : Nat) : Nat × Nat :=
  (List.range 10).foldl (fun p i => (p.1 ^^^ sym cw i, gfDouble p.2 ^^^ sym cw i)) (0, 0)

/-- The check symbols of 8 data bytes (R535): the code word with both syndromes 0. -/
def encodeWord (data : BitVec 64) : BitVec 80 :=
  let d := data.toNat
  let (s0, s1) := syndromes d
  -- the check symbols c8, c9 satisfy c8 + c9 = s0 and root * c8 + c9 = s1
  let c8 := gfDivCheck (s0 ^^^ s1)
  let c9 := s0 ^^^ c8
  BitVec.ofNat 80 (d + c8 * 2 ^ 64 + c9 * 2 ^ 72)

/-- The outcome of a decode (R537). -/
inductive Decode where
  | clean (d : BitVec 64)
  | fixed (d : BitVec 64) (symbol : Nat) (cw : BitVec 80)
  | bad (d : BitVec 64)
deriving DecidableEq, Repr

/-- The decode of a code word (R535, R537): symbol i is the coefficient of x^(9 - i). -/
def decodeWord (cw : BitVec 80) : Decode :=
  let n := cw.toNat
  let (s0, s1) := syndromes n
  if s0 = 0 ∧ s1 = 0 then .clean (BitVec.ofNat 64 n)
  else
    match (List.range 10).find? (fun i => s0 != 0 && gfShift s0 (9 - i) == s1) with
    | some i =>
      let f := n ^^^ (s0 * 2 ^ (8 * i))
      .fixed (BitVec.ofNat 64 f) i (BitVec.ofNat 80 f)
    | none => .bad (BitVec.ofNat 64 n)

/-- A tracker entry as a register shows it. -/
def State.cetAt (s : State) (i : Nat) : Option (Nat × (Nat × Nat)) := mfind s.mem.cet i

/-- One correction tracked (R548, R549): the entry of its address counts, a free entry is filled, or the lowest count is
replaced. -/
def State.track (s : State) (addr symb : Nat) : State :=
  let th := s.eff Fld.MEM_CETCTL_THRESH
  match (List.range 32).find? (fun i => match mfind s.mem.cet i with | some e => e.1 == addr | none => false) with
  | some i =>
    let n := match mfind s.mem.cet i with
      | some e => satAdd 8 e.2.1 1
      | none => 1
    let old := match mfind s.mem.cet i with
      | some e => e.2.1
      | none => 0
    let s1 := { s with mem := { s.mem with cet := mput s.mem.cet i (addr, (n, symb)) } }
    if n = th ∧ old ≠ n then s1.raise Fld.MEM_EV_CEREPEAT else s1
  | none =>
    match (List.range 32).find? (fun i => (mfind s.mem.cet i).isNone) with
    | some i => 
      let s1 := { s with mem := { s.mem with cet := mput s.mem.cet i (addr, (1, symb)) } }
      if th = 1 then s1.raise Fld.MEM_EV_CEREPEAT else s1
    | none =>
      let low := (List.range 32).foldl (fun b i =>
        match mfind s.mem.cet i, mfind s.mem.cet b with
        | some e, some f => if e.2.1 < f.2.1 then i else b
        | _, _ => b) 0
      ({ s with mem := { s.mem with cet := mput s.mem.cet low (addr, (1, symb)) } }).bump Fld.MEM_CETCTL_CET_OVF 1

/-- A corrected read (R537, R547, R550): counted, and queued for the tracker unless its 16 entries are taken. -/
def State.memCe (s : State) (addr symb : Nat) : State :=
  let s1 := (s.bump Fld.MEM_CNT_CE 1).raise Fld.MEM_EV_CE
  if s1.mem.queue.length < 16 then { s1 with mem := { s1.mem with queue := s1.mem.queue ++ [(addr, symb)] } }
  else s1.bump Fld.MEM_CETCTL_CET_OVF 1

/-- An uncorrectable read (R543). -/
def State.memUe (s : State) (init addr : Nat) : State :=
  let s1 := s.bump Fld.MEM_CNT_UE 1
  let s2 := if s1.flag Fld.MEM_UEINFO_VALID then s1.putb Fld.MEM_UEINFO_OVF true
    else ((s1.wr Reg.MEM_UEADDR (BitVec.ofNat 32 addr)).put Fld.MEM_UEINFO_INIT init).putb Fld.MEM_UEINFO_VALID true
  s2.raise Fld.MEM_EV_UE

/-- A code word as it stands in memory: what was written, or a free one (R540). -/
def State.dramCell (s : State) (addr : Nat) : DramCell × State :=
  match mfind s.mem.dram addr with
  | some c => (c, s)
  | none =>
    let (a, s1) := s.free
    let (b, s2) := s1.free
    (.word (BitVec.ofNat 80 (a.toNat + b.toNat % 2 ^ 16 * 2 ^ 64)), s2)

/-- A read of the 8 bytes at code word addr by an initiator of R543: the data, poisoned or not, and the state after. -/
def State.dramRead (s : State) (init addr : Nat) : (BitVec 64 × Bool) × State :=
  match s.dramCell addr with
  | (.poison d, s1) => ((d, true), s1.memUe init addr)
  | (.word cw, s1) =>
    match decodeWord cw with
    | .clean d => ((d, false), s1)
    | .fixed d k _ => ((d, false), s1.memCe addr k)
    | .bad d => ((d, true), s1.memUe init addr)

/-- A code word stored. -/
def State.dramSet (s : State) (addr : Nat) (c : DramCell) : State := { s with mem := { s.mem with dram := mput s.mem.dram addr c } }

/-- A full 8-byte write (R541). -/
def State.dramPut (s : State) (addr : Nat) (d : BitVec 64) : State := s.dramSet addr (.word (encodeWord d))

/-- A write of the bytes of a mask within one code word (R541): a read-modify-write, poisoned when the read is
uncorrectable. -/
def State.dramMerge (s : State) (init addr : Nat) (d mask : BitVec 64) : State :=
  if mask = BitVec.allOnes 64 then s.dramPut addr d
  else
    let ((old, bad), s1) := s.dramRead init addr
    let v := (old &&& ~~~mask) ||| (d &&& mask)
    if bad then s1.dramSet addr (.poison v) else s1.dramPut addr v

/-- The capacity of installed DRAM in bytes (R526, MEM_STAT.SIZE). Before training SIZE reads 0, and no DRAM is installed as far as R56 is
concerned (DESIGN CHOICE, log 91). -/
def State.dramBytes (s : State) : Nat := s.get Fld.MEM_STAT_SIZE * 2 ^ 30

/-- The DRAM's place in the address map (R56). -/
def dramBase : Nat := 0x100000000

/-- The word of memory that holds an address of R56 (4 bytes of SRAM, 8 of DRAM): its bytes, poisoned or not, its first address;
none outside SRAM and DRAM. -/
def State.chunkAt (s : State) (init addr : Nat) : Option ((List Byte × Bool × Nat) × State) :=
  if 0x20000000 ≤ addr ∧ addr < 0x20800000 then
    let ((w, bad), s1) := s.sramRead (addr / 4 * 4)
    some ((leBytes 4 w.toNat, bad, addr / 4 * 4), s1)
  else if dramBase ≤ addr ∧ addr < dramBase + s.dramBytes then
    let ((d, bad), s1) := s.dramRead init ((addr - dramBase) / 8)
    some ((leBytes 8 d.toNat, bad, addr / 8 * 8), s1)
  else none

/-- n bytes from an address, word by word: those up to the first poisoned or absent word, and whether all were read. The first
argument bounds the words. -/
def State.bytesGo (init : Nat) : Nat → Nat → Nat → State → (List Byte × Bool) × State
  | 0, _, _, s => (([], true), s)
  | f + 1, n, a, s =>
    if n = 0 then (([], true), s)
    else
      match s.chunkAt init a with
      | none => (([], false), s)
      | some ((b, bad, base), s1) =>
        if bad then (([], false), s1)
        else
          let got := (b.drop (a - base)).take n
          let ((l, ok), s2) := State.bytesGo init f (n - got.length) (a + got.length) s1
          ((got ++ l, ok), s2)

/-- n bytes from an address (R541, R542). -/
def State.bytesAt (init n a : Nat) (s : State) : (List Byte × Bool) × State := State.bytesGo init n n a s

/-- Bytes within one SRAM word stored: a partial write merges with the word. -/
def State.sramMerge (s : State) (addr : Nat) (bytes : List Byte) : State :=
  let a := addr / 4 * 4
  if bytes.length = 4 ∧ addr = a then s.sramPut a (BitVec.ofNat 32 (leNat bytes))
  else
    let v := leNat bytes * 2 ^ (8 * (addr - a))
    let mask := (2 ^ (8 * bytes.length) - 1) * 2 ^ (8 * (addr - a))
    let ((w, bad), s1) := s.sramRead a
    if bad then { s1 with mem := { s1.mem with sram := mput s1.mem.sram (a / 4) none } }
    else s1.sramPut a (merge w (BitVec.ofNat 32 v) (BitVec.ofNat 32 mask))

/-- Bytes stored from an address on, word by word; nothing outside SRAM and DRAM. The first argument bounds the words. -/
def State.putGo (init : Nat) : Nat → List Byte → Nat → State → State
  | 0, _, _, s => s
  | f + 1, l, a, s =>
    if l.isEmpty then s
    else if 0x20000000 ≤ a ∧ a < 0x20800000 then
      let now_ := l.take (4 - a % 4)
      State.putGo init f (l.drop (4 - a % 4)) (a + now_.length) (s.sramMerge a now_)
    else
      let now_ := l.take (8 - a % 8)
      let s1 := if dramBase ≤ a ∧ a < dramBase + s.dramBytes then
          let sh := 2 ^ (8 * (a % 8))
          s.dramMerge init ((a - dramBase) / 8) (BitVec.ofNat 64 (leNat now_ * sh))
            (BitVec.ofNat 64 ((2 ^ (8 * now_.length) - 1) * sh))
        else s
      State.putGo init f (l.drop (8 - a % 8)) (a + now_.length) s1

/-- Bytes stored from an address on (R541). -/
def State.bytesPut (init : Nat) (l : List Byte) (a : Nat) (s : State) : State := State.putGo init l.length l a s

/-- One byte of memory stored. -/
def State.bytePut (s : State) (init addr : Nat) (v : Byte) : State := State.bytesPut init [v] addr s

/-- Every byte of a range lies in SRAM or in installed DRAM (R56). -/
def State.inMem (s : State) (addr n : Nat) : Bool :=
  (decide (0x20000000 ≤ addr) && decide (addr + n ≤ 0x20800000))
    || (decide (dramBase ≤ addr) && decide (addr + n ≤ dramBase + s.dramBytes))

end Sys2Proof.Machine
end

