-- ==== Sys2Proof/Machine/MediaOps.lean ====
section
/-!
DEFINITION. Shared operations of the media side: channels and their failure records (R272 to R306), hard stops and torn records
(R309 to R341), lasers and heaters (R317 to R325).
-/
namespace Sys2Proof.Machine

/-- A microcode read waits on an actuator's preamplifier link. -/
def State.plkReading (s : State) (x : Act) : Bool :=
  match (s.msq x).micro.stall with
  | some (.plkr ..) => true
  | _ => false

/-- ANG_BPRn written by microcode (R106, R108): a non-zero value that gives a clock out of range raises ANG_EV_BCLKRNG. -/
def State.setBpr (s : State) (n : Chan) (v : Word) : State :=
  let s1 := s.wr (Reg.ANG_BPR n.val) v
  if v != 0 && !bclkRange (bitClock v.toNat (s.rd Reg.ANG_SPEED).toNat) then s1.raise Fld.ANG_EV_BCLKRNG else s1

/-- A torn record pushed (R338): the queue holds 8; MSQx_SQCNT counts the sectors marked torn. -/
def State.pushTorn (s0 : State) (x : Act) (r : Rec4) : State :=
  let s := s0.bump (Fld.MSQ_SQCNT_TORN x) 1
  let w := s.wrp x
  if w.torn.length < 8 then (s.setWrp x { w with torn := w.torn ++ [r] }).raise (Fld.WRP_EV_TORN x)
  else s.raise (Fld.WRP_EV_TORNOVF x)

/-- The torn record of a sector whose write gate is cut now (R336 to R339). `cause` is the trip's triggers, 0 for a hard stop;
`neg` says that the PES that tripped it was negative. -/
def State.tornRec (s : State) (x : Act) (second : Bool) (cause : Nat) (neg : Bool) (r : MediaRun) (i : Nat) : Rec4 :=
  let p := (s.msq x).pos second
  let sh := s.shingled x second
  let vreq := sh && (cause == 0 || cause &&& 0xFE != 0 || neg)
  let spt := max 1 (s.spt x second)
  let lba := (r.seed second).lba + r.before second i
  let frac := min 255 (s.bitsPassed x second i * 256 / (s.chSetFor (chanOf x second) i).bits)
  { w0 := BitVec.ofNat 32 (cause * 2 ^ 24 + (p.head.getD 0) * 2 ^ 20 + ((r.sec second + i) % spt) * 2 ^ 8 + b2n sh * 128
      + b2n vreq * 64 + b2n neg * 32 + 1),
    w1 := BitVec.ofNat 32 (p.target.getD 0),
    w2 := BitVec.ofNat 32 lba,
    w3 := BitVec.ofNat 32 ((r.seed second).gen * 2 ^ 16 + frac * 2 ^ 8 + lba / 2 ^ 32 % 8) }

/-- The sectors whose write gate is high are torn (R336). -/
def State.tear (s : State) (x : Act) (cause : Nat) (neg : Bool) : State :=
  let one (second : Bool) (t : State) : State :=
    if t.wgOpen x second then
      match (t.msq x).mediaOn second with
      | some r =>
        match t.placeNow x second r with
        | some i => t.pushTorn x (t.tornRec x second cause neg r i)
        | none => t
      | none => t
    else t
  one true (one false s)

/-- Every gate of an actuator forced low: micro-op gates are dropped, and channels that write stop (R337). -/
def State.gatesLow (s : State) (x : Act) : State :=
  let w := s.wrp x
  s.setWrp x { w with gates := [] }

/-- A hard stop of R337: torn records with CAUSE 0, then the gates low. -/
def State.hardStop (s : State) (x : Act) : State := (s.tear x 0 false).gatesLow x

/-! ### Channels -/

/-- The media items of a channel that have begun, in program order, and are still in the work list. -/
def Msq.begunOn (m : Msq) (second : Bool) : List Work :=
  m.work.filter (fun w => w.begun && (match w.kind with | .media r => inMask r.chs second | _ => false))

/-- The ordinal of a channel's last committed media instruction: those of the work list are not committed. -/
def State.committedTo (s : State) (n : Chan) : Nat := (s.ch n).items - ((s.msq (actOf n)).begunOn (isSecond n)).length

/-- A channel abandons its operation (R213 step 3, R291): re-detection requests, staged records and contributions are
dropped. Decoded sectors of committed instructions, those up to an ordinal, still go to their lane (R52, R206). -/
def ChanSt.abandon (c : ChanSt) (upto : Nat) : ChanSt :=
  { c with
    op := 0, place := 0, cur := [], lat := none, ring := c.ring.map (fun p => { p with item := 0 }), wsecs := [], items := 0, ended := 0,
    flags := [], redet := [], staged := [], go := none, contrib := [],
    out := (c.out.filter (fun e => decide (e.item ≤ upto))).map (fun e => { e with item := 0 }) }

/-- Both channels of an actuator abandon their operations. -/
def State.abandonChannels (s : State) (x : Act) : State :=
  let n0 := chanOf x false
  let n1 := chanOf x true
  let s1 := s.setCh n0 ((s.ch n0).abandon (s.committedTo n0))
  s1.setCh n1 ((s1.ch n1).abandon (s.committedTo n1))

/-- CHn_STAT.OP of a media operation. -/
def MediaOp.code : MediaOp → Nat
  | .read => 1
  | .verify => 1
  | .write => 2
  | .eraseb => 2
  | .scan => 3

/-- The first place of a run that is not suppressed, from place i on. -/
def MediaRun.nextPlace (r : MediaRun) (second : Bool) (i : Nat) : Nat :=
  match (List.range r.count).find? (fun j => decide (i ≤ j) && !r.isSkipped second j) with
  | some j => j
  | none => r.count

/-- The taps that a media instruction loads from its head's presets (R222, R326 word 10). -/
def State.loadTaps (s : State) (n : Chan) (addr : Nat) : State :=
  if inSram addr && inSram (addr + 508) then
    let t := (List.range 128).foldl (fun m k => mset (fun _ => (0 : Word)) m k (s.peek (addr + 4 * k) &&& 0x3FF#32)) []
    s.setCh n { s.ch n with taps := t }
  else s

/-- A waveform parameter of a head goes to the preamplifier where it differs from the value last written (R312). -/
def State.waveform (s : State) (x : Act) (addr : Nat) (v : Nat) : State :=
  let p := s.plk x
  if mfind p.wf (addr % 128) = some (BitVec.ofNat 32 v) then s
  else s.setPlk x { p with repeated := false, wf := mput p.wf (addr % 128) (BitVec.ofNat 32 v) }

/-- The waveform parameters of a head at the start of a WRITE (R312, R326 word 0): IW, OSA and OSD in write frames. -/
def State.waveforms (s : State) (x : Act) (h : Nat) : State :=
  let w := s.ptWord x h 0
  ((s.waveform x (s.get (Fld.PLK_WFADDR_IWADDR x) + h) (wfield w 0 7)).waveform x (s.get (Fld.PLK_WFADDR_OSAADDR x) + h) (wfield w 8 6)).waveform
    x (s.get (Fld.PLK_WFADDR_OSDADDR x) + h) (wfield w 16 4)

/-- One channel begins a media operation (R162, R222, R271, R312): its zone's format and clock and its head's presets are loaded, a
WRITE's waveform is sent, and its first position is the start sector's first pass beyond the lead after it was ready. -/
def State.channelBegin1 (s : State) (x : Act) (second : Bool) (r : MediaRun) (ready : Nat) : State :=
  let n := chanOf x second
  let p := (s.msq x).pos second
  match p.head with
  | none => s
  | some h =>
    let w2 := s.chZoneWord x second 2
    let s1 := (s.put (Fld.CH_CFG_RATE n) (wfield w2 26 2))
    let s2 := if wfield w2 28 2 = 3 then s1 else s1.put (Fld.CH_CFG_PI n) (wfield w2 28 2)
    let s3 := ((s2.wr (Reg.CH_SYNC n) (s.chZoneWord x second 7)).wr (Reg.CH_SMPAT n) (s.chZoneWord x second 8)).setBpr n
      (s.chZoneWord x second 3)
    let s4 := ((s3.wr (Reg.CH_TARGET n) (s.ptWord x h 8)).wr (Reg.CH_FE n) (s.ptWord x h 9)).loadTaps n (s.ptWord x h 10).toNat
    let s5 := if r.op == .write then s4.waveforms x h else s4
    let c := s5.ch n
    s5.setCh n { c with
      op := r.op.code, startAts := s.runStart x second r ready, place := r.nextPlace second 0, lat := none, wsecs := [],
      items := c.items + 1, flags := mput c.flags (c.items + 1) (if r.active second < r.count then 2 else 0) }

/-- The sector at place i of a channel's run, with the settings it starts with (R271, R353). -/
def State.sectorAt (s : State) (n : Chan) (item : Nat) (r : MediaRun) (i : Nat) : Sec :=
  let second := isSecond n
  let seed := r.seed second
  { item := item, ctx := r.ctx, read := r.op == .read, sector := (r.sec second + i) % max 1 (s.spt (actOf n) second), place := i,
    spos := r.buf second + r.before second i, lba := (seed.lba + r.before second i) % 2 ^ 35, gen := seed.gen,
    set := s.chSetFor n i, clk := s.bclkOk n, sync := none, others := [] }

/-- A media operation begins on its channels. -/
def State.channelBegin (s : State) (x : Act) (r : MediaRun) (ready : Nat) : State :=
  let s1 := if inMask r.chs false then s.channelBegin1 x false r ready else s
  if inMask r.chs true then s1.channelBegin1 x true r ready else s1

/-- The media flags FAIL, SKIP, REDET, TAGERR as bits (R113, R144). -/
def flagFail : Nat := 1
def flagSkip : Nat := 2
def flagRedet : Nat := 4
def flagTagerr : Nat := 8

/-- A stream position marked failed (R168). -/
def State.markBad (s : State) (ctx p : Nat) : State :=
  match s.resvOf ctx with
  | some r => s.setResv { r with
      bad := if r.bad.contains p then r.bad else r.bad ++ [p],
      filled := if r.filled.contains p then r.filled else r.filled ++ [p] }
  | none => s

/-- A failure record's words (R308). -/
def failWords (reason head sector ctx lba gen swt spos iter slot smofs : Nat) : Rec4 :=
  { w0 := BitVec.ofNat 32 (reason * 2 ^ 28 + head * 2 ^ 24 + sector % 2 ^ 12 * 2 ^ 12 + ctx % 2 ^ 10),
    w1 := BitVec.ofNat 32 lba,
    w2 := BitVec.ofNat 32 (gen % 2 ^ 16 * 2 ^ 16 + min swt 8191 * 8 + lba / 2 ^ 32 % 8),
    w3 := BitVec.ofNat 32 (spos % 2 ^ 12 * 2 ^ 20 + min iter 127 * 2 ^ 13 + slot % 16 * 2 ^ 9 + smofs % 256) }

/-- The sync offset as CHn_FREC3 shows it: 0x80 when the sync was missed. -/
def smofsOf (sync : Option (Int × Nat)) : Nat :=
  match sync with
  | some (d, _) => unsgn 8 d
  | none => 0x80

/-- Media flags of an instruction of a channel set (R113). -/
def ChanSt.flag (c : ChanSt) (item fl : Nat) : ChanSt := { c with flags := mput c.flags item ((mfind c.flags item).getD 0 ||| fl) }

/-- A sector fails (R168, R303, R306): counted, its position marked failed, its record staged, the flags set. -/
def State.sectorFail (s : State) (n : Chan) (item : Nat) (sec : Sec) (reason swt iter : Nat) : State :=
  let m := s.msq (actOf n)
  let slot := m.running.getD 0
  let head := (m.pos (isSecond n)).head.getD 0
  let fl := if reason = 4 then flagFail + flagTagerr else flagFail
  let c := s.ch n
  let rec4 := failWords reason head sec.sector sec.ctx sec.lba sec.gen swt sec.spos iter slot (smofsOf sec.sync)
  let c1 : ChanSt := { c.flag item fl with
    staged := c.staged ++ [{ item := item, place := sec.place, r := rec4 }],
    contrib := c.contrib ++ [(item, .hist (28 + n.val) 16)] }
  let s1 := (s.bump (Fld.CH_CNTF_FAIL n) 1).setCh n c1
  let s2 := if reason = 7 then s1.bump (Fld.CH_CNTF_BUSY n) 1 else s1
  if sec.read = true then s2.markBad sec.ctx sec.spos else s2

/-- A 64-bit counter of a LAT/LATH pair increased by 1. -/
def State.bump64 (s : State) (lo hi : Nat) : State :=
  let v := (s.rd lo).toNat + (s.rd hi).toNat * 2 ^ 32 + 1
  (s.wr lo (BitVec.ofNat 32 v)).wr hi (BitVec.ofNat 32 (v / 2 ^ 32))

/-- A sector is decoded (R289, R290): counted, and passed to CPH for a READ; SECTORS counts, and `fl` joins the flags. -/
def State.sectorDeliver (s : State) (n : Chan) (item : Nat) (sec : Sec) (iter fl : Nat) : State :=
  let c := s.ch n
  let c1 : ChanSt := { c.flag item fl with
    contrib := c.contrib ++ [(item, .hist (28 + n.val) iter), (item, .ctr 4 1)],
    out := if sec.read then
        c.out ++ [{ item := item, ctx := sec.ctx, spos := sec.spos, lba := sec.lba, pi := wfield sec.set.cfg 28 2 }] else c.out }
  (s.setCh n c1).bump64 (Reg.CH_SECTORS n) (Reg.CH_SECTORSH n)

/-- A sector that qualifies goes to the re-detection engine, or fails with BUSY when two wait already (R286). -/
def State.toRedet (s : State) (n : Chan) (item : Nat) (sec : Sec) (reason : Nat) (swt iter : Nat) : State :=
  let c := s.ch n
  if c.redet.length < 3 then s.setCh n { c with redet := c.redet ++ [{ sec := sec, reason := reason, item := item }] }
  else s.sectorFail n item sec 7 swt iter

/-- Staged records and contributions of committed instructions come first: those of an ordinal up to `upto`. -/
def insertRec (r : StagedRec) : List StagedRec → List StagedRec
  | [] => [r]
  | q :: t => if r.item < q.item ∨ (r.item = q.item ∧ r.place < q.place) then r :: q :: t else q :: insertRec r t

/-- A failure record committed (R303, R304). -/
def State.commitRec (n : Chan) (s : State) (r : Rec4) : State :=
  let c := s.ch n
  if c.frec.length < 32 then s.setCh n { c with frec := c.frec ++ [r] }
  else (s.bump (Fld.CH_CNTF_DROP n) 1).raise (Fld.CH_EV_FRECOVF n)

/-- The bin of a sample of a histogram (R733): PES in 1/4,096 pitch, times in us, iterations, 1/4,096 of full scale, mV, 1/16 C,
shock eighths, bands and codes. -/
def histBin (id : Nat) (v : Int) : Nat :=
  if id ≤ 23 then binOf 32 (-1024) 64 v
  else if id ≤ 25 then binOf 32 0 500 v
  else if id ≤ 27 then binOf 32 0 20 v
  else if id ≤ 31 then binOf 16 1 1 v
  else if id ≤ 79 then binOf 32 0 128 v
  else if id = 80 then binOf 32 4000 500 v
  else if id = 81 then binOf 32 (-320) 80 v
  else binOf 16 0 1 v

/-- A staged contribution applied (R734). -/
def State.applyContrib (ctx : Nat) (s : State) : Contrib → State
  | .hist id v => if id ≤ 86 then s.sample id (histBin id v) v ctx else s
  | .ctr i k => s.count i k

/-- A channel's part of a commit (R303, R734): the records and contributions of the instructions before the commit, those that
have left the work list. -/
def State.commitChannel (s : State) (n : Chan) : State :=
  let x := actOf n
  let c := s.ch n
  let upto := s.committedTo n
  let now_ := (c.staged.filter (fun r => decide (r.item ≤ upto))).foldl (fun l r => insertRec r l) []
  let con := c.contrib.filter (fun r => decide (r.1 ≤ upto))
  let s1 := s.setCh n { c with
    staged := c.staged.filter (fun r => decide (upto < r.item)),
    contrib := c.contrib.filter (fun r => decide (upto < r.1)) }
  let s2 := now_.foldl (fun t r => t.commitRec n r.r) s1
  let s3 := if now_.isEmpty then s2 else s2.raise (Fld.CH_EV_FAIL n)
  con.foldl (fun t e => t.applyContrib (t.boundCtx x) e.2) s3

/-- The channels' part of a commit. -/
def State.commitRecords (s : State) (x : Act) : State := (s.commitChannel (chanOf x false)).commitChannel (chanOf x true)

/-- The ordinal, on a channel, of an item with this many begun items of the channel before it. -/
def State.ordOf (s : State) (x : Act) (second : Bool) (before_ : Nat) : Nat :=
  (s.ch (chanOf x second)).items - ((s.msq x).begunOn second).length + before_ + 1

/-- A channel has finished with an instruction (R142, R290): a READ or VERIFY has searched for every position, and nothing of it is
between search and decode or in the engine; a WRITE has passed every position through a lane; and the last gate of any but a READ
or VERIFY has closed. -/
def State.channelQuiet (s : State) (n : Chan) (ord : Nat) (r : MediaRun) : Bool :=
  let c := s.ch n
  if r.op == .read || r.op == .verify then
    c.redet.all (fun q => q.item != ord) && c.cur.all (fun q => q.item != ord) && (decide (ord < c.items) || decide (r.count ≤ c.place))
  else r.laned && s.atsPast (if isSecond n then r.gate1 else r.gate0)

/-- A media instruction ends on a channel (R142): its flags, and the state with the channel idle when it was the last. -/
def State.channelEnd (s : State) (n : Chan) (ord : Nat) (r : MediaRun) : Nat × State :=
  let c := s.ch n
  let c1 : ChanSt := { c with
    op := if ord = c.items then 0 else c.op, ended := ord, flags := mdel c.flags ord,
    contrib := if r.op == .write then c.contrib ++ [(ord, .ctr 5 (r.active (isSecond n)))] else c.contrib }
  ((mfind c.flags ord).getD 0, s.setCh n c1)

/-! ### Lasers and heaters -/

/-- A channel's laser. -/
def WrpSt.las (w : WrpSt) (second : Bool) : LaserSt := if second then w.las1 else w.las0

/-- A channel's laser changed. -/
def WrpSt.setLas (w : WrpSt) (second : Bool) (l : LaserSt) : WrpSt := if second then { w with las1 := l } else { w with las0 := l }

/-- The laser setpoint of a channel's head in 1/4,096 of full scale (R320), never above LIMAX. -/
def State.laserSetp (s : State) (x : Act) (second : Bool) : Nat :=
  let p := (s.msq x).pos second
  match p.head with
  | some h =>
    let w1 := if s.ptOk x h then s.ptWord x h 1 else 0
    let base := match p.setp with
      | some v => v
      | none => wfield w1 0 12
    min (base * (if second then (s.wrp x).lasMul1 else (s.wrp x).lasMul0) / 128) (wfield w1 16 12)
  | none => 0

/-- The bias of a channel's laser (R317, R752): LBIAS with assist enabled, 0 otherwise. FLYING holds it at 0 until a slot starts. -/
def State.laserBias (s : State) (x : Act) (second : Bool) : Nat :=
  let p := (s.msq x).pos second
  match p.head with
  | some h => if p.assist && s.ptOk x h then wfield (s.ptWord x h 2) 0 12 else 0
  | none => 0

/-- The lasers of an actuator at rest take their bias. -/
def State.restLasers (s : State) (x : Act) : State :=
  let one (second : Bool) (t : State) : State :=
    if t.lgOpen x second then t
    else t.setWrp x ((t.wrp x).setLas second { (t.wrp x).las second with cmd := t.laserBias x second, misses := 0, same := 0 })
  one true (one false s)

/-- The heater power of a channel's head (R324, R325): the mode's table value or the OVR value, times the speed multiplier, a
quarter less after contact. -/
def State.heaterPower (s : State) (x : Act) (second : Bool) : Nat :=
  let p := (s.msq x).pos second
  match p.head with
  | some h =>
    let tab := if !s.ptOk x h then (if second then (s.wrp x).htr1 else (s.wrp x).htr0)
      else if p.heat = 1 then wfield (s.ptWord x h 3) 16 12
      else if p.heat = 2 then wfield (s.ptWord x h 4) 0 12
      else wfield (s.ptWord x h 3) 0 12
    let v := (p.hpow.getD tab) * (if second then (s.wrp x).htrMul1 else (s.wrp x).htrMul0) / 128
    let v := min v 4095
    if (s.wrp x).contact.testBit h then v - v / 4 else v
  | none => 0

/-- The heaters of an actuator's bound heads take their powers. -/
def State.setHeaters (s : State) (x : Act) : State :=
  let w := s.wrp x
  s.setWrp x { w with htr0 := s.heaterPower x false, htr1 := s.heaterPower x true }

/-! ### Release conditions -/

/-- PLKx is idle and fault-free (R329). -/
def State.plkReady (s : State) (x : Act) : Bool :=
  !(s.plk x).faulted && !(s.plk x).fltPin && !s.flag (Fld.PLK_REQ_GO x)

end Sys2Proof.Machine
end

