-- ==== Sys2Proof/Machine/LoopOps.lean ====
section
/-!
DEFINITION. Shared operations of the loop engine and the drivers: settle criteria, seeks, retracts, the FAULT latch, the
lowest-output-wins arbiter (R385 to R432, R757, R758).
-/
namespace Sys2Proof.Machine

/-- The criterion counts of the heads of a mask restart (R402). -/
def State.restartCounts (s : State) (x : Act) (mask : Nat) : State :=
  let clr (h : HeadSt) : HeadSt := { h with rd := 0, wr := 0 }
  let l := s.la x
  let l1 := if inMask mask false then l.setHead false (clr l.h0) else l
  s.setLa x (if inMask mask true then l1.setHead true (clr l1.h1) else l1)

/-- The loops' last sample was within its deadline and no simplex hold is in force (R329, LOOP). -/
def State.loopOk (s : State) (x : Act) : Bool := !(s.la x).late && !s.lpe.held

/-- SPN reports BEMF valid for a rotor that turns forward (R444). -/
def State.bemfForward (s : State) : Bool := s.flag Fld.SPN_STAT_BEMFOK && !s.flag Fld.SPN_STAT_DIR

/-- The head on an actuator's first channel is frozen (R417). -/
def State.servoFrozen (s : State) (x : Act) : Bool := (s.la x).h0.frozen

/-- The VCM target: the mean of the targets of the selected heads (R369, R391); none without a target (R370). -/
def State.vcmTarget (s : State) (x : Act) : Option Int :=
  match s.chTarget x false, s.chTarget x true with
  | some a, some b => some ((a + b) / 2)
  | some a, none => some a
  | none, some b => some b
  | none, none => none

/-- The VCM target taken from the sequencer's targets and offsets; the present position without one (R370, R421). -/
def State.lpeReturn (s : State) (x : Act) : State :=
  match s.vcmTarget x with
  | some t => s.setLa x { s.la x with target := t }
  | none => s.setLa x { s.la x with target := (s.la x).p.floor }

/-- A region entered (R391); the integrator is rescaled at the sample that follows (R392). -/
def State.setRegion (s : State) (x : Act) (r : Nat) : State :=
  let s1 := if r = 2 ∧ s.get (lpeRegion x) ≠ 2 then s.setLa x { s.la x with settleAt := s.now, fol := 0 } else s
  s1.put (lpeRegion x) r

/-- LPE accepts a seek (R391). -/
def State.seekNow (s : State) (x : Act) : State :=
  let s1 := s.lpeReturn x
  let e := (s1.la x).target - (s1.la x).p.floor
  (s1.setLa x { s1.la x with seekWait := false }).setRegion x
    (if e.natAbs ≤ s.eff Fld.LPE_REGION_THR_SET then 2 else 1)

/-- A seek command for the heads of a mask: it waits while the actuator coasts or searches (R421) and while UVW holds
(R485). -/
def State.lpeSeek (s : State) (x : Act) (mask : Nat) : State :=
  let s1 := s.restartCounts x mask
  let s2 := s1.setLa x { s1.la x with seekAt := s.now }
  if s.flag (lpeCoast x) || s.flag (lpeSearch x) || s.flag Fld.PWR_STAT_UVHOLD then
    s2.setLa x { s2.la x with seekWait := true }
  else s2.seekNow x

/-- A seek that waits begins when nothing holds it any more. -/
def State.seekRelease (s : State) (x : Act) : State :=
  if (s.la x).seekWait && !s.flag (lpeCoast x) && !s.flag (lpeSearch x) && !s.flag Fld.PWR_STAT_UVHOLD then s.seekNow x else s

/-- An OFFSET for the heads of a mask (R156, R371, R391). -/
def State.lpeOffset (s : State) (x : Act) (mask : Nat) : State :=
  ((s.restartCounts x mask).lpeReturn x).setRegion x (if s.loaded x then 2 else 0)

/-- LOADH begins (R195): the heads move onto the media and are not loaded yet. -/
def State.lpeLoad (s : State) (x : Act) : State := s.setLa x { s.la x with loading := true }

/-- What ends with the heads loaded: LPE_STAT's region, coasting and search read 0 (R391), and a squash that has not
restarted will not (R219). -/
def State.notLoaded (s : State) (x : Act) : State :=
  let s1 := (((s.setLoaded x false).put (lpeRegion x) 0).putb (lpeCoast x) false).putb (lpeSearch x) false
  let m := s1.msq x
  s1.setMsq x { m with unloaded := m.unloaded || m.sqWait }

/-- UNLOADH begins (R195). -/
def State.lpeUnload (s : State) (x : Act) : State :=
  let s1 := s.notLoaded x
  s1.setLa x { s1.la x with unloading := true }

/-- The microactuator outputs of an actuator go to 0 V. -/
def State.uaZero (s : State) (x : Act) : State :=
  let l := s.la x
  let s1 := s.setLa x { l with h0 := { l.h0 with ua := 0 }, h1 := { l.h1 with ua := 0 } }
  s1.put Fld.DRV_STAT_UAON (s1.get Fld.DRV_STAT_UAON &&& (if x = .a then 0xC else 0x3))

/-- A microactuator's output drives (R407, R431, R434, R482): it is enabled, the boost is on and not off for OV3, and no following
error stops it. -/
def State.uaOn (s : State) (n : Chan) : Bool :=
  (s.get Fld.DRV_UACT_EN).testBit n.val && s.flag Fld.DRV_CFG_BOOSTEN && !s.flag Fld.PWR_STAT_OV3 && !(s.get Fld.LPE_FESTAT_UA).testBit n.val

/-- The microactuator outputs that no longer drive go to 0 V (R431, R482). -/
def State.uaDrop (s : State) : State :=
  let off (t : State) (n : Chan) : State :=
    if t.uaOn n then t
    else
      let l := t.la (actOf n)
      (t.setLa (actOf n) (l.setHead (isSecond n) { l.head (isSecond n) with ua := 0 })).put Fld.DRV_STAT_UAON
        (t.get Fld.DRV_STAT_UAON &&& (15 - 2 ^ n.val))
  off (off (off (off s 0) 1) 2) 3

/-- A write of DRV_CFG or DRV_UACT (R431). A boost that is on is in regulation until BOOST_OUT_OF_REGULATION (DESIGN CHOICE, log 99). -/
def State.uaCheck (s : State) : State :=
  s.uaDrop.putb Fld.DRV_STAT_BOOSTOK (s.flag Fld.DRV_CFG_BOOSTEN && !s.flag Fld.PWR_STAT_OV3)

/-- A retract (R422): DRV drives the VCM toward the ramp; the heads count as not loaded; a bridge that is off cannot (R432). -/
def State.retract (s : State) (x : Act) : State :=
  if !s.actOk x then s
  else
    let s1 := (s.notLoaded x).uaZero x
    let s2 := s1.setLa x { s1.la x with loading := false, unloading := false, seekWait := false }
    if s.flag (drvOff x) then s2 else s2.putb (drvRet x) true

/-- A positioning instruction has completed: LOADH leaves the heads loaded (R195), UNLOADH on the ramp; a SEEK's time is sampled
(R733). -/
def State.positionDone (s : State) (x : Act) (k : WorkKind) : State :=
  match k with
  | .loadh =>
    let s1 := (((s.setLa x { s.la x with loading := false, blind := 0 }).setLoaded x true).putb (lpeSearch x) false).setRegion x 2
    (s1.count (2 + x.idx) 1)
  | .unloadh => s.setLa x { s.la x with unloading := false }
  | .seek .. =>
    let us := (s.now - (s.la x).seekAt) / 800
    s.sample (24 + x.idx) (binOf 32 0 500 us) us (s.boundCtx x)
  | .headsel c _ => s.restartCounts x (1 + c)
  | _ => s

/-- An actuator enters FAULT (R758): SYS_FLT_ACT, and DEGLAT while the other actuator is not in FAULT (R751). -/
def State.enterFault (s : State) (x : Act) : State :=
  if s.faulted x || !s.actOk x then s
  else
    let s1 := (s.setFaulted x true).raise Fld.SYS_FLT_ACT
    if s.isSN || s.faulted x.other then s1 else s1.putb Fld.SYS_MODE_DEGLAT true

/-- A VCM bridge switches off (R432): no retract is possible, and the loops of the actuator stop. -/
def State.bridgeDown (s : State) (x : Act) : State :=
  let s1 := ((s.gatesLow x).notLoaded x).uaZero x
  ((s1.setLa x { s1.la x with loading := false, unloading := false, ocPause := false }).putb (drvRet x) false).putb (drvOff x) true

/-- The reason of LPE's last retract of an actuator. -/
def State.retReason (s : State) (x : Act) (r : Nat) : State := s.put (byAct x Fld.LPE_RET_REASONA Fld.LPE_RET_REASONB) r

/-- The actuator is parked: no head loaded, nothing moving it (R757). -/
def State.parked (s : State) (x : Act) : Bool :=
  !s.loaded x && !s.flag (drvRet x) && !(s.la x).loading && !(s.la x).unloading

/-- LOADH may run (R159, R491, R788, R798): parked, spindle at speed, VIN neither low nor unseen, no drive-level hold, no
FAULT. -/
def State.canLoad (s : State) (x : Act) : Bool :=
  s.parked x && !s.faulted x && !s.flag (drvOff x) && s.flag Fld.SPN_STAT_INREG && !s.flag Fld.PWR_STAT_LOWV
    && s.pwr.vinSeen && !s.sys.drvHold

/-- The lowest-output-wins arbiter (R403, R404): the smallest of the demand's magnitude and the limits that apply, the lowest
code among equals; a zero demand gives winner 0. `lims` are (code, limit). -/
def arbiter (demand : Int) (lims : List (Nat × Nat)) : Nat × Int :=
  if demand = 0 then (0, 0)
  else
    let best := lims.foldl (fun b l => if l.2 < b.2 then l else b) (0, demand.natAbs)
    (best.1, if demand < 0 then -(best.2 : Int) else (best.2 : Int))

/-- IRET in the units of a VCM's current (R387, R506). -/
def State.iretUnits (s : State) : Nat := s.get Fld.DRV_RETRACT_IRET * 4 * 32768 / 2000

/-- TLIM of a full scale at the power-die temperature (R519), in 1/16 C. -/
def State.tlim (s : State) (full : Nat) : Nat :=
  let t4 := sgn 16 (wfield (s.rd Reg.THM_TS45) 0 16)
  let t5 := sgn 16 (wfield (s.rd Reg.THM_TS45) 16 16)
  let tp := max t4 t5
  let tls : Int := (s.eff Fld.THM_WARN_TLS * 16 : Nat)
  if tp ≤ tls then full
  else if tls + 240 ≤ tp then full / 4
  else full - full * (tp - tls).toNat / 320

/-- PLIM as a current in the units of a full scale of `fullMa` mA (R507): SH x PMAX / (256 x V), scaled while throttled; full
scale with no budget. `mv` is the bridge's voltage in mV. -/
def State.plim (s : State) (sh fullMa mv : Nat) : Nat :=
  let pmax := s.get Fld.PWR_BUDGET_PMAX
  if pmax = 0 then 32767
  else
    let ma := sh * pmax * 100000 / (256 * max 1 mv)
    let ma := if s.flag Fld.THM_STAT_THROT && !s.sys.retract then ma * s.eff Fld.THM_WARN_PLIMS / 16 else ma
    min 32767 (ma * 32768 / fullMa)

/-- A head select staged over PLKx (R345): a write frame to HSADDR with the channel in bit 4 and the head below. -/
def State.headFrame (s : State) (x : Act) (second : Bool) (h : Nat) : State :=
  let w := b2n second * 16 + h % 16
  let p := s.plk x
  s.setPlk x { p with repeated := false, wf := mput p.wf (s.get (Fld.PLK_ADDR_HSADDR x)) w, hsel := some (BitVec.ofNat 32 w) }

/-- PLKx_HS pulses (R345): the preamplifier applies the staged head select. -/
def State.headStrobe (s : State) (x : Act) : State :=
  let p := s.plk x
  match p.hsel with
  | none => s
  | some w =>
    let h := wfield w 0 4
    s.setPlk x (if w.getLsbD 4 then { p with hsel := none, sel1 := some h } else { p with hsel := none, sel0 := some h })

/-- What a slot start does beside the sequencer: the actuator's laser currents return to LBIAS (R752). -/
def State.slotStarted (s : State) (x : Act) : State := s.restLasers x

/-- The temperature band taken by a sequencer (R223, R515). -/
def State.takeBand (s : State) (x : Act) : State :=
  s.put (byAct x Fld.THM_STAT_BANDA Fld.THM_STAT_BANDB) (s.get Fld.THM_STAT_BAND)

end Sys2Proof.Machine
end

