-- ==== Sys2Proof/Machine/SpnOps.lean ====
section
/-!
DEFINITION. Shared operations of the spindle controller (R435 to R472, R716, R750): states, the start decision, stopping, the loss
of back-EMF.
-/
namespace Sys2Proof.Machine

/-- A field of INTC_CORE of a logical core (R683). -/
def coreF (n lo len : Nat) : Field := ⟨Reg.INTC_CORE, 8 * (n % 2) + lo, len⟩

/-- Both logical cores are OFF (R669). -/
def State.coresDead (s : State) : Bool := s.flag (coreF 0 2 1) && s.flag (coreF 1 2 1)

/-- RUN is held at 0 (R750): no usable DRAM, no accepted image, or no core. -/
def State.spnHold (s : State) : Bool := s.flag Fld.MEM_STAT_DIS || s.sys.noImage || s.coresDead

/-- The codes of SPN_STAT.STATE (R473). -/
def spnStopped : Nat := 0
def spnSense : Nat := 1
def spnProbe : Nat := 2
def spnStep : Nat := 3
def spnL1 : Nat := 4
def spnL2 : Nat := 5
def spnRev : Nat := 6
def spnDecel : Nat := 7
def spnShort : Nat := 8
def spnCoast : Nat := 9
def spnRect : Nat := 10

/-- SPN drives torque in a state. -/
def spnDrives (k : Nat) : Bool := k == spnStep || k == spnL1 || k == spnL2 || k == spnRev || k == spnDecel

/-- A state of SPN entered: DRIVING follows; states without crossings (R442) hold no valid back-EMF; REST ends with STOPPED;
SRVCOM is only of L1RUN and L2RUN (R446). -/
def State.spnEnter (s : State) (k : Nat) : State :=
  let s1 := (s.put Fld.SPN_STAT_STATE k).putb Fld.SPN_STAT_DRIVING (spnDrives k)
  let s2 := if k = spnStopped then s1 else s1.putb Fld.SPN_STAT_REST false
  let s3 := if k = spnL1 ∨ k = spnL2 then s2 else s2.putb Fld.SPN_STAT_SRVCOM false
  let s4 := if k = spnL2 then s3.putb Fld.SPN_STAT_LEVEL true
    else if k = spnDecel then s3 else s3.putb Fld.SPN_STAT_LEVEL false
  let none_ := k == spnStopped || k == spnProbe || k == spnStep || k == spnShort
  let s5 := if none_ then (s4.putb Fld.SPN_STAT_BEMFOK false) else s4
  let p := s5.spn
  let p1 := if none_ then { p with valid := 0, place := none, interval := 0, bad := 0 } else p
  { s5 with spn := { p1 with
    quietAt := none, lostAt := if k = spnCoast then p1.lostAt else none, coastDown := p1.coastDown && k == spnCoast } }

/-- A state code read. -/
def State.spnState (s : State) : Nat := s.get Fld.SPN_STAT_STATE

/-- The mechanical speed in 1/4 rpm that a crossing interval of t ticks means (R435, R444). -/
def State.speedOfInterval (s : State) (t : Nat) : Nat := 80 * 800000000 / (max 1 (s.get Fld.SPN_MOTOR_POLES) * max 1 t)

/-- The speed in 1/4 rpm (R454): ANG_SPEED while the angle is valid, SPN_SPEED otherwise. -/
def State.speed4 (s : State) : Nat :=
  if s.flag Fld.ANG_STAT_VALID then (s.rd Reg.ANG_SPEED).toNat * 800000000 * 240 / 2 ^ 48 else s.get Fld.SPN_SPEED_RPM4

/-- The level thresholds (R437). -/
def State.l2On (s : State) : Nat := s.eff Fld.SPN_LEVEL_L2_ON
def State.l2Off (s : State) : Nat := if s.l2On ≤ s.get Fld.SPN_LEVEL_L2_OFF then s.l2On - 100 else s.get Fld.SPN_LEVEL_L2_OFF

/-- The drive is a member of its group (R707). -/
def State.valeMember (s : State) : Bool := decide (2 ≤ s.get Fld.VALE_STAT_ROLE)

/-- The stagger of the drive in ticks (R716). -/
def State.stagger (s : State) : Nat := s.pins.slotid * (s.eff Fld.VALE_CFG_STAG * 10 * 800000)

/-- The spin-up token returned (R718). -/
def State.dropToken (s : State) : State := s.putb Fld.VALE_STAT_TOKEN false

/-- The start decision begins (R456, R457): counted, INREG cleared, sensing with all phases undriven. -/
def State.startNow (s : State) : State :=
  let s1 := ((s.bump Fld.SPN_CNT2_STARTS 1).putb Fld.SPN_STAT_INREG false).spnEnter spnSense
  { s1.putb Fld.SPN_STAT_BEMFOK false with
    spn := { s1.spn with
      valid := 0, place := none, interval := 0, bad := 0, inreg := 0, senseAt := s.now, probed := false, handoffAt := none,
      stopAt := none, toProbe := false, ke := 0, keStart := false, ocPause := false, deferred := false, pinSense := false,
      coastDown := false },
    sys := { s1.sys with inregSince := false } }

/-- A start decision (R456): refused while KEBAD or the hold of R750 stands, and deferred under R716 for the causes that rule
names. -/
def State.startDecision (s : State) (deferrable : Bool) : State :=
  if s.flag Fld.SPN_STAT_KEBAD || s.spnHold then s
  else if deferrable && s.flag Fld.VALE_CFG_TOKREQ && !s.flag Fld.VALE_STAT_TOKEN && (s.valeMember || decide (0 < s.stagger)) then
    { s with spn := { s.spn with deferred := true }, vale := { s.vale with deferAt := s.now, memberSince := s.valeMember },
             sys := { s.sys with inregSince := false } }
  else s.startNow

/-- A deferred start proceeds (R716). -/
def State.deferRelease (s : State) : State := if s.spn.deferred then s.startNow else s

/-- What a stop does once no head is loaded (R465, R447, R471): DECEL from a run with back-EMF at or above SB_RPM; coasting down
from a repeated overcurrent until SB_RPM; short braking otherwise. -/
def State.stopNow (s : State) : State :=
  let k := s.spnState
  let fast := decide (4 * s.eff Fld.SPN_BRAKE_SB_RPM ≤ s.speed4)
  if k = spnL1 ∨ k = spnL2 then
    if fast && (s.flag Fld.SPN_STAT_BEMFOK || s.flag Fld.SPN_STAT_SRVCOM) then
      let t := s.spnEnter spnDecel
      { t with spn := { t.spn with target := 0 } }
    else s.spnEnter spnShort
  else if k = spnCoast then (if s.spn.coastDown && fast then s else s.spnEnter spnShort)
  else if k = spnSense then (if s.spn.pinSense then s else s.spnEnter spnShort)
  else if k = spnProbe ∨ k = spnStep ∨ k = spnRev then s.spnEnter spnShort
  else s

/-- RUN cleared by firmware or hardware (R465, R472, R718). -/
def State.runClear (s : State) : State :=
  let s1 := (s.putb Fld.SPN_CTL_RUN false).dropToken
  let s2 := { s1 with spn := { s1.spn with
    stopAt := if s.flag Fld.SPN_CTL_RUN then some s.now else s.spn.stopAt, deferred := false, toProbe := false } }
  if s2.loaded .a || s2.loaded .b then s2 else s2.stopNow

/-- The reference of the group dropped (R715): ANG_REFERR reads 0. -/
def State.refDrop (s : State) : State :=
  if s.flag Fld.ANG_STAT_CANLOCK then
    let s1 := ((s.putb Fld.ANG_STAT_CANLOCK false).wr Reg.ANG_REFERR 0).putb Fld.VALE_STAT_PHOK false
    ({ s1 with vale := { s1.vale with phok := 0 } }).raise Fld.VALE_EV_REFLOST
  else s

/-- The reference is held only while the conditions of R712 hold (R715). -/
def State.refCheck (s : State) : State :=
  if s.get Fld.VALE_STAT_ROLE = 2 ∧ s.flag Fld.VALE_CFG_PLOCK = true ∧ s.vale.refOk = true ∧ s.flag Fld.SPN_STAT_INREG = true then s
  else s.refDrop

/-- What the spindle does after any change (R465, R750): RUN is held at 0, and a stop goes on once no head is loaded. -/
def State.spnCheck (s : State) : State :=
  let s1 := (if s.spnHold && s.flag Fld.SPN_CTL_RUN then s.runClear else s).refCheck
  if (!s1.flag Fld.SPN_CTL_RUN || s1.spn.pinStop) && !s1.loaded .a && !s1.loaded .b then s1.stopNow else s1

/-- ANG_STAT.SRC set; a change raises ANG_EV_SRC (R96). -/
def State.setSrc (s : State) (src : Nat) : State :=
  if s.get Fld.ANG_STAT_SRC = src then s else (s.put Fld.ANG_STAT_SRC src).raise Fld.ANG_EV_SRC

/-- The last correction from any source was less than FREEMAX wedge periods ago (R95). -/
def State.freeHolds (s : State) : Bool :=
  match s.ang.corrAt with
  | some t => decide (s.now < t + max 1 (s.get Fld.ANG_CFG_FREEMAX) * s.wedgePeriod)
  | none => false

/-- With BEMF gone as the source of the angle, FREE follows while the last correction is young enough (R95); past that the angle is
lost, by ANGLE_LOSS. -/
def State.bemfSrcGone (s : State) : State := if s.get Fld.ANG_STAT_SRC = 2 ∧ s.freeHolds = true then s.setSrc 0 else s

/-- Back-EMF is lost (R445 to R447). -/
def State.bemfLose (s : State) : State :=
  if !s.flag Fld.SPN_STAT_BEMFOK then s
  else
    let s1 := (((s.putb Fld.SPN_STAT_BEMFOK false).raise Fld.SPN_EV_BEMFLOST).bump Fld.SPN_CNT2_LOST 1).bemfSrcGone
    let s2 : State := { s1 with spn := { s1.spn with valid := 0, interval := 0, bad := 0 } }
    let k := s2.spnState
    if k = spnL1 ∨ k = spnL2 then
      if s2.get Fld.ANG_STAT_SRC = 1 then s2.putb Fld.SPN_STAT_SRVCOM true
      else
        let t := s2.spnEnter spnCoast
        { t with spn := { t.spn with lostAt := some s.now } }
    else if k = spnRev then
      let t := s2.spnEnter spnShort
      { t with spn := { t.spn with toProbe := true } }
    else if k = spnDecel then s2.spnEnter spnShort
    else s2

/-- The levels change with the speed (R437): up at the end of an electrical revolution with valid back-EMF, down at once. -/
def State.levelCheck (s : State) (rpm4 : Nat) (revEnd : Bool) : State :=
  if s.spnState = spnL1 ∧ revEnd = true ∧ s.flag Fld.SPN_STAT_BEMFOK = true ∧ 4 * s.l2On ≤ rpm4 then
    ((s.spnEnter spnL2).raise Fld.SPN_EV_LEVEL)
  else if s.spnState = spnL2 ∧ rpm4 < 4 * s.l2Off then ((s.spnEnter spnL1).raise Fld.SPN_EV_LEVEL)
  else if s.spnState = spnDecel ∧ s.flag Fld.SPN_STAT_LEVEL = true ∧ rpm4 < 4 * s.l2Off then
    (s.putb Fld.SPN_STAT_LEVEL false).raise Fld.SPN_EV_LEVEL
  else s

/-- The end of sensing (R457, R458, R761). `amp` is the terminal amplitude in mV. -/
def State.senseEnd (s : State) (amp : Nat) : State :=
  let known := decide (3 ≤ s.spn.valid)
  let rpm4 := s.speedOfInterval s.spn.interval
  let fwd := !s.flag Fld.SPN_STAT_DIR
  let quiet := decide (amp ≤ s.eff Fld.SPN_BEMF_REST_MAX)
  let brake (t : State) : State :=
    let u := t.spnEnter spnShort
    { u with spn := { u.spn with toProbe := true } }
  if !s.flag Fld.SPN_CTL_RUN then
    let s0 := { s with spn := { s.spn with pinSense := false } }
    if known && fwd && decide (4 * s.eff Fld.SPN_BRAKE_SB_RPM ≤ rpm4) then s0.spnEnter spnDecel
    else if !known && quiet then (s0.spnEnter spnStopped).putb Fld.SPN_STAT_REST true
    else s0.spnEnter spnShort
  else if known then
    if fwd && decide (4 * s.eff Fld.SPN_CATCH_CATCH_MIN ≤ rpm4) then
      let t := s.spnEnter (if 4 * s.l2On ≤ rpm4 then spnL2 else spnL1)
      { t with spn := { t.spn with ramped := (rpm4 : Rat) / 4 }, lpe := { t.lpe with sInteg := 0 } }
    else if !fwd && decide (4 * s.eff Fld.SPN_CATCH_REV_MIN ≤ rpm4) then s.spnEnter spnRev
    else brake s
  else if quiet then s.spnEnter spnProbe
  else brake s

end Sys2Proof.Machine
end

