-- ==== Sys2Proof/Machine/Modes.lean ====
section
/-!
DEFINITION. The drive mode and the actuator states (R748 to R759).
-/
namespace Sys2Proof.Machine

/-- The base mode (R749). -/
def State.baseMode (s : State) : Nat :=
  if !s.flag Fld.SPN_CTL_RUN then (if s.spnState = spnStopped then 0x1 else 0x8)
  else if !s.sys.inregSince then 0x2
  else if !s.loaded .a && !s.loaded .b then 0x3
  else if s.sys.active then 0x5
  else 0x4

/-- Both actuators are in FAULT; on CZ8650-SN the one is. -/
def State.allFault (s : State) : Bool := s.sys.faultA && (s.isSN || s.sys.faultB)

/-- The mode by rank (R748). -/
def State.modeNow (s : State) : Nat :=
  if s.sys.cooldown then 0xA
  else if s.sys.retract then 0x9
  else if s.flag Fld.SYS_MODE_SWLAT then 0xC
  else if s.sys.switching then 0xB
  else if s.flag Fld.SYS_MODE_DEGLAT && !s.allFault then 0x7
  else if s.flag Fld.SYS_MODE_SPLITLAT then 0x6
  else s.baseMode

/-- The lasers of an actuator off. -/
def State.lasersOff (s : State) (x : Act) : State :=
  let w := s.wrp x
  s.setWrp x { w with las0 := { w.las0 with cmd := 0 }, las1 := { w.las1 with cmd := 0 } }

/-- The ACTIVE test's time base (R749): since when no slot of either MSQ is in RUN. -/
def State.runWatch (s : State) : State :=
  if s.msqA.running.isSome || s.msqB.running.isSome then { s with sys := { s.sys with active := true, idleAt := none } }
  else match s.sys.idleAt with
    | some _ => s
    | none => { s with sys := { s.sys with idleAt := some s.now } }

/-- MODE follows its conditions (R748, R753): a change writes PREV and raises SYS_EV_MODE. FLYING holds the lasers at 0 (R752), and
leaving SELFWRITE returns SPN_CMDSRC.SRC to 0 (R450, R754). -/
def State.syncMode (s0 : State) : State :=
  let s := s0.spnCheck.runWatch
  let old := s.get Fld.SYS_MODE_MODE
  let new := s.modeNow
  if new = old then s
  else
    let s1 := ((s.put Fld.SYS_MODE_PREV old).put Fld.SYS_MODE_MODE new).raise Fld.SYS_EV_MODE
    let s2 := if new = 4 then (s1.lasersOff .a).lasersOff .b else s1
    if old = 0xC then s2.put Fld.SPN_CMDSRC_SRC 0 else s2

end Sys2Proof.Machine
end

