-- ==== Sys2Proof/Machine/Squash.lean ====
section
/-!
DEFINITION. Squash, program errors, escalation at track level, restart (R183, R203, R207 to R228).
-/
namespace Sys2Proof.Machine

/-- The causes of R207 that count at track level. -/
def countingCauses : Nat := 0x11F

/-- MSQx_EV_HOLD is raised while HOLD is 1 and no slot is in RUN (R125). -/
def State.holdEvent (s : State) (x : Act) : State :=
  if s.flag (Fld.MSQ_CTL_HOLD x) && (s.msq x).running.isNone then s.raise (Fld.MSQ_EV_HOLD x) else s

/-- HOLD set to 1 by the device (R219, R228, R798). -/
def State.setHold (s : State) (x : Act) : State := (s.putb (Fld.MSQ_CTL_HOLD x) true).holdEvent x

/-- Everything staged for a commit that has not taken effect, in program order. -/
def Msq.allStaged (m : Msq) : List Staged :=
  m.work.flatMap (fun w => match w.kind with | .commit _ _ _ _ st _ => st | _ => []) ++ m.staged

/-- A staged note of what a microroutine overwrote is put back: the stored word of the SRAM, and a register's RW bits; what a register
write has started goes on, and bits that hardware sets or clears stay (log 89). -/
def State.putBack (s : State) : Staged → State
  | .sramWas a o => s.sramBack a o
  | .regWas a v => match regDesc a with
    | some (_, d) => s.wr a (merge (s.rd a) v (BitVec.ofNat 32 d.rw))
    | none => s
  | _ => s

/-- What microroutines wrote to SRAM and to registers since the last effective commit goes back, newest first (R221, R252). -/
def State.unstage (s : State) (x : Act) : State := (s.msq x).allStaged.reverse.foldl State.putBack s

/-- The sequencer's uncommitted work dropped and its speculative state returned to the last commit (R203). Items that a commit has
made final and that have not completed stay (R206); their comparators are gone. -/
def Msq.undo (m : Msq) (k : Nat) : Msq :=
  { m.setSlot k { m.slot k with spec := (m.slot k).comm } with
    pos0 := m.cpos0, pos1 := m.cpos1, work := (m.work.filter (fun w => w.final && !w.done)).map (fun w => { w with cmp := none }),
    staged := [], wait := none, dist := 0, micro := Micro.idle }

/-- The slot in RUN has begun a WRITE or ERASEB that has not committed (R207 bit 0, R210). -/
def Msq.writing (m : Msq) : Bool :=
  m.work.any (fun w =>
    match w.kind with
    | .media r => w.begun && (r.op == .write || r.op == .eraseb)
    | _ => false)

/-- The track-level escalation (R228): the squashed slot becomes READY with its committed state, HOLD is set and wins over a
write of 0 in the same cycle (R229), PEND is set. -/
def State.trackEscalate (s : State) (x : Act) (k : Nat) : State :=
  let m := s.msq x
  let m2 := { m.setSlot k { m.slot k with st := .ready } with sqWait := false, sqCauses := 0, counted := [], escAt := some s.now }
  ((((s.setMsq x m2).put (Fld.MSQ_ESC_SLOT x) k).putb (Fld.MSQ_ESC_PEND x) true).runWatch.setHold x).takeBand x

/-- One squash counted at track level (R225, R228). The escalation itself waits for the end of the squash. -/
def State.trackCount (s : State) (x : Act) : State :=
  let m := s.msq x
  let h := s.now :: s.within m.counted
  s.setMsq x { m with counted := h, sqCounted := true, escDue := decide (s.eff Fld.SYS_ESCCFG_N ≤ h.length) }

/-- The bits of MSQx_SQCAUSE and MSQx_SQLAST set by a squash or by a cause that joins it (R213 step 6, R214). -/
def State.sqRecord (s : State) (x : Act) (k causes : Nat) (join : Bool) : State :=
  let last := if join then (s.get (Fld.MSQ_SQLAST_CAUSE x)) ||| causes else causes
  ((s.put (Fld.MSQ_SQCAUSE_CAUSE x) (s.get (Fld.MSQ_SQCAUSE_CAUSE x) ||| causes)).put (Fld.MSQ_SQLAST_SLOT x) k).put
    (Fld.MSQ_SQLAST_CAUSE x) last

/-- A squash that a joining cause meets (R214): the bits are added; the squash counts at track level when it had not. -/
def State.sqJoin (s : State) (x : Act) (k causes : Nat) (counts : Bool) : State :=
  let m := s.msq x
  let s1 := (s.setMsq x { m with sqCauses := m.sqCauses ||| causes }).sqRecord x k causes true
  let s2 := if counts && !m.sqCounted then s1.trackCount x else s1
  if (s2.msq x).escDue then
    (s2.setMsq x { s2.msq x with escDue := false }).trackEscalate x k
  else s2

/-- Announcements of an actuator that were not sent are withdrawn; a sent one stands (R722). -/
def State.dropUnsent (s : State) (x : Act) : State :=
  { s with vale := { s.vale with ann := s.vale.ann.filter (fun a => a.x != x || a.start.isSome) } }

/-- The committed head bindings stand again at the preamplifier (R203, R345). -/
def State.undoHeads (s : State) (x : Act) : State :=
  let p := s.plk x
  s.setPlk x { p with hsel := none, sel0 := ((s.msq x).pos0.head).or p.sel0, sel1 := ((s.msq x).pos1.head).or p.sel1 }

/-- A squash of the slot in RUN (R213). Comparators that have fired in this tick still deliver their events (R103). `counts`: a cause marked "yes" in R207 takes part. Slots that a cause ends are
moved by the caller; a slot that the track-level escalation takes becomes READY here. -/
def State.squash (s : State) (x : Act) (causes : Nat) (counts : Bool) : State :=
  match (s.msq x).running with
  | none => s
  | some k =>
    if (s.msq x).sqWait then s.sqJoin x k causes counts
    else
      let s1 := (s.hardStop x).setCmps x ((s.cmps x).filter (fun e => e.2.hit))
      let s2 := (s1.abandonChannels x).dropUnsent x
      let s2 := s2.unstage x
      let m := s2.msq x
      let s3 := (s2.setMsq x { m.undo k with
        sqCauses := causes, sqWait := true, gate218 := true, wgPassed := false, sqCounted := false, escDue := false,
        unloaded := false }).lpeReturn x
      let s3 := (((s3.selectKey x ((m.slot k).comm.ctx)).undoHeads x).setHeaters x).restLasers x
      let s4 := ((s3.sqRecord x k causes false).bump (Fld.MSQ_SQCNT_SQUASH x) 1).count 6 1
      let s5 := s4.raise (Fld.MSQ_EV_SQUASH x)
      let s6 := if counts then s5.trackCount x else s5
      if (s6.msq x).escDue then
        (s6.setMsq x { s6.msq x with escDue := false }).trackEscalate x k
      else s6

/-- A squash with causes of R207 whose counting follows the table's last column. -/
def State.squashBy (s : State) (x : Act) (causes : Nat) : State :=
  s.squash x causes (causes &&& countingCauses != 0)

/-- A squash of both sequencers. -/
def State.squashBoth (s : State) (causes : Nat) : State := (s.squashBy .a causes).squashBy .b causes

/-- The running slot leaves RUN for another state (R124), nothing of a squash kept; with no slot in RUN the sequencer takes the
temperature band at once (R223). -/
def State.leaveRun (s : State) (x : Act) (k : Nat) (st : SlotState) (fcode : Nat) : State :=
  let m := s.msq x
  (s.setMsq x { m.setSlot k { m.slot k with st := st, fcode := fcode } with sqWait := false, sqCauses := 0 }).runWatch.holdEvent x |>.takeBand x

/-- The event or fault bit of a program error's code (R183). -/
def progFault (x : Act) (code : Nat) : Field :=
  if code = 0x0A then Fld.MSQ_FLT_SAPCAP x
  else if code = 0x0B then Fld.MSQ_FLT_STEP x
  else Fld.MSQ_FLT_PROG x

/-- A program error of the slot in RUN at an instruction address (R183): squash with cause PROG, FAULT, FCODE, FLTPC, the
fault bit. The next READY slot starts by a SLOT_START. -/
def State.progError (s : State) (x : Act) (pc code : Nat) : State :=
  match (s.msq x).running with
  | none => s
  | some k =>
    let s1 := s.squash x (2 ^ 12) false
    ((s1.put (Fld.MSQ_FLTPC_PC x) pc).raise (progFault x code)).leaveRun x k .fault code

/-- A context's end for the slots bound to it (R207 bits 9, 10, 14; R209): the slot in RUN is squashed and faults with
MSQx_ERR_CTXEND, a READY slot faults without a squash. -/
def State.ctxEnd (s : State) (x : Act) (bit ctx : Nat) : State :=
  let s1 := match (s.msq x).running with
    | some k =>
      if ((s.msq x).slot k).spec.ctx = ctx then
        let s2 := s.squash x (2 ^ bit) false
        (s2.raise (Fld.MSQ_FLT_PROG x)).leaveRun x k .fault 0x0C
      else s
    | none => s
  (List.range 16).foldl (fun t k =>
    if ((t.msq x).slot k).st = .ready ∧ ((t.msq x).slot k).comm.ctx = ctx then
      (t.setSlot x k { (t.msq x).slot k with st := .fault, fcode := 0x0C }).raise (Fld.MSQ_FLT_PROG x)
    else t) s1

/-- Every bound head of the actuator has valid PES (R194, R217): LPE_PESx is not 0x8000. -/
def State.pesValid (s : State) (x : Act) : Bool :=
  ((s.msq x).pos0.head.isNone || s.get (Fld.LPE_PES_PES0 x) != 0x8000)
    && ((s.msq x).pos1.head.isNone || s.get (Fld.LPE_PES_PES1 x) != 0x8000)

/-- A cause of R207 has cleared (R217). -/
def State.causeCleared (s : State) (x : Act) (bit : Nat) : Bool :=
  if bit = 0 ∨ bit = 1 then (s.wrp x).holding == 0
  else if bit = 2 then s.pesValid x
  else if bit = 3 then s.loopOk x
  else if bit = 4 then s.plkReady x
  else if bit = 5 then !s.flag Fld.PWR_STAT_UVHOLD
  else if bit = 6 then s.flag Fld.ANG_STAT_VALID
  else if bit = 7 then !s.flag Fld.SYS_D2DSTAT_SAFE
  else true

/-- Every cause of the squash has cleared (R217). -/
def State.causesCleared (s : State) (x : Act) : Bool :=
  (List.range 15).all (fun b => !((s.msq x).sqCauses.testBit b) || s.causeCleared x b)

/-- The restart (R217, R219): issue resumes at the last commit, or the slot enters READY with HOLD when the heads were
unloaded meanwhile. -/
def State.restart (s : State) (x : Act) : State :=
  match (s.msq x).running with
  | none => s
  | some k =>
    if (s.msq x).sqWait && s.causesCleared x then
      let m := s.msq x
      if m.unloaded then
        (s.setMsq x { m.setSlot k { m.slot k with st := .ready } with sqWait := false, sqCauses := 0, unloaded := false }).runWatch.setHold x |>.takeBand x
      else s.setMsq x { m with sqWait := false, sqCauses := 0 }
    else s

end Sys2Proof.Machine
end

