-- ==== Sys2Proof/Machine/Angle.lean ====
section
/-!
DEFINITION. The angle base (R81 to R108): corrections, sources, resynchronisation, angle loss, comparators, bit clocks.
-/
namespace Sys2Proof.Machine

/-- The angle part of the ATS set, the revolution count kept, or one more when the angle passes 0 forward (R82, R83). -/
def atsWith (ats ang : Nat) : Nat := ats / 2 ^ 32 * 2 ^ 32 + ang % 2 ^ 32

/-- The correction error e (R89): corrected minus present angle, as two's complement of 32 bits. -/
def angErr (corrected present : Nat) : Int := sgn 32 ((corrected + 2 ^ 32 - present) % 2 ^ 32)

/-- ANG_SPEED moves toward a measured speed (R87): by the difference shifted right arithmetically. A result beyond 32 bits wraps in the
register (DESIGN CHOICE, log 91). -/
def State.moveSpeed (s : State) (measured : Nat) : State :=
  let v : Int := (s.rd Reg.ANG_SPEED).toNat
  let step := ((measured : Int) - v) / ((2 ^ s.get Fld.ANG_CFG_SPDFILT : Nat) : Int)
  s.wr Reg.ANG_SPEED (BitVec.ofNat 32 (v + step).toNat)

/-- The speed measured between two corrections of a source (R87): the angle travelled per tick in 2^-16 ac, rounded down. Two corrections
in one tick give no measurement (DESIGN CHOICE, log 91). -/
def speedOf (a0 t0 a1 t1 : Nat) : Option Nat := if t1 ≤ t0 then none else some ((a1 - a0) * 2 ^ 16 / (t1 - t0))

/-- ANG_EV_BCLKRNG for each channel whose non-zero bit clock a speed change has taken out of range (R108). -/
def State.checkBclk (s : State) (old : Nat) : State :=
  let new := (s.rd Reg.ANG_SPEED).toNat
  (List.range 4).foldl (fun t n =>
    let b := (t.rd (Reg.ANG_BPR n)).toNat
    if b != 0 && bclkRange (bitClock b old) && !bclkRange (bitClock b new) then t.raise Fld.ANG_EV_BCLKRNG else t) s

/-- A resynchronisation (R90): the angle set, all comparators disarmed without firing, ANG_EV_SLIP and ANG_SLIPCNT, a squash
in both MSQs. The revolution count stays, and a pending WEDGES still waits for a wrap, when the set carries the angle past 0 (DESIGN
CHOICE, log 91). -/
def State.resync (s : State) (corrected : Nat) : State :=
  let s1 := { s with ang := { s.ang with ats := atsWith s.ang.ats corrected, frac := 0, prev := none, slew := 0, cmpA := [], cmpB := [] } }
  ((s1.bump ⟨Reg.ANG_SLIPCNT, 0, 16⟩ 1).raise Fld.ANG_EV_SLIP).squashBoth (2 ^ 6)

/-- What happens as the angle wraps (R86, R518, R736): a pending WEDGES applies, the duty counts restart, the revolution counter of
Ringbook counts. -/
def State.wrapStep (s : State) : State :=
  let s1 := match s.ang.pendWedges with
    | some w => ({ s with ang := { s.ang with pendWedges := none } }).put Fld.ANG_CFG_WEDGES w
    | none => s
  let s2 : State := { s1 with
    ch0 := { s1.ch0 with duty := 0 }, ch1 := { s1.ch1 with duty := 0 }, ch2 := { s1.ch2 with duty := 0 }, ch3 := { s1.ch3 with duty := 0 } }
  s2.count 1 1

/-- The error register (R89): two's complement, saturating. -/
def State.setLastErr (s : State) (e : Int) : State := s.wr Reg.ANG_LASTERR (BitVec.ofNat 32 (unsgn 32 e))

/-- A correction of the local angle from a source (R87 to R91): 0 sets it while VALID is 0; otherwise it slews, sets, or
resynchronises beyond the limit. `lim` is the slip limit of the source. -/
def State.correct (s : State) (corrected lim : Nat) : State :=
  let e := angErr corrected s.angle
  let s1 := s.setLastErr e
  if !s.flag Fld.ANG_STAT_VALID then
    let s2 := { s1 with ang := { s1.ang with ats := atsWith s1.ang.ats corrected, frac := 0, prev := none, slew := 0 } }
    (s2.putb Fld.ANG_STAT_VALID true).raise Fld.ANG_EV_VALID
  else
    if (lim : Int) < e ∨ e < -(lim : Int) then s1.resync corrected
    else if (s.rd Reg.ANG_SPEED).toNat / 2 = 0 then
      if 0 < e then
        let new := s1.ang.ats + e.toNat
        let s2 : State := { s1 with ang := { s1.ang with ats := new % 2 ^ 48, prev := some (s1.ang.prev.getD s1.ang.ats), slew := 0 } }
        if s1.ang.ats / 2 ^ 32 = new / 2 ^ 32 then s2 else s2.wrapStep
      else { s1 with ang := { s1.ang with slew := 0 } }
    else { s1 with ang := { s1.ang with slew := e * 65536 } }

/-- The marks and the speed of a correction recorded (R87, R88): a first correction of a source gives no speed. -/
def State.measure (s : State) (last : Option (Nat × Nat)) (corrected : Nat) (sameSrc : Bool) : State × (Nat × Nat) :=
  let here := match last with
    | some (a0, _) => a0 + (corrected + 2 ^ 32 - a0 % 2 ^ 32) % 2 ^ 32
    | none => corrected
  match last with
  | some (a0, t0) =>
    if sameSrc then
      match speedOf a0 t0 here s.now with
      | some v =>
        let old := (s.rd Reg.ANG_SPEED).toNat
        (((s.moveSpeed v).checkBclk old), (here, s.now))
      | none => (s, (here, s.now))
    else (s, (here, s.now))
  | none => (s, (here, s.now))

/-- The master actuator (R92): 0 A, 1 B. -/
def State.master (s : State) : Act := if s.flag Fld.ANG_STAT_MASTER then .b else .a

/-- SERVO_CORRECTION (R92): a valid mark with wedge number `wedge` on the master actuator's first-channel head, unless that head
is frozen (R417), SERVOEN is 0 or no such wedge exists. ANG_SAMLAT x ANG_SPEED is rounded down to whole ac (DESIGN CHOICE, log 91). -/
def execServoCorrection (wedge : Nat) (s : State) : Out :=
  let x := s.master
  match (s.msq x).pos0.head with
  | none => .next s
  | some h =>
    if !s.flag Fld.ANG_CFG_SERVOEN || s.servoFrozen x || decide (s.get Fld.ANG_CFG_WEDGES ≤ wedge) then .next s
    else
      let comp := s.get ⟨Reg.ANG_SAMLAT, 0, 12⟩ * (s.rd Reg.ANG_SPEED).toNat / 2 ^ 16
      let corrected := (s.wedgeAngle (surfOf x h) wedge + comp) % 2 ^ 32
      let same := s.get Fld.ANG_STAT_SRC == 1
      let (s1, mark) := s.measure s.ang.servoLast corrected same
      let s2 := s1.correct corrected (s.rd Reg.ANG_SLIPLIM).toNat
      let s3 := { s2 with ang := { s2.ang with
        servoAt := some s.now, corrAt := some s.now, servoLast := some mark, servoSince := true } }
      .next ((s3.put Fld.ANG_STAT_WEDGE wedge).setSrc 1).syncMode

/-- SPN reports BEMF valid for a forward rotor and BEMF is enabled (R95, R444). -/
def State.bemfUsable (s : State) : Bool := s.flag Fld.ANG_CFG_BEMFEN && s.bemfForward

/-- A SERVO correction has arrived within half as many wedge periods as `halves` says, SERVOEN being 1 (R95, R98). While ANG_SPEED is 0 a
wedge period has no end (DESIGN CHOICE, log 91). -/
def State.servoWithin (s : State) (halves : Nat) : Bool :=
  s.flag Fld.ANG_CFG_SERVOEN &&
    (match s.ang.servoAt with
    | some t => s.wedgePeriod == 0 || decide (2 * (s.now - t) ≤ halves * s.wedgePeriod)
    | none => false)

/-- The source of the local angle (R95): the first row of the table whose condition holds. -/
def State.angleSource (s : State) : Nat :=
  if s.servoWithin 3 then 1
  else if s.bemfUsable && !s.ang.servoSince then 2
  else if s.freeHolds then 0
  else if s.bemfUsable then 2
  else 3

/-- BEMF_CORRECTION (R93, R94): zero crossing k at a nominal angle. While SERVO corrections arrive ANG learns the offset, whatever
BEMFEN; the offset is applied to every later BEMF correction. The limit is 4 x ANG_SLIPLIM. -/
def execBemfCorrection (k angle : Nat) (s : State) : Out :=
  if !s.bemfForward then .next s
  else if s.get Fld.ANG_STAT_SRC = 1 then
    let ofs := (s.angle + 2 ^ 32 - angle % 2 ^ 32) % 2 ^ 32
    .next { s with ang := { s.ang with bemfOfs := mput s.ang.bemfOfs k ofs, bemfLast := none } }
  else if !s.bemfUsable then .next s
  else if s.get Fld.ANG_STAT_SRC = 0 ∧ s.freeHolds = true ∧ s.ang.servoSince = true then .next s
  else
    let corrected := (angle + (mfind s.ang.bemfOfs k).getD 0) % 2 ^ 32
    let same := s.get Fld.ANG_STAT_SRC == 2
    let fresh := !s.flag Fld.ANG_STAT_VALID
    let (s1, mark) := s.measure s.ang.bemfLast corrected same
    let s2 := s1.correct corrected (4 * (s.rd Reg.ANG_SLIPLIM).toNat)
    let s3 := { s2 with ang := { s2.ang with
      corrAt := some s.now, bemfLast := some mark, servoSince := if fresh || !same then false else s2.ang.servoSince } }
    .next (s3.setSrc 2).syncMode

/-- Angle loss (R97): VALID cleared, the angle stops, all comparators disarmed, both MSQs squashed, ANG_FLT_LOST. -/
def State.angleLoss (s : State) : State :=
  let s1 := { s with ang := { s.ang with slew := 0, prev := none, cmpA := [], cmpB := [], servoLast := none, bemfLast := none, servoSince := false } }
  let s2 := ((s1.putb Fld.ANG_STAT_VALID false).setSrc 3).raise Fld.ANG_FLT_LOST
  (s2.squashBoth (2 ^ 6)).syncMode

/-- The source of the angle is checked (R95, R97): while VALID is 1 the table gives it, and with none left the angle is lost. -/
def State.checkSource (s : State) : State :=
  if !s.flag Fld.ANG_STAT_VALID then s
  else
    let src := s.angleSource
    if src = 3 then s.angleLoss
    else if src = 2 ∧ s.get Fld.ANG_STAT_SRC ≠ 2 then ({ s with ang := { s.ang with servoSince := false } }).setSrc 2
    else s.setSrc src

/-- SERVO_SOURCE_TIMEOUT (R95): no SERVO correction for 1.5 wedge periods; the table gives the source. -/
def execServoSourceTimeout (s : State) : Out := .next s.checkSource

/-- ANGLE_LOSS (R97): no source is available. -/
def execAngleLoss (s : State) : Out :=
  .next (if s.flag Fld.ANG_STAT_VALID && s.angleSource == 3 then s.angleLoss else s)

/-- MASTER_SWITCH (R98, R99): with AUTOMASTER 1, and no SERVO correction from the master for 2 wedge periods, the other actuator, whose
first-channel head reads valid marks, becomes master; no squash. A MASTER that firmware has written in the same tick holds for that tick,
and then the switch applies. -/
def execMasterSwitch (s : State) : Out :=
  if !s.flag Fld.ANG_CFG_AUTOMASTER || s.isSN || s.servoWithin 4 then .next s
  else
    let m := match s.ang.masterWas with
      | some (t, old) => if t = s.now then !old else !s.flag Fld.ANG_STAT_MASTER
      | none => !s.flag Fld.ANG_STAT_MASTER
    .next ((((s.putb Fld.ANG_CFG_MASTER m).putb Fld.ANG_STAT_MASTER m).raise Fld.ANG_EV_MASTER))

end Sys2Proof.Machine
end

