-- ==== Sys2Proof/Machine/Cores.lean ====
section
/-!
DEFINITION. What the control cores and the JTAG port read of the block: the status registers of R663, R678 and R679, protection and
paging (R663; the privileged architecture's own layout is PRESUMED, log 96), Heartwood's interrupt sources (R676), the TAP (R782).
-/
namespace Sys2Proof.Machine

/-- The status registers of a logical core. -/
def State.lcCsr (s : State) (n : Nat) : LcCsr := if n = 0 then s.apc.csr0 else s.apc.csr1

/-- mcycle (R679): two cycles of the core a tick while mcountinhibit lets it count. -/
def LcCsr.mcycle (c : LcCsr) (now : Nat) : BitVec 64 :=
  BitVec.ofNat 64 (if c.inhibit.testBit 0 then c.cycle else c.cycle + 2 * (now - c.cycleAt))

/-- A performance counter, mhpmcounter3 to mhpmcounter6. -/
def LcCsr.counter (c : LcCsr) (k : Nat) : BitVec 64 := mget (fun _ => (0 : BitVec 64)) c.hpm k

/-- What a code of mhpmevent counts (R679); an unlisted code counts nothing. -/
inductive HpmEvent where
  | icacheMiss | dcacheMiss | regStall | dramStall | mispredict | interrupt | machineRetired
deriving DecidableEq, Repr

/-- The event table of R679. -/
def hpmEvent (code : Nat) : Option HpmEvent :=
  [HpmEvent.icacheMiss, .dcacheMiss, .regStall, .dramStall, .mispredict, .interrupt, .machineRetired][code - 1]?.filter (fun _ => 0 < code)

/-- A status register as a core reads it (R662, R663, R666, R678, R679); none for one that the block gives no value. misa shows RV64 with A,
C, D, F, I and M, and the supervisor and user modes of R663. -/
def State.csrRead (s : State) (n a : Nat) : Option (BitVec 64) :=
  let c := s.lcCsr n
  if a = 0xF11 ∨ a = 0xF12 then some 0
  else if a = 0xF13 then some (BitVec.ofNat 64 (s.get Fld.SYS_ID_REV))
  else if a = 0xF14 then some (BitVec.ofNat 64 n)
  else if a = 0xC01 then some (BitVec.ofNat 64 (s.now / 32))
  else if a = 0x344 then
    some (BitVec.ofNat 64 (b2n (s.flag (if n = 0 then Fld.INTC_SWI_LC0 else Fld.INTC_SWI_LC1)) * 2 ^ 3 + b2n (s.meip n) * 2 ^ 11))
  else if a = 0xB00 then some (c.mcycle s.now)
  else if a = 0xB02 then some c.instret
  else if 0xB03 ≤ a ∧ a ≤ 0xB06 then some (c.counter (a - 0xB00))
  else if a = 0x320 then some (BitVec.ofNat 64 c.inhibit)
  else if 0x323 ≤ a ∧ a ≤ 0x326 then some (BitVec.ofNat 64 (mget (fun _ => 0) c.event (a - 0x320)))
  else if a = 0x180 then some c.satp
  else if a = 0x301 then some (BitVec.ofNat 64 (2 ^ 63 + 0x14112D))
  else if a = 0x7C0 then (if c.mode = 3 then some 0 else none)
  else none

/-! ### Protection and paging -/

/-- A byte address lies in a PMP entry (R663): TOR, NA4 or NAPOT. -/
def LcCsr.pmpHit (c : LcCsr) (i a : Nat) : Bool :=
  let e (k : Nat) : Nat × Nat := mget (fun _ => (0, 0)) c.pmp k
  let lo := if i = 0 then 0 else (e (i - 1)).2 * 4
  match nbits (e i).1 3 2 with
  | 1 => decide (lo ≤ a) && decide (a < (e i).2 * 4)
  | 2 => a / 4 == (e i).2
  | 3 =>
    let ones := ((List.range 54).find? (fun k => !(e i).2.testBit k)).getD 54
    a / 2 ^ (ones + 3) == (e i).2 / 2 ^ (ones + 1)
  | _ => false

/-- A read (bit 0), write (1) or fetch (2) passes: the lowest entry that holds the address decides, and a mode below machine needs
one. -/
def LcCsr.pmpAllows (c : LcCsr) (a access : Nat) : Bool :=
  match (List.range 16).find? (fun i => c.pmpHit i a) with
  | some i =>
    let cfg := (mget (fun _ => (0, 0)) c.pmp i).1
    (c.mode == 3 && !cfg.testBit 7) || cfg.testBit access
  | none => c.mode == 3

/-- A walk of the page tables (R663, Sv39) from a table's base, with `level` tables left: the leaf entry and the physical address. -/
def sv39Walk (entry : Nat → Option Nat) (va : Nat) : Nat → Nat → Option (Nat × Nat)
  | 0, _ => none
  | l + 1, base =>
    match entry (base + 8 * nbits va (12 + 9 * l) 9) with
    | none => none
    | some pte =>
      let ppn := nbits pte 10 44
      if !pte.testBit 0 || (!pte.testBit 1 && pte.testBit 2) then none
      else if nbits pte 1 3 = 0 then sv39Walk entry va l (ppn * 2 ^ 12)
      else if ppn % 2 ^ (9 * l) ≠ 0 then none
      else some (pte, ppn * 2 ^ 12 + va % 2 ^ (12 + 9 * l))

/-- The physical address of a virtual one for a core (R663): the address itself in machine mode and with satp's MODE 0; otherwise bits
[63:39] repeat bit 38 and the tables decide. -/
def State.lcTranslate (s : State) (n va : Nat) : Option Nat :=
  let c := s.lcCsr n
  if c.mode = 3 ∨ nbits c.satp.toNat 60 4 = 0 then some va
  else if nbits va 38 26 ≠ 0 ∧ nbits va 38 26 ≠ 2 ^ 26 - 1 then none
  else
    let entry (a : Nat) : Option Nat :=
      let ((l, bad), _) := s.bytesAt 0 8 a
      if bad || l.length != 8 then none else some (leNat l)
    (sv39Walk entry va 3 (nbits c.satp.toNat 0 44 * 2 ^ 12)).map (fun r => r.2)

/-! ### Heartwood and the TAP -/

/-- The sources that Heartwood receives whatever ROUTE and PRIO hold (R676). -/
def heartwoodSource (src : Nat) : Bool := decide (src < 16) || (decide (176 ≤ src) && decide (src < 192)) || (decide (248 ≤ src) && decide (src < 256))

/-- The interrupt sources asserted to Heartwood. -/
def State.heartwoodLines (s : State) : List Nat := (List.range 256).filter (fun n => heartwoodSource n && s.asserted n)

/-- The instructions of IEEE 1149.1 that R782 tells apart. -/
inductive TapInstr where
  | idcode | bypass | sample | extest | other
deriving DecidableEq, Repr

/-- What an instruction puts between TDI and TDO: the identification word, the bypass bit, the boundary register, driven or only sampled,
or another register. -/
inductive TapPath where
  | idcode (v : BitVec 32)
  | bypass
  | boundary (drives : Bool)
  | other
deriving DecidableEq, Repr

/-- IDCODE (R782): SYS_ID.PART in bits [27:12]; bit 0 is 1, as IEEE 1149.1 has it; the version and the manufacturer are free. -/
def State.idcode (s : State) : BitVec 32 :=
  BitVec.ofNat 32 (Config.idcodeVersion.toNat * 2 ^ 28 + s.get Fld.SYS_ID_PART * 2 ^ 12 + Config.idcodeMaker.toNat * 2 + 1)

/-- The path that an instruction selects (R625, R692, R782): EXTEST and the instructions the rule does not name act at debug level 2
alone, and as BYPASS otherwise. -/
def State.tapPath (s : State) : TapInstr → TapPath
  | .idcode => .idcode s.idcode
  | .bypass => .bypass
  | .sample => .boundary false
  | .extest => if s.dbgLevel = 2 then .boundary true else .bypass
  | .other => if s.dbgLevel = 2 then .other else .bypass

end Sys2Proof.Machine
end

