-- ==== Sys2Proof/Machine/Guard.lean ====
section
/-!
DEFINITION. The Write Guard (R329 to R341): trips, joined triggers, releases.
-/
namespace Sys2Proof.Machine

/-- The trigger bits of R329. -/
def trgPes : Nat := 1
def trgShock : Nat := 2
def trgUvw : Nat := 4
def trgCoast : Nat := 8
def trgLoop : Nat := 16
def trgPreamp : Nat := 32
def trgLmon : Nat := 64
def trgD2d : Nat := 128

/-- The squash causes that triggers give (R207, R210, R329): PES and LMON only while WRITE or ERASEB work is uncommitted. -/
def guardCauses (bits : Nat) (writing : Bool) : Nat :=
  (if writing && (bits &&& (trgPes + trgLmon) != 0) then 2 ^ 0 else 0)
    + (if bits &&& trgShock != 0 then 2 ^ 1 else 0)
    + (if bits &&& trgCoast != 0 then 2 ^ 2 else 0)
    + (if bits &&& trgLoop != 0 then 2 ^ 3 else 0)
    + (if bits &&& trgPreamp != 0 then 2 ^ 4 else 0)
    + (if bits &&& trgUvw != 0 then 2 ^ 5 else 0)
    + (if bits &&& trgD2d != 0 then 2 ^ 7 else 0)

/-- A trip begins, or triggers join the one that holds (R335). Sectors whose gate is high are torn first (R336); `neg`: the PES
that tripped it was negative. The squash is the caller's. -/
def State.guardHold (s : State) (x : Act) (bits : Nat) (neg : Bool) : State :=
  let w := s.wrp x
  if w.holding = 0 then
    let s1 := (s.tear x bits neg).gatesLow x
    let s2 := s1.setWrp x { s1.wrp x with holding := bits, tripped := true }
    ((s2.put (Fld.WRP_WGLAST_CAUSE x) bits).bump (Fld.WRP_WGLAST_TRIPS x) 1).raise (Fld.WRP_EV_WGTRIP x)
  else
    (s.setWrp x { w with holding := w.holding ||| bits, tripped := true }).put (Fld.WRP_WGLAST_CAUSE x)
      (s.get (Fld.WRP_WGLAST_CAUSE x) ||| bits)

/-- Triggers arrive at the Write Guard of an actuator (R329): its gates go low, and their causes squash. A takeover with write
inhibit that is the only cause does not count at track level (R207): `counts` false. -/
def State.wgTripC (s : State) (x : Act) (bits : Nat) (neg counts : Bool) : State :=
  if !s.actOk x then s
  else
    let causes := guardCauses bits (s.msq x).writing
    let s1 := s.guardHold x bits neg
    if causes = 0 then s1 else s1.squash x causes (counts && (causes &&& countingCauses != 0))

/-- Triggers arrive, the table of R207 deciding what counts. -/
def State.wgTrip (s : State) (x : Act) (bits : Nat) (neg : Bool) : State := s.wgTripC x bits neg true

/-- Triggers that reach both Write Guards. -/
def State.wgTripBoth (s : State) (bits : Nat) : State := (s.wgTrip .a bits false).wgTrip .b bits false

/-- Triggers release (R330): the Write Guard releases with the last of them. -/
def State.wgRelease (s : State) (x : Act) (bits : Nat) : State :=
  let w := s.wrp x
  let h := w.holding &&& (255 - bits % 256)
  let s1 := s.setWrp x { w with holding := h }
  if w.holding ≠ 0 ∧ h = 0 then s1.raise (Fld.WRP_EV_WGREL x) else s1

/-- Triggers release at both Write Guards. -/
def State.wgReleaseBoth (s : State) (bits : Nat) : State := (s.wgRelease .a bits).wgRelease .b bits

/-- A wedge check has taken note of a trip (R194). -/
def State.clearTripped (s : State) (x : Act) : State := s.setWrp x { s.wrp x with tripped := false }

/-- |PES| of every bound head with valid PES is within WG_PES_LIM (R329, R331): PESLIM in 0.1 % of pitch, PES in the units of
R387 (1/4,096 pitch). -/
def State.pesWithin (s : State) (x : Act) : Bool :=
  let lim := s.get (Fld.WRP_WGLIM_PESLIM x)
  let ok (second : Bool) : Bool :=
    let v := s.get (if second then Fld.LPE_PES_PES1 x else Fld.LPE_PES_PES0 x)
    ((s.msq x).pos second).head.isNone || v == 0x8000 || decide ((sgn 16 v).natAbs * 1000 ≤ lim * 4096)
  ok false && ok true

/-- The PES of a bound head of an actuator is valid, negative and beyond WG_PES_LIM (R339). -/
def State.pesNeg (s : State) (x : Act) : Bool :=
  let lim := s.get (Fld.WRP_WGLIM_PESLIM x)
  let low (second : Bool) : Bool :=
    let v := s.get (if second then Fld.LPE_PES_PES1 x else Fld.LPE_PES_PES0 x)
    ((s.msq x).pos second).head.isSome && v != 0x8000 && decide ((lim * 4096 : Nat) < -(sgn 16 v) * 1000)
  low false || low true

/-- The PES trip of a wedge (R329, R333): whenever a head of the actuator is loaded. A trigger that holds already does not arrive again. -/
def State.pesTrip (s : State) (x : Act) : State :=
  if s.loaded x && !s.pesWithin x && ((s.wrp x).holding &&& trgPes == 0) then s.wgTrip x trgPes (s.pesNeg x) else s

/-- A shock reaches both actuators (R332). -/
def State.shockTrip (s : State) (x : Act) (bits : Nat) (neg : Bool) : State :=
  let s1 : State := { s with
    wrpA := { s.wrpA with shockHold := true, shockAt := s.now }, wrpB := { s.wrpB with shockHold := true, shockAt := s.now } }
  (s1.wgTrip x bits neg).wgTrip x.other trgShock false

/-- The triggers that have released as the state stands (R329, WRITE_GUARD_RELEASE): PES, COAST, LOOP, PREAMP, UVW, D2D and SHOCK
by their conditions; LMON only by firmware (R323). -/
def State.releasedTriggers (s : State) (x : Act) : Nat :=
  (if s.pesWithin x then trgPes else 0) + (if (s.wrp x).shockHold then 0 else trgShock)
    + (if s.flag Fld.PWR_STAT_UVHOLD || !s.pwr.vinSeen then 0 else trgUvw) + (if s.pesValid x then trgCoast else 0)
    + (if s.loopOk x then trgLoop else 0) + (if s.plkReady x then trgPreamp else 0)
    + (if s.flag Fld.SYS_D2DSTAT_SAFE then 0 else trgD2d)

end Sys2Proof.Machine
end

