-- ==== Sys2Proof/Machine/ValeOps.lean ====
section
/-!
DEFINITION. Shared operations of the enclosure group (R698 to R725): membership, announcements of seeks.
-/
namespace Sys2Proof.Machine

/-- Ticks of a Vale cycle, a slot and a transmission (R699). -/
def valeCycle : Nat := 64000
def valeSlot : Nat := 1000
def valeTx : Nat := 800

/-- The thresholds of R720 in tracks, T1 to T3. -/
def State.seekClasses (s : State) : List Nat :=
  [64 * s.get Fld.VALE_SEEKCLS_T1, 64 * s.get Fld.VALE_SEEKCLS_T2, 64 * s.get Fld.VALE_SEEKCLS_T3]

/-- The class of a seek to a VCM target (R720): the number of thresholds that the distance reaches. -/
def State.seekClass (s : State) (x : Act) (target : Int) : Nat :=
  let d := (target - (s.la x).p.floor).natAbs
  (s.seekClasses.filter (fun t => decide (256 * t ≤ d))).length

/-- Seeks are announced (R707, R721, R724). -/
def State.announcing (s : State) : Bool :=
  s.flag Fld.VALE_CFG_EN && s.flag Fld.VALE_CFG_ANNOUNCE && s.valeMember && !s.flag Fld.VALE_STAT_LEFT && !s.sys.retract

/-- The VCM target of a SEEK, with the targets it gives (R369). -/
def State.seekTarget (s : State) (x : Act) (c t1 t2 : Nat) : Option Int :=
  let m := s.msq x
  let p0 := if inMask c false then { m.pos0 with target := some t1, ofs := 0 } else m.pos0
  let p1 := if inMask c true then { m.pos1 with target := some t2, ofs := 0 } else m.pos1
  (s.setMsq x { m with pos0 := p0, pos1 := p1 }).vcmTarget x

/-- The announcement of a seek of an actuator to a target. -/
def State.annFor (s : State) (x : Act) (t : Int) : Option Announce := s.vale.ann.find? (fun a => a.x == x && a.target == t)

/-- A SEEK's announcement is queued (R721): up to 4 wait. -/
def State.announce (s : State) (x : Act) (c t1 t2 : Nat) : State :=
  match s.seekTarget x c t1 t2 with
  | none => s
  | some t =>
    let k := s.seekClass x t
    if !s.announcing || k == 0 || (s.annFor x t).isSome
        || decide (4 ≤ (s.vale.ann.filter (fun a => a.start.isNone)).length) then s
    else
      { s with vale := { s.vale with
        ann := s.vale.ann ++ [{ x := x, target := t, cls := k, down := decide (t < (s.la x).p.floor), start := none }] } }

/-- A SEEK waits for its announcement (R721): until LEAD after the end of the transmission that carried it. -/
def State.seekHeld (s : State) (x : Act) (c t1 t2 : Nat) : Bool :=
  match s.seekTarget x c t1 t2 with
  | none => false
  | some t =>
    if !s.announcing || s.seekClass x t == 0 then false
    else match s.annFor x t with
      | some a => (match a.start with
        | some b => decide (s.now < b)
        | none => true)
      | none => true

/-- The announcement of a seek that begins is used up. -/
def State.annUsed (s : State) (x : Act) (c t1 t2 : Nat) : State :=
  match s.seekTarget x c t1 t2 with
  | none => s
  | some t => { s with vale := { s.vale with ann := s.vale.ann.filter (fun a => !(a.x == x && a.target == t && a.start.isSome)) } }

end Sys2Proof.Machine
end

