-- ==== Sys2Proof/Machine/Operands.lean ====
section
/-!
DEFINITION. Operand forms of track-program instructions (R129 to R136): guard, register specifiers, immediates, angle
qualifiers, option fields; the error codes of R184.
-/
namespace Sys2Proof.Machine

/-- MSQx_ERR_ILLEGAL and the other codes of R184. -/
def errIllegal : Nat := 0x01
def errOperand : Nat := 0x02
def errState : Nat := 0x03
def errCtx : Nat := 0x04
def errStack : Nat := 0x05
def errFetch : Nat := 0x06
def errWindow : Nat := 0x07
def errWaita : Nat := 0x08
def errSlotTmo : Nat := 0x09
def errSapcap : Nat := 0x0A
def errStep : Nat := 0x0B
def errCtxEnd : Nat := 0x0C

/-- A specifier that names a register any instruction may read: g, b, a, p, CTX (R112). -/
def readable (r : BitVec 6) : Bool := decide (r.toNat ≤ 0x34)

/-- A specifier that names a g, b, a or p register. -/
def writable (r : BitVec 6) : Bool := decide (r.toNat ≤ 0x33)

/-- A specifier of the b file. -/
def isB (r : BitVec 6) : Bool := decide (0x20 ≤ r.toNat ∧ r.toNat ≤ 0x27)

/-- A specifier of the p file. -/
def isP (r : BitVec 6) : Bool := decide (0x30 ≤ r.toNat ∧ r.toNat ≤ 0x33)

/-- The guard fields are legal (R130, R134): N and P are 0 when G is 0. -/
def guardLegal (g n : Bool) (p : BitVec 2) : Bool := g || (!n && p == 0)

/-- The guard is false (R130): G is 1 and p[P] XOR N is 0. -/
def guardFalse (a : Arch) (g n : Bool) (p : BitVec 2) : Bool := g && !(a.pred p.toNat ^^ n)

/-- A PC at which an instruction can be fetched (R116, R184): in SRAM. -/
def pcInSram (pc : Nat) : Bool := decide (0x20000000 ≤ pc ∧ pc + 8 ≤ 0x20800000)

/-- The instruction address 8 x IMM further (R143). -/
def branchTo (pc : Nat) (imm : Int) : Nat := (((pc : Int) + 8 * imm) % (2 ^ 32 : Int)).toNat

/-- The opcodes of R142. -/
def definedOpcodes : List Nat :=
  [0x00, 0x01, 0x02, 0x03, 0x04, 0x05, 0x06, 0x07, 0x08, 0x20, 0x21, 0x22, 0x23, 0x24, 0x25, 0x26, 0x27, 0x28, 0x29,
   0x40, 0x41, 0x42, 0x43, 0x44, 0x45, 0x60, 0x61, 0x62, 0x63, 0x64, 0x80, 0x81, 0x82, 0xA0, 0xA1, 0xA2, 0xA3,
   0xC0, 0xC1, 0xC2, 0xE0, 0xE1, 0xE2]

/-- The dispatch-table entry of an opcode (R249): the one a patch load wrote, or the ROM default, valid for the opcodes of
R142. -/
def Msq.dispatch (m : Msq) (op : Nat) : Nat :=
  mget (fun op => if definedOpcodes.contains op then 2 ^ 15 + (Config.romEntry op).toNat else 0) m.ucs.disp op

/-- The dispatch entry is valid (R248). -/
def Msq.dispatchValid (m : Msq) (op : Nat) : Bool := (m.dispatch op).testBit 15

end Sys2Proof.Machine

namespace Sys2Proof
open Machine

/-- IMM as a signed number. -/
def FmtR.simm (f : FmtR) : Int := sgn 32 f.imm.toNat

/-- Bits of IMM. -/
def FmtR.ib (f : FmtR) (lo len : Nat) : Nat := nbits f.imm.toNat lo len

/-- Bits of OPS. -/
def FmtQ.ob (f : FmtQ) (lo len : Nat) : Nat := nbits f.ops.toNat lo len

/-- No register, I or IMM field is used. -/
def FmtR.bareR (f : FmtR) : Bool := f.rd == 0 && f.rs1 == 0 && f.rs2 == 0 && !f.i && f.imm == 0

/-- Only IMM is used. -/
def FmtR.immOnlyR (f : FmtR) : Bool := f.rd == 0 && f.rs1 == 0 && f.rs2 == 0 && !f.i

/-- Operand B of an arithmetic instruction (R131, R150). -/
def FmtR.opB (f : FmtR) (a : Arch) : Word := if f.i then f.imm else a.reg f.rs2.toNat

/-- The operand-B form is legal (R131, R134): with I the RS2 field is unused, without it IMM is. -/
def FmtR.opBLegal (f : FmtR) : Bool := if f.i then f.rs2 == 0 else f.imm == 0 && readable f.rs2

/-- The angle qualifier is legal (R132, R134). -/
def FmtQ.aqLegal (f : FmtQ) : Bool :=
  if f.aq = 0 then f.qop == 0
  else if f.aq = 1 then nbits f.qop.toNat 0 23 == 0
  else f.aq == 2

/-- The wedge number of the qualifier is in range (R135). -/
def FmtQ.wedgeOk (f : FmtQ) (s : State) : Bool :=
  !(f.aq == 2) || decide (nbits f.qop.toNat 16 10 < s.get Fld.ANG_CFG_WEDGES)

/-- The qualifier angle (R135); none for AQ 00. For AQ 10 it is taken at issue, on the reference surface of the heads bound then (DESIGN
CHOICE, log 91). -/
def FmtQ.angle (f : FmtQ) (s : State) (x : Act) (a : Arch) : Option Nat :=
  if f.aq = 1 then some (a.reg (0x28 + nbits f.qop.toNat 23 3)).toNat
  else if f.aq = 2 then
    some ((s.wedgeAngle (s.refSurface x) (nbits f.qop.toNat 16 10) + nbits f.qop.toNat 0 16 * 256) % 2 ^ 32)
  else none

end Sys2Proof
end

