-- ==== Sys2Proof/Machine/Issue.lean ====
section
/-!
DEFINITION. Issue, beginning and completion of instructions (R130, R133 to R149, R188 to R192): the frame every instruction's
meaning stands in, the work list, and what ends the waits that hold issue.
-/
namespace Sys2Proof.Machine

/-- The instruction counts in the instruction distance (R188): all but COMMIT, HALT and YIELD. -/
def countsDist (op : Nat) : Bool := !(op == 0xC0 || op == 0x05 || op == 0x08)

/-- The sequencer may issue (R137, R141, R188, R189, R217): a slot is in RUN, no wait, squash or routine in progress holds it,
and the window has room; a routine that DISP dispatched has been counted already. -/
def Msq.canIssue (m : Msq) (op : Nat) : Bool :=
  m.running.isSome && m.wait.isNone && !m.sqWait && (!m.micro.on || m.micro.fresh)
    && (!countsDist op || m.micro.fresh || decide (m.dist < 32))

/-- An instruction's issue: illegal forms and fetch faults are program errors, a false guard retires it without effect, and
otherwise its body runs on the slot's speculative state with the PC already past it. The body gives the state or an error
code. -/
def State.issue (s : State) (x : Act) (op : Nat) (g n : Bool) (p : BitVec 2) (legal : Bool)
    (body : Nat → Arch → State → Except Nat State) : State :=
  let m := s.msq x
  match m.running with
  | none => s
  | some k =>
    if !s.actOk x || !m.canIssue op then s
    else
      let a := (m.slot k).spec
      if !pcInSram a.pc then s.progError x a.pc errFetch
      else if !m.dispatchValid op then s.progError x a.pc errIllegal
      else
        let a1 := { a with pc := (a.pc + 8) % 2 ^ 32 }
        let dist := if countsDist op && !m.micro.fresh then m.dist + 1 else m.dist
        let s1 := s.setMsq x { m.setSpec k a1 with dist := dist, micro := { Micro.idle with events := m.micro.events } }
        if guardFalse a g n p && guardLegal g n p then s1
        else if !(guardLegal g n p && legal) then s.progError x a.pc errIllegal
        else
          match body k a1 s1 with
          | .ok s2 => s2
          | .error c => s.progError x a.pc c

/-- An issue of a format-R instruction. -/
def State.issueR (s : State) (x : Act) (op : Nat) (f : FmtR) (legal : Bool)
    (body : Nat → Arch → State → Except Nat State) : State :=
  s.issue x op f.g f.n f.p (legal && !f.z) body

/-- An issue of a format-Q instruction. -/
def State.issueQ (s : State) (x : Act) (op : Nat) (f : FmtQ) (legal : Bool)
    (body : Nat → Arch → State → Except Nat State) : State :=
  s.issue x op f.g f.n f.p (legal && f.aqLegal) (fun k a t => if f.wedgeOk t then body k a t else .error errOperand)

/-- The speculative register state of the running slot replaced. -/
def State.setSpec (s : State) (x : Act) (k : Nat) (a : Arch) : State := s.setMsq x ((s.msq x).setSpec k a)

/-- A work item appended in program order (R138). -/
def State.addWork (s : State) (x : Act) (w : Work) : State := s.setMsq x { s.msq x with work := (s.msq x).work ++ [w] }

/-- A new item: begun at once only when `advance` finds it ready. -/
def mkWork (kind : WorkKind) (pc : Nat) (qang : Option Nat) : Work :=
  { kind := kind, pc := pc, qang := qang, cmp := none, qmet := qang.isNone, begun := false, done := false }

/-- A positioning instruction's item (R138). -/
def WorkKind.isPos : WorkKind → Bool
  | .seek .. | .follow .. | .offset .. | .headsel .. | .loadh | .unloadh => true
  | _ => false

/-- An assist item: HEAT or ASSIST (R140). -/
def WorkKind.isAssist : WorkKind → Bool
  | .heat .. | .assist .. => true
  | _ => false

/-- A media item (R160). -/
def WorkKind.isMedia : WorkKind → Bool
  | .media .. => true
  | _ => false

/-- A pending commit (R198). -/
def WorkKind.isCommit : WorkKind → Bool
  | .commit .. => true
  | _ => false

/-- The channels an item uses. -/
def WorkKind.chs : WorkKind → Nat
  | .seek c _ _ => c
  | .follow c _ => c
  | .offset c _ => c
  | .headsel c _ => 1 + c
  | .loadh => 3
  | .unloadh => 3
  | .heat c _ _ => c
  | .assist c _ _ => c
  | .media r => r.chs
  | .commit .. => 0

/-- A media item has closed its last gate (R139): its last position has passed the head on every channel. What is still decoding goes
on. `past` tells whether an ATS has come. -/
def Work.gatesShut (past : Nat → Bool) (w : Work) : Bool :=
  match w.kind with
  | .media r => w.done || (w.begun && r.laned && (!inMask r.chs false || past r.gate0) && (!inMask r.chs true || past r.gate1))
  | _ => true

/-- Two items share a channel. -/
def Work.shares (v w : Work) : Bool := (v.kind.chs &&& w.kind.chs) != 0

/-- The item is ready as far as the items before it are concerned (R138 to R140): a positioning item after every earlier
media item has closed its last gate and every earlier positioning item has completed; a media item after every earlier
positioning, HEAT and ASSIST item has completed; a HEAT or ASSIST item after every earlier media and assist item of its channels has
begun. -/
def orderReady (past : Nat → Bool) (before : List Work) (w : Work) : Bool :=
  if w.kind.isPos then before.all (fun v => v.gatesShut past && (!v.kind.isPos || v.done))
  else if w.kind.isMedia then before.all (fun v => (!v.kind.isPos && !v.kind.isAssist) || v.done)
  else if w.kind.isAssist then before.all (fun v => !(v.kind.isMedia || v.kind.isAssist) || !v.shares w || v.begun || v.done)
  else true

/-- The channels of a media item are free for it (R138): the earlier media items of its channels have closed their gates. -/
def chanFree (past : Nat → Bool) (before : List Work) (w : Work) : Bool :=
  !w.kind.isMedia || before.all (fun v => !v.kind.isMedia || !v.shares w || v.gatesShut past)

/-- The heads of a mask have a bound head each. -/
def Msq.boundAll (m : Msq) (mask : Nat) : Bool :=
  (!inMask mask false || m.pos0.head.isSome) && (!inMask mask true || m.pos1.head.isSome)

/-- The heads of a mask have a target track each (R157). -/
def Msq.targetAll (m : Msq) (mask : Nat) : Bool :=
  (!inMask mask false || m.pos0.target.isSome) && (!inMask mask true || m.pos1.target.isSome)

/-- The heads of a mask are in a heater mode. -/
def Msq.heatAll (m : Msq) (mask mode : Nat) : Bool :=
  (!inMask mask false || m.pos0.heat == mode) && (!inMask mask true || m.pos1.heat == mode)

/-- The bound heads of a mask are enabled in MSQx_HEADS (R167). -/
def State.enabledAll (s : State) (x : Act) (mask : Nat) : Bool :=
  let ok (p : ChPos) : Bool := match p.head with
    | some h => (s.get (Fld.MSQ_HEADS_EN x)).testBit h
    | none => false
  (!inMask mask false || ok (s.msq x).pos0) && (!inMask mask true || ok (s.msq x).pos1)

/-- The heater mode a media operation needs (R165). -/
def MediaOp.heat : MediaOp → Nat
  | .write | .eraseb => 2
  | _ => 1

/-- A media operation needs a bound context (R165). -/
def MediaOp.needsCtx : MediaOp → Bool
  | .read | .write | .scan => true
  | _ => false

/-- Wedge boundaries from the angular commit point to an angle (R191). -/
def State.boundariesTo (s : State) (x : Act) (ang : Nat) : Nat :=
  match (s.msq x).acp with
  | none => 0
  | some w =>
    let base := s.wedgeAngle (s.refSurface x) w
    ((ang + 2 ^ 32 - base) % 2 ^ 32) * s.get Fld.ANG_CFG_WEDGES / 2 ^ 32

/-- The lowest comparator that is not armed; the microcode's choice is not given (log 20). -/
def freeCmp (c : List (Nat × Cmp)) : Nat :=
  match (List.range 64).find? (fun k => (mfind c k).isNone) with
  | some k => k
  | none => 63

/-- A comparator armed for a qualifier angle when it lies within 8 boundaries (R136, R191). -/
def State.armQual (s : State) (x : Act) (ang : Nat) : Option (Nat × State) :=
  if s.boundariesTo x ang ≤ 8 then
    let k := freeCmp (s.cmps x)
    some (k, s.setCmps x (mput (s.cmps x) k { target := ang, dest := 0, hit := false }))
  else none

/-- The restart gate of R218 is open for a media item. -/
def State.gateOpen (s : State) (x : Act) (mode : Nat) : Bool :=
  let m := s.msq x
  !m.gate218 || (m.wgPassed && s.settled x 3 (mode == 2))

/-- A run does not fit its track (R161): a COUNT above SPT, or a start sector of SPT or more. -/
def State.runOut (s : State) (x : Act) (r : MediaRun) : Bool :=
  let out (second : Bool) : Bool := inMask r.chs second && (decide (s.spt x second < r.count) || decide (s.spt x second ≤ r.sec second))
  out false || out true

/-- The targets of a SEEK cannot be reached (R154): outside every zone (R352), or a pair beyond the reach of R369. -/
def State.seekFar (s : State) (x : Act) (c t1 t2 : Nat) : Bool :=
  (inMask c false && !s.seekZone x false t1) || (inMask c true && !s.seekZone x true t2) || (c == 3 && !s.pairReach x t1 t2)

/-- What stops an item when it is ready to begin (R154 to R161, R167, R314, R326, R801); none: it begins. MSQx_ERR_STATE comes before
MSQx_ERR_OPERAND. -/
def State.beginError (s : State) (x : Act) (w : Work) : Option Nat :=
  let m := s.msq x
  match w.kind with
  | .seek c t1 t2 =>
    if !s.loaded x || !m.boundAll c then some errState
    else if w.opErr || s.seekFar x c t1 t2 then some errOperand else none
  | .follow c _ =>
    if !s.loaded x || !m.boundAll c || !m.targetAll c then some errState else if w.opErr then some errOperand else none
  | .offset c o =>
    if !s.loaded x || !m.boundAll c || !m.targetAll c then some errState
    else if w.opErr || !s.offsetReach x c o then some errOperand else none
  | .headsel c h => if (m.pos (c == 0)).head = some h then some errOperand else none
  | .loadh => if !s.canLoad x then some errState else none
  | .unloadh => if !s.loaded x then some errState else none
  | .media r =>
    if !s.loaded x || !m.boundAll r.chs || !m.targetAll r.chs || !m.heatAll r.chs r.op.heat || !s.enabledAll x r.chs then some errState
    else if s.runOut x r then some errOperand
    else s.mediaBlocked x r
  | .heat c _ pow => if pow.isNone && !s.ptAll x c then some errState else none
  | .assist c en sp =>
    if en && s.get (Fld.WRP_CFG_AMODE x) == 0 then some errState
    else if en && sp.isNone && !s.ptAll x c then some errState
    else none
  | .commit .. => none

/-- The heads of a mask have entered the zones of their targets: ANG_BPRn takes each zone's bit clock (R106). -/
def State.zoneClocks (s : State) (x : Act) (c : Nat) : State :=
  let one (second : Bool) (t : State) : State :=
    if inMask c second && (t.chZone x second).isSome then t.setBpr (chanOf x second) (t.chZoneWord x second 3) else t
  one true (one false s)

/-- What an item does as it begins: the positioner's command to LPE, the channels' operation, the heater or assist setting. A SEEK of one
channel leaves the other's head without a target (R370). -/
def State.beginEffect (s : State) (x : Act) (w : Work) : State :=
  let m := s.msq x
  match w.kind with
  | .seek c t1 t2 =>
    let p0 := if inMask c false then { m.pos0 with target := some t1, ofs := 0 } else { m.pos0 with target := none }
    let p1 := if inMask c true then { m.pos1 with target := some t2, ofs := 0 } else { m.pos1 with target := none }
    let s1 := s.annUsed x c t1 t2
    ((s1.setMsq x { m with pos0 := p0, pos1 := p1 }).zoneClocks x c).lpeSeek x c
  | .follow .. => s
  | .offset c o =>
    let p0 := if inMask c false then { m.pos0 with ofs := o } else m.pos0
    let p1 := if inMask c true then { m.pos1 with ofs := o } else m.pos1
    (s.setMsq x { m with pos0 := p0, pos1 := p1 }).lpeOffset x c
  | .headsel c h =>
    ((s.setMsq x (m.setPos (c == 1) { m.pos (c == 1) with head := some h, ofs := 0, target := none, heat := 0, hpow := none })).headFrame
      x (c == 1) h).headStrobe x
  | .loadh => s.lpeLoad x
  | .unloadh => s.lpeUnload x
  | .heat .. => s
  | .assist .. => s
  | .media r => (s.setMsq x { m with gate218 := false }).channelBegin x r (w.readyAt.getD s.ang.ats)
  | .commit .. => s

/-- A ready item is held: a media item by the restart gate (R218), by BUF or by the throttle (R309, R518, R559), a SEEK by its
announcement (R721). -/
def State.itemHeld (s : State) (x : Act) (w : Work) : Bool :=
  match w.kind with
  | .media r => !s.gateOpen x r.op.heat || s.mediaWaits x r
  | .seek c t1 t2 => s.seekHeld x c t1 t2
  | _ => false

/-- A SEEK that is held and found no place for its announcement takes one as soon as it can (R721). -/
def State.heldAgain (s : State) (x : Act) (w : Work) : State :=
  match w.kind with
  | .seek c t1 t2 => s.announce x c t1 t2
  | _ => s

/-- A media item that is ready under R139 and R140, its qualifier met and the restart gate open, notes the moment (R162, R218). -/
def State.markReady (s : State) (x : Act) (w : Work) : Work :=
  match w.kind with
  | .media r => if s.gateOpen x r.op.heat && w.readyAt.isNone then { w with readyAt := some s.ang.ats } else w
  | _ => w

/-- A media item as it begins: the ATS at which its gates close on each channel (R139). -/
def State.withGates (s : State) (x : Act) (w : Work) : Work :=
  match w.kind with
  | .media r =>
    let at_ (second : Bool) : Nat := s.runStart x second r (w.readyAt.getD s.ang.ats) + s.runLength x second r
    { w with begun := true, kind := .media { r with gate0 := at_ false, gate1 := at_ true } }
  | _ => { w with begun := true }

/-- One pass over the work list: each item that has not begun and is ready begins, or arms its qualifier, or stops the slot
with a program error (a positioning item also while its qualifier is open, R801). `before` are the items already passed. -/
def State.beginItems (x : Act) : List Work → List Work → State → State
  | _, [], s => s
  | before, w :: t, s =>
    if w.begun || w.done || w.kind.isCommit || !orderReady s.atsPast before w then s.beginItems x (before ++ [w]) t
    else
      match (if w.kind.isPos then s.beginError x w else none) with
      | some c => s.progError x w.pc c
      | none =>
        if !w.qmet then
          match w.qang, w.cmp with
          | some ang, none =>
            match s.armQual x ang with
            | some (k, s1) =>
              let w1 := { w with cmp := some k }
              (s1.setMsq x { s1.msq x with work := before ++ w1 :: t }).beginItems x (before ++ [w1]) t
            | none => s.beginItems x (before ++ [w]) t
          | _, _ => s.beginItems x (before ++ [w]) t
        else
          let w0 := s.markReady x w
          if !chanFree s.atsPast before w || s.itemHeld x w then
            ((s.setMsq x { s.msq x with work := before ++ w0 :: t }).heldAgain x w).beginItems x (before ++ [w0]) t
          else
            match s.beginError x w with
            | some c => s.progError x w.pc c
            | none =>
              let w1 := s.withGates x w0
              ((s.setMsq x { s.msq x with work := before ++ w1 :: t }).beginEffect x w1).beginItems x (before ++ [w1]) t

/-- Items that may begin now do. -/
def State.beginReady (s : State) (x : Act) : State := s.beginItems x [] (s.msq x).work

/-- Every issued instruction has completed (R142): a COMMIT does so at its commit, which takes it from the list. A WRREG that no COMMIT
follows yet is not waited for: it would never complete (log 90). -/
def Msq.allDone (m : Msq) : Bool := m.work.all (fun w => w.done)

/-- Every media instruction has completed. -/
def Msq.mediaDone (m : Msq) : Bool := m.work.all (fun w => w.done || !w.kind.isMedia)

/-- The wait that holds issue ended. -/
def State.endWait (s : State) (x : Act) : State := s.setMsq x { s.msq x with wait := none }

/-- The settings of both channels after an issued item has had its effect on them (R202): an item that has had it already changes
nothing. -/
def Work.settle (p : ChPos × ChPos) (w : Work) : ChPos × ChPos :=
  let on (c : Nat) (f : ChPos → ChPos) : ChPos × ChPos := (if inMask c false then f p.1 else p.1, if inMask c true then f p.2 else p.2)
  match w.kind with
  | .seek c t1 t2 =>
    if w.begun then p
    else (if inMask c false then { p.1 with target := some t1, ofs := 0 } else { p.1 with target := none },
      if inMask c true then { p.2 with target := some t2, ofs := 0 } else { p.2 with target := none })
  | .offset c o => if w.begun then p else on c (fun q => { q with ofs := o })
  | .headsel c h => if w.begun then p else on (1 + c) (fun q => { q with head := some h, ofs := 0, target := none, heat := 0, hpow := none })
  | .heat c mode pw => if w.done || !w.qmet then p else on c (fun q => { q with heat := mode, hpow := pw })
  | .assist c en sp => if w.done then p else on c (fun q => { q with assist := en, setp := sp })
  | _ => p

/-- A commit point registered (R176, R145, R149, R202): what it will make final is the register state at its issue and the settings
that the instructions issued before it leave. -/
def State.registerCommit (s : State) (x : Act) (k kind : Nat) : State :=
  let m := s.msq x
  let a := (m.slot k).spec
  let p := m.work.foldl Work.settle (m.pos0, m.pos1)
  s.setMsq x { m with
    work := m.work ++ [{ mkWork (.commit kind a p.1 p.2 m.staged m.dist) a.pc none with begun := true }],
    staged := [] }

/-- The branch of BRC (R144). -/
def brcApply (a : Arch) (mask : Nat) (sense clr : Bool) (imm : Int) : Arch :=
  let hit := a.flags &&& mask != 0
  let a1 := if hit != sense then { a with pc := branchTo ((a.pc + 2 ^ 32 - 8) % 2 ^ 32) imm } else a
  if clr then { a1 with flags := a.flags &&& (15 - mask) } else a1

/-- The events of WAITE that hold now (R147): SETTLE 1, PLKRDY 2, DOORBELL 4, BCLK 8. A channel with no bound head does not hold SETTLE
back (DESIGN CHOICE, log 91). -/
def State.waiteHolds (s : State) (x : Act) (k events : Nat) : Bool :=
  (events.testBit 0 && s.settled x 3 false)
    || (events.testBit 1 && s.plkReady x)
    || (events.testBit 2 && (s.get (Fld.MSQ_DOORBELL_RING x)).testBit k)
    || (events.testBit 3 && s.bclkOk (chanOf x false) && s.bclkOk (chanOf x true))

/-- The end of a WAITE by an event: the predicate reads 1; a wait that DOORBELL ended clears the slot's doorbell
(R148). Where another selected event holds as well, DOORBELL counts as having ended the wait (DESIGN CHOICE, log 91). -/
def State.waiteEnd (s : State) (x : Act) (k events pred : Nat) : State :=
  let rang := events.testBit 2 && (s.get (Fld.MSQ_DOORBELL_RING x)).testBit k
  let m := s.msq x
  let s1 := (s.setMsq x (m.setSpec k ((m.slot k).spec.setReg pred 1#32))).endWait x
  if rang then
    s1.put (Fld.MSQ_DOORBELL_RING x) ((s.get (Fld.MSQ_DOORBELL_RING x)) - 2 ^ k)
  else s1

/-- A wait that holds issue ends when its condition holds (R141, R144, R145, R147, R149, R177). -/
def State.resolveWait (s : State) (x : Act) : State :=
  let m := s.msq x
  match m.running, m.wait with
  | some k, some w =>
    match w with
    | .brc mask sense clr imm =>
      if m.mediaDone then (s.setMsq x (m.setSpec k (brcApply (m.slot k).spec mask sense clr imm))).endWait x else s
    | .fence => if m.allDone then s.endWait x else s
    | .halt =>
      if m.allDone then s.registerCommit x k 1 else s
    | .yield =>
      if m.allDone then s.registerCommit x k 2 else s
    | .waite ev pred _ _ => if s.waiteHolds x k ev then s.waiteEnd x k ev pred else s
    | .waita ang none rev =>
      match s.armQual x ang with
      | some (c, s1) => s1.setMsq x { s1.msq x with wait := some (.waita ang (some c) rev) }
      | none => s
    | _ => s
  | _, _ => s

/-- What follows any change that may let issued work go on: items begin, and a wait may end. -/
def State.advance (s : State) (x : Act) : State :=
  if (s.msq x).sqWait then s else (s.beginReady x).resolveWait x

/-- The first item that satisfies a test, changed. -/
def updFirst (p : Work → Bool) (f : Work → Work) : List Work → List Work
  | [] => []
  | w :: t => if p w then f w :: t else w :: updFirst p f t

/-- Media flags set in the running slot's speculative state and in the commits that wait behind the item (R113, R198). -/
def addFlags (fl : Nat) (w : Work) : Work :=
  match w.kind with
  | .commit kd a p0 p1 st d => { w with kind := .commit kd { a with flags := a.flags ||| fl } p0 p1 st d }
  | _ => w

/-- Flags given to the commits that stand after the first item that satisfies a test. -/
def flagAfter (p : Work → Bool) (fl : Nat) : List Work → List Work
  | [] => []
  | w :: t => if p w then w :: t.map (addFlags fl) else w :: flagAfter p fl t

/-- A comparator's firing reaches the sequencer (R103, R136): the qualifier or the WAITA it was armed for is met. -/
def State.msqCmpFired (s : State) (x : Act) (k : Nat) : State :=
  let m := s.msq x
  let m1 := { m with
    work := m.work.map (fun (w : Work) => if w.cmp == some k then { w with qmet := true, cmp := none } else w),
    micro := { m.micro with events := m.micro.events ||| 1 } }
  let m2 := match m1.wait with
    | some (.waita _ (some c) _) => if c = k then { m1 with wait := none } else m1
    | _ => m1
  (s.setMsq x m2).advance x

end Sys2Proof.Machine
end

