-- ==== Sys2Proof/Machine/BufOps.lean ====
section
/-!
DEFINITION. Shared operations of BUF (R556 to R563, R596) and of the context table (R638 to R650): windows, media positions,
reservations, entries in SRAM, credits, ends of contexts.
-/
namespace Sys2Proof.Machine

/-! ### Contexts -/

/-- The allocation sequence of a context (R638 word 28). -/
def State.allocSeq (s : State) (n : Nat) : Nat := (mfind s.ccx.seqs n).getD 0

/-- The address of word i of a context's entry (R638). -/
def State.ctxAddr (s : State) (n i : Nat) : Nat := s.get Fld.CCX_CTXBASE_BASE * 2 ^ 17 + 128 * n + 4 * i

/-- A word of a context's entry as CCX reads it: an uncorrectable one raises CCX_FLT_TABLE (R661). -/
def State.ctxWord (s : State) (n i : Nat) : Word × State :=
  if inSram (s.ctxAddr n i) then
    let ((w, bad), s1) := s.sramRead (s.ctxAddr n i)
    (w, if bad then s1.raise Fld.CCX_FLT_TABLE else s1)
  else s.sramWord (s.ctxAddr n i)

/-- A word of a context's entry written. -/
def State.ctxPut (s : State) (n i : Nat) (w : Word) : State := s.sramPut (s.ctxAddr n i) w

/-- Words 16 and 22 of an entry as CCX keeps them (R638). -/
def ctxWord16 (c : Ctx) : Word :=
  BitVec.ofNat 32 (c.kind * 2 ^ 28 + c.st * 2 ^ 24 + c.port * 2 ^ 20 + c.unit * 2 ^ 16 + c.tag % 2 ^ 16)
def ctxWord22 (c : Ctx) : Word := BitVec.ofNat 32 (c.status * 2 ^ 24 + c.credited % 2 ^ 16)

/-- A context set, its entry following. -/
def State.setCtx (s : State) (n : Nat) (c : Ctx) : State :=
  (({ s with ccx := { s.ccx with ctxs := mput s.ccx.ctxs n c } }).ctxPut n 16 (ctxWord16 c)).ctxPut n 22 (ctxWord22 c)

/-- The first non-zero status stays (R644). -/
def Ctx.addStatus (c : Ctx) (st : Nat) : Ctx := if c.status = 0 then { c with status := st } else c

/-- BIND and RESUME are confirmed: the context is ACTIVE and was queued to this actuator (R121, R172). -/
def State.bindOk (s : State) (x : Act) (n : Nat) : Bool :=
  match s.ctx n with
  | some c => c.st == 2 && c.queues.testBit x.idx
  | none => false

/-- A POST's credit (R175, R643): the sectors the slot has committed for the context since its previous POST; FINAL; the first
non-zero status. The counts of other contexts stay (log 88). -/
def State.ccxCredit (s : State) (x : Act) (n st : Nat) (fin : Bool) : State :=
  match (s.msq x).running, s.ctx n with
  | some k, some c =>
    let sl := (s.msq x).slot k
    let c1 := { c with credited := c.credited + (mfind sl.credit n).getD 0, finals := c.finals + b2n fin }
    (s.setSlot x k { sl with credit := mdel sl.credit n }).setCtx n (c1.addStatus st)
  | _, _ => s

/-- A reservation returned (R643). -/
def State.freeResv (s : State) (n : Nat) : State :=
  { s with buf := { s.buf with resv := s.buf.resv.filter (fun r => r.ctx != n), failq := s.buf.failq.filter (fun q => q.1 != n) } }

/-- A completion posted to the host: port, tag and status (R643). -/
def State.post (s : State) (port tag status : Nat) : State := { s with ccx := { s.ccx with posted := some (port, (tag, status)) } }

/-- A key slot changed. -/
def State.setKs (s : State) (i : Nat) (k : KeySlot) : State :=
  { s with cph := { s.cph with slots := mset (fun _ => KeySlot.empty) s.cph.slots i k } }

/-- A bound context has completed (R580). -/
def State.unuseSlot (s : State) (i : Nat) : State := s.setKs i { s.ks i with use := (s.ks i).use - 1 }

/-- A context meets its row of R643: an ENDING one once nothing of it is left in a channel (R648). -/
def State.ctxDone (s : State) (n : Nat) (c : Ctx) : Bool :=
  let shares := wfield (s.peek (s.ctxAddr n 26)) 0 8
  let zs := match s.resvOf n with
    | some r => (match r.zeroFrom with | some z => c.len - z | none => 0)
    | none => 0
  if c.st = 3 then
    [s.ch0, s.ch1, s.ch2, s.ch3].all (fun h => h.out.all (fun e => e.ctx != n))
  else if c.st ≠ 2 ∨ c.slot = none then false
  else if !c.write then decide (c.credited + zs = c.len) && decide (shares ≤ c.finals) && c.xferDone
  else if c.caching || (s.peek (s.ctxAddr n 17)).getLsbD 1 then decide (c.cached = c.len)
  else decide (c.credited = c.len) && decide (shares ≤ c.finals)

/-- A context freed (R643): its completion posted, its reservation and its slot's use returned. -/
def State.ctxFree (s : State) (n : Nat) (c : Ctx) : State :=
  let s1 : State := if c.kind = 2 then { s with ccx := { s.ccx with qn := s.ccx.qn ++ [(n, true)] } }
    else if c.silent then s else s.post c.port c.tag c.status
  let s2 := s1.freeResv n
  let s3 := match c.slot with
    | some i => s2.unuseSlot i
    | none => s2
  let s4 := s3.setCtx n { c with st := 0 }
  { s4 with ccx := { s4.ccx with ctxs := mdel s4.ccx.ctxs n } }

/-- The order of R649 among what ends a context: KEYERASE, host abort, timeout, the rest. -/
def endRank (bit status : Nat) : Nat := if bit = 10 then 1 else if status = 8 then 2 else if status = 7 then 3 else 4

/-- An event of a rank may still end a context: it does not end yet, or began to in this tick by an event that R649 names later. -/
def State.endable (s : State) (rank : Nat) (c : Ctx) : Bool :=
  c.st != 3 || (match c.ended with
    | some (t, (r0, _)) => t == s.now && decide (rank < r0)
    | none => false)

/-- A context begins to end (R648): ENDING; slots bound to it are squashed or faulted by the cause of R207 (9 CTXEND,
10 KEYERASE); a stalled admission is released. One that has completed completes (R649), and of two ends in one tick the one that
R649 names first gives the status. -/
def State.endCtx (s : State) (n status bit : Nat) (silent : Bool) : State :=
  match s.ctx n with
  | none => s
  | some c =>
    let r := endRank bit status
    if c.st = 3 then
      match c.ended with
      | some (t, (r0, st0)) =>
        if t = s.now ∧ r < r0 then
          s.setCtx n { ({ c with status := st0 }).addStatus status with silent := c.silent || silent, ended := some (t, (r, st0)) }
        else s
      | none => s
    else if s.ctxDone n c then s.ctxFree n c
    else
      let s1 := s.setCtx n { (c.addStatus status) with
        st := 3, silent := c.silent || silent, ended := some (s.now, (r, c.status)) }
      let s2 := { s1 with
        buf := { s1.buf with wait := s1.buf.wait.filter (fun w => w != n) },
        ccx := { s1.ccx with
          kwait := s1.ccx.kwait.filter (fun w => w.1 != n), qa := s1.ccx.qa.filter (fun w => w != n),
          qb := s1.ccx.qb.filter (fun w => w != n), qn := s1.ccx.qn.filter (fun w => w.1 != n) } }
      (s2.ctxEnd .a bit n).ctxEnd .b bit n

/-- Every context that satisfies a test ends. -/
def State.endCtxs (s : State) (p : Ctx → Bool) (status bit : Nat) (silent : Bool) : State :=
  s.ccx.ctxs.foldl (fun t e => if p e.2 then t.endCtx e.1 status bit silent else t) s

/-! ### Buffers -/

/-- The positions of a context's transfer: its length in sectors. -/
def State.ctxLen (s : State) (n : Nat) : Nat := match s.ctx n with
  | some c => c.len
  | none => 0

/-- The context is a write. -/
def State.ctxWrite (s : State) (n : Nat) : Bool := match s.ctx n with
  | some c => c.write
  | none => false

/-- A window's first position, and its positions below the end of the transfer (R558). -/
def Resv.win (r : Resv) (second : Bool) : Nat := if second then r.win1 else r.win0
def winPositions (start len : Nat) : List Nat := (List.range (min 256 (len - start))).map (fun i => start + i)

/-- A window is filled: every position of it is; published: every one lies below the media position and has left its lane
(R596). -/
def Resv.full (r : Resv) (second : Bool) (len : Nat) : Bool := (winPositions (r.win second) len).all (fun p => r.filled.contains p)
def Resv.published (r : Resv) (second : Bool) (len : Nat) : Bool :=
  let zero (p : Nat) : Bool := match r.zeroFrom with
    | some z => decide (z ≤ p)
    | none => false
  decide (r.win second < len) && (winPositions (r.win second) len).all (fun p => (decide (p < r.pub) || zero p) && r.filled.contains p)

/-- A window advances by 512 positions (R558). -/
def Resv.advance (r : Resv) (second : Bool) : Resv :=
  let w := r.win second
  let out (l : List Nat) : List Nat := l.filter (fun p => !(decide (w ≤ p) && decide (p < w + 256)))
  let r1 := { r with filled := out r.filled, bad := out r.bad }
  if second then { r1 with win1 := r.win1 + 512, held1 := false } else { r1 with win0 := r.win0 + 512, held0 := false }

/-- The segment of a window is withheld. -/
def Resv.held (r : Resv) (second : Bool) : Bool := if second then r.held1 else r.held0

/-- A read window that has filled with failed positions is withheld (R562). -/
def State.withhold (s : State) (n : Nat) (second : Bool) : State :=
  match s.resvOf n with
  | none => s
  | some r =>
    let w := r.win second
    if r.published second (s.ctxLen n) && r.bad.any (fun p => decide (w ≤ p) && decide (p < w + 256)) && !r.held second then
      let r1 := if second then { r with held1 := true } else { r with held0 := true }
      let s1 := s.setResv r1
      ({ s1 with buf := { s1.buf with failq := s1.buf.failq ++ [(n, if second then r.seg1 else r.seg0)] } }).raise
        Fld.BUF_EV_SEGFAIL
    else s

/-- A write window that media commits have released advances (R558, R174). -/
def State.release (s : State) (n : Nat) (second : Bool) : State :=
  match s.resvOf n with
  | none => s
  | some r =>
    let w := r.win second
    if decide (w < s.ctxLen n) && decide (min (w + 256) (s.ctxLen n) ≤ r.pub) then s.setResv (r.advance second) else s

/-- The media position of a context's committed BADV (R174). -/
def State.bufMediaPos (s : State) (n p : Nat) : State :=
  match s.resvOf n with
  | none => s
  | some r =>
    let s1 := s.setResv { r with pub := p }
    if s1.ctxWrite n then (s1.release n false).release n true else (s1.withhold n false).withhold n true

/-- A stream position filled (R557): by the host for a write, by an XTS lane for a read. -/
def State.fillPos (s : State) (n p : Nat) : State :=
  match s.resvOf n with
  | none => s
  | some r => s.setResv { r with filled := if r.filled.contains p then r.filled else r.filled ++ [p] }

/-- The DRAM code-word index of a stream position of a context (R557), 512 words each. -/
def State.posWord (s : State) (n p : Nat) : Option Nat :=
  (s.resvOf n).map (fun r =>
    (s.get Fld.BUF_POOL_BASE + (if p / 256 % 2 = 1 then r.seg1 else r.seg0)) * 2 ^ 17 + p % 256 * 512)

/-- A fresh reservation. -/
def mkResv (n a b : Nat) (reserve : Bool) : Resv :=
  { ctx := n, seg0 := a, seg1 := b, reserve := reserve, win0 := 0, win1 := 256, filled := [], bad := [], pub := 0,
    held0 := false, held1 := false, zeroFrom := none }

/-- BUF grants two segments, or the reserve to the oldest waiting context (R560); none when it cannot. -/
def State.tryGrant (s : State) (n : Nat) : Option State :=
  match s.freeSegs with
  | a :: b :: _ => some { s with buf := { s.buf with resv := s.buf.resv ++ [mkResv n a b false] } }
  | _ =>
    if s.buf.resv.any (fun r => r.reserve) || decide (s.get Fld.BUF_POOL_COUNT < 4) then none
    else
      let r := s.reserveFirst
      let s1 : State := { s with buf := { s.buf with resv := s.buf.resv ++ [mkResv n r (r + 1) true] } }
      some ((s1.bump Fld.BUF_CNT_RESV 1).raise Fld.BUF_EV_RESV)

end Sys2Proof.Machine
end

