-- ==== Sys2Proof/Machine/Memory.lean ====
section
/-!
DEFINITION. The commands of MEM and BUF (R526 to R565): training, retraining, temperature polls, refresh, zero-fill, the tracker,
the scrubber, reservations, the pool, withheld segments.
-/
namespace Sys2Proof.Machine

/-- The value a boot ROM service returned to a core (R681). -/
def State.setRet (s : State) (c : Nat) (v : Int) : State :=
  if c = 0 then { s with apc := { s.apc with ret0 := v } } else { s with apc := { s.apc with ret1 := v } }

/-- The boot ROM service of a kind that is in progress ends with a value (R681). -/
def State.svcEnd (s : State) (kind : Nat) (v : Int) : State :=
  match s.apc.svc with
  | some (c, k) => if k = kind then ({ s with apc := { s.apc with svc := none } }).setRet c v else s
  | none => s

/-- The data devices per rank (R526). -/
def State.memDevices (s : State) : Nat :=
  if s.get Fld.MEM_CFG_WIDTH = 0 then 8 else if s.get Fld.MEM_CFG_HALF = 0 then 4 else 2

/-- The capacity in GiB that MEM_CFG gives (R526). -/
def State.memCapacity (s : State) : Nat :=
  s.memDevices * (s.get Fld.MEM_CFG_DENS + 1) * (s.get Fld.MEM_CFG_RANKS + 1)

/-- MEM_CFG can be trained (R528): no x8 with HALF, a density and a speed the table names, 2 to 16 GiB. -/
def State.memCfgOk (s : State) : Bool :=
  !(s.get Fld.MEM_CFG_WIDTH == 0 && s.get Fld.MEM_CFG_HALF == 1) && decide (s.get Fld.MEM_CFG_DENS ≤ 3)
    && decide (s.get Fld.MEM_CFG_SPEED ≤ 4) && decide (2 ≤ s.memCapacity) && decide (s.memCapacity ≤ 16)

/-- DRAM_TRAINING_DONE (R531, R528): TRAINED reads 1 and SIZE the capacity; a configuration that MEM refuses raises
MEM_FLT_TRAIN. -/
def execDramTrainingDone (s : State) : Out :=
  if s.flag Fld.MEM_STAT_TRAINED || s.flag Fld.MEM_STAT_DIS then .next s
  else if !s.memCfgOk then .next (s.raise Fld.MEM_FLT_TRAIN)
  else .next ((s.putb Fld.MEM_STAT_TRAINED true).put Fld.MEM_STAT_SIZE s.memCapacity)

/-- DRAM_TRAINING_TIMEOUT (R531): trained once more; the second expiry raises MEM_FLT_TRAIN and sets DIS (R530). -/
def execDramTrainingTimeout (s : State) : Out :=
  if s.flag Fld.MEM_STAT_TRAINED || s.flag Fld.MEM_STAT_DIS then .next s
  else if s.now < max s.host.startAt s.mem.trainAt + 6400000 then .next s
  else if !s.mem.retried then .next { s with mem := { s.mem with retried := true, trainAt := s.now } }
  else .next ((s.raise Fld.MEM_FLT_TRAIN).putb Fld.MEM_STAT_DIS true).syncMode

/-- RANK_RETRAIN (R532): a write of 1 to a bit of MEM_CTL.RETRAIN. -/
def execRankRetrain (rank : Nat) (s : State) : Out :=
  .next (s.put Fld.MEM_CTL_RETRAIN (s.get Fld.MEM_CTL_RETRAIN ||| 2 ^ (rank % 2)))

/-- RANK_RETRAIN_DONE (R532). -/
def execRankRetrainDone (rank : Nat) (s : State) : Out :=
  if (s.get Fld.MEM_CTL_RETRAIN).testBit (rank % 2) then
    .next ((s.put Fld.MEM_CTL_RETRAIN (s.get Fld.MEM_CTL_RETRAIN - 2 ^ (rank % 2))).raise Fld.MEM_EV_RETRAINDONE)
  else .next s

/-- DRAM_TEMPERATURE_POLL (R533): `hot`, a device above 85 C. -/
def execDramTemperaturePoll (hot : Bool) (s : State) : Out :=
  if !s.flag Fld.MEM_STAT_TRAINED then .next s
  else if hot then
    let s1 : State := { s with mem := { s.mem with cool := 0 } }
    .next (if s1.flag Fld.MEM_STAT_REFX2 then s1 else (s1.putb Fld.MEM_STAT_REFX2 true).raise Fld.MEM_EV_REFX2)
  else
    let s1 : State := { s with mem := { s.mem with cool := s.mem.cool + 1 } }
    .next (if 2 ≤ s1.mem.cool then s1.putb Fld.MEM_STAT_REFX2 false else s1)

/-- REFRESH_WATCHDOG (R534): the missed refreshes are issued. -/
def execRefreshWatchdog (s : State) : Out := .next ((s.putb Fld.MEM_STAT_REFLOST true).raise Fld.MEM_FLT_REFWD)

/-- The zero-fill range in code words: its first and the one past its last, within installed DRAM (R544). -/
def State.zfRange (s : State) : Nat × Nat :=
  let a := s.get Fld.MEM_ZFOFS_OFS * 16
  let b := (s.get Fld.MEM_ZFOFS_OFS + s.get Fld.MEM_ZFLEN_LEN) * 16
  (a, min b (s.dramBytes / 8))

/-- The zero-fill engine starts (R544): until it is done the range reads as never written (R545). -/
def State.zeroFill (s : State) : State :=
  if s.flag Fld.MEM_CTL_ZFGO then s
  else
    let r := s.zfRange
    let s1 := s.putb Fld.MEM_CTL_ZFGO true
    { s1 with mem := { s1.mem with dram := s1.mem.dram.filter (fun e => !(decide (r.1 ≤ e.1) && decide (e.1 < r.2))) } }

/-- ZERO_FILL (R544). -/
def execZeroFill (s : State) : Out := .next s.zeroFill

/-- Zeros with valid check symbols in n code words from a first. -/
def State.zeros : Nat → Nat → State → State
  | 0, _, s => s
  | n + 1, a, s => State.zeros n (a + 1) (s.dramPut a 0)

/-- ZERO_FILL_DONE (R544, R545): the range holds zeros, whatever was written there meanwhile. -/
def execZeroFillDone (s : State) : Out :=
  if !s.flag Fld.MEM_CTL_ZFGO then .next s
  else
    let r := s.zfRange
    .next ((((State.zeros (r.2 - r.1) r.1 s).putb Fld.MEM_CTL_ZFGO false).raise Fld.MEM_EV_ZFDONE).svcEnd 2 0)

/-- CORRECTION_TRACK (R547 to R549): the tracker takes the oldest queued correction. -/
def execCorrectionTrack (s : State) : Out :=
  match s.mem.queue with
  | (a, k) :: t => .next (({ s with mem := { s.mem with queue := t } }).track a k)
  | [] => .next s

/-- The entry at MEM_CETCTL.IDX freed (R551). -/
def State.freeCet (s : State) : State := { s with mem := { s.mem with cet := mdel s.mem.cet (s.get Fld.MEM_CETCTL_IDX) } }

/-- TRACKER_ENTRY_FREE (R551). -/
def execTrackerEntryFree (s : State) : Out := .next s.freeCet

/-- One code word scrubbed (R552): a correction is tracked, and written back with SCRWB. -/
def State.scrubWord (s : State) (a : Nat) : State :=
  match s.dramCell a with
  | (.poison _, s1) => s1.memUe 6 a
  | (.word cw, s1) =>
    match decodeWord cw with
    | .clean _ => s1
    | .fixed _ k cw2 => let s2 := s1.memCe a k; if s2.flag Fld.MEM_CTL_SCRWB then s2.dramSet a (.word cw2) else s2
    | .bad _ => s1.memUe 6 a

/-- SCRUB_GRANULE (R552, R553): the granule of 128 bytes at a DRAM offset, as one locked operation; the last of the range ends the
pass. -/
def execScrubGranule (granule : Nat) (s : State) : Out :=
  let base := s.get Fld.MEM_SCRRNG_BASE * 2 ^ 13
  let lim := s.get Fld.MEM_SCRRNG_LIM * 2 ^ 13
  if !s.flag Fld.MEM_CTL_SCRUBEN || !s.flag Fld.MEM_STAT_TRAINED || decide (granule < base) || decide (lim ≤ granule) then .next s
  else
    let s1 := (List.range 16).foldl (fun t k => t.scrubWord (granule * 16 + k)) s
    if granule + 1 = lim then .next ((s1.put Fld.MEM_SCRCFG_POS (base / 2 ^ 13)).raise Fld.MEM_EV_SCRPASS)
    else .next (s1.put Fld.MEM_SCRCFG_POS ((granule + 1) / 2 ^ 13))

/-- A context whose bindings are complete becomes ACTIVE and enters its queues (R641, R642). -/
def State.activate (s : State) (n : Nat) : State :=
  match s.ctx n with
  | none => s
  | some c =>
    let s1 := s.setCtx n { c with st := 2, queues := if c.kind = 0 then (if s.flag Fld.CCX_CFG_INTLV then 4 else 2 ^ (c.unit % 2)) else c.queues }
    let s2 := s1.ctxPut n 26 1
    let enq {α : Type} (q : List α) (v : α) : List α := if c.hoq then v :: q else q ++ [v]
    if c.kind = 0 then
      if s.flag Fld.CCX_CFG_INTLV then { s2 with ccx := { s2.ccx with qn := enq s2.ccx.qn (n, false) } }
      else if c.unit % 2 = 0 then { s2 with ccx := { s2.ccx with qa := enq s2.ccx.qa n } }
      else { s2 with ccx := { s2.ccx with qb := enq s2.ccx.qb n } }
    else s2

/-- A context asks for its reservation (R560, R641): granted at once when none waits before it; otherwise it waits. -/
def State.wantBuf (s : State) (n : Nat) : State :=
  let wait (t : State) : State :=
    (({ t with buf := { t.buf with wait := t.buf.wait ++ [n] } }).bump Fld.BUF_CNT_WAITS 1).raise Fld.BUF_EV_WAIT
  if s.buf.wait.isEmpty then
    match s.tryGrant n with
    | some t => t.activate n
    | none => wait s
  else wait s

/-- BUFFER_RESERVATION_GRANT (R560): the oldest waiting context. -/
def execBufferReservationGrant (s : State) : Out :=
  match s.buf.wait with
  | [] => .next s
  | n :: rest =>
    match s.tryGrant n with
    | some t => .next (({ t with buf := { t.buf with wait := rest } }).activate n)
    | none => .next s

/-- A write of BUF_POOL (R561). -/
def State.bufPool (s : State) (v : Word) : State :=
  let cnt := v.toNat / 2 ^ 16
  let base := v.toNat % 2 ^ 16
  let end_ := (base + cnt) * 2 ^ 20 + cnt * 2 ^ 12
  if !s.buf.resv.isEmpty || decide (cnt < 4) || decide (16383 < cnt) || decide (s.dramBytes < end_) then s.raise Fld.BUF_FLT_POOL
  else s.wr Reg.BUF_POOL v

/-- BUF_POOL_WRITE (R561). -/
def execBufPoolWrite (v : Word) (s : State) : Out := .next (s.bufPool v)

/-- A withheld segment freed to the host (R562). -/
def State.segRelease (s : State) (seg : Nat) : State :=
  if s.buf.failq.any (fun q => q.2 == seg) then
    { s with buf := { s.buf with
      failq := s.buf.failq.filter (fun q => q.2 != seg),
      resv := s.buf.resv.map (fun r =>
        if r.seg0 = seg then { r with held0 := false, bad := r.bad.filter (fun p => !(decide (r.win0 ≤ p) && decide (p < r.win0 + 256))) }
        else if r.seg1 = seg then { r with held1 := false, bad := r.bad.filter (fun p => !(decide (r.win1 ≤ p) && decide (p < r.win1 + 256))) }
        else r) } }
  else s

/-- SEGMENT_RELEASE (R562). -/
def execSegmentRelease (seg : Nat) (s : State) : Out := .next (s.segRelease (seg % 2 ^ 14))

end Sys2Proof.Machine
end

