-- ==== Sys2Proof/Machine/CphOps.lean ====
section
/-!
DEFINITION. Shared operations of CPH (R577 to R608): key slots, locking ranges, binding at admission, cryptographic erase, GCM
jobs.
-/
namespace Sys2Proof.Machine

/-- The generation that follows (R579). -/
def genNext (g : Nat) : Nat := if g = 65535 then 1 else g + 1

/-- A locking-range word (R589). -/
def State.lr (s : State) (range w : Nat) : Nat := (mget (fun _ => (0 : Word)) s.cph.ranges (4 * range + w)).toNat

/-- A range is valid for a namespace, its first LBA and its length (R589). -/
def State.lrFirst (s : State) (r : Nat) : Nat := s.lr r 0 + s.lr r 1 % 8 * 2 ^ 32
def State.lrLen (s : State) (r : Nat) : Nat := s.lr r 2 + s.lr r 3 % 8 * 2 ^ 32
def State.lrValid (s : State) (r unit : Nat) : Bool := nbit (s.lr r 1) 31 && nbits (s.lr r 1) 4 1 == unit

/-- The range holds an LBA. -/
def State.lrHolds (s : State) (r lba : Nat) : Bool := decide (s.lrFirst r ≤ lba) && decide (lba < s.lrFirst r + s.lrLen r)

/-- The namespace's settings word. -/
def State.nscfg (s : State) (unit : Nat) : Nat := (s.rd (if unit = 0 then Reg.CPH_NSCFG0 else Reg.CPH_NSCFG1)).toNat

/-- The slot an admission binds (R590), or the status of its refusal: 0x0A a range boundary, 0x04 locked, 0x09 a key tag beyond
4,095. A command that touches a range only beyond its first LBA crosses a boundary. -/
def State.bindChoice (s : State) (unit : Nat) (write : Bool) (lba len : Nat) (tag : Option Nat) : Except Nat Nat :=
  let rs := (List.range 1024).filter (fun r => s.lrValid r unit)
  let last := lba + len - 1
  let finish (w rl wl slot : Nat) : Except Nat Nat :=
    if (!write && nbit w rl) || (write && nbit w wl) then .error 0x04
    else
      let ns := s.nscfg unit
      match nbit ns 31, tag with
      | true, some t => if 4095 < nbits ns 16 12 + t then .error 0x09 else .ok (nbits ns 16 12 + t)
      | _, _ => .ok slot
  match rs.find? (fun r => s.lrHolds r lba) with
  | some r => if s.lrHolds r last then finish (s.lr r 1) 12 13 (nbits (s.lr r 1) 16 12) else .error 0x0A
  | none =>
    if rs.any (fun r => decide (lba ≤ s.lrFirst r) && decide (s.lrFirst r ≤ last) && decide (0 < s.lrLen r)) then .error 0x0A
    else finish (s.nscfg unit) 12 13 (nbits (s.nscfg unit) 0 12)

/-- A context is bound to a slot (R580): its use count, which saturates at 2,047. -/
def State.useSlot (s : State) (i : Nat) : State := s.setKs i { s.ks i with use := min 2047 ((s.ks i).use + 1) }

/-- An admission binds its slot and asks for its reservation (R581, R587, R641): a slot that is EMPTY or ERASING ends it with NOKEY,
one that is REPLACING stalls it. -/
def State.admitWith (s : State) (n slot : Nat) : State :=
  let k := s.ks slot
  match s.ctx n with
  | none => s
  | some c =>
    if k.st = 0 ∨ k.st = 3 then s.endCtx n 0x05 9 false
    else if k.st = 2 then
      let s1 := s.setCtx n { c with st := 1 }
      { s1 with ccx := { s1.ccx with kwait := s1.ccx.kwait ++ [(n, slot)] } }
    else
      let s1 := s.setCtx n { c with slot := some slot, st := 1 }
      ((s1.useSlot slot).ctxPut n 21 (wput (s1.peek (s1.ctxAddr n 21)) 16 12 slot)).wantBuf n

/-- The counter and limit of a system key at a load (R601, R602): from its record, or a random multiple of 2^20 below 2^63; the new
limit is recorded. -/
def State.loadCounter (s : State) (key : BitVec 512) : (Nat × Nat) × State :=
  let id := Config.keyId key
  let (start, s1) := match mfind s.hwd.records id with
    | some l => (l, s)
    | none =>
      let (v, t) := s.free
      (v.toNat % 2 ^ 43 * 2 ^ 20, t)
  ((start, start + 2 ^ 20), { s1 with hwd := { s1.hwd with records := mput s1.hwd.records id (start + 2 ^ 20) } })

/-- The counter and its limit that a staged key starts with (R601): a system slot's load takes them from its record. -/
def State.stagedCounter (s : State) (i : Nat) : (Nat × Nat) × State :=
  if 4096 ≤ i then s.loadCounter (s.ks i).staged else (((s.ks i).ctr, (s.ks i).limit), s)

/-- The staged key of a REPLACING slot with no use becomes active, with its fixed field and its own counter (R578, R581, R599, R601); the
stalled admissions bind it in order. -/
def State.activateKey (s : State) (i : Nat) : State :=
  let k := s.ks i
  if k.st = 2 ∧ k.use = 0 then
    let ((ctr, lim), s0) := s.stagedCounter i
    let s1 := (s0.setKs i { k with
      st := 1, key := k.staged, staged := 0, gen := genNext k.gen, fixed := k.stFixed, stFixed := 0, ctr := ctr, limit := lim, sess := false,
      sat := false, resvFail := false, iv := 0 }).raise Fld.CPH_EV_REPLACED
    let mine := s1.ccx.kwait.filter (fun w => w.2 == i)
    let s2 : State := { s1 with ccx := { s1.ccx with kwait := s1.ccx.kwait.filter (fun w => w.2 != i) } }
    mine.foldl (fun t w => t.admitWith w.1 i) s2
  else s

/-- A slot erased (R584): ERASING, every copy of its keys zero; contexts bound to it, and stalled admissions, end with
KEY_ERASED. -/
def State.eraseSlot (s : State) (i : Nat) : State :=
  let k := s.ks i
  if k.st = 1 ∨ k.st = 2 then
    let s1 := s.setKs i { k with st := 3, key := 0, staged := 0, stFixed := 0 }
    let stalled := (s1.ccx.kwait.filter (fun w => w.2 == i)).map (fun w => w.1)
    let s2 := s1.endCtxs (fun c => c.slot == some i) 0x03 10 false
    stalled.foldl (fun t n => t.endCtx n 0x03 10 false) s2
  else s

/-- Contexts bound to a slot that have not been freed. -/
def State.boundTo (s : State) (i : Nat) : Bool := s.ccx.ctxs.any (fun e => e.2.slot == some i)

/-! ### GCM jobs -/

/-- Word i of the descriptor at CPH_JOBCI (R598). -/
def State.jobAddr (s : State) (i : Nat) : Nat := s.get Fld.CPH_JOBBASE_BASE * 2 ^ 12 + 64 * s.get Fld.CPH_JOBCI_INDEX + 4 * i

/-- A descriptor's words as read. -/
def State.jobWords (s : State) : List Nat × State :=
  (List.range 11).foldl (fun (p : List Nat × State) i =>
    let (w, t) := p.2.sramWord (p.2.jobAddr i)
    (p.1 ++ [w.toNat], t)) ([], s)

/-- Jobs outstanding (R597). -/
def State.jobPending (s : State) : Bool := s.get Fld.CPH_JOBPI_INDEX != s.get Fld.CPH_JOBCI_INDEX

/-- The use count of a system slot: the outstanding jobs that name it (R580). -/
def State.sysUse (s : State) (k : Nat) : Nat :=
  let pi := s.get Fld.CPH_JOBPI_INDEX
  let ci := s.get Fld.CPH_JOBCI_INDEX
  ((List.range ((pi + 64 - ci) % 64)).filter (fun j =>
    let a := s.get Fld.CPH_JOBBASE_BASE * 2 ^ 12 + 64 * ((ci + j) % 64)
    inSram a && (s.peek a).toNat % 64 == k)).length

/-- The IV of a job (R599, R603): the fixed field and the counter, or the session's IV with the counter. -/
def KeySlot.ivOf (k : KeySlot) (ctr : Nat) : BitVec 96 :=
  if k.sess then k.iv ^^^ BitVec.ofNat 96 ctr else BitVec.ofNat 96 (k.fixed.toNat * 2 ^ 64 + ctr)

/-- A job ends with a status (R597, R598, R607): word 10, the next descriptor, CPH_EV_JOBDONE. -/
def State.jobEnd (s : State) (status : Nat) : State :=
  let s1 := s.sramPut (s.jobAddr 10) (BitVec.ofNat 32 (2 ^ 31 + status * 2 ^ 8))
  (s1.put Fld.CPH_JOBCI_INDEX (s1.get Fld.CPH_JOBCI_INDEX + 1)).raise Fld.CPH_EV_JOBDONE

/-- An untrusted destination captured (R604). -/
def State.untrust (s : State) (addr len : Nat) : State :=
  if s.flag Fld.CPH_UNTRUSTINFO_VALID then s.putb Fld.CPH_UNTRUSTINFO_OVF true
  else ((((s.wr Reg.CPH_UNTRUST (BitVec.ofNat 32 addr)).put Fld.CPH_UNTRUSTINFO_ADDRHI (addr / 2 ^ 32)).put Fld.CPH_UNTRUSTINFO_LEN len).putb
    Fld.CPH_UNTRUSTINFO_VALID true)

/-- A failed authentication counted (R604). -/
def State.authFail (s : State) : State := (s.bump Fld.CPH_CNT_AUTHFAIL 1).raise Fld.CPH_EV_AUTHFAIL

/-- The counter that a slot issues next (R599 to R603), or why it issues none: 0x02 saturated, 0x05 no reservation, 0xFF it waits for
the record. -/
def KeySlot.issue (k : KeySlot) : Except Nat Nat :=
  if k.sat || k.ctr == 2 ^ 64 - 1 then .error 0x02
  else if k.sess then .ok k.ctr
  else if k.resvFail then .error 0x05
  else if k.limit ≤ k.ctr then .error 0xFF
  else .ok k.ctr

/-- A key slot's GCM key. -/
def KeySlot.gcmKey (k : KeySlot) : BitVec 256 := BitVec.ofNat 256 k.key.toNat

/-- The output of the cipher for a payload, as long as the payload (R597). -/
def gcmOut (key : BitVec 256) (iv : BitVec 96) (pay : List Byte) : List Byte := (List.range pay.length).map (Config.gcmCrypt key iv pay)

/-- A tag of a length in bytes (R598). -/
def gcmMac (key : BitVec 256) (iv : BitVec 96) (aad ct : List Byte) (n : Nat) : List Byte := (List.range n).map (Config.gcmTag key iv aad ct)

/-- The data of a GCM or GMAC job with its counter issued (R598, R604, R605): the result and the tag are stored, or the tag is
checked. `o`: 1 encrypt, 2 decrypt, 3 GMAC, 4 verify. -/
def State.gcmMove (s : State) (k : KeySlot) (o ctr src dst tag len aadlen tlen : Nat) : State :=
  let gmac := o == 3 || o == 4
  let iv := k.ivOf ctr
  let ((bytes, ok), s3) := State.bytesAt 4 (aadlen + len) src s
  let aad := bytes.take aadlen
  let pay := bytes.drop aadlen
  if !ok then
    (State.bytesPut 4 (gcmOut k.gcmKey iv (pay.take (pay.length / 16 * 16))) dst s3).jobEnd 0x04
  else
    let out := gcmOut k.gcmKey iv pay
    let s4 := if gmac then s3 else State.bytesPut 4 out dst s3
    if o = 1 ∨ o = 3 then
      (State.bytesPut 4 (gcmMac k.gcmKey iv aad (if o = 1 then out else []) tlen) tag s4).jobEnd 0x00
    else
      let ((want, tok), s5) := State.bytesAt 4 tlen tag s4
      let mac := gcmMac k.gcmKey iv aad (if o = 2 then pay else []) tlen
      if !tok then s5.jobEnd 0x04
      else if want = mac then s5.jobEnd 0x00
      else (if o = 2 then s5.authFail.untrust dst len else s5.authFail).jobEnd 0x01

/-- The counter that a job takes is stored in its record (R600, R601). -/
def State.gcmTake (s : State) (slot : Nat) (k : KeySlot) (ctr : Nat) : State :=
  ((s.setKs slot { k with ctr := k.ctr + 1 }).sramPut (s.jobAddr 8) (BitVec.ofNat 32 (ctr / 2 ^ 32))).sramPut
    (s.jobAddr 9) (BitVec.ofNat 32 ctr)

/-- An address of a descriptor (R598): its low word, and its high digit in word 4. -/
def jobPtr (ws : List Nat) (i : Nat) : Nat := ws.getD i 0 + nbits (ws.getD 4 0) (4 * (i - 1)) 4 * 2 ^ 32

/-- LEN of a descriptor. -/
def jobLen (ws : List Nat) : Nat := ws.getD 5 0 % 2 ^ 24

/-- AADLEN of a descriptor. -/
def jobAad (ws : List Nat) : Nat := ws.getD 6 0 % 2 ^ 16

/-- The invocation counter of a descriptor (words 8 and 9). -/
def jobCtr (ws : List Nat) : Nat := ws.getD 8 0 * 2 ^ 32 + ws.getD 9 0

/-- A job (R597 to R605), by the eleven words of its descriptor; one that waits for its counter reservation stays (R601). -/
def State.gcmRun (s1 : State) (ws : List Nat) (o : Nat) : State :=
  let w (i : Nat) : Nat := ws.getD i 0
  let slot := 4096 + w 0 % 64
  let tlen := nbits (w 0) 16 5
  let src := jobPtr ws 1
  let dst := jobPtr ws 2
  let tag := jobPtr ws 3
  let len := jobLen ws
  let aadlen := jobAad ws
  let gmac := o == 3 || o == 4
  let k := s1.ks slot
  let badOp := decide (o = 0) || decide (4 < o) || decide (tlen < 4) || decide (16 < tlen) || (gmac && len != 0)
    || !s1.inMem src (aadlen + len) || (!gmac && !s1.inMem dst len) || !s1.inMem tag tlen
  if badOp then s1.jobEnd 0x06
  else if k.st = 0 ∨ k.st = 3 then s1.jobEnd 0x03
  else if o = 1 ∨ o = 3 then
    (match k.issue with
      | .ok ctr => (s1.gcmTake slot k ctr).gcmMove k o ctr src dst tag len aadlen tlen
      | .error e => if e = 0xFF then s1 else (s1.setKs slot { k with sat := k.sat || e == 0x02 }).jobEnd e)
  else s1.gcmMove k o (jobCtr ws) src dst tag len aadlen tlen

/-- The ring job at CPH_JOBCI whose OP is `op` runs (R597 to R607). -/
def State.gcmJob (s : State) (op : Nat) : State :=
  if !s.jobPending then s
  else
    let ws := s.jobWords.1
    let o := ws.getD 0 0 / 2 ^ 24
    if o ≠ op ∧ !(op = 1 ∧ (o = 0 ∨ 4 < o)) then s
    else s.jobWords.2.gcmRun ws o

/-! ### The mask DRBG -/

/-- A sector passes an XTS lane (R594, R595): 257 blocks' worth of mask outputs. -/
def State.laneMasks (s : State) : State := { s with cph := { s.cph with masks := s.cph.masks + 257 } }

/-- The lanes take a block (R574): the mask DRBG is seeded and no reseed is due. -/
def State.lanesOpen (s : State) : Bool := s.flag Fld.CPH_STAT_MASKOK && decide (s.cph.masks < 2 ^ 20)

end Sys2Proof.Machine
end

