-- ==== Sys2Proof/Machine/Cph.lean ====
section
/-!
DEFINITION. The commands of CPH (R574 to R604): the mask DRBG, key activation, erase completion, locking-range data, ring jobs,
counter reservations.
-/
namespace Sys2Proof.Machine

/-- MASK_DRBG_RESEED (R574): a reseed is due; with ENTOK 0 it cannot be, the lanes stall and CPH_FLT_MASK is raised. -/
def execMaskDrbgReseed (s : State) : Out :=
  if s.lanesOpen then .next s
  else if s.flag Fld.HWD_STAT_ENTOK then
    .next (({ s with cph := { s.cph with masks := 0 } }).putb Fld.CPH_STAT_MASKOK true)
  else .next ((s.putb Fld.CPH_STAT_MASKOK false).raise Fld.CPH_FLT_MASK)

/-- KEY_ACTIVATION (R578, R581): the staged key of a REPLACING slot whose use count is 0. -/
def execKeyActivation (sys : Bool) (index : Nat) (s : State) : Out :=
  if sys && decide (0 < s.sysUse index) then .next s else .next (s.activateKey (slotIx sys index))

/-- A mailbox request answered (R609): response words, MBRES, GO cleared, HWD_EV_DONE. -/
def State.hwdAnswer (s : State) (status : Nat) (rsp : List Word) : State :=
  let s1 := (rsp.zipIdx).foldl (fun t e => t.wr (Reg.HWD_MBRSP (e.2 % 64)) e.1) s
  let s2 := s1.wr Reg.HWD_MBRES (BitVec.ofNat 32 (status * 2 ^ 24 + s.get Fld.HWD_MBCMD_CODE * 2 ^ 16 + rsp.length))
  let el := min 0xFFFF ((s.now - s.hwd.goAt) / 800000)
  ((((s2.put Fld.HWD_MBTMO_ELAPSED el).putb Fld.HWD_MBCTL_GO false).raise Fld.HWD_EV_DONE).svcEnd 3 status)

/-- ERASE_COMPLETE (R586, R615): a slot in ERASING with no bound context becomes EMPTY; the last of a KEYERASE answers it. -/
def execEraseComplete (sys : Bool) (index : Nat) (s : State) : Out :=
  let i := slotIx sys index
  if (s.ks i).st ≠ 3 ∨ s.boundTo i = true then .next s
  else
    let k := s.ks i
    let s1 := ((s.setKs i { KeySlot.empty with gen := k.gen, use := k.use }).bump Fld.CPH_CNT_ERASE 1).raise Fld.CPH_EV_ERASED
    match s1.hwd.erase with
    | some (a, n) =>
      if (List.range n).any (fun j => (s1.ks (a + j)).st == 3) then .next s1
      else
        let s2 : State := { s1 with hwd := { s1.hwd with erase := none } }
        .next (if s2.flag Fld.HWD_MBCTL_GO then s2.hwdAnswer 0x00 [] else s2)
    | none => .next s1

/-- The range-table address after a data-port access (R589, R628). -/
def State.lrNext (s : State) : State := s.put Fld.CPH_LRADDR_ADDR (s.get Fld.CPH_LRADDR_ADDR + 1)

/-- CPH_LRDATA read. -/
def State.lrRead (s : State) : Word × State := (mget (fun _ => (0 : Word)) s.cph.ranges (s.get Fld.CPH_LRADDR_ADDR), s.lrNext)

/-- CPH_LRDATA written. -/
def State.lrWrite (s : State) (v : Word) : State :=
  ({ s with cph := { s.cph with ranges := mset (fun _ => (0 : Word)) s.cph.ranges (s.get Fld.CPH_LRADDR_ADDR) v } }).lrNext

/-- The value an initiator's last read returned (log 2). -/
def State.setRead (s : State) (i : Initiator) (v : BitVec 64) : State :=
  { s with bus := { s.bus with readData := mset (fun _ => (0 : BitVec 64)) s.bus.readData i.idx v } }

/-- LRDATA_ACCESS (R589, R591). -/
def execLrdataAccess (i : Initiator) (write : Bool) (v : Word) (s : State) : Out :=
  if write then .next (s.lrWrite v)
  else
    let (w, s1) := s.lrRead
    .next (s1.setRead i (w.zeroExtend 64))

/-- GCM_ENCRYPT (R598, R599): a job with OP 1; one with an undefined OP ends with CPH_ERR_OP. -/
def execGcmEncrypt (s : State) : Out := .next (s.gcmJob 1)

/-- GCM_DECRYPT (R604). -/
def execGcmDecrypt (s : State) : Out := .next (s.gcmJob 2)

/-- GMAC_GENERATE (R598). -/
def execGmacGenerate (s : State) : Out := .next (s.gcmJob 3)

/-- GMAC_VERIFY (R598). -/
def execGmacVerify (s : State) : Out := .next (s.gcmJob 4)

/-- COUNTER_RESERVATION (R601): a system key's counter stands within 2^18 of its recorded limit; `ok`, the record was written. -/
def execCounterReservation (index : Nat) (ok : Bool) (s : State) : Out :=
  let i := slotIx true index
  let k := s.ks i
  if k.sess || k.st == 0 || k.st == 3 || decide (k.ctr + 2 ^ 18 < k.limit) || decide (2 ^ 64 ≤ k.limit) then .next s
  else if ok then
    let lim := k.limit + 2 ^ 20
    let s1 := s.setKs i { k with limit := lim }
    .next { s1 with hwd := { s1.hwd with records := mput s1.hwd.records (Config.keyId k.key) lim } }
  else .next (s.setKs i { k with resvFail := true })

end Sys2Proof.Machine
end

