-- ==== Sys2Proof/Machine/Heartwood.lean ====
section
/-!
DEFINITION. The commands of Heartwood (R566 to R626): the mailbox services, the mailbox timeout, the Heartwood reset, the debug
nonce, entropy. The outcomes of signature checks and flash writes come with the command; ciphers and hashes are opaque (log 40).
-/
namespace Sys2Proof.Machine

/-- Request word k. -/
def State.req (s : State) (k : Nat) : Word := s.rd (Reg.HWD_MBREQ k)

/-- The request words a command takes (R613); none for an undefined code. -/
def mbLen (code : Nat) : Option Nat :=
  mfind [(0x01, 0), (0x02, 11), (0x03, 33), (0x04, 11), (0x05, 2), (0x06, 1), (0x07, 3), (0x08, 1), (0x09, 1), (0x0A, 1), (0x0B, 12),
    (0x0C, 37), (0x0D, 1), (0x0E, 3)] code

/-- A request in hand with a code (R609): its body answers, or its LEN is wrong (R614). A request with an undefined code is answered BADCMD
by GETINFO's command, the first of the table. -/
def State.mailbox (s : State) (code : Nat) (body : State → State) : State :=
  let c := s.get Fld.HWD_MBCMD_CODE
  if !s.flag Fld.HWD_MBCTL_GO || !s.flag Fld.HWD_STAT_READY || (c != code && !(code == 1 && (mbLen c).isNone)) || s.hwd.erase.isSome then s
  else if mbLen c ≠ some (s.get Fld.HWD_MBCMD_LEN) then s.hwdAnswer 0x01 []
  else body s

/-- n fresh random words of the main DRBG (R572), counted as one generate request. -/
def State.freeWords : Nat → State → List Word × State
  | 0, s => ([], s)
  | n + 1, s =>
    let (v, s1) := s.free
    let (l, s2) := State.freeWords n s1
    (BitVec.ofNat 32 v.toNat :: l, s2)

/-- A generate request (R572): after 2^16 the DRBG is reseeded. -/
def State.generate (s : State) (n : Nat) : List Word × State :=
  let (l, s1) := State.freeWords n s
  (l, { s1 with hwd := { s1.hwd with generates := if s1.hwd.generates + 1 = 2 ^ 16 then 0 else s1.hwd.generates + 1 } })

/-- The number that words spell, the first lowest. -/
def wordsNat : List Word → Nat
  | [] => 0
  | w :: t => w.toNat + 2 ^ 32 * wordsNat t

/-- The slot that REQ0 names (R613): its class and index; none out of range. -/
def State.reqSlot (s : State) : Option (Bool × Nat) :=
  let w := (s.req 0).toNat
  let sys := nbit w 12
  let i := w % 2 ^ 12
  if sys && decide (63 < i) then none else some (sys, i)

/-- The salt of a request (R575): 32 zero bytes without SALTED. -/
def State.reqSalt (s : State) : List Word :=
  if (s.req 2).getLsbD 0 then (List.range 8).map (fun k => s.req (3 + k)) else List.replicate 8 0

/-- A key written into a slot (R578, R579): active at once, or staged while the slot is in use. -/
def State.rewrite (s : State) (sys : Bool) (idx : Nat) (key : BitVec 512) (fixed : Word) : State :=
  let i := slotIx sys idx
  let k := s.ks i
  let used := if sys then s.sysUse idx else k.use
  if k.st = 1 ∧ 0 < used then s.setKs i { k with st := 2, staged := key, stFixed := fixed }
  else if sys then
    let ((ctr, lim), s1) := s.loadCounter key
    s1.setKs i { k with
      st := 1, key := key, fixed := fixed, gen := genNext k.gen, ctr := ctr, limit := lim, sess := false, sat := false, resvFail := false,
      iv := 0 }
  else s.setKs i { k with st := 1, key := key, gen := genNext k.gen, sat := false }

/-- A media key's two halves are equal (R583). -/
def halvesEqual (key : BitVec 512) : Bool := key.toNat % 2 ^ 256 == key.toNat / 2 ^ 256

/-- What refuses a rewrite before its key is known: the slot, its state, the root key (R570, R578, R614). -/
def State.rewriteBar (s : State) : Option Nat :=
  match s.reqSlot with
  | none => some 0x02
  | some (sys, i) =>
    let st := (s.ks (slotIx sys i)).st
    if st = 2 ∨ st = 3 then some 0x03 else if !s.flag Fld.HWD_STAT_ROOTOK then some 0x07 else none

/-- GETINFO (R613): REQ none; the device identifier, the ROM release, variant, debug level and ROOTOK. -/
def execGetinfo (s : State) : Out :=
  .next (s.mailbox 0x01 (fun t =>
    t.hwdAnswer 0x00 [BitVec.ofNat 32 t.hwd.devId.toNat, BitVec.ofNat 32 (t.hwd.devId.toNat / 2 ^ 32), Config.bootRomRelease,
      BitVec.ofNat 32 (t.pins.variant + t.get Fld.HWD_STAT_DBGLVL * 2 ^ 8 + t.get Fld.HWD_STAT_ROOTOK * 2 ^ 16)]))

/-- A key's wrapped blob of 22 words (R575, R576). -/
def blobOf (sys : Bool) (salt : List Word) (key : BitVec 512) (fixed : Word) : List Word := (List.range 22).map (Config.keyWrap sys salt key fixed)

/-- KEYGEN (R578, R613): a random key; `flash`, a system key's counter record was written (R601, R614). -/
def execKeygen (flash : Bool) (s : State) : Out :=
  .next (s.mailbox 0x02 (fun t =>
    match t.rewriteBar, t.reqSlot with
    | some e, _ => t.hwdAnswer e []
    | none, none => t.hwdAnswer 0x02 []
    | none, some (sys, i) =>
      if !t.flag Fld.HWD_STAT_ENTOK then t.hwdAnswer 0x06 []
      else
        let (ws, t1) := t.generate (if sys then 8 else 16)
        let key := BitVec.ofNat 512 (wordsNat ws)
        let fixed := if sys then t.req 1 else 0
        if !sys && halvesEqual key then t1.hwdAnswer 0x02 []
        else if sys && !flash then t1.hwdAnswer 0x09 []
        else
          let t2 := t1.rewrite sys i key fixed
          t2.hwdAnswer 0x00 (BitVec.ofNat 32 (t2.ks (slotIx sys i)).gen :: blobOf sys t.reqSalt key fixed)))

/-- KEYLOAD (R573, R576, R578, R602, R613): a system key without a record takes a random start. -/
def execKeyload (flash : Bool) (s : State) : Out :=
  .next (s.mailbox 0x03 (fun t =>
    match t.rewriteBar, t.reqSlot with
    | some e, _ => t.hwdAnswer e []
    | none, none => t.hwdAnswer 0x02 []
    | none, some (sys, i) =>
      match Config.keyUnwrap sys t.reqSalt ((List.range 22).map (fun k => t.req (11 + k))) with
      | none => t.hwdAnswer 0x04 []
      | some (key, fixed) =>
        if !sys && halvesEqual key then t.hwdAnswer 0x02 []
        else if sys && (mfind t.hwd.records (Config.keyId key)).isNone && !t.flag Fld.HWD_STAT_ENTOK then t.hwdAnswer 0x06 []
        else if sys && !flash then t.hwdAnswer 0x09 []
        else
          let t2 := t.rewrite sys i key fixed
          t2.hwdAnswer 0x00 [BitVec.ofNat 32 (t2.ks (slotIx sys i)).gen]))

/-- KEYWRAP (R576, R613): the active key's blob. -/
def execKeywrap (s : State) : Out :=
  .next (s.mailbox 0x04 (fun t =>
    match t.reqSlot with
    | none => t.hwdAnswer 0x02 []
    | some (sys, i) =>
      let k := t.ks (slotIx sys i)
      if k.st = 0 ∨ k.st = 3 ∨ k.sess = true then t.hwdAnswer 0x03 []
      else if !t.flag Fld.HWD_STAT_ROOTOK then t.hwdAnswer 0x07 []
      else t.hwdAnswer 0x00 (BitVec.ofNat 32 k.gen :: blobOf sys t.reqSalt k.key (if sys then k.fixed else 0))))

/-- KEYERASE (R584, R615): the named slots in ascending order; answered at once when none holds a key (R578). -/
def execKeyerase (s : State) : Out :=
  .next (s.mailbox 0x05 (fun t =>
    match t.reqSlot with
    | none => t.hwdAnswer 0x02 []
    | some (sys, i) =>
      let n := (t.req 1).toNat
      if n = 0 ∨ 4096 < n ∨ (if sys then 64 else 4096) < i + n then t.hwdAnswer 0x02 []
      else
        let a := slotIx sys i
        let t1 := (List.range n).foldl (fun u j => u.eraseSlot (a + j)) t
        if (List.range n).any (fun j => (t1.ks (a + j)).st == 3) then
          ({ t1 with hwd := { t1.hwd with erase := some (a, n) } }).syncMode
        else t1.hwdAnswer 0x00 []))

/-- RANDOM (R613): 1 to 256 bytes. -/
def execRandom (s : State) : Out :=
  .next (s.mailbox 0x06 (fun t =>
    let n := (t.req 0).toNat
    if n = 0 ∨ 256 < n then t.hwdAnswer 0x02 []
    else if !t.flag Fld.HWD_STAT_ENTOK then t.hwdAnswer 0x06 []
    else
      let (ws, t1) := t.generate ((n + 3) / 4)
      t1.hwdAnswer 0x00 (ws.zipIdx.map (fun e => if 4 * e.2 + 4 ≤ n then e.1 else BitVec.ofNat 32 (nbits e.1.toNat 0 (8 * (n % 4)))))))

/-- The rollback floor (R620). -/
def State.floor (s : State) : Nat := max (16 * s.hwd.thermo) s.hwd.flashFloor

/-- The words of a digest (R617, R623). -/
def digest (code : Nat) (ws : List Word) : List Word := (List.range 12).map (fun k => Config.hwdWord code ws k)

/-- The image in memory, its patch section and its place, become the verified ones. -/
def State.imgTake (s : State) (addr len : Nat) (patch : Option PatchImg) : State :=
  { s with hwd := { s.hwd with patch := patch, image := (addr, len) }, sys := { s.sys with imageVerified := true } }

/-- The answer to IMGVERIFY on an image whose header was read as `h` (`ok`, without an error). -/
def State.imgJudge (s : State) (addr len : Nat) (h : List Byte) (ok sigs : Bool) (patch : Option PatchImg) : State :=
  let svn := leNat ((h.drop 8).take 4)
  let good := ok && h.take 4 == [0x47, 0x52, 0x4C, 0x4E] && leNat ((h.drop 4).take 4) == 0x10000 && decide (svn ≤ 4095) && sigs
  if !good then s.hwdAnswer 0x04 []
  else if svn < s.floor then s.hwdAnswer 0x05 []
  else (s.imgTake addr len patch).hwdAnswer 0x00 (BitVec.ofNat 32 svn :: digest 0x07 [s.req 0, s.req 1, s.req 2, BitVec.ofNat 32 s.freeCtr])

/-- The image that an IMGVERIFY request names (R613, R621): its header and security version, and the signatures' outcome. -/
def State.imgCheck (t : State) (sigs : Bool) (patch : Option PatchImg) : State :=
  let addr := (t.req 0).toNat + (t.req 1).toNat * 2 ^ 32
  let len := (t.req 2).toNat
  if len < 0x100 ∨ t.inMem addr len = false then t.hwdAnswer 0x02 []
  else
    let r := State.bytesAt 7 16 addr t
    r.2.imgJudge addr len r.1.1 r.1.2 sigs patch

/-- IMGVERIFY (R617, R621): the header of the image in memory is read; `sigs`, every signature and the key block's hash pass; `patch`,
the image's patch section, kept for PATCHLOAD. -/
def execImgverify (sigs : Bool) (patch : Option PatchImg) (s : State) : Out :=
  .next (s.mailbox 0x07 (fun t => t.imgCheck sigs patch))

/-- The measurement indexes of R623 that PATCHLOAD sets: 3 for MSQA, 4 for MSQB. -/
def State.setMeas (s : State) (i : Nat) (d : List Word) : State := { s with hwd := { s.hwd with meas := mput s.hwd.meas i d } }

/-- PATCHLOAD (R264, R621): the kept patch goes to a held MSQ's patch RAM, comparators and dispatch entries. -/
def execPatchload (s : State) : Out :=
  .next (s.mailbox 0x08 (fun t =>
    let x : Act := if (t.req 0).getLsbD 0 then .b else .a
    let m := t.msq x
    if !t.actOk x || !(t.flag (Fld.MSQ_CTL_HOLD x) && m.running.isNone) then t.hwdAnswer 0x03 []
    else
      match t.hwd.patch with
      | none => t.hwdAnswer 0x03 []
      | some p =>
        let put {α : Type} (l r : List (Nat × α)) : List (Nat × α) := r.foldl (fun q e => mput q e.1 e.2) l
        let comps := p.comps.foldl (fun q e => match e.2 with
          | some c => mput q e.1 c
          | none => mdel q e.1) m.ucs.comps
        let t1 := t.setMsq x { m with ucs := { m.ucs with
          patch := put m.ucs.patch p.words, comps := comps, disp := put m.ucs.disp p.disp } }
        let t2 := (((t1.put (Fld.UCS_PATCH_VER x) p.release).put (Fld.UCS_PATCH_NCMP x) comps.length).raise
          (byAct x Fld.UCS_EV_PATCHA Fld.UCS_EV_PATCHB)).setMeas
          (3 + x.idx) (digest 0x08 [BitVec.ofNat 32 p.release])
        t2.hwdAnswer 0x00 [BitVec.ofNat 32 p.release]))

/-- ROLLBACK (R620): a floor from the present one to the running image's SVN; `flash`, its record was written. -/
def execRollback (flash : Bool) (s : State) : Out :=
  .next (s.mailbox 0x09 (fun t =>
    let n := (t.req 0).toNat
    if t.get Fld.HWD_BOOT_SVN < n ∨ n < t.floor then t.hwdAnswer 0x02 []
    else if !t.flag Fld.HWD_STAT_ROOTOK then t.hwdAnswer 0x07 []
    else if !flash then t.hwdAnswer 0x09 []
    else
      let t1 : State := { t with hwd := { t.hwd with flashFloor := n, thermo := max t.hwd.thermo (min 255 (n / 16)) } }
      (t1.put Fld.HWD_BOOT_FLOOR t1.floor).hwdAnswer 0x00 [BitVec.ofNat 32 t1.floor]))

/-- MEASURE (R623): measurements 1 to 6. -/
def execMeasure (s : State) : Out :=
  .next (s.mailbox 0x0A (fun t =>
    let i := (t.req 0).toNat
    if i = 0 ∨ 6 < i then t.hwdAnswer 0x02 []
    else
      let d := if i = 5 then digest 0x05 [BitVec.ofNat 32 t.pins.variant, BitVec.ofNat 32 t.floor, t.rd Reg.SYS_COMPAT, t.rd Reg.SYS_LOCK]
        else if i = 6 then digest 0x06 [BitVec.ofNat 32 (t.get Fld.HWD_STAT_DBGLVL), BitVec.ofNat 32 t.hwd.unlocks]
        else match mfind t.hwd.meas i with
          | some l => l
          | none => if i = 1 then digest 0x01 [Config.bootRomRelease] else List.replicate 12 0
      t.hwdAnswer 0x00 d))

/-- SIGN (R622): a fresh ECDSA signature, whose value the spec leaves to the algorithm. -/
def execSign (s : State) : Out :=
  .next (s.mailbox 0x0B (fun t =>
    if !t.flag Fld.HWD_STAT_ROOTOK then t.hwdAnswer 0x07 []
    else if !t.flag Fld.HWD_STAT_ENTOK then t.hwdAnswer 0x06 []
    else
      let (ws, t1) := t.generate 24
      t1.hwdAnswer 0x00 ws))

/-- A session key in a system slot (R603): its counter starts at 0 and takes no reservation. -/
def State.sessSlot (s : State) (idx : Nat) : State :=
  let i := slotIx true idx
  let (ws, s1) := s.generate 11
  let k := s1.ks i
  s1.setKs i { k with
    st := 1, gen := genNext k.gen, key := BitVec.ofNat 512 (wordsNat (ws.take 8)), iv := BitVec.ofNat 96 (wordsNat (ws.drop 8)), fixed := 0,
    ctr := 0, limit := 0, sess := true, sat := false, resvFail := false }

/-- SESSKEY (R603, R613): the request and the response slot. -/
def execSesskey (s : State) : Out :=
  .next (s.mailbox 0x0C (fun t =>
    let a := nbits (t.req 0).toNat 0 6
    let b := nbits (t.req 0).toNat 16 6
    let busy (i : Nat) : Bool := let st := (t.ks (slotIx true i)).st; st == 2 || st == 3 || decide (0 < t.sysUse i)
    if a = b then t.hwdAnswer 0x02 []
    else if busy a || busy b then t.hwdAnswer 0x03 []
    else if !t.flag Fld.HWD_STAT_ENTOK then t.hwdAnswer 0x06 []
    else
      let (pub, t1) := t.generate 24
      ((t1.sessSlot a).sessSlot b).hwdAnswer 0x00 pub))

/-- DBGCHAL (R626): a nonce for a level; the one before lapses. -/
def execDbgchal (s : State) : Out :=
  .next (s.mailbox 0x0D (fun t =>
    let lv := (t.req 0).toNat
    if lv ≠ 1 ∧ lv ≠ 2 then t.hwdAnswer 0x02 []
    else if !t.flag Fld.HWD_STAT_ENTOK then t.hwdAnswer 0x06 []
    else
      let (ws, t1) := t.generate 8
      ({ t1 with hwd := { t1.hwd with nonce := some (lv, t1.now) } }).hwdAnswer 0x00 ws))

/-- DBGRESP (R626): `ok`, both signatures over the nonce, the identifier and the level pass. A nonce serves one response. -/
def execDbgresp (ok : Bool) (s : State) : Out :=
  .next (s.mailbox 0x0E (fun t =>
    match t.hwd.nonce with
    | none => t.hwdAnswer 0x03 []
    | some (lv, _) =>
      let t1 : State := { t with hwd := { t.hwd with nonce := none } }
      if t.inMem ((t.req 0).toNat + (t.req 1).toNat * 2 ^ 32) (t.req 2).toNat = false then t1.hwdAnswer 0x02 []
      else if !ok then t1.hwdAnswer 0x04 []
      else
        let t2 : State := { t1 with hwd := { t1.hwd with unlocks := t1.hwd.unlocks + 1 } }
        (((t2.put Fld.HWD_STAT_DBGLVL lv).put Fld.DBG_STAT_LEVEL lv).raise Fld.HWD_EV_DBGUNLOCK).hwdAnswer 0x00 []))

/-- MAILBOX_TIMEOUT (R611): GO has been 1 for LIMIT milliseconds. -/
def execMailboxTimeout (s : State) : Out :=
  if !s.flag Fld.HWD_MBCTL_GO || decide (s.now < s.hwd.goAt + s.eff Fld.HWD_MBTMO_LIMIT * 800000) then .next s
  else
    let s1 := s.wr Reg.HWD_MBRES (BitVec.ofNat 32 (0x0A * 2 ^ 24 + s.get Fld.HWD_MBCMD_CODE * 2 ^ 16))
    .next ((((s1.put Fld.HWD_MBTMO_ELAPSED (s.eff Fld.HWD_MBTMO_LIMIT)).putb Fld.HWD_MBCTL_GO false).raise Fld.HWD_EV_TMO).svcEnd 3 0x0A)

/-- A system slot at a Heartwood start (R601, R603): a session key is gone, a counter goes to its recorded limit and 2^20 more are
recorded. -/
def State.keyStart (t : State) (j : Nat) : State :=
  let i := slotIx true j
  let k := t.ks i
  if k.st = 0 ∨ k.st = 3 then t
  else if k.sess then t.setKs i { KeySlot.empty with gen := k.gen }
  else
    let lim := k.limit + 2 ^ 20
    let t1 := t.setKs i { k with ctr := k.limit, limit := lim, resvFail := false }
    { t1 with hwd := { t1.hwd with records := mput t1.hwd.records (Config.keyId k.key) lim } }

/-- What a start of Heartwood drops: the requests of the generator's count, the debug nonce and an erase in progress. -/
def State.hwdDrop (s : State) : State := { s with hwd := { s.hwd with generates := 0, nonce := none, erase := none } }

/-- The CPH's masks are seeded afresh. -/
def State.maskSeed (s : State) : State := ({ s with cph := { s.cph with masks := 0 } }).putb Fld.CPH_STAT_MASKOK true

/-- A Heartwood start (R570, R571, R601, R603): the root key and the entropy source are tested, session slots become EMPTY, and every
other system counter moves to its recorded limit. -/
def State.hwdStart (s : State) (root ent : Bool) : State :=
  let s1 := (s.putb Fld.HWD_STAT_ROOTOK root).putb Fld.HWD_STAT_ENTOK ent
  let s2 := (List.range 64).foldl (fun t j => t.keyStart j) s1
  let s3 := s2.hwdDrop
  (if ent then s3.maskSeed else s3.raise Fld.HWD_FLT_ENTROPY).putb Fld.HWD_STAT_READY true

/-- HEARTWOOD_RESET (R612): the request in progress is lost; slots, ranges and the debug level stay. -/
def execHeartwoodReset (root ent : Bool) (s : State) : Out :=
  .next ((((s.putb Fld.HWD_MBCTL_GO false).hwdStart root ent).putb Fld.HWD_CTL_RESET false).raise Fld.HWD_EV_HRESET)

/-- DEBUG_NONCE_LAPSE (R626): 60 s after DBGCHAL. -/
def execDebugNonceLapse (s : State) : Out :=
  match s.hwd.nonce with
  | some (_, t) => if t + 60 * 800000000 ≤ s.now then .next { s with hwd := { s.hwd with nonce := none } } else .next s
  | none => .next s

/-- ENTROPY_HEALTH_FAILURE (R573). -/
def execEntropyHealthFailure (s : State) : Out := .next ((s.putb Fld.HWD_STAT_ENTOK false).raise Fld.HWD_FLT_ENTROPY)

end Sys2Proof.Machine
end

