-- ==== Sys2Proof/Machine/Spindle.lean ====
section
/-!
DEFINITION. The commands of the spindle controller (R435 to R472): crossings, loss and return of back-EMF, the start decision, the
probe, the measurement of Ke, stopping, overcurrents.
-/
namespace Sys2Proof.Machine

/-- The spindle's own state changed. -/
def State.setSpn (s : State) (p : SpnSt) : State := { s with spn := p }

/-- A crossing is valid (R443): the next place of the sequence for the present direction, at an interval within 25 % of the last;
the first crossing has no reference, and the second has no interval to meet and gives the direction. -/
def SpnSt.crossOk (p : SpnSt) (back : Bool) (place now : Nat) : Bool :=
  match p.place with
  | none => true
  | some q =>
    if p.interval = 0 then place == (q + 1) % 6 || place == (q + 5) % 6
    else
      place == (if back then (q + 5) % 6 else (q + 1) % 6)
        && decide (4 * (max (now - p.lastAt) p.interval - min (now - p.lastAt) p.interval) ≤ p.interval)

/-- A valid crossing recorded (R443): the reference place, time and interval, and the direction. -/
def State.crossTake (s : State) (place : Nat) : State :=
  let p := s.spn
  let back := match p.place with
    | some q => if p.interval = 0 then place == (q + 5) % 6 else s.flag Fld.SPN_STAT_DIR
    | none => s.flag Fld.SPN_STAT_DIR
  let iv := if p.place.isSome then s.now - p.lastAt else 0
  (s.putb Fld.SPN_STAT_DIR back).setSpn { p with valid := p.valid + 1, place := some place, lastAt := s.now, interval := iv, bad := 0 }

/-- The speed that the crossings give in 1/4 rpm. -/
def State.crossSpeed (s : State) : Nat := s.speedOfInterval s.spn.interval

/-- BEMF becomes valid at 6 consecutive valid crossings (R444), which ends commutation from the local angle (R446). -/
def State.bemfGain (s : State) : State :=
  if !s.flag Fld.SPN_STAT_BEMFOK && decide (6 ≤ s.spn.valid) then
    ((s.putb Fld.SPN_STAT_BEMFOK true).putb Fld.SPN_STAT_SRVCOM false).raise Fld.SPN_EV_BEMFOK
  else s

/-- SPN_SPEED at a valid crossing while BEMFOK is 1 (R444). -/
def State.speedUpdate (s : State) : State :=
  if s.flag Fld.SPN_STAT_BEMFOK then
    (s.put Fld.SPN_SPEED_RPM4 (min 0xFFFF s.crossSpeed)).putb Fld.SPN_SPEED_DIR (s.flag Fld.SPN_STAT_DIR)
  else s

/-- What a valid crossing brings about in a state (R437, R447, R457, R459, R465). -/
def State.crossAct (s : State) (place amp : Nat) : State :=
  let k := s.spnState
  let v := s.crossSpeed
  if k = spnSense then (if 12 ≤ s.spn.valid then s.senseEnd amp else s)
  else if k = spnCoast then
    (if s.flag Fld.SPN_STAT_BEMFOK && s.spn.lostAt.isSome && s.flag Fld.SPN_CTL_RUN then s.startDecision false else s)
  else if k = spnRev then
    if decide (v ≤ 4 * s.eff Fld.SPN_CATCH_REV_MIN) && decide (0 < s.spn.interval) then
      let t := s.spnEnter spnShort
      t.setSpn { t.spn with toProbe := true }
    else s
  else if k = spnDecel then
    (if decide (v ≤ 4 * s.eff Fld.SPN_BRAKE_SB_RPM) && decide (0 < s.spn.interval) then s.spnEnter spnShort
     else s.levelCheck v (place == 0))
  else s.levelCheck v (place == 0)

/-- An invalid crossing (R443, R445): it restarts the count before BEMF is valid; BFRZ_N of one place freeze it after. -/
def State.crossBad (s : State) (place : Nat) : State :=
  let p := s.spn
  if !s.flag Fld.SPN_STAT_BEMFOK then s.setSpn { p with valid := 0 }
  else
    let n := if p.badPlace = place ∧ 0 < p.bad then p.bad + 1 else 1
    let s1 := s.setSpn { p with bad := n, badPlace := place }
    if s.eff Fld.SPN_BEMF_BFRZ_N ≤ n then s1.bemfLose else s1

/-- A crossing judged and taken (R442 to R445): none at or below REST_MAX, which before BEMF is valid ends the reference; an
amplitude below BEMF_MIN loses BEMF. -/
def State.crossing (s : State) (place amp : Nat) : State :=
  if amp ≤ s.eff Fld.SPN_BEMF_REST_MAX then
    if s.flag Fld.SPN_STAT_BEMFOK then s
    else s.setSpn { s.spn with place := none, interval := 0 }
  else if s.flag Fld.SPN_STAT_BEMFOK && decide (amp < 10 * s.eff Fld.SPN_BEMF_BEMF_MIN) then s.bemfLose
  else if s.spn.crossOk (s.flag Fld.SPN_STAT_DIR) place s.now then (((s.crossTake place).bemfGain).speedUpdate).crossAct place amp
  else s.crossBad place

/-- BEMF_CROSSING (R442 to R447, R457, R461): the place 0 to 5 of the phase and edge in the forward sequence, the amplitude in mV;
`handoff`: in STEP, inductive sensing has found HANDOFF reached, and SPN commutates on crossings from this one on. -/
def execBemfCrossing (place amp : Nat) (handoff : Bool) (s : State) : Out :=
  let k := s.spnState
  if k = spnStopped ∨ k = spnProbe ∨ k = spnShort ∨ 6 ≤ place then .next s
  else if k = spnStep then
    if handoff then
      let t := s.spnEnter spnL1
      .next (((t.setSpn { t.spn with handoffAt := some s.now }).crossing place amp).syncMode)
    else .next s
  else .next (s.crossing place amp).syncMode

/-- BEMF_LOSS (R445 to R447): by timeout, low amplitude or freeze. -/
def execBemfLoss (s : State) : Out := .next s.bemfLose.syncMode

/-- A time of so many ticks has passed since an instant that is held. -/
def State.spent (s : State) (at_ : Option Nat) (ticks : Nat) : Bool :=
  match at_ with
  | some t => decide (t + ticks ≤ s.now)
  | none => false

/-- BEMF_COAST_TIMEOUT (R447): 1 s without valid BEMF. -/
def execBemfCoastTimeout (s : State) : Out :=
  if s.spnState = spnCoast ∧ s.spent s.spn.lostAt 800000000 = true ∧ s.flag Fld.SPN_STAT_BEMFOK = false then
    .next (((s.setSpn { s.spn with lostAt := none }).raise Fld.SPN_FLT_BEMF).runClear).syncMode
  else .next s

/-- START_DECISION (R456, R457). -/
def execStartDecision (s : State) : Out :=
  if s.flag Fld.SPN_CTL_RUN then .next (s.startDecision false).syncMode else .next s

/-- SENSE_TIMEOUT (R457): SENSE_T has passed; `amp`, the terminal amplitude in mV. -/
def execSenseTimeout (amp : Nat) (s : State) : Out :=
  if s.spnState = spnSense ∧ s.spent (some s.spn.senseAt) (s.eff Fld.SPN_START_SENSE_T * 800000) = true then .next (s.senseEnd amp).syncMode else .next s

/-- The vector of the highest peak: the first of the greatest. -/
def peakIndex (l : List Nat) : Nat := (List.range l.length).foldl (fun b i => if l.getD b 0 < l.getD i 0 then i else b) 0

/-- The probe is ambiguous (R460): the peak exceeds the opposite vector's by less than 2 %. -/
def probeAmbiguous (l : List Nat) : Bool :=
  let i := peakIndex l
  decide (100 * l.getD i 0 < 102 * l.getD ((i + 6) % 12) 0)

/-- PROBE_COMPLETE (R460, R461): the peak currents of the 12 vectors. -/
def execProbeComplete (peaks : List Nat) (s : State) : Out :=
  if s.spnState ≠ spnProbe then .next s
  else if !probeAmbiguous peaks then
    let t := s.spnEnter spnStep
    .next (t.setSpn { t.spn with probe := peakIndex peaks }).syncMode
  else if !s.spn.probed then .next (s.setSpn { s.spn with probed := true })
  else .next ((s.raise Fld.SPN_FLT_PROBE).runClear).syncMode

/-- HANDOFF_TIMEOUT (R461): 2 s from HANDOFF without valid BEMF. -/
def execHandoffTimeout (s : State) : Out :=
  if s.spent s.spn.handoffAt 1600000000 && !s.flag Fld.SPN_STAT_BEMFOK && s.spnState == spnL1 then
    .next (((s.setSpn { s.spn with handoffAt := none }).raise Fld.SPN_FLT_BEMF).runClear).syncMode
  else .next s

/-- A write gate of either actuator is open. -/
def State.anyGate (s : State) : Bool := s.wgOpen .a false || s.wgOpen .a true || s.wgOpen .b false || s.wgOpen .b true

/-- KE_MEASUREMENT_START (R462). -/
def execKeMeasurementStart (s : State) : Out :=
  let p := s.spn
  if s.spnState ≠ spnL2 ∨ p.ke ≠ 0 ∨ (s.flag Fld.SPN_STAT_INREG = true ∧ s.anyGate = true) then .next s
  else if p.keStart = false then
    if 4 * p.target ≤ 2 * s.speed4 then .next (s.setSpn { p with ke := 1, keStart := true }) else .next s
  else if s.flag Fld.SPN_CTL_KEREQ || (s.flag Fld.SPN_STAT_INREG && decide (p.keAt + 600 * 800000000 ≤ s.now)) then
    .next (s.setSpn { p with ke := 2 })
  else .next s

/-- SPN_KE.DEV (R463) in 0.5 %: exact where the quotient is whole and in range; the rounding of any other and a value with NOM 0 or
out of range are free. -/
def State.keDev (s : State) (ke nom : Nat) : Nat × State :=
  let (v, t) := s.free
  if nom = 0 then (v.toNat % 256, t)
  else
    let d : Int := 200 * ((ke : Int) - nom)
    let q := d / nom
    if d % nom = 0 ∧ -128 ≤ q ∧ q ≤ 127 then (unsgn 8 q, s)
    else if -128 ≤ q ∧ q < 127 then (unsgn 8 (q + (v.toNat % 2 : Nat)), t)
    else (v.toNat % 256, t)

/-- The deviation lies beyond a number of percent (R463). -/
def keBeyond (ke nom pct : Nat) : Bool := nom != 0 && decide (pct * nom < 100 * (max ke nom - min ke nom))

/-- KE_MEASUREMENT_DONE (R463): `ke` in uV/rpm. -/
def execKeMeasurementDone (ke : Nat) (s : State) : Out :=
  if s.spn.ke = 0 then .next s
  else
    let nom := s.get Fld.SPN_KENOM_NOM
    let (dev, s1) := s.keDev ke nom
    let s2 := ((s1.put Fld.SPN_KE_KE (min ke 0xFFFF)).put Fld.SPN_KE_DEV dev).putb Fld.SPN_CTL_KEREQ false
    let s3 := s2.setSpn { s2.spn with ke := 0, keAt := s.now }
    let s4 := if keBeyond ke nom 12 then s3.raise Fld.SPN_EV_KE else s3
    if keBeyond ke nom 20 then
      let s5 := (s4.raise Fld.SPN_FLT_KE).putb Fld.SPN_STAT_KEBAD true
      .next (if s.spn.ke = 1 then s5.runClear.syncMode else s5)
    else .next s4

/-- KEREQ (R462): a write of 1 to SPN_CTL.KEREQ. -/
def execKereq (s : State) : Out := .next (s.putb Fld.SPN_CTL_KEREQ true)

/-- A write of SPN_KENOM (R464). -/
def State.kenom (s : State) (v : Word) : State := (s.wr Reg.SPN_KENOM (v &&& 0xFFFF#32)).putb Fld.SPN_STAT_KEBAD false

/-- KENOM_WRITE (R464). -/
def execKenomWrite (v : Word) (s : State) : Out := .next (s.kenom v)

/-- RUN written 1 (R456, R464, R472, R716, R750): a start that is refused leaves RUN at 0. -/
def State.runSet (s : State) : State :=
  if s.flag Fld.SPN_CTL_RUN || s.flag Fld.SPN_STAT_KEBAD || s.spnHold then s
  else
    let s1 := s.putb Fld.SPN_CTL_RUN true
    if s1.spn.pinStop then s1.syncMode else (s1.startDecision true).syncMode

/-- RUN_SET (R456). -/
def execRunSet (s : State) : Out := .next s.runSet

/-- RUN_CLEAR (R465). -/
def execRunClear (s : State) : Out := .next s.runClear.syncMode

/-- SHORT_BRAKE_WINDOW (R466): `amp`, the greatest amplitude in the window in mV. -/
def execShortBrakeWindow (amp : Nat) (s : State) : Out :=
  if s.spnState ≠ spnShort ∨ s.spn.ov2 = true then .next s
  else if s.eff Fld.SPN_BEMF_REST_MAX < amp then .next (s.setSpn { s.spn with quietAt := none })
  else
    let t0 := s.spn.quietAt.getD s.now
    if s.now < t0 + 160000000 then .next (s.setSpn { s.spn with quietAt := some t0 })
    else if s.spn.toProbe && s.flag Fld.SPN_CTL_RUN then
      let t := s.spnEnter spnProbe
      .next (t.setSpn { t.spn with toProbe := false, probed := false }).syncMode
    else
      let t := ((s.spnEnter spnStopped).putb Fld.SPN_STAT_REST true).raise Fld.SPN_EV_STOPPED
      .next (t.setSpn { t.spn with toProbe := false, stopAt := none }).syncMode

/-- STOP_TIMEOUT (R467): STOP_TMO since RUN was cleared. -/
def execStopTimeout (s : State) : Out :=
  if s.spent s.spn.stopAt (s.eff Fld.SPN_BRAKE_STOP_TMO * 800000000) && !s.flag Fld.SPN_STAT_REST then
    .next ((s.setSpn { s.spn with stopAt := none }).raise Fld.SPN_FLT_STOP)
  else .next s

/-- SPINDLE_OVERCURRENT (R471): the bridge opens for 10 us; a second within 1 s ends the run. -/
def execSpindleOvercurrent (s : State) : Out :=
  if !s.flag Fld.SPN_STAT_DRIVING then .next s
  else
    let s1 := s.bump Fld.SPN_CNT2_OC 1
    let again := match s.spn.ocAt with
      | some t => decide (s.now < t + 800000000)
      | none => false
    if again then
      let s2 := (s1.setSpn { s1.spn with coastDown := true, ocAt := some s.now }).spnEnter spnCoast
      .next ((s2.raise Fld.SPN_FLT_OC).runClear).syncMode
    else .next ((s1.setSpn { s1.spn with ocAt := some s.now, ocPause := true }).putb Fld.SPN_STAT_DRIVING false)

/-- SPINDLE_OC_PAUSE_END (R471, R456): after 10 us; with RUN at 0 the stop goes on. -/
def execSpindleOcPauseEnd (s : State) : Out :=
  if !s.spn.ocPause || !s.spent (some (s.spn.ocAt.getD 0)) 8000 then .next s
  else
    let s1 := s.setSpn { s.spn with ocPause := false }
    if s1.flag Fld.SPN_CTL_RUN then .next (s1.startDecision false).syncMode
    else .next (s1.putb Fld.SPN_STAT_DRIVING (spnDrives s1.spnState)).syncMode

/-- OV2_BRAKE_END (R468): 1 ms after OV2, SPN goes on with its start, its stop, or rectification. -/
def execOv2BrakeEnd (s : State) : Out :=
  if !s.spn.ov2 || s.flag Fld.PWR_STAT_OV2 || !s.spent (some s.spn.ov2End) 800000 then .next s
  else
    let s1 := s.setSpn { s.spn with ov2 := false }
    if s1.sys.retract || s1.flag Fld.SYS_D2DSTAT_SAFE then .next (s1.spnEnter spnRect).syncMode
    else if s1.flag Fld.SPN_CTL_RUN then .next (s1.startDecision false).syncMode
    else if s1.eff Fld.SPN_BRAKE_SB_RPM * 4 ≤ s1.speed4 then
      let t := s1.spnEnter spnDecel
      .next (t.setSpn { t.spn with target := 0 }).syncMode
    else .next s1

/-- SPDCMD_INVALID (R453). -/
def execSpdcmdInvalid (s : State) : Out :=
  if s.get Fld.SPN_CMDSRC_SRC = 0 then .next s
  else .next ((s.putb Fld.SPN_PIN_VALID false).raise Fld.SPN_EV_PININV)

end Sys2Proof.Machine
end

