-- ==== Sys2Proof/Machine/PowerOps.lean ====
section
/-!
DEFINITION. Shared operations of supply, safe state and resets: VIN, the link-loss safe state (R39, R40), RETRACT (R492 to R495), the
clears of each reset kind (R25, R760 to R765), start-up (R766, R800).
-/
namespace Sys2Proof.Machine

/-- VIN read in 10 mV, with its minimum (R524). -/
def State.vin (s : State) (v : Nat) : State :=
  let w := min v 0xFFFF
  (s.put Fld.PWR_VIN_VIN w).put Fld.PWR_VIN_VMIN (min w (s.get Fld.PWR_VIN_VMIN))

/-- VIN in 10 mV can count as below, or as at or above, a threshold in 10 mV: the comparisons are accurate to 1.5 % (R482). -/
def mayBelow (v thr : Nat) : Bool := decide (1000 * v ≤ 1015 * thr)
def mayAbove (v thr : Nat) : Bool := decide (985 * thr ≤ 1000 * v)

/-- VIN_UVW and VIN_PLD in 10 mV (R482, R483). -/
def State.uvwThr (s : State) : Nat := 10 * s.eff Fld.PWR_VINCFG_UVW
def State.pldThr (s : State) : Nat :=
  if s.uvwThr ≤ 10 * s.eff Fld.PWR_VINCFG_PLD then s.uvwThr - 20 else 10 * s.eff Fld.PWR_VINCFG_PLD

/-- T_UVW in ticks (R487). -/
def State.dipTicks (s : State) : Nat := s.eff Fld.PWR_VINCFG_TUVW * 80000

/-- VBUS in 10 mV, TMAX in ticks. -/
def State.vbus (s : State) : Nat := 10 * s.eff Fld.PWR_RET_VBUS
def State.tmax (s : State) : Nat := s.eff Fld.PWR_RET_TMAX * 800000

/-- PWR_STAT.RETPH. -/
def State.retph (s : State) : Nat := s.get Fld.PWR_STAT_RETPH

/-- Both actuators are parked (R494); on CZ8650-SN the one. -/
def State.bothParked (s : State) : Bool := s.parked .a && (s.isSN || s.parked .b)

/-- The link-loss safe state of the power die (R39): both retract, the microactuators at 0 V, SPN rectifies. -/
def State.safeEnter (s : State) : State :=
  let s1 := (((s.putb Fld.SYS_D2DSTAT_SAFE true).retract .a).retract .b)
  s1.spnEnter spnRect

/-- The logic die detects link loss (R40). -/
def State.linkLoss (s : State) : State :=
  let s1 := (s.wgTripBoth trgD2d).raise Fld.SYS_FLT_D2D
  { s1 with pins := { s1.pins with faultL := true } }

/-- The safe state of the power die ends (R41, R43): SPN goes on by the start decision with RUN at 1, by stopping otherwise; a
waiting RETRACT keeps rectifying. `deferrable`: a reset's release (R716). -/
def State.safeLeave (s : State) (deferrable : Bool) : State :=
  let s1 := s.putb Fld.SYS_D2DSTAT_SAFE false
  if s1.sys.retract then s1
  else if s1.flag Fld.SPN_CTL_RUN then s1.startDecision deferrable
  else if s1.spnState = spnRect then s1.spnEnter (if s1.speed4 < 4 * s1.eff Fld.SPN_BRAKE_SB_RPM then spnShort else spnDecel)
  else s1

/-- PARK begins (R494): the UVW trigger holds at both Write Guards, both sequencers are held, both actuators retract. -/
def State.parkPhase (s : State) : State :=
  if s.retph ≠ 1 then s
  else
    let trip (x : Act) (t : State) : State :=
      if (t.wrp x).holding &&& trgUvw ≠ 0 then t else t.wgTrip x trgUvw false
    let s1 := trip .b (trip .a ((s.put Fld.PWR_STAT_RETPH 2).putb Fld.PWR_STAT_UVHOLD true))
    let hold (x : Act) (t : State) : State := if t.actOk x then (t.setHold x).retract x else t
    hold .b (hold .a s1)

/-- The speed lies below DSTGMIN of the target (R494). -/
def State.belowDstg (s : State) : Bool :=
  decide (100 * s.speed4 < 4 * s.eff Fld.PWR_RET_DSTGMIN * s.get Fld.SPN_TARGET_RPM)

/-- RETRACT is entered (R492, R493, R498), but not from a thermal shutdown (R488). -/
def State.enterRetract (s : State) : State :=
  if s.retph ≠ 0 ∨ s.thm.shut = true ∨ s.pwr.bor = true then s
  else
    let s1 : State := { s with
      sys := { s.sys with retract := true },
      pwr := { s.pwr with retAt := s.now, done := false, dipAt := none } }
    let s2 := (((s1.put Fld.PWR_STAT_RETPH 1).putb Fld.PWR_STAT_ISO false).raise Fld.PWR_EV_RETRACT).bump Fld.PWR_CNT_RET 1
    let s3 := ((s2.count 7 1).spnEnter spnRect).startFlush 1
    (if s3.belowDstg then s3.parkPhase else s3).syncMode

/-! ### What each reset kind clears -/

/-- The strength of a reset kind (R25): POR 7, BOR 6, PIN 5, THERMAL 4, WARM 3. -/
def clearedAt (c : ClearedBy) (r : Nat) : Bool :=
  match c with
  | .never => false
  | .por => decide (7 ≤ r)
  | .bor => decide (6 ≤ r)
  | .pin => decide (5 ≤ r)
  | .thermal => decide (4 ≤ r)
  | .warm => decide (3 ≤ r)
  | .host => decide (3 ≤ r)
  | .actuator => decide (4 ≤ r)

/-- The bits of a status register without a Cleared-by entry that a reset leaves: those of a part that goes on (R760). -/
def statusKept (r a : Nat) : Nat :=
  if 6 ≤ r then 0
  else if r ≤ 3 then 0xFFFFFFFF
  else if a = Reg.SPN_STAT ∨ a = Reg.SPN_PIN ∨ a = Reg.SPN_SPEED ∨ a = Reg.PWR_STAT ∨ a = Reg.PWR_RAIL ∨ a = Reg.THM_TS01 ∨ a = Reg.THM_TS23
      ∨ a = Reg.THM_TS45 ∨ a = Reg.THM_EXT ∨ a = Reg.DRV_IVCM then 0xFFFFFFFF
  else if r = 5 then (if a = Reg.THM_STAT then 0xC else 0)
  else if a = Reg.THM_STAT ∨ a = Reg.DRV_STAT then 0xFFFFFFFF
  else if a = Reg.MEM_STAT then 1
  else if a = Reg.HWD_STAT then 0x300
  else if a = Reg.DBG_STAT then 3
  else if a = Reg.LPE_STAT then 0x60000000
  else if a = Reg.VALE_STAT then 0x80
  else 0

/-- A register after a reset of a strength (R25). -/
def regAfter (r a : Nat) (w : Word) : Word :=
  match regDesc a with
  | none => w
  | some (_, d) =>
    let keep : Nat :=
      if d.clr = .never then statusKept r a
      else if clearedAt d.clr r then (if r < 5 then d.pinBits else 0)
      else 0xFFFFFFFF
    merge (BitVec.ofNat 32 d.reset) w (BitVec.ofNat 32 keep)

/-- The registers after a reset of a strength. -/
def regsAfter (r : Nat) (m : List (Nat × Word)) : List (Nat × Word) := mmap regReset (regAfter r) m

/-- The counters of the newest complete flash image, and its boot count (R728). -/
def State.newestImage (s : State) : Option RbkImage :=
  s.rbk.images.foldl (fun b e =>
    if e.2.complete then
      match b with
      | some i => if i.seq < e.2.seq then some e.2 else b
      | none => some e.2
    else b) none

/-- The retained SRAM after POR or BOR (R728): zeros, the counters restored, the boot count one more. -/
def State.freshRetained (s : State) : Retained :=
  let z := State.reset.rbk.ret
  match s.newestImage with
  | some i => { z with bootCount := i.content.bootCount + 1, ctrSeq := i.content.ctrSeq, ctrs := i.content.ctrs }
  | none => { z with bootCount := 1 }

/-- The recorder after a reset of THERMAL or stronger: an image in hand stays incomplete (R742). -/
def State.rbkAfter (s : State) (r : Nat) : RbkSt :=
  let k := s.rbk
  let imgs := match k.flush with
    | some f => mput k.images k.imgSlot
        (s.imageOf f false 0)
    | none => k.images
  { k with
    ret := if 6 ≤ r then s.freshRetained else k.ret, images := imgs, coal := [], fifo := [], recw := false, snap := none, waiting := [],
    flush := none, again := none }

/-- The triggers that hold both Write Guards when a reset ends (R788, R485). -/
def State.guardAtReset (s : State) (r : Nat) : Nat :=
  if 6 ≤ r ∨ s.pwr.vinSeen = false ∨ s.flag Fld.PWR_STAT_UVHOLD = true then trgUvw else 0

/-- The machine after the clears of a THERMAL or stronger reset (R25, R760, R764): what the retention matrix keeps is kept. -/
def State.resetTo (s : State) (r : Nat) : State :=
  let e := State.reset
  let pin := decide (5 ≤ r)
  let bor := decide (6 ≤ r)
  let chan (c : ChanSt) : ChanSt := if pin then ChanSt.empty else { ChanSt.empty with taps := c.taps }
  let wrp (w : WrpSt) : WrpSt :=
    { WrpSt.empty with holding := s.guardAtReset r, torn := if pin then [] else w.torn, contact := if pin then 0 else w.contact }
  { e with
    pending := s.pending, freeCtr := s.freeCtr, now := s.now, regs := regsAfter r s.regs,
    bus := if pin then { s.bus with shadow := [], holding := [] } else s.bus,
    pins := { s.pins with faultL := s.pins.faultL && !pin },
    d2d := if pin then e.d2d else s.d2d,
    ang := if pin then e.ang else { s.ang with cmpA := [], cmpB := [] },
    sys := if pin then { e.sys with
        porAt := if bor then s.now else s.sys.porAt, retract := s.sys.retract && !bor, cooldown := s.sys.cooldown && !bor }
      else { s.sys with faultA := false, faultB := false, loadedA := false, loadedB := false, switching := false, imageVerified := false,
                        noImage := false, actRstA := false, actRstB := false, active := false }
    rbk := s.rbkAfter r,
    msqA := if pin then e.msqA else { Msq.empty with counted := s.msqA.counted },
    msqB := if pin then e.msqB else { Msq.empty with counted := s.msqB.counted },
    romPar := if pin then [] else s.romPar,
    wrpA := wrp s.wrpA, wrpB := wrp s.wrpB,
    lpe := if pin then e.lpe else { LpeSt.empty with coef := s.lpe.coef, buslim := s.lpe.buslim, sInteg := s.lpe.sInteg },
    spn := if bor then e.spn else s.spn,
    pwr := if bor then e.pwr else s.pwr,
    thm := if bor then e.thm else if pin then { e.thm with shut := s.thm.shut, coolSince := s.thm.coolSince } else s.thm,
    hwd := { HwdSt.empty with
      devId := s.hwd.devId, thermo := s.hwd.thermo, flashFloor := s.hwd.flashFloor, records := s.hwd.records,
      unlocks := if pin then 0 else s.hwd.unlocks }
    ch0 := chan s.ch0, ch1 := chan s.ch1, ch2 := chan s.ch2, ch3 := chan s.ch3,
    host := if pin then { HostSt.empty with startAt := s.now }
      else { HostSt.empty with
        startAt := s.now, addrA := s.host.addrA, addrB := s.host.addrB, pcieCfg := s.host.pcieCfg, pcieId := s.host.pcieId },
    apc := ApcSt.resetAt s.now,
    xsp := { XspSt.empty with flash := s.xsp.flash } }

/-- A reset recorded in SYS_RSTCAUSE (R765). -/
def State.resetCause (s : State) (f : Field) : State := s.putb f true

/-- The straps sampled (R784), with what loads from them: SYS_STAT, SYS_COMPAT.GEN7, SPN_CTL.RUN, the Vale slot (R774, R473, R699). -/
def State.sampleStraps (s : State) (p : Straps) : State :=
  let s1 : State := { s with pins := { s.pins with
    hifsel := p.hifsel, spinup := p.spinup, gen7 := p.gen7, slotid := p.slotid % 64, canopy := p.canopy } }
  (s1.putb Fld.SYS_COMPAT_GEN7 p.gen7).putb Fld.SPN_CTL_RUN p.spinup

/-- The ECC self-test of MEM (R529). -/
def State.memSelfTest (s : State) (ok : Bool) : State :=
  if ok then s else (s.raise Fld.MEM_EV_STFAIL).putb Fld.MEM_STAT_DIS true

/-- XSP starts its flash device (R684). -/
def State.xspInit (s : State) (f : FlashId) : State :=
  let s1 := ((s.putb Fld.XSP_STAT_READY f.found).putb Fld.XSP_STAT_OCTAL (f.found && f.octal)).put Fld.XSP_STAT_SIZE
    (if f.found then f.size else 0)
  if f.found && f.octal then s1 else s1.raise Fld.XSP_EV_SLOW

/-- The pairs of the logical cores that passed their self-test are admitted (R669). `pairs`: P0, P1 of LC0, P0, P1 of LC1. -/
def State.admitPairs (s : State) (pairs : Nat) : State :=
  let one (n : Nat) (t : State) : State :=
    let p0 := pairs.testBit (2 * n)
    let p1 := pairs.testBit (2 * n + 1)
    let t1 := (((t.putb (coreF n 0 1) p0).putb (coreF n 1 1) p1).putb (coreF n 4 1) (!p0 && p1)).putb (coreF n 2 1) (!p0 && !p1)
    if !p0 && !p1 then { t1 with pins := { t1.pins with faultL := true } } else t1
  one 1 (one 0 s)

/-- Start-up to t1 of R766, at the release of a POR or BOR: straps, MEM self-test, ISO on, the start decision with SPINUP_AUTO. -/
def State.startUp (s : State) (p : Straps) (memOk : Bool) : State :=
  let s1 : State := { s with
    pwr := { s.pwr with bor := false, brakeBor := false }, host := { s.host with startAt := s.now }, sys := { s.sys with porAt := s.now } }
  let s2 := ((((s1.sampleStraps p).xspInit p.flash).admitPairs p.pairs.toNat).memSelfTest memOk).putb Fld.PWR_STAT_ISO true
  (if s2.flag Fld.SPN_CTL_RUN then (if s2.spnHold then s2.runClear else s2.startDecision true) else s2.spnCheck).syncMode

/-- A RESET_L that a RETRACT left waiting acts once the RETRACT has ended (R793). -/
def State.resetWaited (s : State) : State :=
  if s.pins.resetWaits then ({ s with pins := { s.pins with resetL := true, resetWaits := false } }).resetCause Fld.SYS_RSTCAUSE_PIN else s

/-- A BOR begins (R484, R499): each bridge retracts its heads, every output goes off, and the registers take their Reset values; a
short brake holds, and any other rotor coasts. `brake`: the switch-off of BRAKE. -/
def State.borEnter (s : State) (brake : Bool) : State :=
  let s0 := ((s.gatesLow .a).gatesLow .b)
  let short := s.spnState == spnShort
  let turning := s.spnState != spnStopped
  let s1 := (s0.resetTo 6).resetCause Fld.SYS_RSTCAUSE_BOR
  let s2 : State := { s1 with pwr := { s1.pwr with bor := true, brakeBor := brake } }
  let s3 := if brake then s2.put Fld.PWR_STAT_RETPH 3 else s2
  let s4 := if short then s3.spnEnter spnShort else if turning then s3.spnEnter spnCoast else s3
  ((s4.put Fld.PWR_RAIL_OK 0).resetWaited).syncMode

/-- BRAKE begins (R494, R499): SPN short-brakes and the rails switch off. -/
def State.brakePhase (s : State) : State := (s.spnEnter spnShort).borEnter true

/-- BRAKE begins once both actuators are parked and DONE, 2 x TMAX or a deep sag (`late`) has come (R494). -/
def State.brakeCheck (s : State) (late : Bool) : State :=
  if s.retph = 2 ∧ s.bothParked = true ∧ (s.pwr.done || late || decide (s.pwr.retAt + 2 * s.tmax ≤ s.now)) = true then s.brakePhase else s

/-! ### Escalation of resets (R225, R228, R231) -/

/-- An ACTUATOR reset counted, unless it is a live-service reset (R228, R756): the ESC_N-th escalates. -/
def State.countActReset (s : State) (x : Act) (svc : Bool) : State :=
  if svc && s.flag Fld.SYS_MODE_SPLITLAT && (s.flag Fld.SYS_MODE_SPLITACT == decide (x = .b)) then s
  else
    let old := match x with
      | .a => s.sys.actResetsA
      | .b => s.sys.actResetsB
    let h := s.now :: s.within old
    let due := decide (s.eff Fld.SYS_ESCCFG_N ≤ h.length)
    let h1 := if due then [] else h
    let s1 : State := match x with
      | .a => { s with sys := { s.sys with actResetsA := h1 } }
      | .b => { s with sys := { s.sys with actResetsB := h1 } }
    if due then
      let s2 := ((s1.enterFault x).putb (byAct x Fld.SYS_ESCSTAT_ACTA Fld.SYS_ESCSTAT_ACTB) true).raise Fld.SYS_FLT_ESC
      if s2.isSN then s2 else s2.putb Fld.SYS_MODE_DEGLAT true
    else s1

/-- The drive-level escalation (R798). -/
def State.driveHold (s : State) : State :=
  let act (x : Act) (t : State) : State := if t.actOk x then (t.retract x).setHold x else t
  let s1 := act .b (act .a s)
  let s2 : State := { s1 with sys := { s1.sys with drvHold := true }, pins := { s1.pins with faultL := true } }
  ((s2.putb Fld.VALE_STAT_LEFT true).putb Fld.SYS_ESCSTAT_DRV true).raise Fld.SYS_FLT_ESC

/-- A WARM reset counted (R228). -/
def State.countWarm (s : State) : State :=
  let h := s.now :: s.within s.sys.warmResets
  if s.eff Fld.SYS_ESCCFG_N ≤ h.length then ({ s with sys := { s.sys with warmResets := [] } }).driveHold
  else { s with sys := { s.sys with warmResets := h } }

end Sys2Proof.Machine
end

