-- ==== Sys2Proof/Machine/Supplies.lean ====
section
/-!
DEFINITION. The commands of the supplies (R474 to R507): VIN thresholds, overvoltage, the chopper, rails, RETRACT. `vin` is VIN in
10 mV at the event.
-/
namespace Sys2Proof.Machine

/-- VIN_UVW_FALL (R485, R488, R788): both Write Guards trip, seeks are held, the dip timer starts. In RETRACT VIN_UVW gives no trip
(R495). -/
def execVinUvwFall (vin : Nat) (s : State) : Out :=
  let s1 := s.vin vin
  if !mayBelow vin s1.uvwThr then .next s1
  else
    let s2 := s1.putb Fld.PWR_STAT_UVW true
    if !s2.pwr.vinSeen || s2.retph != 0 || s2.flag Fld.PWR_STAT_UVHOLD then .next s2
    else
      let s3 := ((s2.putb Fld.PWR_STAT_UVHOLD true).raise Fld.PWR_EV_UVW).bump Fld.PWR_CNT_UVW 1
      .next (({ s3 with pwr := { s3.pwr with dipAt := some s3.now } }).wgTripBoth trgUvw)

/-- VIN_UVW_RELEASE (R486, R788): VIN at VIN_UVW + 200 mV or above. -/
def execVinUvwRelease (vin : Nat) (s : State) : Out :=
  let s1 := s.vin vin
  if !mayAbove vin (s1.uvwThr + 20) then .next s1
  else
    let held := s1.flag Fld.PWR_STAT_UVHOLD
    let first := !s1.pwr.vinSeen
    let s2 := (s1.putb Fld.PWR_STAT_UVW false).putb Fld.PWR_STAT_PLD false
    let s3 : State := { s2 with pwr := { s2.pwr with vinSeen := true } }
    if s3.retph != 0 then .next s3
    else if held then
      let s4 := (({ s3 with pwr := { s3.pwr with dipAt := none } }).putb Fld.PWR_STAT_UVHOLD false).raise Fld.PWR_EV_UVREL
      .next (((s4.wgReleaseBoth trgUvw).seekRelease .a).seekRelease .b)
    else if first then .next (s3.wgReleaseBoth trgUvw)
    else .next s3

/-- DIP_TIMER_EXPIRY (R487): T_UVW after the trip. -/
def execDipTimerExpiry (s : State) : Out :=
  match s.pwr.dipAt with
  | some t => if t + s.dipTicks ≤ s.now then .next s.enterRetract else .next s
  | none => .next s

/-- VIN_PLD_FALL (R488, R493, R788). -/
def execVinPldFall (vin : Nat) (s : State) : Out :=
  let s1 := s.vin vin
  if !mayBelow vin s1.pldThr || !s1.pwr.vinSeen then .next s1
  else .next ((s1.putb Fld.PWR_STAT_PLD true).bump Fld.PWR_CNT_PLD 1).enterRetract

/-- LOWV_SET (R489, R490): the spindle's cap applies while no head is loaded (R455). -/
def execLowvSet (vin : Nat) (s : State) : Out :=
  let s1 := s.vin vin
  if !mayBelow vin (10 * s1.eff Fld.PWR_LOWV_VLOW) || s1.flag Fld.PWR_STAT_LOWV then .next s1
  else .next ((s1.putb Fld.PWR_STAT_LOWV true).raise Fld.PWR_EV_LOWV)

/-- LOWV_CLEAR (R489, R491). -/
def execLowvClear (vin : Nat) (s : State) : Out :=
  let s1 := s.vin vin
  if !mayAbove vin (10 * s1.eff Fld.PWR_LOWV_VLOW + 30) then .next s1
  else .next ((s1.putb Fld.PWR_STAT_LOWV false).putb Fld.SPN_STAT_LOWV false)

/-- A chopper is fitted (R502). -/
def State.chopper (s : State) : Bool := s.get Fld.PWR_CHOP_RBRK != 0

/-- BRK goes high, or stays high (R502). -/
def State.brkHigh (s : State) : State :=
  { s.putb Fld.PWR_STAT_BRK true with
    pwr := { s.pwr with brkAt := if s.flag Fld.PWR_STAT_BRK then s.pwr.brkAt else s.now, brkOff := false } }

/-- BRK falls, no sooner than 20 us after it rose (R502); the tick at which they end takes it down. -/
def State.brkLow (s : State) : State :=
  if s.flag Fld.PWR_STAT_BRK && decide (s.now < s.pwr.brkAt + 16000) then { s with pwr := { s.pwr with brkOff := true } }
  else { s.putb Fld.PWR_STAT_BRK false with pwr := { s.pwr with brkOff := false } }

/-- The part of a tick in which BRK's 20 us end. -/
def State.brkTick (s : State) : State := if s.pwr.brkOff then s.brkLow else s

/-- OV1 (R501, R502): BRK goes high, unless no chopper is fitted or CHOPBLK is 1 (R505). -/
def execOv1 (vin : Nat) (s : State) : Out :=
  let s1 := s.vin vin
  if !mayAbove vin 1900 || s1.flag Fld.PWR_STAT_OV1 then .next s1
  else
    let s2 := (s1.putb Fld.PWR_STAT_OV1 true).raise Fld.PWR_EV_OV1
    .next (if s2.chopper && !s2.flag Fld.PWR_STAT_CHOPBLK then s2.brkHigh else s2)

/-- OV2 (R506, R468): the power die short-brakes the spindle. -/
def execOv2 (vin : Nat) (s : State) : Out :=
  let s1 := s.vin vin
  if !mayAbove vin 2050 || s1.flag Fld.PWR_STAT_OV2 then .next s1
  else
    let s2 := ((s1.putb Fld.PWR_STAT_OV2 true).raise Fld.PWR_EV_OV2).spnEnter spnShort
    .next ({ s2 with spn := { s2.spn with ov2 := true } }).syncMode

/-- The power die's own limit of a VCM's current at OV3 (R37, R506): it needs no sample of the loop engine. The winner code is EXTERNAL
(R405). -/
def State.ov3Limit (s : State) (x : Act) : State :=
  let lim : Int := (s.iretUnits : Nat)
  let u := (s.la x).u
  if u.natAbs ≤ s.iretUnits then s
  else
    let v := if u < 0 then -lim else lim
    ((s.setLa x { s.la x with u := v }).put (Fld.LPE_ARB_WIN x) 5).put (Fld.LPE_ARB_OUT x) (unsgn 16 v)

/-- OV3 (R506): boost off; the VCM current is limited to IRET while OV3 reads 1. -/
def execOv3 (vin : Nat) (s : State) : Out :=
  let s1 := s.vin vin
  if !mayAbove vin 2250 || s1.flag Fld.PWR_STAT_OV3 then .next s1
  else .next ((((((s1.putb Fld.PWR_STAT_OV3 true).raise Fld.PWR_EV_OV3).uaDrop).putb Fld.DRV_STAT_BOOSTOK false).ov3Limit .a).ov3Limit .b)

/-- OV_RELEASE (R501, R502, R506): `level` 1 to 3, VIN 0.5 V below its threshold. -/
def execOvRelease (level vin : Nat) (s : State) : Out :=
  let s1 := s.vin vin
  if level = 1 ∧ mayBelow vin 1850 = true then .next (s1.putb Fld.PWR_STAT_OV1 false).brkLow
  else if level = 2 ∧ mayBelow vin 2000 = true then
    .next (if s1.flag Fld.PWR_STAT_OV2 then { s1.putb Fld.PWR_STAT_OV2 false with spn := { s1.spn with ov2End := s.now } } else s1)
  else if level = 3 ∧ mayBelow vin 2200 = true then
    .next (if s1.flag Fld.PWR_STAT_OV3 then (s1.putb Fld.PWR_STAT_OV3 false).putb Fld.DRV_STAT_BOOSTOK (s1.flag Fld.DRV_CFG_BOOSTEN) else s1)
  else .next s1

/-- A chopper fault blocks the chopper (R505). -/
def State.chopBlock (s : State) (f : Field) : State := ((s.raise f).putb Fld.PWR_STAT_CHOPBLK true).putb Fld.PWR_STAT_BRK false

/-- CHOP_OPEN (R503): BRK has been high for 20 us. -/
def execChopOpen (s : State) : Out :=
  if s.chopper && s.flag Fld.PWR_STAT_BRK && decide (s.pwr.brkAt + 16000 ≤ s.now) then .next (s.chopBlock Fld.PWR_EV_CHOP_OPEN) else .next s

/-- CHOP_STUCK (R504). -/
def execChopStuck (s : State) : Out :=
  if s.chopper && !s.flag Fld.PWR_STAT_BRK then .next (s.chopBlock Fld.PWR_EV_CHOP_STUCK) else .next s

/-- CHOPREL (R505): PWR drives BRK high again while OV1 is in force. -/
def State.chopRel (s : State) : State :=
  let s1 := s.putb Fld.PWR_STAT_CHOPBLK false
  if s.flag Fld.PWR_STAT_CHOPBLK && s1.flag Fld.PWR_STAT_OV1 && s1.chopper then s1.brkHigh else s1

/-- CHOPREL (R505). -/
def execChoprel (s : State) : Out := .next s.chopRel

/-- PRERAIL_FAULT (R479, R758): both rails off, both actuators retract and enter FAULT. -/
def execPrerailFault (s : State) : Out :=
  if !s.flag Fld.PWR_CTL_PREEN then .next s
  else
    let s1 := ((s.putb Fld.PWR_CTL_PREEN false).put Fld.PWR_RAIL_OK (s.get Fld.PWR_RAIL_OK &&& 0x1F)).raise Fld.PWR_FLT_PRERAIL
    .next (((((s1.retract .a).retract .b).enterFault .a).enterFault .b).syncMode)

/-- PREEN written 1 (R479): the rails start again. -/
def State.preen (s : State) : State :=
  (s.putb Fld.PWR_CTL_PREEN true).put Fld.PWR_RAIL_OK (s.get Fld.PWR_RAIL_OK ||| 0x60)

/-- PREEN_WRITE (R479). -/
def execPreenWrite (s : State) : Out := .next s.preen

/-- VCORE_PHASE_DROP (R480): a second loss leaves VCORE out of regulation (R481), which is a BOR (R477). -/
def execVcorePhaseDrop (phase : Nat) (s : State) : Out :=
  if 3 ≤ phase ∨ (s.get Fld.PWR_RAIL_PHASES).testBit phase = false then .next s
  else
    let s1 := (s.put Fld.PWR_RAIL_PHASES (s.get Fld.PWR_RAIL_PHASES - 2 ^ phase)).raise Fld.PWR_EV_VCPHASE
    if popcount 3 (s1.get Fld.PWR_RAIL_PHASES) < 2 then .next (s1.borEnter false) else .next s1

/-- THROT follows WARN and the phase throttle (R517). -/
def State.throt (s : State) : State := s.putb Fld.THM_STAT_THROT (s.flag Fld.THM_STAT_WARN || s.pwr.vcThrot)

/-- VCORE_CURRENT_LIMIT (R481): on two phases. -/
def execVcoreCurrentLimit (s : State) : Out :=
  if popcount 3 (s.get Fld.PWR_RAIL_PHASES) ≠ 2 then .next s
  else .next (({ s with pwr := { s.pwr with vcThrot := true } }).raise Fld.PWR_EV_VCLIM).throt

/-- VCORE_CURRENT_LIMIT_END (R481). -/
def execVcoreCurrentLimitEnd (s : State) : Out := .next ({ s with pwr := { s.pwr with vcThrot := false } }).throt

/-- RETRACT_ENTRY (R492). -/
def execRetractEntry (s : State) : Out := .next s.enterRetract

/-- END written 1 (R494, R497). -/
def State.retEnd (s : State) : State := s.parkPhase.syncMode

/-- DONE written 1 (R494, R497). -/
def State.retDone (s : State) : State :=
  if s.retph = 0 then s else ({ s with pwr := { s.pwr with done := true } }).brakeCheck false

/-- RETRACT_END_WRITE (R494). -/
def execRetractEndWrite (s : State) : Out := .next s.retEnd

/-- RETRACT_DONE_WRITE (R494). -/
def execRetractDoneWrite (s : State) : Out := .next s.retDone

/-- MEDIA_PHASE_END (R494): the speed, TMAX, or a VIN more than 1.0 V below VBUS for 100 us has ended MEDIA. -/
def execMediaPhaseEnd (s : State) : Out :=
  if s.belowDstg || decide (s.pwr.retAt + s.tmax ≤ s.now) || decide (s.get Fld.PWR_VIN_VIN + 100 < s.vbus) then .next s.parkPhase.syncMode
  else .next s

/-- BRAKE_PHASE (R494): `late`, 2 x TMAX has passed or VIN has fallen more than 2.0 V below VBUS. -/
def execBrakePhase (late : Bool) (s : State) : Out := .next (s.brakeCheck late)

/-- BRAKE_BOR_EXIT (R499): VIN at VIN_UVW + 200 mV for 100 ms; start-up runs as at POR. -/
def execBrakeBorExit (straps : Straps) (memOk : Bool) (vin : Nat) (s : State) : Out :=
  if !s.pwr.bor || !s.pwr.brakeBor || !mayAbove vin (s.uvwThr + 20) then .next s
  else
    let s1 := ((s.put Fld.PWR_STAT_RETPH 0).put Fld.PWR_RAIL_OK 0x7F).vin vin
    .next (s1.startUp straps memOk)

/-- MEDIA_BUS_EXCURSION (R495): VIN has left 10 % of VBUS in MEDIA. -/
def execMediaBusExcursion (vin : Nat) (s : State) : Out :=
  let s1 := s.vin vin
  if s1.retph ≠ 1 ∨ s1.flag Fld.PWR_STAT_UVHOLD = true ∨ (90 * s1.vbus ≤ 100 * vin ∧ 100 * vin ≤ 110 * s1.vbus) then .next s1
  else .next ((s1.putb Fld.PWR_STAT_UVHOLD true).wgTripBoth trgUvw)

/-- MEDIA_BUS_SETTLED (R495): VIN has stayed within 5 % of VBUS for 100 us in MEDIA. Held seeks begin (R486). -/
def execMediaBusSettled (vin : Nat) (s : State) : Out :=
  let s1 := s.vin vin
  if s1.retph ≠ 1 ∨ s1.flag Fld.PWR_STAT_UVHOLD = false ∨ 100 * vin < 95 * s1.vbus ∨ 105 * s1.vbus < 100 * vin then .next s1
  else .next ((((s1.putb Fld.PWR_STAT_UVHOLD false).wgReleaseBoth trgUvw).seekRelease .a).seekRelease .b)

end Sys2Proof.Machine
end

