-- ==== Sys2Proof/Machine/Thermal.lean ====
section
/-!
DEFINITION. The commands of the thermal unit (R508 to R522): samples, bands, the throttle, the shutdown. Temperatures are in 1/16 C.
-/
namespace Sys2Proof.Machine

/-- A valid reading of a sensor with a range in C (R510, R508). -/
def thmValid (lo hi : Int) (r : Option Int) : Option Int :=
  r.bind (fun v => if 16 * lo ≤ v ∧ v ≤ 16 * hi then some v else none)

/-- A temperature as a register shows it. -/
def thmWord (r : Option Int) : Nat := match r with
  | some v => unsgn 16 v
  | none => 0x8000

/-- The highest of the valid readings. -/
def thmMax (l : List (Option Int)) : Option Int :=
  l.foldl (fun b r => match b, r with
    | some x, some y => some (max x y)
    | none, y => y
    | x, none => x) none

/-- The band edges E0 to E6 in 1/16 C (R512). -/
def State.edges (s : State) : List Int :=
  [Fld.THM_EDGES0_E0, Fld.THM_EDGES0_E1, Fld.THM_EDGES0_E2, Fld.THM_EDGES0_E3, Fld.THM_EDGES1_E4, Fld.THM_EDGES1_E5,
    Fld.THM_EDGES1_E6].map (fun f => 16 * sgn 8 (s.get f))

/-- The edges ascend strictly (R514). -/
def ascending : List Int → Bool
  | a :: b :: t => decide (a < b) && ascending (b :: t)
  | _ => true

/-- A band decided (R512, R223, R515): a sequencer with no slot in RUN takes it at once. -/
def State.setBand (s : State) (b : Nat) (event : Bool) : State :=
  let s1 := s.put Fld.THM_STAT_BAND b
  let s2 : State := { s1 with thm := { s1.thm with up := 0, down := 0, set := true } }
  let take (x : Act) (t : State) : State := if t.actOk x && (t.msq x).running.isNone then t.takeBand x else t
  let s3 := take .b (take .a s2)
  if event then s3.raise Fld.THM_EV_BAND else s3

/-- The band follows one sample of its source (R511 to R514). -/
def State.bandStep (s : State) (v : Int) : State :=
  let h := (v :: s.thm.hist).take 4
  let s1 : State := { s with thm := { s.thm with hist := h } }
  let e := s1.edges
  let sum := h.foldl (· + ·) 0
  let b := s1.get Fld.THM_STAT_BAND
  let hy : Int := 2 * (s1.eff Fld.THM_CFG_BAND_HYST : Nat)
  if !ascending e || decide (h.length < 4) then s1
  else if !s1.thm.set then s1.setBand (e.filter (fun x => decide (4 * x ≤ sum))).length false
  else
    let up := if b < 7 ∧ 4 * (e.getD b 0 + hy) ≤ sum then s1.thm.up + 1 else 0
    let down := if 0 < b ∧ sum < 4 * (e.getD (b - 1) 0 - hy) then s1.thm.down + 1 else 0
    if 4 ≤ up then s1.setBand (b + 1) true
    else if 4 ≤ down then s1.setBand (b - 1) true
    else { s1 with thm := { s1.thm with up := up, down := down } }

/-- A value lies within NEAR of a limit, `n` times both (R509). -/
def State.near (s : State) (n v lim : Int) : Bool := decide ((v - n * lim).natAbs ≤ n.natAbs * 16 * s.eff Fld.THM_CFG_NEAR)

/-- THM samples fast (R509). -/
def State.thmFast (s : State) (js : List (Option Int)) : Bool :=
  let j := js.filterMap id
  let tjw : Int := 16 * (s.eff Fld.THM_WARN_TJW : Nat)
  let sum := s.thm.hist.foldl (· + ·) 0
  j.any (fun v => s.near 1 v tjw || s.near 1 v 2080) || s.flag Fld.THM_STAT_WARN || s.sys.cooldown || !s.thm.set
    || (decide (s.thm.hist.length = 4) && s.edges.any (fun e => s.near 4 sum e))

/-- PEAK of a register raised to a reading (R525). -/
def State.peak (s : State) (f : Field) (tj : Option Int) : State :=
  match tj with
  | some v => if s.get f = 0x8000 ∨ sgn 16 (s.get f) < v then s.put f (unsgn 16 v) else s
  | none => s

/-- The throttle by WARN is left after 4 calm fast samples (R516). -/
def State.warnRelease (s : State) (js : List (Option Int)) : State :=
  if !s.flag Fld.THM_STAT_WARN then s
  else
    let lim : Int := 16 * ((s.eff Fld.THM_WARN_TJW : Nat) - (s.eff Fld.THM_CFG_WARN_HYST : Nat) : Int)
    let calm := (js.filterMap id).all (fun v => decide (v < lim))
    let n := if calm then s.thm.calm + 1 else 0
    if 4 ≤ n then
      ((({ s with thm := { s.thm with calm := 0 } }).putb Fld.THM_STAT_WARN false).throt).raise Fld.THM_EV_WARNREL
    else { s with thm := { s.thm with calm := n } }

/-- The wait of COOLDOWN (R522): since when TJ has stayed below 105 C. -/
def State.coolStep (s : State) (tj : Option Int) : State :=
  match tj with
  | some v =>
    { s with thm := { s.thm with
      coolSince := if 1680 ≤ v then none else if s.sys.cooldown then some (s.thm.coolSince.getD s.now) else none } }
  | none => s

/-- The sample registers take a round's samples (R509, R510), and the sensors that turn invalid raise THM_FLT_SENSOR. -/
def State.thmStore (s : State) (js : List (Option Int)) (th pre : Option Int) : State :=
  let w (k : Nat) : Nat := thmWord (js.getD k none)
  let s1 := (((((((s.put Fld.THM_TS01_LOW (w 0)).put Fld.THM_TS01_HIGH (w 1)).put Fld.THM_TS23_LOW (w 2)).put Fld.THM_TS23_HIGH (w 3)).put
    Fld.THM_TS45_LOW (w 4)).put Fld.THM_TS45_HIGH (w 5)).put Fld.THM_EXT_LOW (thmWord th)).put Fld.THM_EXT_HIGH (thmWord pre)
  let all := js ++ [th, pre]
  let bad := (List.range 8).foldl (fun m k => if (all.getD k none).isNone then m + 2 ^ k else m) 0
  let fresh := (List.range 8).any (fun k => bad.testBit k && !s.thm.invalid.testBit k)
  let s2 : State := { s1 with thm := { s1.thm with invalid := bad } }
  if fresh then s2.raise Fld.THM_FLT_SENSOR else s2

/-- The peaks, the base limits of THM_BASELIM as its field table gives them, and the histogram of a round (R521, R733). -/
def State.thmWatch (s : State) (tj th : Option Int) : State :=
  let s4 := s.peak Fld.THM_PEAK_PEAK tj
  let s5 := if s4.thm.shut then s4.peak Fld.THM_SHUT_PEAK tj else s4
  let s6 : State := match th with
    | some v => if 16 * sgn 8 (s5.get Fld.THM_BASELIM_HI) < v ∨ v < 16 * sgn 8 (s5.get Fld.THM_BASELIM_LO) then s5.raise Fld.THM_EV_BASE else s5
    | none => s5
  match tj with
  | some v => s6.sample 81 (binOf 32 (-320) 80 v) v 0x400
  | none => s6

/-- The temperature band takes the sample of its source (R512, R513). -/
def State.thmBand (s : State) (src : Option Int) : State :=
  let s8 : State := match src with
    | some v => s.bandStep v
    | none => s
  s8.putb Fld.THM_STAT_BVALID (src.isSome && s8.thm.set)

/-- THM_SAMPLE (R508 to R516, R522): the readings of TS0 to TS5, THERM and the highest preamplifier; none, a missing one. -/
def execThmSample (ts : List (Option Int)) (therm pre : Option Int) (s : State) : Out :=
  let js := (List.range 6).map (fun k => thmValid (-40) 150 (ts.getD k none))
  let th := thmValid (-40) 125 therm
  let tj := thmMax js
  let src : Option Int := if s.get Fld.THM_CFG_BSRC = 0 then th else if s.get Fld.THM_CFG_BSRC = 1 then pre else tj
  let s1 := ((((s.thmStore js th pre).thmWatch tj th).thmBand src).warnRelease js).coolStep tj
  .next (s1.putb Fld.THM_STAT_FAST (s1.thmFast js))

/-- TJ_WARN (R516). -/
def execTjWarn (s : State) : Out :=
  if s.flag Fld.THM_STAT_WARN then .next s
  else
    let s1 : State := { s with thm := { s.thm with calm := 0 } }
    .next ((((s1.putb Fld.THM_STAT_WARN true).putb Fld.THM_STAT_FAST true).throt).raise Fld.THM_EV_WARN)

/-- COOLDOWN begins in a thermal shutdown once both actuators are parked (R521): every rail but VAUX goes off. -/
def State.coolCheck (s : State) : State :=
  if s.thm.shut && s.bothParked && !s.sys.cooldown then
    (({ s with sys := { s.sys with cooldown := true }, thm := { s.thm with coolSince := none } }).put Fld.PWR_RAIL_OK 8).syncMode
  else s

/-- The limit of TJ_SHUT in 1/16 C (R520): 130 C, 135 C during RETRACT. -/
def State.shutAt (s : State) : Int := if s.sys.retract then 2160 else 2080

/-- TJ_SHUT (R520 to R522): a comparator's temperature, the peak, has reached its limit: the gates stop with torn records, the logic die is held in reset, the power die takes the safe state, and
COOLDOWN begins once both actuators are parked. -/
def execTjShut (sensor : Nat) (peak : Int) (s : State) : Out :=
  if s.thm.shut || s.pwr.bor || decide (peak < s.shutAt) then .next s
  else
    let ret := s.retph != 0
    let s1 := (s.hardStop .a).hardStop .b
    let s2 := s1.resetTo 4
    let s3 : State := { s2 with thm := { s2.thm with shut := true, coolSince := none } }
    let s4 := s3.safeEnter
    let s5 := (((s4.put Fld.THM_SHUT_SENSOR sensor).putb Fld.THM_SHUT_RET ret).bump Fld.THM_SHUT_COUNT 1).put Fld.THM_SHUT_PEAK (unsgn 16 peak)
    .next ((s5.count 9 1).syncMode).coolCheck

end Sys2Proof.Machine
end

