-- ==== Sys2Proof/Machine/Resets.lean ====
section
/-!
DEFINITION. The resets (R760 to R765, R522, R669, R680) and the boot (R618, R619). What a self-test, a signature check and the
straps give comes with the command.
-/
namespace Sys2Proof.Machine

/-- POR (R760, R765, R766): every field at its Reset value, the rails on, start-up. -/
def execPor (p : Straps) (memOk : Bool) (s : State) : Out :=
  .next (((s.resetTo 7).put Fld.PWR_RAIL_OK 0x7F).startUp p memOk)

/-- BOR (R484, R760). -/
def execBor (s : State) : Out := if s.pwr.bor then .next s else .next (s.borEnter false)

/-- BOR_RELEASE (R800): start-up as at POR. The switch-off of BRAKE is released by BRAKE_BOR_EXIT (R499). -/
def execBorRelease (p : Straps) (memOk : Bool) (s : State) : Out :=
  if !s.pwr.bor || s.pwr.brakeBor then .next s else .next ((s.put Fld.PWR_RAIL_OK 0x7F).startUp p memOk)

/-- PIN_RESET (R760, R761, R763, R793): the power die takes the link-loss safe state while RESET_L is low. In a BOR it joins; in a RETRACT
it waits for the BOR that ends it. -/
def execPinReset (s : State) : Out :=
  if s.retph != 0 && !s.pwr.bor then .next { s with pins := { s.pins with resetWaits := true } }
  else
    let s1 : State := { s with pins := { s.pins with resetL := true } }
    if s1.pwr.bor then .next (s1.resetCause Fld.SYS_RSTCAUSE_PIN)
    else .next (((((s1.hardStop .a).hardStop .b).resetTo 5).resetCause Fld.SYS_RSTCAUSE_PIN).safeEnter).syncMode

/-- Sensing of the rotor with RUN at 0 (R761). -/
def State.pinSense (s : State) : State :=
  let t := (s.spnEnter spnSense).putb Fld.SPN_STAT_BEMFOK false
  { t with spn := { t.spn with valid := 0, place := none, interval := 0, bad := 0, senseAt := s.now, pinSense := true } }

/-- PIN_RESET_RELEASE (R761, R784, R44, R529, R669): straps, flash, self-tests; SPN senses the rotor whatever RUN holds. While a BOR or
the hold of R521 lasts, start-up waits for its end. -/
def execPinResetRelease (p : Straps) (memOk : Bool) (s : State) : Out :=
  if !s.pins.resetL then .next { s with pins := { s.pins with resetWaits := false } }
  else
    let s1 : State := { s with pins := { s.pins with resetL := false }, host := { s.host with startAt := s.now } }
    if s1.pwr.bor then .next s1
    else
      let s2 := (((s1.sampleStraps p).xspInit p.flash).admitPairs p.pairs.toNat).memSelfTest memOk
      if s2.thm.shut then .next s2
      else
        let s3 := s2.putb Fld.SYS_D2DSTAT_SAFE false
        let s4 := if s3.spnHold then s3.putb Fld.SPN_CTL_RUN false else s3
        .next (if s4.flag Fld.SPN_CTL_RUN then s4.startDecision true else s4.pinSense).syncMode

/-- A reset's occurrence (R737): SOURCE 0. -/
def State.resetOcc (s : State) (code : Nat) : State := s.occur 4 0 code

/-- THERMAL_RESET (R522, R743, R760): TJ has stayed below 105 C for 1 s in COOLDOWN. -/
def execThermalReset (f : FlashId) (pairs : BitVec 4) (s : State) : Out :=
  let due := match s.thm.coolSince with
    | some t => decide (t + 800000000 ≤ s.now)
    | none => false
  if !(s.sys.cooldown && due) then .next s
  else
    let s1 := (s.resetTo 4).resetCause Fld.SYS_RSTCAUSE_THERMAL
    let s2 : State := { s1 with
      sys := { s1.sys with cooldown := false }
      thm := { s1.thm with shut := false, coolSince := none } }
    let s3 := ((s2.put Fld.PWR_RAIL_OK (if s2.flag Fld.PWR_CTL_PREEN then 0x7F else 0x1F)).xspInit f).admitPairs pairs.toNat
    let s4 := ((s3.raise Fld.THM_EV_THERMAL).resetOcc 4).startFlush 2
    .next (s4.safeLeave true).syncMode

/-! ### WARM and ACTUATOR resets -/

/-- The cores that are not OFF are released, their watchdogs enabled and restarted (R618, R673). -/
def State.releaseCores (s : State) : State :=
  let period := s.eff Fld.INTC_WDCFG_PERIOD * 800000
  let one (n : Nat) (t : State) : State :=
    if t.flag (coreF n 2 1) then t
    else
      let w : Watchdog := { at_ := t.now, period := period, paused := none }
      if n = 0 then ({ t with apc := { t.apc with rel0 := true, wd0 := w } }).putb Fld.INTC_WDCFG_EN0 true
      else ({ t with apc := { t.apc with rel1 := true, wd1 := w } }).putb Fld.INTC_WDCFG_EN1 true
  one 1 (one 0 s)

/-- A link reset of a SAS port (R634, R659): the port takes its address; counted. -/
def State.sasLinkReset (s : State) (b : Bool) : State :=
  let (lo, hi) := if b then (Reg.SAS_ADDRB, Reg.SAS_ADDRBH) else (Reg.SAS_ADDRA, Reg.SAS_ADDRAH)
  let v := BitVec.ofNat 64 ((s.rd lo).toNat + (s.rd hi).toNat * 2 ^ 32)
  let s1 : State := if b then { s with host := { s.host with addrB := v } } else { s with host := { s.host with addrA := v } }
  s1.bump (if b then Fld.SAS_CNT_RSTB else Fld.SAS_CNT_RSTA) 1

/-- The contexts that slots in RUN or READY name, freed ones too. -/
def State.slotCtxs (s : State) (x : Act) : List Nat :=
  ((List.range 16).map (fun k =>
    let sl := (s.msq x).slot k
    if sl.st = .run then sl.spec.ctx else if sl.st = .ready then sl.comm.ctx else 0x400)).filter (fun n => n != 0x400)

/-- The slots with a bound context end (R207 bit 14, R209). -/
def State.warmSlots (s : State) : State :=
  (s.slotCtxs .b).foldl (fun t n => t.ctxEnd .b 14 n) ((s.slotCtxs .a).foldl (fun t n => t.ctxEnd .a 14 n) s)

/-- An operation of the APC's flash engine ends with ABORTED (R690). -/
def State.xspAbort (s : State) : State :=
  if s.flag Fld.XSP_CMD_GO then
    let done := match s.xsp.res with
      | some (_, d) => d
      | none => 0
    { s with xsp := { s.xsp with res := some (6, done), again := false } }
  else s

/-- The use counts of slots whose contexts a WARM reset has ended (R580). -/
def State.warmUses (s : State) : State :=
  s.ccx.ctxs.foldl (fun t e => match e.2.slot with
    | some i => t.unuseSlot i
    | none => t) s

/-- What a warm reset clears outright: the registers of its domain, the CCX but its sequencers, the buffers and the APC. -/
def State.warmClear (s : State) : State :=
  { s with
    regs := regsAfter 3 s.regs
    ccx := { CcxSt.empty with seqs := s.ccx.seqs }
    buf := BufSt.empty
    apc := ApcSt.resetAt s.now
    sys := { s.sys with switching := false } }

/-- A WARM reset (R760, R651, R653, R669, R680, R690, R773): `src` is its WSRC, `core` the core that caused it, `verified` the running
image matches M and the cores are released; otherwise a boot follows. -/
def State.warmReset (s : State) (src : Nat) (core : Option Nat) (pairs : Nat) (verified : Bool) : State :=
  let cause (n : Nat) (t : State) : State :=
    (t.putb (coreF n 3 1) (src == 3 && core == some n)).putb (coreF n 5 1) (src == 2 && core == some n)
  let s1 := cause 1 (cause 0 ((s.resetCause Fld.SYS_RSTCAUSE_WARM).put Fld.SYS_RSTCAUSE_WSRC src))
  let s2 := (((s1.resetOcc 5).warmSlots).warmUses).xspAbort
  let s3 := s2.warmClear
  let s4 := if s3.pcieMode then ({ s3 with host := { s3.host with cfs := true } }).raise Fld.PCIE_FLT_CFS
    else ({ s3 with host := { s3.host with ua := 3 } }).sasLinkReset false |>.sasLinkReset true
  let s5 := ((s4.raise Fld.HIF_EV_HOSTRST).countWarm).admitPairs pairs
  (if verified then s5.releaseCores else s5).syncMode

/-- WARM_RESET (R760): SYS_RSTCTL.WARM, by a core (1) or the debug port (4). -/
def execWarmReset (src : Nat) (pairs : BitVec 4) (verified : Bool) (s : State) : Out :=
  .next (s.warmReset src none pairs.toNat verified)

/-- The bits of a register that an ACTUATOR reset of an actuator clears (R25, R762). -/
def actMask (x : Act) (a : Nat) : Nat :=
  match regDesc a with
  | some (own, d) =>
    if d.clr = .actuator then
      if d.parts.isEmpty then (if own = some x then 0xFFFFFFFF else 0)
      else (d.parts.filter (fun p => p.1 == x)).foldl (fun m p => m ||| p.2) 0
    else 0
  | none => 0

/-- The registers after an ACTUATOR reset. -/
def regsAfterAct (x : Act) (m : List (Nat × Word)) : List (Nat × Word) :=
  mmap regReset (fun a w => merge w (regReset a) (BitVec.ofNat 32 (actMask x a))) m

/-- The following-error counts of a channel's own loops start afresh. -/
def dropChans (x : Act) (l : List (Nat × Nat)) : List (Nat × Nat) := l.filter (fun e => e.1 / 2 != x.idx)

/-- An ACTUATOR reset (R762, R765, R756, R228). -/
def State.actuatorReset (s : State) (x : Act) (svc : Bool) : State :=
  if !s.actOk x then s
  else
    let s1 := (s.hardStop x).squash x (2 ^ 13) false
    let s2 := (s1.putb (drvOff x) false).retract x
    let m := s2.msq x
    let s3 := (s2.setMsq x { Msq.empty with
      counted := m.counted, ucs := m.ucs, subs := m.subs, lastCommitAts := m.lastCommitAts, checkAt := m.checkAt }).setCmps x []
    let s4 : State := { s3 with
      regs := regsAfterAct x s3.regs
      lpe := { s3.lpe with feLas := dropChans x s3.lpe.feLas, feHtr := dropChans x s3.lpe.feHtr } }
    let ch (n : Chan) (t : State) : State := t.setCh n { ChanSt.empty with taps := (t.ch n).taps, duty := (t.ch n).duty }
    let s5 := ch (chanOf x true) (ch (chanOf x false) s4)
    let s6 := s5.setPlk x { s5.plk x with repeated := false, hsel := none }
    let s7 := (s6.setFaulted x false).resetCause (byAct x Fld.SYS_RSTCAUSE_ACTA Fld.SYS_RSTCAUSE_ACTB)
    let s8 : State := match x with
      | .a => { s7 with sys := { s7.sys with actRstA := true } }
      | .b => { s7 with sys := { s7.sys with actRstB := true } }
    (((s8.resetOcc (6 + x.idx)).countActReset x svc).setHold x).syncMode

/-- ACTUATOR_RESET (R762). -/
def execActuatorReset (x : Act) (svc : Bool) (s : State) : Out := .next (s.actuatorReset x svc)

/-! ### Boot -/

/-- A byte of the flash. -/
def State.flashAt (s : State) (off : Nat) : Byte := mget Config.flashByte s.xsp.flash off

/-- A word of the flash, least significant byte first. -/
def State.flashWord (s : State) (off : Nat) : Nat := leNat ((List.range 4).map (fun i => s.flashAt (off + i)))

/-- The image passes R617: its header, the floor of R620, and its signatures. -/
def State.imageOk (s : State) (b : BootTry) : Bool :=
  b.sigs && s.flashWord b.base == 0x4E4C5247 && s.flashWord (b.base + 4) == 0x10000 && decide (s.flashWord (b.base + 8) ≤ 4095)
    && decide (s.floor ≤ s.flashWord (b.base + 8))

/-- The sections of an image: type, offset in the flash, target and length. -/
def State.imageSections (s : State) (base : Nat) : List (Nat × Nat × Nat × Nat) :=
  (List.range (min 16 (s.flashWord (base + 0x1C)))).map (fun i =>
    let e := base + 0x40 + 12 * i
    let w := s.flashWord (e + 8)
    (w / 2 ^ 24, base + s.flashWord e, s.flashWord (e + 4), w % 2 ^ 24))

/-- The sections loaded (R616, R618): SRAM at its address, DRAM at its offset. -/
def State.loadSections (s : State) (base : Nat) : State :=
  (s.imageSections base).foldl (fun t e =>
    let bytes := (List.range e.2.2.2).map (fun i => s.flashAt (e.2.1 + i))
    if e.1 = 1 then State.bytesPut 7 bytes e.2.2.1 t
    else if e.1 = 2 then State.bytesPut 7 bytes (dramBase + e.2.2.1) t
    else t) s

/-- The firmware region that an image declares is zero-filled (R546). -/
def State.fillRegion (s : State) (base : Nat) : State :=
  let a := s.flashWord (base + 0x20) * 2 ^ 17
  let n := min (s.flashWord (base + 0x24) * 2 ^ 17) (s.dramBytes / 8 - a)
  State.zeros n a s

/-- The protection windows (R686): 0 Heartwood, 1 RBK, 2 the APC while unlocked, 3 nobody; each its base and limit in 64 KiB. -/
def State.setProt (s : State) (w : List (Nat × Nat)) : State :=
  (List.range 4).foldl (fun t k =>
    let (b, l) := w.getD k (0, 0)
    let who := if k = 0 then 2 ^ 31 else if k = 1 then 2 ^ 30 else if k = 2 then 2 ^ 28 else 0
    (t.wr (Reg.XSP_PROTB k) (BitVec.ofNat 32 (who + b % 2 ^ 12))).wr (Reg.XSP_PROTL k) (BitVec.ofNat 32 (l % 2 ^ 13))) s

/-- The image slots' ranges as the layout record gives them (R685). -/
def State.setSlots (s : State) (a b : Nat × Nat) : State := { s with hwd := { s.hwd with slotA := a, slotB := b } }

/-- Window 3 moves to the other image slot (R686, R770): the one that holds the image a switch has made the running one (R769). -/
def State.moveWindow3 (s : State) : State :=
  let w := if (wfield (s.rd (Reg.XSP_PROTB 3)) 0 12, wfield (s.rd (Reg.XSP_PROTL 3)) 0 13) = s.hwd.slotA then s.hwd.slotB else s.hwd.slotA
  (s.wr (Reg.XSP_PROTB 3) (BitVec.ofNat 32 (w.1 % 2 ^ 12))).wr (Reg.XSP_PROTL 3) (BitVec.ofNat 32 (w.2 % 2 ^ 13))

/-- The accepted image is loaded and the cores are released (R618, R634). -/
def State.bootWith (s : State) (b : BootTry) (fb : Bool) (sasA sasB : BitVec 64) : State :=
  let s1 := (s.fillRegion b.base).loadSections b.base
  let svn := s.flashWord (b.base + 8)
  let s2 := ((((s1.put Fld.HWD_BOOT_SVN svn).put Fld.HWD_BOOT_FLOOR s.floor).putb Fld.HWD_BOOT_FB fb).putb Fld.HWD_BOOT_IMG b.slotB).setMeas 2
    (digest 0x07 [BitVec.ofNat 32 b.base, 0, BitVec.ofNat 32 (s.flashWord (b.base + 0xC)), BitVec.ofNat 32 s.freeCtr])
  let s3 : State := { s2 with hwd := { s2.hwd with patch := b.patch }, sys := { s2.sys with noImage := false } }
  let s4 := if fb then s3.raise Fld.HWD_EV_FALLBACK else s3
  let s5 := (((s4.wr Reg.SAS_ADDRA (BitVec.ofNat 32 sasA.toNat)).wr Reg.SAS_ADDRAH (BitVec.ofNat 32 (sasA.toNat / 2 ^ 32))).wr Reg.SAS_ADDRB
    (BitVec.ofNat 32 sasB.toNat)).wr Reg.SAS_ADDRBH (BitVec.ofNat 32 (sasB.toNat / 2 ^ 32))
  ((s5.putb Fld.SAS_CFG_ENA true).putb Fld.SAS_CFG_ENB true).releaseCores

/-- SECURE_BOOT (R570, R571, R601, R617 to R619, R634, R686): `first` and `second`, the images in the order of the boot record;
`prot`, windows 0 to 2 and each image slot's range (A, B). It waits for DRAM training when the image has a DRAM section. -/
def execSecureBoot (root ent : Bool) (first second : BootTry) (prot : List (Nat × Nat)) (sasA sasB : BitVec 64) (s : State) : Out :=
  if s.pwr.bor || s.pins.resetL || s.thm.shut || s.apc.rel0 || s.apc.rel1 then .next s
  else
    let pick := if s.imageOk first then some (first, false) else if s.imageOk second then some (second, true) else none
    let needs := match pick with
      | some (b, _) => (s.imageSections b.base).any (fun e => e.1 == 2)
      | none => false
    if needs && !s.flag Fld.MEM_STAT_TRAINED && !s.flag Fld.MEM_STAT_DIS then .next s
    else
      let s1 := (if s.flag Fld.HWD_STAT_READY then s else s.hwdStart root ent).setSlots (prot.getD 3 (0, 0)) (prot.getD 4 (0, 0))
      match pick with
      | some (b, fb) =>
        let s2 := s1.setProt (prot.take 3 ++ [prot.getD (if b.slotB then 4 else 3) (0, 0)])
        .next (s2.bootWith b fb sasA sasB).syncMode
      | none => .next ({ (s1.setProt (prot.take 3)) with sys := { s1.sys with noImage := true } }).syncMode

end Sys2Proof.Machine
end

