-- ==== Sys2Proof/Machine/FlashOps.lean ====
section
/-!
DEFINITION. The flash device (R684 to R690) and the boot record (R685): programming, erasing, CRC-32.
-/
namespace Sys2Proof.Machine

/-- A byte of the flash as an operation leaves it. -/
def State.flashSet (s : State) (off : Nat) (v : Byte) : State :=
  { s with xsp := { s.xsp with flash := mset Config.flashByte s.xsp.flash off v } }

/-- Bytes programmed: a program turns ones into zeros only (the NOR family's; log 60). -/
def State.flashProgram : List Byte → Nat → State → State
  | [], _, s => s
  | b :: t, off, s => State.flashProgram t (off + 1) (s.flashSet off (s.flashAt off &&& b))

/-- n bytes erased to 0xFF (log 60). -/
def State.flashErase : Nat → Nat → State → State
  | 0, _, s => s
  | n + 1, off, s => State.flashErase n (off + 1) (s.flashSet off 0xFF#8)

/-- Bytes of an erased range written. -/
def State.flashWrite (s : State) (l : List Byte) (off : Nat) : State := State.flashProgram l off (State.flashErase l.length off s)

/-- A copy of the boot record (R685): magic, sequence, image; with its CRC. -/
def bootRecord (seq img : Nat) : List Byte :=
  let body := [0x42#8, 0x4F#8, 0x4F#8, 0x54#8] ++ leBytes 4 seq ++ leBytes 4 img
  body ++ leBytes 4 (crc32 body).toNat

/-- The sequence and image of a valid copy at an offset (R685). -/
def State.bootCopy (s : State) (off : Nat) : Option (Nat × Nat) :=
  let l := (List.range 16).map (fun i => s.flashAt (off + i))
  if s.flashWord off = 0x544F4F42 ∧ leNat (l.drop 12) = (crc32 (l.take 12)).toNat then
    some (s.flashWord (off + 4), s.flashWord (off + 8) % 2)
  else none

/-- The boot record rewritten to name an image first: the copy that does not count is written with the next sequence (R685). -/
def State.bootName (s : State) (base img : Nat) : State :=
  let a := s.bootCopy base
  let b := s.bootCopy (base + 4096)
  let put (t : State) (off seq : Nat) : State := State.flashProgram (bootRecord seq img) off (State.flashErase 4096 off t)
  match a, b with
  | some (m, _), some (n, _) => if n ≤ m then put s (base + 4096) (m + 1) else put s base (n + 1)
  | some (m, _), none => put s (base + 4096) (m + 1)
  | none, some (n, _) => put s base (n + 1)
  | none, none => put s base 1

end Sys2Proof.Machine
end

