-- ==== Sys2Proof/Machine/Rbk.lean ====
section
/-!
DEFINITION. The commands of the Ringbook recorder (R727 to R747): the retained SRAM as it is read, firmware occurrences, snapshots,
flushes, the periodic samples.
-/
namespace Sys2Proof.Machine

/-- The low or the high word of a 64-bit value. -/
def half64 (v : Nat) (high : Bool) : Word := BitVec.ofNat 32 (if high then v / 2 ^ 32 else v)

/-- A word of the counters region (R727, R736): 8 areas of a sequence number and 63 counters; areas 1 to 7 stay 0. -/
def ctrWord (r : Retained) (o : Nat) : Word :=
  let w := o % 512 / 4
  if 512 ≤ o then 0
  else if w < 2 then half64 r.ctrSeq (w == 1)
  else half64 (mget (fun _ => 0) r.ctrs (w / 2 - 1)) (w % 2 == 1)

/-- A word of an event record (R738). -/
def recWord (e : EvRec) (w : Nat) : Word :=
  let o := e.occ
  if w < 2 then half64 e.seq (w == 1)
  else if w = 2 then BitVec.ofNat 32 (o.ty % 16 * 2 ^ 28 + o.src % 64 * 2 ^ 22 + o.code % 64 * 2 ^ 16 + o.count % 2 ^ 16)
  else if w = 3 then BitVec.ofNat 32 (o.ctx % 2 ^ 11 * 16 + o.mode % 16)
  else if w < 6 then half64 o.t0 (w == 5)
  else if w < 8 then half64 o.ats0 (w == 7)
  else if w < 10 then half64 o.t1 (w == 9)
  else if w < 12 then half64 o.ats1 (w == 11)
  else if w = 12 then o.stat
  else if w = 13 then o.d0
  else if w = 14 then o.d1
  else o.d2

/-- A word of a histogram area (R733): sequence number, count, sum, bins, in that order (DEDUCED). -/
def histWord (h : HistArea) (w : Nat) : Word :=
  if w < 2 then half64 h.seq (w == 1)
  else if w < 4 then half64 h.count (w == 3)
  else if w < 6 then half64 (unsgn 64 h.sum) (w == 5)
  else if w < 38 then BitVec.ofNat 32 (mget (fun _ => 0) h.bins (w - 6))
  else 0

/-- The word at an offset of retained content (R727). The places inside the header and inside an extreme area that holds samples are not
given: none (log 47). -/
def Retained.wordAt (r : Retained) (off : Nat) : Option Word :=
  if off < 0x1000 then none
  else if off < 0x2000 then some (ctrWord r (off - 0x1000))
  else if off < 0xA000 then
    some (match mfind r.recs ((off - 0x2000) / 64) with
      | some e => recWord e (off % 64 / 4)
      | none => 0)
  else if off < 0xE000 then
    match mfind r.exts ((off - 0xA000) / 64) with
    | some e => if off % 64 < 8 then some (half64 e.seq (off % 64 / 4 == 1)) else none
    | none => some 0
  else if off < 0x1E000 then
    some (match mfind r.hists ((off - 0xE000) / 256) with
      | some h => histWord h (off % 256 / 4)
      | none => 0)
  else if off < 0x2E000 then
    some (BitVec.ofNat 32 (leNat ((List.range 4).map (fun i => mget (fun _ => (0 : Byte)) r.fw (off / 4 * 4 - 0x1E000 + i)))))
  else some 0

/-- The retained word at an offset (R727); a place that is not given reads as a free value. -/
def State.retWord (s : State) (off : Nat) : Word × State :=
  match s.rbk.ret.wordAt off with
  | some w => (w, s)
  | none => (BitVec.ofNat 32 s.free.1.toNat, s.free.2)

/-- A word of an event record of version 1 (R746): 32 bytes. -/
def recWordV1 (e : EvRec) (w : Nat) : Word :=
  if w = 0 then recWord e 2
  else if w = 1 then BitVec.ofNat 32 (e.occ.ats1 / 2 ^ 32 % 2 ^ 16 + e.occ.mode % 16 * 2 ^ 16)
  else if w = 2 then BitVec.ofNat 32 e.occ.ats1
  else if w < 6 then recWord e (w + 9)
  else 0

/-- The region that holds an offset (R727), by its bit of completion. -/
def regionOf (off : Nat) : Nat :=
  if off < 0x1000 then 0 else if off < 0x2000 then 1 else if off < 0xA000 then 2 else if off < 0xE000 then 3 else if off < 0x1E000 then 4 else 5

/-- The word at an offset of a flash image (R742, R746), its regions at the places of R727 (log 47): none in a region that was not
completed. -/
def RbkImage.wordAt (i : RbkImage) (off : Nat) : Option Word :=
  if !i.regions.testBit (regionOf off) then none
  else if i.v1 && regionOf off == 2 then
    if off < 0x2000 + 512 * 32 then
      some (match mfind i.content.recs ((off - 0x2000) / 32) with
        | some e => recWordV1 e (off % 32 / 4)
        | none => 0)
    else none
  else i.content.wordAt off

/-- The word of the Ringbook partition at a flash offset (R742). -/
def State.rbkFlash (s : State) (a : Nat) : Option Word :=
  let b := s.get Fld.RBK_FLASH_BASE * 2 ^ 16
  if a < b ∨ b + s.eff Fld.RBK_FLASH_SLOTS * 2 ^ 18 ≤ a then none
  else (mfind s.rbk.images ((a - b) / 2 ^ 18)).bind (fun i => i.wordAt ((a - b) % 2 ^ 18 / 4 * 4))

/-- The retained offset that a window address maps (R729). -/
def State.winOff (s : State) (addr : Nat) : Nat := s.get Fld.RBK_WIN_PAGE * 0x8000 + addr % 0x8000 / 4 * 4

/-- A write to the window (R729): only the firmware region takes it. -/
def State.winWrite (s : State) (addr : Nat) (v : Word) : State :=
  let off := s.winOff addr
  if 0x1E000 ≤ off ∧ off < 0x2E000 then
    let fw := (leBytes 4 v.toNat).zipIdx.foldl (fun m e => mset (fun _ => (0 : Byte)) m (off - 0x1E000 + e.2) e.1) s.rbk.ret.fw
    { s with rbk := { s.rbk with ret := { s.rbk.ret with fw := fw } } }
  else s

/-- RBK_WINDOW_WRITE (R729). -/
def execRbkWindowWrite (addr : Nat) (v : Word) (s : State) : Out := .next (s.winWrite addr v)

/-- The record write ends (R740, R741): the critical set's event records are copied with it (R743). -/
def State.foldNow (s : State) : State :=
  let s1 : State := { s with rbk := { s.rbk with
    flush := s.rbk.flush.map (fun f => { f with crit := false, recs := some (f.recs.getD s.rbk.ret.recs) }), recw := false } }
  if s1.recHeld then s1 else s1.fold

/-- RINGBOOK_FOLD (R741). -/
def execRingbookFold (s : State) : Out := if s.rbk.recw then .next s.foldNow else .next s

/-- A write to RBK_FWEV1 (R737): an occurrence of TYPE 3 with the values held; the word of BLOCK_STAT shows RBK_FWEV1 (DEDUCED). -/
def State.fwev (s : State) (v : Word) : State :=
  let s1 := s.wr (Reg.RBK_FWEV 1) v
  s1.recordOcc (s1.occNow 3 (32 + s1.get (Fld.RBK_FWEV_SRC 0)) (s1.get (Fld.RBK_FWEV_CODE 0)) v (s1.rd (Reg.RBK_FWEV 2))
    (s1.rd (Reg.RBK_FWEV 3)) (s1.rd (Reg.RBK_FWEV 4)))

/-- FWEV_WRITE (R737). -/
def execFwevWrite (v : Word) (s : State) : Out := .next (s.fwev v)

/-- The offset and size of a region (R727). -/
def regionSpan (r : Nat) : Nat × Nat :=
  if r = 0 then (0, 0x1000)
  else if r = 1 then (0x1000, 0x1000)
  else if r = 2 then (0x2000, 0x8000)
  else if r = 3 then (0xA000, 0x4000)
  else if r = 4 then (0xE000, 0x10000)
  else if r = 5 then (0x1E000, 0x10000)
  else (0, 0)

/-- n retained words copied to SRAM. -/
def State.copyRet : Nat → Nat → Nat → State → State
  | 0, _, _, s => s
  | n + 1, off, a, s =>
    let (w, s1) := s.retWord off
    State.copyRet n (off + 4) (a + 4) (s1.sramPut a w)

/-- A write of 1 to RBK_CTL.SNAP (R732): the region is held until the copy ends. -/
def State.snapGo (s : State) : State :=
  if s.flag Fld.RBK_CTL_SNAP then s
  else ({ s with rbk := { s.rbk with snap := some (s.get Fld.RBK_CTL_REGION) } }).putb Fld.RBK_CTL_SNAP true

/-- RBK_SNAP (R732). -/
def execRbkSnap (s : State) : Out := .next s.snapGo

/-- RBK_SNAP_DONE (R732): the region's image stands in SRAM, and what waited is applied. -/
def execRbkSnapDone (s : State) : Out :=
  match s.rbk.snap with
  | none => .next s
  | some r =>
    let (off, len) := regionSpan r
    let s1 := State.copyRet (len / 4) off (s.get Fld.RBK_SNAPBASE_BASE * 2 ^ 12) s
    let s2 := ({ s1 with rbk := { s1.rbk with snap := none } }).applyWaiting
    let s3 := if s2.rbk.recw then s2 else s2.fold
    .next ((s3.putb Fld.RBK_CTL_SNAP false).raise Fld.RBK_EV_SNAPDONE)

/-- A write of 1 to RBK_CTL.FLUSH (R743, R747). -/
def State.flushGo (s : State) : State := (s.putb Fld.RBK_CTL_FLUSH true).startFlush 3

/-- RBK_FLUSH (R743): firmware's, or PERIOD minutes after the last complete image. Faults, RETRACT and the THERMAL reset start theirs
within their own steps. -/
def execRbkFlush (period : Bool) (s : State) : Out :=
  if !period then .next s.flushGo
  else if s.rbk.lastAt + s.eff Fld.RBK_CFG_PERIOD * 48000000000 ≤ s.now then .next (s.startFlush 4)
  else .next s

/-- RBK_FLUSH_DONE (R742, R743, R745): a complete image; the slot that follows is erased, in four blocks of 64 KiB (R691). Or, on a flash error or an end before all
regions, an incomplete one with the regions written. A further flush follows when a trigger came meanwhile. -/
def execRbkFlushDone (ok : Bool) (regions : BitVec 6) (s0 : State) : Out :=
  match s0.rbk.flush with
  | none => .next s0
  | some _ =>
    let s := if s0.rbk.recw then s0.foldNow else s0
    let f := s.rbk.flush.getD { cause := 0, crit := false, recs := none }
    let s1 : State := { s with rbk := { s.rbk with
      images := mput s.rbk.images s.rbk.imgSlot (s.imageOf f ok (if ok then 63 else regions.toNat)) } }
    let s2 := if ok then
        let s3 : State := { s1 with rbk := { s1.rbk with
          images := mdel s1.rbk.images ((s1.rbk.imgSlot + 1) % max 1 (s1.eff Fld.RBK_FLASH_SLOTS)), lastAt := s1.now } }
        ((s3.bump Fld.XSP_CNT_ERASES 4).bump Fld.RBK_CNT_FLUSHES 1).raise Fld.RBK_EV_FLUSHDONE
      else (s1.bump Fld.RBK_CNT_FLERR 1).raise Fld.RBK_FLT_FLASH
    let again := s2.rbk.again
    let s4 : State := { s2 with rbk := { s2.rbk with flush := none, again := none } }
    .next (match again with
      | some c => s4.beginFlush c
      | none => s4)

/-- RINGBOOK_PERIODIC_SAMPLE (R733, R736): each 1 ms the VIN sample; each 1 s the band residency and the seconds with VIN above
VIN_POR, 4.3 V. -/
def execRingbookPeriodicSample (second : Bool) (s : State) : Out :=
  let mv := 10 * s.get Fld.PWR_VIN_VIN
  if second then
    let band := s.get Fld.THM_STAT_BAND
    let s1 := s.sample 83 (binOf 16 0 1 band) band 0x400
    .next (if 4300 < mv then s1.count 0 1 else s1)
  else .next (s.sample 80 (binOf 32 4000 500 mv) mv 0x400)

end Sys2Proof.Machine
end

