-- ==== Sys2Proof/Machine/Apc.lean ====
section
/-!
DEFINITION. The commands of the control cores' supervision, the boot ROM services, the flash controller and the debug port (R662 to
R697). The cores' own instruction sets are their standards' (log 45).
-/
namespace Sys2Proof.Machine

/-- Both cores' number. -/
def coreN (core : Bool) : Nat := b2n core

/-! ### Pairs -/

/-- The pairs of a core that are admitted. -/
def State.admitted (s : State) (n : Nat) : Nat := s.get (coreF n 0 1) + s.get (coreF n 1 1)

/-- The readmission request of a core (R683, RDM). -/
def rdmF (n : Nat) : Field := ⟨Reg.INTC_CORE, 16 + n % 2, 1⟩

/-- A readmission ends (R670, R671): RDMSTn 2 passed, 3 failed. -/
def State.rdmEnd (s : State) (n st : Nat) : State := (s.putb (rdmF n) false).put (coreF n 6 2) st

/-- PAIR_DROPOUT (R667, R668, R671): the pair P1 or P0 of a core. After the last one a WARM reset follows, with the pairs that pass
its self-test and the outcome of the verification of R680. -/
def execPairDropout (core p1 : Bool) (pairs : BitVec 4) (verified : Bool) (s : State) : Out :=
  let n := coreN core
  let f := coreF n (b2n p1) 1
  if !s.flag f then .next s
  else if s.admitted n = 2 then
    .next (((s.putb f false).putb (coreF n 4 1) (!p1)).raise Fld.INTC_EV_DROP)
  else
    let s1 := if s.flag (rdmF n) then s.rdmEnd n 3 else s
    .next (((s1.putb f false).raise Fld.INTC_EV_DROP).warmReset 3 (some n) pairs.toNat verified)

/-- A write of 1 to INTC_CORE.RDMn (R670). -/
def State.rdm (s : State) (n : Nat) : State :=
  if s.admitted n = 1 ∧ s.flag (rdmF n) = false then
    { (s.putb (rdmF n) true).put (coreF n 6 2) 1 with apc := { s.apc with rdmAt := mput s.apc.rdmAt n s.now } }
  else s

/-- PAIR_READMIT (R670). -/
def execPairReadmit (core : Bool) (s : State) : Out := .next (s.rdm (coreN core))

/-- PAIR_READMIT_DONE (R670): the self-test takes 300 us; after a pass both pairs run in step and P0 drives (R667). -/
def execPairReadmitDone (core pass : Bool) (s : State) : Out :=
  let n := coreN core
  if !s.flag (rdmF n) || decide (s.now < (mfind s.apc.rdmAt n).getD 0 + 240000) then .next s
  else if pass then
    .next (((((s.rdmEnd n 2).putb (coreF n 0 1) true).putb (coreF n 1 1) true).putb (coreF n 4 1) false).raise Fld.INTC_EV_READMIT)
  else .next (s.rdmEnd n 3)

/-! ### Watchdogs -/

/-- The watchdog of a core, and it changed. -/
def State.wd (s : State) (n : Nat) : Watchdog := if n = 0 then s.apc.wd0 else s.apc.wd1
def State.setWd (s : State) (n : Nat) (w : Watchdog) : State :=
  if n = 0 then { s with apc := { s.apc with wd0 := w } } else { s with apc := { s.apc with wd1 := w } }

/-- The enable of a core's watchdog. -/
def wdEn (n : Nat) : Field := if n = 0 then Fld.INTC_WDCFG_EN0 else Fld.INTC_WDCFG_EN1

/-- A core's watchdog restarts with the PERIOD in force (R672, R673). -/
def State.wdRestart (s : State) (n : Nat) : State :=
  s.setWd n { at_ := s.now, period := s.eff Fld.INTC_WDCFG_PERIOD * 800000, paused := none }

/-- A 32-bit write to INTC_WDKICK (R672): only a core's own, of exactly 0x0000_A5C3. -/
def State.wdKick (s : State) (i : Initiator) (v : Word) : State :=
  if v ≠ 0xA5C3#32 then s
  else match i with
    | .lc0 => if s.flag (wdEn 0) then s.wdRestart 0 else s
    | .lc1 => if s.flag (wdEn 1) then s.wdRestart 1 else s
    | _ => s

/-- WATCHDOG_KICK (R672). -/
def execWatchdogKick (i : Initiator) (v : Word) (s : State) : Out := .next (s.wdKick i v)

/-- ENn set from 0 to 1 (R673). -/
def State.wdEnable (s : State) (n : Nat) : State := if s.flag (wdEn n) then s else (s.putb (wdEn n) true).wdRestart n

/-- WATCHDOG_ENABLE (R673). -/
def execWatchdogEnable (core : Bool) (s : State) : Out := .next (s.wdEnable (coreN core))

/-- WATCHDOG_EXPIRY (R674, R696): PERIOD has passed since the last restart, and the core is not halted. -/
def execWatchdogExpiry (core : Bool) (pairs : BitVec 4) (verified : Bool) (s : State) : Out :=
  let n := coreN core
  let w := s.wd n
  if s.flag (wdEn n) && w.paused.isNone && decide (w.at_ + w.period ≤ s.now) then
    .next ((s.raise Fld.INTC_FLT_WDT).warmReset 2 (some n) pairs.toNat verified)
  else .next s

/-! ### Interrupts and timers -/

/-- The cause register of a core. -/
def causeReg (n : Nat) : Nat := if n = 0 then Reg.INTC_CAUSE0 else Reg.INTC_CAUSE1

/-- The latch of R677: with VALID 0 and MEIP 1, the qualifying source of the highest priority. -/
def State.latchCause (s : State) (n : Nat) : State :=
  if (s.rd (causeReg n)).getLsbD 31 then s
  else
    match s.bestSource n with
    | some i => s.wr (causeReg n) (BitVec.ofNat 32 (2 ^ 31 + s.srcPrio i * 2 ^ 8 + i))
    | none => s

/-- INTERRUPT_CAUSE_LATCH (R677). -/
def execInterruptCauseLatch (core : Bool) (s : State) : Out := .next (s.latchCause (coreN core))

/-- A write to INTC_CAUSEn (R677): a 1 to VALID clears it; while MEIP is 1 it leaves a fresh latch. -/
def State.causeWrite (s : State) (n : Nat) (v : Word) : State :=
  if v.getLsbD 31 then (s.wr (causeReg n) (wput (s.rd (causeReg n)) 31 1 0)).latchCause n else s

/-- A read of INTC_CAUSEn: with GEN7 it clears VALID (R802). -/
def State.causeRead (s : State) (n : Nat) : Word × State :=
  let w := s.rd (causeReg n)
  (w, if s.flag Fld.SYS_COMPAT_GEN7 then s.wr (causeReg n) (wput w 31 1 0) else s)

/-- CAUSE_READ_CLEAR (R802). -/
def execCauseReadClear (i : Initiator) (core : Bool) (s : State) : Out :=
  let (w, s1) := s.causeRead (coreN core)
  .next (s1.setRead i (w.zeroExtend 64))

/-- A write to INTC_TMRn (R678): a countdown of that many us from now; 0 stops it. -/
def State.tmrStart (s : State) (n v : Nat) : State :=
  if n = 0 then ({ s with apc := { s.apc with tmr0 := s.now } }).put Fld.INTC_TMR0_COUNT v
  else ({ s with apc := { s.apc with tmr1 := s.now } }).put Fld.INTC_TMR1_COUNT v

/-- COUNTDOWN_TIMER_START (R678). -/
def execCountdownTimerStart (core : Bool) (v : BitVec 24) (s : State) : Out := .next (s.tmrStart (coreN core) v.toNat)

/-- COUNTDOWN_TIMER_EXPIRY (R678): the count that the write set has passed in us. -/
def execCountdownTimerExpiry (core : Bool) (s : State) : Out :=
  let n := coreN core
  let f := if n = 0 then Fld.INTC_TMR0_COUNT else Fld.INTC_TMR1_COUNT
  if s.get f = 0 ∨ s.tmrLeft n ≠ 0 then .next s
  else .next ((s.put f 0).raise (if n = 0 then Fld.INTC_EV_TMR0 else Fld.INTC_EV_TMR1))

/-! ### Cache and boot ROM services -/

/-- MCMO (R666): the dirty bytes of the 64-byte line that holds the address reach memory; the line stays or is invalidated, and a
line that is not dirty holds what memory holds. Outside machine mode the write raises an illegal-instruction exception. -/
def execMcmo (core : Bool) (v : BitVec 64) (s : State) : Out :=
  if (s.lcCsr (coreN core)).mode ≠ 3 then .next (s.busFault (if core then .lc1 else .lc0) 6)
  else
  let line := v.toNat / 64
  let hit (e : Nat × Byte) : Bool := e.1 / 64 == line
  let s1 := (s.apc.dirty.filter hit).foldl (fun t e => t.bytePut (coreN core) e.1 e.2) s
  .next { s1 with apc := { s1.apc with dirty := s1.apc.dirty.filter (fun e => !hit e) } }

/-- A boot ROM service called by a core (R681): -2 while the other core is in one. -/
def State.service (s : State) (core : Bool) (kind : Nat) (body : State → State) : State :=
  if s.apc.svc.isSome then s.setRet (coreN core) (-2)
  else body { s with apc := { s.apc with svc := some (coreN core, kind) } }

/-- ROMINFO (R681): the boot ROM's release. -/
def execRominfo (core : Bool) (s : State) : Out :=
  .next (s.service core 0 (fun t => t.svcEnd 0 Config.bootRomRelease.toNat))

/-- A write of 1 to XSP_CMD.GO (R687, R71). -/
def State.xspGo (s : State) : State :=
  if s.flag Fld.XSP_CMD_GO then { s with xsp := { s.xsp with again := true } }
  else ({ s with xsp := { s.xsp with res := none, again := false, goAt := s.now } }).putb Fld.XSP_CMD_GO true

/-- XSPREAD (R681): a READ of R687; it returns at XSP_OPERATION_END. -/
def execXspread (core : Bool) (ofs dst n : Nat) (s : State) : Out :=
  .next (s.service core 1 (fun t =>
    (((((t.put Fld.XSP_FADDR_ADDR ofs).wr Reg.XSP_MADDR (BitVec.ofNat 32 dst)).put Fld.XSP_MADDRH_ADDRHI (dst / 2 ^ 32)).put Fld.XSP_LEN_LEN n).put
      Fld.XSP_CMD_OP 1).xspGo))

/-- ZEROFILL (R681): the engine of R544 on granules from a DRAM offset in bytes; it returns at ZERO_FILL_DONE. -/
def execZerofill (core : Bool) (ofs granules : Nat) (s : State) : Out :=
  .next (s.service core 2 (fun t => ((t.put Fld.MEM_ZFOFS_OFS (ofs / 128)).put Fld.MEM_ZFLEN_LEN granules).zeroFill))

/-- A write of 1 to HWD_MBCTL.GO (R609). -/
def State.mbGo (s : State) : State :=
  if s.flag Fld.HWD_MBCTL_GO then s else ({ s with hwd := { s.hwd with goAt := s.now } }).putb Fld.HWD_MBCTL_GO true

/-- MBOXCALL (R681): a mailbox request with its words; it returns the STATUS of its answer. -/
def execMboxcall (core : Bool) (code : Nat) (req : List Word) (s : State) : Out :=
  .next (s.service core 3 (fun t =>
    let t1 := (req.take 64).zipIdx.foldl (fun u e => u.wr (Reg.HWD_MBREQ (e.2 % 64)) e.1) t
    ((t1.put Fld.HWD_MBCMD_CODE code).put Fld.HWD_MBCMD_LEN (req.take 64).length).mbGo))

/-! ### Flash controller -/

/-- The device's size in bytes (R691); none of it while it is not usable. -/
def State.flashSize (s : State) : Nat := if s.flag Fld.XSP_STAT_READY then 2 ^ (26 + min 2 (s.get Fld.XSP_STAT_SIZE)) else 0

/-- A flash range touches protection window k (R686). -/
def State.inWindow (s : State) (k a n : Nat) : Bool :=
  let b := wfield (s.rd (Reg.XSP_PROTB k)) 0 12 * 2 ^ 16
  let l := wfield (s.rd (Reg.XSP_PROTL k)) 0 13 * 2 ^ 16
  decide (b < l) && decide (a < l) && decide (b < a + n) && decide (0 < n)

/-- The APC may program and erase a range (R686): bits APC and APCUL of the windows it touches. -/
def State.apcMay (s : State) (a n : Nat) : Bool :=
  (List.range 4).all (fun k =>
    let w := s.rd (Reg.XSP_PROTB k)
    !s.inWindow k a n || w.getLsbD 29 || (w.getLsbD 28 && !s.flag Fld.SYS_LOCK_LOCK))

/-- The operation in hand has an outcome (R688): STATUS and DONE. -/
def State.xspRes (s : State) (status done : Nat) : State := { s with xsp := { s.xsp with res := some (status, done) } }

/-- The addresses and length of the operation in hand. -/
def State.faddr (s : State) : Nat := s.get Fld.XSP_FADDR_ADDR
def State.maddr (s : State) : Nat := (s.rd Reg.XSP_MADDR).toNat + s.get Fld.XSP_MADDRH_ADDRHI * 2 ^ 32
def State.flen (s : State) : Nat := s.get Fld.XSP_LEN_LEN

/-- RETRACT's critical set is being written: firmware's flash accesses wait (R744). -/
def State.critical (s : State) : Bool := s.rbk.flush.any (fun f => f.crit)

/-- The operation in hand runs when its OP is this one (R687, R744). -/
def State.xspRun (s : State) (op : Nat) (body : State → State) : State :=
  if !s.flag Fld.XSP_CMD_GO || s.get Fld.XSP_CMD_OP != op || s.xsp.res.isSome || s.critical then s else body s

/-- A flash byte as an initiator reads it: the Ringbook partition holds its images (R742); the counter area, and what the spec does not lay
out of an image, read as free values (log 46). -/
def State.flashByte (s : State) (a : Nat) : Byte × State :=
  if s.inWindow 0 a 1 || s.inWindow 1 a 1 then
    match if s.inWindow 1 a 1 then s.rbkFlash a else none with
    | some w => (BitVec.ofNat 8 (w.toNat / 2 ^ (8 * (a % 4))), s)
    | none =>
      let (v, s1) := s.free
      (BitVec.ofNat 8 v.toNat, s1)
  else (s.flashAt a, s)

/-- n flash bytes from an offset. -/
def State.flashBytes : Nat → Nat → State → List Byte × State
  | 0, _, s => ([], s)
  | n + 1, a, s =>
    let (b, s1) := s.flashByte a
    let (l, s2) := State.flashBytes n (a + 1) s1
    (b :: l, s2)

/-- XSP_READ (R687). -/
def execXspRead (s : State) : Out :=
  .next (s.xspRun 1 (fun t =>
    let n := t.flen
    if n = 0 ∨ t.flashSize < t.faddr + n ∨ t.inMem t.maddr n = false then t.xspRes 2 0
    else
      let (l, t1) := State.flashBytes n t.faddr t
      (State.bytesPut 7 l t.maddr t1).xspRes 0 n))

/-- Free bytes over a range whose program or erase failed (R690). -/
def State.flashLost : Nat → Nat → State → State
  | 0, _, s => s
  | n + 1, a, s =>
    let (v, s1) := s.free
    State.flashLost n (a + 1) (s1.flashSet a (BitVec.ofNat 8 v.toNat))

/-- The bytes of the first k pages of a range from an offset (R687): pages end at multiples of 256. -/
def pageBytes (a k : Nat) : Nat := if k = 0 then 0 else 256 - a % 256 + 256 * (k - 1)

/-- The whole pages within the first n bytes from an offset of a range of `total` bytes. -/
def wholePages (a n total : Nat) : Nat := if total ≤ n then total else if n < 256 - a % 256 then 0 else n - (a + n) % 256

/-- A page program (R687, R688): whole pages go to the device; `fail`, the page whose program the device reports as failed. -/
def State.xspPages (t : State) (fail : Option Nat) : State :=
  let n := t.flen
  let a := t.faddr
  let ((l, ok), t1) := State.bytesAt 7 n t.maddr t
  let k := if ok then n else wholePages a l.length n
  match fail with
  | some p =>
    if pageBytes a p < k then
      let d := pageBytes a p
      let e := min (pageBytes a (p + 1)) n
      (State.flashLost (e - d) (a + d) (State.flashProgram (l.take d) a t1)).xspRes 3 d
    else (State.flashProgram (l.take k) a t1).xspRes (if ok then 0 else 5) k
  | none => (State.flashProgram (l.take k) a t1).xspRes (if ok then 0 else 5) k

/-- XSP_PROGRAM (R687, R688): `fail`, the page whose program the device reports as failed. -/
def execXspProgram (fail : Option Nat) (s : State) : Out :=
  .next (s.xspRun 2 (fun t =>
    let n := t.flen
    let a := t.faddr
    if !t.apcMay a n then t.xspRes 1 0
    else if n = 0 ∨ t.flashSize < a + n ∨ t.inMem t.maddr n = false then t.xspRes 2 0
    else t.xspPages fail))

/-- An erase of n bytes (R687, R688, XSP_CNT.ERASES). -/
def State.xspErase (s : State) (n : Nat) (fail : Bool) : State :=
  let a := s.faddr
  if !s.apcMay (a / n * n) n then s.xspRes 1 0
  else if a % n ≠ 0 ∨ s.flashSize < a + n then s.xspRes 2 0
  else
    let s1 := s.bump Fld.XSP_CNT_ERASES 1
    if fail then (State.flashLost n a s1).xspRes 3 0 else (State.flashErase n a s1).xspRes 0 0

/-- XSP_ERASE4K (R687). -/
def execXspErase4k (fail : Bool) (s : State) : Out := .next (s.xspRun 3 (fun t => t.xspErase 4096 fail))

/-- XSP_ERASE64K (R687). -/
def execXspErase64k (fail : Bool) (s : State) : Out := .next (s.xspRun 4 (fun t => t.xspErase 65536 fail))

/-- XSP_STATUS (R687): the device's status register. -/
def execXspStatus (dev : BitVec 8) (s : State) : Out :=
  .next (s.xspRun 5 (fun t => (t.put Fld.XSP_STAT_DEVSTAT dev.toNat).xspRes 0 0))

/-- XSP_OPERATION_END (R687, R688): the outcome stands in XSP_RESULT; an undefined OP ends with BADARG; a second operation follows. One
that a WARM reset aborted ends after the reset has cleared GO (R690). -/
def execXspOperationEnd (s : State) : Out :=
  let op := s.get Fld.XSP_CMD_OP
  let res := match s.xsp.res with
    | some r => some r
    | none => if op = 0 ∨ 5 < op then some (2, 0) else none
  match res with
  | some (st, done) =>
    if !s.flag Fld.XSP_CMD_GO && st != 6 then .next s
    else
      let s1 := s.wr Reg.XSP_RESULT (BitVec.ofNat 32 (st * 2 ^ 28 + done % 2 ^ 24))
      let s2 := if st = 1 then s1.raise Fld.XSP_EV_PROT
        else if st = 3 then (s1.bump Fld.XSP_CNT_FLERR 1).raise Fld.XSP_FLT_FLASH
        else if st = 4 then s1.bump Fld.XSP_CNT_TMO 1
        else s1
      let s3 := (s2.putb Fld.XSP_CMD_GO s2.xsp.again).raise Fld.XSP_EV_DONE
      .next (({ s3 with xsp := { s3.xsp with res := none, again := false, goAt := s3.now } }).svcEnd 1 (if st = 0 then 0 else -1))
  | none => .next s

/-- The time that a page program (OP 2) or an erase may take, in ticks (R688). -/
def State.xspLimit (s : State) (op : Nat) : Nat :=
  if op = 2 then s.eff Fld.XSP_TMO_TPROG * 800000 else s.eff Fld.XSP_TMO_TERASE * 80000000

/-- XSP_TIMEOUT (R688, R690): a page program or an erase over its limit, after `units` pages; the device is reset. What it was
writing is undefined. -/
def execXspTimeout (units : Nat) (f : FlashId) (s : State) : Out :=
  let op := s.get Fld.XSP_CMD_OP
  if !s.flag Fld.XSP_CMD_GO || s.xsp.res.isSome || s.critical || decide (s.now < s.xsp.goAt + s.xspLimit op) then .next s
  else if op = 2 then
    let n := s.flen
    let d := min n (pageBytes s.faddr units)
    let e := min n (pageBytes s.faddr (units + 1))
    if !s.apcMay s.faddr n || s.flashSize < s.faddr + n || !s.inMem s.maddr n || n = d then .next s
    else
      let ((l, ok), s1) := State.bytesAt 7 d s.maddr s
      if !ok then .next s
      else
        let s2 := State.flashLost (e - d) (s.faddr + d) (State.flashProgram l s.faddr s1)
        .next (((s2.xspRes 4 d).xspInit f).raise Fld.XSP_FLT_TMO)
  else if op = 3 ∨ op = 4 then
    let n := if op = 3 then 4096 else 65536
    if !s.apcMay (s.faddr / n * n) n || s.faddr % n != 0 || s.flashSize < s.faddr + n then .next s
    else .next ((((State.flashLost n s.faddr (s.bump Fld.XSP_CNT_ERASES 1)).xspRes 4 0).xspInit f).raise Fld.XSP_FLT_TMO)
  else .next s

/-! ### Debug port -/

/-- A write to DBG_UARTTX (R692, R693). -/
def State.uartPut (s : State) (b : Byte) : State :=
  if s.dbgLevel = 0 then s
  else if s.dbg.tx.length < 64 then { s with dbg := { s.dbg with tx := s.dbg.tx ++ [b] } }
  else s.bump Fld.DBG_UARTCNT_TXDROP 1

/-- UART_TRANSMIT (R693). -/
def execUartTransmit (v : BitVec 8) (s : State) : Out := .next (s.uartPut v)

/-- The UART is on (R692, R693). -/
def State.uartOn (s : State) : Bool := s.flag Fld.DBG_UARTCFG_EN && decide (1 ≤ s.dbgLevel)

/-- A read of DBG_UARTRX (R693): the oldest byte is returned and removed. -/
def State.uartGet (s : State) : Word × State :=
  (s.view Reg.DBG_UARTRX, { s with dbg := { s.dbg with rx := s.dbg.rx.drop 1 } })

/-- UART_RECEIVE_READ (R693). -/
def execUartReceiveRead (i : Initiator) (s : State) : Out :=
  let (w, s1) := s.uartGet
  .next (s1.setRead i (w.zeroExtend 64))

/-- UART_BYTE_RECEIVED (R693). -/
def execUartByteReceived (v : BitVec 8) (framing : Bool) (s : State) : Out :=
  if !s.uartOn then .next s
  else if framing then .next (s.bump Fld.DBG_UARTCNT_FRAME 1)
  else if s.dbg.rx.length < 64 then .next (({ s with dbg := { s.dbg with rx := s.dbg.rx ++ [v] } }).raise Fld.DBG_EV_RX)
  else .next ((s.bump Fld.DBG_UARTCNT_RXOVR 1).raise Fld.DBG_EV_RXOVR)

/-- UART_BYTE_SENT (R693, R697): the oldest byte leaves; the drained FIFO raises DBG_EV_TXEMPTY. -/
def execUartByteSent (s : State) : Out :=
  match s.dbg.tx with
  | [] => .next s
  | _ :: t =>
    if !s.uartOn then .next s
    else
      let s1 : State := { s with dbg := { s.dbg with tx := t } }
      .next (if t.isEmpty then s1.raise Fld.DBG_EV_TXEMPTY else s1)

/-- The time CSR's low word (R678): 25 MHz, 32 ticks. -/
def State.time32 (s : State) : Word := BitVec.ofNat 32 (s.now / 32)

/-- The trace ring's size in bytes (R694). -/
def State.trcSize (s : State) : Nat := s.eff Fld.DBG_TRCCFG_SIZE * 4096

/-- TRACE_RECORD (R694, R695): a record of a source; `lost`, it found the 32-record FIFO full. -/
def execTraceRecord (src : BitVec 2) (kind : BitVec 4) (info : BitVec 16) (a1 a2 : Word) (lost : Bool) (s : State) : Out :=
  if !s.traceOn || !(s.get Fld.DBG_TRCCFG_SRC).testBit src.toNat then .next s
  else if lost then .next (s.bump Fld.DBG_TRCLOST_LOST 1)
  else
    let ofs := s.get Fld.DBG_TRCWP_OFFSET
    let a := s.get Fld.DBG_TRCBASE_BASE * 2 ^ 12 + ofs
    let w1 := BitVec.ofNat 32 (src.toNat * 2 ^ 28 + kind.toNat * 2 ^ 24 + info.toNat)
    let s1 := (((s.sramPut a s.time32).sramPut (a + 4) w1).sramPut (a + 8) a1).sramPut (a + 12) a2
    if ofs + 16 < s.trcSize then .next (s1.put Fld.DBG_TRCWP_OFFSET (ofs + 16))
    else if s.flag Fld.DBG_TRCCFG_WRAP then .next ((s1.put Fld.DBG_TRCWP_OFFSET 0).putb Fld.DBG_TRCWP_WRAPPED true)
    else .next (((s1.put Fld.DBG_TRCWP_OFFSET (ofs + 16)).putb Fld.DBG_TRCCFG_EN false).raise Fld.DBG_EV_TRCFULL)

/-- DEBUG_HALT (R696): at level 2 a core halts, both its pairs in step, or resumes; its watchdog pauses. -/
def execDebugHalt (core halt : Bool) (s : State) : Out :=
  let n := coreN core
  let w := s.wd n
  let setHalt (t : State) (b : Bool) : State :=
    if n = 0 then { t with apc := { t.apc with halt0 := b } } else { t with apc := { t.apc with halt1 := b } }
  if s.dbgLevel ≠ 2 ∨ (if n = 0 then s.apc.halt0 else s.apc.halt1) = halt then .next s
  else if halt then .next ((setHalt s true).setWd n { w with paused := some (s.now - w.at_) })
  else .next ((setHalt s false).setWd n { w with at_ := s.now - w.paused.getD 0, paused := none })

end Sys2Proof.Machine
end

