-- ==== Sys2Proof/Machine/Flags.lean ====
section
/-!
DEFINITION. Conditions and flags: the conditions of CMP (R151), the media flags (R113), the micro-flags (R238, R239).
-/
namespace Sys2Proof.Machine

/-- A condition of CMP (R151); none for the other codes. -/
def cmpCond (code : Nat) (a b : Word) : Option Bool :=
  if code = 0 then some (a == b)
  else if code = 1 then some (a != b)
  else if code = 2 then some (decide (a.toNat < b.toNat))
  else if code = 3 then some (decide (b.toNat ≤ a.toNat))
  else if code = 4 then some (decide (a.toInt < b.toInt))
  else if code = 5 then some (decide (b.toInt ≤ a.toInt))
  else if code = 6 then some (a - b).msb
  else if code = 7 then some (!(a - b).msb)
  else if code = 8 then some (a &&& b != 0#32)
  else if code = 9 then some (a &&& b == 0#32)
  else none

/-- The micro-flags Z, N and C of micro-op CMP (R239): A = B; bit 31 of A - B; A < B unsigned. -/
def uopCmpFlags (a b : Word) : Bool × Bool × Bool := (a == b, (a - b).msb, decide (a.toNat < b.toNat))

/-- A condition of micro-op BRC (R239); none for the other codes. `guard` is the instruction's guard. -/
def uopCond (code : Nat) (z n c e guard : Bool) : Option Bool :=
  if code = 0 then some z
  else if code = 1 then some (!z)
  else if code = 2 then some n
  else if code = 3 then some (!n)
  else if code = 4 then some c
  else if code = 5 then some (!c)
  else if code = 6 then some guard
  else if code = 7 then some e
  else if code = 8 then some (!e)
  else none

end Sys2Proof.Machine
end

