-- ==== Sys2Proof/Machine/Arith.lean ====
section
/-!
DEFINITION. Arithmetic instructions LDI to CMP (R150 to R152).
-/
namespace Sys2Proof.Machine

/-- An arithmetic instruction of two operands: RD takes the result of RS1 and operand B (R150). -/
def State.arith (s : State) (x : Act) (op : Nat) (f : FmtR) (g : Word → Word → Word) : State :=
  (s.issueR x op f (writable f.rd && readable f.rs1 && f.opBLegal) (fun k a t =>
    .ok (t.setSpec x k (a.setReg f.rd.toNat (g (a.reg f.rs1.toNat) (f.opB a)))))).advance x

/-- LDI (R150, R131): I must be 1. -/
def execLdi (x : Act) (f : FmtR) (s : State) : Out :=
  .next ((s.issueR x 0x20 f (f.i && writable f.rd && f.rs1 == 0 && f.rs2 == 0) (fun k a t =>
    .ok (t.setSpec x k (a.setReg f.rd.toNat f.imm)))).advance x)

/-- MOV (R150). -/
def execMov (x : Act) (f : FmtR) (s : State) : Out :=
  .next ((s.issueR x 0x21 f (!f.i && writable f.rd && readable f.rs1 && f.rs2 == 0 && f.imm == 0) (fun k a t =>
    .ok (t.setSpec x k (a.setReg f.rd.toNat (a.reg f.rs1.toNat))))).advance x)

/-- ADD (R150). -/
def execAdd (x : Act) (f : FmtR) (s : State) : Out := .next (s.arith x 0x22 f (fun a b => a + b))

/-- SUB (R150). -/
def execSub (x : Act) (f : FmtR) (s : State) : Out := .next (s.arith x 0x23 f (fun a b => a - b))

/-- AND (R150). -/
def execAnd (x : Act) (f : FmtR) (s : State) : Out := .next (s.arith x 0x24 f (fun a b => a &&& b))

/-- OR (R150). -/
def execOr (x : Act) (f : FmtR) (s : State) : Out := .next (s.arith x 0x25 f (fun a b => a ||| b))

/-- XOR (R150). -/
def execXor (x : Act) (f : FmtR) (s : State) : Out := .next (s.arith x 0x26 f (fun a b => a ^^^ b))

/-- SHL by B[4:0] (R150). -/
def execShl (x : Act) (f : FmtR) (s : State) : Out := .next (s.arith x 0x27 f (fun a b => a <<< (b.toNat % 32)))

/-- SHR, logical, by B[4:0] (R150). -/
def execShr (x : Act) (f : FmtR) (s : State) : Out := .next (s.arith x 0x28 f (fun a b => a >>> (b.toNat % 32)))

/-- CMP (R150, R151): predicate RD[47:46] takes condition RD[51:48] of RS1 against B. -/
def execCmp (x : Act) (f : FmtR) (s : State) : Out :=
  .next ((s.issueR x 0x29 f (readable f.rs1 && f.opBLegal && decide (nbits f.rd.toNat 2 4 ≤ 9)) (fun k a t =>
    match cmpCond (nbits f.rd.toNat 2 4) (a.reg f.rs1.toNat) (f.opB a) with
    | some c => .ok (t.setSpec x k (a.setReg (0x30 + nbits f.rd.toNat 0 2) (if c then 1#32 else 0#32)))
    | none => .error errIllegal)).advance x)

end Sys2Proof.Machine
end

