-- ==== Sys2Proof/Machine/Flow.lean ====
section
/-!
DEFINITION. Flow instructions and the ends of their waits: NOP to YIELD (R142 to R149), WAITA, WAITE and slot timeouts.
-/
namespace Sys2Proof.Machine

/-- NOP (R142): retires. -/
def execNop (x : Act) (f : FmtR) (s : State) : Out :=
  .next ((s.issueR x 0x00 f f.bareR (fun _ _ t => .ok t)).advance x)

/-- BR (R143): the PC of the instruction + 8 x IMM. -/
def execBr (x : Act) (f : FmtR) (s : State) : Out :=
  .next ((s.issueR x 0x01 f f.immOnlyR (fun k a t =>
    .ok (t.setSpec x k { a with pc := branchTo ((a.pc + 2 ^ 32 - 8) % 2 ^ 32) f.simm }))).advance x)

/-- BRC (R144): RD holds the mask [49:46], CLR [50] and SENSE [51]; a mask of 0 is illegal. Issue stops until every earlier
media instruction has completed. -/
def execBrc (x : Act) (f : FmtR) (s : State) : Out :=
  .next ((s.issueR x 0x02 f (f.rs1 == 0 && f.rs2 == 0 && !f.i && nbits f.rd.toNat 0 4 != 0) (fun _ _ t =>
    .ok (t.setMsq x { t.msq x with
      wait := some (.brc (nbits f.rd.toNat 0 4) (f.rd.getLsbD 5) (f.rd.getLsbD 4) f.simm) }))).advance x)

/-- CALL (R143): pushes the next address and branches; a full stack is MSQx_ERR_STACK. -/
def execCall (x : Act) (f : FmtR) (s : State) : Out :=
  .next ((s.issueR x 0x03 f f.immOnlyR (fun k a t =>
    if a.stack.length < 8 then
      .ok (t.setSpec x k { a with
        stack := a.pc :: a.stack, pc := branchTo ((a.pc + 2 ^ 32 - 8) % 2 ^ 32) f.simm })
    else .error errStack)).advance x)

/-- RET (R143): pops into the PC; an empty stack is MSQx_ERR_STACK. -/
def execRet (x : Act) (f : FmtR) (s : State) : Out :=
  .next ((s.issueR x 0x04 f f.bareR (fun k a t =>
    match a.stack with
    | r :: rest => .ok (t.setSpec x k { a with pc := r, stack := rest })
    | [] => .error errStack)).advance x)

/-- HALT (R145): issue stops; when every earlier instruction has completed, the HALT's commit is registered. -/
def execHalt (x : Act) (f : FmtR) (s : State) : Out :=
  .next ((s.issueR x 0x05 f f.bareR (fun _ _ t =>
    .ok (t.setMsq x { t.msq x with wait := some .halt }))).advance x)

/-- WAITA (R146): format Q with OPS 0 and AQ not 00; issue stops until the qualifier is met. -/
def execWaita (x : Act) (f : FmtQ) (s : State) : Out :=
  .next ((s.issueQ x 0x06 f (f.ops == 0 && f.aq != 0) (fun _ a t =>
    match f.angle t x a with
    | some ang => .ok (t.setMsq x { t.msq x with wait := some (.waita ang none t.ang.ats) })
    | none => .ok t)).advance x)

/-- WAITE (R147): RD names a p register; IMM [19:16] the events (0 is illegal), IMM [15:0] the timeout in wedge periods. -/
def execWaite (x : Act) (f : FmtR) (s : State) : Out :=
  .next ((s.issueR x 0x07 f (isP f.rd && f.rs1 == 0 && f.rs2 == 0 && !f.i && f.ib 20 12 == 0 && f.ib 16 4 != 0) (fun _ _ t =>
    .ok (t.setMsq x { t.msq x with wait := some (.waite (f.ib 16 4) f.rd.toNat (f.ib 0 16) t.now) }))).advance x)

/-- A READY slot has a higher PRIO than the running one (R149). -/
def Msq.higherReady (m : Msq) (k : Nat) : Bool :=
  (List.range 16).any (fun j => (m.slot j).st == .ready && decide ((m.slot k).prio < (m.slot j).prio))

/-- YIELD (R149): a NOP when no READY slot has a higher PRIO; otherwise issue stops and the switch follows its commit. -/
def execYield (x : Act) (f : FmtR) (s : State) : Out :=
  .next ((s.issueR x 0x08 f f.bareR (fun k _ t =>
    if (t.msq x).higherReady k then .ok (t.setMsq x { t.msq x with wait := some .yield }) else .ok t)).advance x)

/-- WAITE_TIMEOUT (R147): the timeout of a WAITE passes; the predicate reads 0. With a timeout of 0 there is none. -/
def execWaiteTimeout (x : Act) (s : State) : Out :=
  match (s.msq x).running, (s.msq x).wait with
  | some k, some (.waite _ pred tmo since) =>
    if tmo = 0 ∨ s.wedgePeriod = 0 ∨ s.now < since + tmo * s.wedgePeriod then .next s
    else
      let m := s.msq x
      .next (((s.setMsq x (m.setSpec k ((m.slot k).spec.setReg pred 0#32))).endWait x).advance x)
  | _, _ => .next s

/-- WAITA_TIMEOUT (R146): a WAITA not met within WAITA_REV revolutions of issue is MSQx_ERR_WAITA at its address. -/
def execWaitaTimeout (x : Act) (s : State) : Out :=
  match (s.msq x).running, (s.msq x).wait with
  | some k, some (.waita _ _ ats) =>
    if s.atsSince ats < s.get (Fld.MSQ_TMO_WAITA_REV x) * 2 ^ 32 then .next s
    else .next (s.progError x ((((s.msq x).slot k).spec.pc + 2 ^ 32 - 8) % 2 ^ 32) errWaita)
  | _, _ => .next s

/-- SLOT_TIMEOUT (R184): SLOT_REV revolutions without a commit while in RUN are MSQx_ERR_SLOTTMO at the slot's PC. -/
def execSlotTimeout (x : Act) (s : State) : Out :=
  match (s.msq x).running with
  | some k =>
    if s.atsSince (s.msq x).lastCommitAts < s.get (Fld.MSQ_TMO_SLOT_REV x) * 2 ^ 32 then .next s
    else .next (s.progError x ((s.msq x).slot k).spec.pc errSlotTmo)
  | none => .next s

end Sys2Proof.Machine
end

