-- ==== Sys2Proof/Machine/CcxOps.lean ====
section
/-!
DEFINITION. Shared operations of CCX (R638 to R650): allocation, admission, context commands, completion, host data.
-/
namespace Sys2Proof.Machine

/-- The lowest-numbered free context (R641). -/
def State.freeCtx (s : State) : Option Nat := (List.range 1024).find? (fun n => (s.ctx n).isNone)

/-- The free contexts. -/
def State.freeCtxs (s : State) : Nat := 1024 - s.ccx.ctxs.length

/-- A fresh context of a kind. -/
def newCtx (s : State) (kind st : Nat) : Ctx :=
  { st := st, kind := kind, port := 0, unit := 0, tag := 0, sq := 0, write := false, lba := 0, len := 0, slot := none, status := 0,
    credited := 0, finals := 0, xferDone := false, cached := 0, queues := 0, at_ := s.now, ordered := false, silent := false,
    hoq := false, keytag := none, caching := false, ended := none }

/-- A context allocated (R638): its allocation sequence rises, and CCX writes its entry. `ws` are words 0 to 20. -/
def State.allocCtx (s : State) (n : Nat) (c : Ctx) (ws : List (Nat × Word)) : State :=
  let seq := (s.allocSeq n + 1) % 2 ^ 16
  let s1 : State := { s with ccx := { s.ccx with seqs := mput s.ccx.seqs n seq } }
  let s2 := (List.range 32).foldl (fun t i => t.ctxPut n i 0) s1
  let s3 := ws.foldl (fun t e => t.ctxPut n e.1 e.2) s2
  (s3.ctxPut n 28 (BitVec.ofNat 32 seq)).setCtx n c

end Sys2Proof.Machine

namespace Sys2Proof
open Machine

/-- The words of a host command's entry (R638). -/
def HostCmd.words (h : HostCmd) : List (Nat × Word) :=
  (List.range 16).map (fun i => (i, h.raw.getD i 0))
    ++ [(17, BitVec.ofNat 32 (h.sq % 128 * 2 ^ 16 + b2n h.fua * 4 + b2n h.write)), (18, BitVec.ofNat 32 h.lba),
        (19, BitVec.ofNat 32 (h.lba / 2 ^ 32 % 8)), (20, BitVec.ofNat 32 h.len)]

end Sys2Proof

namespace Sys2Proof.Machine

/-- The namespace or logical unit that a host command names: CZ8650-SN has one (R7). -/
def State.unitOf (s : State) (u : Nat) : Nat := if s.isSN then 0 else u % 2

/-- The context of a host command. -/
def State.hostCtx (s : State) (h : HostCmd) : Ctx :=
  { newCtx s (if h.fast then 0 else 1) 1 with
    port := h.port, unit := s.unitOf h.unit, tag := h.tag % 2 ^ 16, sq := h.sq, write := h.write, lba := h.lba, len := h.len,
    ordered := h.ordered && h.port != 2, hoq := h.hoq && h.port != 2, keytag := h.keytag }

/-- An ORDERED command of the unit has not completed (R633). -/
def State.orderedHold (s : State) (h : HostCmd) : Bool :=
  h.port != 2 && s.ccx.ctxs.any (fun e => e.2.ordered && e.2.unit == s.unitOf h.unit && e.2.kind != 2)

/-- The command's port belongs to the mode in force (R629). -/
def State.portOk (s : State) (port : Nat) : Bool := if s.pcieMode then port == 2 else decide (port < 2)

/-- The status of a command that a restricted state does not serve (R654). -/
def State.restricted (s : State) : Option Nat :=
  if s.sys.noImage then some 0x0B else if s.flag Fld.MEM_STAT_DIS then some 0x06 else none

/-- The key slot bound at admission and the reservation asked for (R590, R641); a refusal ends the context. -/
def State.admitKeyed (s : State) (n : Nat) : State :=
  match s.ctx n with
  | none => s
  | some c =>
    match s.bindChoice c.unit c.write c.lba c.len c.keytag with
    | .ok slot => s.admitWith n slot
    | .error st => s.endCtx n st 9 false

/-- A command admitted (R641). -/
def State.admission (s : State) (h : HostCmd) : State :=
  match s.freeCtx with
  | none => (if h.port = 2 then s else s.post h.port h.tag 0x100).raise Fld.CCX_EV_FULL
  | some n =>
    let s1 := s.allocCtx n (s.hostCtx h) h.words
    let refuse := match s.restricted with
      | some st => if h.served then none else some st
      | none => none
    if h.port ≠ 2 ∧ h.aca = true then s1.endCtx n 0x09 9 false
    else
      match refuse with
      | some st => s1.endCtx n st 9 false
      | none =>
        if h.fast then
          if h.len = 0 ∨ 2048 < h.len ∨ h.inUnit = false then s1.endCtx n 0x09 9 false else s1.admitKeyed n
        else
          let c := s1.hostCtx h
          let s2 := (s1.setCtx n { c with st := 2, queues := 4 }).ctxPut n 26 1
          { s2 with ccx := { s2.ccx with qn := if c.hoq then (n, false) :: s2.ccx.qn else s2.ccx.qn ++ [(n, false)] } }

/-! ### Copies and zeros -/

/-- The 36-bit DRAM address of words 24 and 25 (R638), as a code-word index. -/
def State.ctxDram (s : State) (n : Nat) : Nat :=
  ((s.peek (s.ctxAddr n 24)).toNat + wfield (s.peek (s.ctxAddr n 25)) 0 4 * 2 ^ 32) / 8

/-- n code words copied, poison with them; whether any was poisoned. -/
def State.copyWords : Nat → Nat → Nat → State → Bool × State
  | 0, _, _, s => (false, s)
  | k + 1, src, dst, s =>
    let ((d, bad), s1) := s.dramRead 3 src
    let s2 := if bad then s1.dramSet dst (.poison d) else s1.dramPut dst d
    let (more, s3) := State.copyWords k (src + 1) (dst + 1) s2
    (bad || more, s3)

/-- A filled window of a cached write copied to the write cache, and released (R642). -/
def State.cacheWin (s : State) (n : Nat) (second : Bool) : State :=
  match s.ctx n, s.resvOf n with
  | some c, some r =>
    let w := r.win second
    let k := min 256 (c.len - w)
    if !c.caching || k == 0 || !r.full second c.len then s
    else
      match s.posWord n w with
      | none => s
      | some a =>
        let (_, s1) := State.copyWords (k * 512) a (s.ctxDram n + w * 512) s
        (s1.setResv (r.advance second)).setCtx n { c with cached := c.cached + k }
  | _, _ => s

/-- The zeros of a read's last positions, as far as a window holds them (R642). -/
def State.zeroWin (s : State) (n : Nat) (second : Bool) : State :=
  match s.resvOf n with
  | none => s
  | some r =>
    match r.zeroFrom with
    | none => s
    | some z =>
      (winPositions (r.win second) (s.ctxLen n)).foldl (fun t p =>
        if p < z then t
        else
          match t.posWord n p with
          | some a => (State.zeros 512 a t).fillPos n p
          | none => t) s

/-! ### Context commands -/

/-- The result of a context command (R642). -/
def State.ctxRes (s : State) (ok : Bool) (n : Nat) : State :=
  s.wr Reg.CCX_CTXRES (BitVec.ofNat 32 ((if ok then 2 ^ 31 else 2 ^ 30) + n % 1024))

/-- SHARES raised by 1 (R642). -/
def State.raiseShares (s : State) (n : Nat) : State :=
  let p := s.ctxWord n 26
  p.2.ctxPut n 26 (wput p.1 0 8 (min 255 (wfield p.1 0 8 + 1)))

/-- QUEUEA and QUEUEB: an append after the first raises SHARES (R642). -/
def State.ctxQueue (s : State) (n : Nat) (b : Bool) : State :=
  match s.ctx n with
  | none => s.ctxRes false n
  | some c =>
    if c.st ≠ 2 then s.ctxRes false n
    else
      let s1 := if c.queues &&& 3 != 0 then s.raiseShares n else s
      let s2 := s1.setCtx n { c with queues := c.queues ||| (if b then 2 else 1) }
      let s3 : State := if b then { s2 with ccx := { s2.ccx with qb := s2.ccx.qb ++ [n] } }
        else { s2 with ccx := { s2.ccx with qa := s2.ccx.qa ++ [n] } }
      s3.ctxRes true n

/-- OPEN (R642). -/
def State.ctxOpen (s : State) : State :=
  match s.freeCtx with
  | none => s.ctxRes false 0
  | some n => (s.allocCtx n (newCtx s 2 4) []).ctxRes true n

/-- k words of a context's entry, from word i on, read one after another. -/
def State.ctxWords (s : State) (n i k : Nat) : List Word × State :=
  (List.range k).foldl (fun (p : List Word × State) (j : Nat) =>
    let (w, t) := p.2.ctxWord n (i + j)
    (p.1 ++ [w], t)) ([], s)

/-- ADMIT (R642): kind 1 by R590, kind 2 by word 21; the transfer is the one the entry's words give. -/
def State.ctxAdmit (s : State) (n : Nat) : State :=
  match s.ctx n with
  | none => s.ctxRes false n
  | some c =>
    if !(c.st == 4 || (c.st == 2 && c.kind == 1 && c.slot.isNone)) then s.ctxRes false n
    else
      let p := s.ctxWords n 16 6
      let w (i : Nat) : Word := p.1.getD (i - 16) 0
      let c1 : Ctx := { c with
        unit := if c.kind = 2 then wfield (w 16) 16 1 else c.unit, write := (w 17).getLsbD 0,
        lba := (w 18).toNat + wfield (w 19) 0 3 * 2 ^ 32, len := (w 20).toNat }
      let s1 := p.2.setCtx n c1
      (if c.kind = 2 then s1.admitWith n (wfield (w 21) 16 12) else s1.admitKeyed n).ctxRes true n

/-- CACHE (R642): word 17 carries CACHE. -/
def State.ctxCache (s : State) (n : Nat) : State :=
  match s.ctx n with
  | none => s.ctxRes false n
  | some c =>
    let p := s.ctxWord n 17
    if c.st ≠ 2 ∨ c.write = false ∨ p.1.getLsbD 1 = false then p.2.ctxRes false n
    else (((p.2.setCtx n { c with caching := true }).cacheWin n false).cacheWin n true).ctxRes true n

/-- ZERO (R642): the last ZERO positions of word 23 are zeros. -/
def State.ctxZero (s : State) (n : Nat) : State :=
  match s.ctx n, s.resvOf n with
  | some c, some r =>
    if c.st ≠ 2 ∨ c.write = true then s.ctxRes false n
    else
      let p := s.ctxWord n 23
      let s2 := p.2.setResv { r with zeroFrom := some (c.len - wfield p.1 0 16) }
      ((((s2.zeroWin n false).zeroWin n true).withhold n false).withhold n true).ctxRes true n
  | _, _ => s.ctxRes false n

/-- END (R642). -/
def State.ctxEndCmd (s : State) (n status : Nat) : State :=
  match s.ctx n with
  | none => s.ctxRes false n
  | some c => if c.st = 1 ∨ c.st = 2 ∨ c.st = 4 then (s.endCtx n status 9 false).ctxRes true n else s.ctxRes false n

/-- A write of CCX_CTXCMD (R642); CMD 0 names nothing. -/
def State.ctxCmd (s : State) (v : Word) : State :=
  let n := wfield v 0 10
  let k := wfield v 16 3
  if k = 1 then s.ctxOpen
  else if k = 2 then s.ctxAdmit n
  else if k = 3 then s.ctxQueue n false
  else if k = 4 then s.ctxQueue n true
  else if k = 5 then s.ctxCache n
  else if k = 6 then s.ctxZero n
  else if k = 7 then s.ctxEndCmd n (wfield v 24 8)
  else s

/-- A read of CCX_POPx: the entry shown is removed (R661). -/
def State.popRead (s : State) (q : Nat) : Word × State :=
  (s.popView q,
    if q = 0 then { s with ccx := { s.ccx with qa := s.ccx.qa.drop 1 } }
    else if q = 1 then { s with ccx := { s.ccx with qb := s.ccx.qb.drop 1 } }
    else { s with ccx := { s.ccx with qn := s.ccx.qn.drop 1 } })

/-! ### Completion -/

/-- Whether any word of a window's positions is poisoned as the host reads it (R542), and the state after. -/
def State.readWords : Nat → Nat → State → Bool × State
  | 0, _, s => (false, s)
  | k + 1, a, s =>
    let ((_, bad), s1) := s.dramRead 3 a
    let (more, s2) := State.readWords k (a + 1) s1
    (bad || more, s2)

/-- Words stored from a first code word on. -/
def State.putWords : List (BitVec 64) → Nat → State → State
  | [], _, s => s
  | d :: t, a, s => State.putWords t (a + 1) (s.dramPut a d)

/-- The first code word of a position's protection information (R556, R557). -/
def State.piWord (s : State) (n p : Nat) : Option Nat :=
  (s.resvOf n).map (fun r =>
    (s.get Fld.BUF_POOL_BASE + s.get Fld.BUF_POOL_COUNT) * 2 ^ 17 + (if p / 256 % 2 = 1 then r.seg1 else r.seg0) * 512 + p % 256 * 2)

/-- A drained read window (R558, R542, R643): it advances; the transfer ends with the last one. Poisoned data ends the context with
INTERNAL; an internal context's data go to its DRAM address. -/
def State.drain (s : State) (n : Nat) (second : Bool) (c : Ctx) (r : Resv) : State :=
  let w := r.win second
  let k := min 256 (c.len - w)
  match s.posWord n w with
  | none => s
  | some a =>
    let (bad, s1) := if c.kind = 2 then State.copyWords (k * 512) a (s.ctxDram n + w * 512) s else State.readWords (k * 512) a s
    if bad then s1.endCtx n 0x06 9 false
    else
      let r1 := r.advance second
      let s2 := s1.setResv r1
      let s3 := if c.len ≤ r1.win0 ∧ c.len ≤ r1.win1 then s2.setCtx n { c with xferDone := true } else s2
      ((s3.zeroWin n second).withhold n second)

/-- A filled write window (R309, R558): its data stand in the segment. -/
def State.fill (s : State) (n : Nat) (second : Bool) (c : Ctx) (r : Resv) (data pi : List (BitVec 64)) : State :=
  let w := r.win second
  let k := min 256 (c.len - w)
  match s.posWord n w, s.piWord n w with
  | some a, some q =>
    let s1 := if c.kind = 2 then (State.copyWords (k * 512) (s.ctxDram n + w * 512) a s).2
      else State.putWords (pi.take (2 * k)) q (State.putWords (data.take (512 * k)) a s)
    let s2 := (winPositions w c.len).foldl (fun t p => t.fillPos n p) s1
    s2.cacheWin n second
  | _, _ => s

end Sys2Proof.Machine
end

