-- ==== Sys2Proof/Machine/Host.lean ====
section
/-!
DEFINITION. The commands of the host side (R629 to R661): admission, context commands, completion, aborts, host resets, recovery,
the management port, links.
-/
namespace Sys2Proof.Machine

/-- COMMAND_ADMISSION (R633, R641, R654): a command behind an ORDERED one waits with its sender. -/
def execCommandAdmission (c : HostCmd) (s : State) : Out :=
  if !s.portOk c.port || s.orderedHold c then .next s else .next (s.admission c)

/-- CTX_OPEN (R642). -/
def execCtxOpen (s : State) : Out := .next s.ctxOpen

/-- CTX_ADMIT (R642). -/
def execCtxAdmit (n : Nat) (s : State) : Out := .next (s.ctxAdmit (n % 1024))

/-- CTX_QUEUEA (R642). -/
def execCtxQueuea (n : Nat) (s : State) : Out := .next (s.ctxQueue (n % 1024) false)

/-- CTX_QUEUEB (R642). -/
def execCtxQueueb (n : Nat) (s : State) : Out := .next (s.ctxQueue (n % 1024) true)

/-- CTX_CACHE (R642). -/
def execCtxCache (n : Nat) (s : State) : Out := .next (s.ctxCache (n % 1024))

/-- CTX_ZERO (R642). -/
def execCtxZero (n : Nat) (s : State) : Out := .next (s.ctxZero (n % 1024))

/-- CTX_END (R642, R648). -/
def execCtxEnd (n : Nat) (status : BitVec 8) (s : State) : Out := .next (s.ctxEndCmd (n % 1024) status.toNat).syncMode

/-- CCX_POP (R661): `q`, 0 A, 1 B, 2 N. -/
def execCcxPop (i : Initiator) (q : Nat) (s : State) : Out := .next ((s.popRead q).2.setRead i ((s.popRead q).1.zeroExtend 64))

/-- CONTEXT_COMPLETE (R643, R648, R649). -/
def execContextComplete (n : Nat) (s : State) : Out :=
  match s.ctx n with
  | none => .next s
  | some c => if s.ctxDone n c then .next (s.ctxFree n c) else .next s

/-- The time limit of a context in s (R646): word 21, or TMO; none for 255 in an internal one. -/
def State.ctxLimit (s : State) (n : Nat) (c : Ctx) : Option Nat :=
  let w := wfield (s.peek (s.ctxAddr n 21)) 0 8
  if w = 255 ∧ c.kind = 2 then none else some (if w = 0 then s.eff Fld.CCX_CFG_TMO else w)

/-- CONTEXT_TIMEOUT (R646, R649): one that has completed completes. -/
def execContextTimeout (n : Nat) (s : State) : Out :=
  match s.ctx n with
  | none => .next s
  | some c =>
    match s.ctxLimit n c with
    | none => .next s
    | some t =>
      if s.endable 3 c = false ∨ s.now < c.at_ + t * 800000000 then .next s
      else if c.st ≠ 3 ∧ s.ctxDone n c = true then .next (s.ctxFree n c)
      else .next (((s.endCtx n 0x07 9 false).bump Fld.CCX_CNT_TMO 1).raise Fld.CCX_EV_TMO).syncMode

/-- A context that an abort's scope names. -/
def inScope (port unit tag : Option Nat) (c : Ctx) : Bool :=
  c.kind != 2 && (port.isNone || port == some c.port) && (unit.isNone || unit == some c.unit)
    && (tag.isNone || tag == some c.tag)

/-- HOST_ABORT (R647, R649): a context in the scope that has completed completes, the others
end; `tmf`, a SAS task management function. A SAS task that is aborted gets no status. -/
def execHostAbort (port unit tag : Option Nat) (tmf : Bool) (s : State) : Out :=
  let done := s.ccx.ctxs.filter (fun e => inScope port unit tag e.2 && e.2.st != 3 && s.ctxDone e.1 e.2)
  let hit := s.ccx.ctxs.filter (fun e => inScope port unit tag e.2 && s.endable 2 e.2 && !(e.2.st != 3 && s.ctxDone e.1 e.2))
  let s0 := if tmf then s.raise Fld.SAS_EV_TMF else s
  let s0 := done.foldl (fun t e => t.ctxFree e.1 e.2) s0
  .next (hit.foldl (fun t e =>
    ((t.endCtx e.1 0x08 9 (e.2.port != 2)).bump Fld.CCX_CNT_ABORT 1).raise Fld.CCX_EV_ABORT) s0).syncMode

/-- Contexts of ports that satisfy a test end with ABORTED and no status (R651). -/
def State.abortPorts (s : State) (p : Nat → Bool) : State :=
  s.endCtxs (fun c => c.kind != 2 && p c.port) 0x08 9 true

/-- SAS_HARD_RESET (R651, R652). -/
def execSasHardReset (portB : Bool) (s : State) : Out :=
  if s.pcieMode then .next s
  else
    let s1 := ((s.resetCause Fld.SYS_RSTCAUSE_HOST).raise Fld.SAS_EV_HARDRST).raise Fld.HIF_EV_HOSTRST
    let s2 := s1.sasLinkReset portB
    .next (s2.abortPorts (fun p => p == b2n portB)).syncMode

/-- The NVMe controller reset (R651). -/
def State.nvmeReset (s : State) : State :=
  let s1 := (s.putb Fld.PCIE_STAT_RDY false).abortPorts (fun p => p == 2)
  { s1 with host := { s1.host with ccEnAt := none, cfs := false } }

/-- The PCIe link goes down (R651, R658): its speed, width and lanes, with the events of the change. -/
def State.pcieDown (s : State) : State :=
  let s1 := ((s.put Fld.PCIE_STAT_SPEED 0).put Fld.PCIE_STAT_WIDTH 0).put Fld.HIF_STAT_LANEUP 0
  if s.get Fld.PCIE_STAT_WIDTH = 0 then s1 else (s1.raise Fld.HIF_EV_LINK).raise Fld.PCIE_EV_LINK

/-- PERST (R651, R652, R660). -/
def execPerst (s : State) : Out :=
  if !s.pcieMode then .next s
  else
    let s1 := ((s.resetCause Fld.SYS_RSTCAUSE_HOST).wr Reg.PCIE_CNT 0).nvmeReset
    let s2 : State := { s1 with host := { s1.host with pcieCfg := s.rd Reg.PCIE_CFG, pcieId := s.rd Reg.PCIE_ID } }
    .next ((s2.pcieDown.raise Fld.PCIE_EV_PERST).raise Fld.HIF_EV_HOSTRST).syncMode

/-- FUNCTION_LEVEL_RESET (R651): `flr`, a function level reset; otherwise CC.EN goes 0. -/
def execFunctionLevelReset (flr : Bool) (s : State) : Out :=
  if !s.pcieMode then .next s
  else .next ((s.nvmeReset.raise (if flr then Fld.PCIE_EV_FLR else Fld.PCIE_EV_CCEN)).raise Fld.HIF_EV_HOSTRST).syncMode

/-- CONTROLLER_ENABLE (R636). -/
def execControllerEnable (s : State) : Out :=
  if !s.pcieMode || s.host.ccEnAt.isSome then .next s
  else .next ({ s with host := { s.host with ccEnAt := some s.now } }.raise Fld.PCIE_EV_CCEN)

/-- CSTS_RDY (R636): 60 ms after the start instant and 20 ms after CC.EN have passed. -/
def execCstsRdy (s : State) : Out :=
  match s.host.ccEnAt with
  | none => .next s
  | some t =>
    if s.now < s.host.startAt + 48000000 ∨ s.now < t + 16000000 then .next s else .next (s.putb Fld.PCIE_STAT_RDY true)

/-- RECOVERY_DOWNLOAD_COMMIT (R655): the context of the committing command; the outcome of R617; the image and where it goes; what a
start-up finds. An image that fails ends the command with 26h/00h, or Invalid Firmware Image (log 61). -/
def execRecoveryDownloadCommit (n : Nat) (pass : Bool) (img : Download) (p : Straps) (memOk : Bool) (s : State) : Out :=
  if !s.sys.noImage then .next s
  else if pass then
    let s1 := (s.flashWrite img.bytes img.base).bootName img.recBase (b2n img.slotB)
    let s2 := (((s1.hardStop .a).hardStop .b).resetTo 5).safeEnter
    execPinResetRelease p memOk { s2 with pins := { s2.pins with resetL := true } }
  else
    match s.ctx n with
    | none => .next s
    | some c =>
      .next ((s.ctxPut n 27 (if c.port = 2 then 0x107#32 else 0x052600#32)).endCtx n 0x80 9 false).syncMode

/-! ### The management port -/

/-- MGT answers (R656, R658). -/
def State.mgtOn (s : State) : Bool :=
  s.flag Fld.HIF_MGTCFG_EN && !s.sys.cooldown && !s.pins.resetL && !s.pwr.bor && !s.thm.shut

/-- Media is not ready: MODE is DARK, or one without loaded heads and the speed (R657, R749). -/
def State.mediaNotReady (s : State) : Bool :=
  let m := s.get Fld.SYS_MODE_MODE
  m == 1 || m == 2 || m == 3 || m == 8 || m == 9 || m == 10

/-- A byte of MGT (R657). -/
def State.mgtByte (s : State) (o : Nat) : Byte :=
  if o = 1 then (if s.mediaNotReady then 0x20#8 else 0#8)
  else if o = 3 then
    let t := s.get Fld.THM_EXT_LOW
    if t = 0x8000 then 0x80#8 else BitVec.ofInt 8 (sgn 16 t / 16)
  else if 8 ≤ o ∧ o < 0x28 then BitVec.ofNat 8 ((s.rd (Reg.HIF_MGTID ((o - 8) / 4))).toNat / 2 ^ (8 * (o % 4)))
  else 0#8

/-- MGT_WRITE (R656). -/
def execMgtWrite (ofs : BitVec 8) (s : State) : Out :=
  if s.mgtOn then .next { s with host := { s.host with mgtOfs := ofs.toNat } } else .next s

/-- MGT_READ (R656, R657): consecutive bytes; the offset wraps. -/
def execMgtRead (len : Nat) (s : State) : Out :=
  if !s.mgtOn then .next s
  else .next { s with host := { s.host with
    mgtData := (List.range len).map (fun i => s.mgtByte ((s.host.mgtOfs + i) % 256)), mgtOfs := (s.host.mgtOfs + len) % 256 } }

/-! ### Data and links -/

/-- HOST_DATA_TRANSFER (R558, R542, R596): the window `second` of a context: one of a read is drained once it is published and not
withheld; one of a write is filled with `data` and protection information `pi`. -/
def execHostDataTransfer (n : Nat) (second : Bool) (data pi : List (BitVec 64)) (s : State) : Out :=
  match s.ctx n, s.resvOf n with
  | some c, some r =>
    if c.st ≠ 2 ∨ c.len ≤ r.win second then .next s
    else if c.write then
      if r.full second c.len then .next s
      else .next (((s.fill n second c r data pi).advance .a).advance .b).syncMode
    else if r.published second c.len && !r.held second then .next (((s.drain n second c r).advance .a).advance .b).syncMode
    else .next s
  | _, _ => .next s

/-- HOST_LINK_CHANGE (R629 to R634, R658): link 0 SAS port A, 1 port B, 2 PCIe; its rate (0 down) and width; `reset`, the change is a
link reset of the port. -/
def execHostLinkChange (link rate width : Nat) (reset : Bool) (s : State) : Out :=
  let lanes := s.get Fld.HIF_STAT_LANEUP
  if link = 2 then
    if !s.pcieMode then .next s
    else
      let sp := min rate (clampN 1 5 (wfield s.host.pcieCfg 8 3))
      let w := if sp = 0 then 0 else clampN 1 2 width
      let up := if w = 0 then 0 else if w = 1 then 4 else 12
      .next (((((s.put Fld.PCIE_STAT_SPEED sp).put Fld.PCIE_STAT_WIDTH w).put Fld.HIF_STAT_LANEUP up).raise Fld.HIF_EV_LINK).raise
        Fld.PCIE_EV_LINK)
  else
    let b := link == 1
    if s.pcieMode then .next s
    else
      let en := s.flag (if b then Fld.SAS_CFG_ENB else Fld.SAS_CFG_ENA)
      let r := if en then min (rate % 4) (s.get Fld.SAS_CFG_MAXRATE) else 0
      let s1 := (s.put (if b then Fld.SAS_STAT_RATEB else Fld.SAS_STAT_RATEA) r).putb (if b then Fld.SAS_STAT_UPB else Fld.SAS_STAT_UPA) (r != 0)
      let bit := if b then 2 else 1
      let s2 := s1.put Fld.HIF_STAT_LANEUP ((lanes &&& (15 - bit)) + (if r = 0 then 0 else bit))
      let s3 := if reset then s2.sasLinkReset b else s2
      .next ((s3.raise Fld.HIF_EV_LINK).raise (if b then Fld.SAS_EV_LINKB else Fld.SAS_EV_LINKA))

/-- PHY_PLL_LOCK_LOSS (R658). -/
def execPhyPllLockLoss (s : State) : Out := .next (s.raise Fld.HIF_FLT_PLL)

end Sys2Proof.Machine
end

