-- ==== Sys2Proof/Machine/WritePath.lean ====
section
/-!
DEFINITION. The commands of the write path and the preamplifier link (R309 to R347): the laser gate limit, monitor readings, contact,
Write Guard trips and releases, torn records, frames, preamplifier faults.
-/
namespace Sys2Proof.Machine

/-- A laser monitor fault (R322): trip with LMON, WRPx_FLT_LMON, the head's laser at LBIAS. -/
def State.lmonFault (s : State) (x : Act) (second : Bool) : State :=
  let s1 := (s.wgTrip x trgLmon false).raise (Fld.WRP_FLT_LMON x)
  s1.setWrp x ((s1.wrp x).setLas second { (s1.wrp x).las second with cmd := s1.laserBias x second, misses := 0, same := 0 })

/-- A channel's laser gate has stayed high for longer than LGMAX x 2^28 ac (R318): one of a micro-op since it rose, that of a media
instruction since its first position with no servo field in between. -/
def State.laserOver (s : State) (x : Act) (second : Bool) : Bool :=
  let lim := s.eff (Fld.WRP_ASSIST_LGMAX x) * 2 ^ 28
  let start := (s.ch (chanOf x second)).startAts
  s.lgOpen x second &&
    ((s.wrp x).gates.any (fun g => g.isOpen && g.kind == 1 && g.ch == b2n second && decide (lim < s.atsSince g.since))
      || ((s.msq x).mediaOn second).isSome && decide (lim < s.atsSince start)
        && s.pauses x second ((s.angle + 2 ^ 48 - lim) % 2 ^ 32) lim == 0)

/-- LASER_GATE_LIMIT (R318). -/
def execLaserGateLimit (x : Act) (second : Bool) (s : State) : Out :=
  if !s.laserOver x second then .next s
  else .next ((s.wgTrip x trgLmon false).raise (Fld.WRP_FLT_LGMAX x)).syncMode

/-- The counts of a monitor reading (R321): misses, identical readings with the command at the first. -/
def LaserSt.read (l : LaserSt) (reading : Option Nat) : LaserSt :=
  match reading with
  | none => { l with misses := l.misses + 1 }
  | some r =>
    if l.same ≠ 0 ∧ l.reading = r then { l with misses := 0, same := l.same + 1 }
    else { l with misses := 0, same := 1, reading := r, cmd0 := l.cmd }

/-- A reading shows a fault (R321): lost, frozen or rail. -/
def State.lmonBad (s : State) (x : Act) (l : LaserSt) (reading : Option Nat) : Bool :=
  decide (s.eff (Fld.WRP_LMON_LM_MISS x) ≤ l.misses)
    || (decide (s.eff (Fld.WRP_LMON_LM_FRZ x) ≤ l.same)
      && decide (s.eff (Fld.WRP_LMON_LM_DELTA x) ≤ max l.cmd l.cmd0 - min l.cmd l.cmd0))
    || reading == some 0 || reading == some 0xFFF

/-- A contribution staged on a channel for the commit of the instruction in progress (R734). -/
def State.stageContrib (s : State) (n : Chan) (c : Contrib) : State :=
  let h := s.ch n
  s.setCh n { h with contrib := h.contrib ++ [(h.items, c)] }

/-- MONITOR_READ (R319, R321): the sector's reading, or none for a miss. Only mode 1 reads monitors; a closed gate resets the
counts. -/
def execMonitorRead (x : Act) (second : Bool) (reading : Option Nat) (s : State) : Out :=
  let w := s.wrp x
  let l := w.las second
  if s.get (Fld.WRP_CFG_AMODE x) ≠ 1 then .next s
  else if !s.lgOpen x second then .next (s.setWrp x (w.setLas second { l with misses := 0, same := 0 }))
  else
    let rd := reading.map (fun v => v % 4096)
    let l1 := l.read rd
    let s1 := s.setWrp x (w.setLas second l1)
    let s2 := match ((s1.msq x).pos second).head with
      | some h => s1.stageContrib (chanOf x second) (.hist (32 + 12 * x.idx + h) l1.cmd)
      | none => s1
    .next (if s2.lmonBad x l1 rd then (s2.lmonFault x second).syncMode else s2)

/-- LMREL (R323): the LMON trigger releases. -/
def execLmrel (x : Act) (s : State) : Out := .next (s.wgRelease x trgLmon)

/-- HEAD_CONTACT (R325, R759): outside CAL, the head's heater power falls at the next wedge boundary. -/
def execHeadContact (x : Act) (head : Nat) (s : State) : Out :=
  if s.actState x = 6 ∨ 16 ≤ head then .next s
  else
    let w := s.wrp x
    .next ((s.setWrp x { w with contactDue := w.contactDue ||| 2 ^ head }).raise (Fld.WRP_EV_CONTACT x))

/-- WRITE_GUARD_TRIP (R329, R332, R335): triggers arrive; a shock reaches both actuators. `neg`: the PES was negative (R339). -/
def execWriteGuardTrip (x : Act) (bits : BitVec 8) (neg : Bool) (s : State) : Out :=
  let b := bits.toNat
  if b = 0 then .next s
  else if b &&& trgShock ≠ 0 then
    .next (s.shockTrip x b neg).syncMode
  else .next (s.wgTrip x b neg).syncMode

/-- WRITE_GUARD_RELEASE (R330): every trigger whose condition has ended releases; `quiet`, the shock inputs have stayed within
threshold since the last shock; SHK_HOLD has passed since then (R332). -/
def execWriteGuardRelease (x : Act) (quiet : Bool) (s : State) : Out :=
  let s1 : State :=
    if quiet && decide (s.wrpA.shockAt + s.get Fld.WRPA_SHOCK_HOLD * 12800 ≤ s.now) then { s with wrpA := { s.wrpA with shockHold := false }, wrpB := { s.wrpB with shockHold := false } } else s
  .next (s1.wgRelease x (s1.releasedTriggers x))

/-- The oldest torn record removed (R338, R305). -/
def State.tornPop (s : State) (x : Act) : State := s.setWrp x { s.wrp x with torn := (s.wrp x).torn.drop 1 }

/-- TORNPOP (R338). -/
def execTornpop (x : Act) (s : State) : Out := .next (s.tornPop x)

/-- A write frame that the preamplifier has answered (R342, R345): the value it holds at the address; a word at HSADDR is staged for
the next PLKx_HS strobe. -/
def State.plkWrite (s : State) (x : Act) (addr : Nat) (data : Nat) : State :=
  let p := s.plk x
  let p1 := { p with repeated := false, wf := mput p.wf addr data }
  s.setPlk x (if addr = s.get (Fld.PLK_ADDR_HSADDR x) then { p1 with hsel := some (BitVec.ofNat 32 data) } else p1)

/-- A preamplifier fault (R346): the status word is kept, the Write Guard trips with PREAMP. -/
def State.preampFault (s : State) (x : Act) (pin : Bool) (status : Nat) : State :=
  if !s.actOk x then s else
  let p := s.plk x
  let s1 := s.setPlk x { p with faulted := true, fltPin := p.fltPin || pin }
  let s2 := ((s1.put (Fld.PLK_FLTCODE_STATUS x) status).putb (Fld.PLK_FLTCODE_PIN x) pin).raise (Fld.PLK_FLT_PREAMP x)
  s2.wgTrip x trgPreamp false

/-- A response that fails (R343): the frame is repeated once; the second failure is a response timeout. -/
def State.plkFail (s : State) (x : Act) : State :=
  let p := s.plk x
  if !s.actOk x then s
  else if !p.repeated then
    ((s.setPlk x { p with repeated := true }).bump (Fld.PLK_CNT_RETRY x) 1).raise (Fld.PLK_EV_RETRY x)
  else
    let s1 := s.setPlk x { p with repeated := false }
    let s2 := if s1.flag (Fld.PLK_REQ_GO x) then
        ((s1.wr (Reg.PLK_RSP x) 0xC0000000#32).putb (Fld.PLK_REQ_GO x) false).raise (Fld.PLK_EV_REQDONE x)
      else s1
    ((s2.bump (Fld.PLK_CNT_TMO x) 1).raise (Fld.PLK_EV_TMO x)).wgTrip x trgPreamp false

/-- PLK_WRITE_FRAME (R342): address, data and the status that the preamplifier returns. -/
def execPlkWriteFrame (x : Act) (addr : BitVec 7) (data : BitVec 16) (s : State) : Out := .next (s.plkWrite x addr.toNat data.toNat)

/-- PLK_READ_FRAME (R342, R346): the data returned, and whether its CRC passes. A word of the status register with bit 15 set is a
preamplifier fault. -/
def execPlkReadFrame (x : Act) (addr : BitVec 7) (data : BitVec 16) (crcOk : Bool) (s : State) : Out :=
  if !s.actOk x then .next s
  else if !crcOk then .next (s.plkFail x).syncMode
  else
    let s1 := s.setPlk x { s.plk x with repeated := false }
    .next (if addr.toNat = s1.get (Fld.PLK_CFG_STATADDR x) ∧ data.msb = true then (s1.preampFault x false data.toNat).syncMode else s1)

/-- PLK_RESPONSE_TIMEOUT (R343). -/
def execPlkResponseTimeout (x : Act) (s : State) : Out := .next (s.plkFail x).syncMode

/-- PLK_FIRMWARE_FRAME (R344, R347): GO is written 1 and the frame of PLKx_REQ is sent, after a microcode read that was asked before it; `resp`, the data of a read or the status of a
write. -/
def execPlkFirmwareFrame (x : Act) (resp : BitVec 16) (s : State) : Out :=
  if !s.actOk x || ((s.plk x).fwWaits && s.plkReading x) then .next s else
  let rd := s.flag (Fld.PLK_REQ_RD x)
  let addr := s.get (Fld.PLK_REQ_ADDR x)
  let retry := b2n (s.plk x).repeated * 2 ^ 30
  let s1 := s.wr (Reg.PLK_RSP x) (BitVec.ofNat 32 (retry + (if rd then resp.toNat else resp.toNat % 256 * 2 ^ 16)))
  let s2 := if rd then s1.setPlk x { s1.plk x with repeated := false } else s1.plkWrite x addr (s.get (Fld.PLK_REQ_DATA x))
  let s3 := (s2.putb (Fld.PLK_REQ_GO x) false).raise (Fld.PLK_EV_REQDONE x)
  .next (if rd && decide (addr = s.get (Fld.PLK_CFG_STATADDR x)) && resp.msb then (s3.preampFault x false resp.toNat).syncMode
    else s3.advance x)

/-- PREAMP_FAULT (R346): `pin`, PLKx_FLT_L is low beyond FLTFILT; `status`, the word read at STATADDR. -/
def execPreampFault (x : Act) (pin : Bool) (status : BitVec 16) (s : State) : Out :=
  if pin || status.msb then .next (s.preampFault x pin status.toNat).syncMode else .next s

/-- PREAMP_FAULT_CLEAR (R329): PLKx_FLT_L has returned high; the PREAMP trigger can release, and a WAITE for PLKRDY may end (R147). -/
def execPreampFaultClear (x : Act) (s : State) : Out :=
  if !s.actOk x then .next s else .next ((s.setPlk x { s.plk x with faulted := false, fltPin := false }).advance x)

end Sys2Proof.Machine
end

