-- ==== Sys2Proof/Machine/Loop.lean ====
section
/-!
DEFINITION. The commands of the loop engine and the drivers (R385 to R434): samples, supervisors, overruns, the duplicate
copies, the coefficient memory, retracts, overcurrents.
-/
namespace Sys2Proof.Machine

/-! ### The coefficient memory -/

/-- The words that the tables of R426 and R427 name: of a row only those with a content; every other word is 0. -/
def coefNamed (g w : Nat) : Bool :=
  let within (a b : Nat) : Bool := decide (a ≤ w) && decide (w < b)
  if g = 2 then
    (within 0 0x80 && decide (w % 16 < 4)) || within 0x80 0x82 || (within 0x100 0x180 && decide (w % 8 < 2)) || within 0x200 0x280
  else
    (within 0 0x300 && decide (w % 32 < 18)) || within 0x300 0x37D || within 0x380 0x392
      || (within 0x3A0 0x420 && decide (w % 16 < 4)) || within 0x420 0x434 || within 0x440 0x44C

/-- Where a word of a group and bank stands. -/
def coefIx (g bank w : Nat) : Nat := g * 2 ^ 13 + bank * 2 ^ 12 + w

/-- What a word reads as after a PIN reset (R428): 0 in groups 0 and 1, a ROM default in group 2. -/
def coefDefault (k : Nat) : Word := if 2 * 2 ^ 13 ≤ k then Config.coefRom (k % 2 ^ 12) else 0

/-- A coefficient word; 0 where R426 names none. -/
def State.coefAt (s : State) (g bank w : Nat) : Word :=
  if coefNamed g w then mget coefDefault s.lpe.coef (coefIx g bank w) else 0

/-- The active bank of a group (R429). -/
def State.coefBank (s : State) (g : Nat) : Nat := b2n ((s.get Fld.LPE_BANK_ACTIVE).testBit g)

/-- A word of an active bank. -/
def State.coef (s : State) (g w : Nat) : Word := s.coefAt g (s.coefBank g) w

/-- A coefficient in units of 2^-24 (R426). -/
def fix24 (w : Word) : Rat := (w.toInt : Rat) / 16777216

/-- A requested swap takes effect at the group's sample boundary (R429); one that was requested meanwhile follows at the next. -/
def State.swapAt (s : State) (g : Nat) : State :=
  if !(s.get Fld.LPE_BANK_SWAP).testBit g then s
  else
    let s1 := s.put Fld.LPE_BANK_ACTIVE (s.get Fld.LPE_BANK_ACTIVE ^^^ 2 ^ g)
    if s.lpe.swapAgain.testBit g then { s1 with lpe := { s1.lpe with swapAgain := s1.lpe.swapAgain - 2 ^ g } }
    else s1.put Fld.LPE_BANK_SWAP (s1.get Fld.LPE_BANK_SWAP - 2 ^ g)

/-- A write of ones to LPE_BANK.SWAP (R429, R71). -/
def State.bankSwap (s : State) (bits : Nat) : State :=
  let old := s.get Fld.LPE_BANK_SWAP
  let s1 := s.put Fld.LPE_BANK_SWAP (old ||| bits)
  { s1 with lpe := { s1.lpe with swapAgain := s1.lpe.swapAgain ||| (old &&& bits) } }

/-- BANK_SWAP (R429). -/
def execBankSwap (g : Nat) (s : State) : Out := .next (s.bankSwap (2 ^ (g % 3)))

/-- The coefficient that LPE_COEFADDR names: its group, bank and word; none for the reserved group. -/
def State.coefPort (s : State) : Option (Nat × Nat × Nat) :=
  let g := s.get Fld.LPE_COEFADDR_GROUP
  let act := s.coefBank g
  if g = 3 then none
  else some (g, if s.flag Fld.LPE_COEFADDR_ACTV then act else 1 - act, s.get Fld.LPE_COEFADDR_WORD)

/-- LPE_COEFADDR.WORD moves on (R433). -/
def State.coefNext (s : State) : State := s.put Fld.LPE_COEFADDR_WORD (s.get Fld.LPE_COEFADDR_WORD + 1)

/-- A read of LPE_COEFDATA. -/
def State.coefRead (s : State) : Word × State :=
  (match s.coefPort with
    | some (g, b, w) => s.coefAt g b w
    | none => 0, s.coefNext)

/-- A write of LPE_COEFDATA: only the inactive bank takes it (R429). -/
def State.coefWrite (s : State) (v : Word) : State :=
  match s.coefPort with
  | some (g, b, w) =>
    if s.flag Fld.LPE_COEFADDR_ACTV || !coefNamed g w then s.coefNext
    else ({ s with lpe := { s.lpe with coef := mset coefDefault s.lpe.coef (coefIx g b w) v } }).coefNext
  | none => s.coefNext

/-- COEFDATA_ACCESS (R429, R433). -/
def execCoefdataAccess (i : Initiator) (write : Bool) (v : Word) (s : State) : Out :=
  if write then .next (s.coefWrite v) else .next (s.coefRead.2.setRead i (s.coefRead.1.zeroExtend 64))

/-! ### The VCM loop -/

/-- The VCM row in use (R391, R411): the SAFE law, or 8 x (region - 1) + band, the SEEK row while the region is 0; the index of its
word i. -/
def State.vcmRow (s : State) (x : Act) (i : Nat) : Nat :=
  if s.flag (lpeSafe x) then 0x380 + i else 32 * (8 * (s.get (lpeRegion x) - 1) + (s.la x).band) + i

/-- Word i of the row in use. -/
def State.vcmCoef (s : State) (x : Act) (i : Nat) : Rat := fix24 (s.coef x.idx (s.vcmRow x i))

/-- The integrator rescaled across a change of row (R392): I x KI_old / KI_new, 0 when either KI is 0. -/
def rescale (i old new : Rat) : Rat := if old = 0 ∨ new = 0 then 0 else i * old / new

/-- What a head's mark tells of its feedback (R416, R417): its supervision, and whether it has valid PES. -/
def State.headFeed (s : State) (h : HeadSt) (i : HeadIn) : HeadSt × Bool :=
  let same := i.mark && decide (h.burst = i.bursts) && decide (h.wedge = i.wedge)
  let frz := if !i.mark then 0 else if same then h.frz + 1 else 1
  let frozen := if i.mark && decide (h.wedge ≠ i.wedge) then false else h.frozen || decide (s.eff Fld.LPE_SERVO_FRZ_N ≤ frz)
  let h1 : HeadSt := { h with
    frz := frz, frozen := frozen, burst := if i.mark then i.bursts else h.burst, wedge := if i.mark then i.wedge else h.wedge }
  (h1, i.mark && i.gray && decide (s.eff Fld.LPE_SERVO_BURST_MIN ≤ i.amp) && !frozen)

/-- The settle counts of a head (R402). -/
def State.headCounts (s : State) (h : HeadSt) (valid : Bool) (pes : Int) : HeadSt :=
  let within (crit : Nat) : Bool := valid && decide (pes.natAbs * 1000 ≤ crit * 4096)
  { h with
    rd := if within (s.eff Fld.LPE_SETTLE_RD_CRIT) then h.rd + 1 else 0,
    wr := if within (s.eff Fld.LPE_SETTLE_WR_CRIT) then h.wr + 1 else 0,
    noPes := if valid then 0 else h.noPes + 1 }

/-- PES in 1/256 of the reference pitch (R390): the head's track pitch in 1/65,536 of it (R351). -/
def State.pesUnits (s : State) (x : Act) (head track : Nat) (pes : Int) : Rat :=
  match s.zoneOf x head track with
  | some z => (pes : Rat) * (wfield (s.zoneEntry x head z 10) 0 24 : Nat) / 1048576
  | none => 0

/-- The microactuator's displacement of a head (R390): the applied command times the head's stroke scale. -/
def State.uaShift (s : State) (x : Act) (head : Nat) (ua : Int) : Rat := (ua : Rat) * fix24 (s.coef x.idx (0x440 + head))

/-- The measured position of a head (R390). -/
def State.headMeasure (s : State) (x : Act) (head : Nat) (h : HeadSt) (i : HeadIn) : Option Rat :=
  (s.trackPos x head i.track).map (fun t => (t : Rat) + s.pesUnits x head i.track i.pes.toInt - s.uaShift x head h.ua)

/-- The estimator's step (R389), T in seconds (log 50). -/
def estimate (ku l1 l2 l3 : Rat) (l : LpeAct) (t : Rat) (y : Option Rat) : LpeAct :=
  let a := ku * l.u + l.b
  let p := l.p + t * l.v + t * t * a / 2
  let v := l.v + t * a
  match y with
  | some m =>
    let r := m - p
    { l with p := p + l1 * r, v := v + l2 * r / t, b := l.b + l3 * r / (t * t) }
  | none => { l with p := p, v := v }

/-- A gate of the actuator is open (R430). -/
def State.gateIsOpen (s : State) (x : Act) : Bool :=
  s.wgOpen x false || s.wgOpen x true || s.lgOpen x false || s.lgOpen x true

/-- A change of row carried out on the integrator (R392, R430). -/
def State.rowChange (s : State) (x : Act) (f : State → State) : State :=
  let old := s.vcmCoef x 1
  let s1 := f s
  let new := s1.vcmCoef x 1
  if s.vcmRow x 0 = s1.vcmRow x 0 then s1
  else s1.setLa x { s1.la x with integ := rescale (s1.la x).integ old new }

/-- The region that the VCM error gives (R391). -/
def State.regionStep (s : State) (x : Act) : State :=
  let l := s.la x
  let e := ((l.target : Rat) - l.p).abs
  let set : Rat := (s.eff Fld.LPE_REGION_THR_SET : Nat)
  let fol : Rat := (s.eff Fld.LPE_REGION_THR_FOL : Nat)
  let r := s.get (lpeRegion x)
  if s.flag (lpeSearch x) || s.flag (lpeCoast x) then s
  else if r = 1 then (if e ≤ set then s.setRegion x 2 else s)
  else if r = 2 then
    let n := if e ≤ fol then l.fol + 1 else 0
    let s1 := s.setLa x { l with fol := n }
    if s.eff Fld.LPE_REGION_FOL_N ≤ n then
      let us := (s.now - l.settleAt) / 800
      (s1.sample (26 + x.idx) (binOf 32 0 20 us) us (s1.boundCtx x)).setRegion x 3
    else s1
  else if r = 3 then (if set < e then s.setRegion x 2 else s)
  else s

/-- BUSLIM forbids net regeneration (R407, R501, R505). -/
def State.regForbidden (s : State) : Bool := s.lpe.busForbid || s.flag Fld.PWR_STAT_OV1 || s.flag Fld.PWR_STAT_CHOPBLK

/-- The arbiter's limits of a VCM (R403). An OV3 limit is the power die's own (R506, R405). -/
def State.vcmLimits (s : State) (x : Act) (motor : Bool) (mv : Nat) : List (Nat × Nat) :=
  let ilim := s.eff (Fld.LPE_ILIM_ILIM x) * 8 * 32768 / 2000
  [(1, ilim), (2, s.tlim 32767)]
    ++ (if motor then [(3, s.plim (s.get Fld.PWR_BUDGET_SHVCM) 2000 mv)] else [(4, if s.regForbidden then 0 else s.lpe.buslim)])
    ++ (if s.flag Fld.PWR_STAT_OV3 then [(5, s.iretUnits)] else [])

/-- A demand is motoring (R403): its sign is the velocity's. -/
def motoring (demand : Int) (v : Rat) : Bool := (decide (0 < demand) && decide (0 < v)) || (decide (demand < 0) && decide (v < 0))

/-- A free signed 16-bit value. -/
def State.free16 (s : State) : Int × State := ((BitVec.ofNat 16 s.free.1.toNat).toInt, s.free.2)

/-- The integrator takes an error (R395, R405): while the winner is not 0 only one whose sign reduces the demand's magnitude, and
none under a local action. -/
def accumulate (integ err : Rat) (win : Nat) (demand : Int) : Rat :=
  if win = 5 then integ
  else if win = 0 then integ + err
  else if (decide (0 < demand) && decide (err < 0)) || (decide (demand < 0) && decide (0 < err)) then integ + err
  else integ

/-- A demand held to a signed 16-bit command (R387). -/
def clamp16 (v : Int) : Int := max (-32768) (min 32767 v)

/-- GAIN_STEP in PES units (R388): with GEN7 a signed 14-bit value in 1/1,024 of the pitch. -/
def State.gainStep (s : State) (x : Act) : Int :=
  let w := (s.coef x.idx 0x37C).toNat
  if s.flag Fld.SYS_COMPAT_GEN7 then sgn 14 w * 4 else sgn 16 w

/-- An entry of the gain table (R426). -/
def State.gainEntry (s : State) (x : Act) (i : Nat) : Rat := (wfield (s.coef x.idx (0x300 + i)) 0 16 : Nat) / 4096

/-- g(|e|) of an error in 1/256 of the reference pitch (R393); a GAIN_STEP that is not positive takes entry 63 (log 93). -/
def State.gain (s : State) (x : Act) (e : Rat) : Rat :=
  let step := s.gainStep x
  let q : Rat := e.abs * 16 / (step : Rat)
  let i := q.floor.toNat
  if step ≤ 0 ∨ 63 ≤ i then s.gainEntry x 63
  else s.gainEntry x i + (s.gainEntry x (i + 1) - s.gainEntry x i) * (q - (i : Rat))

/-- One notch in direct form II (R394): its output and its new state. -/
def biquad (c : Nat → Rat) (st : Rat × Rat) (u : Rat) : Rat × (Rat × Rat) :=
  let w := u - c 3 * st.1 - c 4 * st.2
  (c 0 * w + c 1 * st.1 + c 2 * st.2, (w, st.1))

/-- The notches of a mask in ascending order (R394): the first coefficient word, the first state and the number of them. -/
def State.notches (s : State) (x : Act) (base first n mask : Nat) (u : Rat) : Rat × State :=
  let r := (List.range n).foldl (fun (r : Rat × List (Nat × (Rat × Rat))) k =>
    if mask.testBit k then
      let (y, st) := biquad (fun j => fix24 (s.coef x.idx (base + 5 * k + j))) (mget (fun _ => (0, 0)) r.2 (first + k)) r.1
      (y, mset (fun _ => (0, 0)) r.2 (first + k) st)
    else r) (u, (s.la x).notch)
  (r.1, s.setLa x { s.la x with notch := r.2 })

/-- The VCM's law before its notches (R393, R411, R427): the derivative that KD multiplies is free (log 51). -/
def State.vcmLaw (s : State) (x : Act) (d : Int) : Rat :=
  let l := s.la x
  let e : Rat := (l.target : Rat) - l.p
  let g := if s.flag (lpeSafe x) || decide (s.get (lpeRegion x) ≤ 1) then 1 else s.gain x e
  s.vcmCoef x 0 * g * e + s.vcmCoef x 1 * l.integ + s.vcmCoef x 2 * (d : Rat)

/-- The seek profile (R396): in SEEK a free current demand held to PROFMAX x ILIM, and KFF x a free acceleration (log 51). -/
def State.seekProfile (s : State) (x : Act) (p acc : Int) : Rat :=
  if s.get (lpeRegion x) ≠ 1 then 0
  else
    let lim := max 0 (fix24 (s.coef x.idx (32 * (s.la x).band + 17)) * ((s.eff (Fld.LPE_ILIM_ILIM x) * 8 * 32768 / 2000 : Nat) : Rat))
    max (-lim) (min lim (p : Rat)) + s.vcmCoef x 7 * (acc : Rat)

/-- A rotational acceleration taken (R399): the difference of the two shock inputs. -/
def State.rvTake (s : State) (x : Act) (sh0 sh1 : Int) : State :=
  s.setLa x { s.la x with rv := ((sh0 - sh1) :: (s.la x).rv).take 8 }

/-- The rotational-vibration term (R398, R399). -/
def State.rvTerm (s : State) (x : Act) : Rat :=
  if s.flag Fld.LPE_CTL_FFRV then
    (List.range 8).foldl (fun a i => a + s.vcmCoef x (8 + i) * (((s.la x).rv.getD i 0 : Int) : Rat)) 0
  else 0

/-- What the templates of the seeks that a slot has announced add up to now (R400); one with DIR 1 is negated (R723). -/
def State.template (s : State) (slot : Nat) : Rat :=
  s.lpe.announced.foldl (fun (sum : Rat) e =>
    if e.1 ≠ slot then sum
    else match s.annSample e.2.2.1 with
      | some i =>
        let v := fix24 (s.coef 2 (0x200 + 32 * (e.2.1 % 4) + i))
        if e.2.2.2 then sum - v else sum + v
      | none => sum) 0

/-- The neighbour term (R398, R400, R411): COEF in 2^-12 x the template, over the enabled entries. -/
def State.neighbourTerm (s : State) (x : Act) : Rat :=
  if s.flag Fld.LPE_CTL_FFVALE && !s.flag (lpeSafe x) then
    (List.range 8).foldl (fun a k =>
      if s.flag (Fld.LPE_NCOEF_EN x k) then
        a + ((sgn 16 (s.get (Fld.LPE_NCOEF_COEF x k)) : Int) : Rat) / 4096 * s.template (s.get (Fld.LPE_NCOEF_SLOT x k))
      else a) 0
  else 0

/-- The VCM's demand (R393 to R400): the law through its notches plus the feed-forward terms. -/
def State.vcmDemand (s : State) (x : Act) : Int × State :=
  let (v, s1) := s.free
  let piece (k : Nat) : Int := sgn 16 (v.toNat / 2 ^ (16 * k))
  let (u, s2) := s1.notches x 0x340 0 12 ((s1.coef x.idx (s1.vcmRow x 16)).toNat % 2 ^ 12) (s1.vcmLaw x (piece 0))
  (clamp16 (u + s2.seekProfile x (piece 1) (piece 2) + s2.rvTerm x + s2.neighbourTerm x).floor, s2)

/-- The VCM's demand and output (R398, R403 to R406, R409). While the die-to-die link moves a lane to its spare, the output holds
(R38). A retract's or the safe state's own law is not stated; its demand stands for it (log 51). -/
def State.vcmOutput (s : State) (x : Act) (mv : Nat) : State :=
  if s.d2d.remapAcked then s
  else
    let (demand, s1) := s.vcmDemand x
    let l := s1.la x
    let ext := s1.flag (drvRet x) || s1.flag Fld.SYS_D2DSTAT_SAFE || l.ocPause
    let (win, out) := if ext then (5, demand) else arbiter demand (s1.vcmLimits x (motoring demand l.v) mv)
    let sat := win != 5 && (win != 0 || decide (32767 ≤ out.natAbs))
    let s2 := s1.setLa x { l with
      u := out, integ := accumulate l.integ ((l.target : Rat) - l.p) win demand,
      satSince := if sat then some (l.satSince.getD s1.now) else none }
    ((s2.put (Fld.LPE_ARB_WIN x) win).put (Fld.LPE_ARB_OUT x) (unsgn 16 out)).sample (84 + x.idx) win win (s2.boundCtx x)

/-- A head's PES enters its histogram (R733): 1/64 track from -0.25 track. -/
def State.pesSample (s : State) (x : Act) (head : Nat) (pes : Int) : State :=
  s.sample (12 * x.idx + head) (binOf 32 (-1024) 64 pes) pes (s.boundCtx x)

/-- A head without valid PES for COAST_MAX samples while the other has it has no target (R419). -/
def State.dropTarget (s : State) (x : Act) (second : Bool) : State :=
  let m := s.msq x
  let m1 := m.setPos second { m.pos second with target := none }
  s.setMsq x (if second then { m1 with cpos1 := { m1.cpos1 with target := none } } else { m1 with cpos0 := { m1.cpos0 with target := none } })

/-- The end of a search (R420): two consecutive valid marks no farther apart than the held velocity allows; the estimator takes the
measured position and the loop enters SETTLE. -/
def State.searchStep (s : State) (x : Act) (y : Option Rat) (t : Rat) : State :=
  let l := s.la x
  match y with
  | none => s.setLa x { l with h0 := { l.h0 with mark := none } }
  | some m =>
    match l.h0.mark with
    | some q =>
      if (m - (q : Rat)).abs ≤ (l.v * t).abs then
        let s1 := s.setLa x { l with p := m, blind := 0, h0 := { l.h0 with mark := none } }
        ((s1.putb (lpeSearch x) false).putb (lpeCoast x) false).setRegion x (if s1.loaded x then 2 else 0)
      else s.setLa x { l with h0 := { l.h0 with mark := some m.floor } }
    | none => s.setLa x { l with h0 := { l.h0 with mark := some m.floor } }

/-- A bound head's error in its histogram, when it is valid (R733). -/
def State.pesTake (s : State) (x : Act) (b : Option Nat) (ok : Bool) (pes : Int) : State :=
  match b, ok with
  | some k, true => s.pesSample x k pes
  | _, _ => s

/-- Coasting begins with a bound head's feedback lost, with its event and its Write Guard trip (R418), and ends with the feedback back. -/
def State.coastStep (s : State) (x : Act) (lost : Bool) : State :=
  if lost then
    let s1 := if s.flag (lpeCoast x) then s
      else (s.putb (lpeCoast x) true).raise (byAct x Fld.LPE_EV_COASTA Fld.LPE_EV_COASTB)
    if (s1.wrp x).holding &&& trgCoast != 0 then s1 else s1.wgTrip x trgCoast false
  else if s.flag (lpeCoast x) then (s.putb (lpeCoast x) false).setRegion x 2
  else s

/-- The feedback of the bound heads taken (R402, R416 to R420): counts, PES registers and histograms, coasting with its Write Guard
trip, and the PES trip of the wedge (R333). While LOADH moves the heads only the search counts (R159, log 94). -/
def State.feedback (s : State) (x : Act) (i0 i1 : HeadIn) (t : Rat) : State :=
  let m := s.msq x
  let l := s.la x
  let b0 := m.pos0.head
  let b1 := m.pos1.head
  let (f0, v0) := s.headFeed l.h0 i0
  let (f1, v1) := s.headFeed l.h1 i1
  let ok0 := b0.isSome && v0
  let ok1 := b1.isSome && v1
  let y (b : Option Nat) (ok : Bool) (h : HeadSt) (i : HeadIn) : Option Rat :=
    if ok then b.bind (fun k => s.headMeasure x k h i) else none
  let ym := match y b0 ok0 f0 i0, y b1 ok1 f1 i1 with
    | some a, some b => some ((a + b) / 2)
    | some a, none => some a
    | none, some b => some b
    | none, none => none
  let e0 := s.headCounts f0 ok0 i0.pes.toInt
  let e1 := s.headCounts f1 ok1 i1.pes.toInt
  let blind := if ok0 || ok1 then 0 else l.blind + 1
  let est := estimate (s.vcmCoef x 3) (s.vcmCoef x 4) (s.vcmCoef x 5) (s.vcmCoef x 6)
    { l with h0 := e0, h1 := e1, blind := blind } t (if s.flag (lpeSearch x) then none else ym)
  let s1 := s.setLa x est
  let s2 := (s1.put (Fld.LPE_PES_PES0 x) (if ok0 then i0.pes.toNat else 0x8000)).put (Fld.LPE_PES_PES1 x) (if ok1 then i1.pes.toNat else 0x8000)
  let s4 := (s2.pesTake x b0 ok0 i0.pes.toInt).pesTake x b1 ok1 i1.pes.toInt
  let lost := (b0.isSome && !v0) || (b1.isSome && !v1)
  let cm := s.eff Fld.LPE_SERVO_COAST_MAX
  let s5 := if s4.loaded x && b0.isSome && !v0 && ok1 && decide (cm ≤ e0.noPes) then s4.dropTarget x false else s4
  let s6 := if s4.loaded x && b1.isSome && !v1 && ok0 && decide (cm ≤ e1.noPes) then s5.dropTarget x true else s5
  if s6.flag (lpeSearch x) then s6.searchStep x ym t
  else if s6.loaded x then (s6.coastStep x lost).pesTrip x
  else s6

/-- A shock input against its threshold in 1/8 of it (R733): both in mV, a disabled input gives 0. -/
def State.shockLevel (s : State) (sh0 sh1 : Int) : Nat :=
  let one (v : Int) (thr : Nat) : Nat := if thr = 0 then 0 else v.natAbs / thr
  max (one sh0 (s.get Fld.WRPA_SHOCK_THR0)) (one sh1 (s.get Fld.WRPA_SHOCK_THR1))

/-- A sample shows a shock input beyond its threshold (R329, R332, R399): the trigger arrives, or the quiet time starts again. -/
def State.shockStep (s : State) (x : Act) (sh0 sh1 : Int) : State :=
  let beyond (v : Int) (thr : Nat) : Bool := thr != 0 && decide (8 * thr < v.natAbs)
  if !(beyond sh0 (s.get Fld.WRPA_SHOCK_THR0) || beyond sh1 (s.get Fld.WRPA_SHOCK_THR1)) then s
  else if s.wrpA.shockHold then { s with wrpA := { s.wrpA with shockAt := s.now } }
  else s.shockTrip x trgShock false

/-- A template of a slot's announced seeks is active (R401). -/
def State.seekLive (t : State) (slot : Nat) : Bool := t.lpe.announced.any (fun e => e.1 == slot && (t.annSample e.2.2.1).isSome)

/-- Learned couplings (R400, R401): while LMS is 1 and the actuator follows, the COEF of an enabled neighbour whose template is
active takes a new value; the scale of its inputs is not stated, so the value is free (log 51). -/
def State.learn (s : State) (x : Act) : State :=
  if !(s.flag Fld.LPE_CTL_LMS && s.flag Fld.LPE_CTL_FFVALE && s.get (lpeRegion x) == 3) then s
  else
    (List.range 8).foldl (fun t k =>
      let slot := t.get (Fld.LPE_NCOEF_SLOT x k)
      if t.flag (Fld.LPE_NCOEF_EN x k) && t.seekLive slot then
        t.free16.2.put (Fld.LPE_NCOEF_COEF x k) (unsgn 16 t.free16.1)
      else t) s

/-- Word i of a microactuator's row in a band (R426). -/
def State.uaCoef (s : State) (x : Act) (band i : Nat) : Rat := fix24 (s.coef x.idx (0x3A0 + 16 * band + i))

/-- The band that the thermal unit shows becomes the loops' (R392, R430). -/
def State.bandTake (s : State) (x : Act) : State :=
  let old := s.uaCoef x (s.la x).band 1
  let new := s.uaCoef x (s.get Fld.THM_STAT_BAND) 1
  let re (h : HeadSt) : HeadSt := { h with integ := rescale h.integ old new }
  let s1 := s.rowChange x (fun u => u.setLa x { u.la x with band := u.get Fld.THM_STAT_BAND })
  if (s.la x).band = s.get Fld.THM_STAT_BAND then s1
  else s1.setLa x { s1.la x with h0 := re (s1.la x).h0, h1 := re (s1.la x).h1 }

/-- The coefficients, band and deadline counts that a VCM sample takes (R410, R412, R429, R430). -/
def State.vcmTake (s : State) (x : Act) (normal : Bool) : State :=
  let s0 := s.rowChange x (fun u => u.swapAt x.idx)
  let s1 := if s0.gateIsOpen x then s0 else s0.bandTake x
  let l := s1.la x
  s1.setLa x { l with
    at_ := s.now, ovr := 0, late := false, safeOk := if s1.flag (lpeSafe x) && normal then l.safeOk + 1 else 0 }

/-- The estimator and the region of a VCM sample (R159, R389 to R391, R416 to R420): with no head loaded or loading the estimator runs
without a measurement. -/
def State.vcmFollow (s : State) (x : Act) (h0 h1 : HeadIn) (t : Rat) : State :=
  let s3 := if s.loaded x || (s.la x).loading then s.feedback x h0 h1 t
    else s.setLa x (estimate (s.vcmCoef x 3) (s.vcmCoef x 4) (s.vcmCoef x 5) (s.vcmCoef x 6) (s.la x) t none)
  if s3.loaded x then s3.rowChange x (fun u => u.regionStep x) else s3

/-- What a VCM sample shows: LPE_POS, the coil current, and the shock level of actuator A's samples (R388, R433, R733). -/
def State.vcmShow (s : State) (x : Act) (sh0 sh1 : Int) (iv : BitVec 16) : State :=
  let s6 := s.wr (Reg.LPE_POS x) (BitVec.ofInt 32 (s.la x).p.floor)
  let s7 := s6.put (byAct x Fld.DRV_IVCM_IA Fld.DRV_IVCM_IB) iv.toNat
  if x = .a then s7.sample 82 (binOf 16 0 1 (s7.shockLevel sh0 sh1)) (s7.shockLevel sh0 sh1) (s7.boundCtx x) else s7

/-- VCM_SAMPLE (R385 to R406, R416 to R421, R430): the two heads' marks, the shock inputs in mV from mid-supply, the measured
current, the bridge voltage in mV, and whether the normal law meets its deadline while SAFE is in use (R412). -/
def execVcmSample (x : Act) (h0 h1 : HeadIn) (sh0 sh1 : Int) (iv : BitVec 16) (mv : Nat) (normal : Bool) (s : State) : Out :=
  if !s.actOk x || s.flag (drvOff x) || s.lpe.held then .next s
  else
    let t : Rat := ((s.now - (s.la x).at_ : Nat) : Rat) / 800000000
    let s4 := (s.vcmTake x normal).vcmFollow x h0 h1 t
    .next (((((((((s4.rvTake x sh0 sh1).shockStep x sh0 sh1).vcmOutput x mv).learn x).vcmShow x sh0 sh1 iv).seekRelease x).advance x).syncMode))

/-! ### The microactuator, spindle, bus, laser and heater loops -/

/-- A following-error count (R407): a sample beyond FE_LIM adds one, another restarts it. -/
def feCount (n : Nat) (beyond : Bool) : Nat := if beyond then n + 1 else 0

/-- FE_LIM of a loop as it acts (R407, R433): 0 acts as 1, above its range as the upper bound. -/
def State.feLim (s : State) (f : Field) : Nat := max 1 (s.eff f)
def State.feTime (s : State) (f : Field) : Nat := max 1 (s.get f)

/-- A microactuator's command (R394, R397): its law, with a free derivative term (log 51), through its notches. -/
def State.uaDemand (s : State) (x : Act) (second : Bool) (err : Rat) : Int × State :=
  let (d, s1) := s.free16
  let band := (s1.la x).band
  let law := s1.uaCoef x band 0 * err + s1.uaCoef x band 1 * ((s1.la x).head second).integ + s1.uaCoef x band 2 * (d : Rat)
  let (u, s2) := s1.notches x 0x420 (16 * (1 + b2n second)) 4 ((s1.coef x.idx (0x3A0 + 16 * band + 3)).toNat % 2 ^ 4) law
  (clamp16 u.floor, s2)

/-- MICROACTUATOR_SAMPLE (R390, R397, R407, R419, R431): an output that is disabled, without boost or in following error is at 0 V; a
head without valid PES holds its output. -/
def execMicroactuatorSample (n : Chan) (s : State) : Out :=
  let x := actOf n
  let second := isSecond n
  let l := s.la x
  let h := l.head second
  if !s.actOk x || s.flag (drvOff x) || s.lpe.held || s.d2d.remapAcked || !s.loaded x then .next s
  else
    match ((s.msq x).pos second).head with
    | none => .next s
    | some k =>
      let pes := s.get (if second then Fld.LPE_PES_PES1 x else Fld.LPE_PES_PES0 x)
      let on := s.uaOn n
      let uaon := s.get Fld.DRV_STAT_UAON
      let mark (t : State) (b : Bool) : State := t.put Fld.DRV_STAT_UAON ((uaon &&& (15 - 2 ^ n.val)) + b2n b * 2 ^ n.val)
      if pes = 0x8000 then .next s
      else
        let track := (((s.msq x).pos second).target).getD 0
        let err := -(s.pesUnits x k track (sgn 16 pes)) - ((l.target : Rat) - l.p)
        let fe := feCount h.fe (decide ((s.feLim Fld.LPE_FEUA_FE_LIM : Nat) < err.abs.floor.toNat))
        if on then
          let (v, s1) := s.uaDemand x second err
          .next (mark (s1.setLa x ((s1.la x).setHead second { h with ua := v, fe := fe, integ := h.integ + err })) true)
        else .next (mark (s.setLa x (l.setHead second { h with ua := 0, fe := fe })) false)

/-- SPDCMD as the pin source reads it (R451): pin values in mV, or high time and period in ns, or Hz; the fraction x in 1/4,096 and
the target in rpm; none when the input is out of its accepted range. -/
def State.pinTarget (s : State) (a b : Nat) : Option (Nat × Nat) :=
  let src := s.get Fld.SPN_CMDSRC_SRC
  let fs := s.eff Fld.SPN_CMDSRC_PINFS
  if src = 1 then (if a ≤ 2500 then some (min 4095 (a * 4096 / 2500), clampN 3600 10000 (a * fs / 2500)) else none)
  else if src = 2 then
    (if 10000 ≤ b ∧ b ≤ 1000000 ∧ a ≤ b then some (min 4095 (a * 4096 / b), clampN 3600 10000 (a * fs / b)) else none)
  else (if 10 ≤ a ∧ a ≤ 100000 then some (0, clampN 3600 10000 (a * 60 / max 1 (s.get Fld.SPN_CMDSRC_FPR))) else none)

/-- The pin's measurement taken (R451 to R453): a fraction below 1/64 stops the spindle, and its return starts it. -/
def State.pinStep (s : State) (a b : Nat) : State :=
  if s.get Fld.SPN_CMDSRC_SRC = 0 then { s with spn := { s.spn with pinStop := false } }
  else
    match s.pinTarget a b with
    | none => s
    | some (x, t) =>
      let s1 := ((s.putb Fld.SPN_PIN_VALID true).put Fld.SPN_PIN_RAW x).put Fld.SPN_PIN_TGT t
      if s.get Fld.SPN_CMDSRC_SRC = 3 then { s1 with spn := { s1.spn with pinStop := false } }
      else if x < 64 then { s1 with spn := { s1.spn with pinStop := true } }
      else if s1.spn.pinStop then
        let s2 := { s1 with spn := { s1.spn with pinStop := false } }
        if s2.flag Fld.SPN_CTL_RUN then s2.startDecision false else s2
      else s1

/-- The speed target (R448, R451, R452, R455, R465, R490): capped while LOWV reads 1 and no head is loaded; while stopping the last one as
long as a head is loaded, then 0. -/
def State.speedTarget (s : State) : Nat × Bool :=
  if !s.flag Fld.SPN_CTL_RUN || s.spn.pinStop then (if s.loaded .a || s.loaded .b then (s.spn.target, false) else (0, false))
  else
    let t := if s.get Fld.SPN_CMDSRC_SRC = 0 then s.eff Fld.SPN_TARGET_RPM
      else clampN 3600 10000 (s.get Fld.SPN_PIN_TGT)
    if s.flag Fld.PWR_STAT_LOWV && !s.loaded .a && !s.loaded .b then (min t (s.eff Fld.SPN_LOWV_RPM), true) else (t, false)

/-- The ramped target after dt ticks (R449). -/
def State.rampStep (s : State) (from_ : Rat) (target dt : Nat) : Rat :=
  let tgt : Rat := (target : Rat)
  let step (rate : Nat) : Rat := ((rate * 10 * dt : Nat) : Rat) / 800000000
  if from_ < tgt then
    let r := s.get Fld.SPN_RAMP_ACC
    if r = 0 then tgt else min tgt (from_ + step r)
  else
    let r := s.get Fld.SPN_RAMP_DEC
    if r = 0 then tgt else max tgt (from_ - step r)

/-- INREG cleared (R454). -/
def State.inregClear (s : State) : State := { s.putb Fld.SPN_STAT_INREG false with spn := { s.spn with inreg := 0 } }

/-- INREG at a sample (R454, R718): 64 consecutive samples within TOL of the target set it, and a spin-up token is returned; one
beyond 4 x TOL clears it. -/
def State.inregStep (s : State) : State :=
  let v : Rat := (s.speed4 : Rat) / 4
  let d := (v - s.spn.ramped).abs * 10000
  let tol : Rat := (s.eff Fld.SPN_TARGET_TOL : Nat)
  if d ≤ tol * s.spn.ramped ∧ s.spn.ramped = (s.spn.target : Rat) ∧ 0 < s.spn.target then
    let n := s.spn.inreg + 1
    let s1 : State := { s with spn := { s.spn with inreg := n } }
    if 64 ≤ n ∧ s.flag Fld.SPN_STAT_INREG = false then
      let s2 := ((s1.putb Fld.SPN_STAT_INREG true).raise Fld.SPN_EV_INREG).dropToken
      { s2 with sys := { s2.sys with inregSince := true } }
    else s1
  else if 4 * tol * s.spn.ramped < d then s.inregClear
  else { s with spn := { s.spn with inreg := 0 } }

/-- Word i of the spindle's row (R426). -/
def State.spnCoef (s : State) (i : Nat) : Rat := fix24 (s.coef 2 (16 * s.lpe.sBand + i))

/-- The band that the thermal unit shows becomes the spindle loop's (R392, R430). -/
def State.spnBand (s : State) : State :=
  let s1 : State := { s with lpe := { s.lpe with sBand := s.get Fld.THM_STAT_BAND } }
  if s.lpe.sBand = s.get Fld.THM_STAT_BAND then s
  else { s1 with lpe := { s1.lpe with sInteg := rescale s.lpe.sInteg (s.spnCoef 1) (s1.spnCoef 1) } }

/-- The speed loop's demand (R100, R426): the KFF term is free (log 51); ANG_REFERR steers it while the reference is held. In RETRACT
rectification stays within the deceleration of R107 (R496). -/
def State.spnDemand (s : State) : Int × State :=
  let (f, s1) := s.free16
  let err : Rat := s1.spn.ramped - (s1.speed4 : Rat) / 4
  let ref : Int := if s1.flag Fld.ANG_STAT_CANLOCK then (s1.rd Reg.ANG_REFERR).toInt else 0
  let v := clamp16 (s1.spnCoef 0 * err + s1.spnCoef 1 * s1.lpe.sInteg + s1.spnCoef 2 * (f : Rat) + s1.spnCoef 3 * (ref : Rat)).floor
  let lim : Int := (Config.rectLimit s1.speed4 : Nat)
  (if s1.spnState = spnRect ∧ s1.sys.retract = true then max (-lim) (min lim v) else v, s1)

/-- The low-side window of a driving sample (R438 to R440): the largest phase duty is free (log 95), and the sample is counted when it
leaves less than T_MINWIN, at the duty bound of Level 2. -/
def State.windowStep (s : State) : State :=
  let (v, s1) := s.free
  let room := 100000 - s.eff Fld.SPN_MOTOR_T_MINWIN * s.eff Fld.SPN_MOTOR_PWMF
  if v.toNat % 65536 * 100000 ≤ room * 65536 then s1
  else s1.bump (if s.flag Fld.SPN_STAT_LEVEL then Fld.SPN_CNT_VLIM else Fld.SPN_CNT_NARROW) 1

/-- SPN applies the arbiter's output as the torque current (R441, R462): in the inductive stepping of a start no more than ISTART, none
while Ke is measured or the bridge is short-braked or open. -/
def State.applyTorque (s : State) (out : Int) : State :=
  let lim : Int := (s.eff Fld.SPN_START_ISTART * 12 * 32768 / 3000 : Nat)
  let v := if s.spn.ke ≠ 0 ∨ s.spn.ov2 = true ∨ s.spn.ocPause = true then 0
    else if s.spnState = spnStep then max (-lim) (min lim out)
    else out
  { s with spn := { s.spn with torque := v } }

/-- The spindle's demand and output (R403 to R406, R409, R462). A lane's move to the spare holds the output (R38). -/
def State.spnOutput (s : State) (mv : Nat) : State :=
  let local_ := s.spnState == spnRect || s.spn.ov2 || s.spn.ocPause
  if s.d2d.remapAcked then s
  else if !local_ && !spnDrives s.spnState then
    (({ (s.put Fld.LPE_ARBS_WIN 0).put Fld.LPE_ARBS_OUT 0 with lpe := { s.lpe with sSatSince := none } }).applyTorque 0).sample 86 0 0 0x400
  else
    let (demand, s1) := s.spnDemand
    let v : Rat := if s1.flag Fld.SPN_STAT_DIR then -1 else 1
    let mot := motoring demand v && decide (0 < s1.speed4)
    let lims := [(1, s1.eff Fld.LPE_SILIM_ILIM * 16 * 32768 / 3000), (2, s1.tlim 32767)]
      ++ (if mot then [(3, s1.plim (s1.get Fld.PWR_BUDGET_SHSPN) 3000 mv)] else [(4, if s1.regForbidden then 0 else s1.lpe.buslim)])
    let (win, out) := if local_ then (5, demand) else arbiter demand lims
    let sat := win != 5 && s1.flag Fld.SPN_STAT_INREG && (win != 0 || decide (32767 ≤ out.natAbs))
    let err : Rat := s1.spn.ramped - (s1.speed4 : Rat) / 4
    let s2 : State := { s1 with lpe := { s1.lpe with
      sInteg := if s1.spn.ke ≠ 0 then s1.lpe.sInteg else accumulate s1.lpe.sInteg err win demand,
      sSatSince := if sat then some (s1.lpe.sSatSince.getD s1.now) else none } }
    let s3 := (((s2.put Fld.LPE_ARBS_WIN win).put Fld.LPE_ARBS_OUT (unsgn 16 out)).applyTorque out).sample 86 win win 0x400
    if local_ then s3 else s3.windowStep

/-- SPINDLE_SAMPLE (R385, R437, R449 to R455, R490): `pinA` and `pinB` measure SPDCMD as its mode reads it; `mv`, the bridge
voltage. -/
def execSpindleSample (pinA pinB mv : Nat) (s : State) : Out :=
  if s.lpe.held then .next s
  else
    let s1 := ((s.swapAt 2).spnBand).pinStep pinA pinB
    let (t, cap) := s1.speedTarget
    let s2 := s1.putb Fld.SPN_STAT_LOWV cap
    let s3 := if t = s2.spn.target then s2 else ({ s2 with spn := { s2.spn with target := t } }).inregClear
    let k := s3.spnState
    let dt := s.now - s.spn.sampleAt
    let ramped := if k = spnL1 ∨ k = spnL2 ∨ k = spnDecel then s3.rampStep s3.spn.ramped t dt else s3.spn.ramped
    let s4 : State := { s3 with spn := { s3.spn with ramped := ramped, sampleAt := s.now } }
    let s5 := s4.inregStep
    let s6 := s5.levelCheck s5.speed4 false
    .next (s6.spnOutput mv).syncMode

/-- The target of the bus loop in mV (R39, R492, R500): VBUS in RETRACT, 10.0 V in the safe state, BUSMAX otherwise. -/
def State.busTarget (s : State) : Nat :=
  if s.sys.retract then s.vbus * 10
  else if s.flag Fld.SYS_D2DSTAT_SAFE then 10000
  else s.eff Fld.PWR_BUS_BUSMAX * 100

/-- BUS_VOLTAGE_SAMPLE (R385, R407, R496, R500): BUSLIM is a free value (log 51), in RETRACT within R107's deceleration. Outside RETRACT and the safe state the loop only keeps
the bus from rising above its target, so a bus below it has no error (log 52). -/
def execBusVoltageSample (mv : Nat) (s : State) : Out :=
  if s.lpe.held || s.d2d.remapAcked then .next s
  else
    let tgt := s.busTarget
    let both := s.sys.retract || s.flag Fld.SYS_D2DSTAT_SAFE
    let err := if mv ≤ tgt then (if both then tgt - mv else 0) else mv - tgt
    let beyond := decide (50 * s.feLim Fld.LPE_FEBUS_FE_LIM < err)
    let (v, s1) := s.free
    let ok := if beyond then none else some (s.lpe.busOkSince.getD s.now)
    let free_ := match ok with
      | some a => decide (a + 800000 ≤ s.now)
      | none => false
    .next { s1 with lpe := { s1.lpe with
      buslim := if s.sys.retract then min (v.toNat % 32768) (Config.rectLimit s.speed4) else v.toNat % 32768, feBus := feCount s.lpe.feBus beyond, busOkSince := ok,
      busForbid := s.lpe.busForbid && !free_ } }

/-- LASER_POWER_SAMPLE (R385, R319, R320, R407): a monitor reading of an open laser gate in mode 1; the law's result is a free
value, never above LIMAX. While the loop's bit of LPE_FESTAT is 1 its integrator holds, and the current with it. -/
def execLaserPowerSample (n : Chan) (reading : Nat) (s : State) : Out :=
  let x := actOf n
  let second := isSecond n
  let w := s.wrp x
  if s.get (Fld.WRP_CFG_AMODE x) ≠ 1 ∨ s.lgOpen x second = false ∨ s.lpe.held = true ∨ s.d2d.remapAcked = true then .next s
  else
    match ((s.msq x).pos second).head with
    | none => .next s
    | some h =>
      let sp := s.laserSetp x second
      let beyond := decide (s.feLim Fld.LPE_FELAS_FE_LIM < max sp reading - min sp reading)
      let s0 : State := { s with lpe := { s.lpe with
        feLas := mset (fun _ => 0) s.lpe.feLas n.val (feCount (mget (fun _ => 0) s.lpe.feLas n.val) beyond) } }
      if (s.get Fld.LPE_FESTAT_LAS).testBit n.val then .next s0
      else
        let (v, s1) := s0.free
        let lim := if s.ptOk x h then wfield (s.ptWord x h 1) 16 12 else 0
        .next (s1.setWrp x (w.setLas second { w.las second with cmd := min (v.toNat % 4096) lim }))

/-- HEATER_SAMPLE (R385, R407, R733): the power that the preamplifier reports. -/
def execHeaterSample (n : Chan) (reported : Nat) (s : State) : Out :=
  let x := actOf n
  let second := isSecond n
  let p := (s.msq x).pos second
  match p.head with
  | none => .next s
  | some h =>
    if s.lpe.held || !s.actOk x then .next s
    else
      let tgt := if second then (s.wrp x).htr1 else (s.wrp x).htr0
      let beyond := decide (s.feLim Fld.LPE_FEHTR_FE_LIM < max tgt reported - min tgt reported)
      let s1 : State := { s with lpe := { s.lpe with
        feHtr := mset (fun _ => 0) s.lpe.feHtr n.val (feCount (mget (fun _ => 0) s.lpe.feHtr n.val) beyond) } }
      .next (if p.heat = 0 then s1 else s1.stageContrib n (.hist (56 + 12 * x.idx + h) (reported : Nat)))

/-! ### Supervisors -/

/-- SEARCH_START (R420): no bound head has had valid PES for COAST_MAX samples. -/
def execSearchStart (x : Act) (s : State) : Out :=
  let l := s.la x
  if !(s.loaded x || l.loading) || s.flag (lpeSearch x) || decide (l.blind < s.eff Fld.LPE_SERVO_COAST_MAX) then .next s
  else .next (((s.setLa x { l with searchRev := s.rev, h0 := { l.h0 with mark := none } }).putb (lpeSearch x) true)).syncMode

/-- A LOADH that executes ends with MSQx_ERR_STATE (R159). -/
def State.loadFail (s : State) (x : Act) : State :=
  match (s.msq x).work.find? (fun w => w.kind == .loadh && w.begun && !w.done) with
  | some w => s.progError x w.pc errState
  | none => s

/-- SEARCH_EXPIRY (R420, R159): the search has lasted SEARCH_REV revolutions: LPE_FLT_RETx, reason 1, retract; the actuator then
enters PARKED. -/
def execSearchExpiry (x : Act) (s : State) : Out :=
  if !s.flag (lpeSearch x) || decide (s.rev < (s.la x).searchRev + s.eff Fld.LPE_SERVO_SEARCH_REV) then .next s
  else
    let s1 := (((s.raise (byAct x Fld.LPE_FLT_RETA Fld.LPE_FLT_RETB)).retReason x 1).retract x)
    .next (if (s.la x).loading then s1.loadFail x else s1).syncMode

/-- FOLLOWING_ERROR (R407): loop 0 to 3 a microactuator, 4 to 7 a laser, 8 to 11 a heater, 12 the bus; its count has reached
FE_TIME. -/
def execFollowingError (loop : Nat) (s : State) : Out :=
  let set (t : State) : State := (t.wr Reg.LPE_FESTAT (t.rd Reg.LPE_FESTAT ||| BitVec.ofNat 32 (2 ^ loop))).raise Fld.LPE_FLT_FE
  let n : Chan := ⟨loop % 4, by omega⟩
  let x := actOf n
  let second := isSecond n
  let l := s.la x
  let h := l.head second
  if loop < 4 then
    if h.fe < s.feTime Fld.LPE_FEUA_FE_TIME then .next s
    else .next (((set s).setLa x (l.setHead second { h with ua := 0 })).put Fld.DRV_STAT_UAON
      (s.get Fld.DRV_STAT_UAON &&& (15 - 2 ^ n.val)))
  else if loop < 8 then
    if mget (fun _ => 0) s.lpe.feLas n.val < s.feTime Fld.LPE_FELAS_FE_TIME then .next s else .next (set s)
  else if loop < 12 then
    if mget (fun _ => 0) s.lpe.feHtr n.val < s.feTime Fld.LPE_FEHTR_FE_TIME then .next s
    else
      let m := s.msq x
      .next (((set s).setMsq x (m.setPos second { m.pos second with heat := 0, hpow := none })).setHeaters x)
  else if loop = 12 then
    if s.lpe.feBus < s.feTime Fld.LPE_FEBUS_FE_TIME then .next s
    else .next { set s with lpe := { s.lpe with busForbid := true, busOkSince := none } }
  else .next s

/-- OUTPUT_SATURATION (R409): loop 0 or 1 a VCM, which retracts and enters FAULT; 2 the spindle, which keeps running. -/
def execOutputSaturation (loop : Nat) (s : State) : Out :=
  if loop < 2 then
    let x : Act := if loop = 0 then .a else .b
    match (s.la x).satSince with
    | none => .next s
    | some a =>
      if s.now < a + s.eff Fld.LPE_SAT_VSAT_TIME * 80000 then .next s
      else
        let s1 := ((s.raise (byAct x Fld.LPE_FLT_VSATA Fld.LPE_FLT_VSATB)).retReason x 3).retract x
        .next ((s1.setLa x { s1.la x with satSince := none }).enterFault x).syncMode
  else
    match s.lpe.sSatSince with
    | none => .next s
    | some a =>
      if s.now < a + s.eff Fld.LPE_SAT_SSAT_TIME * 80000000 then .next s
      else .next ({ s.raise Fld.LPE_FLT_SSAT with lpe := { s.lpe with sSatSince := none } })

/-- The safe law takes over (R411). -/
def State.safeLaw (s : State) (x : Act) : State :=
  if s.flag (lpeSafe x) then s
  else (s.rowChange x (fun u => u.putb (lpeSafe x) true)).raise (byAct x Fld.LPE_EV_SAFEA Fld.LPE_EV_SAFEB)

/-- The eighth overrun of a revolution (R413): the fault, a retract, and FAULT. -/
def State.overrunFault (s : State) (x : Act) : State :=
  (((s.raise (byAct x Fld.LPE_FLT_OVRA Fld.LPE_FLT_OVRB)).retReason x 2).retract x).enterFault x

/-- LOOP_OVERRUN (R410 to R415): loop 0 or 1 a VCM or microactuator loop, which holds the outputs, inhibits writing and counts; two in
succession select the SAFE law, eight in a revolution FAULT; another loop only counts. -/
def execLoopOverrun (loop : Nat) (s : State) : Out :=
  if loop < 2 then
    let x : Act := if loop = 0 then .a else .b
    if !s.actOk x then .next s
    else
      let l := s.la x
      let n := if l.ovrRevNo = s.rev then l.ovrRev + 1 else 1
      let s1 := (s.setLa x { l with ovr := l.ovr + 1, late := true, ovrRev := n, ovrRevNo := s.rev, safeOk := 0 }).bump
        (byAct x Fld.LPE_OVR_OVR_CNTA Fld.LPE_OVR_OVR_CNTB) 1
      let s2 := s1.wgTrip x trgLoop false
      let s3 := if l.ovr = 1 then s2.safeLaw x else s2
      .next (if n = 8 then s3.overrunFault x else s3).syncMode
  else .next (s.bump Fld.LPE_OVR_OTHER 1)

/-- SAFE_LAW_EXIT (R412): 64 samples in which the normal law met its deadline. -/
def execSafeLawExit (x : Act) (s : State) : Out :=
  if s.flag (lpeSafe x) && decide (64 ≤ (s.la x).safeOk) then
    .next ((s.rowChange x (fun u => u.putb (lpeSafe x) false)).setLa x { (s.rowChange x (fun u => u.putb (lpeSafe x) false)).la x with safeOk := 0 })
  else .next s

/-- LPE_COPY_MISMATCH (R52, R54, R55, R414, R423): the result is not applied, a copy is retired: the checker when only its residue
check fails, otherwise the primary. For an actuator's loop its wedge is write-inhibited, for a shared loop that of both actuators, which
does not count at track level. COPY names the physical copy that runs: after READMIT it keeps its value, and the next takeover toggles it
(DESIGN CHOICE, log 91). -/
def execLpeCopyMismatch (loop : Nat) (checkerBad : Bool) (s : State) : Out :=
  if !s.flag Fld.LPE_STAT_DUPLEX then .next s
  else
    let cur := s.flag Fld.LPE_STAT_COPY
    let s1 := (((s.putb Fld.LPE_STAT_DUPLEX false).putb Fld.LPE_STAT_COPY (if checkerBad then cur else !cur)).bump
      Fld.LPE_DUP_MISMATCH 1).raise Fld.LPE_EV_TAKEOVER
    if loop < 2 then
      let x : Act := if loop = 0 then .a else .b
      .next ((s1.setLa x { s1.la x with late := true }).wgTripC x trgLoop false false).syncMode
    else .next ((s1.wgTripC .a trgLoop false false).wgTripC .b trgLoop false false).syncMode

/-- SIMPLEX_RESIDUE_FAILURE (R424). -/
def execSimplexResidueFailure (s : State) : Out :=
  if s.flag Fld.LPE_STAT_DUPLEX then .next s
  else
    let s1 : State := { s with lpe := { s.lpe with held := true } }
    let s2 := (s1.wgTripBoth trgLoop).safeEnter
    .next (((s2.raise Fld.LPE_FLT_SIMPLEX).retReason .a 4).retReason .b 4).syncMode

/-- A write of 1 to LPE_CTL.READMIT (R425): with no copy retired there is nothing to test. -/
def State.readmit (s : State) : State :=
  if s.flag Fld.LPE_STAT_DUPLEX then s else { (s.putb Fld.LPE_CTL_READMIT true).put Fld.LPE_DUP_RDM 1 with lpe := { s.lpe with readmitAt := s.now } }

/-- READMIT (R425). -/
def execReadmit (s : State) : Out := .next s.readmit

/-- READMIT_TEST_DONE (R425): the self-test takes 200 us. -/
def execReadmitTestDone (pass : Bool) (s : State) : Out :=
  if !s.flag Fld.LPE_CTL_READMIT || decide (s.now < s.lpe.readmitAt + 160000) then .next s
  else
    let s1 := s.putb Fld.LPE_CTL_READMIT false
    .next (if pass then ((s1.put Fld.LPE_DUP_RDM 2).putb Fld.LPE_STAT_DUPLEX true).raise Fld.LPE_EV_READMIT
      else s1.put Fld.LPE_DUP_RDM 3)

/-! ### Drivers -/

/-- RETRACT_DONE (R422, R494, R521, R228): the actuator counts as parked; what waited for it goes on. -/
def execRetractDone (x : Act) (s : State) : Out :=
  if !s.flag (drvRet x) then .next s
  else
    let s1 := (s.putb (drvRet x) false).raise (byAct x Fld.DRV_EV_RETDONEA Fld.DRV_EV_RETDONEB)
    let rst := match x with
      | .a => s1.sys.actRstA
      | .b => s1.sys.actRstB
    let s2 := if rst then
        let t := s1.raise Fld.SYS_EV_ACT
        match x with
        | .a => { t with sys := { t.sys with actRstA := false } }
        | .b => { t with sys := { t.sys with actRstB := false } }
      else s1
    .next ((s2.brakeCheck false).coolCheck).syncMode

/-- VCM_OVERCURRENT (R432): the bridge pauses for 10 us; a second within 1 ms switches it off, with DRV_FLT_OCx and FAULT. -/
def execVcmOvercurrent (x : Act) (s : State) : Out :=
  let l := s.la x
  if !s.actOk x || s.flag (drvOff x) then .next s
  else
    let again := match l.ocAt with
      | some a => decide (s.now < a + 800000)
      | none => false
    if again then .next (((s.bridgeDown x).raise Fld.DRV_FLT_OC).enterFault x).syncMode
    else .next (s.setLa x { l with ocAt := some s.now, ocPause := true })

/-- VCM_OC_PAUSE_END (R432): the pause of 10 us ends and DRV starts the retract of R422. -/
def execVcmOcPauseEnd (x : Act) (s : State) : Out :=
  let since := ((s.la x).ocAt).getD 0
  if !(s.la x).ocPause || decide (s.now < since + 8000) then .next s
  else .next ((s.setLa x { s.la x with ocPause := false }).retract x).syncMode

/-- VCM_OPEN_COIL (R432). -/
def execVcmOpenCoil (x : Act) (s : State) : Out :=
  if !s.actOk x || s.flag (drvOff x) then .next s
  else .next (((s.bridgeDown x).raise (byAct x Fld.DRV_FLT_OPENA Fld.DRV_FLT_OPENB)).enterFault x).syncMode

/-- UACT_OVERCURRENT (R432): output k goes to 0 V. -/
def execUactOvercurrent (k : Nat) (s : State) : Out :=
  let n : Chan := ⟨k % 4, by omega⟩
  let x := actOf n
  let l := s.la x
  let s1 := s.setLa x (l.setHead (isSecond n) { l.head (isSecond n) with ua := 0 })
  if !s.actOk x then .next s else .next ((s1.put Fld.DRV_STAT_UAON (s1.get Fld.DRV_STAT_UAON &&& (15 - 2 ^ n.val))).raise Fld.DRV_FLT_UAOC)

/-- BOOST_OUT_OF_REGULATION (R434). -/
def execBoostOutOfRegulation (s : State) : Out := .next ((s.putb Fld.DRV_STAT_BOOSTOK false).raise Fld.DRV_FLT_BOOST)

end Sys2Proof.Machine
end

