-- ==== Sys2Proof/Machine/Sector.lean ====
section
/-!
DEFINITION. The media sector as WRPx builds it and a channel reads it (R266 to R268, R272 to R276, R310, R311), and the tweak of the
XTS lanes (R593).
-/
namespace Sys2Proof.Machine

/-- The bits of bytes as they go to the media, bit 0 of each first (log 92). -/
def byteBits (l : List Byte) : List Bool := l.flatMap (fun b => (List.range 8).map b.getLsbD)

/-- The 8 bytes of a media tag (R273): LBA in bits [34:0], generation in [63:48], 0 elsewhere; least significant byte first. -/
def tagWord (lba gen : Nat) : Nat := lba % 2 ^ 35 + gen % 2 ^ 16 * 2 ^ 48

/-- The payload of a sector (R272, R273, R274, R542): user data, protection information, tag and the CRC-32 over them, complemented
for a sector whose data was uncorrectable. -/
def sectorPayload (data : List Byte) (lba gen : Nat) (bad : Bool) : List Byte :=
  let body := data ++ leBytes 8 (tagWord lba gen)
  let c := crc32 body
  body ++ leBytes 4 (if bad then ~~~c else c).toNat

/-- The scrambler of x^15 + x^14 + 1 (R310): each bit of the sequence is the sum of those 14 and 15 before it. The last 15 bits of the
sequence stand newest first. -/
def scrambleGo : List Bool → List Bool → List Bool
  | _, [] => []
  | reg, b :: t =>
    let k := reg.getD 13 false ^^ reg.getD 14 false
    (b ^^ k) :: scrambleGo ((k :: reg).take 15) t

/-- Bits scrambled, or unscrambled, with the seed of an LBA (R310): its bits [13:0], the highest first, and then a 1. -/
def scramble (lba : Nat) (l : List Bool) : List Bool := scrambleGo (true :: (List.range 14).map lba.testBit) l

/-- A 2T pattern (R272): two bit cells of each level in turn. -/
def twoT (n : Nat) : List Bool := (List.range n).map (fun i => decide (i % 4 < 2))

/-- The parity bits of a RATE (R275). -/
def parityBits (rate : Nat) : Nat := if rate = 0 then 6144 else if rate = 1 then 5120 else if rate = 2 then 4096 else 3072

/-- The information block (R275): 33,280 bits, the payload in its first ones. -/
def infoBlock (l : List Bool) : List Bool := l ++ List.replicate (33280 - l.length) false

/-- A media sector in the order in which it passes the head (R272, R275, R276, R310). -/
def ChSet.media (c : ChSet) (data : List Byte) (lba gen : Nat) (bad : Bool) : List Bool :=
  let pay := scramble lba (byteBits (sectorPayload data lba gen bad))
  let rate := wfield c.cfg 26 2
  twoT (max 64 (wfield c.sync 16 10)) ++ (List.range 32).map (fun i => c.smpat.getLsbD (31 - i)) ++ pay
    ++ (List.range (parityBits rate)).map (Config.ldpcParity rate (infoBlock pay)) ++ twoT 16

/-- Write precompensation (R311): each transition earlier by PCk / 128 bit, k by the transitions in the nearer and the farther of the two
bit cells before it. `w` is word 5 of the head's parameters (R326). -/
def precomp (w : Word) : Bool → Bool → Bool → List Bool → List (Bool × Nat)
  | _, _, _, [] => []
  | level, near, far, b :: t =>
    let here := level != b
    (b, if here then wfield w (6 * (b2n near + 2 * b2n far)) 6 else 0) :: precomp w b here near t

/-- The readers whose outputs a channel sums, and its tap bank (R268, R300): ATIC detects on reader 0 and bank 0. -/
def ChSet.readers (c : ChSet) : List Nat :=
  if c.recc.getLsbD 24 && c.recc.getLsbD 10 then [0]
  else if wfield c.cfg 24 2 = 1 then [0] else if wfield c.cfg 24 2 = 2 then [1] else [0, 1]
def ChSet.bank (c : ChSet) : Nat :=
  if c.recc.getLsbD 24 && c.recc.getLsbD 10 then 0 else if wfield c.cfg 24 2 = 3 then 1 else 0

/-- The partial-response target (R267): TLEN taps in 1/8. -/
def ChSet.targetTaps (c : ChSet) : List Int :=
  (List.range (3 + min 2 (wfield c.target 30 2))).map (fun k => sgn 6 (wfield c.target (6 * k) 6))

/-- The FIR taps of a reader in the active bank (R266, CHn_EQADDR). -/
def ChSet.fir (c : ChSet) (reader : Nat) : List Word :=
  (List.range 32).map (fun k => mget (fun _ => (0 : Word)) c.taps (c.bank * 64 + reader * 32 + k))

/-- The tweak of a sector (R593): the LBA in [34:0], the namespace or logical unit index in bit 40. -/
def xtsTweak (lba unit : Nat) : BitVec 128 := BitVec.ofNat 128 (lba % 2 ^ 35 + unit % 2 * 2 ^ 40)

/-- n bytes through a lane (R592, R593): the keys of a key slot, the tweak of the sector. -/
def xtsBytes (enc : Bool) (key : BitVec 512) (tweak : BitVec 128) (l : List Byte) : List Byte :=
  (List.range l.length).map (Config.xtsCrypt enc key tweak l)

end Sys2Proof.Machine
end

