-- ==== Sys2Proof/Machine/Media.lean ====
section
/-!
DEFINITION. The commands of the read channel (R266 to R307) and of the XTS lanes (R592 to R596): sync search, decode,
re-detection, freezes, failure records, equaliser taps.
-/
namespace Sys2Proof.Machine

/-- Recovery options apply (R300). -/
def recOn (recc : Word) : Bool := recc.getLsbD 24

/-- The averaging passes of R301: 2 to 8, none below. -/
def avgPasses (recc : Word) : Nat := if recOn recc && decide (2 ≤ wfield recc 16 4) then min 8 (wfield recc 16 4) else 0

/-- Full-precision decoding (R302). -/
def slowDec (recc : Word) : Bool := recOn recc && recc.getLsbD 9

/-- The limit of global iterations (R270, R300): ITER_OTF, or ITER_REC with EN. -/
def iterLimit (cfg recc : Word) : Nat :=
  if recOn recc then clampN 1 80 (wfield recc 25 7) else clampN 1 12 (wfield cfg 20 4)

/-- The item of `mediaOn`: the last begun, uncompleted media item of the channel. -/
def updLast (p : Work → Bool) (f : Work → Work) (l : List Work) : List Work := (updFirst p f l.reverse).reverse

/-- The channel's search goes on with the next unsuppressed place of the run. -/
def State.nextSearch (s : State) (n : Chan) (r : MediaRun) : State :=
  s.setCh n { s.ch n with place := r.nextPlace (isSecond n) ((s.ch n).place + 1) }

/-- The sample ring takes a sector behind the one before it, with the loop state at its sync position (R282); the spans of the last
eight sectors stand for everything the ring can hold (R283). -/
def State.ringTake (s : State) (n : Chan) (sec : Sec) : State :=
  let c := s.ch n
  let start := match c.ring.getLast? with
    | some p => p.start + p.len
    | none => 0
  let sp : Span := {
    item := sec.item, place := sec.place, start := start, len := sec.set.span,
    agc := s.rd (Reg.CH_AGC n), tloop := s.rd (Reg.CH_TLOOP n) }
  s.setCh n { c with ring := c.ring.drop (c.ring.length - 7) ++ [sp] }

/-- A candidate is accepted before another (R279): the lower distance, and among equal ones the earlier. -/
def candBefore (a b : Int × Nat) : Bool := decide (a.2 < b.2) || (a.2 == b.2 && decide (a.1 < b.1))

/-- Candidates in the order of R279. -/
def insertCand (c : Int × Nat) : List (Int × Nat) → List (Int × Nat)
  | [] => [c]
  | d :: t => if candBefore c d then c :: d :: t else d :: insertCand c t

/-- The candidates among the offsets compared (R278): within SM_WIN, and at most SM_THR from the pattern. -/
def State.candidates (s : State) (n : Chan) (l : List (Int × Nat)) : List (Int × Nat) :=
  let win := s.eff (Fld.CH_SYNC_SM_WIN n)
  let thr := s.eff (Fld.CH_SYNC_SM_THR n)
  (l.filter (fun c => decide (c.1.natAbs ≤ win) && decide (c.2 ≤ thr))).foldl (fun a c => insertCand c a) []

/-- The averaging accumulator takes the pass (R301): the first position of a run; another head or sector index clears it; after AVG
passes no further one is added. -/
def State.average (s : State) (n : Chan) (r : MediaRun) (sec : Sec) : State :=
  let k := avgPasses sec.set.recc
  let second := isSecond n
  let c := s.ch n
  if k = 0 ∨ sec.place ≠ r.nextPlace second 0 then s
  else
    let head := (((s.msq (actOf n)).pos second).head).getD 0
    let passes := match c.acc with
      | some (h, q, p) => if h = head ∧ q = sec.sector then min k (p + 1) else 1
      | none => 1
    s.setCh n { c with acc := some (head, sec.sector, passes) }

/-- SYNC_MARK_SEARCH (R277 to R282, R285, R301, R302, R108): the window of the next position closes, and the position is captured.
`cands`: the offsets whose hard-decided bits were compared, each with its Hamming distance. -/
def execSyncMarkSearch (n : Chan) (cands : List (Int × Nat)) (s : State) : Out :=
  let second := isSecond n
  let c := s.ch n
  match (s.msq (actOf n)).mediaOn second with
  | none => .next s
  | some r =>
    if c.op ≠ 1 ∨ r.count ≤ c.place then .next s
    else
      let sec0 := s.sectorAt n c.items r c.place
      let s0 := (s.ringTake n sec0).nextSearch n r
      if !sec0.clk then .next (s0.sectorFail n c.items sec0 8 0 0)
      else if slowDec sec0.set.recc && c.place != r.nextPlace second 0 then .next (s0.sectorFail n c.items sec0 9 0 0)
      else
        let s1 := s0.average n r sec0
        match s.candidates n cands with
        | [] => .next (if s.flag (Fld.CH_REDET_MISSED n) then s1.toRedet n c.items sec0 1 0 0 else s1.sectorFail n c.items sec0 1 0 0)
        | best :: rest =>
          .next (s1.setCh n { s1.ch n with cur := (s1.ch n).cur ++ [{ sec0 with sync := some best, others := rest.take 3 }] })

/-- A field of a loop register follows its loop (R292): only with its enable at 1, and never during a freeze (R297). -/
def follow (on : Bool) (lo len : Nat) (old new : Word) : Word := if on then wput old lo len (wfield new lo len) else old

/-- The global iterations until the syndrome weight is zero, up to a limit (R269, R270): none when it stays. -/
def converged (lim : Nat) (w : List Nat) : Option Nat := ((w.take lim).findIdx? (fun v => v == 0)).map (fun i => i + 1)

/-- The syndrome weight that a decode within a limit ends with. -/
def lastWeight (lim : Nat) (w : List Nat) : Nat := ((w.take lim).getLast?).getD 0

/-- The loop state a sector leaves (R292 to R295): AGC, offset and timing at once; the LMS updates only of a sector that
converged on the fly, and only of the taps of its bank (R268). -/
def State.loopsAfter (s0 : State) (n : Chan) (sec : Sec) (conv : Bool) (o : DecodeOut) : State :=
  let s := s0.latchSector n
  let c := s.ch n
  let on (f : Field) : Bool := s.flag f && !c.frozen
  let agc := s.rd (Reg.CH_AGC n)
  let a1 := follow (on (Fld.CH_LOOPEN_AGC n)) 16 16 agc o.agc
  let a2 := follow (on (Fld.CH_LOOPEN_DC n)) 0 16 a1 o.agc
  let fofs := clampI (-20000) 20000 (sgn 16 (wfield o.tloop 16 16))
  let freq := on (Fld.CH_LOOPEN_TFREQ n)
  let t1 := follow freq 16 16 (s.rd (Reg.CH_TLOOP n)) (wput o.tloop 16 16 (unsgn 16 fofs))
  let t2 := follow (on (Fld.CH_LOOPEN_TPHASE n)) 0 16 t1 o.tloop
  let taps := if on (Fld.CH_LOOPEN_LMS n) && conv then
      (o.taps.filter (fun e => e.1 % 128 / 64 == sec.set.bank)).foldl (fun m e => mset (fun _ => (0 : Word)) m (e.1 % 128) (e.2 &&& 0x3FF#32)) c.taps
    else c.taps
  let s1 := ((s.wr (Reg.CH_AGC n) a2).wr (Reg.CH_TLOOP n) t2).setCh n { c with taps := taps }
  if freq && fofs.natAbs == 20000 then s1.raise (Fld.CH_EV_TLIM n) else s1

/-- A failed decode goes to re-detection when its sync offset's enable is 1 (R285), and otherwise fails with its reason. -/
def State.decodeFailed (s : State) (n : Chan) (item : Nat) (sec : Sec) (reason swt iter : Nat) : State :=
  let early := match sec.sync with
    | some (d, _) => decide (d < 0)
    | none => false
  if s.flag (if early then Fld.CH_REDET_EARLY n else Fld.CH_REDET_ANYSYNC n) then s.toRedet n item sec reason swt iter
  else s.sectorFail n item sec reason swt iter

/-- The 8 tag bytes read are those of the seed (R273, R306). -/
def Sec.tagOk (sec : Sec) (tag : BitVec 64) : Bool := tag.toNat == tagWord sec.lba sec.gen

/-- SECTOR_DECODE (R269, R270, R285, R289, R290, R300, R108): the on-the-fly decode of the oldest sector between search and decode
ends. -/
def execSectorDecode (n : Chan) (out : DecodeOut) (s : State) : Out :=
  let c := s.ch n
  match c.cur with
  | [] => .next s
  | sec :: rest =>
    let s0 := s.setCh n { c with cur := rest }
    let s1 := if out.sramBad then ((s0.sramUe 1).raise (Fld.CH_FLT_SRAM n)) else s0
    let lim := iterLimit sec.set.cfg sec.set.recc
    let conv := converged lim out.weights
    let s2 := s1.loopsAfter n sec conv.isSome out
    if !s.bclkOk n then .next (s2.sectorFail n sec.item sec 8 0 0)
    else
      match conv with
      | none => .next (s2.decodeFailed n sec.item sec 2 (lastWeight lim out.weights) (min out.weights.length lim))
      | some iter =>
        if !out.crc then .next (s2.decodeFailed n sec.item sec 3 0 iter)
        else if !sec.tagOk out.tag then .next (s2.sectorFail n sec.item sec 4 0 iter)
        else .next (s2.sectorDeliver n sec.item sec iter 0)

/-- The sector in the engine leaves it. -/
def State.redetDone (s : State) (n : Chan) : State := s.setCh n { s.ch n with redet := (s.ch n).redet.drop 1 }

/-- A re-detection that ends without a decode (R287, R288): counted, the sector failed. -/
def State.redetFail (s : State) (n : Chan) (r : Redet) (reason swt iter : Nat) : State :=
  (((s.redetDone n).sectorFail n r.item r.sec reason swt iter).bump (Fld.CH_CNTR_REDET_FAIL n) 1).raise (Fld.CH_EV_REDETFAIL n)

/-- The offsets tried in order (R287), at most MAXHYP of them: delivered, failed for its tag, or the next. -/
def State.redetTry (s : State) (n : Chan) (r : Redet) : List RedetTry → Nat → Nat → State
  | [], swt, iter => s.redetFail n r r.reason swt iter
  | t :: rest, swt, iter =>
    let lim := max 1 (s.get (Fld.CH_REDET_ITER n))
    if !t.inRing || !s.ringHolds n r.item r.sec.place then s.redetFail n r 6 swt iter
    else
      let early := match converged (min 2 lim) t.weights with
        | none => decide (2 < lim) && decide (s.get (Fld.CH_REDET_SWMAX n) < (t.weights[1]?).getD 0)
        | some _ => false
      if early then s.redetTry n r rest ((t.weights[1]?).getD 0) 2
      else
        match converged lim t.weights with
        | none => s.redetTry n r rest (lastWeight lim t.weights) (min t.weights.length lim)
        | some k =>
          if !t.crc then s.redetTry n r rest 0 k
          else if r.sec.tagOk t.tag then
            (((s.redetDone n).sectorDeliver n r.item r.sec k flagRedet).bump (Fld.CH_CNTR_REDET_OK n) 1).raise (Fld.CH_EV_REDETOK n)
          else (s.redetDone n).sectorFail n r.item r.sec 4 0 k

/-- REDETECTION (R287, R289, R284): the engine works on its first sector. `tries` are the best offsets in ranked order; `sramBad`,
an uncorrectable word among the sector's samples. -/
def execRedetection (n : Chan) (tries : List RedetTry) (sramBad : Bool) (s : State) : Out :=
  match (s.ch n).redet with
  | [] => .next s
  | r :: _ =>
    if sramBad then .next (((s.sramUe 1).raise (Fld.CH_FLT_SRAM n)).redetFail n r 10 0 0)
    else .next (s.redetTry n r (tries.take (max 1 (s.get (Fld.CH_REDET_MAXHYP n)))) 0 0)

/-- REDETECTION_DEADLINE (R288): capture is about to overwrite samples of the sector in the engine. -/
def execRedetectionDeadline (n : Chan) (s : State) : Out :=
  match (s.ch n).redet with
  | [] => .next s
  | r :: _ => if s.ringFull n r.item r.sec.place then .next (s.redetFail n r 6 0 0) else .next s

/-- DEFECT_FREEZE (R296, R297): the freeze begins, or ends FREEZE_TAIL bits after its condition. -/
def execDefectFreeze (n : Chan) (on : Bool) (s : State) : Out :=
  .next (if s.chanOk n then s.setCh n { s.ch n with frozen := on, frozenAt := if on && !(s.ch n).frozen then s.ang.ats else (s.ch n).frozenAt } else s)

/-- The bits of the freeze in progress that lie inside the span of the sector at place i of a run (R298). -/
def State.frozenBits (s : State) (n : Chan) (i : Nat) : Nat :=
  let c := s.ch n
  let len := 2 ^ 32 / max 1 (s.spt (actOf n) (isSecond n))
  let a := s.atsSince (c.startAts + i * len)
  (min a (s.atsSince c.frozenAt) - (a - len)) * (s.rd (Reg.ANG_BPR n.val)).toNat / 2 ^ 32

/-- The freeze in progress exceeds FREEZE_MAX inside the sector at place i (R298). -/
def State.freezeOver (s : State) (n : Chan) (i : Nat) : Bool :=
  (s.ch n).frozen && decide (8 * s.eff (Fld.CH_DEFECT_FREEZE_MAX n) < s.frozenBits n i)

/-- FREEZE_LIMIT (R298): the sector under the head, or the last one between search and decode, fails with reason FREEZE when the
freeze inside its span exceeds FREEZE_MAX. -/
def execFreezeLimit (n : Chan) (s : State) : Out :=
  let c := s.ch n
  match (s.msq (actOf n)).mediaOn (isSecond n) with
  | none => .next s
  | some r =>
    if c.op ≠ 1 then .next s
    else
      match c.cur.getLast? with
      | some sec =>
        if !s.freezeOver n sec.place then .next s
        else .next (((s.setCh n { c with cur := c.cur.dropLast }).sectorFail n sec.item sec 5 0 0).raise (Fld.CH_EV_FREEZE n))
      | none =>
        if r.count ≤ c.place || !s.freezeOver n c.place then .next s
        else .next (((s.nextSearch n r).sectorFail n c.items (s.sectorAt n c.items r c.place) 5 0 0).raise (Fld.CH_EV_FREEZE n))

/-- The oldest failure record removed (R305). -/
def State.frecPop (s : State) (n : Chan) : State := s.setCh n { s.ch n with frec := (s.ch n).frec.drop 1 }

/-- FRECPOP (R305). -/
def execFrecpop (n : Chan) (s : State) : Out := .next (s.frecPop n)

/-- The tap at CHn_EQADDR. -/
def State.eqTap (s : State) (n : Chan) : Word := mget (fun _ => (0 : Word)) (s.ch n).taps (s.get (Fld.CH_EQADDR_ADDR n))

/-- CHn_EQADDR moves on, wrapping at 0x7F (R292). -/
def State.eqNext (s : State) (n : Chan) : State := s.put (Fld.CH_EQADDR_ADDR n) (s.get (Fld.CH_EQADDR_ADDR n) + 1)

/-- A read of CHn_EQDATA. -/
def State.eqRead (s : State) (n : Chan) : Word × State := (s.eqTap n, s.eqNext n)

/-- A write of CHn_EQDATA (R271, R292). -/
def State.eqWrite (s0 : State) (n : Chan) (v : Word) : State :=
  let s := s0.latchSector n
  let c := s.ch n
  (s.setCh n { c with taps := mset (fun _ => (0 : Word)) c.taps (s.get (Fld.CH_EQADDR_ADDR n)) (v &&& 0x3FF#32) }).eqNext n

/-- EQDATA_ACCESS (R292). -/
def execEqdataAccess (i : Initiator) (n : Chan) (write : Bool) (v : Word) (s : State) : Out :=
  if !s.chanOk n then .next s
  else if write then .next (s.eqWrite n v)
  else .next ((s.eqRead n).2.setRead i ((s.eqRead n).1.zeroExtend 64))

/-- n free words: ciphertext as it stands on the media. -/
def State.rawWords : Nat → State → List (BitVec 64) × State
  | 0, s => ([], s)
  | n + 1, s =>
    let (l, t) := State.rawWords n s.free.2
    (s.free.1 :: l, t)

/-- The bytes of 64-bit words, and words of bytes. -/
def wordBytes (l : List (BitVec 64)) : List Byte := l.flatMap (fun d => leBytes 8 d.toNat)
def bytesWords (n : Nat) (l : List Byte) : List (BitVec 64) :=
  (List.range n).map (fun i => BitVec.ofNat 64 (leNat ((l.drop (8 * i)).take 8)))

/-- The keys that an actuator's XTS traffic uses for a context's sector (R172, R592): those of the key slot selected, and the unit
index for the tweak (R593). -/
def State.laneKey (s : State) (x : Act) : BitVec 512 := match (s.msq x).keySlot with
  | some k => (s.ks k).key
  | none => 0
def State.ctxUnit (s : State) (n : Nat) : Nat := match s.ctx n with
  | some c => c.unit
  | none => 0

/-- A read position leaves its lane (R46, R557, R592, R593, R596): 4,096 bytes and its protection information, deciphered, reach BUF. -/
def State.laneDeliver (s : State) (n : Chan) (e : RSec) : State :=
  match s.posWord e.ctx e.spos, s.piWord e.ctx e.spos with
  | some a, some q =>
    let k := 512 + min 2 e.pi
    let (l, s1) := State.rawWords k s
    let key := match s.keyOf e.ctx with
      | some i => (s.ks i).key
      | none => s.laneKey (actOf n)
    let d := bytesWords k (xtsBytes false key (xtsTweak e.lba (s.ctxUnit e.ctx)) (wordBytes l))
    let s2 := State.putWords (d.drop 512) q (State.putWords (d.take 512) a s1)
    ((s2.fillPos e.ctx e.spos).withhold e.ctx false).withhold e.ctx true
  | _, _ => s

/-- n code words read from a first one on (R542, R543): their data, whether one is poisoned, and the state after. -/
def State.takeWords : Nat → Nat → State → (List (BitVec 64) × Bool) × State
  | 0, _, s => (([], false), s)
  | n + 1, a, s =>
    let ((d, bad), s1) := s.dramRead 3 a
    let ((l, more), s2) := State.takeWords n (a + 1) s1
    ((d :: l, bad || more), s2)

/-- A position of a WRITE passes its lane (R46, R309, R310, R592, R593): BUF's words, enciphered, become the media sector that WRPx
writes under the channel's settings with the head's precompensation. -/
def State.laneWrite (s : State) (n : Chan) (r : MediaRun) : State :=
  let x := actOf n
  let second := isSecond n
  let j := if second then r.lane1 else r.lane0
  let place := r.placeOf second j
  let sec := s.sectorAt n (s.ch n).items r place
  let k := min 2 (wfield sec.set.cfg 28 2)
  let a := (s.posWord r.ctx sec.spos).getD 0
  let q := (s.piWord r.ctx sec.spos).getD 0
  let ((l, bad), s1) := State.takeWords 512 a s
  let ((l2, bad2), s2) := State.takeWords k q s1
  let data := xtsBytes true (s.laneKey x) (xtsTweak sec.lba (s.ctxUnit r.ctx)) (wordBytes (l ++ l2))
  let w5 := match ((s.msq x).pos second).head with
    | some h => s.ptWord x h 5
    | none => 0
  let w : WSec := {
    place := place, spos := sec.spos, lba := sec.lba, gen := sec.gen, bad := bad || bad2,
    cells := precomp w5 false false false (sec.set.media data sec.lba sec.gen (bad || bad2)) }
  let p (v : Work) : Bool := v.begun && !v.done && (match v.kind with | .media q => inMask q.chs second | _ => false)
  let f (v : Work) : Work := match v.kind with
    | .media q => { v with kind := .media (if second then { q with lane1 := q.lane1 + 1 } else { q with lane0 := q.lane0 + 1 }) }
    | _ => v
  let s3 := s2.setMsq x { s2.msq x with work := updLast p f (s2.msq x).work }
  s3.setCh n { s3.ch n with wsecs := (s3.ch n).wsecs ++ [w] }

/-- XTS_SECTOR (R592 to R596, R574, R290, R309): the next sector of a channel passes the lowest free lane: the oldest decoded one of a
READ, or the next position of the channel's WRITE on its way to the media. The lanes take nothing while the mask DRBG is not seeded or
due for a reseed. -/
def execXtsSector (n : Chan) (s : State) : Out :=
  let c := s.ch n
  if !s.lanesOpen then .next s
  else
    match c.out with
    | e :: t => .next ((((s.setCh n { c with out := t }).laneDeliver n e)).laneMasks)
    | [] =>
      match (s.msq (actOf n)).mediaOn (isSecond n) with
      | some r =>
        if r.op == .write && decide ((if isSecond n then r.lane1 else r.lane0) < r.active (isSecond n)) then
          .next (s.laneWrite n r).laneMasks
        else .next s
      | none => .next s

end Sys2Proof.Machine
end

