-- ==== Sys2Proof/Machine/Mode.lean ====
section
/-!
DEFINITION. Mode requests, the firmware switch, the ACTIVE test and the angle wrap (R82, R86, R518, R736, R749, R754 to R756, R769 to
R773).
-/
namespace Sys2Proof.Machine

/-- What a request of R754 needs. -/
def State.modeGrant (s : State) (req : Nat) : Bool :=
  let b := s.baseMode
  if req = 0x6 then (b == 5 || b == 4 || b == 3) && !s.sys.faultA && !s.sys.faultB && !s.isSN
  else if req = 0xC then (b == 1 || b == 3) && !s.flag Fld.SYS_LOCK_LOCK && !s.sys.switching
  else if req = 0x4 then s.flag Fld.SYS_MODE_SPLITLAT || s.flag Fld.SYS_MODE_SWLAT || s.flag Fld.SYS_MODE_DEGLAT
  else false

/-- The effect of a granted request. -/
def State.modeTake (s : State) (req : Nat) : State :=
  if req = 0x6 then (s.putb Fld.SYS_MODE_SPLITLAT true).put Fld.SYS_MODE_SPLITACT (s.get Fld.SYS_MODEREQ_ACT)
  else if req = 0xC then s.putb Fld.SYS_MODE_SWLAT true
  else
    let s1 := (s.putb Fld.SYS_MODE_SPLITLAT false).putb Fld.SYS_MODE_SWLAT false
    if s.sys.faultA || s.sys.faultB then s1 else s1.putb Fld.SYS_MODE_DEGLAT false

/-- The request in SYS_MODEREQ is judged (R754, R755): DONE or REFUSED, and GO is cleared. -/
def State.modeReq (s0 : State) : State :=
  let s := s0.syncMode
  let req := s.get Fld.SYS_MODEREQ_REQ
  let ok := s.modeGrant req
  let s1 := if ok then s.modeTake req else s
  (((s1.putb Fld.SYS_MODEREQ_DONE ok).putb Fld.SYS_MODEREQ_REFUSED (!ok)).putb Fld.SYS_MODEREQ_GO false).syncMode

/-- MODE_REQ_SPLIT (R754). -/
def execModeReqSplit (x : Act) (s : State) : Out :=
  .next ((s.put Fld.SYS_MODEREQ_REQ 0x6).put Fld.SYS_MODEREQ_ACT x.idx).modeReq

/-- MODE_REQ_SELFWRITE (R754). -/
def execModeReqSelfwrite (s : State) : Out := .next (s.put Fld.SYS_MODEREQ_REQ 0xC).modeReq

/-- MODE_REQ_LEAVE (R754). -/
def execModeReqLeave (s : State) : Out := .next (s.put Fld.SYS_MODEREQ_REQ 0x4).modeReq

/-- ACTIVE_IDLE_TIMEOUT (R749, R752): 2 revolutions of time at the target speed since the last slot of either MSQ left RUN. -/
def execActiveIdleTimeout (s : State) : Out :=
  let due := match s.sys.idleAt with
    | some t => decide (t + 120 * 800000000 / max 1 (s.eff Fld.SPN_TARGET_RPM) ≤ s.now)
    | none => false
  if s.sys.active && due && s.msqA.running.isNone && s.msqB.running.isNone then
    .next ({ s with sys := { s.sys with active := false } }).syncMode
  else .next s

/-! ### Firmware switch -/

/-- A word of an image in memory. -/
def State.imgWord (s : State) (a : Nat) : Nat := leNat (State.bytesAt 7 4 a s).1.1

/-- The sections of the accepted image copied into place (R616, R770). -/
def State.copySections (s : State) (base : Nat) : State :=
  (List.range (min 16 (s.imgWord (base + 0x1C)))).foldl (fun t i =>
    let e := base + 0x40 + 12 * i
    let w := s.imgWord (e + 8)
    let ((bytes, _), t1) := State.bytesAt 7 (w % 2 ^ 24) (base + s.imgWord e) t
    if w / 2 ^ 24 = 1 then State.bytesPut 7 bytes (s.imgWord (e + 4)) t1
    else if w / 2 ^ 24 = 2 then State.bytesPut 7 bytes (dramBase + s.imgWord (e + 4)) t1
    else t1) s

/-- A write of 1 to SYS_UPDCTL.SWITCH (R770 to R773): `hash`, the accepted image still matches its M. -/
def State.fwSwitch (s : State) (hash : Bool) : State :=
  let mode := s.get Fld.SYS_MODE_MODE
  let fin (t : State) (r : Nat) : State := (t.put Fld.SYS_UPDCTL_RESULT r).putb Fld.SYS_UPDCTL_SWITCH false
  if !s.sys.imageVerified || mode == 0xC || mode == 0x9 || mode == 0xA || s.sys.switching then fin s 2
  else
    let s1 := ({ s with sys := { s.sys with switching := true } }).syncMode
    if !hash then (fin { s1 with sys := { s1.sys with switching := false } } 3).syncMode
    else
      let (a, n) := s1.hwd.image
      let s2 := s1.copySections a
      let s3 := (s2.put Fld.HWD_BOOT_SVN (s2.imgWord (a + 8))).setMeas 2
        (digest 0x07 [BitVec.ofNat 32 a, BitVec.ofNat 32 (a / 2 ^ 32), BitVec.ofNat 32 n, BitVec.ofNat 32 s2.freeCtr])
      let s4 : State := { s3.moveWindow3 with apc := { s3.apc with
        dirty := [], svc := none, csr0 := LcCsr.at s3.now, csr1 := LcCsr.at s3.now } }
      let s5 := (((s4.wr Reg.INTC_CAUSE0 0).wr Reg.INTC_CAUSE1 0).wdRestart 0).wdRestart 1
      let s6 := (fin s5 1).raise Fld.SYS_EV_UPD
      ({ s6 with sys := { s6.sys with switching := false } }).syncMode

/-- FIRMWARE_SWITCH (R770). -/
def execFirmwareSwitch (hash : Bool) (s : State) : Out := .next (s.fwSwitch hash)

/-! ### The angle wrap -/

end Sys2Proof.Machine
end

