-- ==== Sys2Proof/Machine/Submit.lean ====
section
/-!
DEFINITION. Submission, slot start and slot commands (R111, R115 to R127, R263).
-/
namespace Sys2Proof.Machine

/-- MSQx_SUBRES written whole (R118): one outcome bit and the slot. -/
def State.subRes (s : State) (x : Act) (bit slot : Nat) : State :=
  (s.wr (Reg.MSQ_SUBRES x) (BitVec.ofNat 32 (2 ^ bit + slot))).putb (Fld.MSQ_SUBGO_GO x) false

/-- A handled submission clears GO; one that was requested meanwhile sets it again (R71, R119). -/
def State.subDone (s : State) (x : Act) : State :=
  let m := s.msq x
  let s1 := s.setMsq x { m with subWait := none, subAgain := false }
  if m.subAgain then s1.putb (Fld.MSQ_SUBGO_GO x) true else s1

/-- The descriptor's program taken into a slot (R117). -/
def State.takeSlot (s : State) (x : Act) (k : Nat) (a : Arch) : State :=
  let m := s.msq x
  let m1 := { m.setSlot k { st := .ready, prio := s.get (Fld.MSQ_SUBCTL_PRIO x), fcode := 0, ord := m.subs, spec := a, comm := a, credit := [] }
    with subs := m.subs + 1 }
  ((s.setMsq x m1).subRes x 4 k).subDone x

/-- The register state of a fresh submission (R111). -/
def State.freshArch (s : State) (x : Act) : Arch :=
  let args := (List.range 4).foldl (fun a k => a.setReg k (s.rd (Reg.MSQ_SUBARG x k))) Arch.empty
  { args with pc := (s.rd (Reg.MSQ_SUBPC x)).toNat }

/-- The address of a checkpoint record (R185). -/
def State.ckRecord (s : State) (x : Act) (k : Nat) : Nat := s.get (Fld.MSQ_CKBASE_BASE x) * 2 ^ 12 + 256 * k

/-- The register state that a checkpoint record's 57 words hold, its VALID bit and the allocation sequence (R185). -/
def ckptArch (ws : List Word) : Arch × Bool × Nat :=
  let w (off : Nat) : Word := ws.getD (off / 4) 0
  let a0 := (List.range 48).foldl (fun a k => a.setReg k (w (0x10 + 4 * k))) Arch.empty
  let a1 := (List.range 4).foldl (fun a k => a.setReg (0x30 + k) (if (w 0x08).getLsbD k then 1#32 else 0#32)) a0
  let seed (lo hi : Nat) : Seed := { lba := (w lo).toNat + ((w hi).toNat % 8) * 2 ^ 32, gen := (w hi).toNat / 2 ^ 16 }
  let a2 := { a1 with
    pc := (w 0).toNat, ctx := (w 4).toNat % 2 ^ 11, flags := wfield (w 8) 8 4, seed0 := seed 0xD0 0xD4, seed1 := seed 0xD8 0xDC }
  (a2, (w 0x0C).getLsbD 0, (w 0xE0).toNat % 2 ^ 16)

/-- The words of a list of SRAM addresses, read one after another. -/
def State.sramWords (s : State) (l : List Nat) : List Word × State :=
  l.foldl (fun (p : List Word × State) (a : Nat) =>
    let (w, t) := p.2.sramWord a
    (p.1 ++ [w], t)) ([], s)

/-- The checkpoint record of an actuator's slot, as memory holds it. -/
def State.loadCkpt (s : State) (x : Act) (k : Nat) : (Arch × Bool × Nat) × State :=
  let p := s.sramWords ((List.range 57).map (fun i => s.ckRecord x k + 4 * i))
  (ckptArch p.1, p.2)

/-- A submission handled (R117 to R121): refused with FULL, BADPC or BADCK in that order, queued, or, for a checkpoint record
that holds a context, left waiting for CCX with GO at 1. -/
def State.submit (s : State) (x : Act) : State :=
  let m := s.msq x
  match m.lowestFree with
  | none => ((s.subRes x 8 0).subDone x).raise (Fld.MSQ_EV_SUBFULL x)
  | some k =>
    if s.flag (Fld.MSQ_SUBCTL_RESUME x) then
      let ((a, valid, _), s1) := s.loadCkpt x (s.get (Fld.MSQ_SUBCTL_RSLOT x))
      if !valid then ((s1.subRes x 10 0).subDone x).raise (Fld.MSQ_EV_SUBBAD x)
      else if a.ctx = 0x400 then s1.takeSlot x k a
      else s1.setMsq x { s1.msq x with subWait := some (s.get (Fld.MSQ_SUBCTL_RSLOT x)) }
    else
      let pc := (s.rd (Reg.MSQ_SUBPC x)).toNat
      if pc % 8 ≠ 0 ∨ !(decide (0x20000000 ≤ pc) && decide (pc + 8 ≤ 0x20800000)) then
        ((s.subRes x 9 0).subDone x).raise (Fld.MSQ_EV_SUBBAD x)
      else s.takeSlot x k (s.freshArch x)

/-- A write of 1 to GO (R117, R119): a submission, or one that follows the submission in progress. -/
def State.subGo (s : State) (x : Act) : State :=
  if !s.actOk x then s
  else if (s.msq x).subWait.isSome then
    (s.putb (Fld.MSQ_SUBGO_GO x) true).setMsq x { s.msq x with subAgain := true }
  else (s.putb (Fld.MSQ_SUBGO_GO x) true).submit x

/-- The slot k enters RUN (R123); the laser current of FLYING ends (R752), the MSQ's key slot is that of the slot's context (R172). What an
earlier slot's commit made final and has not completed stays (R206). -/
def State.startSlot (s : State) (x : Act) (k : Nat) : State :=
  let m := s.msq x
  let m1 := { m.setSlot k { m.slot k with st := .run, spec := (m.slot k).comm } with
    work := m.work.filter (fun w => w.final && !w.done), staged := [], wait := none, dist := 0, sqWait := false, sqCauses := 0,
    lastCommitAts := s.ang.ats, micro := Micro.idle }
  let s1 := (s.setMsq x m1).selectKey x (m.slot k).comm.ctx
  (({ s1 with sys := { s1.sys with active := true } }).syncMode).slotStarted x

/-- MSQ_SUBMIT (R117): a write of 1 to MSQx_SUBGO.GO. -/
def execMsqSubmit (x : Act) (s : State) : Out := .next (s.subGo x)

/-- RESUME_CONTEXT_ANSWER (R121): CCX confirms only an ACTIVE context queued to this actuator with the record's allocation
sequence; otherwise the submission is refused with BADCTX. A submission requested meanwhile follows (R119). -/
def execResumeContextAnswer (x : Act) (s : State) : Out :=
  let again (t : State) : State := if (s.msq x).subAgain then t.submit x else t
  match (s.msq x).subWait, (s.msq x).lowestFree with
  | some r, some k =>
    let ((a, _, seq), s1) := s.loadCkpt x r
    if s1.bindOk x a.ctx && s1.allocSeq a.ctx % 2 ^ 16 == seq then .next (again (s1.takeSlot x k a))
    else .next (again (((s1.subRes x 11 0).subDone x).raise (Fld.MSQ_EV_SUBBAD x)))
  | some _, none => .next (again (((s.subRes x 8 0).subDone x).raise (Fld.MSQ_EV_SUBFULL x)))
  | none, _ => .next s

/-- SLOT_START (R123, R125, R263): with no slot in RUN, HOLD 0 and no load in progress, the READY slot of highest priority
starts; with HOLD 1 the device raises MSQx_EV_HOLD. -/
def execSlotStart (x : Act) (s : State) : Out :=
  let m := s.msq x
  if !s.actOk x || m.running.isSome then .next s
  else if s.flag (Fld.MSQ_CTL_HOLD x) then .next (s.holdEvent x)
  else if s.flag (Fld.UCS_SAPCTL_LOAD x) || s.ploading x then .next s
  else
    match m.nextReady with
    | some k => .next (s.startSlot x k)
    | none => .next s

/-- A slot command (R127): 1 RESUME, 2 DISCARD, 3 ABORT; ignored for a slot in any other state. -/
def State.slotCmd (s : State) (x : Act) (cmd k : Nat) : State :=
  let m := s.msq x
  let sl := m.slot k
  if !s.actOk x then s
  else if cmd = 1 then
    if sl.st == .fault then s.setSlot x k { sl with st := .ready, fcode := 0, spec := sl.comm } else s
  else if cmd = 2 then
    if sl.st == .fault || sl.st == .ready then s.setSlot x k Slot.empty else s
  else if cmd = 3 then
    if sl.st == .run then
      let s1 := s.squash x (2 ^ 11) false
      let s2 := s1.leaveRun x k .free 0
      s2.setSlot x k Slot.empty
    else if sl.st == .ready || sl.st == .fault then s.setSlot x k Slot.empty
    else s
  else s

/-- SLOT_RESUME (R127). -/
def execSlotResume (x : Act) (k : Nat) (s : State) : Out := .next (s.slotCmd x 1 (k % 16))

/-- SLOT_DISCARD (R127). -/
def execSlotDiscard (x : Act) (k : Nat) (s : State) : Out := .next (s.slotCmd x 2 (k % 16))

/-- SLOT_ABORT (R127). -/
def execSlotAbort (x : Act) (k : Nat) (s : State) : Out := .next ((s.slotCmd x 3 (k % 16)).syncMode)

/-- A write of ones to MSQx_SLOTDONE (R126): each named slot in DONE is FREE. -/
def State.slotDoneClear (s : State) (x : Act) (bits : Nat) : State :=
  (List.range 16).foldl (fun t k =>
    if bits.testBit k && ((t.msq x).slot k).st == .done then t.setSlot x k Slot.empty else t) s

/-- SLOTDONE_CLEAR (R126). -/
def execSlotdoneClear (x : Act) (k : Nat) (s : State) : Out := .next (s.slotDoneClear x (2 ^ (k % 16)))

end Sys2Proof.Machine
end

