-- ==== Sys2Proof/Machine/Vale.lean ====
section
/-!
DEFINITION. The commands of the enclosure group (R698 to R726): transmission, received messages, election, handover, tokens, the
group key.
-/
namespace Sys2Proof.Machine

/-- The drive's slot. -/
def State.own (s : State) : Nat := s.pins.slotid % 64

/-- VALE_STAT.ROLE set; a change raises VALE_EV_ROLE. A drive that becomes a member has been one since a deferral began (R716). -/
def State.setRole (s : State) (r : Nat) : State :=
  let s1 := if s.get Fld.VALE_STAT_ROLE = r then s else (s.put Fld.VALE_STAT_ROLE r).raise Fld.VALE_EV_ROLE
  if 2 ≤ r then { s1 with vale := { s1.vale with memberSince := true } } else s1

/-- Announcements that wait are dropped (R721, R724). -/
def State.annDrop (s : State) : State := { s with vale := { s.vale with ann := s.vale.ann.filter (fun a => a.start.isSome) } }

/-- The drive becomes Canopy (R708, R709, R711): it steers by no reference. -/
def State.becomeCanopy (s : State) : State :=
  let s1 := ((s.setRole 3).put Fld.VALE_STAT_CANSLOT s.own).bump Fld.VALE_CNT_ELECT 1
  ({ s1 with vale := { s1.vale with handover := none, named := 0, beaconed := false, tokens := [] } }).refCheck

/-- The drive stops being a member (R707, R724). -/
def State.leaveGroup (s : State) (r : Nat) : State :=
  let s1 := (s.setRole r).annDrop
  ({ s1 with vale := { s1.vale with handover := none, named := 0, refOk := false } }).refCheck

/-! ### Sending -/

/-- The wire form of a message (R701, R702): body bits [95:32] and the MAC, the first 4 bytes of the tag over the body. -/
def State.valeMessage (s : State) (k : KeySlot) (ctr body : Nat) : BitVec 96 :=
  let iv := BitVec.ofNat 96 ((0x56414C00 + s.own) * 2 ^ 64 + ctr)
  let mac := gcmMac k.gcmKey iv (leBytes 8 body).reverse [] 4
  BitVec.ofNat 96 (body * 2 ^ 32 + leNat mac.reverse)

/-- A message sent under a counter: the slot's counter moves on. -/
def State.valeSend (s : State) (i ctr body : Nat) : State :=
  let k := s.ks i
  let s1 := s.setKs i { k with ctr := ctr + 1 }
  { s1 with vale := { s1.vale with sent := some (s.valeMessage k ctr body), sync := false } }

/-- A sender was heard in the last 3 cycles (R707). -/
def State.heardLately (s : State) (k : Nat) : Bool :=
  match mfind s.vale.heard k with
  | some t => decide (s.now < t + 3 * valeCycle)
  | none => false

/-- TOKMAX in ticks (R718). -/
def State.tokMax (s : State) : Nat := s.eff Fld.VALE_CANCFG_TOKMAX * 800000000

/-- The drive asks for a token (R716, R717). -/
def State.wantsToken (s : State) : Bool := s.spn.deferred && s.flag Fld.VALE_CFG_TOKREQ && !s.flag Fld.VALE_STAT_TOKEN

/-- The tokens that the Canopy counts as held (R718). -/
def State.tokensHeld (s : State) : List (Nat × Nat) :=
  s.vale.tokens.filter (fun e => if e.1 = s.own then s.flag Fld.VALE_STAT_TOKEN else true)

/-- The member that the Canopy's next beacon grants a token (R717): the lowest SLOTID that asks. -/
def State.grantFor (s : State) : Option Nat :=
  if s.eff Fld.VALE_CANCFG_TOKN ≤ s.tokensHeld.length then none
  else (List.range 64).find? (fun k =>
    (s.tokensHeld.all (fun e => e.1 != k)) &&
      (if k = s.own then s.wantsToken
       else s.heardLately k && (match mfind s.vale.status k with | some f => nbit f 3 | none => false)))

/-- A token granted to this drive (R716, R718): the deferred start proceeds. -/
def State.takeToken (s : State) : State :=
  if s.flag Fld.SPN_CTL_RUN && !s.flag Fld.SPN_STAT_INREG then
    let s1 := (s.putb Fld.VALE_STAT_TOKEN true).raise Fld.VALE_EV_TOKEN
    ({ s1 with vale := { s1.vale with tokenAt := s.now } }).deferRelease
  else s

/-- PWR_BUDGET.PMAX follows the group's budget (R719). -/
def State.setBudget (s : State) (b : Nat) : State :=
  if s.flag Fld.VALE_CFG_BUDGETEN && s.valeMember then s.put Fld.PWR_BUDGET_PMAX (if s.flag Fld.VALE_STAT_TOKEN then 0 else b) else s

/-- A beacon's body (R701, R711, R717). -/
def State.beaconBody (s : State) (seq : Nat) (hand : Bool) (slot : Nat) (tokv : Bool) : Nat :=
  let ref := (s.angle + 2 ^ 32 - (s.rd Reg.VALE_PHOFS).toNat) % 2 ^ 32
  0x1 * 2 ^ 60 + seq * 2 ^ 52 + ref * 2 ^ 20 + b2n (s.flag Fld.SPN_STAT_INREG) * 2 ^ 19 + b2n hand * 2 ^ 18 + slot * 2 ^ 12
    + b2n tokv * 2 ^ 11 + s.get Fld.VALE_CANCFG_BUDGET * 2 ^ 2

/-- A STATUS's body (R701, R717, R718, R724). -/
def State.statusBody (s : State) (seq : Nat) : Nat :=
  0x2 * 2 ^ 60 + seq * 2 ^ 52 + b2n s.pins.canopy * 2 ^ 51 + b2n s.wantsToken * 2 ^ 50 + b2n (s.flag Fld.VALE_STAT_TOKEN) * 2 ^ 49
    + b2n (s.flag Fld.SPN_STAT_INREG) * 2 ^ 48 + b2n s.sys.retract * 2 ^ 47

/-- The angle that the media runs of an actuator that have begun still take until their last gate closes (R139): a seek behind them starts
no earlier. -/
def State.mediaAhead (s : State) (x : Act) : Nat :=
  (s.msq x).work.foldl (fun m w => match w.kind with
    | .media r =>
      if w.begun && !w.done then
        ((if inMask r.chs false then [r.gate0] else []) ++ (if inMask r.chs true then [r.gate1] else [])).foldl (fun m g =>
          if s.atsPast g then m else max m ((g + 2 ^ 48 - s.ang.ats) % 2 ^ 48)) m
      else m
    | _ => m) 0

/-- The tick at which an announced seek may begin (R721): LEAD after the end of this transmission, or the seek's own earliest start when
that is later. -/
def State.annStart (s : State) (x : Act) : Nat :=
  let lead := valeTx + s.eff Fld.VALE_CFG_LEAD * 800
  let sp := (s.rd Reg.ANG_SPEED).toNat
  s.now + (if sp = 0 then lead else max lead ((s.mediaAhead x * 2 ^ 16 + sp - 1) / sp))

/-- The phase offset between the local and the reference angle (R713, R723). -/
def State.phaseOfs (s : State) : Nat :=
  if s.get Fld.VALE_STAT_ROLE = 3 then (s.rd Reg.VALE_PHOFS).toNat else (s.rd Reg.VALE_EFFOFS).toNat

/-- A SEEK message's body (R701, R721): START as a reference angle at the present speed. -/
def State.seekBody (s : State) (seq : Nat) (a : Announce) : Nat :=
  let ahead := (s.rd Reg.ANG_SPEED).toNat * (s.annStart a.x - s.now) / 2 ^ 16
  let start := (s.angle + ahead + 2 ^ 32 - s.phaseOfs) % 2 ^ 32
  0x3 * 2 ^ 60 + seq * 2 ^ 52 + start * 2 ^ 20 + a.cls % 4 * 2 ^ 18 + b2n a.down * 2 ^ 17 + a.x.idx * 2 ^ 16

/-- The first announcement that waits is sent. -/
def sendFirst (start : Nat) : List Announce → List Announce
  | [] => []
  | a :: t => if a.start.isNone then { a with start := some start } :: t else a :: sendFirst start t

/-- A beacon sent (R706, R709, R717, R719): the last of a handover's four gives the role up. -/
def State.sendBeacon (s : State) (i ctr : Nat) : State :=
  match s.vale.handover with
  | some (slot, left) =>
    let s1 := s.valeSend i ctr (s.beaconBody (ctr % 256) true slot false)
    if left ≤ 1 then
      let s2 := (s1.setRole 2).put Fld.VALE_STAT_CANSLOT slot
      { s2 with vale := { s2.vale with handover := none, beaconAt := some s.now, enAt := s.now, beaconed := false } }
    else ({ s1 with vale := { s1.vale with handover := some (slot, left - 1), beaconed := true } }).setBudget (s.get Fld.VALE_CANCFG_BUDGET)
  | none =>
    let g := s.grantFor
    let s1 := s.valeSend i ctr (s.beaconBody (ctr % 256) false (g.getD 0) g.isSome)
    let s2 : State := { s1 with vale := { s1.vale with
      beaconed := true
      tokens := match g with
        | some k => s.tokensHeld ++ [(k, s.now)]
        | none => s.tokensHeld } }
    let s3 := if g = some s.own then s2.takeToken else s2
    s3.setBudget (s.get Fld.VALE_CANCFG_BUDGET)

/-- VALE_SLOT_TRANSMIT (R699, R703, R706, R711, R717 to R719, R721, R724): the drive's slot starts; it sends the first message that
applies. A counter or slot error stops it. -/
def execValeSlotTransmit (s0 : State) : Out :=
  let s : State := { s0 with vale := { s0.vale with cycleAt := s0.now - s0.own * valeSlot } }
  let role := s.get Fld.VALE_STAT_ROLE
  let silent := s.sys.retract && role == 3 && decide (3 ≤ s.retph)
  if !s.flag Fld.VALE_CFG_EN || s.flag Fld.VALE_STAT_LEFT || s.vale.stopped || s.thm.shut || silent then .next s
  else
    let i := slotIx true (s.get Fld.VALE_KEY_TXSLOT)
    let k0 := s.ks i
    let k : KeySlot := if s.vale.sync then { k0 with ctr := (k0.ctr + 255) / 256 * 256 } else k0
    let stop (t : State) : State := ({ t with vale := { t.vale with stopped := true } }).raise Fld.VALE_FLT_CTR
    if k0.st = 0 ∨ k0.st = 3 then .next (stop s)
    else
      match k.issue with
      | .error 0xFF => .next s
      | .error e => .next (stop (s.setKs i { k0 with sat := k0.sat || e == 0x02 }))
      | .ok ctr =>
        let due := if !s.sys.retract && s.announcing && (role != 3 || s.vale.beaconed) then s.vale.ann.find? (fun a => a.start.isNone)
          else none
        if ctr % 256 = 0 then
          let t := s.valeSend i ctr (0xF * 2 ^ 60 + ctr / 256 % 2 ^ 56 * 2 ^ 4)
          .next { t with vale := { t.vale with beaconed := false } }
        else
          match due with
          | some a =>
            let t := s.valeSend i ctr (s.seekBody (ctr % 256) a)
            .next { t with vale := { t.vale with beaconed := false, ann := sendFirst (s.annStart a.x) t.vale.ann } }
          | none =>
            if role = 3 then .next (s.sendBeacon i ctr).syncMode else .next (s.valeSend i ctr (s.statusBody (ctr % 256)))

/-! ### Receiving -/

/-- The check of a message under one system slot (R704): the counter accepted, or 1 its MAC fails, 2 its counter is not above C, 3
nothing is accepted from the sender before a SYNC. A SEQ equal to that of C stands for C. -/
def State.valeCheck (s : State) (slot sender : Nat) (sync : Option Nat) (seq : Nat) (mac : Bool) : Except Nat Nat :=
  match sync, mfind s.vale.counters (64 * slot + sender) with
  | some n, none => if mac then .ok n else .error 1
  | some n, some c => if n ≤ c then .error 2 else if mac then .ok n else .error 1
  | none, none => .error 3
  | none, some c =>
    let d := (seq + 256 - c % 256) % 256
    if d = 0 then .error 2 else if mac then .ok (c + d) else .error 1

/-- A rejected message counted (R704). -/
def State.valeReject (s : State) (e : Nat) : State :=
  if e = 1 then (s.bump Fld.VALE_CNT_MACERR 1).raise Fld.VALE_EV_MACERR
  else if e = 2 then s.bump Fld.VALE_CNT_REPLAY 1
  else s

/-- An accepted message sets C, and its sender has been heard. -/
def State.valeTake (s : State) (slot sender c : Nat) : State :=
  { s with vale := { s.vale with
    counters := mput s.vale.counters (64 * slot + sender) c, heard := mput s.vale.heard sender s.now } }

/-- A message checked under TXSLOT, then under ALTSLOT (R705): accepted or not, and the state after. -/
def State.valeAccept (s : State) (sender : Nat) (sync : Option Nat) (seq : Nat) (macTx macAlt : Bool) : Bool × State :=
  if !s.flag Fld.VALE_CFG_EN || s.thm.shut then (false, s)
  else
    let tx := s.get Fld.VALE_KEY_TXSLOT
    let alt := s.get Fld.VALE_KEY_ALTSLOT
    match s.valeCheck tx sender sync seq macTx with
    | .ok c => (true, s.valeTake tx sender c)
    | .error e =>
      if s.flag Fld.VALE_KEY_ALTEN then
        match s.valeCheck alt sender sync seq macAlt with
        | .ok c => (true, s.valeTake alt sender c)
        | .error f => (false, s.valeReject (if e = 3 then f else e))
      else (false, s.valeReject e)

/-- A message of R701 received. -/
def State.valeGet (s : State) (rx : ValeRx) : Bool × State := s.valeAccept rx.sender.toNat none rx.seq.toNat rx.macTx rx.macAlt

/-- EFFOFS one step nearer to PHOFS, by the shorter way round (R713). -/
def slewOfs (eff phofs : Nat) : Nat :=
  unsgn 32 ((eff : Int) + clampI (-477) 477 (sgn 32 ((phofs + 2 ^ 32 - eff) % 2 ^ 32)))

/-- The reference at an accepted beacon (R712 to R715): `cap`, the local angle at the Canopy's slot start. -/
def State.refBeacon (s : State) (ref cap : Nat) : State :=
  let ok := s.get Fld.VALE_STAT_ROLE == 2 && s.flag Fld.VALE_CFG_PLOCK && s.vale.refOk && s.flag Fld.SPN_STAT_INREG
  if !ok then s.refDrop
  else if !s.flag Fld.ANG_STAT_CANLOCK then
    let s1 := (((s.putb Fld.ANG_STAT_CANLOCK true).wr Reg.VALE_EFFOFS (BitVec.ofNat 32 (cap + 2 ^ 32 - ref))).wr Reg.ANG_REFERR 0).raise
      Fld.VALE_EV_REFLOCK
    { s1 with vale := { s1.vale with phok := if (cap + 2 ^ 32 - ref) % 2 ^ 32 = (s.rd Reg.VALE_PHOFS).toNat then 1 else 0 } }
  else
    let ph := (s.rd Reg.VALE_PHOFS).toNat
    let eff := slewOfs (s.rd Reg.VALE_EFFOFS).toNat ph
    let e := sgn 32 ((ref + eff + 2 ^ 32 - cap) % 2 ^ 32)
    let s1 := (s.wr Reg.VALE_EFFOFS (BitVec.ofNat 32 eff)).wr Reg.ANG_REFERR (BitVec.ofNat 32 (unsgn 32 e))
    if 23860929 < e.natAbs then s1.refDrop
    else if eff = ph ∧ e.natAbs ≤ 1193046 then
      let n := s1.vale.phok + 1
      let s2 : State := { s1 with vale := { s1.vale with phok := n } }
      if 64 ≤ n then s2.putb Fld.VALE_STAT_PHOK true else s2
    else ({ s1 with vale := { s1.vale with phok := 0 } }).putb Fld.VALE_STAT_PHOK false

/-- BEACON (R700, R704, R707, R709, R712 to R719): `cap`, the local angle at the Canopy's slot start on this drive's timer. -/
def execBeacon (rx : ValeRx) (ref : Word) (refOk hand : Bool) (slot : BitVec 6) (tokvalid : Bool) (budget : BitVec 9) (cap : Word)
    (s : State) : Out :=
  let (ok, s1) := s.valeGet rx
  let from_ := rx.sender.toNat
  if !ok then .next s1
  else if s1.get Fld.VALE_STAT_ROLE = 3 ∧ s1.own ≤ from_ then .next s1
  else
    let s2 := (s1.setRole 2).put Fld.VALE_STAT_CANSLOT from_
    let named := hand && slot.toNat == s2.own && s2.pins.canopy
    let s3 : State := { s2 with vale := { s2.vale with
      handover := none, beaconAt := some s.now, enAt := s.now, refOk := refOk, beaconed := false, named := if named then s2.vale.named + 1 else 0
      cycleAt := s.now - from_ * valeSlot - s.get Fld.VALE_CFG_PDLY * 4 / 5 } }
    let s4 := s3.refBeacon ref.toNat cap.toNat
    let s5 := if tokvalid && slot.toNat == s4.own then s4.takeToken else s4
    let s6 := s5.setBudget budget.toNat
    .next (if s6.vale.named = 4 then s6.becomeCanopy else s6).syncMode

/-- STATUS (R704, R707, R709, R717, R718): flags as ELIG 16, TOKREQ 8, TOKHOLD 4, INREG 2, RETRACT 1. -/
def execStatus (rx : ValeRx) (elig tokreq tokhold inreg retract : Bool) (s : State) : Out :=
  let (ok, s1) := s.valeGet rx
  let from_ := rx.sender.toNat
  if !ok then .next s1
  else
    let f := 16 * b2n elig + 8 * b2n tokreq + 4 * b2n tokhold + 2 * b2n inreg + b2n retract
    let s2 : State := { s1 with vale := { s1.vale with
      status := mput s1.vale.status from_ f
      tokens := if tokhold then s1.vale.tokens else s1.vale.tokens.filter (fun e => e.1 != from_)
      handover := if s1.get Fld.VALE_STAT_ROLE = 3 ∧ elig = true ∧ from_ < s1.own ∧ s1.vale.handover = none then some (from_, 4)
        else s1.vale.handover } }
    .next s2

/-- SEEK_ANNOUNCEMENT (R704, R723, R400): the template of an enabled neighbour, from START on. -/
def execSeekAnnouncement (rx : ValeRx) (start : Word) (cls : BitVec 2) (dir act : Bool) (s : State) : Out :=
  let (ok, s1) := s.valeGet rx
  let from_ := rx.sender.toNat
  let named := [Act.a, Act.b].any (fun x => (List.range 8).any (fun k =>
    s1.flag (Fld.LPE_NCOEF_EN x k) && s1.get (Fld.LPE_NCOEF_SLOT x k) == from_))
  let holds := s1.flag Fld.ANG_STAT_CANLOCK || s1.get Fld.VALE_STAT_ROLE == 3
  if !ok || !named || !holds then .next s1
  else
    let at_ := nextAts s1.ang.ats ((start.toNat + s1.phaseOfs) % 2 ^ 32)
    let live := s1.lpe.announced.filter (fun e => !s1.atsPast e.2.2.1 || (s1.annSample e.2.2.1).isSome)
    .next { s1 with lpe := { s1.lpe with announced := live ++ [(from_, (cls.toNat + 4 * b2n act, (at_, dir)))] } }

/-- SYNC (R703, R704): a counter whose low 8 bits are 0. -/
def execSync (sender : BitVec 6) (high : BitVec 56) (macTx macAlt : Bool) (s : State) : Out :=
  .next (s.valeAccept sender.toNat (some (high.toNat * 256)) 0 macTx macAlt).2

/-! ### Group events -/

/-- CANOPY_ELECTION (R708): no accepted beacon for 3 + SLOTID cycles. -/
def execCanopyElection (s : State) : Out :=
  if s.flag Fld.VALE_CFG_EN && s.pins.canopy && s.get Fld.VALE_STAT_ROLE != 3 && !s.flag Fld.VALE_STAT_LEFT && !s.thm.shut
      && decide (s.vale.enAt + (3 + s.own) * valeCycle ≤ s.now) then .next s.becomeCanopy.syncMode
  else .next s

/-- BEACON_LOSS (R707, R715, R724): no accepted beacon for 3 cycles. -/
def execBeaconLoss (s : State) : Out :=
  let due := match s.vale.beaconAt with
    | some t => decide (t + 3 * valeCycle ≤ s.now)
    | none => false
  if s.get Fld.VALE_STAT_ROLE = 2 ∧ due = true then .next ((s.leaveGroup 1).raise Fld.VALE_EV_ELECT).syncMode
  else .next s

/-- A write of 1 to VALE_CTL.HANDOVER (R710). -/
def State.handOver (s : State) : State :=
  if s.get Fld.VALE_STAT_ROLE ≠ 3 then s
  else
    match (List.range 64).find? (fun k => k != s.own && s.heardLately k
        && (match mfind s.vale.status k with | some f => nbit f 4 | none => false)) with
    | some k => { s with vale := { s.vale with handover := some (k, 4) } }
    | none => s

/-- CANOPY_HANDOVER (R710). -/
def execCanopyHandover (s : State) : Out := .next s.handOver

/-- TOKEN_TIMEOUT (R718): at the holder after TOKMAX; at the Canopy after TOKMAX or 3 silent cycles of the holder. -/
def execTokenTimeout (slot : BitVec 6) (s : State) : Out :=
  let k := slot.toNat
  let s1 := if k = s.own ∧ s.flag Fld.VALE_STAT_TOKEN = true ∧ s.vale.tokenAt + s.tokMax ≤ s.now then s.dropToken else s
  let late (e : Nat × Nat) : Bool := e.1 == k
    && (decide (e.2 + s.tokMax ≤ s.now) || (k != s.own && decide (e.2 + 3 * valeCycle ≤ s.now) && !s.heardLately k))
  .next { s1 with vale := { s1.vale with tokens := s1.vale.tokens.filter (fun e => !late e) } }

/-- STAGGER_EXPIRY (R716): no member since the deferral began, and SLOTID x STAG has passed. -/
def execStaggerExpiry (s : State) : Out :=
  if s.spn.deferred && !s.vale.memberSince && decide (s.vale.deferAt + s.stagger ≤ s.now) then .next s.deferRelease.syncMode
  else .next s

/-- A write to VALE_KEY (R703, R705): the counters of slots it no longer names are cleared; a new TXSLOT begins with a SYNC; a stopped
transmission resumes. -/
def State.valeKey (s : State) (v : Word) : State :=
  let old := s.get Fld.VALE_KEY_TXSLOT
  let s1 := s.wr Reg.VALE_KEY (v &&& 0x3F80003F#32)
  let tx := s1.get Fld.VALE_KEY_TXSLOT
  let alt := s1.get Fld.VALE_KEY_ALTSLOT
  { s1 with vale := { s1.vale with
    counters := s1.vale.counters.filter (fun e => e.1 / 64 == tx || e.1 / 64 == alt), stopped := false, sync := s1.vale.sync || tx != old } }

/-- VALE_KEY_WRITE (R703, R705). -/
def execValeKeyWrite (v : Word) (s : State) : Out := .next (s.valeKey v)

/-- A write of 1 to VALE_CTL.JOIN (R724). -/
def State.valeJoin (s : State) : State := s.putb Fld.VALE_STAT_LEFT false

/-- VALE_JOIN (R724). -/
def execValeJoin (s : State) : Out := .next s.valeJoin

/-- A write of 1 to VALE_CTL.CLRCTR (R725). -/
def State.valeClr (s : State) : State := { s with vale := { s.vale with counters := [] } }

/-- VALE_CLRCTR (R725). -/
def execValeClrctr (s : State) : Out := .next s.valeClr

/-- VALE_CFG.EN changes (R707, R708). -/
def State.valeEnable (s : State) (on : Bool) : State :=
  if on then ({ s with vale := { s.vale with enAt := s.now, beaconAt := none } }).setRole 1
  else s.leaveGroup 0

end Sys2Proof.Machine
end

