-- ==== Sys2Proof/Machine/RegWrite.lean ====
section
/-!
DEFINITION. Reads and writes of registers with their side effects (R9, R58 to R80): what each register's Type and field table say a
write does, LAT and LATH pairs, bus error capture.
-/
namespace Sys2Proof.Machine


/-- The bits that read 0 and ignore writes on CZ8650-SN (R231, R265, R433, R434, R109). -/
def snBits (a : Nat) : Word :=
  if a = Reg.SYS_ESCSTAT then 0x200F0
  else if a = Reg.ANG_CFG then 0x40
  else if a = Reg.UCS_EVT ∨ a = Reg.UCS_EVTEN then 0x10
  else if a = Reg.UCS_STAT then 0x20A
  else if a = Reg.UCS_USTEP then 0xFFFF0000
  else if a = Reg.UCS_PATCH .b ∨ a = Reg.UCS_SAPCTL .b ∨ a = Reg.UCS_SAPADDR .b ∨ a = Reg.UCS_SAPDATA .b ∨ a = Reg.UCS_SAPWIN .b then
    0xFFFFFFFF
  else if a = Reg.LPE_EVT ∨ a = Reg.LPE_EVTEN then 0x2A14
  else if a = Reg.LPE_STAT then 0xFF00
  else if a = Reg.LPE_FESTAT then 0xCCC
  else if a = Reg.LPE_ILIM .b ∨ a = Reg.LPE_ARB .b ∨ a = Reg.LPE_PES .b ∨ a = Reg.LPE_POS .b then 0xFFFFFFFF
  else if Reg.LPE_NCOEF .b 0 ≤ a ∧ a ≤ Reg.LPE_NCOEF .b 7 then 0xFFFFFFFF
  else if a = Reg.LPE_OVR then 0xFFF000
  else if a = Reg.LPE_RET then 0xF0
  else if a = Reg.DRV_UACT then 0xC
  else 0

/-- The bits of a register that this variant lacks. -/
def State.offBits (s : State) (a : Nat) : Word := if s.isSN then snBits a else 0

/-- A field of a word held to a range. -/
def clampField (w : Word) (lo len least most : Nat) : Word := wput w lo len (clampN least most (wfield w lo len))

/-- Writes that are clamped to the nearer bound (R90, R294, R331, R448, R455). -/
def writeClamp (a : Nat) (w : Word) : Word :=
  if a = Reg.ANG_SLIPLIM then clampField w 0 32 0x1000 0x10000000
  else if a = Reg.WRP_WGLIM .a ∨ a = Reg.WRP_WGLIM .b then clampField w 0 8 20 200
  else if a = Reg.SPN_TARGET ∨ a = Reg.SPN_LOWV then clampField w 0 14 3600 10000
  else if a = Reg.CH_TLOOP 0 ∨ a = Reg.CH_TLOOP 1 ∨ a = Reg.CH_TLOOP 2 ∨ a = Reg.CH_TLOOP 3 then
    wput w 16 16 (unsgn 16 (clampI (-20000) 20000 (sgn 16 (wfield w 16 16))))
  else w

/-- A word after a write by the Type of its bits (R60): RW bits take the written value, fields with a range keep theirs when it lies
outside, W1C bits written 1 clear, W1S bits written 1 set; all others, and the bits under `off`, keep theirs. -/
def RegDesc.write (d : RegDesc) (old v off : Word) : Word :=
  let w := merge old v (BitVec.ofNat 32 d.rw &&& ~~~off)
  let w1 := d.keep.foldl (fun u r =>
    let x := wfield v r.1 r.2.1
    if r.2.2.1 ≤ x ∧ x ≤ r.2.2.2 then u else wput u r.1 r.2.1 (wfield old r.1 r.2.1)) w
  (w1 &&& ~~~(v &&& BitVec.ofNat 32 d.w1c &&& ~~~off)) ||| (v &&& BitVec.ofNat 32 d.w1s &&& ~~~off)

/-- A write that has the effect of R60 alone. A reserved location ignores it (R69). -/
def State.plain (s : State) (a : Nat) (v : Word) : State :=
  match regDesc a with
  | none => s
  | some (_, d) => s.wr a (writeClamp a (d.write (s.rd a) v (s.offBits a)))

/-- A bus error is logged (R78, R79). -/
def State.busError (s : State) (i : Initiator) (kind size a : Nat) (write : Bool) : State :=
  if s.flag Fld.SYS_BUSERR_VALID then s.putb Fld.SYS_BUSERR_OVF true
  else
    let w := BitVec.ofNat 32 (1 + a / 2 ^ 32 % 16 * 2 ^ 16 + size % 4 * 2 ^ 23 + b2n write * 2 ^ 25 + i.idx % 4 * 2 ^ 26 + kind % 8 * 2 ^ 28)
    ((s.wr Reg.SYS_BUSERR (w ||| (s.rd Reg.SYS_BUSERR &&& 0x80000000#32))).wr Reg.SYS_BUSADDR (BitVec.ofNat 32 a)).raise Fld.SYS_EV_BUSERR

/-- The LAT/LATH pairs (R62): the LAT's address and whether the pair is writable, for either word's address. -/
def latOf (a : Nat) : Option (Nat × Bool) :=
  if a = Reg.ANG_NOW ∨ a = Reg.ANG_NOWH then some (Reg.ANG_NOW, false)
  else if a = Reg.VALE_MEMB ∨ a = Reg.VALE_MEMBH then some (Reg.VALE_MEMB, false)
  else if a = Reg.SAS_ADDRA ∨ a = Reg.SAS_ADDRAH then some (Reg.SAS_ADDRA, true)
  else if a = Reg.SAS_ADDRB ∨ a = Reg.SAS_ADDRBH then some (Reg.SAS_ADDRB, true)
  else if a = Reg.CH_SECTORS 0 ∨ a = Reg.CH_SECTORSH 0 then some (Reg.CH_SECTORS 0, false)
  else if a = Reg.CH_SECTORS 1 ∨ a = Reg.CH_SECTORSH 1 then some (Reg.CH_SECTORS 1, false)
  else if a = Reg.CH_SECTORS 2 ∨ a = Reg.CH_SECTORSH 2 then some (Reg.CH_SECTORS 2, false)
  else if a = Reg.CH_SECTORS 3 ∨ a = Reg.CH_SECTORSH 3 then some (Reg.CH_SECTORS 3, false)
  else none

/-- An initiator's shadow of a pair (R63), and its holding register (R64). -/
def State.shadow (s : State) (i : Initiator) (lat : Nat) : Word := mget (fun _ => (0 : Word)) s.bus.shadow (8 * lat + i.idx)
def State.setShadow (s : State) (i : Initiator) (lat : Nat) (v : Word) : State :=
  { s with bus := { s.bus with shadow := mset (fun _ => (0 : Word)) s.bus.shadow (8 * lat + i.idx) v } }
def State.holding (s : State) (i : Initiator) (lat : Nat) : Word := mget (fun _ => (0 : Word)) s.bus.holding (8 * lat + i.idx)
def State.setHolding (s : State) (i : Initiator) (lat : Nat) (v : Word) : State :=
  { s with bus := { s.bus with holding := mset (fun _ => (0 : Word)) s.bus.holding (8 * lat + i.idx) v } }

/-- The retained SRAM's window (R729). -/
def rbkWindow (a : Nat) : Bool := decide (0x801D8000 ≤ a) && decide (a < 0x801E0000)

/-! ### Sapwood's data port (R261, R262, R265) -/

/-- SAPADDR moves on. -/
def State.sapNext (s : State) (x : Act) : State := s.put (Fld.UCS_SAPADDR_ADDR x) (s.get (Fld.UCS_SAPADDR_ADDR x) + 1)

/-- A read of UCS_SAPDATAx. -/
def State.sapRead (s : State) (x : Act) : Word × State :=
  let k := s.get (Fld.UCS_SAPADDR_ADDR x)
  let u := (s.msq x).ucs
  let w : Word := if !s.flag (Fld.UCS_SAPCTL_LOAD x) then 0
    else if k < 0x800 then mget (fun _ => (0 : Word)) u.sap (0x4800 + k)
    else if k < 0x840 then BitVec.ofNat 32 (mget (fun _ => 0) u.sapTab (k - 0x800))
    else 0
  (w, s.sapNext x)

/-- A Sapwood table entry as stored (R256): an address outside 0x4800 to 0x4FFF leaves VALID 0. -/
def sapEntry (v : Nat) : Nat :=
  if 0x4800 ≤ v % 2 ^ 15 ∧ v % 2 ^ 15 ≤ 0x4FFF then v % 2 ^ 16 else v % 2 ^ 15

/-- A write of UCS_SAPDATAx. -/
def State.sapWrite (s : State) (x : Act) (v : Word) : State :=
  let k := s.get (Fld.UCS_SAPADDR_ADDR x)
  let m := s.msq x
  let s1 := if !s.flag (Fld.UCS_SAPCTL_LOAD x) then s
    else if k < 0x800 then s.setMsq x { m with ucs := { m.ucs with sap := mset (fun _ => (0 : Word)) m.ucs.sap (0x4800 + k) v } }
    else if k < 0x840 then
      s.setMsq x { m with ucs := { m.ucs with sapTab := mset (fun _ => 0) m.ucs.sapTab (k - 0x800) (sapEntry v.toNat) } }
    else s
  s1.sapNext x

/-- A write of UCS_SAPCTLx.LOAD (R262): a 1 while MSQx_STAT.HELD is 0 leaves it 0 and raises UCS_EV_LOADREJ. -/
def State.sapLoad (s : State) (x : Act) (load : Bool) : State :=
  if !load then s.putb (Fld.UCS_SAPCTL_LOAD x) false
  else if s.see (Fld.MSQ_STAT_HELD x) = 1 then s.putb (Fld.UCS_SAPCTL_LOAD x) true
  else (s.putb (Fld.UCS_SAPCTL_LOAD x) false).raise Fld.UCS_EV_LOADREJ

/-! ### Writes with effects of their own, block by block -/

/-- A write of 1 to SYS_D2DREL.RELEASE (R41, R43). -/
def State.d2dRel (s : State) : State :=
  if s.flag Fld.SYS_D2DSTAT_TRAINED && s.flag Fld.SYS_D2DSTAT_SAFE then (s.safeLeave false).syncMode else s

/-- SYS_RSTCTL with its key (R756, R762, R776). The outcome of a WARM reset's self-test and of its verification is not the write's: it is
free here; WARM_RESET gives it. -/
def State.rstCtl (s : State) (i : Initiator) (v : Word) : State :=
  let s1 := if v.getLsbD 0 then s.actuatorReset .a (v.getLsbD 8) else s
  let s2 := if v.getLsbD 1 && !s.isSN then s1.actuatorReset .b (v.getLsbD 8) else s1
  if v.getLsbD 2 then
    let (r, s3) := s2.free
    s3.warmReset (if i = .dbg then 4 else 1) none (r.toNat % 16) (r.getLsbD 4)
  else s2

/-- SYS (R45, R78, R231, R776). -/
def State.wrSys (s : State) (i : Initiator) (a : Nat) (v : Word) : State :=
  if a = Reg.SYS_MODEREQ then (if v.getLsbD 31 then (s.plain a v).modeReq else s.plain a v)
  else if a = Reg.SYS_RSTCTL then (if wfield v 16 16 = 0xC35A then s.rstCtl i v else s)
  else if a = Reg.SYS_COMPAT ∧ s.flag Fld.SYS_LOCK_LOCK = true then s.busError i 5 2 a true
  else if a = Reg.SYS_UPDCTL then
    (if v.getLsbD 31 then
      let (r, s1) := (s.putb Fld.SYS_UPDCTL_SWITCH true).free
      s1.fwSwitch (r.getLsbD 0)
    else s)
  else if a = Reg.SYS_D2DREL then (if v.getLsbD 0 then s.d2dRel else s)
  else s.plain a v

/-- PWR (R524). PREEN at 0 switches both rails off (R478). -/
def State.wrPwr (s : State) (a : Nat) (v : Word) : State :=
  if a = Reg.PWR_RETCTL then
    let s1 := if v.getLsbD 0 then s.retEnd else s
    if v.getLsbD 1 then s1.retDone else s1
  else if a = Reg.PWR_CTL then
    let s1 := if v.getLsbD 0 then s.preen
      else (s.putb Fld.PWR_CTL_PREEN false).put Fld.PWR_RAIL_OK (s.get Fld.PWR_RAIL_OK &&& 0x1F)
    if v.getLsbD 8 then s1.chopRel else s1
  else s.plain a v

/-- THM (R514, R525). -/
def State.wrThm (s : State) (a : Nat) (v : Word) : State :=
  let s1 := s.plain a v
  if (a = Reg.THM_EDGES0 ∨ a = Reg.THM_EDGES1) ∧ ascending s1.edges = false then s1.raise Fld.THM_EV_EDGEERR else s1

/-- ANG (R86, R99, R109): WEDGES waits for the wrap; a written MASTER is the master. -/
def State.wrAng (s : State) (a : Nat) (v : Word) : State :=
  if a = Reg.ANG_CFG then
    let old := s.get Fld.ANG_CFG_WEDGES
    let w := wfield v 11 11
    let s1 := s.plain a (wput v 11 11 old)
    let s2 : State := { s1.put Fld.ANG_STAT_MASTER (s1.get Fld.ANG_CFG_MASTER) with
      ang := { s1.ang with masterWas := some (s.now, s.flag Fld.ANG_STAT_MASTER) } }
    if 256 ≤ w ∧ w ≤ 1024 then { s2 with ang := { s2.ang with pendWedges := if w = old then none else some w } } else s2
  else s.plain a v

/-- MSQx (R187, R229, R230): a HOLD that the track-level escalation sets in the same tick stays. -/
def State.wrMsq (s : State) (x : Act) (a : Nat) (v : Word) : State :=
  if a = Reg.MSQ_CTL x then
    (if (s.msq x).escAt = some s.now then (s.plain a v).setHold x else (s.plain a v).holdEvent x)
  else if a = Reg.MSQ_SUBGO x then (if v.getLsbD 0 then s.subGo x else s)
  else if a = Reg.MSQ_SLOTCMD x then (s.slotCmd x (wfield v 8 2) (wfield v 0 4)).syncMode
  else if a = Reg.MSQ_SLOTDONE x then s.slotDoneClear x (wfield v 0 16)
  else if a = Reg.MSQ_DOORBELL x then (s.plain a v).advance x
  else s.plain a v

/-- UCS (R262, R265). -/
def State.wrUcs (s : State) (a : Nat) (v : Word) : State :=
  let x : Act := if a % 0x10000 < 0x40 then .a else .b
  if a = Reg.UCS_SAPCTL x then (if s.isSN && x == .b then s else s.sapLoad x (v.getLsbD 0))
  else if a = Reg.UCS_SAPDATA x then (if s.isSN && x == .b then s else s.sapWrite x v)
  else s.plain a v

/-- CHn (R271, R276, R301, R305, R308): a sector already under the head keeps the settings it began with. -/
def State.wrCh (s : State) (n : Chan) (a : Nat) (v : Word) : State :=
  if a = Reg.CH_EQDATA n then s.eqWrite n v
  else if a = Reg.CH_FRECPOP n then (if v.getLsbD 0 then s.frecPop n else s)
  else if a = Reg.CH_RECCFG n then
    let s1 := (s.latchSector n).plain a v
    s1.setCh n { s1.ch n with acc := none }
  else if a = Reg.CH_CFG n ∨ a = Reg.CH_TARGET n ∨ a = Reg.CH_FE n ∨ a = Reg.CH_SYNC n ∨ a = Reg.CH_SMPAT n then
    (s.latchSector n).plain a v
  else s.plain a v

/-- WRPx (R323, R348). -/
def State.wrWrp (s : State) (x : Act) (a : Nat) (v : Word) : State :=
  if a = Reg.WRP_WGCTL x then (if v.getLsbD 0 then s.wgRelease x trgLmon else s)
  else if a = Reg.WRP_TORNPOP x then (if v.getLsbD 0 then s.tornPop x else s)
  else s.plain a v

/-- PLKx (R344, R347): a frame asked for while a microcode read waits is served after it. -/
def State.wrPlk (s : State) (x : Act) (a : Nat) (v : Word) : State :=
  let s1 := s.plain a v
  if a = Reg.PLK_REQ x ∧ v.getLsbD 31 = true then s1.setPlk x { s1.plk x with fwWaits := s1.plkReading x } else s1

/-- LPE (R425, R429, R433). -/
def State.wrLpe (s : State) (a : Nat) (v : Word) : State :=
  if a = Reg.LPE_CTL then
    let s1 := s.plain a (wput v 0 1 0)
    if v.getLsbD 0 then s1.readmit else s1
  else if a = Reg.LPE_BANK then s.bankSwap (wfield v 0 3)
  else if a = Reg.LPE_COEFDATA then s.coefWrite v
  else s.plain a v

/-- DRV (R431). -/
def State.wrDrv (s : State) (a : Nat) (v : Word) : State :=
  if a = Reg.DRV_CFG ∨ a = Reg.DRV_UACT then (s.plain a v).uaCheck else s.plain a v

/-- SPN (R450, R464, R472, R473): RUN before KEREQ. -/
def State.wrSpn (s : State) (a : Nat) (v : Word) : State :=
  if a = Reg.SPN_CTL then
    let s1 := if v.getLsbD 0 then s.runSet else if s.flag Fld.SPN_CTL_RUN then s.runClear.syncMode else s
    if v.getLsbD 1 then s1.putb Fld.SPN_CTL_KEREQ true else s1
  else if a = Reg.SPN_KENOM then s.kenom v
  else if a = Reg.SPN_CMDSRC ∧ wfield v 0 2 ≠ 0 ∧ s.get Fld.SYS_MODE_MODE ≠ 0xC then
    s.plain a (wput v 0 2 (s.get Fld.SPN_CMDSRC_SRC))
  else s.plain a v

/-- MEM (R528, R532, R544, R551, R564). -/
def State.wrMem (s : State) (a : Nat) (v : Word) : State :=
  if a = Reg.MEM_CFG then (if s.flag Fld.MEM_STAT_TRAINED then s else s.plain a v)
  else if a = Reg.MEM_CTL then
    let s1 := s.plain a (wput v 3 1 0)
    if v.getLsbD 3 then s1.zeroFill else s1
  else if a = Reg.MEM_CETCNT then
    let idx := s.get Fld.MEM_CETCTL_IDX
    (match mfind s.mem.cet idx with
      | some (ad, _, k) => if wfield v 0 8 = 0 then s.freeCet
        else { s with mem := { s.mem with cet := mput s.mem.cet idx (ad, wfield v 0 8, k) } }
      | none => s)
  else s.plain a v

/-- HWD (R609, R612, R627). -/
def State.wrHwd (s : State) (a : Nat) (v : Word) : State :=
  if a = Reg.HWD_MBCTL then (if v.getLsbD 0 then s.mbGo else s)
  else if a = Reg.HWD_CTL then (if v.getLsbD 0 then (s.plain a v).putb Fld.HWD_STAT_READY false else s)
  else s.plain a v

/-- VALE (R705, R707, R710, R724 to R726). -/
def State.wrVale (s : State) (a : Nat) (v : Word) : State :=
  if a = Reg.VALE_CFG then
    let s1 := s.plain a v
    (if s.flag Fld.VALE_CFG_EN = v.getLsbD 0 then s1 else s1.valeEnable (v.getLsbD 0)).syncMode
  else if a = Reg.VALE_KEY then s.valeKey v
  else if a = Reg.VALE_CTL then
    let s1 := if v.getLsbD 0 then s.valeClr else s
    let s2 := if v.getLsbD 1 then s1.valeJoin else s1
    if v.getLsbD 2 then s2.handOver else s2
  else s.plain a v

/-- RBK (R729, R732, R737, R743, R747). -/
def State.wrRbk (s : State) (a : Nat) (v : Word) : State :=
  if rbkWindow a then s.winWrite a v
  else if a = Reg.RBK_CTL then
    let s1 := s.plain a (wput v 0 2 0)
    let s2 := if v.getLsbD 0 then s1.flushGo else s1
    if v.getLsbD 1 then s2.snapGo else s2
  else if a = Reg.RBK_FWEV 1 then s.fwev v
  else s.plain a v

/-- INTC (R670, R672, R673, R677, R678, R683). -/
def State.wrIntc (s : State) (i : Initiator) (a : Nat) (v : Word) : State :=
  if a = Reg.INTC_CAUSE0 then s.causeWrite 0 v
  else if a = Reg.INTC_CAUSE1 then s.causeWrite 1 v
  else if a = Reg.INTC_TMR0 then s.tmrStart 0 (wfield v 0 24)
  else if a = Reg.INTC_TMR1 then s.tmrStart 1 (wfield v 0 24)
  else if a = Reg.INTC_CORE then
    let s1 := if v.getLsbD 16 then s.rdm 0 else s
    if v.getLsbD 17 then s1.rdm 1 else s1
  else if a = Reg.INTC_WDCFG then
    let s1 := s.plain a (v &&& 0x3FF#32)
    let s2 := if v.getLsbD 16 then s1.wdEnable 0 else s1
    if v.getLsbD 17 then s2.wdEnable 1 else s2
  else if a = Reg.INTC_WDKICK then s.wdKick i v
  else s.plain a v

/-- XSP (R687, R691). -/
def State.wrXsp (s : State) (a : Nat) (v : Word) : State :=
  if a = Reg.XSP_CMD then
    let s1 := s.plain a (wput v 31 1 0)
    if v.getLsbD 31 then s1.xspGo else s1
  else s.plain a v

/-- The trace ring lies wholly in general SRAM (R694). -/
def State.trcFits (s : State) : Bool :=
  let b := s.get Fld.DBG_TRCBASE_BASE * 2 ^ 12
  decide (0x20000000 ≤ b) && decide (b + s.trcSize ≤ 0x20800000)

/-- DBG (R692 to R694, R697): at level 0 the UART and trace registers ignore writes. -/
def State.wrDbg (s : State) (a : Nat) (v : Word) : State :=
  if 0x20 ≤ a % 0x10000 ∧ s.dbgLevel = 0 then s
  else if a = Reg.DBG_UARTTX then s.uartPut (v.truncate 8)
  else if a = Reg.DBG_TRCCFG then
    let s1 := s.plain a v
    if !v.getLsbD 16 then s1
    else if !s1.trcFits then s1.putb Fld.DBG_TRCCFG_EN false
    else if s.flag Fld.DBG_TRCCFG_EN then s1
    else (s1.put Fld.DBG_TRCWP_OFFSET 0).putb Fld.DBG_TRCWP_WRAPPED false
  else s.plain a v

/-- A 32-bit write of a register by an initiator (R60, R64, R69). -/
def State.regWrite (s : State) (i : Initiator) (a : Nat) (v : Word) : State :=
  if s.fusedOff a then s
  else
    match latOf a with
    | some (lat, writable) =>
      if !writable then s
      else if a = lat then (s.wr lat v).wr (lat + 4) (s.holding i lat)
      else s.setHolding i lat v
    | none =>
      match (a - 0x80000000) / 0x10000 with
      | 0 => s.wrSys i a v
      | 1 => s.wrPwr a v
      | 2 => s.wrThm a v
      | 3 => s.wrAng a v
      | 4 => s.wrMsq .a a v
      | 5 => s.wrMsq .b a v
      | 6 => s.wrUcs a v
      | 8 => s.wrCh 0 a v
      | 9 => s.wrCh 1 a v
      | 10 => s.wrCh 2 a v
      | 11 => s.wrCh 3 a v
      | 12 => s.wrWrp .a a v
      | 13 => s.wrWrp .b a v
      | 14 => s.wrPlk .a a v
      | 15 => s.wrPlk .b a v
      | 16 => s.wrLpe a v
      | 17 => s.wrSpn a v
      | 18 => s.wrDrv a v
      | 20 => s.wrMem a v
      | 21 => if a = Reg.BUF_POOL then s.bufPool v
              else if a = Reg.BUF_SEGCTL then (if v.getLsbD 31 then s.segRelease (wfield v 0 14) else s)
              else s.plain a v
      | 22 => if a = Reg.CPH_LRDATA then s.lrWrite v else s.plain a v
      | 23 => s.wrHwd a v
      | 27 => if a = Reg.CCX_CTXCMD then s.ctxCmd v else s.plain a v
      | 28 => s.wrVale a v
      | 29 => s.wrRbk a v
      | 30 => s.wrIntc i a v
      | 31 => s.wrXsp a v
      | 32 => s.wrDbg a v
      | _ => s.plain a v

/-- A read of a power-die register while the link has not trained after a reset waits (R797). -/
def State.powerWaits (s : State) (a : Nat) : Bool :=
  let w := (a - 0x80000000) / 0x10000
  (w == 1 || w == 17 || w == 18) && !s.flag Fld.SYS_D2DSTAT_TRAINED && !s.d2d.trainedOnce

/-- A 32-bit read of a register by an initiator, with its side effects (R60, R62, R69). -/
def State.regRead (s : State) (i : Initiator) (a : Nat) : Word × State :=
  if s.fusedOff a then (0, s)
  else if rbkWindow a then s.retWord (s.winOff a)
  else
    match latOf a with
    | some (lat, _) =>
      if a = lat then (s.view a, s.setShadow i lat (s.view (lat + 4))) else (s.shadow i lat, s)
    | none =>
      if s.offBits a = 0xFFFFFFFF#32 then (0, s)
      else if a = Reg.UCS_SAPDATA .a then s.sapRead .a
      else if a = Reg.UCS_SAPDATA .b then s.sapRead .b
      else if a = Reg.CH_EQDATA 0 then s.eqRead 0
      else if a = Reg.CH_EQDATA 1 then s.eqRead 1
      else if a = Reg.CH_EQDATA 2 then s.eqRead 2
      else if a = Reg.CH_EQDATA 3 then s.eqRead 3
      else if a = Reg.LPE_COEFDATA then s.coefRead
      else if a = Reg.CPH_LRDATA then s.lrRead
      else if a = Reg.CCX_POPA then s.popRead 0
      else if a = Reg.CCX_POPB then s.popRead 1
      else if a = Reg.CCX_POPN then s.popRead 2
      else if a = Reg.DBG_UARTRX then s.uartGet
      else if a = Reg.INTC_CAUSE0 then s.causeRead 0
      else if a = Reg.INTC_CAUSE1 then s.causeRead 1
      else (s.view a &&& ~~~(s.offBits a), s)

/-- SAPDATA_ACCESS (R261, R262). -/
def execSapdataAccess (i : Initiator) (x : Act) (write : Bool) (v : Word) (s : State) : Out :=
  if !s.actOk x then (if write then .next s else .next (s.setRead i 0))
  else if write then .next (s.sapWrite x v)
  else .next ((s.sapRead x).2.setRead i ((s.sapRead x).1.zeroExtend 64))

/-- SAPWOOD_LOAD_OPEN (R261, R262). -/
def execSapwoodLoadOpen (x : Act) (load : Bool) (s : State) : Out := if s.actOk x then .next (s.sapLoad x load) else .next s

end Sys2Proof.Machine
end

