-- ==== Sys2Proof/Machine/Link.lean ====
section
/-!
DEFINITION. The die-to-die link (R38 to R44, R797) and the accesses of the register interface (R56 to R80).
-/
namespace Sys2Proof.Machine

/-! ### The link -/

/-- A remap in progress ends (R38). -/
def State.remapEnd (s : State) : State :=
  { s with d2d := { s.d2d with remapSent := false, remapAcked := false, remapLane := 0xF, limitUs := 2 } }

/-- Link loss (R39, R40): the logic die squashes and cuts the gates, the power die enters its safe state; the link trains anew (R41). -/
def State.linkDown (s : State) : State :=
  ((s.remapEnd.putb Fld.SYS_D2DSTAT_TRAINED false).linkLoss.safeEnter).syncMode

/-- FRAME_CRC_ERROR (R38): the frame is replayed. -/
def execFrameCrcError (s : State) : Out := .next (s.bump Fld.SYS_D2DCNT_REPLAY 1)

/-- LANE_FAILURE (R38, R44): lanes 0 to 7 carry data, 8 is the spare. A remap frame is sent; with the spare already in use, at half
width, or with a remap under way the failure is link loss. A spare that is not in use carries nothing; a data lane that fails after it
is link loss at once (DESIGN CHOICE, log 68). -/
def execLaneFailure (lane : Nat) (s : State) : Out :=
  if !s.flag Fld.SYS_D2DSTAT_TRAINED || decide (8 < lane) then .next s
  else
    let s1 : State := { s with d2d := { s.d2d with bad := s.d2d.bad ||| 2 ^ lane } }
    if s.flag Fld.SYS_D2DSTAT_SPARE_USED || s.flag Fld.SYS_D2DSTAT_HALF || s.d2d.remapSent then .next s1.linkDown
    else if lane = 8 then .next s1
    else if s.d2d.bad.testBit 8 then .next s1.linkDown
    else .next { s1 with d2d := { s1.d2d with remapSent := true, remapLane := lane } }

/-- LANE_REMAP_ACK (R38): the LPE outputs hold, and the no-frame limit is 8 us. -/
def execLaneRemapAck (s : State) : Out :=
  if s.d2d.remapSent then .next { s with d2d := { s.d2d with remapAcked := true, limitUs := 8, ackAt := s.now } } else .next s

/-- LANE_REMAP_COMPLETE (R38). -/
def execLaneRemapComplete (s : State) : Out :=
  if s.d2d.remapAcked then
    .next (((s.remapEnd.putb Fld.SYS_D2DSTAT_SPARE_USED true).put Fld.SYS_D2DSTAT_SPARE_LANE s.d2d.remapLane).raise Fld.SYS_EV_D2DLANE)
  else .next s

/-- LANE_REMAP_TIMEOUT (R38): 8 us after the acknowledgement. -/
def execLaneRemapTimeout (s : State) : Out :=
  if s.d2d.remapAcked && decide (s.d2d.ackAt + s.d2d.limitUs * 800 ≤ s.now) then .next s.linkDown else .next s

/-- LINK_LOSS_SAFE_STATE (R39, R40). -/
def execLinkLossSafeState (s : State) : Out := .next s.linkDown

/-- A 32-bit read of the register space returns n of its bytes from an address on (R67). -/
def State.readRegs (s : State) (i : Initiator) (n a : Nat) : State :=
  let (w, s1) := s.regRead i (a / 4 * 4)
  s1.setRead i (BitVec.ofNat 64 (w.toNat / 2 ^ (8 * (a % 4)) % 2 ^ (8 * n)))

/-- A 64-bit read of the register space (R65, R66). -/
def State.regRead64 (s : State) (i : Initiator) (a : Nat) : BitVec 64 × State :=
  let (lo, s1) := s.regRead i a
  let (hi, s2) := s1.regRead i (a + 4)
  (BitVec.ofNat 64 (lo.toNat + hi.toNat * 2 ^ 32), s2)

/-- A 64-bit read of the register space returns its value. -/
def State.readRegs64 (s : State) (i : Initiator) (a : Nat) : State := (s.regRead64 i a).2.setRead i (s.regRead64 i a).1

/-- A read of n bytes of the register space: at once, or when the link has trained. -/
def State.readSoon (s : State) (i : Initiator) (n a : Nat) : State :=
  if s.powerWaits a then { s with d2d := { s.d2d with reads := s.d2d.reads ++ [(i, n, a)] } } else s.readRegs i n a

/-- The reads that waited for the link complete, oldest first (R797). -/
def State.readsDue (s : State) : State :=
  s.d2d.reads.foldl (fun t e => if e.2.1 = 8 then (t.readRegs64 e.1 e.2.2) else t.readRegs e.1 e.2.1 e.2.2) { s with d2d := { s.d2d with reads := [] } }

/-- The data lane among 0 to 7 that does not pass. -/
def failedData (passing : Nat) : Option Nat := (List.range 8).find? (fun k => !passing.testBit k)

/-- LINK_TRAINING_COMPLETE (R44, R797): `passing`, the lanes that passed. With eight or more the link is at full width, the spare in
place of a failed data lane; with four to seven at half width; with fewer it does not train. A half width and a spare in use last
until a PIN or stronger reset. The first training after such a reset is no retrain. No link trains while BOR or RESET_L holds (R44,
R797). -/
def execLinkTrainingComplete (passing : BitVec 9) (s : State) : Out :=
  let n := popcount 9 passing.toNat
  if s.flag Fld.SYS_D2DSTAT_TRAINED || s.pwr.bor || s.pins.resetL then .next s
  else if n < 4 then .next { s with d2d := { s.d2d with bad := 511 - passing.toNat } }
  else
    let s1 := if s.d2d.trainedOnce then s.bump Fld.SYS_D2DCNT_RETRAIN 1 else s
    let s2 := ({ s1 with d2d := { s1.d2d with bad := 511 - passing.toNat, trainedOnce := true } }).putb Fld.SYS_D2DSTAT_TRAINED true
    if n < 8 then .next ((s2.putb Fld.SYS_D2DSTAT_HALF true).raise Fld.SYS_EV_D2DLANE).readsDue
    else
      match failedData passing.toNat with
      | some k => .next ((s2.putb Fld.SYS_D2DSTAT_SPARE_USED true).put Fld.SYS_D2DSTAT_SPARE_LANE k).readsDue
      | none => .next s2.readsDue

/-- D2D_RELEASE (R41). -/
def execD2dRelease (s : State) : Out := .next s.d2dRel

/-! ### Accesses -/

/-- The register space (R56). -/
def inRegs (a : Nat) : Bool := decide (0x80000000 ≤ a) && decide (a < 0x81000000)

/-- The boot ROM region (R56). -/
def inRom (a : Nat) : Bool := decide (a < 0x10000)

/-- The initiator reaches the address map: the debug port only at level 2 (R692, R696). -/
def State.reaches (s : State) (i : Initiator) : Bool :=
  match i with
  | .dbg => s.dbgLevel == 2
  | _ => true

/-- The cause under which an access fault is delivered (R57, R68, R664): 1 load and load-reserved, 2 store/AMO, 3 instruction. -/
def accCause : AccKind → Nat
  | .lr => 1
  | .load => 1
  | .store => 2
  | .amo => 2
  | .fetch => 3

/-- An access that faults and is logged (R67, R78): KIND 7 with SIZE 2. -/
def State.faultLogged (s : State) (i : Initiator) (kind size a : Nat) (k : AccKind) : State :=
  (s.busError i kind (if kind = 7 then 2 else size) a (k == .store || k == .amo)).busFault i (accCause k)

/-- An access that the register space or no region takes (R57, R67); none: it is performed. `size`: 0 to 3 for 8 to 64 bits. A
misaligned load from the boot ROM is performed (DESIGN CHOICE, log 91). -/
def State.accessKind (s : State) (size a : Nat) (k : AccKind) : Option Nat :=
  let mem := s.inMem a (2 ^ size)
  if k = .amo ∨ k = .lr then (if mem then none else some 3)
  else if mem then none
  else if inRegs a then
    (if k = .fetch then some 7 else if a % 2 ^ size ≠ 0 then some 2 else none)
  else if inRom a then (if k = .store then some 6 else none)
  else some 4

/-- The bytes that a core's load returns: its caches' dirty bytes over memory (R665). -/
def State.overlay (s : State) (i : Initiator) (a : Nat) (l : List Byte) : List Byte :=
  if i = .dbg then l else l.zipIdx.map (fun e => (mfind s.apc.dirty (a + e.2)).getD e.1)

/-- Bytes that a core stores go to the data caches; the debug port's go to memory (R665, R666). -/
def State.storeBytes (s : State) (i : Initiator) (a : Nat) (l : List Byte) : State :=
  if i = .dbg then State.bytesPut 2 l a s
  else { s with apc := { s.apc with dirty := l.zipIdx.foldl (fun d e => mput d (a + e.2) e.1) s.apc.dirty } }

/-- A load of n bytes of memory; a poisoned word is a load access fault (R542). The boot ROM's content is not given: it is free. -/
def State.loadMem (s : State) (i : Initiator) (n a : Nat) : State :=
  if inRom a then
    let (w, s1) := s.free
    s1.setRead i (BitVec.ofNat 64 (w.toNat % 2 ^ (8 * n)))
  else
    let ((l, ok), s1) := State.bytesAt i.idx n a s
    if ok then s1.setRead i (BitVec.ofNat 64 (leNat (s1.overlay i a l)))
    else s1.busFault i 1

/-- A 32-bit write (R60, R64, R67): to the register space, to memory, or one that faults. -/
def State.write32 (s : State) (i : Initiator) (a : Nat) (v : Word) : State :=
  if !s.reaches i then s
  else
    match s.accessKind 2 a .store with
    | some k => s.faultLogged i k 2 a .store
    | none => if inRegs a then s.regWrite i a v else s.storeBytes i a (leBytes 4 v.toNat)

/-- REGISTER_WRITE (R60). -/
def execRegisterWrite (i : Initiator) (addr : Nat) (v : Word) (s : State) : Out := .next (s.write32 i addr v)

/-- LAT_READ (R62): a 32-bit read of a LAT, or of any other location. -/
def execLatRead (i : Initiator) (addr : Nat) (s : State) : Out :=
  if !s.reaches i then .next s
  else
    match s.accessKind 2 addr .load with
    | some k => .next (s.faultLogged i k 2 addr .load)
    | none =>
      if inRegs addr then .next (s.readSoon i 4 addr) else .next (s.loadMem i 4 addr)

/-- LATH_WRITE (R64). -/
def execLathWrite (i : Initiator) (addr : Nat) (v : Word) (s : State) : Out := .next (s.write32 i addr v)

/-- LAT_WRITE (R64). -/
def execLatWrite (i : Initiator) (addr : Nat) (v : Word) (s : State) : Out := .next (s.write32 i addr v)

/-- A 64-bit write of the register space (R65, R66): a pair is one transaction; other words are two 32-bit accesses, low word first. -/
def State.regWrite64 (s : State) (i : Initiator) (a : Nat) (v : BitVec 64) : State :=
  match latOf a with
  | some (lat, _) => (s.regWrite i (lat + 4) ((v >>> 32).truncate 32)).regWrite i lat (v.truncate 32)
  | none => (s.regWrite i a (v.truncate 32)).regWrite i (a + 4) ((v >>> 32).truncate 32)

/-- ACCESS_64BIT (R65, R66, R67, R664). -/
def execAccess64bit (i : Initiator) (write : Bool) (addr : Nat) (v : BitVec 64) (s : State) : Out :=
  let k : AccKind := if write then .store else .load
  if !s.reaches i then .next s
  else
    match s.accessKind 3 addr k with
    | some e => .next (s.faultLogged i e 3 addr k)
    | none =>
      if inRegs addr then
        (if write then .next (s.regWrite64 i addr v)
        else .next (if s.powerWaits addr then { s with d2d := { s.d2d with reads := s.d2d.reads ++ [(i, 8, addr)] } } else s.readRegs64 i addr))
      else if write then .next (s.storeBytes i addr (leBytes 8 v.toNat))
      else .next (s.loadMem i 8 addr)

/-- NARROW_WRITE (R67): an 8- or 16-bit write. A naturally aligned one to the register space is ignored and logged; elsewhere it is an
ordinary store, or faults. -/
def execNarrowWrite (i : Initiator) (addr : Nat) (half : Bool) (v : BitVec 16) (s : State) : Out :=
  let size := b2n half
  if !s.reaches i then .next s
  else
    match s.accessKind size addr .store with
    | some e => .next (s.faultLogged i e size addr .store)
    | none =>
      if inRegs addr then .next (s.busError i 1 size addr true)
      else .next (s.storeBytes i addr (leBytes (size + 1) v.toNat))

/-- ACCESS_FAULT (R57, R67): an access of 8 x 2^size bits. One that R67 performs is no fault: a load, narrow ones among them, is
performed; the other kinds carry no data here, and a misaligned LR, SC or AMO raises its address-misaligned exception (R664). A write to a field that SYS_LOCK locks is ignored and logged (R775). -/
def execAccessFault (i : Initiator) (kind : AccKind) (size addr : Nat) (s : State) : Out :=
  if !s.reaches i || decide (3 < size) then .next s
  else
    match s.accessKind size addr kind with
    | some e => .next (s.faultLogged i e size addr kind)
    | none =>
      if kind = .load then
        (if !inRegs addr then .next (s.loadMem i (2 ^ size) addr)
        else if size = 3 then .next (if s.powerWaits addr then { s with d2d := { s.d2d with reads := s.d2d.reads ++ [(i, 8, addr)] } } else s.readRegs64 i addr)
        else .next (s.readSoon i (2 ^ size) addr))
      else if addr % 2 ^ size ≠ 0 ∧ kind = .lr then .next (s.busFault i 4)
      else if addr % 2 ^ size ≠ 0 ∧ kind = .amo then .next (s.busFault i 5)
      else if kind = .store ∧ size = 2 ∧ addr = Reg.SYS_COMPAT ∧ s.flag Fld.SYS_LOCK_LOCK = true then .next (s.busError i 5 2 addr true)
      else .next s

end Sys2Proof.Machine
end

