-- ==== Sys2Proof/Machine/Position.lean ====
section
/-!
DEFINITION. Positioning, media, assist, context and ordering instructions (R153 to R178) and the completions of their work.
-/
namespace Sys2Proof.Machine

/-- A positioning or media instruction's item, issued and begun when it may. -/
def State.issueWork (s : State) (x : Act) (op : Nat) (f : FmtQ) (legal : Bool)
    (kind : Nat → Arch → State → Except Nat (WorkKind × State)) : State :=
  (s.issueQ x op f legal (fun k a t =>
    match kind k a t with
    | .ok (wk, t1) => .ok (t1.addWork x (mkWork wk ((a.pc + 2 ^ 32 - 8) % 2 ^ 32) (f.angle t x a)))
    | .error c => .error c)).advance x

/-- A SEEK, FOLLOW or OFFSET is issued: an operand that its rule refuses, or a wedge number its qualifier may not have (R135), stops it
once it is ready to begin, behind MSQx_ERR_STATE (R801). -/
def State.issuePos (s : State) (x : Act) (op : Nat) (f : FmtQ) (legal : Bool) (kind : Arch → State → (WorkKind × Bool) × State) : State :=
  (s.issue x op f.g f.n f.p (legal && f.aqLegal) (fun _ a t =>
    let ((wk, bad), t1) := kind a t
    .ok (t1.addWork x { mkWork wk ((a.pc + 2 ^ 32 - 8) % 2 ^ 32) (if f.wedgeOk t then f.angle t x a else none) with
      opErr := bad || !f.wedgeOk t }))).advance x

/-- SEEK (R153, R154): CHS [23:22], TR1 [21:17], TR2 [16:12]; a target's bits [31:24] must be 0, each target in a zone
(R352), and a pair within the reach of R369, all judged once it is ready (R801); the seek is announced (R721). -/
def execSeek (x : Act) (f : FmtQ) (s : State) : Out :=
  let chs := f.ob 22 2
  .next (s.issuePos x 0x40 f (chs != 3 && f.ob 0 12 == 0 && (inMask (chsMask chs) false || f.ob 17 5 == 0)
      && (inMask (chsMask chs) true || f.ob 12 5 == 0)) (fun a t =>
    let m := chsMask chs
    let t1 := (a.reg (f.ob 17 5)).toNat
    let t2 := (a.reg (f.ob 12 5)).toNat
    ((.seek m t1 t2, (inMask m false && decide (2 ^ 24 ≤ t1)) || (inMask m true && decide (2 ^ 24 ≤ t2))), t.announce x m t1 t2)))

/-- FOLLOW (R155): CHS [23:22], WR [21]. -/
def execFollow (x : Act) (f : FmtQ) (s : State) : Out :=
  let chs := f.ob 22 2
  .next (s.issuePos x 0x41 f (chs != 3 && f.ob 0 21 == 0) (fun _ t => ((.follow (chsMask chs) (f.ob 21 1 == 1), false), t)))

/-- OFFSET (R156): CHS [23:22], OFS [21:13] signed; a magnitude above 128, or one that no VCM position can serve (R371), is
MSQx_ERR_OPERAND once it is ready (R801). -/
def execOffset (x : Act) (f : FmtQ) (s : State) : Out :=
  let chs := f.ob 22 2
  .next (s.issuePos x 0x42 f (chs != 3 && f.ob 0 13 == 0) (fun _ t =>
    let o := sgn 9 (f.ob 13 9)
    ((.offset (chsMask chs) o, decide (128 < o ∨ o < -128)), t)))

/-- HEADSEL (R157): CHN [23], HEAD [22:19]; a HEAD above 11 or not enabled is MSQx_ERR_OPERAND, and one bound to the other channel when
it is ready to begin. -/
def execHeadsel (x : Act) (f : FmtQ) (s : State) : Out :=
  .next (s.issueWork x 0x43 f (f.ob 0 19 == 0) (fun _ _ t =>
    let ch := f.ob 23 1
    let h := f.ob 19 4
    if 11 < h ∨ !(t.get (Fld.MSQ_HEADS_EN x)).testBit h then .error errOperand
    else .ok (.headsel ch h, t)))

/-- LOADH (R159): the actuator PARKED with the spindle at speed, and none of the bars of R491, R788 and R798. -/
def execLoadh (x : Act) (f : FmtQ) (s : State) : Out :=
  .next (s.issueWork x 0x44 f (f.ops == 0) (fun _ _ t =>
    if !t.canLoad x then .error errState else .ok (.loadh, t)))

/-- UNLOADH (R159): the heads loaded. -/
def execUnloadh (x : Act) (f : FmtQ) (s : State) : Out :=
  .next (s.issueWork x 0x45 f (f.ops == 0) (fun _ _ t =>
    if !t.loaded x then .error errState else .ok (.unloadh, t)))

/-- The positions of a run that a skip mask suppresses (R163): bit i, i = 0 to 31, below COUNT. -/
def skipped (count mask : Nat) : Nat := popcount (min count 32) mask

/-- The registers of the second channel stand one above (R164). -/
def second1 (both : Bool) : Nat := if both then 1 else 0

/-- A channel's register advance of a media instruction (R165): the b register and the tag seed. -/
def mediaAdvance (op : MediaOp) (a : Arch) (second : Bool) (b : Nat) (n : Nat) : Arch :=
  let seed := a.seed second
  let moved := a.setSeed second { seed with lba := (seed.lba + n) % 2 ^ 35 }
  let bumpB (a : Arch) (k : Nat) : Arch := a.setReg (0x20 + b) (a.reg (0x20 + b) + BitVec.ofNat 32 k)
  match op with
  | .read => bumpB moved n
  | .write => bumpB moved n
  | .verify => moved
  | .scan => bumpB a (2 * n)
  | .eraseb => a

/-- A media instruction (R160 to R167): the operands are read at issue (R133), the b registers and seeds advance at once in
the speculative state (log 21), and the item waits for its turn; what depends on the heads and their zone is judged when it is ready
(R161, R167, R801). -/
def State.issueMedia (s : State) (x : Act) (opc : Nat) (op : MediaOp) (f : FmtQ) : State :=
  let chs := f.ob 22 2
  let count := f.ob 14 8
  let buf := f.ob 11 3
  let sec := f.ob 6 5
  let skr := f.ob 1 5
  let skip := f.ob 0 1 == 1
  let both := chs == 2
  let unusedOk := (match op with
    | .verify => buf == 0
    | .eraseb => buf == 0 && skr == 0 && !skip
    | .scan => skr == 0 && !skip
    | _ => true) && (skip || skr == 0)
  s.issueWork x opc f (chs != 3 && unusedOk) (fun k a t =>
    if op.needsCtx && a.ctx == 0x400 then .error errCtx
    else
      let m := chsMask chs
      let usesB := match op with
        | .verify => false
        | .eraseb => false
        | _ => true
      let d := second1 both
      let sec0 := (a.reg sec).toNat % 2 ^ 12
      let sec1 := (a.reg (sec + d)).toNat % 2 ^ 12
      let mask (r : Nat) : Nat := if skip then (a.reg r).toNat else 0
      if count == 0 || (skip && decide (32 < count)) || (both && (sec == 31 || skr == 31 || (usesB && buf % 2 == 1))) then .error errOperand
      else
        let sk0 := mask skr
        let sk1 := mask (skr + d)
        let n0 := count - skipped count sk0
        let n1 := count - skipped count sk1
        let a1 := if both then mediaAdvance op (mediaAdvance op a false buf n0) true (buf + 1) n1
          else mediaAdvance op a (chs == 1) buf n0
        .ok (.media {
          op := op, chs := m, count := count, sec0 := sec0, sec1 := if both then sec1 else sec0, skip0 := sk0,
          skip1 := if both then sk1 else sk0, buf0 := (a.reg (0x20 + buf)).toNat, buf1 := (a.reg (0x20 + buf + d)).toNat,
          seed0 := a.seed0, seed1 := a.seed1, ctx := a.ctx, lead0 := (t.msq x).pos0.lead, lead1 := (t.msq x).pos1.lead }, t.setSpec x k a1))

/-- READ (R165). -/
def execRead (x : Act) (f : FmtQ) (s : State) : Out := .next (s.issueMedia x 0x60 .read f)

/-- WRITE (R165). -/
def execWrite (x : Act) (f : FmtQ) (s : State) : Out := .next (s.issueMedia x 0x61 .write f)

/-- VERIFY (R165, R166). -/
def execVerify (x : Act) (f : FmtQ) (s : State) : Out := .next (s.issueMedia x 0x62 .verify f)

/-- SCAN (R166, R169): COUNT units of 4,096 samples per reader. -/
def execScan (x : Act) (f : FmtQ) (s : State) : Out := .next (s.issueMedia x 0x63 .scan f)

/-- ERASEB (R165, R166). -/
def execEraseb (x : Act) (f : FmtQ) (s : State) : Out := .next (s.issueMedia x 0x64 .eraseb f)

/-- ASSIST (R171): IMM CHS [1:0], EN [2], OVR [3]; OVR takes the setpoint from RS1[11:0]. Completes at the next wedge
boundary. -/
def execAssist (x : Act) (f : FmtR) (s : State) : Out :=
  let ovr := f.ib 3 1 == 1
  .next ((s.issueR x 0x80 f (f.rd == 0 && f.rs2 == 0 && !f.i && f.ib 4 28 == 0 && f.ib 0 2 != 3
      && (if ovr then readable f.rs1 else f.rs1 == 0)) (fun _ a t =>
    let sp := if ovr then some ((a.reg f.rs1.toNat).toNat % 2 ^ 12) else none
    .ok (t.addWork x (mkWork (.assist (chsMask (f.ib 0 2)) (f.ib 2 1 == 1) sp) ((a.pc + 2 ^ 32 - 8) % 2 ^ 32) none)))).advance x)

/-- HEAT (R171): IMM CHS [1:0], OVR [3], MODE [5:4]; from the next wedge boundary. -/
def execHeat (x : Act) (f : FmtR) (s : State) : Out :=
  let ovr := f.ib 3 1 == 1
  .next ((s.issueR x 0x81 f (f.rd == 0 && f.rs2 == 0 && !f.i && f.ib 6 26 == 0 && f.ib 2 1 == 0 && f.ib 0 2 != 3
      && f.ib 4 2 != 3 && (if ovr then readable f.rs1 else f.rs1 == 0)) (fun _ a t =>
    let pw := if ovr then some ((a.reg f.rs1.toNat).toNat % 2 ^ 12) else none
    .ok (t.addWork x (mkWork (.heat (chsMask (f.ib 0 2)) (f.ib 4 2) pw) ((a.pc + 2 ^ 32 - 8) % 2 ^ 32) none)))).advance x)

/-- PREHEAT (R171, R314, R326): IMM CHS [1:0], LEAD [19:4]; at issue. No effect with AMODE 0. -/
def execPreheat (x : Act) (f : FmtR) (s : State) : Out :=
  .next ((s.issueR x 0x82 f (f.immOnlyR && f.ib 20 12 == 0 && f.ib 2 2 == 0 && f.ib 0 2 != 3) (fun _ _ t =>
    let m := t.msq x
    let c := chsMask (f.ib 0 2)
    let lead := f.ib 4 16
    if lead == 0 && !t.ptAll x c then .error errState
    else if t.get (Fld.WRP_CFG_AMODE x) == 0 then .ok t
    else
      let m1 := if inMask c false then m.setPos false { m.pos0 with lead := lead } else m
      .ok (t.setMsq x (if inMask c true then m1.setPos true { m1.pos1 with lead := lead } else m1)))).advance x)

/-- BIND (R172): CCX is asked for context RS1[9:0]; issue holds until it answers. -/
def execBind (x : Act) (f : FmtR) (s : State) : Out :=
  .next ((s.issueR x 0xA0 f (f.rd == 0 && readable f.rs1 && f.rs2 == 0 && !f.i && f.imm == 0) (fun _ a t =>
    .ok (t.setMsq x { t.msq x with wait := some (.bind ((a.reg f.rs1.toNat).toNat % 2 ^ 10)) }))).advance x)

/-- BADV (R174): RS1 names a b register; its issue-time value goes to BUF at the next commit. -/
def execBadv (x : Act) (f : FmtR) (s : State) : Out :=
  .next ((s.issueR x 0xA1 f (f.rd == 0 && isB f.rs1 && f.rs2 == 0 && !f.i && f.imm == 0) (fun _ a t =>
    .ok (t.setMsq x { t.msq x with staged := (t.msq x).staged ++ [.badv a.ctx (a.reg f.rs1.toNat).toNat] }))).advance x)

/-- TAG (R173): IMM[1:0] the channels; RS1 the low LBA word, RS2 the rest and the generation. RS2[15:3], which the rule gives as 0,
is ignored (DESIGN CHOICE, log 91). -/
def execTag (x : Act) (f : FmtR) (s : State) : Out :=
  .next ((s.issueR x 0xA2 f (f.rd == 0 && readable f.rs1 && readable f.rs2 && !f.i && f.ib 2 30 == 0 && f.ib 0 2 != 3)
    (fun k a t =>
      let lo := (a.reg f.rs1.toNat).toNat
      let hi := (a.reg f.rs2.toNat).toNat
      let sd : Seed := { lba := lo + (hi % 8) * 2 ^ 32, gen := hi / 2 ^ 16 }
      let c := chsMask (f.ib 0 2)
      let a1 := if inMask c false then a.setSeed false sd else a
      .ok (t.setSpec x k (if inMask c true then a1.setSeed true sd else a1)))).advance x)

/-- POST (R175): IMM STATUS [7:0], FINAL [8]; credited at the next commit. -/
def execPost (x : Act) (f : FmtR) (s : State) : Out :=
  .next ((s.issueR x 0xA3 f (f.immOnlyR && f.ib 9 23 == 0) (fun _ a t =>
    .ok (t.setMsq x { t.msq x with staged := (t.msq x).staged ++ [.post a.ctx (f.ib 0 8) (f.ib 8 1 == 1)] }))).advance x)

/-- COMMIT (R176): a commit point; issue goes on. -/
def execCommit (x : Act) (f : FmtR) (s : State) : Out :=
  .next ((s.issueR x 0xC0 f f.bareR (fun k _ t => .ok (t.registerCommit x k 0))).advance x)

/-- FENCE (R177): issue holds until every earlier instruction has completed. -/
def execFence (x : Act) (f : FmtR) (s : State) : Out :=
  .next ((s.issueR x 0xC1 f f.bareR (fun _ _ t =>
    .ok (t.setMsq x { t.msq x with wait := some .fence }))).advance x)

/-- CHKPT (R178): the next commit writes the record; MSQx_ERR_OPERAND with a call stack or a CKBASE outside SRAM. -/
def execChkpt (x : Act) (f : FmtR) (s : State) : Out :=
  .next ((s.issueR x 0xC2 f f.bareR (fun _ a t =>
    let base := t.get (Fld.MSQ_CKBASE_BASE x) * 2 ^ 12
    if a.stack ≠ [] ∨ base < 0x20000000 ∨ 0x20800000 < base + 4096 then .error errOperand
    else .ok (t.setMsq x { t.msq x with staged := (t.msq x).staged ++ [.chkpt] }))).advance x)

end Sys2Proof.Machine
end

