-- ==== Sys2Proof/Machine/Tick.lean ====
section
/-!
DEFINITION. One tick of 1.25 ns (R81 to R89, R102): what happens while no command waits (log 1).
-/
namespace Sys2Proof.Machine

/-- A target lies in the half-open interval from the angle before, exclusive, to the angle after, inclusive (R102); both as ATS. -/
def passed (old new target : Nat) : Bool :=
  let d := (target + 2 ^ 32 - old % 2 ^ 32) % 2 ^ 32
  decide ((if d = 0 then 2 ^ 32 else d) ≤ (new + 2 ^ 48 - old) % 2 ^ 48)

/-- The advance of a tick in 2^-16 ac, and the part of the correction that is then left (R87, R89): ANG_SPEED, plus or minus at most
half of it, rounded down, until the correction is absorbed. -/
def tickAdvance (speed : Nat) (slew : Int) : Nat × Int :=
  let part := min slew.natAbs (speed / 2)
  if 0 ≤ slew then (speed + part, slew - part) else (speed - part, slew + part)

/-- The comparators of an actuator that the angle passes: each is marked, and its firing waits as a command (R102 to R104). -/
def State.fireCmps (s : State) (x : Act) (old new : Nat) : State :=
  let due := (s.cmps x).filter (fun e => !e.2.hit && passed old new e.2.target)
  let s1 := s.setCmps x ((s.cmps x).map (fun e => if passed old new e.2.target then (e.1, { e.2 with hit := true }) else e))
  { s1 with pending := s1.pending ++ due.map (fun e => Instr.comparatorFire x (e.1 % 64)) }

/-- ANGLE_WRAP (R82, R102): the angle passes to 0 and the revolution count rises; the armed targets passed on the way fire in the tick
that follows. While VALID is 0 the angle stands still (R97). -/
def execAngleWrap (s : State) : Out :=
  if !s.flag Fld.ANG_STAT_VALID then .next s
  else
    let new := (s.ang.ats / 2 ^ 32 + 1) * 2 ^ 32
    .next { s with ang := { s.ang with ats := new % 2 ^ 48, frac := 0, prev := some (s.ang.prev.getD s.ang.ats) } }.wrapStep

/-- The angle's part of a tick (R82, R87, R89): nothing while VALID is 0 (R97). -/
def State.angleTick (s : State) : State :=
  if !s.flag Fld.ANG_STAT_VALID then s
  else
    let (adv, left) := tickAdvance (s.rd Reg.ANG_SPEED).toNat s.ang.slew
    let sum := s.ang.frac + adv
    let old := s.ang.prev.getD s.ang.ats
    let new := s.ang.ats + sum / 2 ^ 16
    let s1 : State := { s with ang := { s.ang with ats := new % 2 ^ 48, prev := none, frac := sum % 2 ^ 16, slew := left } }
    let s2 := (s1.fireCmps .a old new).fireCmps .b old new
    if s.ang.ats / 2 ^ 32 = new / 2 ^ 32 then s2 else s2.wrapStep

/-- A channel's gate-open or reading time (R518). -/
def State.dutyTick (s : State) (n : Chan) : State :=
  let c := s.ch n
  if s.wgOpen (actOf n) (isSecond n) || c.op == 1 then s.setCh n { c with duty := c.duty + 1 } else s

/-- A SEEK whose announced start instant has come may begin (R721). -/
def State.seekTick (s : State) (x : Act) : State :=
  if s.vale.ann.any (fun a => a.x == x && a.start == some s.now) then s.advance x else s

/-- A media run closes its gates as the angle passes (R139): what waits for that goes on. -/
def State.gateTick (s : State) (x : Act) (old : Nat) : State :=
  let shut (g : Nat) : Bool := s.atsPast g && !({ s with ang := { s.ang with ats := old } }).atsPast g
  if (s.msq x).work.any (fun w => match w.kind with
      | .media r => w.begun && !w.done && (shut r.gate0 || shut r.gate1)
      | _ => false) then s.advance x
  else s

/-- A tick. -/
def State.tick (s0 : State) : State :=
  let s := s0.checkSource
  let s1 := ({ s with now := s.now + 1 }).angleTick
  let s1 := (s1.gateTick .a s.ang.ats).gateTick .b s.ang.ats
  let s2 := (((s1.dutyTick 0).dutyTick 1).dutyTick 2).dutyTick 3
  ((s2.seekTick .a).seekTick .b).brkTick

end Sys2Proof.Machine
end

