-- ==== Sys2Proof/Machine/Window.lean ====
section
/-!
DEFINITION. The register window of track programs (R180 to R182) and the instructions EXT, RDREG and WRREG (R179, R180).
-/
namespace Sys2Proof.Machine

/-- The base of a block of an actuator. -/
def chBase (x : Act) (second : Bool) : Nat := 0x80080000 + 0x10000 * (chanOf x second).val

/-- The register that a window offset reads (R181); none outside the table. -/
def windowRead (x : Act) (off : Nat) : Option Nat :=
  if off % 4 ≠ 0 then none
  else if off < 0x100 then some (0x80040100 + 0x10000 * x.idx + off)
  else if off < 0x200 then some (0x80030000 + (off - 0x100))
  else if off < 0x400 then some (chBase x false + (off - 0x200))
  else if off < 0x600 then some (chBase x true + (off - 0x400))
  else if off < 0x800 then some (0x800C0000 + 0x10000 * x.idx + (off - 0x600))
  else if off < 0xA00 then some (0x800E0000 + 0x10000 * x.idx + (off - 0x800))
  else none

/-- The bits of a CH register that are marked MSQ-writable. -/
def msqWritable (off : Nat) : Nat := mget (fun _ => 0) [(0x20, 0x3FF00000), (0x38, 0xFF0F0E00), (0x3C, 0xFFFFFFFF)] off

/-- The register that a window write reaches (R181); none when the row is read-only, or when the write would change a field not
marked MSQ-writable (log 24). -/
def State.windowWrite (s : State) (x : Act) (off : Nat) (v : Word) : Option Nat :=
  match windowRead x off with
  | none => none
  | some a =>
    if off < 0x100 then some a
    else if 0x200 ≤ off ∧ off < 0x600 then
      let mask := BitVec.ofNat 32 (msqWritable (a % 0x10000))
      if mask != 0 && ((s.rd a ^^^ v) &&& ~~~mask) == 0 then some a else none
    else none

/-- EXT (R179): a Sapwood routine runs by its micro-ops (R257); the instruction starts it. An empty entry is
MSQx_ERR_ILLEGAL. -/
def execExt (x : Act) (f : FmtR) (s : State) : Out :=
  .next ((s.issueR x 0xE0 f (writable f.rd && readable f.rs1 && readable f.rs2 && !f.i && f.ib 6 26 == 0) (fun k a t =>
    let e := mget (fun _ => 0) (t.msq x).ucs.sapTab (f.ib 0 6)
    if !e.testBit 15 then .error errIllegal
    else
      let irh : Nat := 0xE0 * 2 ^ 24 + b2n f.g * 2 ^ 23 + b2n f.n * 2 ^ 22 + f.p.toNat * 2 ^ 20 + f.rd.toNat * 2 ^ 14
        + f.rs1.toNat * 2 ^ 8 + f.rs2.toNat * 2 ^ 2
      let u : Micro := { Micro.idle with
        on := true, cap := true, upc := e % 2 ^ 15, irl := f.imm, irh := BitVec.ofNat 32 irh, opa := a.reg f.rs1.toNat,
        opb := a.reg f.rs2.toNat, tpc := (a.pc + 2 ^ 32 - 8) % 2 ^ 32, events := (t.msq x).micro.events }
      .ok ((t.setSpec x k { a with pc := (a.pc + 2 ^ 32 - 8) % 2 ^ 32 }).setMsq x
        { (t.setSpec x k { a with pc := (a.pc + 2 ^ 32 - 8) % 2 ^ 32 }).msq x with micro := u }))).advance x)

/-- RDREG (R180): RD takes the register at window offset IMM[11:0], at issue, with the side effects of the read. -/
def execRdreg (x : Act) (f : FmtR) (s : State) : Out :=
  .next ((s.issueR x 0xE1 f (writable f.rd && f.rs1 == 0 && f.rs2 == 0 && !f.i && f.ib 12 20 == 0) (fun k a t =>
    match windowRead x (f.ib 0 12) with
    | none => .error errWindow
    | some addr =>
      let (v, t1) := t.regRead (msqInit x) addr
      .ok (t1.setSpec x k (a.setReg f.rd.toNat v)))).advance x)

/-- WRREG (R180): RS1 goes to the register at window offset IMM[11:0] at the instruction's commit. -/
def execWrreg (x : Act) (f : FmtR) (s : State) : Out :=
  .next ((s.issueR x 0xE2 f (f.rd == 0 && readable f.rs1 && f.rs2 == 0 && !f.i && f.ib 12 20 == 0) (fun _ a t =>
    match t.windowWrite x (f.ib 0 12) (a.reg f.rs1.toNat) with
    | none => .error errWindow
    | some addr =>
      .ok (t.setMsq x { t.msq x with staged := (t.msq x).staged ++ [.wrreg addr (a.reg f.rs1.toNat)] }))).advance x)

end Sys2Proof.Machine
end

