-- ==== Sys2Proof/Machine/UopOps.lean ====
section
/-!
DEFINITION. What micro-ops and comparator firings reach (R101 to R104, R239): channel operations, gates, LPE commands, head selects,
the Write Guard limit, the key slot; the firing of a comparator and CCX's answer to a BIND.
-/
namespace Sys2Proof.Machine

/-- CHSET (R239): the descriptor's words; what they mean is not stated. -/
def State.chSet (s : State) (n : Chan) (words : List Word) : State :=
  s.setCh n { s.ch n with desc := words.zipIdx.map (fun e => (e.2, e.1)) }

/-- CHGO (R239): the loaded operation starts when comparator k fires. -/
def State.chGo (s : State) (n : Chan) (k : Nat) : State := s.setCh n { s.ch n with go := some k }

/-- A channel is idle (CHn_STAT.OP 0). -/
def State.chIdle (s : State) (n : Chan) : Bool := (s.ch n).op == 0

/-- A gate scheduled by a micro-op. -/
def State.addGate (s : State) (x : Act) (g : Gate) : State :=
  s.setWrp x { s.wrp x with gates := (s.wrp x).gates ++ [g] }

/-- LPCMD (R239): 0 seek to the track of A, 1 follow, 2 offset by A in 1/256 pitch, 3 load, 4 unload. The layout of A and B is not
stated: the heads of both channels take A; a load that LOADH's bars forbid (R159, R798) loads nothing (log 26). LPE follows its targets
in any case: following changes nothing (R155). -/
def State.lpeCommand (s : State) (x : Act) (cmd : Nat) (a _b : Word) : State :=
  let m := s.msq x
  if cmd = 0 then
    let set (p : ChPos) : ChPos := if p.head.isSome then { p with target := some a.toNat, ofs := 0 } else p
    (s.setMsq x { m with pos0 := set m.pos0, pos1 := set m.pos1 }).lpeSeek x 3
  else if cmd = 2 then
    let set (p : ChPos) : ChPos := if p.head.isSome then { p with ofs := sgn 32 a.toNat } else p
    (s.setMsq x { m with pos0 := set m.pos0, pos1 := set m.pos1 }).lpeOffset x 3
  else if cmd = 3 then (if s.canLoad x then s.lpeLoad x else s)
  else if cmd = 4 then s.lpeUnload x
  else s

/-- The LPE status of an actuator: its byte of LPE_STAT (R433). -/
def State.lpeStatus (s : State) (x : Act) : Nat := wfield (s.view Reg.LPE_STAT) (8 * x.idx) 8

/-- HDSEL (R239, R345): the head is bound to the channel, and its select staged over PLKx. -/
def State.headSelect (s : State) (x : Act) (second : Bool) (h : Nat) : State :=
  let m := s.msq x
  (s.setMsq x (m.setPos second { m.pos second with head := some h })).headFrame x second h

/-- WGLIM (R239, R331): PESLIM takes the value clamped to 20 to 200; A names the limit, and only this one exists. -/
def State.guardLimit (s : State) (x : Act) (_a b : Nat) : State := s.put (Fld.WRP_WGLIM_PESLIM x) (clampN 20 200 b)

/-- The events a routine sees (R239 WAIT): those latched, and the levels that hold now. -/
def State.uEvents (s : State) (x : Act) : Nat :=
  let m := s.msq x
  let bell := match m.running with
    | some k => (s.get (Fld.MSQ_DOORBELL_RING x)).testBit k
    | none => false
  m.micro.events ||| (2 * b2n (s.chIdle (chanOf x false)) + 4 * b2n (s.chIdle (chanOf x true))
    + 8 * b2n (s.settled x 3 false) + 16 * b2n (s.plkReady x) + 32 * b2n bell)

/-- A word of SRAM that a table read brings; outside SRAM a free value (log 30). -/
def State.zoneWord (s : State) (x : Act) (second : Bool) (w : Nat) : Word × State :=
  match s.chZone x second with
  | some (h, _, z) => s.sramWord (s.zoneAddr x h z w)
  | none => (BitVec.ofNat 32 s.free.1.toNat, s.free.2)

/-- LDPT (R239, R326): word A of the parameter table for the band: A / 32 the head, A mod 32 the word of its entry (log 27). -/
def State.paramWord (s : State) (x : Act) (w : Nat) : Word × State := s.sramWord (s.ptAddr x (w / 32) (w % 32))

/-- A Ringbook contribution of a micro-op, applied at the commit (R734). -/
def State.rbksApply (s : State) (x : Act) (id v : Nat) : State := s.applyContrib (s.boundCtx x) (.hist id (sgn 32 v))

/-- A gate as a comparator's firing leaves it (R239, R334): it opens unless the Write Guard holds or the bridge is off, and closes. -/
def Gate.fire (g : Gate) (k : Nat) (blocked : Bool) (ats : Nat) : Option Gate :=
  if g.isOpen then (if g.closes = k then none else some g)
  else if g.opens = k then (if blocked then none else some { g with isOpen := true, since := ats })
  else if g.closes = k then none
  else some g

/-- A comparator's firing at WRP (R239): the gates it opens and closes. -/
def State.gatesFired (s : State) (x : Act) (k : Nat) : State :=
  let w := s.wrp x
  s.setWrp x { w with gates := w.gates.filterMap (fun g => g.fire k (w.holding != 0 || s.bridgeOff x) s.ang.ats) }

/-- A comparator's firing at a channel (R239): the loaded operation starts. Which operation a descriptor names is not stated: OP
takes a free value. -/
def State.channelFired (s : State) (n : Chan) (k : Nat) : State :=
  let c := s.ch n
  if c.go = some k then s.free.2.setCh n { c with go := none, op := s.free.1.toNat % 4 } else s

/-- COMPARATOR_FIRE (R101 to R104, R239, R345): a comparator whose target the angle has passed fires to its destination and is
disarmed. LPE has no use for an event that the spec gives, and destination codes 6 and 7 name nothing: there the event goes nowhere
(DESIGN CHOICE, log 91). -/
def execComparatorFire (x : Act) (k : Nat) (s : State) : Out :=
  match mfind (s.cmps x) k with
  | none => .next s
  | some c =>
    let s1 := s.setCmps x (mdel (s.cmps x) k)
    if !c.hit then .next s
    else if c.dest = 0 then .next (s1.msqCmpFired x k).syncMode
    else if c.dest = 1 then .next (s1.channelFired (chanOf x false) k)
    else if c.dest = 2 then .next (s1.channelFired (chanOf x true) k)
    else if c.dest = 3 then .next (s1.gatesFired x k)
    else if c.dest = 4 then .next (s1.headStrobe x)
    else .next s1

/-- CCX_BIND_CONFIRM (R172, R184): a BIND that waits completes when the context is ACTIVE and was queued to this actuator; the
slot takes CTX and its key slot. Otherwise the slot faults with MSQx_ERR_CTX. -/
def execCcxBindConfirm (x : Act) (s : State) : Out :=
  let m := s.msq x
  match m.running, m.wait with
  | some k, some (.bind n) =>
    let a := (m.slot k).spec
    if s.bindOk x n then
      let s1 := s.setMsq x { m.setSpec k { a with ctx := n } with wait := none, micro := { m.micro with events := m.micro.events ||| 64 } }
      .next ((s1.selectKey x n).advance x)
    else .next (s.progError x ((a.pc + 2 ^ 32 - 8) % 2 ^ 32) errCtx).syncMode
  | _, _ => .next s

end Sys2Proof.Machine
end

