-- ==== Sys2Proof/Machine/Wedge.lean ====
section
/-!
DEFINITION. Wedge checks and commits (R193 to R206), completions of issued work (R142), squash restart, the wedge watchdog
(R226), parity (R234).
-/
namespace Sys2Proof.Machine

/-- The words of a checkpoint record (R185) after the word at 0x0C: index and value. -/
def ckWords (a : Arch) (seq alloc : Nat) : List (Nat × Word) :=
  let seedHi (sd : Seed) : Word := BitVec.ofNat 32 (sd.lba / 2 ^ 32 % 8 + sd.gen * 2 ^ 16)
  let seedLo (sd : Seed) : Word := BitVec.ofNat 32 sd.lba
  let preds := (List.range 4).foldl (fun v k => v + b2n (a.pred k) * 2 ^ k) 0
  [(0x00, BitVec.ofNat 32 a.pc), (0x04, BitVec.ofNat 32 a.ctx), (0x08, BitVec.ofNat 32 (preds + a.flags * 256))]
    ++ (List.range 32).map (fun k => (0x10 + 4 * k, a.reg k))
    ++ (List.range 8).map (fun k => (0x90 + 4 * k, a.reg (0x20 + k)))
    ++ (List.range 8).map (fun k => (0xB0 + 4 * k, a.reg (0x28 + k)))
    ++ [(0xD0, seedLo a.seed0), (0xD4, seedHi a.seed0), (0xD8, seedLo a.seed1), (0xDC, seedHi a.seed1),
        (0xE0, BitVec.ofNat 32 (if a.ctx = 0x400 then 0 else alloc))]
    ++ (List.range 7).map (fun k => (0xE4 + 4 * k, 0#32))
    ++ [(0x0C, BitVec.ofNat 32 (1 + (seq % 2 ^ 16) * 2 ^ 16))]

/-- The checkpoint record of a slot written (R178, R185, R186): its sequence one more than the record's before. -/
def State.writeCkpt (s : State) (x : Act) (k : Nat) (a : Arch) : State :=
  let base := s.ckRecord x k
  let (old, s0) := s.sramWord (base + 0x0C)
  (ckWords a (old.toNat / 2 ^ 16 + 1) (s0.allocSeq a.ctx)).foldl (fun t e => t.sramPut (base + e.1) e.2) s0

/-- One staged effect made final (R203). -/
def State.applyStaged (x : Act) (k : Nat) (a : Arch) (s : State) : Staged → State
  | .badv c p => s.bufMediaPos c p
  | .post c st fin => s.ccxCredit x c st fin
  | .wrreg addr v => s.regWrite (msqInit x) addr v
  | .chkpt => s.writeCkpt x k a
  | .rbks id v => s.rbksApply x id v
  | .sramWas .. => s
  | .regWas .. => s

/-- The sectors that a completed media item brings its context (R175): its active positions on every channel of a READ or WRITE. -/
def Work.credit (l : List (Nat × Nat)) (w : Work) : List (Nat × Nat) :=
  match w.kind with
  | .media r =>
    if (r.op == .read || r.op == .write) && w.done then
      mput l r.ctx ((mfind l r.ctx).getD 0 + (if inMask r.chs false then r.active false else 0) + (if inMask r.chs true then r.active true else 0))
    else l
  | _ => l

/-- A media item completed before a boundary (R198): both as ATS. -/
def Work.before (lim : Nat) (w : Work) : Bool :=
  w.done && decide (0 < (lim + 2 ^ 48 - w.doneAt) % 2 ^ 48) && decide ((lim + 2 ^ 48 - w.doneAt) % 2 ^ 48 < 2 ^ 47)

/-- The distance of a pending commit counted from a later commit point (R188). -/
def Work.less (w : Work) (dist : Nat) : Work :=
  match w.kind with
  | .commit kd a q0 q1 st d => { w with kind := .commit kd a q0 q1 st (d - dist) }
  | _ => w

/-- The slot that a switching YIELD's commit starts (R149, R123, R125, R263): the READY slot of highest priority, the one that yields
among them; none with HOLD 1 or during a load. -/
def State.switchSlot (s : State) (x : Act) : State :=
  if s.flag (Fld.MSQ_CTL_HOLD x) || s.flag (Fld.UCS_SAPCTL_LOAD x) || s.ploading x then s
  else
    match (s.msq x).nextReady with
    | some j => s.startSlot x j
    | none => s

/-- The pending commits in program order take effect up to the first that does not qualify (R198): every media item before it completed
before the boundary, whose ATS is `lim`. `kept` are the items passed that have not completed and are now final (R206), `passed` the
completed media ones passed since the last effective commit; the number bounds the items. -/
def State.commits (x : Act) (k lim : Nat) : Nat → List Work → List Work → List Work → State → State
  | 0, _, _, _, s => s
  | _ + 1, [], _, _, s => s
  | n + 1, w :: t, kept, passed, s =>
    match w.kind with
    | .media .. => if w.before lim then State.commits x k lim n t kept (passed ++ [w]) s else s
    | .commit kind a p0 p1 st dist =>
      let m := s.msq x
      let sl := m.slot k
      let cr := passed.foldl Work.credit sl.credit
      let final_ := kept.map (fun v => { v with final := true })
      let rest := final_ ++ t.map (fun v => v.less dist)
      let s1 := s.setMsq x { m.setSlot k { sl with comm := a, credit := cr } with
        cpos0 := p0, cpos1 := p1, work := rest, dist := m.dist - dist, lastCommitAts := s.ang.ats }
      let s2 := (st.foldl (fun u e => u.applyStaged x k a e) s1).commitRecords x
      if kind = 1 then
        ((s2.setMsq x { s2.msq x with wait := none }).raise (Fld.MSQ_EV_DONE x)).leaveRun x k .done 0
      else if kind = 2 then
        (((s2.setMsq x { s2.msq x with wait := none }).leaveRun x k .ready 0).takeBand x).switchSlot x
      else State.commits x k lim n (t.map (fun v => v.less dist)) final_ [] s2
    | _ => State.commits x k lim n t (if w.done then kept else kept ++ [w]) passed s

/-- A wedge boundary at WRPx (R325, R327): heads in contact from now on get a quarter less heater power; the speed multipliers
of each channel's head follow the speed. -/
def State.wedgeSettings (s : State) (x : Act) : State :=
  let w := s.wrp x
  let f := s.speedFactor x
  let mul (second : Bool) (i : Nat) : Nat :=
    match ((s.msq x).pos second).head with
    | some h => if s.ptOk x h then speedMul (s.ptWord x h i) f else 128
    | none => 128
  s.setWrp x { w with
    contact := w.contact ||| w.contactDue, contactDue := 0,
    lasMul0 := mul false 6, lasMul1 := mul true 6, htrMul0 := mul false 7, htrMul1 := mul true 7 }

/-- A head's contact is forgotten by the next HEAT for it (R325). -/
def WrpSt.heatFor (w : WrpSt) (h : Option Nat) : WrpSt :=
  match h with
  | some k => if w.contact.testBit k then { w with contact := w.contact - 2 ^ k } else w
  | none => w

/-- HEAT and ASSIST settings that a wedge boundary makes (R171): ASSIST completes, HEAT waits for its loop. -/
def State.applyAssist (s : State) (x : Act) : State :=
  (s.msq x).work.foldl (fun t w =>
    if !w.begun || w.done || w.qmet == false then t
    else
      let m := t.msq x
      match w.kind with
      | .assist c en sp =>
        let set (p : ChPos) : ChPos := { p with assist := en, setp := sp }
        let m1 := if inMask c false then m.setPos false (set m.pos0) else m
        let m2 := if inMask c true then m1.setPos true (set m1.pos1) else m1
        t.setMsq x { m2 with work := updFirst (fun v => v == w) (fun v => { v with done := true, doneAt := t.ang.ats }) m2.work }
      | .heat c mode pw =>
        let set (p : ChPos) : ChPos := { p with heat := mode, hpow := pw }
        let m1 := if inMask c false then m.setPos false (set m.pos0) else m
        let m2 := if inMask c true then m1.setPos true (set m1.pos1) else m1
        let w1 := if inMask c false then (t.wrp x).heatFor m.pos0.head else t.wrp x
        let w2 := if inMask c true then w1.heatFor m.pos1.head else w1
        (t.setMsq x { m2 with work := updFirst (fun v => v == w) (fun v => { v with qmet := false }) m2.work }).setWrp x w2
      | _ => t) s

/-- The heater power of a channel's head is sampled at a wedge in a WRITE or READ heater mode (R733). -/
def State.heatSample (s : State) (x : Act) (second : Bool) : State :=
  let p := (s.msq x).pos second
  match p.head with
  | some h =>
    if p.heat = 0 then s
    else s.stageContrib (chanOf x second) (.hist (56 + 12 * x.idx + h) (if second then (s.wrp x).htr1 else (s.wrp x).htr0))
  | none => s

/-- Everything a wedge boundary does at WRPx. The lasers of FLYING stay at 0 until a slot starts (R752). -/
def State.wedgeWrite (s : State) (x : Act) : State :=
  let s1 := ((s.wedgeSettings x).applyAssist x).setHeaters x
  let s2 := if (s1.msq x).running.isSome then s1.restLasers x else s1
  (s2.heatSample x false).heatSample x true

/-- WEDGE_CHECK (R193 to R200): the check of a wedge boundary of an actuator. With no head loaded it looks only for pending
causes (R195). A check that fails squashes: for a head without valid PES with cause COAST, for a Write Guard trip on the
wedge's sample as R207 and R210 give. A check that passes moves the angular commit point and lets commits take effect. -/
def execWedgeCheck (x : Act) (wedge : Nat) (s : State) : Out :=
  if !s.actOk x || !s.flag Fld.ANG_STAT_VALID || decide (s.get Fld.ANG_CFG_WEDGES ≤ wedge) then .next s
  else
    let m := s.msq x
    let pending := m.sqCauses != 0 && !s.causesCleared x
    let pes := !s.loaded x || s.pesValid x
    let guard := s.loaded x && (s.wrp x).tripped
    let s0 := (s.clearTripped x).wedgeWrite x
    let s0 := s0.setMsq x { s0.msq x with checkAt := s.now }
    if pending then .next (if pes then s0 else s0.squashBy x (2 ^ 2)).syncMode
    else if !pes then .next (s0.squashBy x (2 ^ 2)).syncMode
    else if guard then .next (if m.writing then s0.squashBy x (2 ^ 0) else s0).syncMode
    else
      let s1 := s0.setMsq x { s0.msq x with acp := some wedge, wgPassed := true }
      match m.running with
      | some k =>
        if m.sqWait then .next s1.syncMode
        else
          let lim := (s.ang.ats + 2 ^ 48 - (s.angle + 2 ^ 32 - s.wedgeAngle (s.refSurface x) wedge) % 2 ^ 32) % 2 ^ 48
          .next (((State.commits x k lim (s1.msq x).work.length (s1.msq x).work [] [] s1).advance x).syncMode)
      | none => .next s1.syncMode

/-- The settle criterion of a positioning instruction (R142, R155, R156, R402): SEEK the read criterion, FOLLOW the selected one, OFFSET
that of each head's heater mode; the others have none. -/
def State.posSettled (s : State) (x : Act) : WorkKind → Bool
  | .seek c _ _ => s.settled x c false
  | .follow c wr => s.settled x c wr
  | .offset c _ =>
    let one (second : Bool) : Bool := !inMask c second || s.settled x (1 + b2n second) (((s.msq x).pos second).heat == 2)
    one false && one true
  | _ => true

/-- POSITIONING_COMPLETE (R142, R155, R156, R159): the positioning instruction in progress completes, once its settle criterion is met.
LOADH ends with the heads loaded, UNLOADH with them on the ramp. -/
def execPositioningComplete (x : Act) (s : State) : Out :=
  let m := s.msq x
  match m.work.find? (fun w => w.kind.isPos && w.begun && !w.done) with
  | none => .next s
  | some w =>
    if !s.posSettled x w.kind then .next s
    else
      let s1 := s.setMsq x { m with
        work := updFirst (fun v => v.kind.isPos && v.begun && !v.done) (fun v => { v with done := true, doneAt := s.ang.ats }) m.work }
      .next (((s1.positionDone x w.kind).advance x).syncMode)

/-- A media item in progress on a channel. -/
def Work.onChan (second : Bool) (w : Work) : Bool := w.begun && w.kind.isMedia && inMask w.kind.chs second

/-- The place in the work list, and the ordinal, of the channel's oldest instruction that has not ended there. -/
def State.oldestOn (s : State) (x : Act) (second : Bool) : Option (Nat × Nat) :=
  let on := (s.msq x).work.zipIdx.filter (fun e => e.1.onChan second)
  (on.zipIdx.find? (fun e => decide ((s.ch (chanOf x second)).ended < s.ordOf x second e.2))).map
    (fun e => (e.1.2, s.ordOf x second e.2))

/-- The item at place j of the work list has ended on a channel. -/
def State.endedOn (s : State) (x : Act) (j : Nat) (second : Bool) : Bool :=
  let before_ := (((s.msq x).work.take j).filter (fun w => w.onChan second)).length
  match (s.msq x).work[j]? with
  | some w => !w.onChan second || decide (s.ordOf x second before_ ≤ (s.ch (chanOf x second)).ended)
  | none => true

/-- Flags given to the commits behind place j; the item at j done when it has ended on every channel of it. -/
def endAt (j fl ats : Nat) (done : Bool) (l : List Work) : List Work :=
  l.zipIdx.map (fun e => if e.2 = j then { e.1 with done := e.1.done || done, doneAt := ats } else if j < e.2 then addFlags fl e.1 else e.1)

/-- n code words of 8 raw samples each, one byte per 7-bit sample, stored from a first one on (R169): the samples are free values. -/
def State.sampleFill : Nat → Nat → State → State
  | 0, _, s => s
  | k + 1, a, s => State.sampleFill k (a + 1) (s.free.2.dramPut a (s.free.1 &&& 0x7F7F7F7F7F7F7F7F#64))

/-- A stream position takes 4,096 samples of one reader. -/
def State.samplePos (s : State) (ctx p : Nat) : State :=
  match s.posWord ctx p with
  | some a => (State.sampleFill 512 a s).fillPos ctx p
  | none => s

/-- The units of a SCAN in BUF (R165, R169): for each a position of reader 0's samples and one of reader 1's. -/
def State.scanStore (s : State) (second : Bool) (r : MediaRun) : State :=
  let t := (List.range (2 * r.count)).foldl (fun u i => u.samplePos r.ctx (r.buf second + i)) s
  (t.withhold r.ctx false).withhold r.ctx true

/-- The sectors of a WRITE, ERASEB or SCAN whose channel has no bit clock fail (R108). The clock at the run's end decides for each of its
positions (log 91). -/
def State.clockFails (s : State) (n : Chan) (item : Nat) (r : MediaRun) : State :=
  if r.op == .read || r.op == .verify || s.bclkOk n then s
  else
    ((List.range r.count).filter (fun i => !r.isSkipped (isSecond n) i)).foldl
      (fun t i => t.sectorFail n item (t.sectorAt n item r i) 8 0 0) s

/-- MEDIA_INSTRUCTION_COMPLETE (R142, R113): the oldest media instruction in progress on a channel ends there; its media flags reach
the slot and the commits behind it, and with its last channel it completes. An operation that CHGO started ends too. -/
def execMediaInstructionComplete (x : Act) (second : Bool) (s : State) : Out :=
  let n := chanOf x second
  match (s.msq x).running, s.oldestOn x second with
  | some k, some (j, ord) =>
    match (s.msq x).work[j]? with
    | some { kind := .media r, .. } =>
      if !s.channelQuiet n ord r then .next s
      else
        let s00 := s.clockFails n ord r
        let (fl, s01) := s00.channelEnd n ord r
        let s0 := if r.op == .scan && s.bclkOk n then s01.scanStore second r else s01
        let all := s0.endedOn x j false && s0.endedOn x j true
        let m0 := s0.msq x
        let a := (m0.slot k).spec
        let bit := if second then 4 else 2
        let m1 := { m0 with
          work := endAt j fl s.ang.ats all m0.work, micro := { m0.micro with events := m0.micro.events ||| bit } }
        .next ((s0.setMsq x (m1.setSpec k { a with flags := a.flags ||| fl })).advance x).syncMode
    | _ => .next s
  | _, _ => .next (s.setCh n { s.ch n with op := 0 })

/-- One head of a HEAT has settled: it waits for the other, or is done. -/
def Work.heaterDone (second : Bool) (ats : Nat) (w : Work) : Work :=
  match w.kind with
  | .heat c mode pw =>
    let left := c - 2 ^ b2n second
    if left = 0 then { w with done := true, doneAt := ats } else { w with kind := .heat left mode pw }
  | _ => w

/-- HEATER_SETTLED (R171, R324): LPE reports the heater of a channel's head settled; the HEAT that its wedge boundary has applied
completes. -/
def execHeaterSettled (x : Act) (second : Bool) (s : State) : Out :=
  let m := s.msq x
  let p (w : Work) : Bool :=
    (match w.kind with | .heat .. => true | _ => false) && w.begun && !w.done && !w.qmet && inMask w.kind.chs second
  .next ((s.setMsq x { m with work := updFirst p (Work.heaterDone second s.ang.ats) m.work }).advance x).syncMode

/-- SQUASH_RESTART (R217 to R219). -/
def execSquashRestart (x : Act) (s : State) : Out :=
  .next (((s.restart x).advance x).syncMode)

/-- WEDGE_WATCHDOG (R226): 1.5 wedge periods without the next check while a head is loaded; cause COAST. No wedge check is due
while ANG_STAT.VALID is 0 (R196), and with the speed 0 there is no wedge period. -/
def execWedgeWatchdog (x : Act) (s : State) : Out :=
  let p := s.wedgePeriod
  if s.loaded x && s.flag Fld.ANG_STAT_VALID && p != 0 && decide (3 * p ≤ 2 * (s.now - (s.msq x).checkAt)) then .next (s.squashBy x (2 ^ 2)).syncMode else .next s

end Sys2Proof.Machine
end

