-- ==== Sys2Proof/Machine/Microcode.lean ====
section
/-!
DEFINITION. The microcode engine (R236 to R264): dispatch, operands, shadows, next address, capability mode.
-/
namespace Sys2Proof.Machine

/-- What a micro-op does when it cannot do its work: a program error, or a capability trap with its reason (R259). -/
inductive UErr where
  | err (code : Nat)
  | trap (reason : Nat)
deriving DecidableEq, Repr

/-- The RD field of the instruction in IRH. -/
def Micro.rdSpec (u : Micro) : Nat := nbits u.irh.toNat 14 6

/-- The latest shadowed value of a slot register (R251). -/
def shadowReg (l : List Shadow) (r : Nat) : Option Word :=
  l.foldl (fun v e =>
    match e with
    | .reg q w => if q = r then some w else v
    | .bufa q w => if q = r then some w else v
    | _ => v) none

/-- A slot register as a routine reads it: its shadowed value, else its speculative value. -/
def uSlotReg (u : Micro) (a : Arch) (r : Nat) : Word :=
  match shadowReg u.shadows r with
  | some w => w
  | none => a.reg r

/-- A micro-register read (R237); a reserved specifier is MSQx_ERR_ILLEGAL. -/
def uRead (u : Micro) (a : Arch) (spec : Nat) : Except UErr Word :=
  if spec ≤ 0x34 then .ok (uSlotReg u a spec)
  else if 0x40 ≤ spec ∧ spec ≤ 0x4F then .ok (mget (fun _ => (0 : Word)) u.t (spec - 0x40))
  else if spec = 0x50 then .ok u.irl
  else if spec = 0x51 then .ok u.irh
  else if spec = 0x52 then .ok u.opa
  else if spec = 0x53 then .ok u.opb
  else if spec = 0x54 then .ok u.qang
  else if spec = 0x55 then .ok (BitVec.ofNat 32 u.tpc)
  else if spec = 0x56 then .ok 0
  else if spec = 0x58 then (if u.rdSpec ≤ 0x34 then .ok (uSlotReg u a u.rdSpec) else .error (.err errIllegal))
  else .error (.err errIllegal)

/-- A slot-register write, shadowed (R251); in capability mode only g, a and p registers (R258). -/
def uWriteSlot (u : Micro) (r : Nat) (v : Word) : Except UErr Micro :=
  if 0x34 < r then .error (.err errIllegal)
  else if u.cap && (r == 0x34 || (decide (0x20 ≤ r) && decide (r ≤ 0x27))) then .error (.trap 4)
  else .ok { u with shadows := u.shadows ++ [.reg r (if 0x30 ≤ r ∧ r ≤ 0x33 then v &&& 1#32 else v)] }

/-- A micro-register write (R237). The instruction's own words and operands keep their values (log 23). -/
def uWrite (u : Micro) (spec : Nat) (v : Word) : Except UErr Micro :=
  if spec < 0x40 then uWriteSlot u spec v
  else if spec ≤ 0x4F then .ok { u with t := mset (fun _ => (0 : Word)) u.t (spec - 0x40) v }
  else if spec ≤ 0x56 then .ok u
  else if spec = 0x58 then uWriteSlot u u.rdSpec v
  else .error (.err errIllegal)

/-- The next micro-address (R243 to R249): patch comparators, then the capability check, then the reserved addresses. `inc`
says that the incrementer gave it. -/
def uNext (m : Msq) (cap inc : Bool) (nxt : Nat) : Except UErr Nat :=
  let n := if nxt < 0x4000 then
      match (List.range 32).find? (fun k => match mfind m.ucs.comps k with | some c => c.1 == nxt | none => false) with
      | some k => match mfind m.ucs.comps k with
        | some c => c.2
        | none => nxt
      | none => nxt
    else nxt
  if cap && !(decide (0x4800 ≤ n) && decide (n < 0x5000)) then .error (.trap 6)
  else if 0x5000 ≤ n ∨ (inc = true ∧ (nxt = 0x4000 ∨ nxt = 0x4800)) then .error (.err errIllegal)
  else .ok n

/-- The instruction guard of the routine's instruction is true (R130). -/
def Micro.guardTrue (u : Micro) (a : Arch) : Bool :=
  !(u.irh.getLsbD 23 && !(a.pred (nbits u.irh.toNat 20 2) ^^ u.irh.getLsbD 22))

/-- A capability trap (R259): UCS_CAPLAST, UCS_EV_SAPCAP, and MSQx_ERR_SAPCAP. -/
def State.capTrap (s : State) (x : Act) (reason upc pc : Nat) : State :=
  (((((s.put Fld.UCS_CAPLAST_ACT x.idx).put Fld.UCS_CAPLAST_REASON reason).put Fld.UCS_CAPLAST_UADDR upc).raise
    Fld.UCS_EV_SAPCAP)).progError x pc errSapcap

/-- A micro-op's failure carried out. -/
def State.uFail (s : State) (x : Act) (e : UErr) : State :=
  let u := (s.msq x).micro
  match e with
  | .err c => s.progError x u.tpc c
  | .trap r => s.capTrap x r u.upc u.tpc

/-- The routine of the next instruction starts (R238, R248): it is fetched at the slot's PC (R116, R128); a false guard goes to
the handler at 0x0003, an invalid dispatch entry is MSQx_ERR_ILLEGAL. Nothing starts while the window of R188 is full. -/
def State.startRoutine (s : State) (x : Act) : State :=
  match (s.msq x).running with
  | none => s
  | some k =>
    let a := ((s.msq x).slot k).spec
    if !pcInSram a.pc then s.progError x a.pc errFetch
    else
      let ((w0, bad0), s1) := s.sramRead a.pc
      let ((w1, bad1), s2) := s1.sramRead (a.pc + 4)
      let op := w1.toNat / 2 ^ 24
      let m := s2.msq x
      if bad0 || bad1 then s2.progError x a.pc errFetch
      else if countsDist op && !decide (m.dist < 32) then s2
      else
        let f : FmtQ :=
          { g := w1.getLsbD 23, n := w1.getLsbD 22, p := BitVec.ofNat 2 (nbits w1.toNat 20 2), aq := BitVec.ofNat 2 (nbits w1.toNat 18 2),
            qop := BitVec.ofNat 26 (nbits w1.toNat 0 18 * 256 + w0.toNat / 2 ^ 24), ops := BitVec.ofNat 24 w0.toNat }
        let u : Micro := { Micro.idle with
          on := true, fresh := true, irl := w0, irh := w1, opa := a.reg (nbits w1.toNat 8 6),
          opb := if w1.getLsbD 1 then w0 else a.reg (nbits w1.toNat 2 6),
          qang := BitVec.ofNat 32 ((f.angle s2 x a).getD 0), tpc := a.pc, events := m.micro.events }
        let m1 := { m with micro := u, dist := if countsDist op then m.dist + 1 else m.dist }
        let s3 := s2.setMsq x m1
        let entry := if u.guardTrue a then m1.dispatch op else 2 ^ 15 + 3
        if !entry.testBit 15 then s3.progError x a.pc errIllegal
        else
          match uNext m1 false false (entry % 2 ^ 15) with
          | .ok n => s3.setMsq x { m1 with micro := { u with upc := n } }
          | .error e => s3.uFail x e

/-- One micro-op issues: the body gives the state and the next address it chooses, or fails. In capability mode a micro-op
with a reason in `capReason` traps; a micro-op that traps, for its next address too, has no effect (R259, R260). A routine that DISP has
started keeps the address of its dispatch. -/
def State.uop (s : State) (x : Act) (capReason : Option Nat)
    (body : Micro → Arch → State → Except UErr (State × Option Nat)) : State :=
  let m0 := s.msq x
  if !s.actOk x || m0.running.isNone || m0.sqWait || m0.wait.isSome then s
  else
    let s1 := if m0.micro.on then s else s.startRoutine x
    let m := s1.msq x
    match m.running with
    | none => s1
    | some k =>
      let u := m.micro
      if !u.on || u.stall.isSome then s1
      else
        let bad := match capReason with
          | some r => if u.cap then some (UErr.trap r) else none
          | none => none
        match bad with
        | some e => s1.uFail x e
        | none =>
          let u := { u with fresh := false, steps := u.steps + 1 }
          match body u (m.slot k).spec (s1.setMsq x { m with micro := u }) with
          | .error e => s1.uFail x e
          | .ok (s2, some n) =>
            let m2 := s2.msq x
            (match uNext m2 m2.micro.cap false n with
              | .ok a => s2.setMsq x { m2 with micro := { m2.micro with upc := a } }
              | .error e => s1.uFail x e)
          | .ok (s2, none) =>
            let m2 := s2.msq x
            if !m2.micro.on || m2.micro.fresh then s2
            else
              match uNext m2 m2.micro.cap true (m2.micro.upc + 1) with
              | .ok a => s2.setMsq x { m2 with micro := { m2.micro with upc := a } }
              | .error e => s1.uFail x e

/-- The microcode engine of an actuator replaced. -/
def State.setMicro (s : State) (x : Act) (u : Micro) : State := s.setMsq x { s.msq x with micro := u }

/-- A micro-op that only computes: D takes a value of A and B. -/
def State.uAlu (s : State) (x : Act) (m : FmtM) (f : Micro → Word → Word → Word → Word) : State :=
  s.uop x none (fun u a t => do
    let va ← uRead u a m.a.toNat
    let vb ← uRead u a m.b.toNat
    let u1 ← uWrite u m.d.toNat (f u 0 va vb)
    .ok (t.setMicro x u1, none))

/-- A shadowed effect beside slot-register writes; the 17th is MSQx_ERR_STEP (R253). -/
def uShadow (u : Micro) (e : Shadow) : Except UErr Micro :=
  let n := (u.shadows.filter (fun v => match v with | .reg .. => false | _ => true)).length
  if 16 ≤ n then .error (.err errStep) else .ok { u with shadows := u.shadows ++ [e] }

/-- What an SRAM word or a register holds is noted before a shadow changes it: a squash puts it back (R221, R252). -/
def State.note (s : State) (x : Act) (e : Staged) : State := s.setMsq x { s.msq x with staged := (s.msq x).staged ++ [e] }

/-- One shadow applied (R251, R252). -/
def State.applyShadow (x : Act) (k : Nat) (s : State) : Shadow → State
  | .reg r v =>
    let a := ((s.msq x).slot k).spec
    if r = 0x34 then s.setSpec x k { a with ctx := v.toNat % 2 ^ 11 } else s.setSpec x k (a.setReg r v)
  | .bufa r v => s.setSpec x k (((s.msq x).slot k).spec.setReg r v)
  | .setflg f => let a := ((s.msq x).slot k).spec; s.setSpec x k { a with flags := a.flags ||| f }
  | .clrflg f => let a := ((s.msq x).slot k).spec; s.setSpec x k { a with flags := a.flags &&& (15 - f) }
  | .sram addr v => (if inSram addr then s.note x (.sramWas addr (mfind s.mem.sram (addr / 4))) else s).sramPut addr v
  | .wrr addr v => (s.note x (.regWas addr (s.rd addr))).regWrite (msqInit x) addr v
  | .tag c lo hi => s.setSpec x k (((s.msq x).slot k).spec.setSeed (c == 1)
      { lba := lo.toNat + (hi.toNat % 8) * 2 ^ 32, gen := hi.toNat / 2 ^ 16 })
  | .ctxp st fin =>
    s.setMsq x { s.msq x with staged := (s.msq x).staged ++ [.post ((s.msq x).slot k).spec.ctx st fin] }
  | .ckwr => s.setMsq x { s.msq x with staged := (s.msq x).staged ++ [.chkpt] }
  | .rbks id v => s.setMsq x { s.msq x with staged := (s.msq x).staged ++ [.rbks id v] }
  | .halts => s.registerCommit x k 1

/-- Every pending shadow applied in issue order (R251). -/
def State.applyShadows (s : State) (x : Act) (k : Nat) : State :=
  let l := (s.msq x).micro.shadows
  (l.foldl (State.applyShadow x k) (s.setMicro x { (s.msq x).micro with shadows := [] }))

/-- The running slot's number, for a micro-op's body. -/
def State.runK (s : State) (x : Act) : Nat := ((s.msq x).running).getD 0

/-- The destination of a stalled micro-op; WAIT has none. -/
def Stall.dest : Stall → Option Nat
  | .wait _ => none
  | .lds d _ => some d
  | .ldz d _ _ => some d
  | .ldpt d _ => some d
  | .rdr d _ => some d
  | .chwt d _ => some d
  | .lpwt d _ => some d
  | .plkr d _ => some d
  | .ctxb d _ => some d

/-- A micro-op that stalls until its condition is met (R239); one whose destination it may not write fails or traps at once (R237, R258,
R260). -/
def State.uStall (s : State) (x : Act) (u : Micro) (w : Stall) : Except UErr (State × Option Nat) :=
  match w.dest with
  | some d =>
    match uWrite u d 0 with
    | .ok _ => .ok (s.setMicro x { u with stall := some w }, none)
    | .error e => .error e
  | none => .ok (s.setMicro x { u with stall := some w }, none)

end Sys2Proof.Machine
end

