-- ==== Sys2Proof/Machine/Uops.lean ====
section
/-!
DEFINITION. The micro-ops (R239), one meaning each, and the events of the microcode engine (R184, R234, R239).
-/
namespace Sys2Proof.Machine

/-- NOP (0x00). -/
def execUopNop (x : Act) (s : State) : Out := .next (s.uop x none (fun _ _ t => .ok (t, none)))

/-- BR (0x01). -/
def execUopBr (x : Act) (target : BitVec 15) (s : State) : Out :=
  .next (s.uop x none (fun _ _ t => .ok (t, some target.toNat)))

/-- BRC (0x02): the conditions of R239; other codes are MSQx_ERR_ILLEGAL. -/
def execUopBrc (x : Act) (cond : BitVec 4) (target : BitVec 15) (s : State) : Out :=
  .next (s.uop x none (fun u a t =>
    match uopCond cond.toNat u.z u.n u.c u.e (u.guardTrue a) with
    | some true => .ok (t, some target.toNat)
    | some false => .ok (t, none)
    | none => .error (.err errIllegal)))

/-- CALL (0x03): pushes the address + 1 (R244: 4 deep). -/
def execUopCall (x : Act) (target : BitVec 15) (s : State) : Out :=
  .next (s.uop x none (fun u _ t =>
    if u.ustack.length < 4 then .ok (t.setMicro x { u with ustack := (u.upc + 1) :: u.ustack }, some target.toNat)
    else .error (.err errStack)))

/-- RET (0x04): the popped address; an empty micro-stack is MSQx_ERR_STACK (R244). -/
def execUopRet (x : Act) (s : State) : Out :=
  .next (s.uop x none (fun u _ t =>
    match u.ustack with
    | r :: rest => .ok (t.setMicro x { u with ustack := rest }, some r)
    | [] => .error (.err errStack)))

/-- DISP (0x05, R248): applies the shadows, retires the instruction, clears temporaries, flags and micro-stack, leaves
capability mode, and dispatches the next instruction. -/
def execUopDisp (x : Act) (s : State) : Out :=
  .next (s.uop x none (fun _ _ t =>
    let k := t.runK x
    let t1 := t.applyShadows x k
    let a := ((t1.msq x).slot k).spec
    let t2 := (t1.setSpec x k { a with pc := (a.pc + 8) % 2 ^ 32 }).setMicro x { Micro.idle with events := (t1.msq x).micro.events }
    let t3 := (t2.startRoutine x)
    .ok (t3, none)))

/-- EXTD (0x06): the Sapwood-table entry IMM[5:0] of the instruction; capability mode begins (R257). An empty entry is
MSQx_ERR_ILLEGAL (R179). -/
def execUopExtd (x : Act) (s : State) : Out :=
  .next (s.uop x none (fun u _ t =>
    let e := mget (fun _ => 0) (t.msq x).ucs.sapTab (u.irl.toNat % 64)
    if e.testBit 15 then .ok (t.setMicro x { u with cap := true }, some (e % 2 ^ 15)) else .error (.err errIllegal)))

/-- YIELD (0x07): NORMAL events are taken here; the step count restarts (R223, R250). Those events bring statuses that stand in the
state as they are (CCX, PLK): nothing of them waits to be taken, and what WAIT waits for stays latched. -/
def execUopYield (x : Act) (s : State) : Out :=
  .next (s.uop x none (fun u _ t => .ok (t.setMicro x { u with steps := 0 }, none)))

/-- COMMIT (0x08): applies the shadows, takes NORMAL events after them (R255), as YIELD does; the step count restarts. -/
def execUopCommit (x : Act) (s : State) : Out :=
  .next (s.uop x none (fun u _ t => .ok ((t.setMicro x { u with steps := 0 }).applyShadows x (t.runK x), none)))

/-- TRAP (0x09): the program error IMM[7:0]. -/
def execUopTrap (x : Act) (imm : BitVec 19) (s : State) : Out :=
  .next (s.uop x none (fun _ _ _ => .error (.err (imm.toNat % 2 ^ 8))))

/-- WAIT (0x0A): stalls until any event of the mask. -/
def execUopWait (x : Act) (imm : BitVec 19) (s : State) : Out :=
  .next (s.uop x none (fun u _ t => t.uStall x u (.wait imm.toNat)))

/-- TESTEV (0x0B): E is 1 when an event of the mask is pending. -/
def execUopTestev (x : Act) (imm : BitVec 19) (s : State) : Out :=
  .next (s.uop x none (fun u _ t => .ok (t.setMicro x { u with e := t.uEvents x &&& imm.toNat != 0 }, none)))

/-- ARM (0x0C): comparator A[5:0] at angle B for destination D[2:0] (R101). D is a field of the microword, not a register. The limit of
R191 is the sequencer's for an operation's qualifier; an ARM arms at once, whatever its angle (DESIGN CHOICE, log 91). -/
def execUopArm (x : Act) (m : FmtM) (s : State) : Out :=
  .next (s.uop x none (fun u a t => do
    let va ← uRead u a m.a.toNat
    let vb ← uRead u a m.b.toNat
    .ok (t.setCmps x (mput (t.cmps x) (va.toNat % 64) { target := vb.toNat, dest := m.d.toNat % 8, hit := false }), none)))

/-- DISARM (0x0D): comparator A[5:0]; a firing of the same tick wins (R104). -/
def execUopDisarm (x : Act) (m : FmtM) (s : State) : Out :=
  .next (s.uop x none (fun u a t => do
    let va ← uRead u a m.a.toNat
    match mfind (t.cmps x) (va.toNat % 64) with
    | some c => .ok (if c.hit then t else t.setCmps x (mdel (t.cmps x) (va.toNat % 64)), none)
    | none => .ok (t, none)))

/-- SETFLG (0x0E), shadowed. -/
def execUopSetflg (x : Act) (imm : BitVec 19) (s : State) : Out :=
  .next (s.uop x none (fun u _ t => do
    let u1 ← uShadow u (.setflg (imm.toNat % 16))
    .ok (t.setMicro x u1, none)))

/-- CLRFLG (0x0F), shadowed. -/
def execUopClrflg (x : Act) (imm : BitVec 19) (s : State) : Out :=
  .next (s.uop x none (fun u _ t => do
    let u1 ← uShadow u (.clrflg (imm.toNat % 16))
    .ok (t.setMicro x u1, none)))

/-- ADD (0x10): D takes A op B. -/
def execUopAdd (x : Act) (m : FmtM) (s : State) : Out := .next (s.uAlu x m (fun _ _ a b => a + b))

/-- SUB (0x11): D takes A op B. -/
def execUopSub (x : Act) (m : FmtM) (s : State) : Out := .next (s.uAlu x m (fun _ _ a b => a - b))

/-- AND (0x12): D takes A op B. -/
def execUopAnd (x : Act) (m : FmtM) (s : State) : Out := .next (s.uAlu x m (fun _ _ a b => a &&& b))

/-- OR (0x13): D takes A op B. -/
def execUopOr (x : Act) (m : FmtM) (s : State) : Out := .next (s.uAlu x m (fun _ _ a b => a ||| b))

/-- XOR (0x14): D takes A op B. -/
def execUopXor (x : Act) (m : FmtM) (s : State) : Out := .next (s.uAlu x m (fun _ _ a b => a ^^^ b))

/-- SHL (0x15): D takes A op B. -/
def execUopShl (x : Act) (m : FmtM) (s : State) : Out := .next (s.uAlu x m (fun _ _ a b => a <<< (b.toNat % 32)))

/-- SHR (0x16): D takes A op B. -/
def execUopShr (x : Act) (m : FmtM) (s : State) : Out := .next (s.uAlu x m (fun _ _ a b => a >>> (b.toNat % 32)))

/-- SAR (0x17): D takes A op B. -/
def execUopSar (x : Act) (m : FmtM) (s : State) : Out := .next (s.uAlu x m (fun _ _ a b => a.sshiftRight (b.toNat % 32)))

/-- ADDI (0x18): D + IMM, sign-extended. -/
def execUopAddi (x : Act) (d : BitVec 7) (imm : BitVec 19) (s : State) : Out :=
  .next (s.uop x none (fun u a t => do
    let v ← uRead u a d.toNat
    let u1 ← uWrite u d.toNat (v + imm.signExtend 32)
    .ok (t.setMicro x u1, none)))

/-- LDI (0x19): IMM, zero-extended. -/
def execUopLdi (x : Act) (d : BitVec 7) (imm : BitVec 19) (s : State) : Out :=
  .next (s.uop x none (fun u _ t => do
    let u1 ← uWrite u d.toNat (imm.zeroExtend 32)
    .ok (t.setMicro x u1, none)))

/-- LUI (0x1A): D[31:19] from IMM[12:0]; D[18:0] kept. -/
def execUopLui (x : Act) (d : BitVec 7) (imm : BitVec 19) (s : State) : Out :=
  .next (s.uop x none (fun u a t => do
    let v ← uRead u a d.toNat
    let u1 ← uWrite u d.toNat (wput v 19 13 imm.toNat)
    .ok (t.setMicro x u1, none)))

/-- MOV (0x1B). -/
def execUopMov (x : Act) (m : FmtM) (s : State) : Out :=
  .next (s.uop x none (fun u a t => do
    let va ← uRead u a m.a.toNat
    let u1 ← uWrite u m.d.toNat va
    .ok (t.setMicro x u1, none)))

/-- CMP (0x1C): Z, N and C. -/
def execUopCmp (x : Act) (m : FmtM) (s : State) : Out :=
  .next (s.uop x none (fun u a t => do
    let va ← uRead u a m.a.toNat
    let vb ← uRead u a m.b.toNat
    let f := uopCmpFlags va vb
    .ok (t.setMicro x { u with z := f.1, n := f.2.1, c := f.2.2 }, none)))

/-- MIN (0x1D), unsigned. -/
def execUopMin (x : Act) (m : FmtM) (s : State) : Out :=
  .next (s.uAlu x m (fun _ _ a b => if a.toNat < b.toNat then a else b))

/-- MAX (0x1E), unsigned. -/
def execUopMax (x : Act) (m : FmtM) (s : State) : Out :=
  .next (s.uAlu x m (fun _ _ a b => if a.toNat < b.toNat then b else a))

/-- MUL (0x1F): A[15:0] x B[15:0]. -/
def execUopMul (x : Act) (m : FmtM) (s : State) : Out :=
  .next (s.uAlu x m (fun _ _ a b => BitVec.ofNat 32 ((a.toNat % 2 ^ 16) * (b.toNat % 2 ^ 16))))

/-- An address within Sapwood's SRAM window (R259 reason 5). -/
def State.inSapWin (s : State) (x : Act) (addr : Nat) : Bool :=
  let base := s.get (Fld.UCS_SAPWIN_BASE x) * 4096
  decide (base ≤ addr) && decide (addr + 4 ≤ base + 4096 * s.get (Fld.UCS_SAPWIN_PAGES x)) && inSram addr

/-- LDS (0x20): the SRAM word at address A; stalls. In capability mode outside the window it traps. -/
def execUopLds (x : Act) (m : FmtM) (s : State) : Out :=
  .next (s.uop x none (fun u a t => do
    let va ← uRead u a m.a.toNat
    if u.cap && !t.inSapWin x va.toNat then .error (.trap 5)
    else t.uStall x u (.lds m.d.toNat va.toNat)))

/-- STS (0x21): the SRAM word at address A takes B; shadowed. -/
def execUopSts (x : Act) (m : FmtM) (s : State) : Out :=
  .next (s.uop x none (fun u a t => do
    let va ← uRead u a m.a.toNat
    let vb ← uRead u a m.b.toNat
    if u.cap && !t.inSapWin x va.toNat then .error (.trap 5)
    else
      let u1 ← uShadow u (.sram va.toNat vb)
      .ok (t.setMicro x u1, none)))

/-- LDZ (0x22): word A[5:0] of the zone-table entry of channel B[0]'s zone; stalls. -/
def execUopLdz (x : Act) (m : FmtM) (s : State) : Out :=
  .next (s.uop x none (fun u a t => do
    let va ← uRead u a m.a.toNat
    let vb ← uRead u a m.b.toNat
    t.uStall x u (.ldz m.d.toNat (va.toNat % 64) (vb.toNat % 2))))

/-- LDPT (0x23): word A of the parameter table for the current temperature band; stalls. -/
def execUopLdpt (x : Act) (m : FmtM) (s : State) : Out :=
  .next (s.uop x none (fun u a t => do
    let va ← uRead u a m.a.toNat
    if !t.ptOk x (va.toNat / 32) then .error (.err errState)
    else t.uStall x u (.ldpt m.d.toNat va.toNat)))

/-- RDR (0x24): the device register at address A; stalls. In Sapwood A is a window offset of R181, which decides (R241). -/
def execUopRdr (x : Act) (m : FmtM) (s : State) : Out :=
  .next (s.uop x none (fun u a t => do
    let va ← uRead u a m.a.toNat
    if u.cap then
      match windowRead x va.toNat with
      | some addr => t.uStall x u (.rdr m.d.toNat addr)
      | none => .error (.trap 5)
    else t.uStall x u (.rdr m.d.toNat va.toNat)))

/-- WRR (0x25): the device register at address A takes B; shadowed. -/
def execUopWrr (x : Act) (m : FmtM) (s : State) : Out :=
  .next (s.uop x none (fun u a t => do
    let va ← uRead u a m.a.toNat
    let vb ← uRead u a m.b.toNat
    if u.cap then
      match t.windowWrite x va.toNat vb with
      | some addr =>
        let u1 ← uShadow u (.wrr addr vb)
        .ok (t.setMicro x u1, none)
      | none => .error (.trap 5)
    else
      let u1 ← uShadow u (.wrr va.toNat vb)
      .ok (t.setMicro x u1, none)))

/-- SEL (0x26): A when Z is 0, else B. -/
def execUopSel (x : Act) (m : FmtM) (s : State) : Out :=
  .next (s.uAlu x m (fun u _ a b => if u.z then b else a))

/-- BITX (0x27): the field of A with low bit B[4:0] and width B[9:5] + 1. -/
def execUopBitx (x : Act) (m : FmtM) (s : State) : Out :=
  .next (s.uAlu x m (fun _ _ a b => BitVec.ofNat 32 (nbits a.toNat (nbits b.toNat 0 5) (nbits b.toNat 5 5 + 1))))

/-- CHSET (0x28): an operation descriptor from t0 to t7 into channel D[0]. -/
def execUopChset (x : Act) (m : FmtM) (s : State) : Out :=
  .next (s.uop x (some 7) (fun u _ t =>
    .ok (t.chSet (chanOf x (m.d.getLsbD 0)) ((List.range 8).map (fun i => mget (fun _ => (0 : Word)) u.t i)), none)))

/-- CHGO (0x29): channel D[0]'s loaded operation starts at the firing of comparator A[5:0]. -/
def execUopChgo (x : Act) (m : FmtM) (s : State) : Out :=
  .next (s.uop x (some 7) (fun u a t => do
    let va ← uRead u a m.a.toNat
    .ok (t.chGo (chanOf x (m.d.getLsbD 0)) (va.toNat % 64), none)))

/-- CHWT (0x2A): the status of channel A[0] once it is idle; stalls. -/
def execUopChwt (x : Act) (m : FmtM) (s : State) : Out :=
  .next (s.uop x none (fun u a t => do
    let va ← uRead u a m.a.toNat
    t.uStall x u (.chwt m.d.toNat (va.toNat % 2))))

/-- A gate of channel D[0] between comparators A[5:0] and B[5:0] (R239). -/
def State.uGate (s : State) (x : Act) (m : FmtM) (kind : Nat) : State :=
  s.uop x (some 1) (fun u a t => do
    let va ← uRead u a m.a.toNat
    let vb ← uRead u a m.b.toNat
    .ok (t.addGate x { kind := kind, ch := b2n (m.d.getLsbD 0), opens := va.toNat % 64, closes := vb.toNat % 64, isOpen := false, since := 0 }, none))

/-- GATEW (0x2B): a write gate. -/
def execUopGatew (x : Act) (m : FmtM) (s : State) : Out := .next (s.uGate x m 0)

/-- GATEL (0x2C): a laser gate. -/
def execUopGatel (x : Act) (m : FmtM) (s : State) : Out := .next (s.uGate x m 1)

/-- GATEE (0x2D): an erase gate. -/
def execUopGatee (x : Act) (m : FmtM) (s : State) : Out := .next (s.uGate x m 2)

/-- TAGLD (0x2E): the tag seed of channel D[0] from A and B; shadowed. -/
def execUopTagld (x : Act) (m : FmtM) (s : State) : Out :=
  .next (s.uop x (some 7) (fun u a t => do
    let va ← uRead u a m.a.toNat
    let vb ← uRead u a m.b.toNat
    let u1 ← uShadow u (.tag (m.d.toNat % 2) va vb)
    .ok (t.setMicro x u1, none)))

/-- BUFA (0x2F): b register D takes D + A; shadowed. A D outside the b file is a reserved specifier here. -/
def execUopBufa (x : Act) (m : FmtM) (s : State) : Out :=
  .next (s.uop x (some 7) (fun u a t => do
    let va ← uRead u a m.a.toNat
    let vd ← uRead u a m.d.toNat
    if 0x20 ≤ m.d.toNat ∧ m.d.toNat ≤ 0x27 then
      let u1 ← uShadow u (.bufa m.d.toNat (vd + va))
      .ok (t.setMicro x u1, none)
    else .error (.err errIllegal)))

/-- LPCMD (0x30): LPE command D[2:0] with arguments A and B. -/
def execUopLpcmd (x : Act) (m : FmtM) (s : State) : Out :=
  .next (s.uop x (some 7) (fun u a t => do
    let va ← uRead u a m.a.toNat
    let vb ← uRead u a m.b.toNat
    .ok (t.lpeCommand x (m.d.toNat % 8) va vb, none)))

/-- LPWT (0x31): LPE status once any condition of mask A holds; stalls. -/
def execUopLpwt (x : Act) (m : FmtM) (s : State) : Out :=
  .next (s.uop x none (fun u a t => do
    let va ← uRead u a m.a.toNat
    t.uStall x u (.lpwt m.d.toNat va.toNat)))

/-- HDSEL (0x32): head A[3:0] bound to channel D[0] at the preamp. -/
def execUopHdsel (x : Act) (m : FmtM) (s : State) : Out :=
  .next (s.uop x (some 7) (fun u a t => do
    let va ← uRead u a m.a.toNat
    .ok (t.headSelect x (m.d.getLsbD 0) (va.toNat % 16), none)))

/-- PLKW (0x33): preamp register A takes B over PLKx. -/
def execUopPlkw (x : Act) (m : FmtM) (s : State) : Out :=
  .next (s.uop x (some 7) (fun u a t => do
    let va ← uRead u a m.a.toNat
    let vb ← uRead u a m.b.toNat
    .ok (t.plkWrite x (va.toNat % 128) (vb.toNat % 2 ^ 16), none)))

/-- PLKR (0x34): D takes preamp register A; stalls. -/
def execUopPlkr (x : Act) (m : FmtM) (s : State) : Out :=
  .next (s.uop x none (fun u a t => do
    let va ← uRead u a m.a.toNat
    t.uStall x u (.plkr m.d.toNat va.toNat)))

/-- HTR (0x35): heater mode A[1:0] and power A[27:16] of channel D[0]'s head. -/
def execUopHtr (x : Act) (m : FmtM) (s : State) : Out :=
  .next (s.uop x (some 7) (fun u a t => do
    let va ← uRead u a m.a.toNat
    let q := t.msq x
    let c := m.d.getLsbD 0
    .ok ((t.setMsq x (q.setPos c { q.pos c with heat := va.toNat % 4, hpow := some (nbits va.toNat 16 12) })).setHeaters x, none)))

/-- ASST (0x36): assist enable A[0] and setpoint A[27:16] of channel D[0]'s head. -/
def execUopAsst (x : Act) (m : FmtM) (s : State) : Out :=
  .next (s.uop x (some 7) (fun u a t => do
    let va ← uRead u a m.a.toNat
    let q := t.msq x
    let c := m.d.getLsbD 0
    .ok ((t.setMsq x (q.setPos c { q.pos c with assist := va.getLsbD 0, setp := some (nbits va.toNat 16 12) })).restLasers x, none)))

/-- WGLIM (0x37): Write Guard limit A takes B. -/
def execUopWglim (x : Act) (m : FmtM) (s : State) : Out :=
  .next (s.uop x (some 3) (fun u a t => do
    let va ← uRead u a m.a.toNat
    let vb ← uRead u a m.b.toNat
    .ok (t.guardLimit x va.toNat vb.toNat, none)))

/-- CTXB (0x38): CCX's reply to a bind request for context A; stalls. -/
def execUopCtxb (x : Act) (m : FmtM) (s : State) : Out :=
  .next (s.uop x (some 7) (fun u a t => do
    let va ← uRead u a m.a.toNat
    t.uStall x u (.ctxb m.d.toNat (va.toNat % 2 ^ 10))))

/-- CTXP (0x39): a POST credit with status A[7:0] and final mark A[8]; shadowed. -/
def execUopCtxp (x : Act) (m : FmtM) (s : State) : Out :=
  .next (s.uop x (some 7) (fun u a t => do
    let va ← uRead u a m.a.toNat
    let u1 ← uShadow u (.ctxp (va.toNat % 2 ^ 8) (va.getLsbD 8))
    .ok (t.setMicro x u1, none)))

/-- KEYSEL (0x3A): the bound context's key slot for the actuator's XTS traffic; a CTX that the routine has written counts (R251). -/
def execUopKeysel (x : Act) (_m : FmtM) (s : State) : Out :=
  .next (s.uop x (some 2) (fun u a t => .ok (t.selectKey x ((uSlotReg u a 0x34).toNat % 2 ^ 11), none)))

/-- BCLK (0x3B): ANG_BPRn of channel D[0] takes A (R106, R108). -/
def execUopBclk (x : Act) (m : FmtM) (s : State) : Out :=
  .next (s.uop x (some 7) (fun u a t => do
    let va ← uRead u a m.a.toNat
    .ok (t.setBpr (chanOf x (m.d.getLsbD 0)) va, none)))

/-- CKWR (0x3C): the next commit writes a checkpoint record; shadowed. -/
def execUopCkwr (x : Act) (s : State) : Out :=
  .next (s.uop x (some 7) (fun u _ t => do
    let u1 ← uShadow u .ckwr
    .ok (t.setMicro x u1, none)))

/-- TICK (0x3D): D takes the ANG angle. -/
def execUopTick (x : Act) (m : FmtM) (s : State) : Out :=
  .next (s.uop x none (fun u _ t => do
    let u1 ← uWrite u m.d.toNat (BitVec.ofNat 32 t.angle)
    .ok (t.setMicro x u1, none)))

/-- RBKS (0x3E): the Ringbook contribution B to histogram A; shadowed. -/
def execUopRbks (x : Act) (m : FmtM) (s : State) : Out :=
  .next (s.uop x none (fun u a t => do
    let va ← uRead u a m.a.toNat
    let vb ← uRead u a m.b.toNat
    let u1 ← uShadow u (.rbks (va.toNat % 256) vb.toNat)
    .ok (t.setMicro x u1, none)))

/-- HALTS (0x3F): the pending shadows are applied (R251) and the slot ends at the next commit. -/
def execUopHalts (x : Act) (s : State) : Out :=
  .next (s.uop x (some 7) (fun u _ t => do
    let u1 ← uShadow u .halts
    .ok ((t.setMicro x u1).applyShadows x (t.runK x), none)))

/-- The condition of a stalled micro-op holds (R239); a firmware frame asked for before a microcode read finishes first (R344). -/
def State.stallMet (s : State) (x : Act) : Stall → Bool
  | .wait mask => s.uEvents x &&& mask != 0
  | .chwt _ ch => s.chIdle (chanOf x (ch == 1))
  | .rdr _ a => !s.powerWaits a
  | .plkr .. => !s.flag (Fld.PLK_REQ_GO x) || (s.plk x).fwWaits
  | .lpwt _ mask => s.get Fld.SYS_D2DSTAT_SAFE == 0 && ((s.lpeStatus x) &&& mask != 0)
  | _ => true

/-- The latest shadowed value of an SRAM word, and of a register at an address (R251). -/
def shadowSram (l : List Shadow) (addr : Nat) : Option Word :=
  l.foldl (fun v e => match e with
    | .sram a w => if a / 4 = addr / 4 then some w else v
    | _ => v) none
def shadowAddr (l : List Shadow) (addr : Nat) : Option Word :=
  l.foldl (fun v e => match e with
    | .wrr a w => if a = addr then some w else v
    | _ => v) none

/-- The value that a stalled micro-op brings, and its destination register (none: WAIT). A word or a register that the routine has
written reads its shadowed value (R251). -/
def State.stallValue (s : State) (x : Act) (reply : Word) : Stall → Option (Nat × Word) × State
  | .wait _ => (none, s)
  | .lds d addr =>
    match shadowSram (s.msq x).micro.shadows addr with
    | some v => (some (d, v), s)
    | none => let (v, t) := s.sramWord (addr / 4 * 4); (some (d, v), t)
  | .ldz d w ch => let (v, t) := s.zoneWord x (ch == 1) w; (some (d, v), t)
  | .ldpt d w => let (v, t) := s.paramWord x w; (some (d, v), t)
  | .rdr d addr =>
    match shadowAddr (s.msq x).micro.shadows addr with
    | some v => (some (d, v), s)
    | none => let (v, t) := s.regRead (msqInit x) addr; (some (d, v), t)
  | .chwt d ch => (some (d, s.view (Reg.CH_STAT (chanOf x (ch == 1)))), s)
  | .lpwt d _ => (some (d, BitVec.ofNat 32 (s.lpeStatus x)), s)
  | .plkr d _ => (some (d, reply), s)
  | .ctxb d ctx => (some (d, BitVec.ofNat 32 (b2n (s.bindOk x ctx))), s)

/-- MICRO_STALL_END (R239): the condition of the stalled micro-op is met; D takes the value it brings. `reply` is what the
preamplifier answered to a PLKR. -/
def execMicroStallEnd (x : Act) (reply : Word) (s : State) : Out :=
  let m := s.msq x
  match m.running, m.micro.stall with
  | some _, some w =>
    if !s.stallMet x w then .next s
    else
      let (r, s1) := s.stallValue x reply w
      let u := { (s1.msq x).micro with stall := none }
      let u1 := match w with
        | .wait mask => { u with events := u.events &&& (127 - mask % 128) }
        | .ctxb .. => { u with events := u.events ||| 64 }
        | _ => u
      match r with
      | none => .next (s1.setMicro x u1)
      | some (d, v) =>
        match uWrite u1 d v with
        | .ok u2 => .next (s1.setMicro x u2)
        | .error e => .next (s1.uFail x e)
  | _, _ => .next s

/-- STEP_LIMIT (R250): the step count has reached USTEP_MAX; the slot faults with MSQx_ERR_STEP. -/
def execStepLimit (x : Act) (s : State) : Out :=
  let m := s.msq x
  let lim := s.eff (byAct x Fld.UCS_USTEP_MAXA Fld.UCS_USTEP_MAXB)
  if m.running.isSome && m.micro.on && decide (lim ≤ m.micro.steps) then .next (s.progError x m.micro.tpc errStep)
  else .next s

/-- CONTROL_STORE_PARITY (R52, R234): the error is counted, squash cause PARITY, UCS_EV_PARITY and MSQx_EV_PARITY; two errors at one
ROM address within ESC_WIN raise UCS_FLT_ROMPAR. An address above the control store stands for a parity error of the sequencer's
registers: cause PARITY and MSQx_EV_PARITY alone (DESIGN CHOICE, log 91). -/
def execControlStoreParity (x : Act) (uaddr : Nat) (s : State) : Out :=
  if !s.actOk x then .next s
  else if 0x5000 ≤ uaddr then .next ((s.raise (Fld.MSQ_EV_PARITY x)).squashBy x (2 ^ 8)).syncMode
  else
    let rom := decide (uaddr < 0x4000)
    let s1 := s.bump (if rom then Fld.UCS_PARCNT_ROM else Fld.UCS_PARCNT_RAM) 1
    let again := match mfind s.romPar uaddr with
      | some t => decide (s.now < t + s.escTicks)
      | none => false
    let s2 := if rom then { s1 with romPar := mput s.romPar uaddr s.now } else s1
    let s3 := s2.raise Fld.UCS_EV_PARITY
    let s4 := if rom && again then s3.raise Fld.UCS_FLT_ROMPAR else s3
    .next ((s4.raise (Fld.MSQ_EV_PARITY x)).squashBy x (2 ^ 8)).syncMode

end Sys2Proof.Machine
end

