-- ==== Sys2Proof/Machine/Dispatch.lean ====
section
/-!
DEFINITION. The dispatch: one arm per command.
-/
namespace Sys2Proof.Machine

def exec (i : Instr) (s : State) : Host.Outcome State Fault Refusal :=
  match i with
  | .frameCrcError => Sys2Proof.Machine.execFrameCrcError s
  | .laneFailure lane => Sys2Proof.Machine.execLaneFailure lane s
  | .laneRemapAck => Sys2Proof.Machine.execLaneRemapAck s
  | .laneRemapComplete => Sys2Proof.Machine.execLaneRemapComplete s
  | .laneRemapTimeout => Sys2Proof.Machine.execLaneRemapTimeout s
  | .linkLossSafeState => Sys2Proof.Machine.execLinkLossSafeState s
  | .linkTrainingComplete passing => Sys2Proof.Machine.execLinkTrainingComplete passing s
  | .d2dRelease => Sys2Proof.Machine.execD2dRelease s
  | .registerWrite ini addr v => Sys2Proof.Machine.execRegisterWrite ini addr v s
  | .latRead ini addr => Sys2Proof.Machine.execLatRead ini addr s
  | .lathWrite ini addr v => Sys2Proof.Machine.execLathWrite ini addr v s
  | .latWrite ini addr v => Sys2Proof.Machine.execLatWrite ini addr v s
  | .access64bit ini write addr v => Sys2Proof.Machine.execAccess64bit ini write addr v s
  | .narrowWrite ini addr half v => Sys2Proof.Machine.execNarrowWrite ini addr half v s
  | .accessFault ini kind size addr => Sys2Proof.Machine.execAccessFault ini kind size addr s
  | .servoCorrection wedge => Sys2Proof.Machine.execServoCorrection wedge s
  | .bemfCorrection k angle => Sys2Proof.Machine.execBemfCorrection k angle s
  | .servoSourceTimeout => Sys2Proof.Machine.execServoSourceTimeout s
  | .angleLoss => Sys2Proof.Machine.execAngleLoss s
  | .masterSwitch => Sys2Proof.Machine.execMasterSwitch s
  | .comparatorFire x k => Sys2Proof.Machine.execComparatorFire x k s
  | .msqSubmit x => Sys2Proof.Machine.execMsqSubmit x s
  | .resumeContextAnswer x => Sys2Proof.Machine.execResumeContextAnswer x s
  | .slotStart x => Sys2Proof.Machine.execSlotStart x s
  | .slotResume x k => Sys2Proof.Machine.execSlotResume x k s
  | .slotDiscard x k => Sys2Proof.Machine.execSlotDiscard x k s
  | .slotAbort x k => Sys2Proof.Machine.execSlotAbort x k s
  | .slotdoneClear x k => Sys2Proof.Machine.execSlotdoneClear x k s
  | .nop x f => Sys2Proof.Machine.execNop x f s
  | .br x f => Sys2Proof.Machine.execBr x f s
  | .brc x f => Sys2Proof.Machine.execBrc x f s
  | .call x f => Sys2Proof.Machine.execCall x f s
  | .ret x f => Sys2Proof.Machine.execRet x f s
  | .halt x f => Sys2Proof.Machine.execHalt x f s
  | .waita x f => Sys2Proof.Machine.execWaita x f s
  | .waite x f => Sys2Proof.Machine.execWaite x f s
  | .yield x f => Sys2Proof.Machine.execYield x f s
  | .ldi x f => Sys2Proof.Machine.execLdi x f s
  | .mov x f => Sys2Proof.Machine.execMov x f s
  | .add x f => Sys2Proof.Machine.execAdd x f s
  | .sub x f => Sys2Proof.Machine.execSub x f s
  | .and x f => Sys2Proof.Machine.execAnd x f s
  | .or x f => Sys2Proof.Machine.execOr x f s
  | .xor x f => Sys2Proof.Machine.execXor x f s
  | .shl x f => Sys2Proof.Machine.execShl x f s
  | .shr x f => Sys2Proof.Machine.execShr x f s
  | .cmp x f => Sys2Proof.Machine.execCmp x f s
  | .seek x f => Sys2Proof.Machine.execSeek x f s
  | .follow x f => Sys2Proof.Machine.execFollow x f s
  | .offset x f => Sys2Proof.Machine.execOffset x f s
  | .headsel x f => Sys2Proof.Machine.execHeadsel x f s
  | .loadh x f => Sys2Proof.Machine.execLoadh x f s
  | .unloadh x f => Sys2Proof.Machine.execUnloadh x f s
  | .read x f => Sys2Proof.Machine.execRead x f s
  | .write x f => Sys2Proof.Machine.execWrite x f s
  | .verify x f => Sys2Proof.Machine.execVerify x f s
  | .scan x f => Sys2Proof.Machine.execScan x f s
  | .eraseb x f => Sys2Proof.Machine.execEraseb x f s
  | .assist x f => Sys2Proof.Machine.execAssist x f s
  | .heat x f => Sys2Proof.Machine.execHeat x f s
  | .preheat x f => Sys2Proof.Machine.execPreheat x f s
  | .bind x f => Sys2Proof.Machine.execBind x f s
  | .badv x f => Sys2Proof.Machine.execBadv x f s
  | .tag x f => Sys2Proof.Machine.execTag x f s
  | .post x f => Sys2Proof.Machine.execPost x f s
  | .commit x f => Sys2Proof.Machine.execCommit x f s
  | .fence x f => Sys2Proof.Machine.execFence x f s
  | .chkpt x f => Sys2Proof.Machine.execChkpt x f s
  | .ext x f => Sys2Proof.Machine.execExt x f s
  | .rdreg x f => Sys2Proof.Machine.execRdreg x f s
  | .wrreg x f => Sys2Proof.Machine.execWrreg x f s
  | .positioningComplete x => Sys2Proof.Machine.execPositioningComplete x s
  | .mediaInstructionComplete x second => Sys2Proof.Machine.execMediaInstructionComplete x second s
  | .heaterSettled x second => Sys2Proof.Machine.execHeaterSettled x second s
  | .ccxBindConfirm x => Sys2Proof.Machine.execCcxBindConfirm x s
  | .waiteTimeout x => Sys2Proof.Machine.execWaiteTimeout x s
  | .waitaTimeout x => Sys2Proof.Machine.execWaitaTimeout x s
  | .slotTimeout x => Sys2Proof.Machine.execSlotTimeout x s
  | .wedgeCheck x wedge => Sys2Proof.Machine.execWedgeCheck x wedge s
  | .squashRestart x => Sys2Proof.Machine.execSquashRestart x s
  | .wedgeWatchdog x => Sys2Proof.Machine.execWedgeWatchdog x s
  | .controlStoreParity x uaddr => Sys2Proof.Machine.execControlStoreParity x uaddr s
  | .stepLimit x => Sys2Proof.Machine.execStepLimit x s
  | .uopNop x => Sys2Proof.Machine.execUopNop x s
  | .uopBr x target => Sys2Proof.Machine.execUopBr x target s
  | .uopBrc x cond target => Sys2Proof.Machine.execUopBrc x cond target s
  | .uopCall x target => Sys2Proof.Machine.execUopCall x target s
  | .uopRet x => Sys2Proof.Machine.execUopRet x s
  | .uopDisp x => Sys2Proof.Machine.execUopDisp x s
  | .uopExtd x => Sys2Proof.Machine.execUopExtd x s
  | .uopYield x => Sys2Proof.Machine.execUopYield x s
  | .uopCommit x => Sys2Proof.Machine.execUopCommit x s
  | .uopTrap x imm => Sys2Proof.Machine.execUopTrap x imm s
  | .uopWait x imm => Sys2Proof.Machine.execUopWait x imm s
  | .uopTestev x imm => Sys2Proof.Machine.execUopTestev x imm s
  | .uopArm x m => Sys2Proof.Machine.execUopArm x m s
  | .uopDisarm x m => Sys2Proof.Machine.execUopDisarm x m s
  | .uopSetflg x imm => Sys2Proof.Machine.execUopSetflg x imm s
  | .uopClrflg x imm => Sys2Proof.Machine.execUopClrflg x imm s
  | .uopAdd x m => Sys2Proof.Machine.execUopAdd x m s
  | .uopSub x m => Sys2Proof.Machine.execUopSub x m s
  | .uopAnd x m => Sys2Proof.Machine.execUopAnd x m s
  | .uopOr x m => Sys2Proof.Machine.execUopOr x m s
  | .uopXor x m => Sys2Proof.Machine.execUopXor x m s
  | .uopShl x m => Sys2Proof.Machine.execUopShl x m s
  | .uopShr x m => Sys2Proof.Machine.execUopShr x m s
  | .uopSar x m => Sys2Proof.Machine.execUopSar x m s
  | .uopAddi x d imm => Sys2Proof.Machine.execUopAddi x d imm s
  | .uopLdi x d imm => Sys2Proof.Machine.execUopLdi x d imm s
  | .uopLui x d imm => Sys2Proof.Machine.execUopLui x d imm s
  | .uopMov x m => Sys2Proof.Machine.execUopMov x m s
  | .uopCmp x m => Sys2Proof.Machine.execUopCmp x m s
  | .uopMin x m => Sys2Proof.Machine.execUopMin x m s
  | .uopMax x m => Sys2Proof.Machine.execUopMax x m s
  | .uopMul x m => Sys2Proof.Machine.execUopMul x m s
  | .uopLds x m => Sys2Proof.Machine.execUopLds x m s
  | .uopSts x m => Sys2Proof.Machine.execUopSts x m s
  | .uopLdz x m => Sys2Proof.Machine.execUopLdz x m s
  | .uopLdpt x m => Sys2Proof.Machine.execUopLdpt x m s
  | .uopRdr x m => Sys2Proof.Machine.execUopRdr x m s
  | .uopWrr x m => Sys2Proof.Machine.execUopWrr x m s
  | .uopSel x m => Sys2Proof.Machine.execUopSel x m s
  | .uopBitx x m => Sys2Proof.Machine.execUopBitx x m s
  | .uopChset x m => Sys2Proof.Machine.execUopChset x m s
  | .uopChgo x m => Sys2Proof.Machine.execUopChgo x m s
  | .uopChwt x m => Sys2Proof.Machine.execUopChwt x m s
  | .uopGatew x m => Sys2Proof.Machine.execUopGatew x m s
  | .uopGatel x m => Sys2Proof.Machine.execUopGatel x m s
  | .uopGatee x m => Sys2Proof.Machine.execUopGatee x m s
  | .uopTagld x m => Sys2Proof.Machine.execUopTagld x m s
  | .uopBufa x m => Sys2Proof.Machine.execUopBufa x m s
  | .uopLpcmd x m => Sys2Proof.Machine.execUopLpcmd x m s
  | .uopLpwt x m => Sys2Proof.Machine.execUopLpwt x m s
  | .uopHdsel x m => Sys2Proof.Machine.execUopHdsel x m s
  | .uopPlkw x m => Sys2Proof.Machine.execUopPlkw x m s
  | .uopPlkr x m => Sys2Proof.Machine.execUopPlkr x m s
  | .uopHtr x m => Sys2Proof.Machine.execUopHtr x m s
  | .uopAsst x m => Sys2Proof.Machine.execUopAsst x m s
  | .uopWglim x m => Sys2Proof.Machine.execUopWglim x m s
  | .uopCtxb x m => Sys2Proof.Machine.execUopCtxb x m s
  | .uopCtxp x m => Sys2Proof.Machine.execUopCtxp x m s
  | .uopKeysel x m => Sys2Proof.Machine.execUopKeysel x m s
  | .uopBclk x m => Sys2Proof.Machine.execUopBclk x m s
  | .uopCkwr x => Sys2Proof.Machine.execUopCkwr x s
  | .uopTick x m => Sys2Proof.Machine.execUopTick x m s
  | .uopRbks x m => Sys2Proof.Machine.execUopRbks x m s
  | .uopHalts x => Sys2Proof.Machine.execUopHalts x s
  | .microStallEnd x reply => Sys2Proof.Machine.execMicroStallEnd x reply s
  | .sapwoodLoadOpen x load => Sys2Proof.Machine.execSapwoodLoadOpen x load s
  | .sapdataAccess ini x write v => Sys2Proof.Machine.execSapdataAccess ini x write v s
  | .syncMarkSearch n cands => Sys2Proof.Machine.execSyncMarkSearch n cands s
  | .sectorDecode n out => Sys2Proof.Machine.execSectorDecode n out s
  | .redetection n tries sramBad => Sys2Proof.Machine.execRedetection n tries sramBad s
  | .redetectionDeadline n => Sys2Proof.Machine.execRedetectionDeadline n s
  | .defectFreeze n on => Sys2Proof.Machine.execDefectFreeze n on s
  | .freezeLimit n => Sys2Proof.Machine.execFreezeLimit n s
  | .frecpop n => Sys2Proof.Machine.execFrecpop n s
  | .eqdataAccess ini n write v => Sys2Proof.Machine.execEqdataAccess ini n write v s
  | .xtsSector n => Sys2Proof.Machine.execXtsSector n s
  | .laserGateLimit x second => Sys2Proof.Machine.execLaserGateLimit x second s
  | .monitorRead x second reading => Sys2Proof.Machine.execMonitorRead x second reading s
  | .lmrel x => Sys2Proof.Machine.execLmrel x s
  | .headContact x head => Sys2Proof.Machine.execHeadContact x head s
  | .writeGuardTrip x bits neg => Sys2Proof.Machine.execWriteGuardTrip x bits neg s
  | .writeGuardRelease x quiet => Sys2Proof.Machine.execWriteGuardRelease x quiet s
  | .tornpop x => Sys2Proof.Machine.execTornpop x s
  | .plkWriteFrame x addr data => Sys2Proof.Machine.execPlkWriteFrame x addr data s
  | .plkReadFrame x addr data crcOk => Sys2Proof.Machine.execPlkReadFrame x addr data crcOk s
  | .plkResponseTimeout x => Sys2Proof.Machine.execPlkResponseTimeout x s
  | .plkFirmwareFrame x resp => Sys2Proof.Machine.execPlkFirmwareFrame x resp s
  | .preampFault x pin status => Sys2Proof.Machine.execPreampFault x pin status s
  | .vcmSample x h0 h1 sh0 sh1 iv mv normal => Sys2Proof.Machine.execVcmSample x h0 h1 sh0 sh1 iv mv normal s
  | .microactuatorSample n => Sys2Proof.Machine.execMicroactuatorSample n s
  | .spindleSample pinA pinB mv => Sys2Proof.Machine.execSpindleSample pinA pinB mv s
  | .busVoltageSample mv => Sys2Proof.Machine.execBusVoltageSample mv s
  | .laserPowerSample n reading => Sys2Proof.Machine.execLaserPowerSample n reading s
  | .heaterSample n reported => Sys2Proof.Machine.execHeaterSample n reported s
  | .searchStart x => Sys2Proof.Machine.execSearchStart x s
  | .searchExpiry x => Sys2Proof.Machine.execSearchExpiry x s
  | .followingError loop => Sys2Proof.Machine.execFollowingError loop s
  | .outputSaturation loop => Sys2Proof.Machine.execOutputSaturation loop s
  | .loopOverrun loop => Sys2Proof.Machine.execLoopOverrun loop s
  | .safeLawExit x => Sys2Proof.Machine.execSafeLawExit x s
  | .lpeCopyMismatch loop checkerBad => Sys2Proof.Machine.execLpeCopyMismatch loop checkerBad s
  | .simplexResidueFailure => Sys2Proof.Machine.execSimplexResidueFailure s
  | .readmit => Sys2Proof.Machine.execReadmit s
  | .readmitTestDone pass => Sys2Proof.Machine.execReadmitTestDone pass s
  | .bankSwap g => Sys2Proof.Machine.execBankSwap g s
  | .coefdataAccess ini write v => Sys2Proof.Machine.execCoefdataAccess ini write v s
  | .retractDone x => Sys2Proof.Machine.execRetractDone x s
  | .vcmOvercurrent x => Sys2Proof.Machine.execVcmOvercurrent x s
  | .vcmOpenCoil x => Sys2Proof.Machine.execVcmOpenCoil x s
  | .uactOvercurrent k => Sys2Proof.Machine.execUactOvercurrent k s
  | .bemfCrossing place amp handoff => Sys2Proof.Machine.execBemfCrossing place amp handoff s
  | .bemfLoss => Sys2Proof.Machine.execBemfLoss s
  | .bemfCoastTimeout => Sys2Proof.Machine.execBemfCoastTimeout s
  | .startDecision => Sys2Proof.Machine.execStartDecision s
  | .senseTimeout amp => Sys2Proof.Machine.execSenseTimeout amp s
  | .probeComplete peaks => Sys2Proof.Machine.execProbeComplete peaks s
  | .handoffTimeout => Sys2Proof.Machine.execHandoffTimeout s
  | .keMeasurementStart => Sys2Proof.Machine.execKeMeasurementStart s
  | .keMeasurementDone ke => Sys2Proof.Machine.execKeMeasurementDone ke s
  | .kereq => Sys2Proof.Machine.execKereq s
  | .kenomWrite v => Sys2Proof.Machine.execKenomWrite v s
  | .runSet => Sys2Proof.Machine.execRunSet s
  | .runClear => Sys2Proof.Machine.execRunClear s
  | .shortBrakeWindow amp => Sys2Proof.Machine.execShortBrakeWindow amp s
  | .stopTimeout => Sys2Proof.Machine.execStopTimeout s
  | .spindleOvercurrent => Sys2Proof.Machine.execSpindleOvercurrent s
  | .spindleOcPauseEnd => Sys2Proof.Machine.execSpindleOcPauseEnd s
  | .ov2BrakeEnd => Sys2Proof.Machine.execOv2BrakeEnd s
  | .spdcmdInvalid => Sys2Proof.Machine.execSpdcmdInvalid s
  | .vinUvwFall vin => Sys2Proof.Machine.execVinUvwFall vin s
  | .vinUvwRelease vin => Sys2Proof.Machine.execVinUvwRelease vin s
  | .dipTimerExpiry => Sys2Proof.Machine.execDipTimerExpiry s
  | .vinPldFall vin => Sys2Proof.Machine.execVinPldFall vin s
  | .lowvSet vin => Sys2Proof.Machine.execLowvSet vin s
  | .lowvClear vin => Sys2Proof.Machine.execLowvClear vin s
  | .ov1 vin => Sys2Proof.Machine.execOv1 vin s
  | .ov2 vin => Sys2Proof.Machine.execOv2 vin s
  | .ov3 vin => Sys2Proof.Machine.execOv3 vin s
  | .ovRelease level vin => Sys2Proof.Machine.execOvRelease level vin s
  | .chopOpen => Sys2Proof.Machine.execChopOpen s
  | .chopStuck => Sys2Proof.Machine.execChopStuck s
  | .choprel => Sys2Proof.Machine.execChoprel s
  | .prerailFault => Sys2Proof.Machine.execPrerailFault s
  | .preenWrite => Sys2Proof.Machine.execPreenWrite s
  | .vcorePhaseDrop phase => Sys2Proof.Machine.execVcorePhaseDrop phase s
  | .vcoreCurrentLimit => Sys2Proof.Machine.execVcoreCurrentLimit s
  | .vcoreCurrentLimitEnd => Sys2Proof.Machine.execVcoreCurrentLimitEnd s
  | .retractEntry => Sys2Proof.Machine.execRetractEntry s
  | .retractEndWrite => Sys2Proof.Machine.execRetractEndWrite s
  | .retractDoneWrite => Sys2Proof.Machine.execRetractDoneWrite s
  | .mediaPhaseEnd => Sys2Proof.Machine.execMediaPhaseEnd s
  | .brakePhase late => Sys2Proof.Machine.execBrakePhase late s
  | .brakeBorExit straps memOk vin => Sys2Proof.Machine.execBrakeBorExit straps memOk vin s
  | .thmSample ts therm pre => Sys2Proof.Machine.execThmSample ts therm pre s
  | .tjWarn => Sys2Proof.Machine.execTjWarn s
  | .tjShut sensor peak => Sys2Proof.Machine.execTjShut sensor peak s
  | .thermalReset f pairs => Sys2Proof.Machine.execThermalReset f pairs s
  | .por p memOk => Sys2Proof.Machine.execPor p memOk s
  | .bor => Sys2Proof.Machine.execBor s
  | .pinReset => Sys2Proof.Machine.execPinReset s
  | .pinResetRelease p memOk => Sys2Proof.Machine.execPinResetRelease p memOk s
  | .warmReset src pairs verified => Sys2Proof.Machine.execWarmReset src pairs verified s
  | .actuatorReset x svc => Sys2Proof.Machine.execActuatorReset x svc s
  | .secureBoot root ent first second prot sasA sasB => Sys2Proof.Machine.execSecureBoot root ent first second prot sasA sasB s
  | .dramTrainingDone => Sys2Proof.Machine.execDramTrainingDone s
  | .dramTrainingTimeout => Sys2Proof.Machine.execDramTrainingTimeout s
  | .rankRetrain rank => Sys2Proof.Machine.execRankRetrain rank s
  | .rankRetrainDone rank => Sys2Proof.Machine.execRankRetrainDone rank s
  | .dramTemperaturePoll hot => Sys2Proof.Machine.execDramTemperaturePoll hot s
  | .refreshWatchdog => Sys2Proof.Machine.execRefreshWatchdog s
  | .zeroFill => Sys2Proof.Machine.execZeroFill s
  | .zeroFillDone => Sys2Proof.Machine.execZeroFillDone s
  | .correctionTrack => Sys2Proof.Machine.execCorrectionTrack s
  | .trackerEntryFree => Sys2Proof.Machine.execTrackerEntryFree s
  | .scrubGranule granule => Sys2Proof.Machine.execScrubGranule granule s
  | .bufferReservationGrant => Sys2Proof.Machine.execBufferReservationGrant s
  | .bufPoolWrite v => Sys2Proof.Machine.execBufPoolWrite v s
  | .segmentRelease seg => Sys2Proof.Machine.execSegmentRelease seg s
  | .getinfo => Sys2Proof.Machine.execGetinfo s
  | .keygen flash => Sys2Proof.Machine.execKeygen flash s
  | .keyload flash => Sys2Proof.Machine.execKeyload flash s
  | .keywrap => Sys2Proof.Machine.execKeywrap s
  | .keyerase => Sys2Proof.Machine.execKeyerase s
  | .random => Sys2Proof.Machine.execRandom s
  | .imgverify sigs patch => Sys2Proof.Machine.execImgverify sigs patch s
  | .patchload => Sys2Proof.Machine.execPatchload s
  | .rollback flash => Sys2Proof.Machine.execRollback flash s
  | .measure => Sys2Proof.Machine.execMeasure s
  | .sign => Sys2Proof.Machine.execSign s
  | .sesskey => Sys2Proof.Machine.execSesskey s
  | .dbgchal => Sys2Proof.Machine.execDbgchal s
  | .dbgresp ok => Sys2Proof.Machine.execDbgresp ok s
  | .mailboxTimeout => Sys2Proof.Machine.execMailboxTimeout s
  | .heartwoodReset root ent => Sys2Proof.Machine.execHeartwoodReset root ent s
  | .debugNonceLapse => Sys2Proof.Machine.execDebugNonceLapse s
  | .entropyHealthFailure => Sys2Proof.Machine.execEntropyHealthFailure s
  | .maskDrbgReseed => Sys2Proof.Machine.execMaskDrbgReseed s
  | .keyActivation sys index => Sys2Proof.Machine.execKeyActivation sys index s
  | .eraseComplete sys index => Sys2Proof.Machine.execEraseComplete sys index s
  | .lrdataAccess ini write v => Sys2Proof.Machine.execLrdataAccess ini write v s
  | .gcmEncrypt => Sys2Proof.Machine.execGcmEncrypt s
  | .gcmDecrypt => Sys2Proof.Machine.execGcmDecrypt s
  | .gmacGenerate => Sys2Proof.Machine.execGmacGenerate s
  | .gmacVerify => Sys2Proof.Machine.execGmacVerify s
  | .counterReservation index ok => Sys2Proof.Machine.execCounterReservation index ok s
  | .commandAdmission c => Sys2Proof.Machine.execCommandAdmission c s
  | .ctxOpen => Sys2Proof.Machine.execCtxOpen s
  | .ctxAdmit n => Sys2Proof.Machine.execCtxAdmit n s
  | .ctxQueuea n => Sys2Proof.Machine.execCtxQueuea n s
  | .ctxQueueb n => Sys2Proof.Machine.execCtxQueueb n s
  | .ctxCache n => Sys2Proof.Machine.execCtxCache n s
  | .ctxZero n => Sys2Proof.Machine.execCtxZero n s
  | .ctxEnd n status => Sys2Proof.Machine.execCtxEnd n status s
  | .ccxPop ini q => Sys2Proof.Machine.execCcxPop ini q s
  | .contextComplete n => Sys2Proof.Machine.execContextComplete n s
  | .contextTimeout n => Sys2Proof.Machine.execContextTimeout n s
  | .hostAbort port unit tag tmf => Sys2Proof.Machine.execHostAbort port unit tag tmf s
  | .sasHardReset portB => Sys2Proof.Machine.execSasHardReset portB s
  | .perst => Sys2Proof.Machine.execPerst s
  | .functionLevelReset flr => Sys2Proof.Machine.execFunctionLevelReset flr s
  | .cstsRdy => Sys2Proof.Machine.execCstsRdy s
  | .recoveryDownloadCommit n pass img p memOk => Sys2Proof.Machine.execRecoveryDownloadCommit n pass img p memOk s
  | .mgtWrite ofs => Sys2Proof.Machine.execMgtWrite ofs s
  | .mgtRead len => Sys2Proof.Machine.execMgtRead len s
  | .pairDropout core p1 pairs verified => Sys2Proof.Machine.execPairDropout core p1 pairs verified s
  | .pairReadmit core => Sys2Proof.Machine.execPairReadmit core s
  | .pairReadmitDone core pass => Sys2Proof.Machine.execPairReadmitDone core pass s
  | .watchdogKick ini v => Sys2Proof.Machine.execWatchdogKick ini v s
  | .watchdogEnable core => Sys2Proof.Machine.execWatchdogEnable core s
  | .watchdogExpiry core pairs verified => Sys2Proof.Machine.execWatchdogExpiry core pairs verified s
  | .interruptCauseLatch core => Sys2Proof.Machine.execInterruptCauseLatch core s
  | .causeReadClear ini core => Sys2Proof.Machine.execCauseReadClear ini core s
  | .countdownTimerStart core v => Sys2Proof.Machine.execCountdownTimerStart core v s
  | .countdownTimerExpiry core => Sys2Proof.Machine.execCountdownTimerExpiry core s
  | .mcmo core v => Sys2Proof.Machine.execMcmo core v s
  | .rominfo core => Sys2Proof.Machine.execRominfo core s
  | .xspread core ofs dst n => Sys2Proof.Machine.execXspread core ofs dst n s
  | .zerofill core ofs granules => Sys2Proof.Machine.execZerofill core ofs granules s
  | .mboxcall core code req => Sys2Proof.Machine.execMboxcall core code req s
  | .xspRead => Sys2Proof.Machine.execXspRead s
  | .xspProgram fail => Sys2Proof.Machine.execXspProgram fail s
  | .xspErase4k fail => Sys2Proof.Machine.execXspErase4k fail s
  | .xspErase64k fail => Sys2Proof.Machine.execXspErase64k fail s
  | .xspStatus dev => Sys2Proof.Machine.execXspStatus dev s
  | .xspOperationEnd => Sys2Proof.Machine.execXspOperationEnd s
  | .xspTimeout units f => Sys2Proof.Machine.execXspTimeout units f s
  | .uartTransmit v => Sys2Proof.Machine.execUartTransmit v s
  | .uartReceiveRead ini => Sys2Proof.Machine.execUartReceiveRead ini s
  | .uartByteReceived v framing => Sys2Proof.Machine.execUartByteReceived v framing s
  | .traceRecord src kind info a1 a2 lost => Sys2Proof.Machine.execTraceRecord src kind info a1 a2 lost s
  | .valeSlotTransmit => Sys2Proof.Machine.execValeSlotTransmit s
  | .beacon rx ref refOk hand slot tokvalid budget cap => Sys2Proof.Machine.execBeacon rx ref refOk hand slot tokvalid budget cap s
  | .status rx elig tokreq tokhold inreg retract => Sys2Proof.Machine.execStatus rx elig tokreq tokhold inreg retract s
  | .seekAnnouncement rx start cls dir act => Sys2Proof.Machine.execSeekAnnouncement rx start cls dir act s
  | .sync sender high macTx macAlt => Sys2Proof.Machine.execSync sender high macTx macAlt s
  | .canopyElection => Sys2Proof.Machine.execCanopyElection s
  | .beaconLoss => Sys2Proof.Machine.execBeaconLoss s
  | .canopyHandover => Sys2Proof.Machine.execCanopyHandover s
  | .tokenTimeout slot => Sys2Proof.Machine.execTokenTimeout slot s
  | .staggerExpiry => Sys2Proof.Machine.execStaggerExpiry s
  | .valeKeyWrite v => Sys2Proof.Machine.execValeKeyWrite v s
  | .valeJoin => Sys2Proof.Machine.execValeJoin s
  | .valeClrctr => Sys2Proof.Machine.execValeClrctr s
  | .ringbookFold => Sys2Proof.Machine.execRingbookFold s
  | .fwevWrite v => Sys2Proof.Machine.execFwevWrite v s
  | .rbkSnap => Sys2Proof.Machine.execRbkSnap s
  | .rbkSnapDone => Sys2Proof.Machine.execRbkSnapDone s
  | .rbkFlush period => Sys2Proof.Machine.execRbkFlush period s
  | .rbkFlushDone ok regions => Sys2Proof.Machine.execRbkFlushDone ok regions s
  | .rbkWindowWrite addr v => Sys2Proof.Machine.execRbkWindowWrite addr v s
  | .modeReqSplit x => Sys2Proof.Machine.execModeReqSplit x s
  | .modeReqSelfwrite => Sys2Proof.Machine.execModeReqSelfwrite s
  | .modeReqLeave => Sys2Proof.Machine.execModeReqLeave s
  | .firmwareSwitch hash => Sys2Proof.Machine.execFirmwareSwitch hash s
  | .angleWrap => Sys2Proof.Machine.execAngleWrap s
  | .vcmOcPauseEnd x => Sys2Proof.Machine.execVcmOcPauseEnd x s
  | .boostOutOfRegulation => Sys2Proof.Machine.execBoostOutOfRegulation s
  | .mediaBusExcursion vin => Sys2Proof.Machine.execMediaBusExcursion vin s
  | .mediaBusSettled vin => Sys2Proof.Machine.execMediaBusSettled vin s
  | .borRelease p memOk => Sys2Proof.Machine.execBorRelease p memOk s
  | .activeIdleTimeout => Sys2Proof.Machine.execActiveIdleTimeout s
  | .hostDataTransfer n second data pi => Sys2Proof.Machine.execHostDataTransfer n second data pi s
  | .hostLinkChange link rate width reset => Sys2Proof.Machine.execHostLinkChange link rate width reset s
  | .phyPllLockLoss => Sys2Proof.Machine.execPhyPllLockLoss s
  | .controllerEnable => Sys2Proof.Machine.execControllerEnable s
  | .preampFaultClear x => Sys2Proof.Machine.execPreampFaultClear x s
  | .uartByteSent => Sys2Proof.Machine.execUartByteSent s
  | .ringbookPeriodicSample second => Sys2Proof.Machine.execRingbookPeriodicSample second s
  | .debugHalt core halt => Sys2Proof.Machine.execDebugHalt core halt s

end Sys2Proof.Machine
end

