-- ==== Sys2Proof/WellFormed.lean ====
section
/-!
DEFINITION. Well-formed commands: operands that name something the block has. A command outside these ranges has the meaning its
definition gives, but no sender has a reason for it.
-/
namespace Sys2Proof

/-- An address is a multiple of an access size (R65 to R67). -/
def aligned (n addr : Nat) : Bool := addr % n == 0

/-- A command's operands are in range. -/
def Instr.wf : Instr → Bool
  | .frameCrcError => true
  | .laneFailure lane => decide (lane ≤ 8)
  | .laneRemapAck | .laneRemapComplete | .laneRemapTimeout | .linkLossSafeState | .linkTrainingComplete .. => true
  | .d2dRelease => true
  | .registerWrite _ addr _ => aligned 4 addr
  | .latRead _ addr => aligned 4 addr
  | .lathWrite _ addr _ => aligned 4 addr
  | .latWrite _ addr _ => aligned 4 addr
  | .access64bit _ _ addr _ => aligned 8 addr
  | .narrowWrite _ addr half _ => aligned (if half then 2 else 1) addr
  | .accessFault _ _ size _ => decide (size ≤ 3)
  | .servoCorrection wedge => decide (wedge < 2048)
  | .bemfCorrection _ angle => decide (angle < 2 ^ 32)
  | .servoSourceTimeout | .angleLoss | .masterSwitch => true
  | .comparatorFire _ k => decide (k < 64)
  | .msqSubmit .. | .resumeContextAnswer .. | .slotStart .. => true
  | .slotResume _ k => decide (k < 16)
  | .slotDiscard _ k => decide (k < 16)
  | .slotAbort _ k => decide (k < 16)
  | .slotdoneClear _ k => decide (k < 16)
  | .nop .. | .br .. | .brc .. | .call .. | .ret .. | .halt .. | .waita .. | .waite .. | .yield .. | .ldi .. => true
  | .mov .. | .add .. | .sub .. | .and .. | .or .. | .xor .. | .shl .. | .shr .. | .cmp .. | .seek .. | .follow .. => true
  | .offset .. | .headsel .. | .loadh .. | .unloadh .. | .read .. | .write .. | .verify .. | .scan .. | .eraseb .. => true
  | .assist .. | .heat .. | .preheat .. | .bind .. | .badv .. | .tag .. | .post .. | .commit .. | .fence .. => true
  | .chkpt .. | .ext .. | .rdreg .. | .wrreg .. | .positioningComplete .. | .mediaInstructionComplete .. => true
  | .heaterSettled .. | .ccxBindConfirm .. | .waiteTimeout .. | .waitaTimeout .. | .slotTimeout .. => true
  | .wedgeCheck _ wedge => decide (wedge < 2048)
  | .squashRestart .. | .wedgeWatchdog .. => true
  | .controlStoreParity _ uaddr => decide (uaddr ≤ 0x5000)
  | .stepLimit .. | .uopNop .. | .uopBr .. | .uopBrc .. | .uopCall .. | .uopRet .. | .uopDisp .. | .uopExtd .. => true
  | .uopYield .. | .uopCommit .. | .uopTrap .. | .uopWait .. | .uopTestev .. | .uopArm .. | .uopDisarm .. => true
  | .uopSetflg .. | .uopClrflg .. | .uopAdd .. | .uopSub .. | .uopAnd .. | .uopOr .. | .uopXor .. | .uopShl .. => true
  | .uopShr .. | .uopSar .. | .uopAddi .. | .uopLdi .. | .uopLui .. | .uopMov .. | .uopCmp .. | .uopMin .. => true
  | .uopMax .. | .uopMul .. | .uopLds .. | .uopSts .. | .uopLdz .. | .uopLdpt .. | .uopRdr .. | .uopWrr .. => true
  | .uopSel .. | .uopBitx .. | .uopChset .. | .uopChgo .. | .uopChwt .. | .uopGatew .. | .uopGatel .. | .uopGatee .. => true
  | .uopTagld .. | .uopBufa .. | .uopLpcmd .. | .uopLpwt .. | .uopHdsel .. | .uopPlkw .. | .uopPlkr .. => true
  | .uopHtr .. | .uopAsst .. | .uopWglim .. | .uopCtxb .. | .uopCtxp .. | .uopKeysel .. | .uopBclk .. | .uopCkwr .. => true
  | .uopTick .. | .uopRbks .. | .uopHalts .. | .microStallEnd .. | .sapwoodLoadOpen .. | .sapdataAccess .. => true
  | .syncMarkSearch .. | .sectorDecode .. | .redetection .. | .redetectionDeadline .. | .defectFreeze .. => true
  | .freezeLimit .. | .frecpop .. | .eqdataAccess .. | .xtsSector .. | .laserGateLimit .. => true
  | .monitorRead _ _ reading => (match reading with | some v => decide (v < 4096) | none => true)
  | .lmrel .. => true
  | .headContact _ head => decide (head < 12)
  | .writeGuardTrip .. | .writeGuardRelease .. | .tornpop .. | .plkWriteFrame .. | .plkReadFrame .. | .plkResponseTimeout .. => true
  | .plkFirmwareFrame .. | .preampFault .. | .vcmSample .. | .microactuatorSample .. | .spindleSample .. => true
  | .busVoltageSample .. => true
  | .laserPowerSample _ reading => decide (reading < 4096)
  | .heaterSample _ reported => decide (reported < 4096)
  | .searchStart .. | .searchExpiry .. => true
  | .followingError loop => decide (loop ≤ 12)
  | .outputSaturation loop => decide (loop ≤ 2)
  | .loopOverrun .. | .safeLawExit .. | .lpeCopyMismatch .. | .simplexResidueFailure | .readmit | .readmitTestDone .. => true
  | .bankSwap g => decide (g < 3)
  | .coefdataAccess .. | .retractDone .. | .vcmOvercurrent .. | .vcmOpenCoil .. => true
  | .uactOvercurrent k => decide (k < 4)
  | .bemfCrossing place _ _ => decide (place < 6)
  | .bemfLoss | .bemfCoastTimeout | .startDecision | .senseTimeout .. => true
  | .probeComplete peaks => peaks.length == 12
  | .handoffTimeout | .keMeasurementStart | .keMeasurementDone .. | .kereq | .kenomWrite .. | .runSet | .runClear => true
  | .shortBrakeWindow .. | .stopTimeout | .spindleOvercurrent | .spindleOcPauseEnd | .ov2BrakeEnd | .spdcmdInvalid => true
  | .vinUvwFall .. | .vinUvwRelease .. | .dipTimerExpiry | .vinPldFall .. | .lowvSet .. | .lowvClear .. => true
  | .ov1 .. | .ov2 .. | .ov3 .. => true
  | .ovRelease level _ => decide (1 ≤ level) && decide (level ≤ 3)
  | .chopOpen | .chopStuck | .choprel | .prerailFault | .preenWrite => true
  | .vcorePhaseDrop phase => decide (phase < 3)
  | .vcoreCurrentLimit | .vcoreCurrentLimitEnd | .retractEntry | .retractEndWrite | .retractDoneWrite | .mediaPhaseEnd => true
  | .brakePhase .. | .brakeBorExit .. => true
  | .thmSample ts _ _ => ts.length == 6
  | .tjWarn => true
  | .tjShut sensor _ => decide (sensor < 6)
  | .thermalReset .. | .por .. | .bor | .pinReset | .pinResetRelease .. | .warmReset .. | .actuatorReset .. => true
  | .secureBoot .. | .dramTrainingDone | .dramTrainingTimeout => true
  | .rankRetrain rank => decide (rank < 2)
  | .rankRetrainDone rank => decide (rank < 2)
  | .dramTemperaturePoll .. | .refreshWatchdog | .zeroFill | .zeroFillDone | .correctionTrack | .trackerEntryFree => true
  | .scrubGranule .. | .bufferReservationGrant | .bufPoolWrite .. => true
  | .segmentRelease seg => decide (seg < 2 ^ 14)
  | .getinfo | .keygen .. | .keyload .. | .keywrap | .keyerase | .random | .imgverify .. | .patchload | .rollback .. => true
  | .measure | .sign | .sesskey | .dbgchal | .dbgresp .. | .mailboxTimeout | .heartwoodReset .. | .debugNonceLapse => true
  | .entropyHealthFailure | .maskDrbgReseed => true
  | .keyActivation sys index => decide (index < if sys then 64 else 4096)
  | .eraseComplete sys index => decide (index < if sys then 64 else 4096)
  | .lrdataAccess .. | .gcmEncrypt | .gcmDecrypt | .gmacGenerate | .gmacVerify => true
  | .counterReservation index _ => decide (index < 64)
  | .commandAdmission c => decide (c.port ≤ 2) && decide (c.unit < 2) && decide (c.raw.length = 16)
  | .ctxOpen => true
  | .ctxAdmit n => decide (n < 1024)
  | .ctxQueuea n => decide (n < 1024)
  | .ctxQueueb n => decide (n < 1024)
  | .ctxCache n => decide (n < 1024)
  | .ctxZero n => decide (n < 1024)
  | .ctxEnd n _ => decide (n < 1024)
  | .ccxPop _ q => decide (q < 3)
  | .contextComplete n => decide (n < 1024)
  | .contextTimeout n => decide (n < 1024)
  | .hostAbort .. | .sasHardReset .. | .perst | .functionLevelReset .. | .cstsRdy | .recoveryDownloadCommit .. => true
  | .mgtWrite .. => true
  | .mgtRead len => decide (len ≤ 256)
  | .pairDropout .. | .pairReadmit .. | .pairReadmitDone .. | .watchdogKick .. | .watchdogEnable .. | .watchdogExpiry .. => true
  | .interruptCauseLatch .. | .causeReadClear .. | .countdownTimerStart .. | .countdownTimerExpiry .. | .mcmo .. => true
  | .rominfo .. | .xspread .. | .zerofill .. => true
  | .mboxcall _ code req => decide (code < 256) && decide (req.length ≤ 64)
  | .xspRead | .xspProgram .. | .xspErase4k .. | .xspErase64k .. | .xspStatus .. | .xspOperationEnd | .xspTimeout .. => true
  | .uartTransmit .. | .uartReceiveRead .. | .uartByteReceived .. | .traceRecord .. | .valeSlotTransmit => true
  | .beacon .. | .status .. | .seekAnnouncement .. | .sync .. | .canopyElection | .beaconLoss | .canopyHandover => true
  | .tokenTimeout .. | .staggerExpiry | .valeKeyWrite .. | .valeJoin | .valeClrctr | .ringbookFold | .fwevWrite .. => true
  | .rbkSnap | .rbkSnapDone | .rbkFlush .. | .rbkFlushDone .. | .rbkWindowWrite .. | .modeReqSplit .. | .modeReqSelfwrite => true
  | .modeReqLeave | .firmwareSwitch .. | .angleWrap | .vcmOcPauseEnd .. | .boostOutOfRegulation | .mediaBusExcursion .. => true
  | .mediaBusSettled .. | .borRelease .. | .activeIdleTimeout => true
  | .hostDataTransfer n _ _ _ => decide (n < 1024)
  | .hostLinkChange link _ _ _ => decide (link ≤ 2)
  | .phyPllLockLoss | .controllerEnable | .preampFaultClear .. | .uartByteSent | .ringbookPeriodicSample .. => true
  | .debugHalt .. => true

end Sys2Proof
end

