-- ==== Sys2Proof/Safety.lean ====
section
/-!
DEFINITION. What counts as a safe step, the form of a state that runs keep, and what a command leaves as it was.
-/
namespace Sys2Proof.Safety

open Sys2Proof.Machine

/-- A step is safe when it answers a next state: it neither faults nor refuses. -/
def SafeStep (s : State) : Prop := ∃ t, step s = .next t

/-- Every waiting command names something the block has. -/
def QueueOk (s : State) : Prop := ∀ c ∈ s.pending, c.wf = true

/-- The parts of the state beside the queue. `regs` stands for the register table as a whole, `msq`, `ch`, `wrp` and `plk` for the units of
both actuators, `free` for the model's own counter of free values. -/
inductive Part where
  | free | now | regs | bus | pins | d2d | ang | sys | rbk | msq | romPar | ch | wrp | plk | lpe | spn | pwr | thm | mem | buf
  | cph | hwd | ccx | host | apc | xsp | dbg | vale
deriving DecidableEq, Repr

/-- A part is the same in two states. -/
def Part.same (s t : State) : Part → Prop
  | .free => t.freeCtr = s.freeCtr
  | .now => t.now = s.now
  | .regs => ∀ a, t.rd a = s.rd a
  | .bus => t.bus = s.bus
  | .pins => t.pins = s.pins
  | .d2d => t.d2d = s.d2d
  | .ang => t.ang = s.ang
  | .sys => t.sys = s.sys
  | .rbk => t.rbk = s.rbk
  | .msq => t.msqA = s.msqA ∧ t.msqB = s.msqB
  | .romPar => t.romPar = s.romPar
  | .ch => t.ch0 = s.ch0 ∧ t.ch1 = s.ch1 ∧ t.ch2 = s.ch2 ∧ t.ch3 = s.ch3
  | .wrp => t.wrpA = s.wrpA ∧ t.wrpB = s.wrpB
  | .plk => t.plkA = s.plkA ∧ t.plkB = s.plkB
  | .lpe => t.lpe = s.lpe
  | .spn => t.spn = s.spn
  | .pwr => t.pwr = s.pwr
  | .thm => t.thm = s.thm
  | .mem => t.mem = s.mem
  | .buf => t.buf = s.buf
  | .cph => t.cph = s.cph
  | .hwd => t.hwd = s.hwd
  | .ccx => t.ccx = s.ccx
  | .host => t.host = s.host
  | .apc => t.apc = s.apc
  | .xsp => t.xsp = s.xsp
  | .dbg => t.dbg = s.dbg
  | .vale => t.vale = s.vale

/-- Bit i of the register at a is one of a field's. -/
def inField (f : Field) (a i : Nat) : Bool := decide (f.addr = a) && decide (f.lo ≤ i) && decide (i < f.lo + f.len)

/-- From s to t nothing changes but the parts in P and the register fields in F (every register, when P holds `regs`): every other
bit of every register is as before. The queue is the same. -/
structure Keeps (P : List Part) (F : List Field) (s t : State) : Prop where
  queue : t.pending = s.pending
  part : ∀ p, p ≠ .regs → p ∉ P → p.same s t
  reg : Part.regs ∉ P → ∀ a i, (∀ f ∈ F, inField f a i = false) → (t.rd a).getLsbD i = (s.rd a).getLsbD i

/-! ### The issue of an instruction (R130, R133, R137, R188) -/

/-- The registers of a slot with the PC past the instruction that issues. -/
def past (a : Arch) : Arch := { a with pc := (a.pc + 8) % 2 ^ 32 }

/-- The job at the front of the ring is good (R598): its operation `o`, tag length `n`, and system slot `i`, whose key is `k`; every range
lies in memory. -/
abbrev JobGood (s : State) (ws : List Nat) (t1 : State) (o n i : Nat) (k : KeySlot) : Prop :=
  s.jobPending = true ∧ s.jobWords = (ws, t1) ∧ ws.getD 0 0 = o * 2 ^ 24 + n * 2 ^ 16 + i ∧ i < 64 ∧ 4 ≤ n ∧ n ≤ 16 ∧
  k = t1.ks (4096 + i) ∧ (k.st = 1 ∨ k.st = 2) ∧ t1.inMem (jobPtr ws 1) (jobAad ws + jobLen ws) = true ∧
  (if o ≤ 2 then t1.inMem (jobPtr ws 2) (jobLen ws) = true else jobLen ws = 0) ∧ t1.inMem (jobPtr ws 3) n = true

/-- An instruction of an opcode issues for slot k of an actuator: the slot is in RUN and nothing holds issue, its PC lies in SRAM, the
opcode has a routine, and its guard fields are legal and let it run. -/
structure Issues (s : State) (x : Act) (op k : Nat) (g n : Bool) (p : BitVec 2) : Prop where
  act : s.actOk x = true
  run : (s.msq x).running = some k
  can : (s.msq x).canIssue op = true
  pc : pcInSram ((s.msq x).slot k).spec.pc = true
  disp : (s.msq x).dispatchValid op = true
  legal : guardLegal g n p = true
  guard : guardFalse ((s.msq x).slot k).spec g n p = false

/-- The state once the instruction has issued and before its own effect: the PC is past it and it is in the instruction distance. -/
def issued (s : State) (x : Act) (op k : Nat) : State :=
  s.setMsq x { (s.msq x).setSpec k (past ((s.msq x).slot k).spec) with
    dist := if countsDist op && !(s.msq x).micro.fresh then (s.msq x).dist + 1 else (s.msq x).dist
    micro := { Micro.idle with events := (s.msq x).micro.events } }

/-! ### A micro-op (R236 to R254) -/

/-- A micro-op runs for slot k of an actuator, in the routine u: nothing of R217 or R141 holds the slot, and the routine does not stall. -/
structure Runs (s : State) (x : Act) (k : Nat) (u : Micro) : Prop where
  act : s.actOk x = true
  run : (s.msq x).running = some k
  squash : (s.msq x).sqWait = false
  wait : (s.msq x).wait = none
  on : (s.msq x).micro.on = true
  stall : (s.msq x).micro.stall = none
  routine : u = { (s.msq x).micro with fresh := false }

/-- A routine with one more step counted (R250). -/
def counted (u : Micro) : Micro := { u with steps := u.steps + 1 }

/-- A routine that has gone on to another micro-address, one step further (R250). -/
def stepped (u : Micro) (n : Nat) : Micro := { u with upc := n, steps := u.steps + 1 }

/-! ### A Heartwood request (R609, R613) -/

/-- A request of a code is in hand: GO is 1, Heartwood is ready and no KEYERASE is in progress, and LEN is the command's. -/
abbrev Asked (s : State) (code : Nat) : Prop :=
  s.flag Fld.HWD_MBCTL_GO = true ∧ s.flag Fld.HWD_STAT_READY = true ∧ s.get Fld.HWD_MBCMD_CODE = code ∧ s.hwd.erase = none ∧
    mbLen code = some (s.get Fld.HWD_MBCMD_LEN)

/-- Heartwood has answered a request of a code with a status and n response words. -/
abbrev Answered (t : State) (code status n : Nat) : Prop :=
  t.rd Reg.HWD_MBRES = BitVec.ofNat 32 (status * 2 ^ 24 + code * 2 ^ 16 + n) ∧ t.flag Fld.HWD_MBCTL_GO = false ∧
    t.flag Fld.HWD_EV_DONE = true

/-! ### Groups of fields that several commands write -/

/-- The registers that notes of the microroutines of an actuator's sequencer put back when it is squashed (R221, R252). -/
def notedFields (s : State) (x : Act) : List Field :=
  (s.msq x).allStaged.filterMap (fun n => match n with
    | .regWas a _ => some ⟨a, 0, 32⟩
    | _ => none)

/-- The fields of the set-up of the channels that a bind and a media operation write (R25, R266, R269). -/
def chanFields : List Field :=
  ([0, 1, 2, 3] : List Chan).flatMap (fun n =>
    [Fld.CH_CFG_RATE n, Fld.CH_CFG_PI n, ⟨Reg.CH_SYNC n, 0, 32⟩, Fld.CH_SMPAT_PATTERN n, ⟨Reg.CH_TARGET n, 0, 32⟩, ⟨Reg.CH_FE n, 0, 32⟩])

/-- The fields of the modes that LPE_STAT shows of both actuators (R391, R433). -/
def loopFields : List Field :=
  [lpeRegion .a, lpeCoast .a, lpeSearch .a, lpeRegion .b, lpeCoast .b, lpeSearch .b]

/-- The fields of the learned couplings (R400, R401). -/
def couplingFields : List Field :=
  (List.range 8).flatMap (fun k => [Fld.LPE_NCOEF_COEF .a k, Fld.LPE_NCOEF_COEF .b k])

/-- The fields of the mailbox response words (R609). -/
def responseFields : List Field :=
  (List.range 64).map (fun k => ⟨Reg.HWD_MBRSP k, 0, 32⟩)

/-- The fields of the mailbox request words (R609). -/
def requestFields : List Field :=
  (List.range 64).map (fun k => ⟨Reg.HWD_MBREQ k, 0, 32⟩)

/-- The fields of Ringbook that raising any event may write: a record lost, and a flush that begins (R740, R743). -/
def recFields : List Field :=
  [Fld.RBK_EV_DROP, Fld.RBK_CTL_FLUSH]

/-- The fields of the spindle's own: its state, RUN, the token and the group reference (R465, R715, R718, R750). -/
def spnFields : List Field :=
  recFields ++ [Fld.ANG_STAT_CANLOCK, ⟨Reg.ANG_REFERR, 0, 32⟩, Fld.SPN_STAT_DRIVING, Fld.SPN_STAT_SRVCOM, Fld.SPN_STAT_LEVEL,
    Fld.SPN_STAT_BEMFOK, Fld.SPN_STAT_REST, Fld.SPN_STAT_STATE, Fld.SPN_CTL_RUN, Fld.VALE_EV_REFLOST, Fld.VALE_STAT_PHOK,
    Fld.VALE_STAT_TOKEN]

/-- The fields of the drive mode, with the spindle (R748, R753). -/
def modeFields : List Field :=
  spnFields ++ [Fld.SYS_EV_MODE, Fld.SYS_MODE_MODE, Fld.SYS_MODE_PREV, Fld.SPN_CMDSRC_SRC]

/-- The fields of the start-up at the release of a POR or BOR, and of the reset's own record (R766, R784, R529, R669, R684). -/
def startFields : List Field :=
  modeFields ++ [Fld.SYS_RSTCAUSE_POR, Fld.SYS_COMPAT_GEN7, Fld.PWR_STAT_ISO, Fld.PWR_STAT_RETPH, Fld.PWR_RAIL_OK, Fld.SPN_STAT_INREG,
    Fld.SPN_CNT2_STARTS, Fld.MEM_EV_STFAIL, Fld.MEM_STAT_DIS, ⟨Reg.INTC_CORE, 0, 32⟩, Fld.XSP_EV_SLOW, Fld.XSP_STAT_READY]

/-- The fields of the loops of an actuator that retracts (R421, R422). -/
def retractFields : List Field :=
  loopFields ++ [Fld.DRV_STAT_RETA, Fld.DRV_STAT_RETB, Fld.DRV_STAT_UAON]

/-- The fields of a squash of an actuator's sequencer (R210 to R220). -/
def squashFields (s : State) (x : Act) : List Field :=
  recFields ++ notedFields s x ++ [Fld.THM_STAT_BANDA, Fld.THM_STAT_BANDB, Fld.MSQ_CTL_HOLD x, Fld.MSQ_ESC_PEND x, Fld.MSQ_ESC_SLOT x,
    Fld.MSQ_EV_HOLD x, Fld.MSQ_EV_SQUASH x, Fld.MSQ_SQCAUSE_CAUSE x, Fld.MSQ_SQCNT_SQUASH x, Fld.MSQ_SQCNT_TORN x, Fld.MSQ_SQLAST_CAUSE x,
    Fld.MSQ_SQLAST_SLOT x, Fld.WRP_EV_TORN x, Fld.WRP_EV_TORNOVF x]

/-- The fields of a Write Guard trip (R326 to R331). -/
def guardFields (s : State) (x : Act) : List Field :=
  squashFields s x ++ [Fld.WRP_EV_WGTRIP x, Fld.WRP_WGLAST_CAUSE x, Fld.WRP_WGLAST_TRIPS x]

/-- The fields of a program error of an actuator's sequencer (R184). -/
def errFields (s : State) (x : Act) : List Field :=
  squashFields s x ++ [Fld.MSQ_FLTPC_PC x, Fld.MSQ_FLT_PROG x, Fld.MSQ_FLT_SAPCAP x, Fld.MSQ_FLT_STEP x]

/-- The fields of a micro-op that traps or finds an SRAM error (R245, R257). -/
def uopFields (s : State) (x : Act) : List Field :=
  errFields s x ++ [Fld.UCS_EV_SAPCAP, Fld.UCS_CAPLAST_UADDR, Fld.UCS_CAPLAST_REASON, Fld.UCS_CAPLAST_ACT, Fld.MEM_FLT_SRAMUE,
    Fld.MEM_SRAMERR_REGION, Fld.MEM_SRAMERR_CE, Fld.MEM_SRAMERR_UE]

/-- The fields of the sequencer's progress: operations that begin, with their channel, loop and bit clock set-up (R191, R196, R205). -/
def advFields (s : State) (x : Act) : List Field :=
  chanFields ++ errFields s x ++ loopFields ++ [Fld.ANG_EV_BCLKRNG, ⟨Reg.ANG_BPR 0, 0, 32⟩, ⟨Reg.ANG_BPR 1, 0, 32⟩,
    ⟨Reg.ANG_BPR 2, 0, 32⟩, ⟨Reg.ANG_BPR 3, 0, 32⟩, Fld.MSQ_DOORBELL_RING x]

/-- The fields of a mailbox answer (R609, R611). -/
def mailFields : List Field :=
  responseFields ++ recFields ++ [Fld.HWD_EV_DONE, Fld.HWD_MBCTL_GO, ⟨Reg.HWD_MBRES, 0, 32⟩, Fld.HWD_MBTMO_ELAPSED]

end Sys2Proof.Safety
end

