-- ==== Sys2Proof/Certificates/Slice0/Obligations.lean ====
section
/-!
DEFINITION. The statements for the provers, in the words of OBLIGATIONS.json: what each command does to a state that meets its
conditions, and that nothing else changes (`Keeps` of Safety.lean).
-/
open Sys2Proof Sys2Proof.Machine Sys2Proof.Safety

/-- The queue is the model's own (log 1, log 17): the command at its front runs on the state with the queue's rest. -/
def Obligations.StepRunsFront : Prop :=
  ∀ (s : State) (c : Instr) (rest : List Instr), step { s with pending := c :: rest } = exec c { s with pending := rest }

/-- The model's choice of what an idle step is (log 1). -/
def Obligations.IdleStepTicks : Prop :=
  ∀ (s : State), s.pending = [] → step s = .next s.tick ∧ s.tick.now = s.now + 1

/-- R38, R44: the commands of the link that neither lose nor train it. -/
def Obligations.LinkLane : Prop :=
  (∀ (s : State), ∃ t, exec .frameCrcError s = .next t ∧ t.get Fld.SYS_D2DCNT_REPLAY = satAdd 16 (s.get Fld.SYS_D2DCNT_REPLAY) 1 ∧ Keeps
    [] [Fld.SYS_D2DCNT_REPLAY] s t) ∧
  (∀ (s : State) lane, lane < 8 → s.flag Fld.SYS_D2DSTAT_TRAINED = true → s.flag Fld.SYS_D2DSTAT_SPARE_USED = false → s.flag
    Fld.SYS_D2DSTAT_HALF = false → s.d2d.remapSent = false → s.d2d.bad.testBit 8 = false → ∃ t, exec (.laneFailure lane) s = .next t ∧
    t.d2d = { s.d2d with bad := s.d2d.bad ||| 2 ^ lane, remapSent := true, remapLane := lane } ∧ Keeps [.d2d] [] s t) ∧
  (∀ (s : State) lane, lane < 8 → s.flag Fld.SYS_D2DSTAT_TRAINED = true → s.flag Fld.SYS_D2DSTAT_SPARE_USED = true → ∃ t, exec
    (.laneFailure lane) s = .next t ∧ t.flag Fld.SYS_D2DSTAT_TRAINED = false ∧ t.flag Fld.SYS_D2DSTAT_SAFE = true ∧ t.flag Fld.SYS_FLT_D2D
    = true ∧ Keeps [.ang, .ch, .d2d, .lpe, .mem, .msq, .pins, .plk, .rbk, .spn, .sys, .vale, .wrp] (guardFields s .a ++ guardFields s .b
    ++ modeFields ++ retractFields ++ [Fld.SYS_FLT_D2D, Fld.SYS_D2DSTAT_TRAINED, Fld.SYS_D2DSTAT_SAFE]) s t) ∧
  (∀ (s : State), s.d2d.remapSent = true → ∃ t, exec .laneRemapAck s = .next t ∧ t.d2d =
    { s.d2d with remapAcked := true, limitUs := 8, ackAt := s.now } ∧ Keeps [.d2d] [] s t) ∧
  (∀ (s : State), s.d2d.remapAcked = true → ∃ t, exec .laneRemapComplete s = .next t ∧ t.d2d =
    { s.d2d with remapSent := false, remapAcked := false, remapLane := 0xF, limitUs := 2 } ∧ t.flag Fld.SYS_D2DSTAT_SPARE_USED = true ∧
    t.get Fld.SYS_D2DSTAT_SPARE_LANE = s.d2d.remapLane % 16 ∧ t.flag Fld.SYS_EV_D2DLANE = true ∧ Keeps [.d2d, .rbk] (recFields ++
    [Fld.SYS_EV_D2DLANE, Fld.SYS_D2DSTAT_SPARE_USED, Fld.SYS_D2DSTAT_SPARE_LANE]) s t)

/-- R39 to R41, R44, R797: link loss enters the safe state, training ends it at the width the lanes allow, a release leaves it. -/
def Obligations.LinkLoss : Prop :=
  (∀ (s : State), s.d2d.remapAcked = true → s.d2d.ackAt + s.d2d.limitUs * 800 ≤ s.now → ∃ t, exec .laneRemapTimeout s = .next t ∧ t.flag
    Fld.SYS_D2DSTAT_TRAINED = false ∧ t.flag Fld.SYS_D2DSTAT_SAFE = true ∧ t.flag Fld.SYS_FLT_D2D = true ∧ t.pins.faultL = true ∧
    t.d2d.remapAcked = false ∧ Keeps [.ang, .ch, .d2d, .lpe, .mem, .msq, .pins, .plk, .rbk, .spn, .sys, .vale, .wrp] (guardFields s .a ++
    guardFields s .b ++ modeFields ++ retractFields ++ [Fld.SYS_FLT_D2D, Fld.SYS_D2DSTAT_TRAINED, Fld.SYS_D2DSTAT_SAFE]) s t) ∧
  (∀ (s : State), ∃ t, exec .linkLossSafeState s = .next t ∧ t.flag Fld.SYS_D2DSTAT_TRAINED = false ∧ t.flag Fld.SYS_D2DSTAT_SAFE = true ∧
    t.flag Fld.SYS_FLT_D2D = true ∧ t.pins.faultL = true ∧ Keeps [.ang, .ch, .d2d, .lpe, .mem, .msq, .pins, .plk, .rbk, .spn, .sys, .vale,
    .wrp] (guardFields s .a ++ guardFields s .b ++ modeFields ++ retractFields ++ [Fld.SYS_FLT_D2D, Fld.SYS_D2DSTAT_TRAINED,
    Fld.SYS_D2DSTAT_SAFE]) s t) ∧
  (∀ (s : State) passing, s.flag Fld.SYS_D2DSTAT_TRAINED = false → s.pwr.bor = false → s.pins.resetL = false → s.d2d.reads = [] → 8 ≤
    popcount 9 passing.toNat → ∃ t, exec (.linkTrainingComplete passing) s = .next t ∧ t.flag Fld.SYS_D2DSTAT_TRAINED = true ∧ t.get
    Fld.SYS_D2DCNT_RETRAIN = (if s.d2d.trainedOnce then satAdd 8 (s.get Fld.SYS_D2DCNT_RETRAIN) 1 else s.get Fld.SYS_D2DCNT_RETRAIN) ∧ (∀
    k, failedData passing.toNat = some k → t.flag Fld.SYS_D2DSTAT_SPARE_USED = true ∧ t.get Fld.SYS_D2DSTAT_SPARE_LANE = k % 16) ∧ Keeps
    [.bus, .ccx, .d2d, .dbg, .free, .rbk] (recFields ++ [Fld.SYS_EV_D2DLANE, Fld.SYS_D2DSTAT_HALF, Fld.SYS_D2DSTAT_TRAINED,
    Fld.SYS_D2DSTAT_SPARE_USED, Fld.SYS_D2DSTAT_SPARE_LANE, Fld.SYS_D2DCNT_RETRAIN, Fld.UCS_SAPADDR_ADDR .a, Fld.UCS_SAPADDR_ADDR .b,
    Fld.CH_EQADDR_ADDR 0, Fld.CH_EQADDR_ADDR 1, Fld.CH_EQADDR_ADDR 2, Fld.CH_EQADDR_ADDR 3, Fld.LPE_COEFADDR_WORD, Fld.CPH_LRADDR_ADDR,
    ⟨Reg.INTC_CAUSE0, 0, 32⟩, ⟨Reg.INTC_CAUSE1, 0, 32⟩]) s t) ∧
  (∀ (s : State) passing, s.flag Fld.SYS_D2DSTAT_TRAINED = false → s.pwr.bor = false → s.pins.resetL = false → s.d2d.reads = [] → 4 ≤
    popcount 9 passing.toNat → popcount 9 passing.toNat < 8 → ∃ t, exec (.linkTrainingComplete passing) s = .next t ∧ t.flag
    Fld.SYS_D2DSTAT_TRAINED = true ∧ t.flag Fld.SYS_D2DSTAT_HALF = true ∧ t.flag Fld.SYS_EV_D2DLANE = true ∧ Keeps [.bus, .ccx, .d2d,
    .dbg, .free, .rbk] (recFields ++ [Fld.SYS_EV_D2DLANE, Fld.SYS_D2DSTAT_HALF, Fld.SYS_D2DSTAT_TRAINED, Fld.SYS_D2DSTAT_SPARE_USED,
    Fld.SYS_D2DSTAT_SPARE_LANE, Fld.SYS_D2DCNT_RETRAIN, Fld.UCS_SAPADDR_ADDR .a, Fld.UCS_SAPADDR_ADDR .b, Fld.CH_EQADDR_ADDR 0,
    Fld.CH_EQADDR_ADDR 1, Fld.CH_EQADDR_ADDR 2, Fld.CH_EQADDR_ADDR 3, Fld.LPE_COEFADDR_WORD, Fld.CPH_LRADDR_ADDR,
    ⟨Reg.INTC_CAUSE0, 0, 32⟩, ⟨Reg.INTC_CAUSE1, 0, 32⟩]) s t) ∧
  (∀ (s : State) passing i a, s.flag Fld.SYS_D2DSTAT_TRAINED = false → s.pwr.bor = false → s.pins.resetL = false → 4 ≤ popcount 9
    passing.toNat → s.d2d.reads = [(i, 4, a)] → ∃ t, exec (.linkTrainingComplete passing) s = .next t ∧ t.d2d.reads = [] ∧
    t.d2d.trainedOnce = true ∧ Keeps [.bus, .ccx, .d2d, .dbg, .free, .rbk] (recFields ++ [Fld.SYS_EV_D2DLANE, Fld.SYS_D2DSTAT_HALF,
    Fld.SYS_D2DSTAT_TRAINED, Fld.SYS_D2DSTAT_SPARE_USED, Fld.SYS_D2DSTAT_SPARE_LANE, Fld.SYS_D2DCNT_RETRAIN, Fld.UCS_SAPADDR_ADDR .a,
    Fld.UCS_SAPADDR_ADDR .b, Fld.CH_EQADDR_ADDR 0, Fld.CH_EQADDR_ADDR 1, Fld.CH_EQADDR_ADDR 2, Fld.CH_EQADDR_ADDR 3,
    Fld.LPE_COEFADDR_WORD, Fld.CPH_LRADDR_ADDR, ⟨Reg.INTC_CAUSE0, 0, 32⟩, ⟨Reg.INTC_CAUSE1, 0, 32⟩]) s t) ∧
  (∀ (s : State) passing, s.pwr.bor = true → exec (.linkTrainingComplete passing) s = .next s) ∧
  (∀ (s : State) passing, s.flag Fld.SYS_D2DSTAT_TRAINED = false → s.pwr.bor = false → s.pins.resetL = false → popcount 9 passing.toNat <
    4 → ∃ t, exec (.linkTrainingComplete passing) s = .next t ∧ t.d2d = { s.d2d with bad := 511 - passing.toNat } ∧ Keeps [.d2d] [] s t) ∧
  (∀ (s : State), s.flag Fld.SYS_D2DSTAT_TRAINED = true → s.flag Fld.SYS_D2DSTAT_SAFE = true → ∃ t, exec .d2dRelease s = .next t ∧ t.flag
    Fld.SYS_D2DSTAT_SAFE = false ∧ Keeps [.lpe, .msq, .rbk, .spn, .sys, .vale, .wrp] (modeFields ++ retractFields ++
    [Fld.SYS_D2DSTAT_SAFE, Fld.SPN_STAT_INREG, Fld.SPN_CNT2_STARTS]) s t) ∧
  (∀ (s : State), s.flag Fld.SYS_D2DSTAT_TRAINED = false → exec .d2dRelease s = .next s)

/-- R60 to R69, R79: what an access does. The registers of DRV, HIF, PCIE and the preamplifier links have no effects of their own on a
write. -/
def Obligations.RegisterAccess : Prop :=
  (∀ (s : State) i a v d y, s.reaches i = true → s.accessKind 2 a .store = none → inRegs a = true → s.fusedOff a = false → (a -
    0x80000000) / 0x10000 ∈ [14, 15, 18, 24, 26] → regDesc a = some (y, d) → d.keep = [] → ∃ t, exec (.registerWrite i a v) s = .next t ∧
    (∀ b, b < 32 → (s.offBits a).getLsbD b = false → (t.rd a).getLsbD b = (((if d.rw.testBit b then v.getLsbD b else (s.rd a).getLsbD b)
    && !(v.getLsbD b && d.w1c.testBit b)) || (v.getLsbD b && d.w1s.testBit b))) ∧ Keeps [] [⟨a, 0, 32⟩] s t) ∧
  (∀ (s : State) i lat, latOf lat = some (lat, false) ∨ latOf lat = some (lat, true) → s.reaches i = true → s.accessKind 2 lat .load =
    none → inRegs lat = true → s.fusedOff lat = false → rbkWindow lat = false → s.powerWaits lat = false → ∃ t, exec (.latRead i lat) s =
    .next t ∧ mget (fun _ => (0 : BitVec 64)) t.bus.readData i.idx = (s.view lat).zeroExtend 64 ∧ t.shadow i lat = s.view (lat + 4) ∧
    Keeps [.bus] [] s t) ∧
  (∀ (s : State) i lat v, lat ∈ [Reg.SAS_ADDRA, Reg.SAS_ADDRB] → s.reaches i = true → s.accessKind 2 (lat + 4) .store = none → ∃ t, exec
    (.lathWrite i (lat + 4) v) s = .next t ∧ t.holding i lat = v ∧ Keeps [.bus] [] s t) ∧
  (∀ (s : State) i lat v, lat ∈ [Reg.SAS_ADDRA, Reg.SAS_ADDRB] → s.reaches i = true → s.accessKind 2 lat .store = none → ∃ t, exec
    (.latWrite i lat v) s = .next t ∧ t.rd lat = v ∧ t.rd (lat + 4) = s.holding i lat ∧ Keeps [] [⟨lat, 0, 32⟩, ⟨lat + 4, 0, 32⟩] s t) ∧
  (∀ (s : State) i lat v, lat ∈ [Reg.SAS_ADDRA, Reg.SAS_ADDRB] → s.reaches i = true → s.accessKind 3 lat .store = none → ∃ t, exec
    (.access64bit i true lat v) s = .next t ∧ t.rd lat = v.truncate 32 ∧ t.rd (lat + 4) = (v >>> 32).truncate 32 ∧ t.holding i lat = (v
    >>> 32).truncate 32 ∧ Keeps [.bus] [⟨lat, 0, 32⟩, ⟨lat + 4, 0, 32⟩] s t) ∧
  (∀ (s : State) i a half v, s.reaches i = true → s.accessKind (b2n half) a .store = none → inRegs a = true → s.flag Fld.SYS_BUSERR_VALID
    = false → ∃ t, exec (.narrowWrite i a half v) s = .next t ∧ t.rd Reg.SYS_BUSERR = (BitVec.ofNat 32 (1 + a / 2 ^ 32 % 16 * 2 ^ 16 + b2n
    half % 4 * 2 ^ 23 + 2 ^ 25 + i.idx % 4 * 2 ^ 26 + 2 ^ 28) ||| (s.rd Reg.SYS_BUSERR &&& 0x80000000#32)) ∧ t.rd Reg.SYS_BUSADDR =
    BitVec.ofNat 32 a ∧ t.flag Fld.SYS_EV_BUSERR = true ∧ Keeps [.rbk] (recFields ++ [Fld.SYS_EV_BUSERR, ⟨Reg.SYS_BUSERR, 0, 32⟩,
    ⟨Reg.SYS_BUSADDR, 0, 32⟩]) s t) ∧
  (∀ (s : State) i a half v, s.reaches i = true → s.accessKind (b2n half) a .store = none → inRegs a = true → s.flag Fld.SYS_BUSERR_VALID
    = true → ∃ t, exec (.narrowWrite i a half v) s = .next t ∧ t.flag Fld.SYS_BUSERR_OVF = true ∧ Keeps [] [Fld.SYS_BUSERR_OVF] s t) ∧
  (∀ (s : State) i k e size a, s.reaches i = true → size ≤ 3 → s.accessKind size a k = some e → s.flag Fld.SYS_BUSERR_VALID = false → ∃ t,
    exec (.accessFault i k size a) s = .next t ∧ t.rd Reg.SYS_BUSERR = (BitVec.ofNat 32 (1 + a / 2 ^ 32 % 16 * 2 ^ 16 + (if e = 7 then 2
    else size) * 2 ^ 23 + b2n (k == .store || k == .amo) * 2 ^ 25 + i.idx % 4 * 2 ^ 26 + e % 8 * 2 ^ 28) ||| (s.rd Reg.SYS_BUSERR &&&
    0x80000000#32)) ∧ t.rd Reg.SYS_BUSADDR = BitVec.ofNat 32 a ∧ mget (fun _ => 0) t.bus.fault i.idx = accCause k ∧ t.flag
    Fld.SYS_EV_BUSERR = true ∧ Keeps [.bus, .ccx, .d2d, .dbg, .free, .mem, .rbk] (recFields ++ [Fld.SYS_EV_BUSERR,
    ⟨Reg.SYS_BUSERR, 0, 32⟩, ⟨Reg.SYS_BUSADDR, 0, 32⟩, Fld.UCS_SAPADDR_ADDR .a, Fld.UCS_SAPADDR_ADDR .b, Fld.CH_EQADDR_ADDR 0,
    Fld.CH_EQADDR_ADDR 1, Fld.CH_EQADDR_ADDR 2, Fld.CH_EQADDR_ADDR 3, Fld.LPE_COEFADDR_WORD, Fld.MEM_EV_CE, Fld.MEM_EV_UE,
    Fld.MEM_FLT_SRAMUE, Fld.MEM_UEADDR_ADDR, Fld.MEM_UEINFO_INIT, Fld.MEM_UEINFO_OVF, Fld.MEM_UEINFO_VALID, Fld.MEM_CETCTL_CET_OVF,
    Fld.MEM_SRAMERR_REGION, Fld.MEM_SRAMERR_CE, Fld.MEM_SRAMERR_UE, Fld.MEM_CNT_UE, Fld.MEM_CNT_CE, Fld.CPH_LRADDR_ADDR,
    ⟨Reg.INTC_CAUSE0, 0, 32⟩, ⟨Reg.INTC_CAUSE1, 0, 32⟩]) s t)

/-- R92 to R98: corrections and their source, the loss of the angle, the master switch. -/
def Obligations.AngleSources : Prop :=
  (∀ (s : State) h wedge, (s.msq s.master).pos0.head = some h → s.flag Fld.ANG_CFG_SERVOEN = true → s.servoFrozen s.master = false → ¬
    s.get Fld.ANG_CFG_WEDGES ≤ wedge → ∃ t, exec (.servoCorrection wedge) s = .next t ∧ t.get Fld.ANG_STAT_SRC = 1 ∧ t.flag
    Fld.ANG_STAT_VALID = true ∧ t.get Fld.ANG_STAT_WEDGE = wedge % 2048 ∧ Keeps [.ang, .ch, .lpe, .mem, .msq, .plk, .rbk, .spn, .sys,
    .vale, .wrp] (modeFields ++ squashFields s .a ++ squashFields s .b ++ [Fld.ANG_EV_VALID, Fld.ANG_EV_SLIP, Fld.ANG_EV_SRC,
    Fld.ANG_EV_BCLKRNG, Fld.ANG_STAT_SRC, Fld.ANG_STAT_VALID, Fld.ANG_STAT_WEDGE, Fld.ANG_CFG_WEDGES, ⟨Reg.ANG_SPEED, 0, 32⟩,
    ⟨Reg.ANG_LASTERR, 0, 32⟩, ⟨Reg.ANG_SLIPCNT, 0, 32⟩]) s t) ∧
  (∀ (s : State) k angle, s.bemfForward = true → s.get Fld.ANG_STAT_SRC = 1 → ∃ t, exec (.bemfCorrection k angle) s = .next t ∧
    t.ang.bemfOfs = mput s.ang.bemfOfs k ((s.angle + 2 ^ 32 - angle % 2 ^ 32) % 2 ^ 32) ∧ t.ang.ats = s.ang.ats ∧ Keeps [.ang, .ch, .lpe,
    .mem, .msq, .plk, .rbk, .spn, .sys, .vale, .wrp] (modeFields ++ squashFields s .a ++ squashFields s .b ++ [Fld.ANG_EV_VALID,
    Fld.ANG_EV_SLIP, Fld.ANG_EV_SRC, Fld.ANG_EV_BCLKRNG, Fld.ANG_STAT_SRC, Fld.ANG_STAT_VALID, Fld.ANG_CFG_WEDGES, ⟨Reg.ANG_SPEED, 0, 32⟩,
    ⟨Reg.ANG_LASTERR, 0, 32⟩, ⟨Reg.ANG_SLIPCNT, 0, 32⟩]) s t) ∧
  (∀ (s : State) k angle, s.bemfUsable = true → s.get Fld.ANG_STAT_SRC = 2 → ∃ t, exec (.bemfCorrection k angle) s = .next t ∧ t.get
    Fld.ANG_STAT_SRC = 2 ∧ t.flag Fld.ANG_STAT_VALID = true ∧ Keeps [.ang, .ch, .lpe, .mem, .msq, .plk, .rbk, .spn, .sys, .vale, .wrp]
    (modeFields ++ squashFields s .a ++ squashFields s .b ++ [Fld.ANG_EV_VALID, Fld.ANG_EV_SLIP, Fld.ANG_EV_SRC, Fld.ANG_EV_BCLKRNG,
    Fld.ANG_STAT_SRC, Fld.ANG_STAT_VALID, Fld.ANG_CFG_WEDGES, ⟨Reg.ANG_SPEED, 0, 32⟩, ⟨Reg.ANG_LASTERR, 0, 32⟩, ⟨Reg.ANG_SLIPCNT, 0, 32⟩])
    s t) ∧
  (∀ (s : State), s.flag Fld.ANG_STAT_VALID = true → s.servoWithin 3 = true → ∃ t, exec .servoSourceTimeout s = .next t ∧ t.get
    Fld.ANG_STAT_SRC = 1 ∧ t.flag Fld.ANG_STAT_VALID = true ∧ Keeps [.ang, .ch, .lpe, .mem, .msq, .plk, .rbk, .spn, .sys, .vale, .wrp]
    (modeFields ++ squashFields s .a ++ squashFields s .b ++ [Fld.ANG_FLT_LOST, Fld.ANG_EV_SRC, Fld.ANG_STAT_SRC, Fld.ANG_STAT_VALID]) s
    t) ∧
  (∀ (s : State), s.flag Fld.ANG_STAT_VALID = true → s.servoWithin 3 = false → s.bemfUsable = true → s.ang.servoSince = false → ∃ t, exec
    .servoSourceTimeout s = .next t ∧ t.get Fld.ANG_STAT_SRC = 2 ∧ t.flag Fld.ANG_STAT_VALID = true ∧ Keeps [.ang, .ch, .lpe, .mem, .msq,
    .plk, .rbk, .spn, .sys, .vale, .wrp] (modeFields ++ squashFields s .a ++ squashFields s .b ++ [Fld.ANG_FLT_LOST, Fld.ANG_EV_SRC,
    Fld.ANG_STAT_SRC, Fld.ANG_STAT_VALID]) s t) ∧
  (∀ (s : State), s.flag Fld.ANG_STAT_VALID = true → s.servoWithin 3 = false → (s.bemfUsable && !s.ang.servoSince) = false → s.freeHolds =
    true → ∃ t, exec .servoSourceTimeout s = .next t ∧ t.get Fld.ANG_STAT_SRC = 0 ∧ t.flag Fld.ANG_STAT_VALID = true ∧ Keeps [.ang, .ch,
    .lpe, .mem, .msq, .plk, .rbk, .spn, .sys, .vale, .wrp] (modeFields ++ squashFields s .a ++ squashFields s .b ++ [Fld.ANG_FLT_LOST,
    Fld.ANG_EV_SRC, Fld.ANG_STAT_SRC, Fld.ANG_STAT_VALID]) s t) ∧
  (∀ (s : State), s.flag Fld.ANG_STAT_VALID = true → s.servoWithin 3 = false → s.ang.servoSince = true → s.freeHolds = false →
    s.bemfUsable = true → ∃ t, exec .servoSourceTimeout s = .next t ∧ t.get Fld.ANG_STAT_SRC = 2 ∧ t.flag Fld.ANG_STAT_VALID = true ∧
    Keeps [.ang, .ch, .lpe, .mem, .msq, .plk, .rbk, .spn, .sys, .vale, .wrp] (modeFields ++ squashFields s .a ++ squashFields s .b ++
    [Fld.ANG_FLT_LOST, Fld.ANG_EV_SRC, Fld.ANG_STAT_SRC, Fld.ANG_STAT_VALID]) s t) ∧
  (∀ (s : State), s.flag Fld.ANG_STAT_VALID = true → s.servoWithin 3 = false → s.bemfUsable = false → s.freeHolds = false → ∃ t, exec
    .servoSourceTimeout s = .next t ∧ t.flag Fld.ANG_STAT_VALID = false ∧ t.get Fld.ANG_STAT_SRC = 3 ∧ t.flag Fld.ANG_FLT_LOST = true ∧
    Keeps [.ang, .ch, .lpe, .mem, .msq, .plk, .rbk, .spn, .sys, .vale, .wrp] (modeFields ++ squashFields s .a ++ squashFields s .b ++
    [Fld.ANG_FLT_LOST, Fld.ANG_EV_SRC, Fld.ANG_STAT_SRC, Fld.ANG_STAT_VALID]) s t) ∧
  (∀ (s : State), s.flag Fld.ANG_STAT_VALID = false → exec .servoSourceTimeout s = .next s) ∧
  (∀ (s : State), s.flag Fld.ANG_STAT_VALID = true → s.servoWithin 3 = false → s.bemfUsable = false → s.freeHolds = false → ∃ t, exec
    .angleLoss s = .next t ∧ t.flag Fld.ANG_STAT_VALID = false ∧ t.get Fld.ANG_STAT_SRC = 3 ∧ t.flag Fld.ANG_FLT_LOST = true ∧ Keeps
    [.ang, .ch, .lpe, .mem, .msq, .plk, .rbk, .spn, .sys, .vale, .wrp] (modeFields ++ squashFields s .a ++ squashFields s .b ++
    [Fld.ANG_FLT_LOST, Fld.ANG_EV_SRC, Fld.ANG_STAT_SRC, Fld.ANG_STAT_VALID]) s t) ∧
  (∀ (s : State), s.flag Fld.ANG_CFG_AUTOMASTER = true → s.isSN = false → s.servoWithin 4 = false → s.ang.masterWas = none → ∃ t, exec
    .masterSwitch s = .next t ∧ t.get Fld.ANG_STAT_MASTER = b2n (!(s.flag Fld.ANG_STAT_MASTER)) ∧ t.get Fld.ANG_CFG_MASTER = b2n (!(s.flag
    Fld.ANG_STAT_MASTER)) ∧ t.flag Fld.ANG_EV_MASTER = true ∧ Keeps [.rbk] (recFields ++ [Fld.ANG_EV_MASTER, Fld.ANG_STAT_MASTER,
    Fld.ANG_CFG_MASTER]) s t) ∧
  (∀ (s : State) old, s.flag Fld.ANG_CFG_AUTOMASTER = true → s.isSN = false → s.servoWithin 4 = false → s.ang.masterWas = some (s.now,
    old) → ∃ t, exec .masterSwitch s = .next t ∧ t.get Fld.ANG_STAT_MASTER = b2n (!old) ∧ t.get Fld.ANG_CFG_MASTER = b2n (!old) ∧ t.flag
    Fld.ANG_EV_MASTER = true ∧ Keeps [.rbk] (recFields ++ [Fld.ANG_EV_MASTER, Fld.ANG_STAT_MASTER, Fld.ANG_CFG_MASTER]) s t) ∧
  (∀ (s : State), s.servoWithin 4 = true → exec .masterSwitch s = .next s)

/-- R101 to R103, R239, R345: an armed comparator fires to its destination and is disarmed. -/
def Obligations.ComparatorFires : Prop :=
  (∀ (s : State) x k d, mfind (s.cmps x) k = some d → d.hit = true → d.dest = 3 → ∃ t, exec (.comparatorFire x k) s = .next t ∧ t.cmps x =
    mdel (s.cmps x) k ∧ (t.wrp x).gates = (s.wrp x).gates.filterMap (fun g => g.fire k ((s.wrp x).holding != 0 || (s.setCmps x (mdel
    (s.cmps x) k)).bridgeOff x) s.ang.ats) ∧ Keeps [.ang, .ch, .free, .lpe, .mem, .msq, .plk, .rbk, .spn, .sys, .vale, .wrp] (advFields s
    x ++ modeFields) s t) ∧
  (∀ (s : State) x k d w, mfind (s.cmps x) k = some d → d.hit = true → d.dest = 4 → (s.plk x).hsel = some w → ∃ t, exec (.comparatorFire x
    k) s = .next t ∧ t.cmps x = mdel (s.cmps x) k ∧ (t.plk x).hsel = none ∧ (if w.getLsbD 4 then (t.plk x).sel1 else (t.plk x).sel0) =
    some (wfield w 0 4) ∧ Keeps [.ang, .ch, .free, .lpe, .mem, .msq, .plk, .rbk, .spn, .sys, .vale, .wrp] (advFields s x ++ modeFields) s
    t) ∧
  (∀ (s : State) x k d, mfind (s.cmps x) k = some d → d.hit = true → 5 ≤ d.dest → exec (.comparatorFire x k) s = .next (s.setCmps x (mdel
    (s.cmps x) k))) ∧
  (∀ (s : State) x k, mfind (s.cmps x) k = none → exec (.comparatorFire x k) s = .next s) ∧
  (∀ (s : State) x k d, mfind (s.cmps x) k = some d → d.hit = false → exec (.comparatorFire x k) s = .next s)

/-- R117 to R125: a submission's outcome in MSQx_SUBRES, and the start of a slot. -/
def Obligations.Submission : Prop :=
  (∀ (s : State) x, s.actOk x = true → (s.msq x).subWait = none → (s.msq x).lowestFree = none → ∃ t, exec (.msqSubmit x) s = .next t ∧
    t.rd (Reg.MSQ_SUBRES x) = 0x100#32 ∧ t.flag (Fld.MSQ_EV_SUBFULL x) = true ∧ t.flag (Fld.MSQ_SUBGO_GO x) = false ∧ t.msq x =
    { s.msq x with subWait := none, subAgain := false } ∧ Keeps [.free, .msq, .rbk] (recFields ++ [⟨Reg.MSQ_SUBRES .a, 0, 32⟩,
    ⟨Reg.MSQ_SUBRES .b, 0, 32⟩, Fld.MEM_FLT_SRAMUE, Fld.MEM_SRAMERR_REGION, Fld.MEM_SRAMERR_CE, Fld.MEM_SRAMERR_UE, Fld.MSQ_EV_SUBBAD x,
    Fld.MSQ_EV_SUBFULL x, Fld.MSQ_SUBGO_GO x]) s t) ∧
  (∀ (s : State) x k, s.actOk x = true → (s.msq x).subWait = none → (s.msq x).subAgain = false → (s.msq x).lowestFree = some k → s.flag
    (Fld.MSQ_SUBCTL_RESUME x) = false → (s.rd (Reg.MSQ_SUBPC x)).toNat % 8 = 0 → 0x20000000 ≤ (s.rd (Reg.MSQ_SUBPC x)).toNat → (s.rd
    (Reg.MSQ_SUBPC x)).toNat + 8 ≤ 0x20800000 → ∃ t, exec (.msqSubmit x) s = .next t ∧ t.rd (Reg.MSQ_SUBRES x) = BitVec.ofNat 32 (16 + k)
    ∧ ((t.msq x).slot k).st = .ready ∧ ((t.msq x).slot k).prio = s.get (Fld.MSQ_SUBCTL_PRIO x) ∧ ((t.msq x).slot k).ord = (s.msq x).subs ∧
    ((t.msq x).slot k).spec = s.freshArch x ∧ (t.msq x).subs = (s.msq x).subs + 1 ∧ t.flag (Fld.MSQ_SUBGO_GO x) = false ∧ Keeps [.free,
    .msq, .rbk] (recFields ++ [⟨Reg.MSQ_SUBRES .a, 0, 32⟩, ⟨Reg.MSQ_SUBRES .b, 0, 32⟩, Fld.MEM_FLT_SRAMUE, Fld.MEM_SRAMERR_REGION,
    Fld.MEM_SRAMERR_CE, Fld.MEM_SRAMERR_UE, Fld.MSQ_EV_SUBBAD x, Fld.MSQ_EV_SUBFULL x, Fld.MSQ_SUBGO_GO x]) s t) ∧
  (∀ (s : State) x k, s.actOk x = true → (s.msq x).subWait = none → (s.msq x).subAgain = false → (s.msq x).lowestFree = some k → s.flag
    (Fld.MSQ_SUBCTL_RESUME x) = false → (s.rd (Reg.MSQ_SUBPC x)).toNat % 8 ≠ 0 → ∃ t, exec (.msqSubmit x) s = .next t ∧ t.rd
    (Reg.MSQ_SUBRES x) = 0x200#32 ∧ t.flag (Fld.MSQ_EV_SUBBAD x) = true ∧ Keeps [.free, .msq, .rbk] (recFields ++
    [⟨Reg.MSQ_SUBRES .a, 0, 32⟩, ⟨Reg.MSQ_SUBRES .b, 0, 32⟩, Fld.MEM_FLT_SRAMUE, Fld.MEM_SRAMERR_REGION, Fld.MEM_SRAMERR_CE,
    Fld.MEM_SRAMERR_UE, Fld.MSQ_EV_SUBBAD x, Fld.MSQ_EV_SUBFULL x, Fld.MSQ_SUBGO_GO x]) s t) ∧
  (∀ (s : State) x r, (s.msq x).subAgain = true → (s.msq x).subWait = some r → (s.msq x).lowestFree = none → ∃ t, exec
    (.resumeContextAnswer x) s = .next t ∧ t.rd (Reg.MSQ_SUBRES x) = 0x100#32 ∧ t.flag (Fld.MSQ_EV_SUBFULL x) = true ∧ t.flag
    (Fld.MSQ_SUBGO_GO x) = false ∧ (t.msq x).subAgain = false ∧ (t.msq x).subWait = none ∧ Keeps [.free, .msq, .rbk] (recFields ++
    [⟨Reg.MSQ_SUBRES .a, 0, 32⟩, ⟨Reg.MSQ_SUBRES .b, 0, 32⟩, Fld.MEM_FLT_SRAMUE, Fld.MEM_SRAMERR_REGION, Fld.MEM_SRAMERR_CE,
    Fld.MEM_SRAMERR_UE, Fld.MSQ_EV_SUBBAD x, Fld.MSQ_EV_SUBFULL x, Fld.MSQ_SUBGO_GO x]) s t) ∧
  (∀ (s : State) x r k, (s.msq x).subAgain = false → (s.msq x).subWait = some r → (s.msq x).lowestFree = some k → ((s.loadCkpt x
    r).2.bindOk x (s.loadCkpt x r).1.1.ctx && (s.loadCkpt x r).2.allocSeq (s.loadCkpt x r).1.1.ctx % 2 ^ 16 == (s.loadCkpt x r).1.2.2) =
    true → ∃ t, exec (.resumeContextAnswer x) s = .next t ∧ ((t.msq x).slot k).st = .ready ∧ ((t.msq x).slot k).spec = (s.loadCkpt x
    r).1.1 ∧ t.rd (Reg.MSQ_SUBRES x) = BitVec.ofNat 32 (16 + k) ∧ Keeps [.free, .msq, .rbk] (recFields ++ [⟨Reg.MSQ_SUBRES .a, 0, 32⟩,
    ⟨Reg.MSQ_SUBRES .b, 0, 32⟩, Fld.MEM_FLT_SRAMUE, Fld.MEM_SRAMERR_REGION, Fld.MEM_SRAMERR_CE, Fld.MEM_SRAMERR_UE, Fld.MSQ_EV_SUBBAD x,
    Fld.MSQ_EV_SUBFULL x, Fld.MSQ_SUBGO_GO x]) s t) ∧
  (∀ (s : State) x r k, (s.msq x).subAgain = false → (s.msq x).subWait = some r → (s.msq x).lowestFree = some k → ((s.loadCkpt x
    r).2.bindOk x (s.loadCkpt x r).1.1.ctx && (s.loadCkpt x r).2.allocSeq (s.loadCkpt x r).1.1.ctx % 2 ^ 16 == (s.loadCkpt x r).1.2.2) =
    false → ∃ t, exec (.resumeContextAnswer x) s = .next t ∧ t.rd (Reg.MSQ_SUBRES x) = 0x800#32 ∧ t.flag (Fld.MSQ_EV_SUBBAD x) = true ∧
    Keeps [.free, .msq, .rbk] (recFields ++ [⟨Reg.MSQ_SUBRES .a, 0, 32⟩, ⟨Reg.MSQ_SUBRES .b, 0, 32⟩, Fld.MEM_FLT_SRAMUE,
    Fld.MEM_SRAMERR_REGION, Fld.MEM_SRAMERR_CE, Fld.MEM_SRAMERR_UE, Fld.MSQ_EV_SUBBAD x, Fld.MSQ_EV_SUBFULL x, Fld.MSQ_SUBGO_GO x]) s t) ∧
  (∀ (s : State) x k, s.actOk x = true → (s.msq x).running = none → s.flag (Fld.MSQ_CTL_HOLD x) = false → s.flag (Fld.UCS_SAPCTL_LOAD x) =
    false → s.ploading x = false → (s.msq x).nextReady = some k → ∃ t, exec (.slotStart x) s = .next t ∧ ((t.msq x).slot k).st = .run ∧
    ((t.msq x).slot k).spec = ((s.msq x).slot k).comm ∧ Keeps [.msq, .rbk, .spn, .sys, .vale, .wrp] (modeFields ++ [Fld.MSQ_EV_HOLD x]) s
    t) ∧
  (∀ (s : State) x, s.actOk x = true → (s.msq x).running = none → s.flag (Fld.MSQ_CTL_HOLD x) = true → ∃ t, exec (.slotStart x) s = .next
    t ∧ t.flag (Fld.MSQ_EV_HOLD x) = true ∧ Keeps [.msq, .rbk, .spn, .sys, .vale, .wrp] (modeFields ++ [Fld.MSQ_EV_HOLD x]) s t)

/-- R126, R127: the slot commands and the clearing of MSQx_SLOTDONE. -/
def Obligations.SlotCommands : Prop :=
  (∀ (s : State) x k, s.actOk x = true → k < 16 → ((s.msq x).slot k).st = .fault → ∃ t, exec (.slotResume x k) s = .next t ∧ (t.msq
    x).slot k = { (s.msq x).slot k with st := .ready, fcode := 0, spec := ((s.msq x).slot k).comm } ∧ Keeps [.ang, .ch, .free, .lpe, .mem,
    .msq, .plk, .rbk, .sys, .vale, .wrp] (squashFields s x) s t) ∧
  (∀ (s : State) x k, k < 16 → ((s.msq x).slot k).st ≠ .fault → exec (.slotResume x k) s = .next s) ∧
  (∀ (s : State) x k, s.actOk x = true → k < 16 → ((s.msq x).slot k).st = .fault → ∃ t, exec (.slotDiscard x k) s = .next t ∧ (t.msq
    x).slot k = Slot.empty ∧ Keeps [.ang, .ch, .free, .lpe, .mem, .msq, .plk, .rbk, .sys, .vale, .wrp] (squashFields s x) s t) ∧
  (∀ (s : State) x k, s.actOk x = true → k < 16 → ((s.msq x).slot k).st = .ready → ∃ t, exec (.slotDiscard x k) s = .next t ∧ (t.msq
    x).slot k = Slot.empty ∧ Keeps [.ang, .ch, .free, .lpe, .mem, .msq, .plk, .rbk, .sys, .vale, .wrp] (squashFields s x) s t) ∧
  (∀ (s : State) x k, s.actOk x = true → k < 16 → ((s.msq x).slot k).st = .ready → ∃ t, exec (.slotAbort x k) s = .next t ∧ (t.msq x).slot
    k = Slot.empty ∧ Keeps [.ang, .ch, .free, .lpe, .mem, .msq, .plk, .rbk, .spn, .sys, .vale, .wrp] (modeFields ++ squashFields s x) s t) ∧
  (∀ (s : State) x k, k < 16 → ((s.msq x).slot k).st ≠ .fault → ((s.msq x).slot k).st ≠ .ready → exec (.slotDiscard x k) s = .next s) ∧
  (∀ (s : State) x k, s.actOk x = true → k < 16 → ((s.msq x).slot k).st = .fault → ∃ t, exec (.slotAbort x k) s = .next t ∧ (t.msq x).slot
    k = Slot.empty ∧ Keeps [.ang, .ch, .free, .lpe, .mem, .msq, .plk, .rbk, .spn, .sys, .vale, .wrp] (modeFields ++ squashFields s x) s t) ∧
  (∀ (s : State) x k, k < 16 → ((s.msq x).slot k).st = .free ∨ ((s.msq x).slot k).st = .done → ∃ t, exec (.slotAbort x k) s = .next t ∧
    (t.msq x).slot k = (s.msq x).slot k ∧ Keeps [.ang, .ch, .free, .lpe, .mem, .msq, .plk, .rbk, .spn, .sys, .vale, .wrp] (modeFields ++
    squashFields s x) s t) ∧
  (∀ (s : State) x k, s.actOk x = true → k < 16 → (s.msq x).running = some k → (s.msq x).sqWait = false → ((s.msq x).slot k).st = .run → ∃
    t, exec (.slotAbort x k) s = .next t ∧ (t.msq x).slot k = Slot.empty ∧ t.flag (Fld.MSQ_EV_SQUASH x) = true ∧ Keeps [.ang, .ch, .free,
    .lpe, .mem, .msq, .plk, .rbk, .spn, .sys, .vale, .wrp] (modeFields ++ squashFields s x) s t) ∧
  (∀ (s : State) x k, s.actOk x = true → k < 16 → ((s.msq x).slot k).st = .run → ∃ t, exec (.slotAbort x k) s = .next t ∧ (t.msq x).slot k
    = Slot.empty ∧ Keeps [.ang, .ch, .free, .lpe, .mem, .msq, .plk, .rbk, .spn, .sys, .vale, .wrp] (modeFields ++ squashFields s x) s t) ∧
  (∀ (s : State) x k, k < 16 → ((s.msq x).slot k).st = .done → ∃ t, exec (.slotdoneClear x k) s = .next t ∧ (t.msq x).slot k = Slot.empty
    ∧ Keeps [.msq] [] s t)

/-- R130, R131, R150, R151: with no earlier instruction in progress, LDI to CMP write their result and move the PC past themselves, and
nothing else changes. A register that cannot be named is an illegal form. -/
def Obligations.Arithmetic : Prop :=
  (∀ (s : State) x f k, Issues s x 0x22 k f.g f.n f.p → (s.msq x).work = [] → f.z = false → writable f.rd = true → readable f.rs1 = true →
    f.opBLegal = true → exec (.add x f) s = .next (((issued s x 0x22 k).setSpec x k ((past ((s.msq x).slot k).spec).setReg f.rd.toNat
    (((s.msq x).slot k).spec.reg f.rs1.toNat + f.opB ((s.msq x).slot k).spec))))) ∧
  (∀ (s : State) x f k, Issues s x 0x23 k f.g f.n f.p → (s.msq x).work = [] → f.z = false → writable f.rd = true → readable f.rs1 = true →
    f.opBLegal = true → exec (.sub x f) s = .next (((issued s x 0x23 k).setSpec x k ((past ((s.msq x).slot k).spec).setReg f.rd.toNat
    (((s.msq x).slot k).spec.reg f.rs1.toNat - f.opB ((s.msq x).slot k).spec))))) ∧
  (∀ (s : State) x f k, Issues s x 0x24 k f.g f.n f.p → (s.msq x).work = [] → f.z = false → writable f.rd = true → readable f.rs1 = true →
    f.opBLegal = true → exec (.and x f) s = .next (((issued s x 0x24 k).setSpec x k ((past ((s.msq x).slot k).spec).setReg f.rd.toNat
    (((s.msq x).slot k).spec.reg f.rs1.toNat &&& f.opB ((s.msq x).slot k).spec))))) ∧
  (∀ (s : State) x f k, Issues s x 0x25 k f.g f.n f.p → (s.msq x).work = [] → f.z = false → writable f.rd = true → readable f.rs1 = true →
    f.opBLegal = true → exec (.or x f) s = .next (((issued s x 0x25 k).setSpec x k ((past ((s.msq x).slot k).spec).setReg f.rd.toNat
    (((s.msq x).slot k).spec.reg f.rs1.toNat ||| f.opB ((s.msq x).slot k).spec))))) ∧
  (∀ (s : State) x f k, Issues s x 0x26 k f.g f.n f.p → (s.msq x).work = [] → f.z = false → writable f.rd = true → readable f.rs1 = true →
    f.opBLegal = true → exec (.xor x f) s = .next (((issued s x 0x26 k).setSpec x k ((past ((s.msq x).slot k).spec).setReg f.rd.toNat
    (((s.msq x).slot k).spec.reg f.rs1.toNat ^^^ f.opB ((s.msq x).slot k).spec))))) ∧
  (∀ (s : State) x f k, Issues s x 0x27 k f.g f.n f.p → (s.msq x).work = [] → f.z = false → writable f.rd = true → readable f.rs1 = true →
    f.opBLegal = true → exec (.shl x f) s = .next (((issued s x 0x27 k).setSpec x k ((past ((s.msq x).slot k).spec).setReg f.rd.toNat
    ((((s.msq x).slot k).spec.reg f.rs1.toNat) <<< ((f.opB ((s.msq x).slot k).spec).toNat % 32)))))) ∧
  (∀ (s : State) x f k, Issues s x 0x28 k f.g f.n f.p → (s.msq x).work = [] → f.z = false → writable f.rd = true → readable f.rs1 = true →
    f.opBLegal = true → exec (.shr x f) s = .next (((issued s x 0x28 k).setSpec x k ((past ((s.msq x).slot k).spec).setReg f.rd.toNat
    ((((s.msq x).slot k).spec.reg f.rs1.toNat) >>> ((f.opB ((s.msq x).slot k).spec).toNat % 32)))))) ∧
  (∀ (s : State) x f k, Issues s x 0x20 k f.g f.n f.p → (s.msq x).work = [] → f.z = false → f.i = true → writable f.rd = true → f.rs1 = 0
    → f.rs2 = 0 → exec (.ldi x f) s = .next (((issued s x 0x20 k).setSpec x k ((past ((s.msq x).slot k).spec).setReg f.rd.toNat f.imm)))) ∧
  (∀ (s : State) x f k, Issues s x 0x21 k f.g f.n f.p → (s.msq x).work = [] → f.z = false → f.i = false → writable f.rd = true → readable
    f.rs1 = true → f.rs2 = 0 → f.imm = 0 → exec (.mov x f) s = .next (((issued s x 0x21 k).setSpec x k ((past ((s.msq x).slot
    k).spec).setReg f.rd.toNat (((s.msq x).slot k).spec.reg f.rs1.toNat))))) ∧
  (∀ (s : State) x f k b, Issues s x 0x29 k f.g f.n f.p → (s.msq x).work = [] → f.z = false → readable f.rs1 = true → f.opBLegal = true →
    cmpCond (nbits f.rd.toNat 2 4) (((s.msq x).slot k).spec.reg f.rs1.toNat) (f.opB ((s.msq x).slot k).spec) = some b → exec (.cmp x f) s
    = .next (((issued s x 0x29 k).setSpec x k ((past ((s.msq x).slot k).spec).setReg (0x30 + nbits f.rd.toNat 0 2) (if b then 1#32 else
    0#32))))) ∧
  (∀ (s : State) x op k a, Keeps [.msq] [] s ((issued s x op k).setSpec x k a) ∧ ((issued s x op k).setSpec x k a).msq x.other = s.msq
    x.other ∧ (∀ j, j ≠ k → (((issued s x op k).setSpec x k a).msq x).slot j = (s.msq x).slot j)) ∧
  (∀ (s : State) (f : FmtR) (a : Arch), f.opB a = (if f.i = true then f.imm else a.reg f.rs2.toNat)) ∧
  (∀ (s : State) (v b : Word), cmpCond 0 v b = some (decide (v = b)) ∧ cmpCond 1 v b = some (decide (v ≠ b)) ∧ cmpCond 2 v b = some (v.ult
    b) ∧ cmpCond 3 v b = some (b.ule v) ∧ cmpCond 4 v b = some (v.slt b) ∧ cmpCond 5 v b = some (b.sle v) ∧ cmpCond 6 v b = some (decide
    (2 ^ 31 ≤ (v - b).toNat)) ∧ cmpCond 7 v b = some (decide ((v - b).toNat < 2 ^ 31)) ∧ cmpCond 8 v b = some (decide (v &&& b ≠ 0#32)) ∧
    cmpCond 9 v b = some (decide (v &&& b = 0#32))) ∧
  (∀ (s : State) x f k, Issues s x 0x29 k f.g f.n f.p → 10 ≤ nbits f.rd.toNat 2 4 → exec (.cmp x f) s = .next ((s.progError x ((s.msq
    x).slot k).spec.pc errIllegal).advance x)) ∧
  (∀ (s : State) x f k, Issues s x 0x22 k f.g f.n f.p → readable f.rs1 = false → exec (.add x f) s = .next ((s.progError x ((s.msq x).slot
    k).spec.pc errIllegal).advance x))

/-- R142 to R149: control flow of a track program with no earlier instruction in progress. -/
def Obligations.ControlFlow : Prop :=
  (∀ (s : State) x f k, Issues s x 0x00 k f.g f.n f.p → (s.msq x).work = [] → f.z = false → f.bareR = true → exec (.nop x f) s = .next
    ((issued s x 0x00 k))) ∧
  (∀ (s : State) x f k, Issues s x 0x01 k f.g f.n f.p → (s.msq x).work = [] → f.z = false → f.immOnlyR = true → exec (.br x f) s = .next
    (((issued s x 0x01 k).setSpec x k { past ((s.msq x).slot k).spec with pc := branchTo ((s.msq x).slot k).spec.pc f.simm }))) ∧
  (∀ (s : State) x f k, Issues s x 0x02 k f.g f.n f.p → (s.msq x).work = [] → f.z = false → f.rs1 = 0 → f.rs2 = 0 → f.i = false → nbits
    f.rd.toNat 0 4 ≠ 0 → ∃ t, exec (.brc x f) s = .next t ∧ ((t.msq x).slot k).spec.pc = (if (((s.msq x).slot k).spec.flags &&& nbits
    f.rd.toNat 0 4 != 0) != f.rd.getLsbD 5 then branchTo ((s.msq x).slot k).spec.pc f.simm else (past ((s.msq x).slot k).spec).pc) ∧
    ((t.msq x).slot k).spec.flags = (if f.rd.getLsbD 4 then ((s.msq x).slot k).spec.flags &&& (15 - nbits f.rd.toNat 0 4) else ((s.msq
    x).slot k).spec.flags) ∧ (t.msq x).wait = none ∧ Keeps [.msq] [] s t) ∧
  (∀ (s : State) x f k, Issues s x 0x03 k f.g f.n f.p → (s.msq x).work = [] → f.z = false → f.immOnlyR = true → ((s.msq x).slot
    k).spec.stack.length < 8 → exec (.call x f) s = .next (((issued s x 0x03 k).setSpec x k
    { past ((s.msq x).slot k).spec with stack := (past ((s.msq x).slot k).spec).pc :: ((s.msq x).slot k).spec.stack, pc := branchTo ((s.msq x).slot k).spec.pc f.simm }))) ∧
  (∀ (s : State) x f k, Issues s x 0x03 k f.g f.n f.p → f.z = false → f.immOnlyR = true → 8 ≤ ((s.msq x).slot k).spec.stack.length → exec
    (.call x f) s = .next ((s.progError x ((s.msq x).slot k).spec.pc errStack).advance x)) ∧
  (∀ (s : State) x f k r l, Issues s x 0x04 k f.g f.n f.p → (s.msq x).work = [] → f.z = false → f.bareR = true → ((s.msq x).slot
    k).spec.stack = r :: l → exec (.ret x f) s = .next (((issued s x 0x04 k).setSpec x k
    { past ((s.msq x).slot k).spec with pc := r, stack := l }))) ∧
  (∀ (s : State) x f k, Issues s x 0x04 k f.g f.n f.p → f.z = false → f.bareR = true → ((s.msq x).slot k).spec.stack = [] → exec (.ret x
    f) s = .next ((s.progError x ((s.msq x).slot k).spec.pc errStack).advance x)) ∧
  (∀ (s : State) x f k, Issues s x 0x05 k f.g f.n f.p → (s.msq x).work = [] → f.z = false → f.bareR = true → exec (.halt x f) s = .next
    (((issued s x 0x05 k).setMsq x { (issued s x 0x05 k).msq x with wait := some .halt }).registerCommit x k 1)) ∧
  (∀ (s : State) x f k ang, Issues s x 0x06 k f.g f.n f.p → (s.msq x).work = [] → f.ops = 0 → f.aq ≠ 0 → f.aqLegal = true → f.wedgeOk s =
    true → f.angle s x ((s.msq x).slot k).spec = some ang → 8 < s.boundariesTo x ang → exec (.waita x f) s = .next (((issued s x 0x06
    k).setMsq x { (issued s x 0x06 k).msq x with wait := some (.waita ang none s.ang.ats) }))) ∧
  (∀ (s : State) x f k ang, Issues s x 0x06 k f.g f.n f.p → (s.msq x).work = [] → f.ops = 0 → f.aq ≠ 0 → f.aqLegal = true → f.wedgeOk s =
    true → f.angle s x ((s.msq x).slot k).spec = some ang → s.boundariesTo x ang ≤ 8 → ∃ t, exec (.waita x f) s = .next t ∧ (t.msq x).wait
    = some (.waita ang (some (freeCmp (s.cmps x))) s.ang.ats) ∧ t.cmps x = mput (s.cmps x) (freeCmp (s.cmps x))
    { target := ang, dest := 0, hit := false } ∧ Keeps [.ang, .msq] [] s t) ∧
  (∀ (s : State) x f k, Issues s x 0x07 k f.g f.n f.p → (s.msq x).work = [] → f.z = false → isP f.rd = true → f.rs1 = 0 → f.rs2 = 0 → f.i
    = false → f.ib 20 12 = 0 → f.ib 16 4 ≠ 0 → s.waiteHolds x k (f.ib 16 4) = false → exec (.waite x f) s = .next (((issued s x 0x07
    k).setMsq x { (issued s x 0x07 k).msq x with wait := some (.waite (f.ib 16 4) f.rd.toNat (f.ib 0 16) s.now) }))) ∧
  (∀ (s : State) x f k, Issues s x 0x07 k f.g f.n f.p → (s.msq x).work = [] → f.z = false → isP f.rd = true → f.rs1 = 0 → f.rs2 = 0 → f.i
    = false → f.ib 20 12 = 0 → f.ib 16 4 ≠ 0 → s.waiteHolds x k (f.ib 16 4) = true → ∃ t, exec (.waite x f) s = .next t ∧ ((t.msq x).slot
    k).spec = (past ((s.msq x).slot k).spec).setReg f.rd.toNat 1#32 ∧ (t.msq x).wait = none ∧ Keeps [.msq] [Fld.MSQ_DOORBELL_RING x] s t) ∧
  (∀ (s : State) x f k, Issues s x 0x08 k f.g f.n f.p → (s.msq x).work = [] → f.z = false → f.bareR = true → (s.msq x).higherReady k =
    false → exec (.yield x f) s = .next ((issued s x 0x08 k))) ∧
  (∀ (s : State) x f k, Issues s x 0x08 k f.g f.n f.p → (s.msq x).work = [] → f.z = false → f.bareR = true → (s.msq x).higherReady k =
    true → exec (.yield x f) s = .next (((issued s x 0x08 k).setMsq x
    { (issued s x 0x08 k).msq x with wait := some .yield }).registerCommit x k 2)) ∧
  (∀ (s : State) x f k, s.actOk x = true → (s.msq x).running = some k → (s.msq x).canIssue 0x00 = true → pcInSram ((s.msq x).slot
    k).spec.pc = true → (s.msq x).dispatchValid 0x00 = true → guardLegal f.g f.n f.p = true → guardFalse ((s.msq x).slot k).spec f.g f.n
    f.p = true → (s.msq x).work = [] → exec (.nop x f) s = .next ((issued s x 0x00 k)))

/-- R153 to R159, R801: a positioning instruction issues by adding its item at the end of the work list; what R801 judges when it is ready
stops it then. -/
def Obligations.Positioning : Prop :=
  (∀ (s : State) x f k, Issues s x 0x40 k f.g f.n f.p → f.aqLegal = true → f.ob 22 2 ≠ 3 → f.ob 0 12 = 0 → (inMask (chsMask (f.ob 22 2))
    false = false → f.ob 17 5 = 0) → (inMask (chsMask (f.ob 22 2)) true = false → f.ob 12 5 = 0) → exec (.seek x f) s = .next ((((issued s
    x 0x40 k).announce x (chsMask (f.ob 22 2)) ((((s.msq x).slot k).spec.reg (f.ob 17 5)).toNat) ((((s.msq x).slot k).spec.reg (f.ob 12
    5)).toNat)).addWork x
    { mkWork (.seek (chsMask (f.ob 22 2)) ((((s.msq x).slot k).spec.reg (f.ob 17 5)).toNat) ((((s.msq x).slot k).spec.reg (f.ob 12 5)).toNat)) ((s.msq x).slot k).spec.pc (if f.wedgeOk s then f.angle s x ((s.msq x).slot k).spec else none) with opErr := (inMask (chsMask (f.ob 22 2)) false && decide (2 ^ 24 ≤ ((((s.msq x).slot k).spec.reg (f.ob 17 5)).toNat))) || (inMask (chsMask (f.ob 22 2)) true && decide (2 ^ 24 ≤ ((((s.msq x).slot k).spec.reg (f.ob 12 5)).toNat))) || !f.wedgeOk s }).advance
    x)) ∧
  (∀ (s : State) x f k, Issues s x 0x41 k f.g f.n f.p → f.aqLegal = true → f.ob 22 2 ≠ 3 → f.ob 0 21 = 0 → exec (.follow x f) s = .next
    (((issued s x 0x41 k).addWork x
    { mkWork (.follow (chsMask (f.ob 22 2)) (f.ob 21 1 == 1)) ((s.msq x).slot k).spec.pc (if f.wedgeOk s then f.angle s x ((s.msq x).slot k).spec else none) with opErr := !f.wedgeOk s }).advance
    x)) ∧
  (∀ (s : State) x f k, Issues s x 0x41 k f.g f.n f.p → f.aqLegal = true → f.ob 22 2 ≠ 3 → f.ob 0 21 = 0 → (s.msq x).work = [] → s.loaded
    x = false → exec (.follow x f) s = .next ((((issued s x 0x41 k).addWork x
    { mkWork (.follow (chsMask (f.ob 22 2)) (f.ob 21 1 == 1)) ((s.msq x).slot k).spec.pc (if f.wedgeOk s then f.angle s x ((s.msq x).slot k).spec else none) with opErr := !f.wedgeOk s }).progError
    x ((s.msq x).slot k).spec.pc errState).resolveWait x)) ∧
  (∀ (s : State) x f k, Issues s x 0x42 k f.g f.n f.p → f.aqLegal = true → f.ob 22 2 ≠ 3 → f.ob 0 13 = 0 → exec (.offset x f) s = .next
    (((issued s x 0x42 k).addWork x
    { mkWork (.offset (chsMask (f.ob 22 2)) (sgn 9 (f.ob 13 9))) ((s.msq x).slot k).spec.pc (if f.wedgeOk s then f.angle s x ((s.msq x).slot k).spec else none) with opErr := decide (128 < sgn 9 (f.ob 13 9) ∨ sgn 9 (f.ob 13 9) < -128) || !f.wedgeOk s }).advance
    x)) ∧
  (∀ (s : State) x f k, Issues s x 0x42 k f.g f.n f.p → f.aqLegal = true → f.ob 22 2 ≠ 3 → f.ob 0 13 = 0 → (s.msq x).work = [] → s.loaded
    x = true → (s.msq x).boundAll (chsMask (f.ob 22 2)) = true → (s.msq x).targetAll (chsMask (f.ob 22 2)) = true → 128 < sgn 9 (f.ob 13
    9) → exec (.offset x f) s = .next ((((issued s x 0x42 k).addWork x
    { mkWork (.offset (chsMask (f.ob 22 2)) (sgn 9 (f.ob 13 9))) ((s.msq x).slot k).spec.pc (if f.wedgeOk s then f.angle s x ((s.msq x).slot k).spec else none) with opErr := decide (128 < sgn 9 (f.ob 13 9) ∨ sgn 9 (f.ob 13 9) < -128) || !f.wedgeOk s }).progError
    x ((s.msq x).slot k).spec.pc errOperand).resolveWait x)) ∧
  (∀ (s : State) x f k, Issues s x 0x43 k f.g f.n f.p → f.aqLegal = true → f.wedgeOk s = true → f.ob 0 19 = 0 → f.ob 19 4 ≤ 11 → (s.get
    (Fld.MSQ_HEADS_EN x)).testBit (f.ob 19 4) = true → exec (.headsel x f) s = .next (((issued s x 0x43 k).addWork x (mkWork (.headsel
    (f.ob 23 1) (f.ob 19 4)) ((s.msq x).slot k).spec.pc (f.angle s x ((s.msq x).slot k).spec))).advance x)) ∧
  (∀ (s : State) x f k, Issues s x 0x43 k f.g f.n f.p → f.aqLegal = true → f.wedgeOk s = true → f.ob 0 19 = 0 → f.ob 19 4 ≤ 11 → (s.get
    (Fld.MSQ_HEADS_EN x)).testBit (f.ob 19 4) = true → (s.msq x).work = [] → ((s.msq x).pos (f.ob 23 1 == 0)).head = some (f.ob 19 4) →
    exec (.headsel x f) s = .next ((((issued s x 0x43 k).addWork x (mkWork (.headsel (f.ob 23 1) (f.ob 19 4)) ((s.msq x).slot k).spec.pc
    (f.angle s x ((s.msq x).slot k).spec))).progError x ((s.msq x).slot k).spec.pc errOperand).resolveWait x)) ∧
  (∀ (s : State) x f k, Issues s x 0x43 k f.g f.n f.p → f.aqLegal = true → f.wedgeOk s = true → f.ob 0 19 = 0 → 11 < f.ob 19 4 → exec
    (.headsel x f) s = .next ((s.progError x ((s.msq x).slot k).spec.pc errOperand).advance x)) ∧
  (∀ (s : State) x f k, Issues s x 0x44 k f.g f.n f.p → f.aqLegal = true → f.wedgeOk s = true → f.ops = 0 → s.canLoad x = true → exec
    (.loadh x f) s = .next (((issued s x 0x44 k).addWork x (mkWork .loadh ((s.msq x).slot k).spec.pc (f.angle s x ((s.msq x).slot
    k).spec))).advance x)) ∧
  (∀ (s : State) x f k, Issues s x 0x44 k f.g f.n f.p → f.aqLegal = true → f.wedgeOk s = true → f.ops = 0 → s.canLoad x = false → exec
    (.loadh x f) s = .next ((s.progError x ((s.msq x).slot k).spec.pc errState).advance x)) ∧
  (∀ (s : State) x f k, Issues s x 0x45 k f.g f.n f.p → f.aqLegal = true → f.wedgeOk s = true → f.ops = 0 → s.loaded x = true → exec
    (.unloadh x f) s = .next (((issued s x 0x45 k).addWork x (mkWork .unloadh ((s.msq x).slot k).spec.pc (f.angle s x ((s.msq x).slot
    k).spec))).advance x))

/-- R160 to R166: a media instruction reads its operands at issue, advances the buffer register and tag seed (log 21) and adds its run to
the work list. -/
def Obligations.MediaInstructions : Prop :=
  (∀ (s : State) x f k n0 n1, Issues s x 0x60 k f.g f.n f.p → f.aqLegal = true → f.wedgeOk s = true → f.ob 22 2 ≠ 3 → (f.ob 0 1 = 0 → f.ob
    1 5 = 0) → ((s.msq x).slot k).spec.ctx ≠ 0x400 → f.ob 14 8 ≠ 0 → (f.ob 0 1 = 1 → f.ob 14 8 ≤ 32) → (f.ob 22 2 = 2 → f.ob 6 5 ≠ 31 ∧
    f.ob 1 5 ≠ 31 ∧ f.ob 11 3 % 2 = 0) → n0 = f.ob 14 8 - skipped (f.ob 14 8) (if f.ob 0 1 = 1 then (((s.msq x).slot k).spec.reg (f.ob 1
    5)).toNat else 0) → n1 = f.ob 14 8 - skipped (f.ob 14 8) (if f.ob 0 1 = 1 then (((s.msq x).slot k).spec.reg (f.ob 1 5 + second1 (f.ob
    22 2 == 2))).toNat else 0) → exec (.read x f) s = .next ((((issued s x 0x60 k).setSpec x k (if f.ob 22 2 = 2 then mediaAdvance .read
    (mediaAdvance .read (past ((s.msq x).slot k).spec) false (f.ob 11 3) n0) true (f.ob 11 3 + 1) n1 else mediaAdvance .read (past ((s.msq
    x).slot k).spec) (f.ob 22 2 == 1) (f.ob 11 3) n0)).addWork x (mkWork (.media
    { op := .read, chs := (chsMask (f.ob 22 2)), count := f.ob 14 8, sec0 := (((s.msq x).slot k).spec.reg (f.ob 6 5)).toNat % 2 ^ 12, sec1 := (((s.msq x).slot k).spec.reg (f.ob 6 5 + second1 (f.ob 22 2 == 2))).toNat % 2 ^ 12, skip0 := (if f.ob 0 1 = 1 then (((s.msq x).slot k).spec.reg (f.ob 1 5)).toNat else 0), skip1 := (if f.ob 0 1 = 1 then (((s.msq x).slot k).spec.reg (f.ob 1 5 + second1 (f.ob 22 2 == 2))).toNat else 0), buf0 := (((s.msq x).slot k).spec.reg (0x20 + f.ob 11 3)).toNat, buf1 := (((s.msq x).slot k).spec.reg (0x20 + f.ob 11 3 + second1 (f.ob 22 2 == 2))).toNat, seed0 := ((s.msq x).slot k).spec.seed0, seed1 := ((s.msq x).slot k).spec.seed1, ctx := ((s.msq x).slot k).spec.ctx, lead0 := (s.msq x).pos0.lead, lead1 := (s.msq x).pos1.lead })
    ((s.msq x).slot k).spec.pc (f.angle s x ((s.msq x).slot k).spec))).advance x)) ∧
  (∀ (s : State) x f k n0 n1, Issues s x 0x61 k f.g f.n f.p → f.aqLegal = true → f.wedgeOk s = true → f.ob 22 2 ≠ 3 → (f.ob 0 1 = 0 → f.ob
    1 5 = 0) → ((s.msq x).slot k).spec.ctx ≠ 0x400 → f.ob 14 8 ≠ 0 → (f.ob 0 1 = 1 → f.ob 14 8 ≤ 32) → (f.ob 22 2 = 2 → f.ob 6 5 ≠ 31 ∧
    f.ob 1 5 ≠ 31 ∧ f.ob 11 3 % 2 = 0) → n0 = f.ob 14 8 - skipped (f.ob 14 8) (if f.ob 0 1 = 1 then (((s.msq x).slot k).spec.reg (f.ob 1
    5)).toNat else 0) → n1 = f.ob 14 8 - skipped (f.ob 14 8) (if f.ob 0 1 = 1 then (((s.msq x).slot k).spec.reg (f.ob 1 5 + second1 (f.ob
    22 2 == 2))).toNat else 0) → exec (.write x f) s = .next ((((issued s x 0x61 k).setSpec x k (if f.ob 22 2 = 2 then mediaAdvance .write
    (mediaAdvance .write (past ((s.msq x).slot k).spec) false (f.ob 11 3) n0) true (f.ob 11 3 + 1) n1 else mediaAdvance .write (past
    ((s.msq x).slot k).spec) (f.ob 22 2 == 1) (f.ob 11 3) n0)).addWork x (mkWork (.media
    { op := .write, chs := (chsMask (f.ob 22 2)), count := f.ob 14 8, sec0 := (((s.msq x).slot k).spec.reg (f.ob 6 5)).toNat % 2 ^ 12, sec1 := (((s.msq x).slot k).spec.reg (f.ob 6 5 + second1 (f.ob 22 2 == 2))).toNat % 2 ^ 12, skip0 := (if f.ob 0 1 = 1 then (((s.msq x).slot k).spec.reg (f.ob 1 5)).toNat else 0), skip1 := (if f.ob 0 1 = 1 then (((s.msq x).slot k).spec.reg (f.ob 1 5 + second1 (f.ob 22 2 == 2))).toNat else 0), buf0 := (((s.msq x).slot k).spec.reg (0x20 + f.ob 11 3)).toNat, buf1 := (((s.msq x).slot k).spec.reg (0x20 + f.ob 11 3 + second1 (f.ob 22 2 == 2))).toNat, seed0 := ((s.msq x).slot k).spec.seed0, seed1 := ((s.msq x).slot k).spec.seed1, ctx := ((s.msq x).slot k).spec.ctx, lead0 := (s.msq x).pos0.lead, lead1 := (s.msq x).pos1.lead })
    ((s.msq x).slot k).spec.pc (f.angle s x ((s.msq x).slot k).spec))).advance x)) ∧
  (∀ (s : State) x f k n0 n1, Issues s x 0x62 k f.g f.n f.p → f.aqLegal = true → f.wedgeOk s = true → f.ob 22 2 ≠ 3 → (f.ob 11 3 = 0 ∧
    (f.ob 0 1 = 0 → f.ob 1 5 = 0)) → f.ob 14 8 ≠ 0 → (f.ob 0 1 = 1 → f.ob 14 8 ≤ 32) → (f.ob 22 2 = 2 → f.ob 6 5 ≠ 31 ∧ f.ob 1 5 ≠ 31) →
    n0 = f.ob 14 8 - skipped (f.ob 14 8) (if f.ob 0 1 = 1 then (((s.msq x).slot k).spec.reg (f.ob 1 5)).toNat else 0) → n1 = f.ob 14 8 -
    skipped (f.ob 14 8) (if f.ob 0 1 = 1 then (((s.msq x).slot k).spec.reg (f.ob 1 5 + second1 (f.ob 22 2 == 2))).toNat else 0) → exec
    (.verify x f) s = .next ((((issued s x 0x62 k).setSpec x k (if f.ob 22 2 = 2 then mediaAdvance .verify (mediaAdvance .verify (past
    ((s.msq x).slot k).spec) false (f.ob 11 3) n0) true (f.ob 11 3 + 1) n1 else mediaAdvance .verify (past ((s.msq x).slot k).spec) (f.ob
    22 2 == 1) (f.ob 11 3) n0)).addWork x (mkWork (.media
    { op := .verify, chs := (chsMask (f.ob 22 2)), count := f.ob 14 8, sec0 := (((s.msq x).slot k).spec.reg (f.ob 6 5)).toNat % 2 ^ 12, sec1 := (((s.msq x).slot k).spec.reg (f.ob 6 5 + second1 (f.ob 22 2 == 2))).toNat % 2 ^ 12, skip0 := (if f.ob 0 1 = 1 then (((s.msq x).slot k).spec.reg (f.ob 1 5)).toNat else 0), skip1 := (if f.ob 0 1 = 1 then (((s.msq x).slot k).spec.reg (f.ob 1 5 + second1 (f.ob 22 2 == 2))).toNat else 0), buf0 := (((s.msq x).slot k).spec.reg (0x20 + f.ob 11 3)).toNat, buf1 := (((s.msq x).slot k).spec.reg (0x20 + f.ob 11 3 + second1 (f.ob 22 2 == 2))).toNat, seed0 := ((s.msq x).slot k).spec.seed0, seed1 := ((s.msq x).slot k).spec.seed1, ctx := ((s.msq x).slot k).spec.ctx, lead0 := (s.msq x).pos0.lead, lead1 := (s.msq x).pos1.lead })
    ((s.msq x).slot k).spec.pc (f.angle s x ((s.msq x).slot k).spec))).advance x)) ∧
  (∀ (s : State) x f k n0 n1, Issues s x 0x63 k f.g f.n f.p → f.aqLegal = true → f.wedgeOk s = true → f.ob 22 2 ≠ 3 → (f.ob 1 5 = 0 ∧ f.ob
    0 1 = 0) → ((s.msq x).slot k).spec.ctx ≠ 0x400 → f.ob 14 8 ≠ 0 → (f.ob 0 1 = 1 → f.ob 14 8 ≤ 32) → (f.ob 22 2 = 2 → f.ob 6 5 ≠ 31 ∧
    f.ob 1 5 ≠ 31 ∧ f.ob 11 3 % 2 = 0) → n0 = f.ob 14 8 - skipped (f.ob 14 8) (if f.ob 0 1 = 1 then (((s.msq x).slot k).spec.reg (f.ob 1
    5)).toNat else 0) → n1 = f.ob 14 8 - skipped (f.ob 14 8) (if f.ob 0 1 = 1 then (((s.msq x).slot k).spec.reg (f.ob 1 5 + second1 (f.ob
    22 2 == 2))).toNat else 0) → exec (.scan x f) s = .next ((((issued s x 0x63 k).setSpec x k (if f.ob 22 2 = 2 then mediaAdvance .scan
    (mediaAdvance .scan (past ((s.msq x).slot k).spec) false (f.ob 11 3) n0) true (f.ob 11 3 + 1) n1 else mediaAdvance .scan (past ((s.msq
    x).slot k).spec) (f.ob 22 2 == 1) (f.ob 11 3) n0)).addWork x (mkWork (.media
    { op := .scan, chs := (chsMask (f.ob 22 2)), count := f.ob 14 8, sec0 := (((s.msq x).slot k).spec.reg (f.ob 6 5)).toNat % 2 ^ 12, sec1 := (((s.msq x).slot k).spec.reg (f.ob 6 5 + second1 (f.ob 22 2 == 2))).toNat % 2 ^ 12, skip0 := (if f.ob 0 1 = 1 then (((s.msq x).slot k).spec.reg (f.ob 1 5)).toNat else 0), skip1 := (if f.ob 0 1 = 1 then (((s.msq x).slot k).spec.reg (f.ob 1 5 + second1 (f.ob 22 2 == 2))).toNat else 0), buf0 := (((s.msq x).slot k).spec.reg (0x20 + f.ob 11 3)).toNat, buf1 := (((s.msq x).slot k).spec.reg (0x20 + f.ob 11 3 + second1 (f.ob 22 2 == 2))).toNat, seed0 := ((s.msq x).slot k).spec.seed0, seed1 := ((s.msq x).slot k).spec.seed1, ctx := ((s.msq x).slot k).spec.ctx, lead0 := (s.msq x).pos0.lead, lead1 := (s.msq x).pos1.lead })
    ((s.msq x).slot k).spec.pc (f.angle s x ((s.msq x).slot k).spec))).advance x)) ∧
  (∀ (s : State) x f k n0 n1, Issues s x 0x64 k f.g f.n f.p → f.aqLegal = true → f.wedgeOk s = true → f.ob 22 2 ≠ 3 → (f.ob 11 3 = 0 ∧
    f.ob 1 5 = 0 ∧ f.ob 0 1 = 0) → f.ob 14 8 ≠ 0 → (f.ob 0 1 = 1 → f.ob 14 8 ≤ 32) → (f.ob 22 2 = 2 → f.ob 6 5 ≠ 31 ∧ f.ob 1 5 ≠ 31) → n0
    = f.ob 14 8 - skipped (f.ob 14 8) (if f.ob 0 1 = 1 then (((s.msq x).slot k).spec.reg (f.ob 1 5)).toNat else 0) → n1 = f.ob 14 8 -
    skipped (f.ob 14 8) (if f.ob 0 1 = 1 then (((s.msq x).slot k).spec.reg (f.ob 1 5 + second1 (f.ob 22 2 == 2))).toNat else 0) → exec
    (.eraseb x f) s = .next ((((issued s x 0x64 k).setSpec x k (if f.ob 22 2 = 2 then mediaAdvance .eraseb (mediaAdvance .eraseb (past
    ((s.msq x).slot k).spec) false (f.ob 11 3) n0) true (f.ob 11 3 + 1) n1 else mediaAdvance .eraseb (past ((s.msq x).slot k).spec) (f.ob
    22 2 == 1) (f.ob 11 3) n0)).addWork x (mkWork (.media
    { op := .eraseb, chs := (chsMask (f.ob 22 2)), count := f.ob 14 8, sec0 := (((s.msq x).slot k).spec.reg (f.ob 6 5)).toNat % 2 ^ 12, sec1 := (((s.msq x).slot k).spec.reg (f.ob 6 5 + second1 (f.ob 22 2 == 2))).toNat % 2 ^ 12, skip0 := (if f.ob 0 1 = 1 then (((s.msq x).slot k).spec.reg (f.ob 1 5)).toNat else 0), skip1 := (if f.ob 0 1 = 1 then (((s.msq x).slot k).spec.reg (f.ob 1 5 + second1 (f.ob 22 2 == 2))).toNat else 0), buf0 := (((s.msq x).slot k).spec.reg (0x20 + f.ob 11 3)).toNat, buf1 := (((s.msq x).slot k).spec.reg (0x20 + f.ob 11 3 + second1 (f.ob 22 2 == 2))).toNat, seed0 := ((s.msq x).slot k).spec.seed0, seed1 := ((s.msq x).slot k).spec.seed1, ctx := ((s.msq x).slot k).spec.ctx, lead0 := (s.msq x).pos0.lead, lead1 := (s.msq x).pos1.lead })
    ((s.msq x).slot k).spec.pc (f.angle s x ((s.msq x).slot k).spec))).advance x)) ∧
  (∀ (s : State) x f k, Issues s x 0x60 k f.g f.n f.p → f.aqLegal = true → f.wedgeOk s = true → f.ob 22 2 ≠ 3 → (f.ob 0 1 = 0 → f.ob 1 5 =
    0) → ((s.msq x).slot k).spec.ctx = 0x400 → exec (.read x f) s = .next ((s.progError x ((s.msq x).slot k).spec.pc errCtx).advance x))

/-- R171: ASSIST and HEAT add their item to the work list; PREHEAT sets the lead of its channels at issue. -/
def Obligations.AssistInstructions : Prop :=
  (∀ (s : State) x f k, Issues s x 0x80 k f.g f.n f.p → f.z = false → f.rd = 0 → f.rs2 = 0 → f.i = false → f.ib 0 2 ≠ 3 → f.ib 4 28 = 0 →
    (if f.ib 3 1 = 1 then readable f.rs1 = true else f.rs1 = 0) → exec (.assist x f) s = .next (((issued s x 0x80 k).addWork x (mkWork
    (.assist (chsMask (f.ib 0 2)) (f.ib 2 1 == 1) (if f.ib 3 1 = 1 then some ((((s.msq x).slot k).spec.reg f.rs1.toNat).toNat % 2 ^ 12)
    else none)) ((s.msq x).slot k).spec.pc none)).advance x)) ∧
  (∀ (s : State) x f k, Issues s x 0x81 k f.g f.n f.p → f.z = false → f.rd = 0 → f.rs2 = 0 → f.i = false → f.ib 0 2 ≠ 3 → f.ib 6 26 = 0 →
    f.ib 2 1 = 0 → f.ib 4 2 ≠ 3 → (if f.ib 3 1 = 1 then readable f.rs1 = true else f.rs1 = 0) → exec (.heat x f) s = .next (((issued s x
    0x81 k).addWork x (mkWork (.heat (chsMask (f.ib 0 2)) (f.ib 4 2) (if f.ib 3 1 = 1 then some ((((s.msq x).slot k).spec.reg
    f.rs1.toNat).toNat % 2 ^ 12) else none)) ((s.msq x).slot k).spec.pc none)).advance x)) ∧
  (∀ (s : State) x f k, Issues s x 0x82 k f.g f.n f.p → (s.msq x).work = [] → f.z = false → f.immOnlyR = true → f.ib 20 12 = 0 → f.ib 2 2
    = 0 → f.ib 0 2 ≠ 3 → (f.ib 4 16 = 0 → s.ptAll x (chsMask (f.ib 0 2)) = true) → s.get (Fld.WRP_CFG_AMODE x) ≠ 0 → ∃ t, exec (.preheat x
    f) s = .next t ∧ (t.msq x).pos0 = (if inMask (chsMask (f.ib 0 2)) false then { (s.msq x).pos0 with lead := f.ib 4 16 } else (s.msq
    x).pos0) ∧ (t.msq x).pos1 = (if inMask (chsMask (f.ib 0 2)) true then { (s.msq x).pos1 with lead := f.ib 4 16 } else (s.msq x).pos1) ∧
    Keeps [.msq] [] s t) ∧
  (∀ (s : State) x f k, Issues s x 0x82 k f.g f.n f.p → (s.msq x).work = [] → f.z = false → f.immOnlyR = true → f.ib 20 12 = 0 → f.ib 2 2
    = 0 → f.ib 0 2 ≠ 3 → (f.ib 4 16 = 0 → s.ptAll x (chsMask (f.ib 0 2)) = true) → s.get (Fld.WRP_CFG_AMODE x) = 0 → exec (.preheat x f) s
    = .next ((issued s x 0x82 k)))

/-- R172 to R178: the instructions of context, commit and checkpoint with no earlier instruction in progress. -/
def Obligations.HostInstructions : Prop :=
  (∀ (s : State) x f k, Issues s x 0xA0 k f.g f.n f.p → (s.msq x).work = [] → f.z = false → f.rd = 0 → readable f.rs1 = true → f.rs2 = 0 →
    f.i = false → f.imm = 0 → exec (.bind x f) s = .next (((issued s x 0xA0 k).setMsq x
    { (issued s x 0xA0 k).msq x with wait := some (.bind ((((s.msq x).slot k).spec.reg f.rs1.toNat).toNat % 2 ^ 10)) }))) ∧
  (∀ (s : State) x f k, Issues s x 0xA1 k f.g f.n f.p → (s.msq x).work = [] → f.z = false → f.rd = 0 → isB f.rs1 = true → f.rs2 = 0 → f.i
    = false → f.imm = 0 → exec (.badv x f) s = .next ((issued s x 0xA1 k).setMsq x
    { (issued s x 0xA1 k).msq x with staged := (s.msq x).staged ++ [.badv ((s.msq x).slot k).spec.ctx (((s.msq x).slot k).spec.reg f.rs1.toNat).toNat] })) ∧
  (∀ (s : State) x f k (sd : Seed), Issues s x 0xA2 k f.g f.n f.p → (s.msq x).work = [] → f.z = false → f.rd = 0 → readable f.rs1 = true →
    readable f.rs2 = true → f.i = false → f.ib 2 30 = 0 → f.ib 0 2 ≠ 3 → sd =
    ⟨(((s.msq x).slot k).spec.reg f.rs1.toNat).toNat + (((s.msq x).slot k).spec.reg f.rs2.toNat).toNat % 8 * 2 ^ 32, (((s.msq x).slot k).spec.reg f.rs2.toNat).toNat / 2 ^ 16⟩
    → ∃ t, exec (.tag x f) s = .next t ∧ ((t.msq x).slot k).spec.seed0 = (if inMask (chsMask (f.ib 0 2)) false then sd else ((s.msq
    x).slot k).spec.seed0) ∧ ((t.msq x).slot k).spec.seed1 = (if inMask (chsMask (f.ib 0 2)) true then sd else ((s.msq x).slot
    k).spec.seed1) ∧ ((t.msq x).slot k).spec.pc = (past ((s.msq x).slot k).spec).pc ∧ Keeps [.msq] [] s t) ∧
  (∀ (s : State) x f k, Issues s x 0xA3 k f.g f.n f.p → (s.msq x).work = [] → f.z = false → f.immOnlyR = true → f.ib 9 23 = 0 → exec
    (.post x f) s = .next ((issued s x 0xA3 k).setMsq x
    { (issued s x 0xA3 k).msq x with staged := (s.msq x).staged ++ [.post ((s.msq x).slot k).spec.ctx (f.ib 0 8) (f.ib 8 1 == 1)] })) ∧
  (∀ (s : State) x f k, Issues s x 0xC0 k f.g f.n f.p → f.z = false → f.bareR = true → exec (.commit x f) s = .next (((issued s x 0xC0
    k).registerCommit x k 0).advance x)) ∧
  (∀ (s : State) x f k, Issues s x 0xC1 k f.g f.n f.p → (s.msq x).work = [] → f.z = false → f.bareR = true → exec (.fence x f) s = .next
    ((issued s x 0xC1 k))) ∧
  (∀ (s : State) x f k, Issues s x 0xC2 k f.g f.n f.p → (s.msq x).work = [] → f.z = false → f.bareR = true → ((s.msq x).slot k).spec.stack
    = [] → 0x20000000 ≤ s.get (Fld.MSQ_CKBASE_BASE x) * 2 ^ 12 → s.get (Fld.MSQ_CKBASE_BASE x) * 2 ^ 12 + 4096 ≤ 0x20800000 → exec (.chkpt
    x f) s = .next ((issued s x 0xC2 k).setMsq x { (issued s x 0xC2 k).msq x with staged := (s.msq x).staged ++ [.chkpt] })) ∧
  (∀ (s : State) x f k, Issues s x 0xC2 k f.g f.n f.p → f.z = false → f.bareR = true → ((s.msq x).slot k).spec.stack ≠ [] → exec (.chkpt x
    f) s = .next ((s.progError x ((s.msq x).slot k).spec.pc errOperand).advance x))

/-- R179 to R181: a Sapwood routine starts at its table entry; RDREG reads at issue and WRREG stages its write. -/
def Obligations.WindowInstructions : Prop :=
  (∀ (s : State) x f k, Issues s x 0xE0 k f.g f.n f.p → (s.msq x).work = [] → f.z = false → writable f.rd = true → readable f.rs1 = true →
    readable f.rs2 = true → f.i = false → f.ib 6 26 = 0 → (mget (fun _ => 0) (s.msq x).ucs.sapTab (f.ib 0 6)).testBit 15 = true → ∃ t,
    exec (.ext x f) s = .next t ∧ (t.msq x).micro.on = true ∧ (t.msq x).micro.cap = true ∧ (t.msq x).micro.upc = (mget (fun _ => 0) (s.msq
    x).ucs.sapTab (f.ib 0 6)) % 2 ^ 15 ∧ (t.msq x).micro.irl = f.imm ∧ (t.msq x).micro.opa = ((s.msq x).slot k).spec.reg f.rs1.toNat ∧
    (t.msq x).micro.opb = ((s.msq x).slot k).spec.reg f.rs2.toNat ∧ (t.msq x).micro.tpc = ((s.msq x).slot k).spec.pc ∧ Keeps [.msq] [] s
    t) ∧
  (∀ (s : State) x f k, Issues s x 0xE0 k f.g f.n f.p → f.z = false → writable f.rd = true → readable f.rs1 = true → readable f.rs2 = true
    → f.i = false → f.ib 6 26 = 0 → (mget (fun _ => 0) (s.msq x).ucs.sapTab (f.ib 0 6)).testBit 15 = false → exec (.ext x f) s = .next
    ((s.progError x ((s.msq x).slot k).spec.pc errIllegal).advance x)) ∧
  (∀ (s : State) x f k a, Issues s x 0xE1 k f.g f.n f.p → f.z = false → writable f.rd = true → f.rs1 = 0 → f.rs2 = 0 → f.i = false → f.ib
    12 20 = 0 → windowRead x (f.ib 0 12) = some a → exec (.rdreg x f) s = .next ((((issued s x 0xE1 k).regRead (msqInit x) a).2.setSpec x
    k ((past ((s.msq x).slot k).spec).setReg f.rd.toNat ((issued s x 0xE1 k).regRead (msqInit x) a).1)).advance x)) ∧
  (∀ (s : State) x f k, Issues s x 0xE1 k f.g f.n f.p → f.z = false → writable f.rd = true → f.rs1 = 0 → f.rs2 = 0 → f.i = false → f.ib 12
    20 = 0 → windowRead x (f.ib 0 12) = none → exec (.rdreg x f) s = .next ((s.progError x ((s.msq x).slot k).spec.pc errWindow).advance
    x)) ∧
  (∀ (s : State) x f k a, Issues s x 0xE2 k f.g f.n f.p → (s.msq x).work = [] → f.z = false → f.rd = 0 → readable f.rs1 = true → f.rs2 = 0
    → f.i = false → f.ib 12 20 = 0 → s.windowWrite x (f.ib 0 12) (((s.msq x).slot k).spec.reg f.rs1.toNat) = some a → exec (.wrreg x f) s
    = .next ((issued s x 0xE2 k).setMsq x
    { (issued s x 0xE2 k).msq x with staged := (s.msq x).staged ++ [.wrreg a (((s.msq x).slot k).spec.reg f.rs1.toNat)] })) ∧
  (∀ (s : State) x f k, Issues s x 0xE2 k f.g f.n f.p → f.z = false → f.rd = 0 → readable f.rs1 = true → f.rs2 = 0 → f.i = false → f.ib 12
    20 = 0 → s.windowWrite x (f.ib 0 12) (((s.msq x).slot k).spec.reg f.rs1.toNat) = none → exec (.wrreg x f) s = .next ((s.progError x
    ((s.msq x).slot k).spec.pc errWindow).advance x))

/-- R239, R243 to R250, R257: the micro-ops that move the micro-address. The patch comparators and the reserved addresses are in uNext. -/
def Obligations.MicroFlow : Prop :=
  (∀ (s : State) x  k u n, Runs s x k u → uNext (s.msq x) u.cap true (u.upc + 1) = .ok n → exec (.uopNop x) s = .next (s.setMicro x
    (stepped u n))) ∧
  (∀ (s : State) x target k u n, Runs s x k u → uNext (s.msq x) u.cap false target.toNat = .ok n → exec (.uopBr x target) s = .next
    (s.setMicro x (stepped u n))) ∧
  (∀ (s : State) x cond target k u n, Runs s x k u → uopCond cond.toNat u.z u.n u.c u.e (u.guardTrue ((s.msq x).slot k).spec) = some true
    → uNext (s.msq x) u.cap false target.toNat = .ok n → exec (.uopBrc x cond target) s = .next (s.setMicro x (stepped u n))) ∧
  (∀ (s : State) x cond target k u n, Runs s x k u → uopCond cond.toNat u.z u.n u.c u.e (u.guardTrue ((s.msq x).slot k).spec) = some false
    → uNext (s.msq x) u.cap true (u.upc + 1) = .ok n → exec (.uopBrc x cond target) s = .next (s.setMicro x (stepped u n))) ∧
  (∀ (s : State) x cond target k u, Runs s x k u → uopCond cond.toNat u.z u.n u.c u.e (u.guardTrue ((s.msq x).slot k).spec) = none → exec
    (.uopBrc x cond target) s = .next (s.progError x (s.msq x).micro.tpc errIllegal)) ∧
  (∀ (s : State) x target k u n, Runs s x k u → u.ustack.length < 4 → uNext (s.msq x) u.cap false target.toNat = .ok n → exec (.uopCall x
    target) s = .next (s.setMicro x (stepped { u with ustack := (u.upc + 1) :: u.ustack } n))) ∧
  (∀ (s : State) x target k u, Runs s x k u → 4 ≤ u.ustack.length → exec (.uopCall x target) s = .next (s.progError x (s.msq x).micro.tpc
    errStack)) ∧
  (∀ (s : State) x k u r l n, Runs s x k u → u.ustack = r :: l → uNext (s.msq x) u.cap false r = .ok n → exec (.uopRet x) s = .next
    (s.setMicro x (stepped { u with ustack := l } n))) ∧
  (∀ (s : State) x k u, Runs s x k u → u.ustack = [] → exec (.uopRet x) s = .next (s.progError x (s.msq x).micro.tpc errStack)) ∧
  (∀ (s : State) x k u n, Runs s x k u → (mget (fun _ => 0) (s.msq x).ucs.sapTab (u.irl.toNat % 64)).testBit 15 = true → uNext (s.msq x)
    true false ((mget (fun _ => 0) (s.msq x).ucs.sapTab (u.irl.toNat % 64)) % 2 ^ 15) = .ok n → exec (.uopExtd x) s = .next (s.setMicro x
    (stepped { u with cap := true } n))) ∧
  (∀ (s : State) x k u, Runs s x k u → (mget (fun _ => 0) (s.msq x).ucs.sapTab (u.irl.toNat % 64)).testBit 15 = false → exec (.uopExtd x)
    s = .next (s.progError x (s.msq x).micro.tpc errIllegal)) ∧
  (∀ (s : State) x  k u n, Runs s x k u → uNext (s.msq x) u.cap true (u.upc + 1) = .ok n → exec (.uopYield x) s = .next (s.setMicro x
    { u with upc := n, steps := 0 })) ∧
  (∀ (s : State) x imm k u, Runs s x k u → exec (.uopTrap x imm) s = .next (s.progError x (s.msq x).micro.tpc (imm.toNat % 2 ^ 8))) ∧
  (∀ (s : State) x k u n, s.actOk x = true → (s.msq x).running = some k → (s.msq x).sqWait = false → (s.msq x).wait = none → (s.msq
    x).micro.on = false → Runs (s.startRoutine x) x k u → uNext ((s.startRoutine x).msq x) u.cap true (u.upc + 1) = .ok n → exec (.uopNop
    x) s = .next ((s.startRoutine x).setMicro x (stepped u n)))

/-- R237, R239: the micro-ops that compute. uRead and uWrite are the micro-registers with their shadows. -/
def Obligations.MicroArithmetic : Prop :=
  (∀ (s : State) x m k u v a b n, Runs s x k u → uRead u ((s.msq x).slot k).spec m.a.toNat = .ok a → uRead u ((s.msq x).slot k).spec
    m.b.toNat = .ok b → uWrite u m.d.toNat (a + b) = .ok v → uNext (s.msq x) u.cap true (u.upc + 1) = .ok n → exec (.uopAdd x m) s = .next
    (s.setMicro x (stepped v n))) ∧
  (∀ (s : State) x m k u v a b n, Runs s x k u → uRead u ((s.msq x).slot k).spec m.a.toNat = .ok a → uRead u ((s.msq x).slot k).spec
    m.b.toNat = .ok b → uWrite u m.d.toNat (a - b) = .ok v → uNext (s.msq x) u.cap true (u.upc + 1) = .ok n → exec (.uopSub x m) s = .next
    (s.setMicro x (stepped v n))) ∧
  (∀ (s : State) x m k u v a b n, Runs s x k u → uRead u ((s.msq x).slot k).spec m.a.toNat = .ok a → uRead u ((s.msq x).slot k).spec
    m.b.toNat = .ok b → uWrite u m.d.toNat (a &&& b) = .ok v → uNext (s.msq x) u.cap true (u.upc + 1) = .ok n → exec (.uopAnd x m) s =
    .next (s.setMicro x (stepped v n))) ∧
  (∀ (s : State) x m k u v a b n, Runs s x k u → uRead u ((s.msq x).slot k).spec m.a.toNat = .ok a → uRead u ((s.msq x).slot k).spec
    m.b.toNat = .ok b → uWrite u m.d.toNat (a ||| b) = .ok v → uNext (s.msq x) u.cap true (u.upc + 1) = .ok n → exec (.uopOr x m) s =
    .next (s.setMicro x (stepped v n))) ∧
  (∀ (s : State) x m k u v a b n, Runs s x k u → uRead u ((s.msq x).slot k).spec m.a.toNat = .ok a → uRead u ((s.msq x).slot k).spec
    m.b.toNat = .ok b → uWrite u m.d.toNat (a ^^^ b) = .ok v → uNext (s.msq x) u.cap true (u.upc + 1) = .ok n → exec (.uopXor x m) s =
    .next (s.setMicro x (stepped v n))) ∧
  (∀ (s : State) x m k u v a b n, Runs s x k u → uRead u ((s.msq x).slot k).spec m.a.toNat = .ok a → uRead u ((s.msq x).slot k).spec
    m.b.toNat = .ok b → uWrite u m.d.toNat (a <<< (b.toNat % 32)) = .ok v → uNext (s.msq x) u.cap true (u.upc + 1) = .ok n → exec (.uopShl
    x m) s = .next (s.setMicro x (stepped v n))) ∧
  (∀ (s : State) x m k u v a b n, Runs s x k u → uRead u ((s.msq x).slot k).spec m.a.toNat = .ok a → uRead u ((s.msq x).slot k).spec
    m.b.toNat = .ok b → uWrite u m.d.toNat (a >>> (b.toNat % 32)) = .ok v → uNext (s.msq x) u.cap true (u.upc + 1) = .ok n → exec (.uopShr
    x m) s = .next (s.setMicro x (stepped v n))) ∧
  (∀ (s : State) x m k u v a b n, Runs s x k u → uRead u ((s.msq x).slot k).spec m.a.toNat = .ok a → uRead u ((s.msq x).slot k).spec
    m.b.toNat = .ok b → uWrite u m.d.toNat (a.sshiftRight (b.toNat % 32)) = .ok v → uNext (s.msq x) u.cap true (u.upc + 1) = .ok n → exec
    (.uopSar x m) s = .next (s.setMicro x (stepped v n))) ∧
  (∀ (s : State) x m k u v a b n, Runs s x k u → uRead u ((s.msq x).slot k).spec m.a.toNat = .ok a → uRead u ((s.msq x).slot k).spec
    m.b.toNat = .ok b → uWrite u m.d.toNat (if a.toNat < b.toNat then a else b) = .ok v → uNext (s.msq x) u.cap true (u.upc + 1) = .ok n →
    exec (.uopMin x m) s = .next (s.setMicro x (stepped v n))) ∧
  (∀ (s : State) x m k u v a b n, Runs s x k u → uRead u ((s.msq x).slot k).spec m.a.toNat = .ok a → uRead u ((s.msq x).slot k).spec
    m.b.toNat = .ok b → uWrite u m.d.toNat (if a.toNat < b.toNat then b else a) = .ok v → uNext (s.msq x) u.cap true (u.upc + 1) = .ok n →
    exec (.uopMax x m) s = .next (s.setMicro x (stepped v n))) ∧
  (∀ (s : State) x m k u v a b n, Runs s x k u → uRead u ((s.msq x).slot k).spec m.a.toNat = .ok a → uRead u ((s.msq x).slot k).spec
    m.b.toNat = .ok b → uWrite u m.d.toNat (BitVec.ofNat 32 (a.toNat % 2 ^ 16 * (b.toNat % 2 ^ 16))) = .ok v → uNext (s.msq x) u.cap true
    (u.upc + 1) = .ok n → exec (.uopMul x m) s = .next (s.setMicro x (stepped v n))) ∧
  (∀ (s : State) x m k u v a b n, Runs s x k u → uRead u ((s.msq x).slot k).spec m.a.toNat = .ok a → uRead u ((s.msq x).slot k).spec
    m.b.toNat = .ok b → uWrite u m.d.toNat (if u.z then b else a) = .ok v → uNext (s.msq x) u.cap true (u.upc + 1) = .ok n → exec (.uopSel
    x m) s = .next (s.setMicro x (stepped v n))) ∧
  (∀ (s : State) x m k u v a b n, Runs s x k u → uRead u ((s.msq x).slot k).spec m.a.toNat = .ok a → uRead u ((s.msq x).slot k).spec
    m.b.toNat = .ok b → uWrite u m.d.toNat (BitVec.ofNat 32 (nbits a.toNat (nbits b.toNat 0 5) (nbits b.toNat 5 5 + 1))) = .ok v → uNext
    (s.msq x) u.cap true (u.upc + 1) = .ok n → exec (.uopBitx x m) s = .next (s.setMicro x (stepped v n))) ∧
  (∀ (s : State) x m k u e, Runs s x k u → uRead u ((s.msq x).slot k).spec m.a.toNat = .error e → exec (.uopAdd x m) s = .next (s.uFail x
    e)) ∧
  (∀ (s : State) x d imm k u v a n, Runs s x k u → uRead u ((s.msq x).slot k).spec d.toNat = .ok a → uWrite u d.toNat (a + imm.signExtend
    32) = .ok v → uNext (s.msq x) u.cap true (u.upc + 1) = .ok n → exec (.uopAddi x d imm) s = .next (s.setMicro x (stepped v n))) ∧
  (∀ (s : State) x d imm k u v n, Runs s x k u → uWrite u d.toNat (imm.zeroExtend 32) = .ok v → uNext (s.msq x) u.cap true (u.upc + 1) =
    .ok n → exec (.uopLdi x d imm) s = .next (s.setMicro x (stepped v n))) ∧
  (∀ (s : State) x d imm k u v a n, Runs s x k u → uRead u ((s.msq x).slot k).spec d.toNat = .ok a → uWrite u d.toNat (wput a 19 13
    imm.toNat) = .ok v → uNext (s.msq x) u.cap true (u.upc + 1) = .ok n → exec (.uopLui x d imm) s = .next (s.setMicro x (stepped v n))) ∧
  (∀ (s : State) x m k u v a n, Runs s x k u → uRead u ((s.msq x).slot k).spec m.a.toNat = .ok a → uWrite u m.d.toNat a = .ok v → uNext
    (s.msq x) u.cap true (u.upc + 1) = .ok n → exec (.uopMov x m) s = .next (s.setMicro x (stepped v n))) ∧
  (∀ (s : State) x m k u a b n, Runs s x k u → uRead u ((s.msq x).slot k).spec m.a.toNat = .ok a → uRead u ((s.msq x).slot k).spec
    m.b.toNat = .ok b → uNext (s.msq x) u.cap true (u.upc + 1) = .ok n → exec (.uopCmp x m) s = .next (s.setMicro x (stepped
    { u with z := a == b, n := (a - b).msb, c := decide (a.toNat < b.toNat) } n))) ∧
  (∀ (s : State) x m k u v n, Runs s x k u → uWrite u m.d.toNat (BitVec.ofNat 32 s.angle) = .ok v → uNext (s.msq x) u.cap true (u.upc + 1)
    = .ok n → exec (.uopTick x m) s = .next (s.setMicro x (stepped v n))) ∧
  (∀ (s : State) x imm k u n, Runs s x k u → uNext (s.msq x) u.cap true (u.upc + 1) = .ok n → exec (.uopTestev x imm) s = .next
    (s.setMicro x (stepped { u with e := (s.setMicro x u).uEvents x &&& imm.toNat != 0 } n)))

/-- R239, R251 to R253: shadowed effects wait for DISP, COMMIT or HALTS, which apply them in issue order; R257 to R260: what capability
mode forbids traps. -/
def Obligations.MicroShadows : Prop :=
  (∀ (s : State) x imm k u v n, Runs s x k u → uShadow u (.setflg (imm.toNat % 16)) = .ok v → uNext (s.msq x) u.cap true (u.upc + 1) = .ok
    n → exec (.uopSetflg x imm) s = .next (s.setMicro x (stepped v n))) ∧
  (∀ (s : State) x imm k u v n, Runs s x k u → uShadow u (.clrflg (imm.toNat % 16)) = .ok v → uNext (s.msq x) u.cap true (u.upc + 1) = .ok
    n → exec (.uopClrflg x imm) s = .next (s.setMicro x (stepped v n))) ∧
  (∀ (s : State) x m k u a b v n, Runs s x k u → uRead u ((s.msq x).slot k).spec m.a.toNat = .ok a → uRead u ((s.msq x).slot k).spec
    m.b.toNat = .ok b → (u.cap && !s.inSapWin x a.toNat) = false → uShadow u (.sram a.toNat b) = .ok v → uNext (s.msq x) u.cap true (u.upc
    + 1) = .ok n → exec (.uopSts x m) s = .next (s.setMicro x (stepped v n))) ∧
  (∀ (s : State) x m k u a b v n, Runs s x k u → u.cap = false → uRead u ((s.msq x).slot k).spec m.a.toNat = .ok a → uRead u ((s.msq
    x).slot k).spec m.b.toNat = .ok b → uShadow u (.wrr a.toNat b) = .ok v → uNext (s.msq x) u.cap true (u.upc + 1) = .ok n → exec
    (.uopWrr x m) s = .next (s.setMicro x (stepped v n))) ∧
  (∀ (s : State) x m k u a b v n, Runs s x k u → u.cap = false → uRead u ((s.msq x).slot k).spec m.a.toNat = .ok a → uRead u ((s.msq
    x).slot k).spec m.b.toNat = .ok b → uShadow u (.tag (m.d.toNat % 2) a b) = .ok v → uNext (s.msq x) u.cap true (u.upc + 1) = .ok n →
    exec (.uopTagld x m) s = .next (s.setMicro x (stepped v n))) ∧
  (∀ (s : State) x m k u a d v n, Runs s x k u → u.cap = false → uRead u ((s.msq x).slot k).spec m.a.toNat = .ok a → uRead u ((s.msq
    x).slot k).spec m.d.toNat = .ok d → 0x20 ≤ m.d.toNat → m.d.toNat ≤ 0x27 → uShadow u (.bufa m.d.toNat (d + a)) = .ok v → uNext (s.msq
    x) u.cap true (u.upc + 1) = .ok n → exec (.uopBufa x m) s = .next (s.setMicro x (stepped v n))) ∧
  (∀ (s : State) x m k u a v n, Runs s x k u → u.cap = false → uRead u ((s.msq x).slot k).spec m.a.toNat = .ok a → uShadow u (.ctxp
    (a.toNat % 2 ^ 8) (a.getLsbD 8)) = .ok v → uNext (s.msq x) u.cap true (u.upc + 1) = .ok n → exec (.uopCtxp x m) s = .next (s.setMicro
    x (stepped v n))) ∧
  (∀ (s : State) x  k u v n, Runs s x k u → u.cap = false → uShadow u (.ckwr) = .ok v → uNext (s.msq x) u.cap true (u.upc + 1) = .ok n →
    exec (.uopCkwr x) s = .next (s.setMicro x (stepped v n))) ∧
  (∀ (s : State) x m k u a b v n, Runs s x k u → uRead u ((s.msq x).slot k).spec m.a.toNat = .ok a → uRead u ((s.msq x).slot k).spec
    m.b.toNat = .ok b → uShadow u (.rbks (a.toNat % 256) b.toNat) = .ok v → uNext (s.msq x) u.cap true (u.upc + 1) = .ok n → exec
    (.uopRbks x m) s = .next (s.setMicro x (stepped v n))) ∧
  (∀ (s : State) x k u t0 n, Runs s x k u → t0 = (s.setMicro x { u with steps := 0 }).applyShadows x k → (t0.msq x).micro.on = true →
    (t0.msq x).micro.fresh = false → uNext (t0.msq x) (t0.msq x).micro.cap true ((t0.msq x).micro.upc + 1) = .ok n → exec (.uopCommit x) s
    = .next (t0.setMicro x { (t0.msq x).micro with upc := n })) ∧
  (∀ (s : State) x k u v t0 n, Runs s x k u → u.cap = false → uShadow u .halts = .ok v → t0 = (s.setMicro x (counted v)).applyShadows x k
    → (t0.msq x).micro.on = true → (t0.msq x).micro.fresh = false → uNext (t0.msq x) (t0.msq x).micro.cap true ((t0.msq x).micro.upc + 1)
    = .ok n → exec (.uopHalts x) s = .next (t0.setMicro x { (t0.msq x).micro with upc := n })) ∧
  (∀ (s : State) x k u t0 t1, Runs s x k u → t0 = ((s.setMicro x (counted u)).applyShadows x k) → t1 = ((t0.setSpec x k
    { ((t0.msq x).slot k).spec with pc := (((t0.msq x).slot k).spec.pc + 8) % 2 ^ 32 }).setMicro x
    { Micro.idle with events := (t0.msq x).micro.events }).startRoutine x → (t1.msq x).micro.on = true → (t1.msq x).micro.fresh = true →
    exec (.uopDisp x) s = .next (t1)) ∧
  (∀ (s : State) x m k u, Runs s x k u → u.cap = true → exec (.uopChset x m) s = .next (s.capTrap x 7 (s.msq x).micro.upc (s.msq
    x).micro.tpc))

/-- R239, R241: the micro-ops that stall, and the end of a stall. -/
def Obligations.MicroStalls : Prop :=
  (∀ (s : State) x imm k u n, Runs s x k u → uNext (s.msq x) u.cap true (u.upc + 1) = .ok n → exec (.uopWait x imm) s = .next (s.setMicro
    x (stepped { u with stall := some (.wait imm.toNat) } n))) ∧
  (∀ (s : State) x m k u a v n, Runs s x k u → uRead u ((s.msq x).slot k).spec m.a.toNat = .ok a → (u.cap && !s.inSapWin x a.toNat) =
    false → uWrite (counted u) m.d.toNat 0#32 = .ok v → uNext (s.msq x) u.cap true (u.upc + 1) = .ok n → exec (.uopLds x m) s = .next
    (s.setMicro x (stepped { u with stall := some (.lds m.d.toNat a.toNat) } n))) ∧
  (∀ (s : State) x m k u a b v n, Runs s x k u → uRead u ((s.msq x).slot k).spec m.a.toNat = .ok a → uRead u ((s.msq x).slot k).spec
    m.b.toNat = .ok b → uWrite (counted u) m.d.toNat 0#32 = .ok v → uNext (s.msq x) u.cap true (u.upc + 1) = .ok n → exec (.uopLdz x m) s
    = .next (s.setMicro x (stepped { u with stall := some (.ldz m.d.toNat (a.toNat % 64) (b.toNat % 2)) } n))) ∧
  (∀ (s : State) x m k u a v n, Runs s x k u → uRead u ((s.msq x).slot k).spec m.a.toNat = .ok a → s.ptOk x (a.toNat / 32) = true → uWrite
    (counted u) m.d.toNat 0#32 = .ok v → uNext (s.msq x) u.cap true (u.upc + 1) = .ok n → exec (.uopLdpt x m) s = .next (s.setMicro x
    (stepped { u with stall := some (.ldpt m.d.toNat a.toNat) } n))) ∧
  (∀ (s : State) x m k u a v n, Runs s x k u → u.cap = false → uRead u ((s.msq x).slot k).spec m.a.toNat = .ok a → uWrite (counted u)
    m.d.toNat 0#32 = .ok v → uNext (s.msq x) u.cap true (u.upc + 1) = .ok n → exec (.uopRdr x m) s = .next (s.setMicro x (stepped
    { u with stall := some (.rdr m.d.toNat a.toNat) } n))) ∧
  (∀ (s : State) x m k u a v n, Runs s x k u → uRead u ((s.msq x).slot k).spec m.a.toNat = .ok a → uWrite (counted u) m.d.toNat 0#32 = .ok
    v → uNext (s.msq x) u.cap true (u.upc + 1) = .ok n → exec (.uopChwt x m) s = .next (s.setMicro x (stepped
    { u with stall := some (.chwt m.d.toNat (a.toNat % 2)) } n))) ∧
  (∀ (s : State) x m k u a v n, Runs s x k u → uRead u ((s.msq x).slot k).spec m.a.toNat = .ok a → uWrite (counted u) m.d.toNat 0#32 = .ok
    v → uNext (s.msq x) u.cap true (u.upc + 1) = .ok n → exec (.uopLpwt x m) s = .next (s.setMicro x (stepped
    { u with stall := some (.lpwt m.d.toNat a.toNat) } n))) ∧
  (∀ (s : State) x m k u a v n, Runs s x k u → uRead u ((s.msq x).slot k).spec m.a.toNat = .ok a → uWrite (counted u) m.d.toNat 0#32 = .ok
    v → uNext (s.msq x) u.cap true (u.upc + 1) = .ok n → exec (.uopPlkr x m) s = .next (s.setMicro x (stepped
    { u with stall := some (.plkr m.d.toNat a.toNat) } n))) ∧
  (∀ (s : State) x m k u a v n, Runs s x k u → u.cap = false → uRead u ((s.msq x).slot k).spec m.a.toNat = .ok a → uWrite (counted u)
    m.d.toNat 0#32 = .ok v → uNext (s.msq x) u.cap true (u.upc + 1) = .ok n → exec (.uopCtxb x m) s = .next (s.setMicro x (stepped
    { u with stall := some (.ctxb m.d.toNat (a.toNat % 2 ^ 10)) } n))) ∧
  (∀ (s : State) x reply k q r, (s.msq x).running = some k → (s.msq x).micro.stall = some (.plkr r q) → s.flag (Fld.PLK_REQ_GO x) = false
    → 0x40 ≤ r → r ≤ 0x4F → exec (.microStallEnd x reply) s = .next (s.setMicro x
    { (s.msq x).micro with stall := none, t := mset (fun _ => (0 : Word)) (s.msq x).micro.t (r - 0x40) reply })) ∧
  (∀ (s : State) x reply k q r v, (s.msq x).running = some k → (s.msq x).micro.stall = some (.lds r q) → shadowSram (s.msq
    x).micro.shadows q = some v → 0x40 ≤ r → r ≤ 0x4F → exec (.microStallEnd x reply) s = .next (s.setMicro x
    { (s.msq x).micro with stall := none, t := mset (fun _ => (0 : Word)) (s.msq x).micro.t (r - 0x40) v })) ∧
  (∀ (s : State) x reply k mask, (s.msq x).running = some k → (s.msq x).micro.stall = some (.wait mask) → s.uEvents x &&& mask ≠ 0 → exec
    (.microStallEnd x reply) s = .next (s.setMicro x
    { (s.msq x).micro with stall := none, events := (s.msq x).micro.events &&& (127 - mask % 128) })) ∧
  (∀ (s : State) x reply k mask, (s.msq x).running = some k → (s.msq x).micro.stall = some (.wait mask) → s.uEvents x &&& mask = 0 → exec
    (.microStallEnd x reply) s = .next s)

/-- R239: the micro-ops that act on other units, outside capability mode. -/
def Obligations.MicroUnits : Prop :=
  (∀ (s : State) x m k u a b t0 n, Runs s x k u → uRead u ((s.msq x).slot k).spec m.a.toNat = .ok a → uRead u ((s.msq x).slot k).spec
    m.b.toNat = .ok b → t0 = ((s.setMicro x (counted u)).setCmps x (mput (s.cmps x) (a.toNat % 64)
    { target := b.toNat, dest := m.d.toNat % 8, hit := false })) → uNext (t0.msq x) u.cap true (u.upc + 1) = .ok n → exec (.uopArm x m) s
    = .next (t0.setMicro x { (t0.msq x).micro with upc := n })) ∧
  (∀ (s : State) x m k u a c t0 n, Runs s x k u → uRead u ((s.msq x).slot k).spec m.a.toNat = .ok a → mfind (s.cmps x) (a.toNat % 64) =
    some c → c.hit = false → t0 = ((s.setMicro x (counted u)).setCmps x (mdel (s.cmps x) (a.toNat % 64))) → uNext (t0.msq x) u.cap true
    (u.upc + 1) = .ok n → exec (.uopDisarm x m) s = .next (t0.setMicro x { (t0.msq x).micro with upc := n })) ∧
  (∀ (s : State) x m k u  t0 n, Runs s x k u → u.cap = false → t0 = ((s.setMicro x (counted u)).chSet (chanOf x (m.d.getLsbD 0))
    ((List.range 8).map (fun i => mget (fun _ => (0 : Word)) u.t i))) → uNext (t0.msq x) u.cap true (u.upc + 1) = .ok n → exec (.uopChset
    x m) s = .next (t0.setMicro x { (t0.msq x).micro with upc := n })) ∧
  (∀ (s : State) x m k u a t0 n, Runs s x k u → u.cap = false → uRead u ((s.msq x).slot k).spec m.a.toNat = .ok a → t0 = ((s.setMicro x
    (counted u)).chGo (chanOf x (m.d.getLsbD 0)) (a.toNat % 64)) → uNext (t0.msq x) u.cap true (u.upc + 1) = .ok n → exec (.uopChgo x m) s
    = .next (t0.setMicro x { (t0.msq x).micro with upc := n })) ∧
  (∀ (s : State) x m k u a b t0 n, Runs s x k u → u.cap = false → uRead u ((s.msq x).slot k).spec m.a.toNat = .ok a → uRead u ((s.msq
    x).slot k).spec m.b.toNat = .ok b → t0 = ((s.setMicro x (counted u)).addGate x
    { kind := 0, ch := b2n (m.d.getLsbD 0), opens := a.toNat % 64, closes := b.toNat % 64, isOpen := false, since := 0 }) → uNext (t0.msq
    x) u.cap true (u.upc + 1) = .ok n → exec (.uopGatew x m) s = .next (t0.setMicro x { (t0.msq x).micro with upc := n })) ∧
  (∀ (s : State) x m k u a b t0 n, Runs s x k u → u.cap = false → uRead u ((s.msq x).slot k).spec m.a.toNat = .ok a → uRead u ((s.msq
    x).slot k).spec m.b.toNat = .ok b → t0 = ((s.setMicro x (counted u)).addGate x
    { kind := 1, ch := b2n (m.d.getLsbD 0), opens := a.toNat % 64, closes := b.toNat % 64, isOpen := false, since := 0 }) → uNext (t0.msq
    x) u.cap true (u.upc + 1) = .ok n → exec (.uopGatel x m) s = .next (t0.setMicro x { (t0.msq x).micro with upc := n })) ∧
  (∀ (s : State) x m k u a b t0 n, Runs s x k u → u.cap = false → uRead u ((s.msq x).slot k).spec m.a.toNat = .ok a → uRead u ((s.msq
    x).slot k).spec m.b.toNat = .ok b → t0 = ((s.setMicro x (counted u)).addGate x
    { kind := 2, ch := b2n (m.d.getLsbD 0), opens := a.toNat % 64, closes := b.toNat % 64, isOpen := false, since := 0 }) → uNext (t0.msq
    x) u.cap true (u.upc + 1) = .ok n → exec (.uopGatee x m) s = .next (t0.setMicro x { (t0.msq x).micro with upc := n })) ∧
  (∀ (s : State) x m k u a b t0 n, Runs s x k u → u.cap = false → uRead u ((s.msq x).slot k).spec m.a.toNat = .ok a → uRead u ((s.msq
    x).slot k).spec m.b.toNat = .ok b → t0 = ((s.setMicro x (counted u)).lpeCommand x (m.d.toNat % 8) a b) → (t0.msq x).micro.on = true →
    (t0.msq x).micro.fresh = false → uNext (t0.msq x) (t0.msq x).micro.cap true ((t0.msq x).micro.upc + 1) = .ok n → exec (.uopLpcmd x m)
    s = .next (t0.setMicro x { (t0.msq x).micro with upc := n })) ∧
  (∀ (s : State) x m k u a t0 n, Runs s x k u → u.cap = false → uRead u ((s.msq x).slot k).spec m.a.toNat = .ok a → t0 = ((s.setMicro x
    (counted u)).headSelect x (m.d.getLsbD 0) (a.toNat % 16)) → uNext (t0.msq x) u.cap true (u.upc + 1) = .ok n → exec (.uopHdsel x m) s =
    .next (t0.setMicro x { (t0.msq x).micro with upc := n })) ∧
  (∀ (s : State) x m k u a b t0 n, Runs s x k u → u.cap = false → uRead u ((s.msq x).slot k).spec m.a.toNat = .ok a → uRead u ((s.msq
    x).slot k).spec m.b.toNat = .ok b → t0 = ((s.setMicro x (counted u)).plkWrite x (a.toNat % 128) (b.toNat % 2 ^ 16)) → uNext (t0.msq x)
    u.cap true (u.upc + 1) = .ok n → exec (.uopPlkw x m) s = .next (t0.setMicro x { (t0.msq x).micro with upc := n })) ∧
  (∀ (s : State) x m k u a t0 n, Runs s x k u → u.cap = false → uRead u ((s.msq x).slot k).spec m.a.toNat = .ok a → t0 = (((s.setMicro x
    (counted u)).setMsq x (((s.setMicro x (counted u)).msq x).setPos (m.d.getLsbD 0)
    { ((s.setMicro x (counted u)).msq x).pos (m.d.getLsbD 0) with heat := a.toNat % 4, hpow := some (nbits a.toNat 16 12) })).setHeaters
    x) → uNext (t0.msq x) u.cap true (u.upc + 1) = .ok n → exec (.uopHtr x m) s = .next (t0.setMicro x
    { (t0.msq x).micro with upc := n })) ∧
  (∀ (s : State) x m k u a t0 n, Runs s x k u → u.cap = false → uRead u ((s.msq x).slot k).spec m.a.toNat = .ok a → t0 = (((s.setMicro x
    (counted u)).setMsq x (((s.setMicro x (counted u)).msq x).setPos (m.d.getLsbD 0)
    { ((s.setMicro x (counted u)).msq x).pos (m.d.getLsbD 0) with assist := a.getLsbD 0, setp := some (nbits a.toNat 16 12) })).restLasers
    x) → uNext (t0.msq x) u.cap true (u.upc + 1) = .ok n → exec (.uopAsst x m) s = .next (t0.setMicro x
    { (t0.msq x).micro with upc := n })) ∧
  (∀ (s : State) x m k u a b t0 n, Runs s x k u → u.cap = false → uRead u ((s.msq x).slot k).spec m.a.toNat = .ok a → uRead u ((s.msq
    x).slot k).spec m.b.toNat = .ok b → t0 = ((s.setMicro x (counted u)).put (Fld.WRP_WGLIM_PESLIM x) (clampN 20 200 b.toNat)) → uNext
    (t0.msq x) u.cap true (u.upc + 1) = .ok n → exec (.uopWglim x m) s = .next (t0.setMicro x { (t0.msq x).micro with upc := n })) ∧
  (∀ (s : State) x m k u  t0 n, Runs s x k u → u.cap = false → t0 = ((s.setMicro x (counted u)).selectKey x ((s.msq x).slot k).spec.ctx) →
    uNext (t0.msq x) u.cap true (u.upc + 1) = .ok n → exec (.uopKeysel x m) s = .next (t0.setMicro x { (t0.msq x).micro with upc := n })) ∧
  (∀ (s : State) x m k u a t0 n, Runs s x k u → u.cap = false → uRead u ((s.msq x).slot k).spec m.a.toNat = .ok a → t0 = ((s.setMicro x
    (counted u)).setBpr (chanOf x (m.d.getLsbD 0)) a) → uNext (t0.msq x) u.cap true (u.upc + 1) = .ok n → exec (.uopBclk x m) s = .next
    (t0.setMicro x { (t0.msq x).micro with upc := n }))

/-- R142 to R147, R159, R171, R172, R184: what ends the instructions in progress, with no other in the work list. -/
def Obligations.WorkCompletes : Prop :=
  (∀ (s : State) x w, (s.msq x).work = [w] → (s.msq x).wait = none → (s.msq x).sqWait = false → w.kind = .loadh → w.begun = true → w.done
    = false → ∃ t, exec (.positioningComplete x) s = .next t ∧ t.loaded x = true ∧ (t.la x).loading = false ∧ (t.msq x).work =
    [{ w with done := true, doneAt := s.ang.ats }] ∧ Keeps [.ang, .ch, .lpe, .mem, .msq, .plk, .rbk, .spn, .sys, .vale, .wrp] (advFields s
    x ++ modeFields) s t) ∧
  (∀ (s : State) x w c u v, (s.msq x).work = [w] → (s.msq x).wait = none → w.kind = .seek c u v → w.begun = true → w.done = false →
    s.settled x c false = true → ∃ t, exec (.positioningComplete x) s = .next t ∧ (t.msq x).work =
    [{ w with done := true, doneAt := s.ang.ats }] ∧ Keeps [.ang, .ch, .lpe, .mem, .msq, .plk, .rbk, .spn, .sys, .vale, .wrp] (advFields s
    x ++ modeFields) s t) ∧
  (∀ (s : State) x w c wr, (s.msq x).work = [w] → w.kind = .follow c wr → w.begun = true → w.done = false → s.settled x c wr = false →
    exec (.positioningComplete x) s = .next s) ∧
  (∀ (s : State) x second k ord r w, (s.msq x).running = some k → s.oldestOn x second = some (0, ord) → (s.msq x).work = [w] → w.kind =
    .media r → r.op ≠ .scan → s.bclkOk (chanOf x second) = true → (s.msq x).wait = none → s.channelQuiet (chanOf x second) ord r = true →
    ∃ t, exec (.mediaInstructionComplete x second) s = .next t ∧ ((t.msq x).slot k).spec.flags = ((s.msq x).slot k).spec.flags |||
    (s.channelEnd (chanOf x second) ord r).1 ∧ (t.msq x).micro.events.testBit (if second then 2 else 1) = true ∧ Keeps [.ang, .buf, .ch,
    .free, .lpe, .mem, .msq, .plk, .rbk, .spn, .sys, .vale, .wrp] (advFields s x ++ modeFields ++ [Fld.CH_CNTF_BUSY 0, Fld.CH_CNTF_FAIL 0,
    Fld.CH_CNTF_BUSY 1, Fld.CH_CNTF_FAIL 1, Fld.CH_CNTF_BUSY 2, Fld.CH_CNTF_FAIL 2, Fld.CH_CNTF_BUSY 3, Fld.CH_CNTF_FAIL 3,
    Fld.BUF_EV_SEGFAIL]) s t) ∧
  (∀ (s : State) x second k ord r w, (s.msq x).running = some k → s.oldestOn x second = some (0, ord) → (s.msq x).work = [w] → w.kind =
    .media r → s.channelQuiet (chanOf x second) ord r = false → exec (.mediaInstructionComplete x second) s = .next s) ∧
  (∀ (s : State) x second, (s.msq x).running = none → ∃ t, exec (.mediaInstructionComplete x second) s = .next t ∧ (t.ch (chanOf x
    second)).op = 0 ∧ Keeps [.ang, .buf, .ch, .free, .lpe, .mem, .msq, .plk, .rbk, .spn, .sys, .vale, .wrp] (advFields s x ++ modeFields
    ++ [Fld.CH_CNTF_BUSY 0, Fld.CH_CNTF_FAIL 0, Fld.CH_CNTF_BUSY 1, Fld.CH_CNTF_FAIL 1, Fld.CH_CNTF_BUSY 2, Fld.CH_CNTF_FAIL 2,
    Fld.CH_CNTF_BUSY 3, Fld.CH_CNTF_FAIL 3, Fld.BUF_EV_SEGFAIL]) s t) ∧
  (∀ (s : State) x second w c q p, (s.msq x).work = [w] → (s.msq x).wait = none → w.kind = .heat c q p → c = 2 ^ b2n second → w.begun =
    true → w.done = false → w.qmet = false → ∃ t, exec (.heaterSettled x second) s = .next t ∧ (t.msq x).work =
    [{ w with done := true, doneAt := s.ang.ats }] ∧ Keeps [.ang, .ch, .lpe, .mem, .msq, .plk, .rbk, .spn, .sys, .vale, .wrp] (advFields s
    x ++ modeFields) s t) ∧
  (∀ (s : State) x k n, (s.msq x).running = some k → (s.msq x).wait = some (.bind n) → s.bindOk x n = true → (s.msq x).work = [] → ∃ t,
    exec (.ccxBindConfirm x) s = .next t ∧ ((t.msq x).slot k).spec = { ((s.msq x).slot k).spec with ctx := n } ∧ (t.msq x).wait = none ∧
    (t.msq x).keySlot = s.keyOf n ∧ (t.msq x).micro.events = (s.msq x).micro.events ||| 64 ∧ Keeps [.ang, .ch, .lpe, .mem, .msq, .plk,
    .rbk, .spn, .sys, .vale, .wrp] (advFields s x ++ modeFields) s t) ∧
  (∀ (s : State) x k n, (s.msq x).running = some k → (s.msq x).wait = some (.bind n) → s.bindOk x n = false → ∃ t, exec (.ccxBindConfirm
    x) s = .next t ∧ ((t.msq x).slot k).st = .fault ∧ ((t.msq x).slot k).fcode = errCtx ∧ Keeps [.ang, .ch, .lpe, .mem, .msq, .plk, .rbk,
    .spn, .sys, .vale, .wrp] (advFields s x ++ modeFields) s t) ∧
  (∀ (s : State) x k ev p tmo at_, (s.msq x).running = some k → (s.msq x).wait = some (.waite ev p tmo at_) → tmo ≠ 0 → s.wedgePeriod ≠ 0
    → at_ + tmo * s.wedgePeriod ≤ s.now → (s.msq x).work = [] → ∃ t, exec (.waiteTimeout x) s = .next t ∧ ((t.msq x).slot k).spec =
    ((s.msq x).slot k).spec.setReg p 0#32 ∧ (t.msq x).wait = none ∧ Keeps [.ang, .ch, .lpe, .mem, .msq, .plk, .rbk, .sys, .vale, .wrp]
    (advFields s x) s t) ∧
  (∀ (s : State) x k ev p tmo at_, (s.msq x).running = some k → (s.msq x).wait = some (.waite ev p tmo at_) → s.now < at_ + tmo *
    s.wedgePeriod → exec (.waiteTimeout x) s = .next s) ∧
  (∀ (s : State) x k ang cmp ats, (s.msq x).running = some k → (s.msq x).wait = some (.waita ang cmp ats) → s.get (Fld.MSQ_TMO_WAITA_REV
    x) * 2 ^ 32 ≤ s.atsSince ats → ∃ t, exec (.waitaTimeout x) s = .next t ∧ ((t.msq x).slot k).st = .fault ∧ ((t.msq x).slot k).fcode =
    errWaita ∧ t.rd (Reg.MSQ_FLTPC x) = BitVec.ofNat 32 ((((s.msq x).slot k).spec.pc + 2 ^ 32 - 8) % 2 ^ 32) ∧ Keeps [.ang, .ch, .lpe,
    .mem, .msq, .plk, .rbk, .sys, .vale, .wrp] (errFields s x) s t) ∧
  (∀ (s : State) x k ang cmp ats, (s.msq x).running = some k → (s.msq x).wait = some (.waita ang cmp ats) → s.atsSince ats < s.get
    (Fld.MSQ_TMO_WAITA_REV x) * 2 ^ 32 → exec (.waitaTimeout x) s = .next s) ∧
  (∀ (s : State) x k, (s.msq x).running = some k → s.get (Fld.MSQ_TMO_SLOT_REV x) * 2 ^ 32 ≤ s.atsSince (s.msq x).lastCommitAts → ∃ t,
    exec (.slotTimeout x) s = .next t ∧ ((t.msq x).slot k).st = .fault ∧ ((t.msq x).slot k).fcode = errSlotTmo ∧ t.rd (Reg.MSQ_FLTPC x) =
    BitVec.ofNat 32 ((s.msq x).slot k).spec.pc ∧ Keeps [.ang, .ch, .lpe, .mem, .msq, .plk, .rbk, .sys, .vale, .wrp] (errFields s x) s t) ∧
  (∀ (s : State) x k, (s.msq x).running = some k → (s.msq x).micro.on = true → s.eff (byAct x Fld.UCS_USTEP_MAXA Fld.UCS_USTEP_MAXB) ≤
    (s.msq x).micro.steps → ∃ t, exec (.stepLimit x) s = .next t ∧ ((t.msq x).slot k).st = .fault ∧ ((t.msq x).slot k).fcode = errStep ∧
    t.rd (Reg.MSQ_FLTPC x) = BitVec.ofNat 32 (s.msq x).micro.tpc ∧ Keeps [.ang, .ch, .lpe, .mem, .msq, .plk, .rbk, .sys, .vale, .wrp]
    (errFields s x) s t)

/-- R193 to R200, R217, R219, R226, R234: the wedge check, the restart after a squash, the wedge watchdog and a control-store parity
error. -/
def Obligations.WedgeChecks : Prop :=
  (∀ (s : State) x wedge, s.actOk x = true → s.flag Fld.ANG_STAT_VALID = true → ¬ s.get Fld.ANG_CFG_WEDGES ≤ wedge → (s.msq x).sqCauses =
    0 → s.loaded x = false → (s.msq x).running = none → ∃ t, exec (.wedgeCheck x wedge) s = .next t ∧ (t.msq x).acp = some wedge ∧ (t.msq
    x).wgPassed = true ∧ Keeps [.ang, .apc, .buf, .bus, .ccx, .ch, .cph, .d2d, .dbg, .free, .host, .hwd, .lpe, .mem, .msq, .now, .pins,
    .plk, .pwr, .rbk, .regs, .romPar, .spn, .sys, .thm, .vale, .wrp, .xsp] [] s t) ∧
  (∀ (s : State) x wedge k a p q d, s.actOk x = true → s.flag Fld.ANG_STAT_VALID = true → ¬ s.get Fld.ANG_CFG_WEDGES ≤ wedge → (s.msq
    x).sqCauses = 0 → s.loaded x = false → (s.msq x).running = some k → (s.msq x).sqWait = false → (s.msq x).wait = none → (s.msq x).work
    = [{ mkWork (.commit 0 a p q [] d) a.pc none with begun := true }] → ∃ t, exec (.wedgeCheck x wedge) s = .next t ∧ ((t.msq x).slot
    k).comm = a ∧ (t.msq x).work = [] ∧ (t.msq x).cpos0 = p ∧ (t.msq x).cpos1 = q ∧ (t.msq x).dist = (s.msq x).dist - d ∧ Keeps [.ang,
    .apc, .buf, .bus, .ccx, .ch, .cph, .d2d, .dbg, .free, .host, .hwd, .lpe, .mem, .msq, .now, .pins, .plk, .pwr, .rbk, .regs, .romPar,
    .spn, .sys, .thm, .vale, .wrp, .xsp] [] s t) ∧
  (∀ (s : State) x wedge k, s.actOk x = true → s.flag Fld.ANG_STAT_VALID = true → ¬ s.get Fld.ANG_CFG_WEDGES ≤ wedge → (s.msq x).sqCauses
    = 0 → s.loaded x = true → s.pesValid x = false → (s.msq x).running = some k → (s.msq x).sqWait = false → ∃ t, exec (.wedgeCheck x
    wedge) s = .next t ∧ t.flag (Fld.MSQ_EV_SQUASH x) = true ∧ t.get (Fld.MSQ_SQLAST_SLOT x) = k % 16 ∧ Keeps [.ang, .apc, .buf, .bus,
    .ccx, .ch, .cph, .d2d, .dbg, .free, .host, .hwd, .lpe, .mem, .msq, .now, .pins, .plk, .pwr, .rbk, .regs, .romPar, .spn, .sys, .thm,
    .vale, .wrp, .xsp] [] s t) ∧
  (∀ (s : State) x wedge k r w v, s.actOk x = true → s.flag Fld.ANG_STAT_VALID = true → ¬ s.get Fld.ANG_CFG_WEDGES ≤ wedge → (s.msq
    x).sqCauses = 0 → s.loaded x = false → (s.msq x).running = some k → (s.msq x).sqWait = false → (s.msq x).wait = none → (s.msq x).work
    = [w, v] → w.kind = .media r → w.begun = true → w.done = false → v.kind.isCommit = true → v.begun = true → ∃ t, exec (.wedgeCheck x
    wedge) s = .next t ∧ (t.msq x).work = [w, v] ∧ ((t.msq x).slot k).comm = ((s.msq x).slot k).comm ∧ Keeps [.ang, .apc, .buf, .bus,
    .ccx, .ch, .cph, .d2d, .dbg, .free, .host, .hwd, .lpe, .mem, .msq, .now, .pins, .plk, .pwr, .rbk, .regs, .romPar, .spn, .sys, .thm,
    .vale, .wrp, .xsp] [] s t) ∧
  (∀ (s : State) x wedge k, s.actOk x = true → s.flag Fld.ANG_STAT_VALID = true → ¬ s.get Fld.ANG_CFG_WEDGES ≤ wedge → (s.msq x).running =
    some k → (s.msq x).sqWait = true → s.causesCleared x = false → s.loaded x = true → s.pesValid x = false → ∃ t, exec (.wedgeCheck x
    wedge) s = .next t ∧ (t.get (Fld.MSQ_SQCAUSE_CAUSE x)).testBit 2 = true ∧ Keeps [.ang, .apc, .buf, .bus, .ccx, .ch, .cph, .d2d, .dbg,
    .free, .host, .hwd, .lpe, .mem, .msq, .now, .pins, .plk, .pwr, .rbk, .regs, .romPar, .spn, .sys, .thm, .vale, .wrp, .xsp] [] s t) ∧
  (∀ (s : State) x k, (s.msq x).running = some k → (s.msq x).sqWait = true → s.causesCleared x = true → (s.msq x).unloaded = false →
    (s.msq x).work = [] → (s.msq x).wait = none → ∃ t, exec (.squashRestart x) s = .next t ∧ (t.msq x).sqWait = false ∧ (t.msq x).sqCauses
    = 0 ∧ (t.msq x).slot k = (s.msq x).slot k ∧ Keeps [.ang, .ch, .lpe, .mem, .msq, .plk, .rbk, .spn, .sys, .vale, .wrp] (advFields s x ++
    modeFields) s t) ∧
  (∀ (s : State) x k, s.loaded x = true → s.flag Fld.ANG_STAT_VALID = true → s.wedgePeriod ≠ 0 → 3 * s.wedgePeriod ≤ 2 * (s.now - (s.msq
    x).checkAt) → (s.msq x).running = some k → (s.msq x).sqWait = false → ∃ t, exec (.wedgeWatchdog x) s = .next t ∧ t.flag
    (Fld.MSQ_EV_SQUASH x) = true ∧ Keeps [.ang, .ch, .lpe, .mem, .msq, .plk, .rbk, .spn, .sys, .vale, .wrp] (modeFields ++ squashFields s
    x) s t) ∧
  (∀ (s : State) x, 2 * (s.now - (s.msq x).checkAt) < 3 * s.wedgePeriod → exec (.wedgeWatchdog x) s = .next s) ∧
  (∀ (s : State) x uaddr, s.actOk x = true → uaddr < 0x4000 → (notedFields s .a ++ notedFields s .b).all (fun f => f.addr !=
    Reg.UCS_PARCNT) = true → ∃ t, exec (.controlStoreParity x uaddr) s = .next t ∧ t.get Fld.UCS_PARCNT_ROM = satAdd 16 (s.get
    Fld.UCS_PARCNT_ROM) 1 ∧ t.flag Fld.UCS_EV_PARITY = true ∧ t.flag (Fld.MSQ_EV_PARITY x) = true ∧ t.romPar = mput s.romPar uaddr s.now ∧
    Keeps [.ang, .ch, .lpe, .mem, .msq, .plk, .rbk, .romPar, .spn, .sys, .vale, .wrp] (modeFields ++ squashFields s x ++
    [Fld.UCS_EV_PARITY, Fld.UCS_FLT_ROMPAR, Fld.UCS_PARCNT_ROM, Fld.UCS_PARCNT_RAM, Fld.MSQ_EV_PARITY x]) s t) ∧
  (∀ (s : State) x uaddr, s.actOk x = true → 0x4000 ≤ uaddr → uaddr < 0x5000 → (notedFields s .a ++ notedFields s .b).all (fun f => f.addr
    != Reg.UCS_PARCNT) = true → ∃ t, exec (.controlStoreParity x uaddr) s = .next t ∧ t.get Fld.UCS_PARCNT_RAM = satAdd 16 (s.get
    Fld.UCS_PARCNT_RAM) 1 ∧ t.flag Fld.UCS_EV_PARITY = true ∧ t.flag (Fld.MSQ_EV_PARITY x) = true ∧ t.romPar = s.romPar ∧ Keeps [.ang,
    .ch, .lpe, .mem, .msq, .plk, .rbk, .romPar, .spn, .sys, .vale, .wrp] (modeFields ++ squashFields s x ++ [Fld.UCS_EV_PARITY,
    Fld.UCS_FLT_ROMPAR, Fld.UCS_PARCNT_ROM, Fld.UCS_PARCNT_RAM, Fld.MSQ_EV_PARITY x]) s t) ∧
  (∀ (s : State) x uaddr, s.actOk x = true → 0x5000 ≤ uaddr → (notedFields s .a ++ notedFields s .b).all (fun f => f.addr !=
    Reg.UCS_PARCNT) = true → ∃ t, exec (.controlStoreParity x uaddr) s = .next t ∧ t.flag (Fld.MSQ_EV_PARITY x) = true ∧ t.rd
    Reg.UCS_PARCNT = s.rd Reg.UCS_PARCNT ∧ t.romPar = s.romPar ∧ Keeps [.ang, .ch, .lpe, .mem, .msq, .plk, .rbk, .romPar, .spn, .sys,
    .vale, .wrp] (modeFields ++ squashFields s x ++ [Fld.UCS_EV_PARITY, Fld.UCS_FLT_ROMPAR, Fld.UCS_PARCNT_ROM, Fld.UCS_PARCNT_RAM,
    Fld.MSQ_EV_PARITY x]) s t)

/-- R256, R261, R262: loading Sapwood through UCS_SAPCTLx, UCS_SAPADDRx and UCS_SAPDATAx. -/
def Obligations.SapwoodLoading : Prop :=
  (∀ (s : State) x, s.actOk x = true → s.see (Fld.MSQ_STAT_HELD x) = 1 → ∃ t, exec (.sapwoodLoadOpen x true) s = .next t ∧ t.flag
    (Fld.UCS_SAPCTL_LOAD x) = true ∧ Keeps [] [Fld.UCS_SAPCTL_LOAD x] s t) ∧
  (∀ (s : State) x, s.actOk x = true → s.see (Fld.MSQ_STAT_HELD x) ≠ 1 → ∃ t, exec (.sapwoodLoadOpen x true) s = .next t ∧ t.flag
    (Fld.UCS_SAPCTL_LOAD x) = false ∧ t.flag Fld.UCS_EV_LOADREJ = true ∧ Keeps [.rbk] (recFields ++ [Fld.UCS_EV_LOADREJ,
    Fld.UCS_SAPCTL_LOAD x]) s t) ∧
  (∀ (s : State) x, s.actOk x = true → ∃ t, exec (.sapwoodLoadOpen x false) s = .next t ∧ t.flag (Fld.UCS_SAPCTL_LOAD x) = false ∧ Keeps
    [] [Fld.UCS_SAPCTL_LOAD x] s t) ∧
  (∀ (s : State) i x v, s.actOk x = true → s.flag (Fld.UCS_SAPCTL_LOAD x) = true → s.get (Fld.UCS_SAPADDR_ADDR x) < 0x800 → ∃ t, exec
    (.sapdataAccess i x true v) s = .next t ∧ mget (fun _ => (0 : Word)) (t.msq x).ucs.sap (0x4800 + s.get (Fld.UCS_SAPADDR_ADDR x)) = v ∧
    t.get (Fld.UCS_SAPADDR_ADDR x) = s.get (Fld.UCS_SAPADDR_ADDR x) + 1 ∧ Keeps [.msq] [Fld.UCS_SAPADDR_ADDR x] s t) ∧
  (∀ (s : State) i x v, s.actOk x = true → s.flag (Fld.UCS_SAPCTL_LOAD x) = true → 0x800 ≤ s.get (Fld.UCS_SAPADDR_ADDR x) → s.get
    (Fld.UCS_SAPADDR_ADDR x) < 0x840 → ∃ t, exec (.sapdataAccess i x true v) s = .next t ∧ mget (fun _ => 0) (t.msq x).ucs.sapTab (s.get
    (Fld.UCS_SAPADDR_ADDR x) - 0x800) = (if 0x4800 ≤ v.toNat % 2 ^ 15 ∧ v.toNat % 2 ^ 15 ≤ 0x4FFF then v.toNat % 2 ^ 16 else v.toNat % 2 ^
    15) ∧ t.get (Fld.UCS_SAPADDR_ADDR x) = s.get (Fld.UCS_SAPADDR_ADDR x) + 1 ∧ Keeps [.msq] [Fld.UCS_SAPADDR_ADDR x] s t) ∧
  (∀ (s : State) i x v, s.actOk x = true → s.flag (Fld.UCS_SAPCTL_LOAD x) = false → ∃ t, exec (.sapdataAccess i x true v) s = .next t ∧
    t.msq x = s.msq x ∧ Keeps [] [Fld.UCS_SAPADDR_ADDR x] s t) ∧
  (∀ (s : State) i x v, s.actOk x = true → ∃ t, exec (.sapdataAccess i x false v) s = .next t ∧ mget (fun _ => (0 : BitVec 64))
    t.bus.readData i.idx = (if (s.flag (Fld.UCS_SAPCTL_LOAD x)) = true ∧ s.get (Fld.UCS_SAPADDR_ADDR x) < 0x800 then mget (fun _ => (0 :
    Word)) (s.msq x).ucs.sap (0x4800 + s.get (Fld.UCS_SAPADDR_ADDR x)) else if (s.flag (Fld.UCS_SAPCTL_LOAD x)) = true ∧ s.get
    (Fld.UCS_SAPADDR_ADDR x) < 0x840 then BitVec.ofNat 32 (mget (fun _ => 0) (s.msq x).ucs.sapTab (s.get (Fld.UCS_SAPADDR_ADDR x) -
    0x800)) else 0#32).zeroExtend 64 ∧ Keeps [.bus] [Fld.UCS_SAPADDR_ADDR x] s t)

/-- R277 to R305: what the read path of a channel does with a sector. A sector that fails adds 1 to the channel's FAIL count. -/
def Obligations.SyncAndDecode : Prop :=
  (∀ (s : State) n cands r e best rest, (s.msq (actOf n)).mediaOn (isSecond n) = some r → (s.ch n).op = 1 → (s.ch n).place < r.count → e =
    s.sectorAt n (s.ch n).items r (s.ch n).place → e.clk = true → slowDec e.set.recc = false → s.candidates n cands = best :: rest → ∃ t,
    exec (.syncMarkSearch n cands) s = .next t ∧ (t.ch n).cur = (s.ch n).cur ++ [{ e with sync := some best, others := rest.take 3 }] ∧
    ((t.ch n).ring.getLast?).map (fun p => (p.item, p.place, p.len)) = some (e.item, e.place, e.set.span) ∧ Keeps [.ch] [] s t) ∧
  (∀ (s : State) n cands r e, (s.msq (actOf n)).mediaOn (isSecond n) = some r → (s.ch n).op = 1 → (s.ch n).place < r.count → e =
    s.sectorAt n (s.ch n).items r (s.ch n).place → e.clk = true → slowDec e.set.recc = false → s.candidates n cands = [] → s.flag
    (Fld.CH_REDET_MISSED n) = true → (s.ch n).redet.length < 3 → ∃ t, exec (.syncMarkSearch n cands) s = .next t ∧ (t.ch n).redet = (s.ch
    n).redet ++ [{ sec := e, reason := 1, item := e.item }] ∧ Keeps [.buf, .ch, .rbk] [Fld.CH_CNTF_BUSY n, Fld.CH_CNTF_FAIL n] s t) ∧
  (∀ (s : State) n cands r e, (s.msq (actOf n)).mediaOn (isSecond n) = some r → (s.ch n).op = 1 → (s.ch n).place < r.count → e =
    s.sectorAt n (s.ch n).items r (s.ch n).place → e.clk = true → slowDec e.set.recc = false → s.candidates n cands = [] → s.flag
    (Fld.CH_REDET_MISSED n) = false → ∃ t, exec (.syncMarkSearch n cands) s = .next t ∧ t.get (Fld.CH_CNTF_FAIL n) = satAdd 16 (s.get
    (Fld.CH_CNTF_FAIL n)) 1 ∧ Keeps [.buf, .ch, .rbk] [Fld.CH_CNTF_BUSY n, Fld.CH_CNTF_FAIL n] s t) ∧
  (∀ (s : State) n cands r e, (s.msq (actOf n)).mediaOn (isSecond n) = some r → (s.ch n).op = 1 → (s.ch n).place < r.count → e =
    s.sectorAt n (s.ch n).items r (s.ch n).place → e.clk = false → ∃ t, exec (.syncMarkSearch n cands) s = .next t ∧ t.get
    (Fld.CH_CNTF_FAIL n) = satAdd 16 (s.get (Fld.CH_CNTF_FAIL n)) 1 ∧ Keeps [.buf, .ch, .rbk] [Fld.CH_CNTF_BUSY n, Fld.CH_CNTF_FAIL n] s
    t) ∧
  (∀ (s : State) n out e more it, (s.ch n).cur = e :: more → out.sramBad = false → s.bclkOk n = true → converged (iterLimit e.set.cfg
    e.set.recc) out.weights = some it → out.crc = true → e.tagOk out.tag = true → e.read = true → ∃ t, exec (.sectorDecode n out) s =
    .next t ∧ (t.ch n).cur = more ∧ (t.ch n).out = (s.ch n).out ++
    [{ item := e.item, ctx := e.ctx, spos := e.spos, lba := e.lba, pi := wfield e.set.cfg 28 2 }] ∧ Keeps [.buf, .ch, .rbk] (recFields ++
    [⟨Reg.CH_AGC 0, 0, 32⟩, ⟨Reg.CH_TLOOP 0, 0, 32⟩, Fld.CH_SECTORS_COUNT 0, Fld.CH_SECTORSH_COUNT 0, ⟨Reg.CH_AGC 1, 0, 32⟩,
    ⟨Reg.CH_TLOOP 1, 0, 32⟩, Fld.CH_SECTORS_COUNT 1, Fld.CH_SECTORSH_COUNT 1, ⟨Reg.CH_AGC 2, 0, 32⟩, ⟨Reg.CH_TLOOP 2, 0, 32⟩,
    Fld.CH_SECTORS_COUNT 2, Fld.CH_SECTORSH_COUNT 2, ⟨Reg.CH_AGC 3, 0, 32⟩, ⟨Reg.CH_TLOOP 3, 0, 32⟩, Fld.CH_SECTORS_COUNT 3,
    Fld.CH_SECTORSH_COUNT 3, Fld.MEM_FLT_SRAMUE, Fld.MEM_SRAMERR_REGION, Fld.MEM_SRAMERR_UE, Fld.CH_CNTF_BUSY n, Fld.CH_CNTF_FAIL n,
    Fld.CH_EV_TLIM n, Fld.CH_FLT_SRAM n]) s t) ∧
  (∀ (s : State) n out e more it, (s.ch n).cur = e :: more → out.sramBad = false → s.bclkOk n = true → converged (iterLimit e.set.cfg
    e.set.recc) out.weights = some it → out.crc = true → e.tagOk out.tag = false → ∃ t, exec (.sectorDecode n out) s = .next t ∧ (t.ch
    n).cur = more ∧ (t.ch n).redet = (s.ch n).redet ∧ t.get (Fld.CH_CNTF_FAIL n) = satAdd 16 (s.get (Fld.CH_CNTF_FAIL n)) 1 ∧ Keeps [.buf,
    .ch, .rbk] (recFields ++ [⟨Reg.CH_AGC 0, 0, 32⟩, ⟨Reg.CH_TLOOP 0, 0, 32⟩, Fld.CH_SECTORS_COUNT 0, Fld.CH_SECTORSH_COUNT 0,
    ⟨Reg.CH_AGC 1, 0, 32⟩, ⟨Reg.CH_TLOOP 1, 0, 32⟩, Fld.CH_SECTORS_COUNT 1, Fld.CH_SECTORSH_COUNT 1, ⟨Reg.CH_AGC 2, 0, 32⟩,
    ⟨Reg.CH_TLOOP 2, 0, 32⟩, Fld.CH_SECTORS_COUNT 2, Fld.CH_SECTORSH_COUNT 2, ⟨Reg.CH_AGC 3, 0, 32⟩, ⟨Reg.CH_TLOOP 3, 0, 32⟩,
    Fld.CH_SECTORS_COUNT 3, Fld.CH_SECTORSH_COUNT 3, Fld.MEM_FLT_SRAMUE, Fld.MEM_SRAMERR_REGION, Fld.MEM_SRAMERR_UE, Fld.CH_CNTF_BUSY n,
    Fld.CH_CNTF_FAIL n, Fld.CH_EV_TLIM n, Fld.CH_FLT_SRAM n]) s t) ∧
  (∀ (s : State) n out e more d k, (s.ch n).cur = e :: more → out.sramBad = false → s.bclkOk n = true → converged (iterLimit e.set.cfg
    e.set.recc) out.weights = none → e.sync = some (d, k) → 0 ≤ d → s.flag (Fld.CH_REDET_ANYSYNC n) = false → ∃ t, exec (.sectorDecode n
    out) s = .next t ∧ (t.ch n).cur = more ∧ t.get (Fld.CH_CNTF_FAIL n) = satAdd 16 (s.get (Fld.CH_CNTF_FAIL n)) 1 ∧ Keeps [.buf, .ch,
    .rbk] (recFields ++ [⟨Reg.CH_AGC 0, 0, 32⟩, ⟨Reg.CH_TLOOP 0, 0, 32⟩, Fld.CH_SECTORS_COUNT 0, Fld.CH_SECTORSH_COUNT 0,
    ⟨Reg.CH_AGC 1, 0, 32⟩, ⟨Reg.CH_TLOOP 1, 0, 32⟩, Fld.CH_SECTORS_COUNT 1, Fld.CH_SECTORSH_COUNT 1, ⟨Reg.CH_AGC 2, 0, 32⟩,
    ⟨Reg.CH_TLOOP 2, 0, 32⟩, Fld.CH_SECTORS_COUNT 2, Fld.CH_SECTORSH_COUNT 2, ⟨Reg.CH_AGC 3, 0, 32⟩, ⟨Reg.CH_TLOOP 3, 0, 32⟩,
    Fld.CH_SECTORS_COUNT 3, Fld.CH_SECTORSH_COUNT 3, Fld.MEM_FLT_SRAMUE, Fld.MEM_SRAMERR_REGION, Fld.MEM_SRAMERR_UE, Fld.CH_CNTF_BUSY n,
    Fld.CH_CNTF_FAIL n, Fld.CH_EV_TLIM n, Fld.CH_FLT_SRAM n]) s t) ∧
  (∀ (s : State) n out e more d k, (s.ch n).cur = e :: more → out.sramBad = false → s.bclkOk n = true → converged (iterLimit e.set.cfg
    e.set.recc) out.weights = none → e.sync = some (d, k) → d < 0 → s.flag (Fld.CH_REDET_EARLY n) = true → (s.ch n).redet.length < 3 → ∃
    t, exec (.sectorDecode n out) s = .next t ∧ (t.ch n).cur = more ∧ (t.ch n).redet = (s.ch n).redet ++
    [{ sec := e, reason := 2, item := e.item }] ∧ Keeps [.buf, .ch, .rbk] (recFields ++ [⟨Reg.CH_AGC 0, 0, 32⟩, ⟨Reg.CH_TLOOP 0, 0, 32⟩,
    Fld.CH_SECTORS_COUNT 0, Fld.CH_SECTORSH_COUNT 0, ⟨Reg.CH_AGC 1, 0, 32⟩, ⟨Reg.CH_TLOOP 1, 0, 32⟩, Fld.CH_SECTORS_COUNT 1,
    Fld.CH_SECTORSH_COUNT 1, ⟨Reg.CH_AGC 2, 0, 32⟩, ⟨Reg.CH_TLOOP 2, 0, 32⟩, Fld.CH_SECTORS_COUNT 2, Fld.CH_SECTORSH_COUNT 2,
    ⟨Reg.CH_AGC 3, 0, 32⟩, ⟨Reg.CH_TLOOP 3, 0, 32⟩, Fld.CH_SECTORS_COUNT 3, Fld.CH_SECTORSH_COUNT 3, Fld.MEM_FLT_SRAMUE,
    Fld.MEM_SRAMERR_REGION, Fld.MEM_SRAMERR_UE, Fld.CH_CNTF_BUSY n, Fld.CH_CNTF_FAIL n, Fld.CH_EV_TLIM n, Fld.CH_FLT_SRAM n]) s t) ∧
  (∀ (s : State) n out e more, (s.ch n).cur = e :: more → out.sramBad = false → s.bclkOk n = false → ∃ t, exec (.sectorDecode n out) s =
    .next t ∧ (t.ch n).cur = more ∧ t.get (Fld.CH_CNTF_FAIL n) = satAdd 16 (s.get (Fld.CH_CNTF_FAIL n)) 1 ∧ Keeps [.buf, .ch, .rbk]
    (recFields ++ [⟨Reg.CH_AGC 0, 0, 32⟩, ⟨Reg.CH_TLOOP 0, 0, 32⟩, Fld.CH_SECTORS_COUNT 0, Fld.CH_SECTORSH_COUNT 0, ⟨Reg.CH_AGC 1, 0, 32⟩,
    ⟨Reg.CH_TLOOP 1, 0, 32⟩, Fld.CH_SECTORS_COUNT 1, Fld.CH_SECTORSH_COUNT 1, ⟨Reg.CH_AGC 2, 0, 32⟩, ⟨Reg.CH_TLOOP 2, 0, 32⟩,
    Fld.CH_SECTORS_COUNT 2, Fld.CH_SECTORSH_COUNT 2, ⟨Reg.CH_AGC 3, 0, 32⟩, ⟨Reg.CH_TLOOP 3, 0, 32⟩, Fld.CH_SECTORS_COUNT 3,
    Fld.CH_SECTORSH_COUNT 3, Fld.MEM_FLT_SRAMUE, Fld.MEM_SRAMERR_REGION, Fld.MEM_SRAMERR_UE, Fld.CH_CNTF_BUSY n, Fld.CH_CNTF_FAIL n,
    Fld.CH_EV_TLIM n, Fld.CH_FLT_SRAM n]) s t) ∧
  (∀ (s : State) n on, s.chanOk n = true → ∃ t, exec (.defectFreeze n on) s = .next t ∧ t.ch n =
    { s.ch n with frozen := on, frozenAt := if on && !(s.ch n).frozen then s.ang.ats else (s.ch n).frozenAt } ∧ Keeps [.ch] [] s t) ∧
  (∀ (s : State) n r e, (s.msq (actOf n)).mediaOn (isSecond n) = some r → (s.ch n).op = 1 → (s.ch n).cur.getLast? = some e → s.freezeOver
    n e.place = true → ∃ t, exec (.freezeLimit n) s = .next t ∧ (t.ch n).cur = (s.ch n).cur.dropLast ∧ t.flag (Fld.CH_EV_FREEZE n) = true
    ∧ t.get (Fld.CH_CNTF_FAIL n) = satAdd 16 (s.get (Fld.CH_CNTF_FAIL n)) 1 ∧ Keeps [.buf, .ch, .rbk] (recFields ++ [Fld.CH_CNTF_BUSY n,
    Fld.CH_CNTF_FAIL n, Fld.CH_EV_FREEZE n]) s t) ∧
  (∀ (s : State) n, ∃ t, exec (.frecpop n) s = .next t ∧ t.ch n = { s.ch n with frec := (s.ch n).frec.drop 1 } ∧ Keeps [.ch] [] s t) ∧
  (∀ (s : State) i n v, s.chanOk n = true → ∃ t, exec (.eqdataAccess i n true v) s = .next t ∧ mget (fun _ => (0 : Word)) (t.ch n).taps
    (s.get (Fld.CH_EQADDR_ADDR n)) = (v &&& 0x3FF#32) ∧ t.get (Fld.CH_EQADDR_ADDR n) = (s.get (Fld.CH_EQADDR_ADDR n) + 1) % 128 ∧ Keeps
    [.ch] [Fld.CH_EQADDR_ADDR n] s t) ∧
  (∀ (s : State) i n v, s.chanOk n = true → ∃ t, exec (.eqdataAccess i n false v) s = .next t ∧ mget (fun _ => (0 : BitVec 64))
    t.bus.readData i.idx = (mget (fun _ => (0 : Word)) (s.ch n).taps (s.get (Fld.CH_EQADDR_ADDR n))).zeroExtend 64 ∧ t.get
    (Fld.CH_EQADDR_ADDR n) = (s.get (Fld.CH_EQADDR_ADDR n) + 1) % 128 ∧ Keeps [.bus] [Fld.CH_EQADDR_ADDR n] s t)

/-- R287 to R290, R574, R592 to R595: the re-detection engine and the lanes of CPH. -/
def Obligations.RedetectionAndLanes : Prop :=
  (∀ (s : State) n e rest r more it, (s.ch n).redet = r :: more → e.inRing = true → s.ringHolds n r.item r.sec.place = true → converged
    (max 1 (s.get (Fld.CH_REDET_ITER n))) e.weights = some it → ((converged (min 2 (max 1 (s.get (Fld.CH_REDET_ITER n))))
    e.weights).isSome = true ∨ (e.weights[1]?).getD 0 ≤ s.get (Fld.CH_REDET_SWMAX n)) → e.crc = true → r.sec.tagOk e.tag = true → ∃ t,
    exec (.redetection n (e :: rest) false) s = .next t ∧ (t.ch n).redet = more ∧ t.get (Fld.CH_CNTR_REDET_OK n) = satAdd 16 (s.get
    (Fld.CH_CNTR_REDET_OK n)) 1 ∧ t.flag (Fld.CH_EV_REDETOK n) = true ∧ Keeps [.buf, .ch, .rbk] (recFields ++ [Fld.CH_SECTORS_COUNT 0,
    Fld.CH_SECTORSH_COUNT 0, Fld.CH_SECTORS_COUNT 1, Fld.CH_SECTORSH_COUNT 1, Fld.CH_SECTORS_COUNT 2, Fld.CH_SECTORSH_COUNT 2,
    Fld.CH_SECTORS_COUNT 3, Fld.CH_SECTORSH_COUNT 3, Fld.MEM_FLT_SRAMUE, Fld.MEM_SRAMERR_REGION, Fld.MEM_SRAMERR_UE, Fld.CH_CNTF_BUSY n,
    Fld.CH_CNTF_FAIL n, Fld.CH_CNTR_REDET_FAIL n, Fld.CH_CNTR_REDET_OK n, Fld.CH_EV_REDETFAIL n, Fld.CH_EV_REDETOK n, Fld.CH_FLT_SRAM n])
    s t) ∧
  (∀ (s : State) n e rest r more, (s.ch n).redet = r :: more → s.ringHolds n r.item r.sec.place = false → ∃ t, exec (.redetection n (e ::
    rest) false) s = .next t ∧ (t.ch n).redet = more ∧ t.get (Fld.CH_CNTR_REDET_FAIL n) = satAdd 16 (s.get (Fld.CH_CNTR_REDET_FAIL n)) 1 ∧
    t.flag (Fld.CH_EV_REDETFAIL n) = true ∧ Keeps [.buf, .ch, .rbk] (recFields ++ [Fld.CH_SECTORS_COUNT 0, Fld.CH_SECTORSH_COUNT 0,
    Fld.CH_SECTORS_COUNT 1, Fld.CH_SECTORSH_COUNT 1, Fld.CH_SECTORS_COUNT 2, Fld.CH_SECTORSH_COUNT 2, Fld.CH_SECTORS_COUNT 3,
    Fld.CH_SECTORSH_COUNT 3, Fld.MEM_FLT_SRAMUE, Fld.MEM_SRAMERR_REGION, Fld.MEM_SRAMERR_UE, Fld.CH_CNTF_BUSY n, Fld.CH_CNTF_FAIL n,
    Fld.CH_CNTR_REDET_FAIL n, Fld.CH_CNTR_REDET_OK n, Fld.CH_EV_REDETFAIL n, Fld.CH_EV_REDETOK n, Fld.CH_FLT_SRAM n]) s t) ∧
  (∀ (s : State) n tries r more, (s.ch n).redet = r :: more → ∃ t, exec (.redetection n tries true) s = .next t ∧ (t.ch n).redet = more ∧
    t.flag Fld.MEM_FLT_SRAMUE = true ∧ t.flag (Fld.CH_FLT_SRAM n) = true ∧ t.get (Fld.CH_CNTR_REDET_FAIL n) = satAdd 16 (s.get
    (Fld.CH_CNTR_REDET_FAIL n)) 1 ∧ t.flag (Fld.CH_EV_REDETFAIL n) = true ∧ Keeps [.buf, .ch, .rbk] (recFields ++ [Fld.CH_SECTORS_COUNT 0,
    Fld.CH_SECTORSH_COUNT 0, Fld.CH_SECTORS_COUNT 1, Fld.CH_SECTORSH_COUNT 1, Fld.CH_SECTORS_COUNT 2, Fld.CH_SECTORSH_COUNT 2,
    Fld.CH_SECTORS_COUNT 3, Fld.CH_SECTORSH_COUNT 3, Fld.MEM_FLT_SRAMUE, Fld.MEM_SRAMERR_REGION, Fld.MEM_SRAMERR_UE, Fld.CH_CNTF_BUSY n,
    Fld.CH_CNTF_FAIL n, Fld.CH_CNTR_REDET_FAIL n, Fld.CH_CNTR_REDET_OK n, Fld.CH_EV_REDETFAIL n, Fld.CH_EV_REDETOK n, Fld.CH_FLT_SRAM n])
    s t) ∧
  (∀ (s : State) n r more, (s.ch n).redet = r :: more → ∃ t, exec (.redetection n [] false) s = .next t ∧ (t.ch n).redet = more ∧ t.get
    (Fld.CH_CNTR_REDET_FAIL n) = satAdd 16 (s.get (Fld.CH_CNTR_REDET_FAIL n)) 1 ∧ t.get (Fld.CH_CNTF_FAIL n) = satAdd 16 (s.get
    (Fld.CH_CNTF_FAIL n)) 1 ∧ Keeps [.buf, .ch, .rbk] (recFields ++ [Fld.CH_SECTORS_COUNT 0, Fld.CH_SECTORSH_COUNT 0, Fld.CH_SECTORS_COUNT
    1, Fld.CH_SECTORSH_COUNT 1, Fld.CH_SECTORS_COUNT 2, Fld.CH_SECTORSH_COUNT 2, Fld.CH_SECTORS_COUNT 3, Fld.CH_SECTORSH_COUNT 3,
    Fld.MEM_FLT_SRAMUE, Fld.MEM_SRAMERR_REGION, Fld.MEM_SRAMERR_UE, Fld.CH_CNTF_BUSY n, Fld.CH_CNTF_FAIL n, Fld.CH_CNTR_REDET_FAIL n,
    Fld.CH_CNTR_REDET_OK n, Fld.CH_EV_REDETFAIL n, Fld.CH_EV_REDETOK n, Fld.CH_FLT_SRAM n]) s t) ∧
  (∀ (s : State) n r more, (s.ch n).redet = r :: more → s.ringFull n r.item r.sec.place = true → ∃ t, exec (.redetectionDeadline n) s =
    .next t ∧ (t.ch n).redet = more ∧ t.get (Fld.CH_CNTR_REDET_FAIL n) = satAdd 16 (s.get (Fld.CH_CNTR_REDET_FAIL n)) 1 ∧ t.flag
    (Fld.CH_EV_REDETFAIL n) = true ∧ Keeps [.buf, .ch, .rbk] (recFields ++ [Fld.CH_CNTF_BUSY n, Fld.CH_CNTF_FAIL n, Fld.CH_CNTR_REDET_FAIL
    n, Fld.CH_EV_REDETFAIL n]) s t) ∧
  (∀ (s : State) n r more, (s.ch n).redet = r :: more → s.ringFull n r.item r.sec.place = false → exec (.redetectionDeadline n) s = .next
    s) ∧
  (∀ (s : State) n e more, s.lanesOpen = true → (s.ch n).out = e :: more → ∃ t, exec (.xtsSector n) s = .next t ∧ (t.ch n).out = more ∧
    t.cph.masks = s.cph.masks + 257 ∧ Keeps [.buf, .ch, .cph, .free, .mem, .msq, .rbk] (recFields ++ [Fld.MEM_EV_CE, Fld.MEM_EV_UE,
    Fld.MEM_UEADDR_ADDR, Fld.MEM_UEINFO_INIT, Fld.MEM_UEINFO_OVF, Fld.MEM_UEINFO_VALID, Fld.MEM_CETCTL_CET_OVF, Fld.MEM_CNT_UE,
    Fld.MEM_CNT_CE, Fld.BUF_EV_SEGFAIL]) s t) ∧
  (∀ (s : State) n r, s.lanesOpen = true → (s.ch n).out = [] → (s.msq (actOf n)).mediaOn (isSecond n) = some r → r.op = .write → (if
    isSecond n then r.lane1 else r.lane0) < r.active (isSecond n) → ∃ t, exec (.xtsSector n) s = .next t ∧ (t.ch n).wsecs.length = (s.ch
    n).wsecs.length + 1 ∧ t.cph.masks = s.cph.masks + 257 ∧ Keeps [.buf, .ch, .cph, .free, .mem, .msq, .rbk] (recFields ++ [Fld.MEM_EV_CE,
    Fld.MEM_EV_UE, Fld.MEM_UEADDR_ADDR, Fld.MEM_UEINFO_INIT, Fld.MEM_UEINFO_OVF, Fld.MEM_UEINFO_VALID, Fld.MEM_CETCTL_CET_OVF,
    Fld.MEM_CNT_UE, Fld.MEM_CNT_CE, Fld.BUF_EV_SEGFAIL]) s t) ∧
  (∀ (s : State) n, s.lanesOpen = false → exec (.xtsSector n) s = .next s)

/-- R318 to R338: the Write Guard of an actuator. -/
def Obligations.WriteGuardTrips : Prop :=
  (∀ (s : State) x second, s.laserOver x second = true → s.actOk x = true → (notedFields s .a ++ notedFields s .b).all (fun f => f.addr !=
    (Reg.WRP_WGLAST x)) = true → ∃ t, exec (.laserGateLimit x second) s = .next t ∧ (t.wrp x).holding = 64 ∧ t.flag (Fld.WRP_FLT_LGMAX x)
    = true ∧ t.flag (Fld.WRP_EV_WGTRIP x) = true ∧ t.get (Fld.WRP_WGLAST_CAUSE x) = 64 ∧ t.get (Fld.WRP_WGLAST_TRIPS x) = satAdd 16 (s.get
    (Fld.WRP_WGLAST_TRIPS x)) 1 ∧ Keeps [.ang, .ch, .lpe, .mem, .msq, .plk, .rbk, .spn, .sys, .vale, .wrp] (guardFields s x ++ modeFields
    ++ [Fld.WRP_FLT_LGMAX x]) s t) ∧
  (∀ (s : State) x second, s.get (Fld.WRP_CFG_AMODE x) = 1 → s.lgOpen x second = true → s.actOk x = true → s.eff (Fld.WRP_LMON_LM_MISS x)
    ≤ ((s.wrp x).las second).misses + 1 → ∃ t, exec (.monitorRead x second none) s = .next t ∧ (t.wrp x).holding = 64 ∧ t.flag
    (Fld.WRP_FLT_LMON x) = true ∧ ((t.wrp x).las second).misses = 0 ∧ Keeps [.ang, .ch, .lpe, .mem, .msq, .plk, .rbk, .spn, .sys, .vale,
    .wrp] (guardFields s x ++ modeFields ++ [Fld.WRP_FLT_LMON x]) s t) ∧
  (∀ (s : State) x second, s.get (Fld.WRP_CFG_AMODE x) = 1 → s.lgOpen x second = true → ((s.wrp x).las second).misses + 1 < s.eff
    (Fld.WRP_LMON_LM_MISS x) → ((s.wrp x).las second).same < s.eff (Fld.WRP_LMON_LM_FRZ x) → ∃ t, exec (.monitorRead x second none) s =
    .next t ∧ ((t.wrp x).las second).misses = ((s.wrp x).las second).misses + 1 ∧ (t.wrp x).holding = (s.wrp x).holding ∧ Keeps [.wrp,
    .ch] [] s t) ∧
  (∀ (s : State) x second reading, s.get (Fld.WRP_CFG_AMODE x) = 1 → s.lgOpen x second = false → exec (.monitorRead x second reading) s =
    .next (s.setWrp x ((s.wrp x).setLas second { (s.wrp x).las second with misses := 0, same := 0 }))) ∧
  (∀ (s : State) x, (s.wrp x).holding = 64 → ∃ t, exec (.lmrel x) s = .next t ∧ (t.wrp x).holding = 0 ∧ t.flag (Fld.WRP_EV_WGREL x) = true
    ∧ Keeps [.rbk, .wrp] (recFields ++ [Fld.WRP_EV_WGREL x]) s t) ∧
  (∀ (s : State) x head, s.actState x ≠ 6 → head < 16 → ∃ t, exec (.headContact x head) s = .next t ∧ t.wrp x =
    { s.wrp x with contactDue := (s.wrp x).contactDue ||| 2 ^ head } ∧ t.flag (Fld.WRP_EV_CONTACT x) = true ∧ Keeps [.rbk, .wrp]
    (recFields ++ [Fld.WRP_EV_CONTACT x]) s t) ∧
  (∀ (s : State) x bits neg, bits ≠ 0 → bits.getLsbD 1 = false → s.actOk x = true → (s.wrp x).holding = 0 → (notedFields s .a ++
    notedFields s .b).all (fun f => f.addr != (Reg.WRP_WGLAST x)) = true → ∃ t, exec (.writeGuardTrip x bits neg) s = .next t ∧ (t.wrp
    x).holding = bits.toNat ∧ t.flag (Fld.WRP_EV_WGTRIP x) = true ∧ t.get (Fld.WRP_WGLAST_CAUSE x) = bits.toNat ∧ t.get
    (Fld.WRP_WGLAST_TRIPS x) = satAdd 16 (s.get (Fld.WRP_WGLAST_TRIPS x)) 1 ∧ Keeps [.ang, .ch, .lpe, .mem, .msq, .plk, .rbk, .spn, .sys,
    .vale, .wrp] (guardFields s .a ++ guardFields s .b ++ modeFields) s t) ∧
  (∀ (s : State) x bits neg, bits ≠ 0 → bits.getLsbD 1 = false → s.actOk x = true → (s.wrp x).holding ≠ 0 → (notedFields s .a ++
    notedFields s .b).all (fun f => f.addr != (Reg.WRP_WGLAST x)) = true → ∃ t, exec (.writeGuardTrip x bits neg) s = .next t ∧ (t.wrp
    x).holding = (s.wrp x).holding ||| bits.toNat ∧ t.get (Fld.WRP_WGLAST_CAUSE x) = s.get (Fld.WRP_WGLAST_CAUSE x) ||| bits.toNat ∧ t.get
    (Fld.WRP_WGLAST_TRIPS x) = s.get (Fld.WRP_WGLAST_TRIPS x) ∧ Keeps [.ang, .ch, .lpe, .mem, .msq, .plk, .rbk, .spn, .sys, .vale, .wrp]
    (guardFields s .a ++ guardFields s .b ++ modeFields) s t) ∧
  (∀ (s : State) x bits neg, bits.getLsbD 1 = true → s.actOk .a = true → s.actOk .b = true → ∃ t, exec (.writeGuardTrip x bits neg) s =
    .next t ∧ (t.wrp .a).shockHold = true ∧ (t.wrp .b).shockHold = true ∧ (t.wrp .a).holding.testBit 1 = true ∧ (t.wrp .b).holding.testBit
    1 = true ∧ Keeps [.ang, .ch, .lpe, .mem, .msq, .plk, .rbk, .spn, .sys, .vale, .wrp] (guardFields s .a ++ guardFields s .b ++
    modeFields) s t) ∧
  (∀ (s : State) x, ∃ t, exec (.writeGuardRelease x false) s = .next t ∧ (t.wrp x).holding = (s.wrp x).holding &&& (255 -
    s.releasedTriggers x % 256) ∧ Keeps [.rbk, .wrp] (recFields ++ [Fld.WRP_EV_WGREL x]) s t) ∧
  (∀ (s : State) x, s.wrpA.shockAt + s.get Fld.WRPA_SHOCK_HOLD * 12800 ≤ s.now → ∃ t, exec (.writeGuardRelease x true) s = .next t ∧
    (t.wrp .a).shockHold = false ∧ (t.wrp .b).shockHold = false ∧ Keeps [.rbk, .wrp] (recFields ++ [Fld.WRP_EV_WGREL x]) s t) ∧
  (∀ (s : State) x, ∃ t, exec (.tornpop x) s = .next t ∧ t.wrp x = { s.wrp x with torn := (s.wrp x).torn.drop 1 } ∧ Keeps [.wrp] [] s t)

/-- R342 to R347: the frames of PLKx and what their failures do. -/
def Obligations.PreampLink : Prop :=
  (∀ (s : State) x addr data, ∃ t, exec (.plkWriteFrame x addr data) s = .next t ∧ mfind (t.plk x).wf addr.toNat = some data.toNat ∧
    (t.plk x).repeated = false ∧ (t.plk x).hsel = (if addr.toNat = s.get (Fld.PLK_ADDR_HSADDR x) then some (BitVec.ofNat 32 data.toNat)
    else (s.plk x).hsel) ∧ Keeps [.plk] [] s t) ∧
  (∀ (s : State) x addr data, s.actOk x = true → ¬ (addr.toNat = s.get (Fld.PLK_CFG_STATADDR x) ∧ data.msb = true) → exec (.plkReadFrame x
    addr data true) s = .next (s.setPlk x { s.plk x with repeated := false })) ∧
  (∀ (s : State) x addr data, addr.toNat = s.get (Fld.PLK_CFG_STATADDR x) → data.msb = true → s.actOk x = true → ∃ t, exec (.plkReadFrame
    x addr data true) s = .next t ∧ t.flag (Fld.PLK_FLT_PREAMP x) = true ∧ t.get (Fld.PLK_FLTCODE_STATUS x) = data.toNat ∧ (t.plk
    x).faulted = true ∧ (t.wrp x).holding.testBit 5 = true ∧ Keeps [.ang, .ch, .lpe, .mem, .msq, .plk, .rbk, .spn, .sys, .vale, .wrp]
    (guardFields s x ++ modeFields ++ [⟨Reg.PLK_RSP .a, 0, 32⟩, ⟨Reg.PLK_RSP .b, 0, 32⟩, Fld.PLK_CNT_RETRY x, Fld.PLK_CNT_TMO x,
    Fld.PLK_EV_REQDONE x, Fld.PLK_EV_RETRY x, Fld.PLK_EV_TMO x, Fld.PLK_FLTCODE_PIN x, Fld.PLK_FLTCODE_STATUS x, Fld.PLK_FLT_PREAMP x,
    Fld.PLK_REQ_GO x]) s t) ∧
  (∀ (s : State) x addr data, (s.plk x).repeated = false → s.actOk x = true → ∃ t, exec (.plkReadFrame x addr data false) s = .next t ∧
    (t.plk x).repeated = true ∧ t.get (Fld.PLK_CNT_RETRY x) = satAdd 16 (s.get (Fld.PLK_CNT_RETRY x)) 1 ∧ t.flag (Fld.PLK_EV_RETRY x) =
    true ∧ Keeps [.ang, .ch, .lpe, .mem, .msq, .plk, .rbk, .spn, .sys, .vale, .wrp] (guardFields s x ++ modeFields ++
    [⟨Reg.PLK_RSP .a, 0, 32⟩, ⟨Reg.PLK_RSP .b, 0, 32⟩, Fld.PLK_CNT_RETRY x, Fld.PLK_CNT_TMO x, Fld.PLK_EV_REQDONE x, Fld.PLK_EV_RETRY x,
    Fld.PLK_EV_TMO x, Fld.PLK_FLTCODE_PIN x, Fld.PLK_FLTCODE_STATUS x, Fld.PLK_FLT_PREAMP x, Fld.PLK_REQ_GO x]) s t) ∧
  (∀ (s : State) x, (s.plk x).repeated = true → s.actOk x = true → (notedFields s .a ++ notedFields s .b).all (fun f => f.addr !=
    (Reg.PLK_CNT x)) = true → ∃ t, exec (.plkResponseTimeout x) s = .next t ∧ (t.plk x).repeated = false ∧ t.get (Fld.PLK_CNT_TMO x) =
    satAdd 16 (s.get (Fld.PLK_CNT_TMO x)) 1 ∧ t.flag (Fld.PLK_EV_TMO x) = true ∧ (t.wrp x).holding.testBit 5 = true ∧ Keeps [.ang, .ch,
    .lpe, .mem, .msq, .plk, .rbk, .spn, .sys, .vale, .wrp] (guardFields s x ++ modeFields ++ [⟨Reg.PLK_RSP .a, 0, 32⟩,
    ⟨Reg.PLK_RSP .b, 0, 32⟩, Fld.PLK_CNT_RETRY x, Fld.PLK_CNT_TMO x, Fld.PLK_EV_REQDONE x, Fld.PLK_EV_RETRY x, Fld.PLK_EV_TMO x,
    Fld.PLK_REQ_GO x]) s t) ∧
  (∀ (s : State) x, (s.plk x).repeated = false → s.actOk x = true → ∃ t, exec (.plkResponseTimeout x) s = .next t ∧ (t.plk x).repeated =
    true ∧ t.get (Fld.PLK_CNT_RETRY x) = satAdd 16 (s.get (Fld.PLK_CNT_RETRY x)) 1 ∧ t.flag (Fld.PLK_EV_RETRY x) = true ∧ Keeps [.ang,
    .ch, .lpe, .mem, .msq, .plk, .rbk, .spn, .sys, .vale, .wrp] (guardFields s x ++ modeFields ++ [⟨Reg.PLK_RSP .a, 0, 32⟩,
    ⟨Reg.PLK_RSP .b, 0, 32⟩, Fld.PLK_CNT_RETRY x, Fld.PLK_CNT_TMO x, Fld.PLK_EV_REQDONE x, Fld.PLK_EV_RETRY x, Fld.PLK_EV_TMO x,
    Fld.PLK_REQ_GO x]) s t) ∧
  (∀ (s : State) x resp, s.actOk x = true → ((s.plk x).fwWaits && s.plkReading x) = false → (s.msq x).work = [] → s.flag (Fld.PLK_REQ_RD
    x) = true → ¬ (s.get (Fld.PLK_REQ_ADDR x) = s.get (Fld.PLK_CFG_STATADDR x) ∧ resp.msb = true) → ∃ t, exec (.plkFirmwareFrame x resp) s
    = .next t ∧ t.rd (Reg.PLK_RSP x) = BitVec.ofNat 32 (b2n (s.plk x).repeated * 2 ^ 30 + resp.toNat) ∧ t.flag (Fld.PLK_REQ_GO x) = false
    ∧ t.flag (Fld.PLK_EV_REQDONE x) = true ∧ Keeps [.ang, .ch, .lpe, .mem, .msq, .plk, .rbk, .spn, .sys, .vale, .wrp] (advFields s x ++
    guardFields s x ++ modeFields ++ [⟨Reg.PLK_RSP .a, 0, 32⟩, ⟨Reg.PLK_RSP .b, 0, 32⟩, Fld.PLK_EV_REQDONE x, Fld.PLK_FLTCODE_PIN x,
    Fld.PLK_FLTCODE_STATUS x, Fld.PLK_FLT_PREAMP x, Fld.PLK_REQ_GO x]) s t) ∧
  (∀ (s : State) x resp, s.actOk x = true → ((s.plk x).fwWaits && s.plkReading x) = false → (s.msq x).work = [] → s.flag (Fld.PLK_REQ_RD
    x) = false → ∃ t, exec (.plkFirmwareFrame x resp) s = .next t ∧ t.rd (Reg.PLK_RSP x) = BitVec.ofNat 32 (b2n (s.plk x).repeated * 2 ^
    30 + resp.toNat % 256 * 2 ^ 16) ∧ t.flag (Fld.PLK_REQ_GO x) = false ∧ t.flag (Fld.PLK_EV_REQDONE x) = true ∧ mfind (t.plk x).wf (s.get
    (Fld.PLK_REQ_ADDR x)) = some (s.get (Fld.PLK_REQ_DATA x) : Nat) ∧ Keeps [.ang, .ch, .lpe, .mem, .msq, .plk, .rbk, .spn, .sys, .vale,
    .wrp] (advFields s x ++ guardFields s x ++ modeFields ++ [⟨Reg.PLK_RSP .a, 0, 32⟩, ⟨Reg.PLK_RSP .b, 0, 32⟩, Fld.PLK_EV_REQDONE x,
    Fld.PLK_FLTCODE_PIN x, Fld.PLK_FLTCODE_STATUS x, Fld.PLK_FLT_PREAMP x, Fld.PLK_REQ_GO x]) s t) ∧
  (∀ (s : State) x resp, ((s.plk x).fwWaits && s.plkReading x) = true → exec (.plkFirmwareFrame x resp) s = .next s) ∧
  (∀ (s : State) x pin status, (pin || status.msb) = true → s.actOk x = true → ∃ t, exec (.preampFault x pin status) s = .next t ∧ t.flag
    (Fld.PLK_FLT_PREAMP x) = true ∧ t.get (Fld.PLK_FLTCODE_STATUS x) = status.toNat ∧ t.flag (Fld.PLK_FLTCODE_PIN x) = pin ∧ (t.plk
    x).faulted = true ∧ (t.wrp x).holding.testBit 5 = true ∧ Keeps [.ang, .ch, .lpe, .mem, .msq, .plk, .rbk, .spn, .sys, .vale, .wrp]
    (guardFields s x ++ modeFields ++ [Fld.PLK_FLTCODE_PIN x, Fld.PLK_FLTCODE_STATUS x, Fld.PLK_FLT_PREAMP x]) s t) ∧
  (∀ (s : State) x status, status.msb = false → exec (.preampFault x false status) s = .next s)

/-- R385 to R412, R448: the samples of LPE. The control laws' results are free values (log 51) and no clause rests on them. -/
def Obligations.LoopSamples : Prop :=
  (∀ (s : State) x h0 h1 sh0 sh1 iv mv normal, s.actOk x = true → s.flag (drvOff x) = false → s.lpe.held = false → ∃ t, exec (.vcmSample x
    h0 h1 sh0 sh1 iv mv normal) s = .next t ∧ (byAct x Fld.DRV_IVCM_IA Fld.DRV_IVCM_IB |> t.get) = iv.toNat ∧ (t.la x).late = false ∧
    (t.la x).ovr = 0 ∧ Keeps [.ang, .ch, .free, .lpe, .mem, .msq, .plk, .rbk, .spn, .sys, .vale, .wrp] (chanFields ++ guardFields s .a ++
    guardFields s .b ++ modeFields ++ couplingFields ++ loopFields ++ [Fld.ANG_EV_BCLKRNG, ⟨Reg.ANG_BPR 0, 0, 32⟩, ⟨Reg.ANG_BPR 1, 0, 32⟩,
    ⟨Reg.ANG_BPR 2, 0, 32⟩, ⟨Reg.ANG_BPR 3, 0, 32⟩, Fld.LPE_EV_COASTA, Fld.LPE_EV_COASTB, Fld.LPE_BANK_SWAP, Fld.LPE_BANK_ACTIVE,
    Fld.LPE_POS_POS .a, Fld.LPE_POS_POS .b, Fld.DRV_IVCM_IA, Fld.DRV_IVCM_IB, Fld.LPE_ARB_OUT x, Fld.LPE_ARB_WIN x, Fld.LPE_PES_PES0 x,
    Fld.LPE_PES_PES1 x, Fld.MSQ_DOORBELL_RING x, Fld.MSQ_FLTPC_PC x, Fld.MSQ_FLT_PROG x, Fld.MSQ_FLT_SAPCAP x, Fld.MSQ_FLT_STEP x]) s t) ∧
  (∀ (s : State) x h0 h1 sh0 sh1 iv mv normal, s.lpe.held = true → exec (.vcmSample x h0 h1 sh0 sh1 iv mv normal) s = .next s) ∧
  (∀ (s : State) n k (pes : Nat) (err : Rat), s.actOk (actOf n) = true → s.flag (drvOff (actOf n)) = false → s.lpe.held = false →
    s.d2d.remapAcked = false → s.loaded (actOf n) = true → ((s.msq (actOf n)).pos (isSecond n)).head = some k → pes = s.get (if isSecond n
    then Fld.LPE_PES_PES1 (actOf n) else Fld.LPE_PES_PES0 (actOf n)) → pes ≠ 0x8000 → s.uaOn n = true → err = -(s.pesUnits (actOf n) k
    ((((s.msq (actOf n)).pos (isSecond n)).target).getD 0) (sgn 16 pes)) - (((s.la (actOf n)).target : Rat) - (s.la (actOf n)).p) → ∃ t,
    exec (.microactuatorSample n) s = .next t ∧ ((t.la (actOf n)).head (isSecond n)).ua = (s.uaDemand (actOf n) (isSecond n) err).1 ∧
    ((t.la (actOf n)).head (isSecond n)).integ = ((s.la (actOf n)).head (isSecond n)).integ + err ∧ (t.get Fld.DRV_STAT_UAON).testBit
    n.val = true ∧ Keeps [.free, .lpe] [Fld.DRV_STAT_UAON] s t) ∧
  (∀ (s : State) n k, s.actOk (actOf n) = true → s.flag (drvOff (actOf n)) = false → s.lpe.held = false → s.d2d.remapAcked = false →
    s.loaded (actOf n) = true → ((s.msq (actOf n)).pos (isSecond n)).head = some k → s.get (if isSecond n then Fld.LPE_PES_PES1 (actOf n)
    else Fld.LPE_PES_PES0 (actOf n)) ≠ 0x8000 → s.uaOn n = false → ∃ t, exec (.microactuatorSample n) s = .next t ∧ ((t.la (actOf n)).head
    (isSecond n)).ua = 0 ∧ (t.get Fld.DRV_STAT_UAON).testBit n.val = false ∧ Keeps [.free, .lpe] [Fld.DRV_STAT_UAON] s t) ∧
  (∀ (s : State) n k, s.actOk (actOf n) = true → s.flag (drvOff (actOf n)) = false → s.lpe.held = false → s.d2d.remapAcked = false →
    s.loaded (actOf n) = true → ((s.msq (actOf n)).pos (isSecond n)).head = some k → s.get (if isSecond n then Fld.LPE_PES_PES1 (actOf n)
    else Fld.LPE_PES_PES0 (actOf n)) = 0x8000 → exec (.microactuatorSample n) s = .next s) ∧
  (∀ (s : State) pinA pinB mv, s.lpe.held = false → s.flag Fld.SPN_CTL_RUN = false → s.loaded .a = false → s.loaded .b = false → ∃ t, exec
    (.spindleSample pinA pinB mv) s = .next t ∧ t.spn.target = 0 ∧ t.spn.sampleAt = s.now ∧ Keeps [.free, .lpe, .msq, .rbk, .spn, .sys,
    .vale, .wrp] (modeFields ++ retractFields ++ [Fld.LPE_ARBS_OUT, Fld.LPE_ARBS_WIN, Fld.LPE_BANK_SWAP, Fld.LPE_BANK_ACTIVE,
    Fld.SPN_EV_INREG, Fld.SPN_EV_LEVEL, Fld.SPN_STAT_INREG, Fld.SPN_STAT_LOWV, Fld.SPN_PIN_TGT, Fld.SPN_PIN_RAW, Fld.SPN_PIN_VALID,
    Fld.SPN_CNT_VLIM, Fld.SPN_CNT_NARROW, Fld.SPN_CNT2_STARTS]) s t) ∧
  (∀ (s : State) pinA pinB mv, s.lpe.held = false → s.flag Fld.SPN_CTL_RUN = false → s.get Fld.SPN_CMDSRC_SRC = 0 → (s.loaded .a ||
    s.loaded .b) = true → s.spn.target = 7200 → s.spnState = spnStopped → ∃ t, exec (.spindleSample pinA pinB mv) s = .next t ∧
    t.spn.target = s.spn.target ∧ t.spn.sampleAt = s.now ∧ Keeps [.free, .lpe, .msq, .rbk, .spn, .sys, .vale, .wrp] (modeFields ++
    retractFields ++ [Fld.LPE_ARBS_OUT, Fld.LPE_ARBS_WIN, Fld.LPE_BANK_SWAP, Fld.LPE_BANK_ACTIVE, Fld.SPN_EV_INREG, Fld.SPN_EV_LEVEL,
    Fld.SPN_STAT_INREG, Fld.SPN_STAT_LOWV, Fld.SPN_PIN_TGT, Fld.SPN_PIN_RAW, Fld.SPN_PIN_VALID, Fld.SPN_CNT_VLIM, Fld.SPN_CNT_NARROW,
    Fld.SPN_CNT2_STARTS]) s t) ∧
  (∀ (s : State) mv, s.lpe.held = false → s.d2d.remapAcked = false → s.busTarget + 50 * s.feLim Fld.LPE_FEBUS_FE_LIM < mv → ∃ t, exec
    (.busVoltageSample mv) s = .next t ∧ t.lpe.feBus = s.lpe.feBus + 1 ∧ t.lpe.busOkSince = none ∧ t.lpe.buslim < 32768 ∧ Keeps [.free,
    .lpe] [] s t) ∧
  (∀ (s : State) mv, s.lpe.held = false → s.d2d.remapAcked = false → mv = s.busTarget → ∃ t, exec (.busVoltageSample mv) s = .next t ∧
    t.lpe.feBus = 0 ∧ Keeps [.free, .lpe] [] s t) ∧
  (∀ (s : State) n reading h, s.get (Fld.WRP_CFG_AMODE (actOf n)) = 1 → s.lgOpen (actOf n) (isSecond n) = true → s.lpe.held = false →
    s.d2d.remapAcked = false → ((s.msq (actOf n)).pos (isSecond n)).head = some h → s.laserSetp (actOf n) (isSecond n) + s.feLim
    Fld.LPE_FELAS_FE_LIM < reading → ∃ t, exec (.laserPowerSample n reading) s = .next t ∧ mget (fun _ => 0) t.lpe.feLas n.val = mget (fun
    _ => 0) s.lpe.feLas n.val + 1 ∧ Keeps [.free, .lpe, .wrp] [] s t) ∧
  (∀ (s : State) n reported h, ((s.msq (actOf n)).pos (isSecond n)).head = some h → s.lpe.held = false → s.actOk (actOf n) = true → (if
    isSecond n then (s.wrp (actOf n)).htr1 else (s.wrp (actOf n)).htr0) + s.feLim Fld.LPE_FEHTR_FE_LIM < reported → ∃ t, exec
    (.heaterSample n reported) s = .next t ∧ mget (fun _ => 0) t.lpe.feHtr n.val = mget (fun _ => 0) s.lpe.feHtr n.val + 1 ∧ Keeps [.ch,
    .lpe] [] s t) ∧
  (∀ (s : State) n reported h, ((s.msq (actOf n)).pos (isSecond n)).head = some h → s.lpe.held = false → s.actOk (actOf n) = true → (if
    isSecond n then (s.wrp (actOf n)).htr1 else (s.wrp (actOf n)).htr0) = reported → ∃ t, exec (.heaterSample n reported) s = .next t ∧
    mget (fun _ => 0) t.lpe.feHtr n.val = 0 ∧ Keeps [.ch, .lpe] [] s t)

/-- R407 to R429: the supervisors of LPE. -/
def Obligations.LoopSupervision : Prop :=
  (∀ (s : State) x, (s.loaded x || (s.la x).loading) = true → s.flag (lpeSearch x) = false → s.eff Fld.LPE_SERVO_COAST_MAX ≤ (s.la
    x).blind → ∃ t, exec (.searchStart x) s = .next t ∧ t.flag (lpeSearch x) = true ∧ (t.la x).searchRev = s.rev ∧ Keeps [.lpe, .rbk,
    .spn, .sys, .vale, .wrp] (modeFields ++ [Fld.LPE_STAT_SEARCH, ⟨Reg.LPE_STAT, 12, 1⟩]) s t) ∧
  (∀ (s : State) x, s.flag (lpeSearch x) = true → (s.la x).searchRev + s.eff Fld.LPE_SERVO_SEARCH_REV ≤ s.rev → (s.la x).loading = false →
    s.actOk x = true → s.flag (drvOff x) = false → ∃ t, exec (.searchExpiry x) s = .next t ∧ t.flag (byAct x Fld.LPE_FLT_RETA
    Fld.LPE_FLT_RETB) = true ∧ t.get (byAct x Fld.LPE_RET_REASONA Fld.LPE_RET_REASONB) = 1 ∧ t.loaded x = false ∧ t.flag (drvRet x) = true
    ∧ Keeps [.ang, .ch, .lpe, .mem, .msq, .plk, .rbk, .spn, .sys, .vale, .wrp] (errFields s x ++ modeFields ++ retractFields ++
    [Fld.LPE_FLT_RETA, Fld.LPE_FLT_RETB, Fld.LPE_RET_REASONA, Fld.LPE_RET_REASONB]) s t) ∧
  (∀ (s : State) x k w, s.flag (lpeSearch x) = true → (s.la x).searchRev + s.eff Fld.LPE_SERVO_SEARCH_REV ≤ s.rev → (s.la x).loading =
    true → s.actOk x = true → s.flag (drvOff x) = false → (s.msq x).running = some k → (s.msq x).work = [w] → w.kind = .loadh → w.begun =
    true → w.done = false → ∃ t, exec (.searchExpiry x) s = .next t ∧ t.flag (byAct x Fld.LPE_FLT_RETA Fld.LPE_FLT_RETB) = true ∧ (t.la
    x).loading = false ∧ t.flag (drvRet x) = true ∧ ((t.msq x).slot k).st = .fault ∧ ((t.msq x).slot k).fcode = errState ∧ Keeps [.ang,
    .ch, .lpe, .mem, .msq, .plk, .rbk, .spn, .sys, .vale, .wrp] (errFields s x ++ modeFields ++ retractFields ++ [Fld.LPE_FLT_RETA,
    Fld.LPE_FLT_RETB, Fld.LPE_RET_REASONA, Fld.LPE_RET_REASONB]) s t) ∧
  (∀ (s : State) x, s.rev < (s.la x).searchRev + s.eff Fld.LPE_SERVO_SEARCH_REV → exec (.searchExpiry x) s = .next s) ∧
  (∀ (s : State) loop, loop < 4 → s.feTime Fld.LPE_FEUA_FE_TIME ≤ ((s.la (if loop < 2 then .a else .b)).head (loop % 2 == 1)).fe → ∃ t,
    exec (.followingError loop) s = .next t ∧ t.rd Reg.LPE_FESTAT = (s.rd Reg.LPE_FESTAT ||| BitVec.ofNat 32 (2 ^ loop)) ∧ t.flag
    Fld.LPE_FLT_FE = true ∧ (t.get Fld.DRV_STAT_UAON).testBit loop = false ∧ Keeps [.lpe, .msq, .rbk, .wrp] (recFields ++ [Fld.LPE_FLT_FE,
    ⟨Reg.LPE_FESTAT, 0, 32⟩, Fld.DRV_STAT_UAON]) s t) ∧
  (∀ (s : State) loop, 4 ≤ loop → loop < 8 → s.feTime Fld.LPE_FELAS_FE_TIME ≤ mget (fun _ => 0) s.lpe.feLas (loop % 4) → ∃ t, exec
    (.followingError loop) s = .next t ∧ t.rd Reg.LPE_FESTAT = (s.rd Reg.LPE_FESTAT ||| BitVec.ofNat 32 (2 ^ loop)) ∧ t.flag
    Fld.LPE_FLT_FE = true ∧ Keeps [.lpe, .msq, .rbk, .wrp] (recFields ++ [Fld.LPE_FLT_FE, ⟨Reg.LPE_FESTAT, 0, 32⟩, Fld.DRV_STAT_UAON]) s
    t) ∧
  (∀ (s : State) loop n, 8 ≤ loop → loop < 12 → n = ((loop % 4 : Nat)) → s.feTime Fld.LPE_FEHTR_FE_TIME ≤ mget (fun _ => 0) s.lpe.feHtr n
    → ∃ t, exec (.followingError loop) s = .next t ∧ t.rd Reg.LPE_FESTAT = (s.rd Reg.LPE_FESTAT ||| BitVec.ofNat 32 (2 ^ loop)) ∧ t.flag
    Fld.LPE_FLT_FE = true ∧ ((t.msq (if n < 2 then .a else .b)).pos (n % 2 == 1)).heat = 0 ∧ Keeps [.lpe, .msq, .rbk, .wrp] (recFields ++
    [Fld.LPE_FLT_FE, ⟨Reg.LPE_FESTAT, 0, 32⟩, Fld.DRV_STAT_UAON]) s t) ∧
  (∀ (s : State), s.feTime Fld.LPE_FEBUS_FE_TIME ≤ s.lpe.feBus → ∃ t, exec (.followingError 12) s = .next t ∧ t.rd Reg.LPE_FESTAT = (s.rd
    Reg.LPE_FESTAT ||| 0x1000#32) ∧ t.flag Fld.LPE_FLT_FE = true ∧ t.lpe.busForbid = true ∧ Keeps [.lpe, .msq, .rbk, .wrp] (recFields ++
    [Fld.LPE_FLT_FE, ⟨Reg.LPE_FESTAT, 0, 32⟩, Fld.DRV_STAT_UAON]) s t) ∧
  (∀ (s : State) loop a, loop < 2 → (s.la (if loop = 0 then .a else .b)).satSince = some a → a + s.eff Fld.LPE_SAT_VSAT_TIME * 80000 ≤
    s.now → s.actOk (if loop = 0 then .a else .b) = true → ∃ t, exec (.outputSaturation loop) s = .next t ∧ t.flag (if loop = 0 then
    Fld.LPE_FLT_VSATA else Fld.LPE_FLT_VSATB) = true ∧ t.get (if loop = 0 then Fld.LPE_RET_REASONA else Fld.LPE_RET_REASONB) = 3 ∧
    t.loaded (if loop = 0 then .a else .b) = false ∧ t.faulted (if loop = 0 then .a else .b) = true ∧ Keeps [.lpe, .msq, .rbk, .spn, .sys,
    .vale, .wrp] (modeFields ++ retractFields ++ [Fld.SYS_FLT_ACT, Fld.SYS_MODE_DEGLAT, Fld.LPE_FLT_VSATA, Fld.LPE_FLT_VSATB,
    Fld.LPE_FLT_SSAT, Fld.LPE_RET_REASONA, Fld.LPE_RET_REASONB]) s t) ∧
  (∀ (s : State) a, s.lpe.sSatSince = some a → a + s.eff Fld.LPE_SAT_SSAT_TIME * 80000000 ≤ s.now → ∃ t, exec (.outputSaturation 2) s =
    .next t ∧ t.flag Fld.LPE_FLT_SSAT = true ∧ t.lpe.sSatSince = none ∧ Keeps [.lpe, .rbk] (recFields ++ [Fld.LPE_FLT_SSAT]) s t) ∧
  (∀ (s : State), s.actOk .a = true → (notedFields s .a ++ notedFields s .b).all (fun f => f.addr != Reg.LPE_OVR) = true → ∃ t, exec
    (.loopOverrun 0) s = .next t ∧ t.get Fld.LPE_OVR_OVR_CNTA = satAdd 12 (s.get Fld.LPE_OVR_OVR_CNTA) 1 ∧ (t.la .a).late = true ∧ (t.wrp
    .a).holding.testBit 4 = true ∧ Keeps [.ang, .ch, .lpe, .mem, .msq, .plk, .rbk, .spn, .sys, .vale, .wrp] (guardFields s .a ++
    guardFields s .b ++ modeFields ++ retractFields ++ [Fld.SYS_FLT_ACT, Fld.SYS_MODE_DEGLAT, Fld.LPE_EV_SAFEA, Fld.LPE_EV_SAFEB,
    Fld.LPE_FLT_OVRA, Fld.LPE_FLT_OVRB, Fld.LPE_STAT_SAFE, ⟨Reg.LPE_STAT, 10, 1⟩, Fld.LPE_OVR_OVR_CNTA, Fld.LPE_OVR_OVR_CNTB,
    Fld.LPE_OVR_OTHER, Fld.LPE_RET_REASONA, Fld.LPE_RET_REASONB]) s t) ∧
  (∀ (s : State), s.actOk .b = true → (s.la .b).ovr = 1 → s.flag (lpeSafe .b) = false → ∃ t, exec (.loopOverrun 1) s = .next t ∧ t.flag
    (lpeSafe .b) = true ∧ t.flag Fld.LPE_EV_SAFEB = true ∧ Keeps [.ang, .ch, .lpe, .mem, .msq, .plk, .rbk, .spn, .sys, .vale, .wrp]
    (guardFields s .a ++ guardFields s .b ++ modeFields ++ retractFields ++ [Fld.SYS_FLT_ACT, Fld.SYS_MODE_DEGLAT, Fld.LPE_EV_SAFEA,
    Fld.LPE_EV_SAFEB, Fld.LPE_FLT_OVRA, Fld.LPE_FLT_OVRB, Fld.LPE_STAT_SAFE, ⟨Reg.LPE_STAT, 10, 1⟩, Fld.LPE_OVR_OVR_CNTA,
    Fld.LPE_OVR_OVR_CNTB, Fld.LPE_OVR_OTHER, Fld.LPE_RET_REASONA, Fld.LPE_RET_REASONB]) s t) ∧
  (∀ (s : State), s.actOk .a = true → (s.la .a).ovrRevNo = s.rev → (s.la .a).ovrRev = 7 → ∃ t, exec (.loopOverrun 0) s = .next t ∧ t.flag
    Fld.LPE_FLT_OVRA = true ∧ t.get Fld.LPE_RET_REASONA = 2 ∧ t.faulted .a = true ∧ t.loaded .a = false ∧ Keeps [.ang, .ch, .lpe, .mem,
    .msq, .plk, .rbk, .spn, .sys, .vale, .wrp] (guardFields s .a ++ guardFields s .b ++ modeFields ++ retractFields ++ [Fld.SYS_FLT_ACT,
    Fld.SYS_MODE_DEGLAT, Fld.LPE_EV_SAFEA, Fld.LPE_EV_SAFEB, Fld.LPE_FLT_OVRA, Fld.LPE_FLT_OVRB, Fld.LPE_STAT_SAFE, ⟨Reg.LPE_STAT, 10, 1⟩,
    Fld.LPE_OVR_OVR_CNTA, Fld.LPE_OVR_OVR_CNTB, Fld.LPE_OVR_OTHER, Fld.LPE_RET_REASONA, Fld.LPE_RET_REASONB]) s t) ∧
  (∀ (s : State) loop, 2 ≤ loop → ∃ t, exec (.loopOverrun loop) s = .next t ∧ t.get Fld.LPE_OVR_OTHER = satAdd 8 (s.get Fld.LPE_OVR_OTHER)
    1 ∧ Keeps [] [Fld.LPE_OVR_OTHER] s t) ∧
  (∀ (s : State) x, s.flag (lpeSafe x) = true → 64 ≤ (s.la x).safeOk → ∃ t, exec (.safeLawExit x) s = .next t ∧ t.flag (lpeSafe x) = false
    ∧ (t.la x).safeOk = 0 ∧ Keeps [.lpe] [Fld.LPE_STAT_SAFE, ⟨Reg.LPE_STAT, 10, 1⟩] s t) ∧
  (∀ (s : State) loop bad, 2 ≤ loop → s.flag Fld.LPE_STAT_DUPLEX = true → s.actOk .a = true → s.actOk .b = true → (notedFields s .a ++
    notedFields s .b).all (fun f => f.addr != Reg.LPE_DUP) = true → ∃ t, exec (.lpeCopyMismatch loop bad) s = .next t ∧ t.flag
    Fld.LPE_STAT_DUPLEX = false ∧ t.flag Fld.LPE_STAT_COPY = (if bad = true then (s.flag Fld.LPE_STAT_COPY) else !(s.flag
    Fld.LPE_STAT_COPY)) ∧ t.get Fld.LPE_DUP_MISMATCH = satAdd 16 (s.get Fld.LPE_DUP_MISMATCH) 1 ∧ t.flag Fld.LPE_EV_TAKEOVER = true ∧
    (t.wrp .a).holding.testBit 4 = true ∧ (t.wrp .b).holding.testBit 4 = true ∧ Keeps [.ang, .ch, .lpe, .mem, .msq, .plk, .rbk, .spn,
    .sys, .vale, .wrp] (guardFields s .a ++ guardFields s .b ++ modeFields ++ [Fld.LPE_EV_TAKEOVER, Fld.LPE_STAT_DUPLEX,
    Fld.LPE_STAT_COPY, Fld.LPE_DUP_MISMATCH]) s t) ∧
  (∀ (s : State) bad, s.actOk .a = true → s.flag Fld.LPE_STAT_DUPLEX = true → (notedFields s .a ++ notedFields s .b).all (fun f => f.addr
    != Reg.LPE_DUP) = true → ∃ t, exec (.lpeCopyMismatch 0 bad) s = .next t ∧ t.flag Fld.LPE_STAT_DUPLEX = false ∧ t.get
    Fld.LPE_DUP_MISMATCH = satAdd 16 (s.get Fld.LPE_DUP_MISMATCH) 1 ∧ t.flag Fld.LPE_EV_TAKEOVER = true ∧ (t.wrp .a).holding.testBit 4 =
    true ∧ Keeps [.ang, .ch, .lpe, .mem, .msq, .plk, .rbk, .spn, .sys, .vale, .wrp] (guardFields s .a ++ guardFields s .b ++ modeFields ++
    [Fld.LPE_EV_TAKEOVER, Fld.LPE_STAT_DUPLEX, Fld.LPE_STAT_COPY, Fld.LPE_DUP_MISMATCH]) s t) ∧
  (∀ (s : State), s.flag Fld.LPE_STAT_DUPLEX = false → s.actOk .a = true → s.actOk .b = true → ∃ t, exec .simplexResidueFailure s = .next
    t ∧ t.lpe.held = true ∧ t.flag Fld.SYS_D2DSTAT_SAFE = true ∧ t.flag Fld.LPE_FLT_SIMPLEX = true ∧ t.get Fld.LPE_RET_REASONA = 4 ∧ t.get
    Fld.LPE_RET_REASONB = 4 ∧ (t.wrp .a).holding.testBit 4 = true ∧ (t.wrp .b).holding.testBit 4 = true ∧ Keeps [.ang, .ch, .lpe, .mem,
    .msq, .plk, .rbk, .spn, .sys, .vale, .wrp] (guardFields s .a ++ guardFields s .b ++ modeFields ++ retractFields ++
    [Fld.SYS_D2DSTAT_SAFE, Fld.LPE_FLT_SIMPLEX, Fld.LPE_RET_REASONA, Fld.LPE_RET_REASONB]) s t) ∧
  (∀ (s : State), s.flag Fld.LPE_STAT_DUPLEX = false → ∃ t, exec .readmit s = .next t ∧ t.flag Fld.LPE_CTL_READMIT = true ∧ t.get
    Fld.LPE_DUP_RDM = 1 ∧ Keeps [.lpe] [Fld.LPE_CTL_READMIT, Fld.LPE_DUP_RDM] s t) ∧
  (∀ (s : State), s.flag Fld.LPE_CTL_READMIT = true → s.lpe.readmitAt + 160000 ≤ s.now → ∃ t, exec (.readmitTestDone true) s = .next t ∧
    t.flag Fld.LPE_CTL_READMIT = false ∧ t.get Fld.LPE_DUP_RDM = 2 ∧ t.flag Fld.LPE_STAT_DUPLEX = true ∧ t.flag Fld.LPE_EV_READMIT = true
    ∧ Keeps [.rbk] (recFields ++ [Fld.LPE_EV_READMIT, Fld.LPE_STAT_DUPLEX, Fld.LPE_CTL_READMIT, Fld.LPE_DUP_RDM]) s t) ∧
  (∀ (s : State), s.flag Fld.LPE_CTL_READMIT = true → s.lpe.readmitAt + 160000 ≤ s.now → ∃ t, exec (.readmitTestDone false) s = .next t ∧
    t.flag Fld.LPE_CTL_READMIT = false ∧ t.get Fld.LPE_DUP_RDM = 3 ∧ t.flag Fld.LPE_STAT_DUPLEX = (s.flag Fld.LPE_STAT_DUPLEX) ∧ Keeps []
    [Fld.LPE_CTL_READMIT, Fld.LPE_DUP_RDM] s t) ∧
  (∀ (s : State) g, g < 3 → ∃ t, exec (.bankSwap g) s = .next t ∧ t.get Fld.LPE_BANK_SWAP = s.get Fld.LPE_BANK_SWAP ||| 2 ^ g ∧ Keeps
    [.lpe] [Fld.LPE_BANK_SWAP] s t)

/-- R422, R426 to R433: the coefficient port of LPE and the bridges of DRV. -/
def Obligations.CoefficientsAndDrive : Prop :=
  (∀ (s : State) i v g b w, s.coefPort = some (g, b, w) → s.flag Fld.LPE_COEFADDR_ACTV = false → coefNamed g w = true → ∃ t, exec
    (.coefdataAccess i true v) s = .next t ∧ mget coefDefault t.lpe.coef (coefIx g b w) = v ∧ t.get Fld.LPE_COEFADDR_WORD = (s.get
    Fld.LPE_COEFADDR_WORD + 1) % 4096 ∧ Keeps [.lpe] [Fld.LPE_COEFADDR_WORD] s t) ∧
  (∀ (s : State) i v, s.flag Fld.LPE_COEFADDR_ACTV = true → ∃ t, exec (.coefdataAccess i true v) s = .next t ∧ t.get Fld.LPE_COEFADDR_WORD
    = (s.get Fld.LPE_COEFADDR_WORD + 1) % 4096 ∧ Keeps [] [Fld.LPE_COEFADDR_WORD] s t) ∧
  (∀ (s : State) i v g b w, s.coefPort = some (g, b, w) → ∃ t, exec (.coefdataAccess i false v) s = .next t ∧ mget (fun _ => (0 : BitVec
    64)) t.bus.readData i.idx = (s.coefAt g b w).zeroExtend 64 ∧ t.get Fld.LPE_COEFADDR_WORD = (s.get Fld.LPE_COEFADDR_WORD + 1) % 4096 ∧
    Keeps [.bus] [Fld.LPE_COEFADDR_WORD] s t) ∧
  (∀ (s : State) x, s.flag (drvRet x) = true → s.retph ≠ 2 → s.thm.shut = false → ∃ t, exec (.retractDone x) s = .next t ∧ t.flag (drvRet
    x) = false ∧ t.flag (byAct x Fld.DRV_EV_RETDONEA Fld.DRV_EV_RETDONEB) = true ∧ Keeps [.sys, .rbk, .spn, .vale, .wrp] (modeFields ++
    [drvRet x, byAct x Fld.DRV_EV_RETDONEA Fld.DRV_EV_RETDONEB, Fld.SYS_EV_ACT]) s t) ∧
  (∀ (s : State) x, s.actOk x = true → s.flag (drvOff x) = false → (s.la x).ocAt = none → exec (.vcmOvercurrent x) s = .next (s.setLa x
    { s.la x with ocAt := some s.now, ocPause := true })) ∧
  (∀ (s : State) x a, s.actOk x = true → s.flag (drvOff x) = false → (s.la x).ocAt = some a → s.now < a + 800000 → ∃ t, exec
    (.vcmOvercurrent x) s = .next t ∧ t.flag (drvOff x) = true ∧ t.loaded x = false ∧ t.faulted x = true ∧ t.flag Fld.DRV_FLT_OC = true ∧
    Keeps [.lpe, .msq, .rbk, .spn, .sys, .vale, .wrp] (modeFields ++ retractFields ++ [Fld.SYS_FLT_ACT, Fld.SYS_MODE_DEGLAT,
    Fld.DRV_FLT_OC, Fld.DRV_STAT_OFFA, Fld.DRV_STAT_OFFB]) s t) ∧
  (∀ (s : State) x a, s.actOk x = true → s.flag (drvOff x) = false → (s.la x).ocAt = some a → a + 800000 ≤ s.now → exec (.vcmOvercurrent
    x) s = .next (s.setLa x { s.la x with ocAt := some s.now, ocPause := true })) ∧
  (∀ (s : State) x, s.actOk x = true → s.flag (drvOff x) = false → ∃ t, exec (.vcmOpenCoil x) s = .next t ∧ t.flag (drvOff x) = true ∧
    t.loaded x = false ∧ t.faulted x = true ∧ t.flag (byAct x Fld.DRV_FLT_OPENA Fld.DRV_FLT_OPENB) = true ∧ (t.la x).h0.ua = 0 ∧ (t.la
    x).h1.ua = 0 ∧ Keeps [.lpe, .msq, .rbk, .spn, .sys, .vale, .wrp] (modeFields ++ retractFields ++ [Fld.SYS_FLT_ACT,
    Fld.SYS_MODE_DEGLAT, Fld.DRV_FLT_OPENA, Fld.DRV_FLT_OPENB, Fld.DRV_STAT_OFFA, Fld.DRV_STAT_OFFB]) s t) ∧
  (∀ (s : State) k, k < 4 → s.actOk (if k < 2 then .a else .b) = true → ∃ t, exec (.uactOvercurrent k) s = .next t ∧ t.flag
    Fld.DRV_FLT_UAOC = true ∧ (t.get Fld.DRV_STAT_UAON).testBit k = false ∧ ((t.la (if k < 2 then .a else .b)).head (k % 2 == 1)).ua = 0 ∧
    Keeps [.lpe, .rbk] (recFields ++ [Fld.DRV_FLT_UAOC, Fld.DRV_STAT_UAON]) s t)

/-- R442 to R447, R457: the back-EMF of the spindle. -/
def Obligations.BackEmf : Prop :=
  (∀ (s : State) place amp handoff, s.spnState = spnStopped ∨ s.spnState = spnProbe ∨ s.spnState = spnShort → exec (.bemfCrossing place
    amp handoff) s = .next s) ∧
  (∀ (s : State) place amp handoff, s.spnState = spnL1 → place < 6 → s.eff Fld.SPN_BEMF_REST_MAX < amp → s.flag Fld.SPN_STAT_BEMFOK =
    false → s.spn.crossOk (s.flag Fld.SPN_STAT_DIR) place s.now = true → s.spn.valid = 5 → s.flag Fld.SPN_CTL_RUN = true → s.spnHold =
    false → s.spn.pinStop = false → ∃ t, exec (.bemfCrossing place amp handoff) s = .next t ∧ t.flag Fld.SPN_STAT_BEMFOK = true ∧ t.flag
    Fld.SPN_EV_BEMFOK = true ∧ t.spn.valid = 6 ∧ t.spn.place = some place ∧ Keeps [.lpe, .rbk, .spn, .sys, .vale, .wrp] (modeFields ++
    [Fld.ANG_EV_SRC, Fld.ANG_STAT_SRC, Fld.SPN_EV_BEMFLOST, Fld.SPN_EV_BEMFOK, Fld.SPN_EV_LEVEL, Fld.SPN_STAT_INREG, Fld.SPN_STAT_DIR,
    Fld.SPN_SPEED_RPM4, Fld.SPN_SPEED_DIR, Fld.SPN_CNT2_STARTS, Fld.SPN_CNT2_LOST]) s t) ∧
  (∀ (s : State) place amp handoff, s.spnState = spnSense → place < 6 → s.eff Fld.SPN_BEMF_REST_MAX < amp → s.flag Fld.SPN_STAT_BEMFOK =
    false → s.spn.crossOk (s.flag Fld.SPN_STAT_DIR) place s.now = false → s.flag Fld.SPN_CTL_RUN = true → s.spnHold = false →
    s.spn.pinStop = false → ∃ t, exec (.bemfCrossing place amp handoff) s = .next t ∧ t.spn.valid = 0 ∧ t.spn.place = s.spn.place ∧
    t.spn.interval = s.spn.interval ∧ Keeps [.lpe, .rbk, .spn, .sys, .vale, .wrp] (modeFields ++ [Fld.ANG_EV_SRC, Fld.ANG_STAT_SRC,
    Fld.SPN_EV_BEMFLOST, Fld.SPN_EV_BEMFOK, Fld.SPN_EV_LEVEL, Fld.SPN_STAT_INREG, Fld.SPN_STAT_DIR, Fld.SPN_SPEED_RPM4, Fld.SPN_SPEED_DIR,
    Fld.SPN_CNT2_STARTS, Fld.SPN_CNT2_LOST]) s t) ∧
  (∀ (s : State) place amp handoff, s.spnState = spnL2 → place < 6 → s.eff Fld.SPN_BEMF_REST_MAX < amp → amp < 10 * s.eff
    Fld.SPN_BEMF_BEMF_MIN → s.flag Fld.SPN_STAT_BEMFOK = true → ∃ t, exec (.bemfCrossing place amp handoff) s = .next t ∧ t.flag
    Fld.SPN_STAT_BEMFOK = false ∧ t.flag Fld.SPN_EV_BEMFLOST = true ∧ t.get Fld.SPN_CNT2_LOST = satAdd 8 (s.get Fld.SPN_CNT2_LOST) 1 ∧
    Keeps [.lpe, .rbk, .spn, .sys, .vale, .wrp] (modeFields ++ [Fld.ANG_EV_SRC, Fld.ANG_STAT_SRC, Fld.SPN_EV_BEMFLOST, Fld.SPN_EV_BEMFOK,
    Fld.SPN_EV_LEVEL, Fld.SPN_STAT_INREG, Fld.SPN_STAT_DIR, Fld.SPN_SPEED_RPM4, Fld.SPN_SPEED_DIR, Fld.SPN_CNT2_STARTS,
    Fld.SPN_CNT2_LOST]) s t) ∧
  (∀ (s : State), s.flag Fld.SPN_STAT_BEMFOK = true → ∃ t, exec .bemfLoss s = .next t ∧ t.flag Fld.SPN_STAT_BEMFOK = false ∧ t.flag
    Fld.SPN_EV_BEMFLOST = true ∧ t.get Fld.SPN_CNT2_LOST = satAdd 8 (s.get Fld.SPN_CNT2_LOST) 1 ∧ Keeps [.rbk, .spn, .sys, .vale, .wrp]
    (modeFields ++ [Fld.ANG_EV_SRC, Fld.ANG_STAT_SRC, Fld.SPN_EV_BEMFLOST, Fld.SPN_CNT2_LOST]) s t) ∧
  (∀ (s : State), s.flag Fld.SPN_STAT_BEMFOK = true → s.spnState = spnL1 → s.get Fld.ANG_STAT_SRC = 1 → s.flag Fld.SPN_CTL_RUN = true →
    s.spnHold = false → s.spn.pinStop = false → ∃ t, exec .bemfLoss s = .next t ∧ t.flag Fld.SPN_STAT_SRVCOM = true ∧ t.get
    Fld.SPN_STAT_STATE = spnL1 ∧ Keeps [.rbk, .spn, .sys, .vale, .wrp] (modeFields ++ [Fld.ANG_EV_SRC, Fld.ANG_STAT_SRC,
    Fld.SPN_EV_BEMFLOST, Fld.SPN_CNT2_LOST]) s t) ∧
  (∀ (s : State), s.flag Fld.SPN_STAT_BEMFOK = true → s.spnState = spnL2 → s.get Fld.ANG_STAT_SRC = 0 → s.flag Fld.SPN_CTL_RUN = true →
    s.spnHold = false → s.spn.pinStop = false → ∃ t, exec .bemfLoss s = .next t ∧ t.get Fld.SPN_STAT_STATE = spnCoast ∧ t.flag
    Fld.SPN_STAT_DRIVING = false ∧ t.spn.lostAt = some s.now ∧ Keeps [.rbk, .spn, .sys, .vale, .wrp] (modeFields ++ [Fld.ANG_EV_SRC,
    Fld.ANG_STAT_SRC, Fld.SPN_EV_BEMFLOST, Fld.SPN_CNT2_LOST]) s t) ∧
  (∀ (s : State) a, s.spnState = spnCoast → s.spn.lostAt = some a → a + 800000000 ≤ s.now → s.flag Fld.SPN_STAT_BEMFOK = false → ∃ t, exec
    .bemfCoastTimeout s = .next t ∧ t.flag Fld.SPN_FLT_BEMF = true ∧ t.flag Fld.SPN_CTL_RUN = false ∧ t.flag Fld.VALE_STAT_TOKEN = false ∧
    Keeps [.rbk, .spn, .sys, .vale, .wrp] (modeFields ++ [Fld.SPN_FLT_BEMF]) s t) ∧
  (∀ (s : State) amp, s.spnState = spnSense → s.spn.senseAt + s.eff Fld.SPN_START_SENSE_T * 800000 ≤ s.now → s.flag Fld.SPN_CTL_RUN = true
    → s.spnHold = false → s.spn.pinStop = false → s.spn.valid < 3 → amp ≤ s.eff Fld.SPN_BEMF_REST_MAX → ∃ t, exec (.senseTimeout amp) s =
    .next t ∧ t.get Fld.SPN_STAT_STATE = spnProbe ∧ Keeps [.lpe, .rbk, .spn, .sys, .vale, .wrp] modeFields s t) ∧
  (∀ (s : State) amp, s.spnState = spnSense → s.spn.senseAt + s.eff Fld.SPN_START_SENSE_T * 800000 ≤ s.now → s.flag Fld.SPN_CTL_RUN = true
    → s.spnHold = false → s.spn.pinStop = false → s.spn.valid < 3 → s.eff Fld.SPN_BEMF_REST_MAX < amp → ∃ t, exec (.senseTimeout amp) s =
    .next t ∧ t.get Fld.SPN_STAT_STATE = spnShort ∧ t.spn.toProbe = true ∧ Keeps [.lpe, .rbk, .spn, .sys, .vale, .wrp] modeFields s t)

/-- R456 to R464: how the spindle starts. -/
def Obligations.SpindleStart : Prop :=
  (∀ (s : State), s.flag Fld.SPN_CTL_RUN = true → s.flag Fld.SPN_STAT_KEBAD = false → s.spnHold = false → s.spn.pinStop = false → ∃ t,
    exec .startDecision s = .next t ∧ t.get Fld.SPN_STAT_STATE = spnSense ∧ t.get Fld.SPN_CNT2_STARTS = satAdd 16 (s.get
    Fld.SPN_CNT2_STARTS) 1 ∧ t.flag Fld.SPN_STAT_INREG = false ∧ t.flag Fld.SPN_STAT_BEMFOK = false ∧ Keeps [.rbk, .spn, .sys, .vale,
    .wrp] (modeFields ++ [Fld.SPN_STAT_INREG, Fld.SPN_CNT2_STARTS]) s t) ∧
  (∀ (s : State), s.flag Fld.SPN_CTL_RUN = false → exec .startDecision s = .next s) ∧
  (∀ (s : State) peaks, s.spnState = spnProbe → probeAmbiguous peaks = false → s.flag Fld.SPN_CTL_RUN = true → s.spnHold = false →
    s.spn.pinStop = false → ∃ t, exec (.probeComplete peaks) s = .next t ∧ t.get Fld.SPN_STAT_STATE = spnStep ∧ t.spn.probe = peakIndex
    peaks ∧ Keeps [.rbk, .spn, .sys, .vale, .wrp] (modeFields ++ [Fld.SPN_FLT_PROBE]) s t) ∧
  (∀ (s : State) peaks, s.spnState = spnProbe → probeAmbiguous peaks = true → s.spn.probed = false → exec (.probeComplete peaks) s = .next
    (s.setSpn { s.spn with probed := true })) ∧
  (∀ (s : State) peaks, s.spnState = spnProbe → probeAmbiguous peaks = true → s.spn.probed = true → ∃ t, exec (.probeComplete peaks) s =
    .next t ∧ t.flag Fld.SPN_FLT_PROBE = true ∧ t.flag Fld.SPN_CTL_RUN = false ∧ Keeps [.rbk, .spn, .sys, .vale, .wrp] (modeFields ++
    [Fld.SPN_FLT_PROBE]) s t) ∧
  (∀ (s : State) a, s.spn.handoffAt = some a → a + 1600000000 ≤ s.now → s.flag Fld.SPN_STAT_BEMFOK = false → s.spnState = spnL1 → ∃ t,
    exec .handoffTimeout s = .next t ∧ t.flag Fld.SPN_FLT_BEMF = true ∧ t.flag Fld.SPN_CTL_RUN = false ∧ Keeps [.rbk, .spn, .sys, .vale,
    .wrp] (modeFields ++ [Fld.SPN_FLT_BEMF]) s t) ∧
  (∀ (s : State), s.spnState = spnL2 → s.spn.ke = 0 → s.flag Fld.SPN_STAT_INREG = false → s.spn.keStart = false → 4 * s.spn.target ≤ 2 *
    s.speed4 → exec .keMeasurementStart s = .next (s.setSpn { s.spn with ke := 1, keStart := true })) ∧
  (∀ (s : State), s.spnState = spnL2 → s.spn.ke = 0 → s.anyGate = false → s.spn.keStart = true → s.flag Fld.SPN_CTL_KEREQ = true → exec
    .keMeasurementStart s = .next (s.setSpn { s.spn with ke := 2 })) ∧
  (∀ (s : State) ke, s.spn.ke ≠ 0 → keBeyond ke (s.get Fld.SPN_KENOM_NOM) 12 = false → ∃ t, exec (.keMeasurementDone ke) s = .next t ∧
    t.get Fld.SPN_KE_KE = min ke 0xFFFF ∧ t.flag Fld.SPN_CTL_KEREQ = false ∧ t.flag Fld.SPN_EV_KE = (s.flag Fld.SPN_EV_KE) ∧ t.spn.ke = 0
    ∧ t.spn.keAt = s.now ∧ Keeps [.free, .rbk, .spn, .sys, .vale, .wrp] (modeFields ++ [Fld.SPN_EV_KE, Fld.SPN_FLT_KE, Fld.SPN_STAT_KEBAD,
    Fld.SPN_CTL_KEREQ, Fld.SPN_KE_KE, Fld.SPN_KE_DEV]) s t) ∧
  (∀ (s : State) ke, s.spn.ke = 2 → keBeyond ke (s.get Fld.SPN_KENOM_NOM) 20 = true → ∃ t, exec (.keMeasurementDone ke) s = .next t ∧
    t.get Fld.SPN_KE_KE = min ke 0xFFFF ∧ t.flag Fld.SPN_EV_KE = true ∧ t.flag Fld.SPN_FLT_KE = true ∧ t.flag Fld.SPN_STAT_KEBAD = true ∧
    t.flag Fld.SPN_CTL_RUN = (s.flag Fld.SPN_CTL_RUN) ∧ Keeps [.free, .rbk, .spn, .sys, .vale, .wrp] (modeFields ++ [Fld.SPN_EV_KE,
    Fld.SPN_FLT_KE, Fld.SPN_STAT_KEBAD, Fld.SPN_CTL_KEREQ, Fld.SPN_KE_KE, Fld.SPN_KE_DEV]) s t) ∧
  (∀ (s : State) ke, s.spn.ke = 1 → keBeyond ke (s.get Fld.SPN_KENOM_NOM) 20 = true → ∃ t, exec (.keMeasurementDone ke) s = .next t ∧
    t.flag Fld.SPN_EV_KE = true ∧ t.flag Fld.SPN_FLT_KE = true ∧ t.flag Fld.SPN_STAT_KEBAD = true ∧ t.flag Fld.SPN_CTL_RUN = false ∧ Keeps
    [.free, .rbk, .spn, .sys, .vale, .wrp] (modeFields ++ [Fld.SPN_EV_KE, Fld.SPN_FLT_KE, Fld.SPN_STAT_KEBAD, Fld.SPN_CTL_KEREQ,
    Fld.SPN_KE_KE, Fld.SPN_KE_DEV]) s t) ∧
  (∀ (s : State), ∃ t, exec .kereq s = .next t ∧ t.flag Fld.SPN_CTL_KEREQ = true ∧ Keeps [] [Fld.SPN_CTL_KEREQ] s t) ∧
  (∀ (s : State) v, ∃ t, exec (.kenomWrite v) s = .next t ∧ t.flag Fld.SPN_STAT_KEBAD = false ∧ t.rd Reg.SPN_KENOM = v &&& 0xFFFF#32 ∧
    Keeps [] [Fld.SPN_STAT_KEBAD, ⟨Reg.SPN_KENOM, 0, 32⟩] s t) ∧
  (∀ (s : State), s.flag Fld.SPN_CTL_RUN = false → s.flag Fld.SPN_STAT_KEBAD = false → s.spnHold = false → s.spn.pinStop = false → s.flag
    Fld.VALE_CFG_TOKREQ = false → ∃ t, exec .runSet s = .next t ∧ t.flag Fld.SPN_CTL_RUN = true ∧ t.get Fld.SPN_STAT_STATE = spnSense ∧
    t.get Fld.SPN_CNT2_STARTS = satAdd 16 (s.get Fld.SPN_CNT2_STARTS) 1 ∧ Keeps [.rbk, .spn, .sys, .vale, .wrp] (modeFields ++
    [Fld.SPN_STAT_INREG, Fld.SPN_CNT2_STARTS]) s t) ∧
  (∀ (s : State), s.flag Fld.SPN_CTL_RUN = true ∨ s.flag Fld.SPN_STAT_KEBAD = true ∨ s.spnHold = true → exec .runSet s = .next s)

/-- R452 to R471: how the spindle stops. -/
def Obligations.SpindleStop : Prop :=
  (∀ (s : State), s.flag Fld.SPN_CTL_RUN = true → ∃ t, exec .runClear s = .next t ∧ t.flag Fld.SPN_CTL_RUN = false ∧ t.flag
    Fld.VALE_STAT_TOKEN = false ∧ t.spn.stopAt = some s.now ∧ Keeps [.rbk, .spn, .sys, .vale, .wrp] modeFields s t) ∧
  (∀ (s : State), s.flag Fld.SPN_CTL_RUN = true → s.loaded .a = false → s.loaded .b = false → s.spnState = spnL2 → 4 * s.eff
    Fld.SPN_BRAKE_SB_RPM ≤ s.speed4 → s.flag Fld.SPN_STAT_BEMFOK = true → ∃ t, exec .runClear s = .next t ∧ t.get Fld.SPN_STAT_STATE =
    spnDecel ∧ t.spn.target = 0 ∧ Keeps [.rbk, .spn, .sys, .vale, .wrp] modeFields s t) ∧
  (∀ (s : State) amp, s.spnState = spnShort → s.spn.ov2 = false → s.eff Fld.SPN_BEMF_REST_MAX < amp → exec (.shortBrakeWindow amp) s =
    .next (s.setSpn { s.spn with quietAt := none })) ∧
  (∀ (s : State) amp, s.spnState = spnShort → s.spn.ov2 = false → amp ≤ s.eff Fld.SPN_BEMF_REST_MAX → s.spn.quietAt = none → exec
    (.shortBrakeWindow amp) s = .next (s.setSpn { s.spn with quietAt := some s.now })) ∧
  (∀ (s : State) amp a, s.spnState = spnShort → s.spn.ov2 = false → amp ≤ s.eff Fld.SPN_BEMF_REST_MAX → s.spn.quietAt = some a → a +
    160000000 ≤ s.now → s.spn.toProbe = false → ∃ t, exec (.shortBrakeWindow amp) s = .next t ∧ t.get Fld.SPN_STAT_STATE = spnStopped ∧
    t.flag Fld.SPN_STAT_REST = true ∧ t.flag Fld.SPN_EV_STOPPED = true ∧ Keeps [.rbk, .spn, .sys, .vale, .wrp] (modeFields ++
    [Fld.SPN_EV_STOPPED]) s t) ∧
  (∀ (s : State) amp a, s.spnState = spnShort → s.spn.ov2 = false → amp ≤ s.eff Fld.SPN_BEMF_REST_MAX → s.spn.quietAt = some a → a +
    160000000 ≤ s.now → s.spn.toProbe = true → s.flag Fld.SPN_CTL_RUN = true → s.spnHold = false → s.spn.pinStop = false → ∃ t, exec
    (.shortBrakeWindow amp) s = .next t ∧ t.get Fld.SPN_STAT_STATE = spnProbe ∧ Keeps [.rbk, .spn, .sys, .vale, .wrp] (modeFields ++
    [Fld.SPN_EV_STOPPED]) s t) ∧
  (∀ (s : State) a, s.spn.stopAt = some a → a + s.eff Fld.SPN_BRAKE_STOP_TMO * 800000000 ≤ s.now → s.flag Fld.SPN_STAT_REST = false → ∃ t,
    exec .stopTimeout s = .next t ∧ t.flag Fld.SPN_FLT_STOP = true ∧ t.spn.stopAt = none ∧ t.spnState = s.spnState ∧ Keeps [.rbk, .spn]
    (recFields ++ [Fld.SPN_FLT_STOP]) s t) ∧
  (∀ (s : State), s.flag Fld.SPN_STAT_DRIVING = true → s.spn.ocAt = none → ∃ t, exec .spindleOvercurrent s = .next t ∧ t.get
    Fld.SPN_CNT2_OC = satAdd 8 (s.get Fld.SPN_CNT2_OC) 1 ∧ t.spn.ocPause = true ∧ t.flag Fld.SPN_STAT_DRIVING = false ∧ t.spn.ocAt = some
    s.now ∧ Keeps [.spn] [Fld.SPN_CNT2_OC, Fld.SPN_STAT_DRIVING] s t) ∧
  (∀ (s : State) a, s.flag Fld.SPN_STAT_DRIVING = true → s.spn.ocAt = some a → s.now < a + 800000000 → ∃ t, exec .spindleOvercurrent s =
    .next t ∧ t.get Fld.SPN_CNT2_OC = satAdd 8 (s.get Fld.SPN_CNT2_OC) 1 ∧ t.flag Fld.SPN_FLT_OC = true ∧ t.flag Fld.SPN_CTL_RUN = false ∧
    t.flag Fld.SPN_STAT_DRIVING = false ∧ Keeps [.rbk, .spn, .sys, .vale, .wrp] (modeFields ++ [Fld.SPN_FLT_OC, Fld.SPN_CNT2_OC]) s t) ∧
  (∀ (s : State), s.spn.ocPause = true → s.spn.ocAt.getD 0 + 8000 ≤ s.now → s.flag Fld.SPN_CTL_RUN = true → s.flag Fld.SPN_STAT_KEBAD =
    false → s.spnHold = false → s.spn.pinStop = false → ∃ t, exec .spindleOcPauseEnd s = .next t ∧ t.get Fld.SPN_STAT_STATE = spnSense ∧
    t.spn.ocPause = false ∧ Keeps [.rbk, .spn, .sys, .vale, .wrp] (modeFields ++ [Fld.SPN_STAT_INREG, Fld.SPN_CNT2_STARTS]) s t) ∧
  (∀ (s : State), s.spn.ocPause = false → exec .spindleOcPauseEnd s = .next s) ∧
  (∀ (s : State), s.spn.ov2 = true → s.spn.ov2End + 800000 ≤ s.now → s.flag Fld.PWR_STAT_OV2 = false → s.sys.retract = false → s.flag
    Fld.SYS_D2DSTAT_SAFE = false → s.flag Fld.SPN_CTL_RUN = true → s.flag Fld.SPN_STAT_KEBAD = false → s.spnHold = false → s.spn.pinStop =
    false → ∃ t, exec .ov2BrakeEnd s = .next t ∧ t.get Fld.SPN_STAT_STATE = spnSense ∧ t.spn.ov2 = false ∧ Keeps [.lpe, .msq, .rbk, .spn,
    .sys, .vale, .wrp] (modeFields ++ retractFields ++ [Fld.SPN_STAT_INREG, Fld.SPN_CNT2_STARTS]) s t) ∧
  (∀ (s : State), s.flag Fld.PWR_STAT_OV2 = true → exec .ov2BrakeEnd s = .next s) ∧
  (∀ (s : State), s.get Fld.SPN_CMDSRC_SRC ≠ 0 → ∃ t, exec .spdcmdInvalid s = .next t ∧ t.flag Fld.SPN_PIN_VALID = false ∧ t.flag
    Fld.SPN_EV_PININV = true ∧ t.get Fld.SPN_PIN_TGT = s.get Fld.SPN_PIN_TGT ∧ Keeps [.rbk] (recFields ++ [Fld.SPN_EV_PININV,
    Fld.SPN_PIN_VALID]) s t) ∧
  (∀ (s : State), s.get Fld.SPN_CMDSRC_SRC = 0 → exec .spdcmdInvalid s = .next s)

/-- R485 to R506, R788: what the measured VIN brings about. A comparison holds where VIN can count as beyond its threshold (R482). -/
def Obligations.SupplyThresholds : Prop :=
  (∀ (s : State) vin, mayBelow vin (10 * s.eff Fld.PWR_VINCFG_UVW) = true → s.pwr.vinSeen = true → s.retph = 0 → s.flag
    Fld.PWR_STAT_UVHOLD = false → s.actOk .a = true → s.actOk .b = true → (notedFields s .a ++ notedFields s .b).all (fun f => f.addr !=
    Reg.PWR_CNT) = true → ∃ t, exec (.vinUvwFall vin) s = .next t ∧ t.flag Fld.PWR_STAT_UVW = true ∧ t.flag Fld.PWR_STAT_UVHOLD = true ∧
    t.flag Fld.PWR_EV_UVW = true ∧ t.get Fld.PWR_CNT_UVW = satAdd 16 (s.get Fld.PWR_CNT_UVW) 1 ∧ t.pwr.dipAt = some s.now ∧ (t.wrp
    .a).holding.testBit 2 = true ∧ (t.wrp .b).holding.testBit 2 = true ∧ Keeps [.ang, .ch, .lpe, .mem, .msq, .plk, .pwr, .rbk, .sys,
    .vale, .wrp] (guardFields s .a ++ guardFields s .b ++ [Fld.PWR_EV_UVW, Fld.PWR_STAT_UVW, Fld.PWR_STAT_UVHOLD, Fld.PWR_VIN_VIN,
    Fld.PWR_VIN_VMIN, Fld.PWR_CNT_UVW]) s t) ∧
  (∀ (s : State) vin, mayBelow vin (10 * s.eff Fld.PWR_VINCFG_UVW) = true → s.pwr.vinSeen = false → ∃ t, exec (.vinUvwFall vin) s = .next
    t ∧ t.flag Fld.PWR_STAT_UVW = true ∧ t.get Fld.PWR_CNT_UVW = s.get Fld.PWR_CNT_UVW ∧ t.flag Fld.PWR_EV_UVW = (s.flag Fld.PWR_EV_UVW) ∧
    Keeps [] [Fld.PWR_STAT_UVW, Fld.PWR_VIN_VIN, Fld.PWR_VIN_VMIN] s t) ∧
  (∀ (s : State) vin, mayAbove vin (10 * s.eff Fld.PWR_VINCFG_UVW + 20) = true → s.retph = 0 → s.flag Fld.PWR_STAT_UVHOLD = true → ∃ t,
    exec (.vinUvwRelease vin) s = .next t ∧ t.flag Fld.PWR_STAT_UVW = false ∧ t.flag Fld.PWR_STAT_UVHOLD = false ∧ t.flag Fld.PWR_STAT_PLD
    = false ∧ t.flag Fld.PWR_EV_UVREL = true ∧ t.pwr.dipAt = none ∧ t.pwr.vinSeen = true ∧ (t.wrp .a).holding = (s.wrp .a).holding &&& 251
    ∧ (t.wrp .b).holding = (s.wrp .b).holding &&& 251 ∧ Keeps [.lpe, .pwr, .rbk, .wrp] (recFields ++ [Fld.PWR_EV_UVREL, Fld.PWR_STAT_UVW,
    Fld.PWR_STAT_UVHOLD, Fld.PWR_STAT_PLD, Fld.PWR_VIN_VIN, Fld.PWR_VIN_VMIN, Fld.WRP_EV_WGREL .a, Fld.WRP_EV_WGREL .b,
    Fld.LPE_STAT_REGION, ⟨Reg.LPE_STAT, 8, 2⟩]) s t) ∧
  (∀ (s : State) vin, mayBelow vin (10 * s.eff Fld.PWR_LOWV_VLOW) = true → s.flag Fld.PWR_STAT_LOWV = false → ∃ t, exec (.lowvSet vin) s =
    .next t ∧ t.flag Fld.PWR_STAT_LOWV = true ∧ t.flag Fld.PWR_EV_LOWV = true ∧ t.get Fld.PWR_VIN_VIN = min vin 0xFFFF ∧ Keeps [.rbk]
    (recFields ++ [Fld.PWR_EV_LOWV, Fld.PWR_STAT_LOWV, Fld.PWR_VIN_VIN, Fld.PWR_VIN_VMIN]) s t) ∧
  (∀ (s : State) vin, mayAbove vin (10 * s.eff Fld.PWR_LOWV_VLOW + 30) = true → ∃ t, exec (.lowvClear vin) s = .next t ∧ t.flag
    Fld.PWR_STAT_LOWV = false ∧ t.get Fld.PWR_VIN_VIN = min vin 0xFFFF ∧ t.get Fld.PWR_VIN_VMIN = min (min vin 0xFFFF) (s.get
    Fld.PWR_VIN_VMIN) ∧ Keeps [] [Fld.PWR_STAT_LOWV, Fld.PWR_VIN_VIN, Fld.PWR_VIN_VMIN, Fld.SPN_STAT_LOWV] s t) ∧
  (∀ (s : State) vin, mayAbove vin 1900 = true → s.flag Fld.PWR_STAT_OV1 = false → s.get Fld.PWR_CHOP_RBRK ≠ 0 → s.flag
    Fld.PWR_STAT_CHOPBLK = false → ∃ t, exec (.ov1 vin) s = .next t ∧ t.flag Fld.PWR_STAT_OV1 = true ∧ t.flag Fld.PWR_EV_OV1 = true ∧
    t.flag Fld.PWR_STAT_BRK = true ∧ Keeps [.pwr, .rbk] (recFields ++ [Fld.PWR_EV_OV1, Fld.PWR_STAT_OV1, Fld.PWR_STAT_BRK,
    Fld.PWR_VIN_VIN, Fld.PWR_VIN_VMIN]) s t) ∧
  (∀ (s : State) vin, mayAbove vin 1900 = true → s.flag Fld.PWR_STAT_OV1 = false → s.get Fld.PWR_CHOP_RBRK = 0 → ∃ t, exec (.ov1 vin) s =
    .next t ∧ t.flag Fld.PWR_STAT_OV1 = true ∧ t.flag Fld.PWR_EV_OV1 = true ∧ t.flag Fld.PWR_STAT_BRK = (s.flag Fld.PWR_STAT_BRK) ∧ Keeps
    [.pwr, .rbk] (recFields ++ [Fld.PWR_EV_OV1, Fld.PWR_STAT_OV1, Fld.PWR_STAT_BRK, Fld.PWR_VIN_VIN, Fld.PWR_VIN_VMIN]) s t) ∧
  (∀ (s : State) vin, mayAbove vin 2050 = true → s.flag Fld.PWR_STAT_OV2 = false → ∃ t, exec (.ov2 vin) s = .next t ∧ t.flag
    Fld.PWR_STAT_OV2 = true ∧ t.flag Fld.PWR_EV_OV2 = true ∧ t.get Fld.SPN_STAT_STATE = spnShort ∧ t.spn.ov2 = true ∧ Keeps [.rbk, .spn,
    .sys, .vale, .wrp] (modeFields ++ [Fld.PWR_EV_OV2, Fld.PWR_STAT_OV2, Fld.PWR_VIN_VIN, Fld.PWR_VIN_VMIN]) s t) ∧
  (∀ (s : State) vin, mayAbove vin 2250 = true → s.flag Fld.PWR_STAT_OV3 = false → ∃ t, exec (.ov3 vin) s = .next t ∧ t.flag
    Fld.PWR_STAT_OV3 = true ∧ t.flag Fld.PWR_EV_OV3 = true ∧ t.flag Fld.DRV_STAT_BOOSTOK = false ∧ Keeps [.lpe, .rbk] (recFields ++
    [Fld.PWR_EV_OV3, Fld.PWR_STAT_OV3, Fld.PWR_VIN_VIN, Fld.PWR_VIN_VMIN, Fld.LPE_ARB_OUT .a, Fld.LPE_ARB_WIN .a, Fld.LPE_ARB_OUT .b,
    Fld.LPE_ARB_WIN .b, Fld.DRV_STAT_UAON, Fld.DRV_STAT_BOOSTOK]) s t) ∧
  (∀ (s : State) vin, mayBelow vin 1850 = true → s.pwr.brkAt + 16000 ≤ s.now → ∃ t, exec (.ovRelease 1 vin) s = .next t ∧ t.flag
    Fld.PWR_STAT_OV1 = false ∧ t.flag Fld.PWR_STAT_BRK = false ∧ Keeps [.pwr, .spn] [Fld.PWR_STAT_OV1, Fld.PWR_STAT_OV2, Fld.PWR_STAT_OV3,
    Fld.PWR_STAT_BRK, Fld.PWR_VIN_VIN, Fld.PWR_VIN_VMIN, Fld.DRV_STAT_BOOSTOK] s t) ∧
  (∀ (s : State) vin, mayBelow vin 1850 = true → s.now < s.pwr.brkAt + 16000 → s.flag Fld.PWR_STAT_BRK = true → ∃ t, exec (.ovRelease 1
    vin) s = .next t ∧ t.flag Fld.PWR_STAT_OV1 = false ∧ t.flag Fld.PWR_STAT_BRK = true ∧ t.pwr.brkOff = true ∧ Keeps [.pwr, .spn]
    [Fld.PWR_STAT_OV1, Fld.PWR_STAT_OV2, Fld.PWR_STAT_OV3, Fld.PWR_STAT_BRK, Fld.PWR_VIN_VIN, Fld.PWR_VIN_VMIN, Fld.DRV_STAT_BOOSTOK] s t) ∧
  (∀ (s : State) vin, mayBelow vin 2000 = true → s.flag Fld.PWR_STAT_OV2 = true → ∃ t, exec (.ovRelease 2 vin) s = .next t ∧ t.flag
    Fld.PWR_STAT_OV2 = false ∧ t.spn = { s.spn with ov2End := s.now } ∧ Keeps [.spn] [Fld.PWR_STAT_OV2, Fld.PWR_VIN_VIN, Fld.PWR_VIN_VMIN]
    s t) ∧
  (∀ (s : State) vin, mayBelow vin 2200 = true → s.flag Fld.PWR_STAT_OV3 = true → ∃ t, exec (.ovRelease 3 vin) s = .next t ∧ t.flag
    Fld.PWR_STAT_OV3 = false ∧ t.flag Fld.DRV_STAT_BOOSTOK = (s.flag Fld.DRV_CFG_BOOSTEN) ∧ Keeps [.pwr, .spn] [Fld.PWR_STAT_OV1,
    Fld.PWR_STAT_OV2, Fld.PWR_STAT_OV3, Fld.PWR_STAT_BRK, Fld.PWR_VIN_VIN, Fld.PWR_VIN_VMIN, Fld.DRV_STAT_BOOSTOK] s t) ∧
  (∀ (s : State), s.get Fld.PWR_CHOP_RBRK ≠ 0 → s.flag Fld.PWR_STAT_BRK = true → s.pwr.brkAt + 16000 ≤ s.now → ∃ t, exec .chopOpen s =
    .next t ∧ t.flag Fld.PWR_EV_CHOP_OPEN = true ∧ t.flag Fld.PWR_STAT_CHOPBLK = true ∧ t.flag Fld.PWR_STAT_BRK = false ∧ Keeps [.rbk]
    (recFields ++ [Fld.PWR_EV_CHOP_OPEN, Fld.PWR_STAT_BRK, Fld.PWR_STAT_CHOPBLK]) s t) ∧
  (∀ (s : State), s.get Fld.PWR_CHOP_RBRK ≠ 0 → s.flag Fld.PWR_STAT_BRK = false → ∃ t, exec .chopStuck s = .next t ∧ t.flag
    Fld.PWR_EV_CHOP_STUCK = true ∧ t.flag Fld.PWR_STAT_CHOPBLK = true ∧ t.flag Fld.PWR_STAT_BRK = false ∧ Keeps [.rbk] (recFields ++
    [Fld.PWR_EV_CHOP_STUCK, Fld.PWR_STAT_BRK, Fld.PWR_STAT_CHOPBLK]) s t) ∧
  (∀ (s : State), ∃ t, exec .choprel s = .next t ∧ t.flag Fld.PWR_STAT_CHOPBLK = false ∧ Keeps [.pwr] [Fld.PWR_STAT_BRK,
    Fld.PWR_STAT_CHOPBLK] s t)

/-- R479 to R499: the rails and RETRACT. -/
def Obligations.RailsAndRetract : Prop :=
  (∀ (s : State), s.flag Fld.PWR_CTL_PREEN = true → s.actOk .a = true → (notedFields s .a ++ notedFields s .b).all (fun f => f.addr !=
    Reg.PWR_CTL) = true → ∃ t, exec .prerailFault s = .next t ∧ t.flag Fld.PWR_CTL_PREEN = false ∧ t.flag Fld.PWR_FLT_PRERAIL = true ∧
    t.get Fld.PWR_RAIL_OK = s.get Fld.PWR_RAIL_OK &&& 0x1F ∧ t.faulted .a = true ∧ t.loaded .a = false ∧ t.loaded .b = (s.loaded .b &&
    !s.actOk .b) ∧ Keeps [.lpe, .msq, .rbk, .spn, .sys, .vale, .wrp] (modeFields ++ retractFields ++ [Fld.SYS_FLT_ACT,
    Fld.SYS_MODE_DEGLAT, Fld.PWR_FLT_PRERAIL, Fld.PWR_CTL_PREEN, Fld.PWR_RAIL_OK]) s t) ∧
  (∀ (s : State), ∃ t, exec .preenWrite s = .next t ∧ t.flag Fld.PWR_CTL_PREEN = true ∧ t.get Fld.PWR_RAIL_OK = s.get Fld.PWR_RAIL_OK |||
    0x60 ∧ Keeps [] [Fld.PWR_CTL_PREEN, Fld.PWR_RAIL_OK] s t) ∧
  (∀ (s : State) phase, phase < 3 → s.get Fld.PWR_RAIL_PHASES = 7 → ∃ t, exec (.vcorePhaseDrop phase) s = .next t ∧ t.get
    Fld.PWR_RAIL_PHASES = 7 - 2 ^ phase ∧ t.flag Fld.PWR_EV_VCPHASE = true ∧ Keeps [.rbk] (recFields ++ [Fld.PWR_EV_VCPHASE,
    Fld.PWR_RAIL_PHASES]) s t) ∧
  (∀ (s : State) phase, phase < 2 → s.get Fld.PWR_RAIL_PHASES = 3 → ∃ t, exec (.vcorePhaseDrop phase) s = .next t ∧ t.pwr.bor = true ∧
    t.flag Fld.SYS_RSTCAUSE_BOR = true ∧ t.get Fld.PWR_RAIL_OK = 0 ∧ Keeps [.ang, .apc, .buf, .bus, .ccx, .ch, .cph, .d2d, .dbg, .free,
    .host, .hwd, .lpe, .mem, .msq, .now, .pins, .plk, .pwr, .rbk, .regs, .romPar, .spn, .sys, .thm, .vale, .wrp, .xsp] [] s t) ∧
  (∀ (s : State), popcount 3 (s.get Fld.PWR_RAIL_PHASES) = 2 → ∃ t, exec .vcoreCurrentLimit s = .next t ∧ t.flag Fld.PWR_EV_VCLIM = true ∧
    t.flag Fld.THM_STAT_THROT = true ∧ t.pwr = { s.pwr with vcThrot := true } ∧ Keeps [.pwr, .rbk] (recFields ++ [Fld.PWR_EV_VCLIM,
    Fld.THM_STAT_THROT]) s t) ∧
  (∀ (s : State), ∃ t, exec .vcoreCurrentLimitEnd s = .next t ∧ t.pwr = { s.pwr with vcThrot := false } ∧ t.flag Fld.THM_STAT_THROT =
    (s.flag Fld.THM_STAT_WARN) ∧ Keeps [.pwr] [Fld.THM_STAT_THROT] s t) ∧
  (∀ (s : State), s.pwr.dipAt = none → exec .dipTimerExpiry s = .next s) ∧
  (∀ (s : State) a, s.pwr.dipAt = some a → a + s.dipTicks ≤ s.now → s.retph = 0 → s.thm.shut = false → s.pwr.bor = false → s.belowDstg =
    false → (notedFields s .a ++ notedFields s .b).all (fun f => f.addr != Reg.PWR_CNT) = true → ∃ t, exec .dipTimerExpiry s = .next t ∧
    t.get Fld.PWR_STAT_RETPH = 1 ∧ t.flag Fld.PWR_STAT_ISO = false ∧ t.flag Fld.PWR_EV_RETRACT = true ∧ t.get Fld.PWR_CNT_RET = satAdd 8
    (s.get Fld.PWR_CNT_RET) 1 ∧ t.sys.retract = true ∧ t.get Fld.SPN_STAT_STATE = spnRect ∧ t.pwr.dipAt = none ∧ t.pwr.retAt = s.now ∧
    Keeps [.ang, .ch, .lpe, .mem, .msq, .plk, .pwr, .rbk, .spn, .sys, .vale, .wrp] (guardFields s .a ++ guardFields s .b ++ modeFields ++
    retractFields ++ [Fld.PWR_EV_RETRACT, Fld.PWR_STAT_UVHOLD, Fld.PWR_STAT_ISO, Fld.PWR_STAT_RETPH, Fld.PWR_CNT_RET]) s t) ∧
  (∀ (s : State) vin, mayBelow vin s.pldThr = true → s.pwr.vinSeen = true → s.retph = 0 → s.thm.shut = false → s.pwr.bor = false →
    (notedFields s .a ++ notedFields s .b).all (fun f => f.addr != Reg.PWR_CNT) = true → ∃ t, exec (.vinPldFall vin) s = .next t ∧ t.flag
    Fld.PWR_STAT_PLD = true ∧ t.get Fld.PWR_CNT_PLD = satAdd 8 (s.get Fld.PWR_CNT_PLD) 1 ∧ t.flag Fld.PWR_STAT_ISO = false ∧ t.flag
    Fld.PWR_EV_RETRACT = true ∧ t.get Fld.PWR_CNT_RET = satAdd 8 (s.get Fld.PWR_CNT_RET) 1 ∧ t.sys.retract = true ∧ t.get
    Fld.SPN_STAT_STATE = spnRect ∧ Keeps [.ang, .ch, .lpe, .mem, .msq, .plk, .pwr, .rbk, .spn, .sys, .vale, .wrp] (guardFields s .a ++
    guardFields s .b ++ modeFields ++ retractFields ++ [Fld.PWR_EV_RETRACT, Fld.PWR_STAT_UVHOLD, Fld.PWR_STAT_PLD, Fld.PWR_STAT_ISO,
    Fld.PWR_STAT_RETPH, Fld.PWR_VIN_VIN, Fld.PWR_VIN_VMIN, Fld.PWR_CNT_PLD, Fld.PWR_CNT_RET]) s t) ∧
  (∀ (s : State), s.retph = 0 → s.thm.shut = false → s.pwr.bor = false → (notedFields s .a ++ notedFields s .b).all (fun f => f.addr !=
    Reg.PWR_CNT) = true → ∃ t, exec .retractEntry s = .next t ∧ t.flag Fld.PWR_STAT_ISO = false ∧ t.flag Fld.PWR_EV_RETRACT = true ∧ t.get
    Fld.PWR_CNT_RET = satAdd 8 (s.get Fld.PWR_CNT_RET) 1 ∧ t.sys.retract = true ∧ t.get Fld.SPN_STAT_STATE = spnRect ∧ Keeps [.ang, .ch,
    .lpe, .mem, .msq, .plk, .pwr, .rbk, .spn, .sys, .vale, .wrp] (guardFields s .a ++ guardFields s .b ++ modeFields ++ retractFields ++
    [Fld.PWR_EV_RETRACT, Fld.PWR_STAT_UVHOLD, Fld.PWR_STAT_ISO, Fld.PWR_STAT_RETPH, Fld.PWR_CNT_RET]) s t) ∧
  (∀ (s : State), s.retph ≠ 0 → exec .retractEntry s = .next s) ∧
  (∀ (s : State), s.retph = 1 → s.actOk .a = true → s.actOk .b = true → ∃ t, exec .retractEndWrite s = .next t ∧ t.get Fld.PWR_STAT_RETPH
    = 2 ∧ t.flag Fld.PWR_STAT_UVHOLD = true ∧ (t.wrp .a).holding.testBit 2 = true ∧ (t.wrp .b).holding.testBit 2 = true ∧ t.flag
    (Fld.MSQ_CTL_HOLD .a) = true ∧ t.flag (Fld.MSQ_CTL_HOLD .b) = true ∧ t.loaded .a = false ∧ t.loaded .b = false ∧ Keeps [.ang, .ch,
    .lpe, .mem, .msq, .plk, .rbk, .spn, .sys, .vale, .wrp] (guardFields s .a ++ guardFields s .b ++ modeFields ++ retractFields ++
    [Fld.PWR_STAT_UVHOLD, Fld.PWR_STAT_RETPH]) s t) ∧
  (∀ (s : State), s.retph = 1 → s.pwr.retAt + s.tmax ≤ s.now → s.actOk .a = true → s.actOk .b = true → ∃ t, exec .mediaPhaseEnd s = .next
    t ∧ t.get Fld.PWR_STAT_RETPH = 2 ∧ t.flag Fld.PWR_STAT_UVHOLD = true ∧ (t.wrp .a).holding.testBit 2 = true ∧ (t.wrp
    .b).holding.testBit 2 = true ∧ t.flag (Fld.MSQ_CTL_HOLD .a) = true ∧ t.flag (Fld.MSQ_CTL_HOLD .b) = true ∧ t.loaded .a = false ∧
    t.loaded .b = false ∧ Keeps [.ang, .ch, .lpe, .mem, .msq, .plk, .rbk, .spn, .sys, .vale, .wrp] (guardFields s .a ++ guardFields s .b
    ++ modeFields ++ retractFields ++ [Fld.PWR_STAT_UVHOLD, Fld.PWR_STAT_RETPH]) s t) ∧
  (∀ (s : State), s.retph = 1 → ∃ t, exec .retractDoneWrite s = .next t ∧ t.pwr = { s.pwr with done := true } ∧ Keeps [.pwr] [] s t) ∧
  (∀ (s : State), s.retph = 2 → s.bothParked = true → ∃ t, exec .retractDoneWrite s = .next t ∧ t.get Fld.PWR_STAT_RETPH = 3 ∧ t.pwr.bor =
    true ∧ t.pwr.brakeBor = true ∧ t.get Fld.PWR_RAIL_OK = 0 ∧ t.get Fld.SPN_STAT_STATE = spnShort ∧ Keeps [.ang, .apc, .buf, .bus, .ccx,
    .ch, .cph, .d2d, .dbg, .free, .host, .hwd, .lpe, .mem, .msq, .now, .pins, .plk, .pwr, .rbk, .regs, .romPar, .spn, .sys, .thm, .vale,
    .wrp, .xsp] [] s t) ∧
  (∀ (s : State), s.retph = 2 → s.bothParked = true → ∃ t, exec (.brakePhase true) s = .next t ∧ t.get Fld.PWR_STAT_RETPH = 3 ∧ t.pwr.bor
    = true ∧ t.pwr.brakeBor = true ∧ t.get Fld.PWR_RAIL_OK = 0 ∧ t.get Fld.SPN_STAT_STATE = spnShort ∧ Keeps [.ang, .apc, .buf, .bus,
    .ccx, .ch, .cph, .d2d, .dbg, .free, .host, .hwd, .lpe, .mem, .msq, .now, .pins, .plk, .pwr, .rbk, .regs, .romPar, .spn, .sys, .thm,
    .vale, .wrp, .xsp] [] s t) ∧
  (∀ (s : State) late, s.retph ≠ 2 → exec (.brakePhase late) s = .next s) ∧
  (∀ (s : State) straps memOk vin, s.pwr.bor = true → s.pwr.brakeBor = true → mayAbove vin (s.uvwThr + 20) = true → ∃ t, exec
    (.brakeBorExit straps memOk vin) s = .next t ∧ t.get Fld.PWR_STAT_RETPH = 0 ∧ t.get Fld.PWR_RAIL_OK = 0x7F ∧ t.pwr.bor = false ∧
    t.pwr.brakeBor = false ∧ t.flag Fld.PWR_STAT_ISO = true ∧ t.flag Fld.SYS_COMPAT_GEN7 = straps.gen7 ∧ Keeps [.host, .pins, .pwr, .rbk,
    .spn, .sys, .vale, .wrp] (modeFields ++ [Fld.SYS_COMPAT_GEN7, Fld.PWR_STAT_ISO, Fld.PWR_STAT_RETPH, Fld.PWR_VIN_VIN, Fld.PWR_VIN_VMIN,
    Fld.PWR_RAIL_OK, Fld.SPN_STAT_INREG, Fld.SPN_CNT2_STARTS, Fld.MEM_EV_STFAIL, Fld.MEM_STAT_DIS, ⟨Reg.INTC_CORE, 0, 32⟩,
    Fld.XSP_EV_SLOW, Fld.XSP_STAT_READY, Fld.XSP_STAT_OCTAL, Fld.XSP_STAT_SIZE]) s t)

/-- R510 to R522: the thermal unit. -/
def Obligations.Thermal : Prop :=
  (∀ (s : State) ts therm pre, thmValid (-40) 150 (ts.getD 0 none) = none → s.thm.invalid.testBit 0 = false → ∃ t, exec (.thmSample ts
    therm pre) s = .next t ∧ t.get Fld.THM_TS01_LOW = 0x8000 ∧ t.flag Fld.THM_FLT_SENSOR = true ∧ t.thm.invalid.testBit 0 = true ∧ Keeps
    [.rbk, .thm] (recFields ++ [Fld.THM_EV_BAND, Fld.THM_EV_WARNREL, Fld.THM_EV_BASE, Fld.THM_FLT_SENSOR, Fld.THM_STAT_BVALID,
    Fld.THM_STAT_WARN, Fld.THM_STAT_THROT, Fld.THM_STAT_FAST, Fld.THM_STAT_BAND, Fld.THM_STAT_BANDA, Fld.THM_STAT_BANDB, Fld.THM_TS01_LOW,
    Fld.THM_TS01_HIGH, Fld.THM_TS23_LOW, Fld.THM_TS23_HIGH, Fld.THM_TS45_LOW, Fld.THM_TS45_HIGH, Fld.THM_EXT_LOW, Fld.THM_EXT_HIGH,
    Fld.THM_SHUT_PEAK, Fld.THM_PEAK_PEAK]) s t) ∧
  (∀ (s : State) ts therm pre v, thmValid (-40) 150 (ts.getD 3 none) = some v → ∃ t, exec (.thmSample ts therm pre) s = .next t ∧ t.get
    Fld.THM_TS23_HIGH = unsgn 16 v ∧ Keeps [.rbk, .thm] (recFields ++ [Fld.THM_EV_BAND, Fld.THM_EV_WARNREL, Fld.THM_EV_BASE,
    Fld.THM_FLT_SENSOR, Fld.THM_STAT_BVALID, Fld.THM_STAT_WARN, Fld.THM_STAT_THROT, Fld.THM_STAT_FAST, Fld.THM_STAT_BAND,
    Fld.THM_STAT_BANDA, Fld.THM_STAT_BANDB, Fld.THM_TS01_LOW, Fld.THM_TS01_HIGH, Fld.THM_TS23_LOW, Fld.THM_TS23_HIGH, Fld.THM_TS45_LOW,
    Fld.THM_TS45_HIGH, Fld.THM_EXT_LOW, Fld.THM_EXT_HIGH, Fld.THM_SHUT_PEAK, Fld.THM_PEAK_PEAK]) s t) ∧
  (∀ (s : State), s.flag Fld.THM_STAT_WARN = false → ∃ t, exec .tjWarn s = .next t ∧ t.flag Fld.THM_STAT_WARN = true ∧ t.flag
    Fld.THM_STAT_FAST = true ∧ t.flag Fld.THM_STAT_THROT = true ∧ t.flag Fld.THM_EV_WARN = true ∧ t.thm = { s.thm with calm := 0 } ∧ Keeps
    [.rbk, .thm] (recFields ++ [Fld.THM_EV_WARN, Fld.THM_STAT_WARN, Fld.THM_STAT_THROT, Fld.THM_STAT_FAST]) s t) ∧
  (∀ (s : State) sensor peak, s.thm.shut = false → s.pwr.bor = false → sensor < 6 → s.shutAt ≤ peak → ∃ t, exec (.tjShut sensor peak) s =
    .next t ∧ t.thm.shut = true ∧ t.get Fld.THM_SHUT_SENSOR = sensor ∧ t.get Fld.THM_SHUT_RET = b2n (s.retph != 0) ∧ t.get
    Fld.THM_SHUT_COUNT = satAdd 8 (s.get Fld.THM_SHUT_COUNT) 1 ∧ t.flag Fld.SYS_D2DSTAT_SAFE = true ∧ Keeps [.ang, .apc, .buf, .bus, .ccx,
    .ch, .cph, .d2d, .dbg, .free, .host, .hwd, .lpe, .mem, .msq, .now, .pins, .plk, .pwr, .rbk, .regs, .romPar, .spn, .sys, .thm, .vale,
    .wrp, .xsp] [] s t) ∧
  (∀ (s : State) f pairs a, s.sys.cooldown = true → s.thm.coolSince = some a → a + 800000000 ≤ s.now → ∃ t, exec (.thermalReset f pairs) s
    = .next t ∧ t.flag Fld.SYS_RSTCAUSE_THERMAL = true ∧ t.flag Fld.THM_EV_THERMAL = true ∧ t.sys.cooldown = false ∧ t.thm.shut = false ∧
    t.thm.coolSince = none ∧ t.flag Fld.SYS_D2DSTAT_SAFE = false ∧ Keeps [.ang, .apc, .buf, .bus, .ccx, .ch, .cph, .d2d, .dbg, .free,
    .host, .hwd, .lpe, .mem, .msq, .now, .pins, .plk, .pwr, .rbk, .regs, .romPar, .spn, .sys, .thm, .vale, .wrp, .xsp] [] s t) ∧
  (∀ (s : State) f pairs, s.sys.cooldown = false → exec (.thermalReset f pairs) s = .next s)

/-- R432, R484, R760 to R765, R784: the resets. -/
def Obligations.Resets : Prop :=
  (∀ (s : State) p memOk, ∃ t, exec (.por p memOk) s = .next t ∧ t.flag Fld.SYS_RSTCAUSE_POR = true ∧ t.flag Fld.SYS_RSTCAUSE_BOR = false
    ∧ t.flag Fld.SYS_RSTCAUSE_PIN = false ∧ t.flag Fld.SYS_RSTCAUSE_WARM = false ∧ t.get Fld.PWR_RAIL_OK = 0x7F ∧ t.flag Fld.PWR_STAT_ISO
    = true ∧ t.pwr.bor = false ∧ t.flag Fld.SYS_COMPAT_GEN7 = p.gen7 ∧ t.pins.hifsel = p.hifsel ∧ t.flag Fld.MEM_STAT_DIS = !memOk ∧
    t.xsp.flash = s.xsp.flash ∧ (∀ a, (regDesc a).isSome = true → startFields.all (fun f => f.addr != a) = true → t.rd a = regReset a) ∧
    Keeps [.ang, .apc, .buf, .bus, .ccx, .ch, .cph, .d2d, .dbg, .free, .host, .hwd, .lpe, .mem, .msq, .now, .pins, .plk, .pwr, .rbk,
    .regs, .romPar, .spn, .sys, .thm, .vale, .wrp, .xsp] [] s t) ∧
  (∀ (s : State), s.pwr.bor = false → ∃ t, exec .bor s = .next t ∧ t.flag Fld.SYS_RSTCAUSE_BOR = true ∧ t.get Fld.PWR_RAIL_OK = 0 ∧
    t.pwr.bor = true ∧ t.pwr.brakeBor = false ∧ t.rd Reg.PWR_CNT = s.rd Reg.PWR_CNT ∧ t.xsp.flash = s.xsp.flash ∧ (∀ a o d, regDesc a =
    some (o, d) → clearedAt d.clr 6 = true → startFields.all (fun f => f.addr != a) = true → t.rd a = regReset a) ∧ Keeps [.ang, .apc,
    .buf, .bus, .ccx, .ch, .cph, .d2d, .dbg, .free, .host, .hwd, .lpe, .mem, .msq, .now, .pins, .plk, .pwr, .rbk, .regs, .romPar, .spn,
    .sys, .thm, .vale, .wrp, .xsp] [] s t) ∧
  (∀ (s : State), s.pwr.bor = true → exec .bor s = .next s) ∧
  (∀ (s : State), s.retph ≠ 0 → s.pwr.bor = false → exec .pinReset s = .next ({ s with pins := { s.pins with resetWaits := true } })) ∧
  (∀ (s : State), s.retph = 0 → s.pwr.bor = false → ∃ t, exec .pinReset s = .next t ∧ t.pins.resetL = true ∧ t.flag Fld.SYS_RSTCAUSE_PIN =
    true ∧ t.flag Fld.SYS_D2DSTAT_SAFE = true ∧ t.flag (drvOff .a) = false ∧ t.flag (drvRet .a) = true ∧ (t.wrp .a).gates = [] ∧ (t.wrp
    .b).gates = [] ∧ (∀ a o d, regDesc a = some (o, d) → clearedAt d.clr 5 = true → (startFields ++ retractFields ++
    [Fld.SYS_D2DSTAT_SAFE]).all (fun f => f.addr != a) = true → t.rd a = regReset a) ∧ Keeps [.ang, .apc, .buf, .bus, .ccx, .ch, .cph,
    .d2d, .dbg, .free, .host, .hwd, .lpe, .mem, .msq, .now, .pins, .plk, .pwr, .rbk, .regs, .romPar, .spn, .sys, .thm, .vale, .wrp, .xsp]
    [] s t) ∧
  (∀ (s : State), s.pwr.bor = true → ∃ t, exec .pinReset s = .next t ∧ t.flag Fld.SYS_RSTCAUSE_PIN = true ∧ t.pins =
    { s.pins with resetL := true } ∧ Keeps [.pins] [Fld.SYS_RSTCAUSE_PIN] s t) ∧
  (∀ (s : State) p memOk, s.pins.resetL = true → s.pwr.bor = false → s.thm.shut = false → s.spn.pinStop = false → ∃ t, exec
    (.pinResetRelease p memOk) s = .next t ∧ t.pins.resetL = false ∧ t.pins.gen7 = p.gen7 ∧ t.pins.hifsel = p.hifsel ∧ t.flag
    Fld.SYS_COMPAT_GEN7 = p.gen7 ∧ t.flag Fld.SYS_D2DSTAT_SAFE = false ∧ t.host.startAt = s.now ∧ Keeps [.host, .pins, .rbk, .spn, .sys,
    .vale, .wrp] (modeFields ++ [Fld.SYS_COMPAT_GEN7, Fld.SYS_D2DSTAT_SAFE, Fld.SPN_STAT_INREG, Fld.SPN_CNT2_STARTS, Fld.MEM_EV_STFAIL,
    Fld.MEM_STAT_DIS, ⟨Reg.INTC_CORE, 0, 32⟩, Fld.XSP_EV_SLOW, Fld.XSP_STAT_READY, Fld.XSP_STAT_OCTAL, Fld.XSP_STAT_SIZE]) s t) ∧
  (∀ (s : State) p memOk, s.pins.resetL = true → s.pwr.bor = false → s.thm.shut = false → p.spinup = false → ∃ t, exec (.pinResetRelease p
    memOk) s = .next t ∧ t.get Fld.SPN_STAT_STATE = spnSense ∧ t.spn.pinSense = true ∧ t.flag Fld.SPN_STAT_BEMFOK = false ∧ Keeps [.host,
    .pins, .rbk, .spn, .sys, .vale, .wrp] (modeFields ++ [Fld.SYS_COMPAT_GEN7, Fld.SYS_D2DSTAT_SAFE, Fld.SPN_STAT_INREG,
    Fld.SPN_CNT2_STARTS, Fld.MEM_EV_STFAIL, Fld.MEM_STAT_DIS, ⟨Reg.INTC_CORE, 0, 32⟩, Fld.XSP_EV_SLOW, Fld.XSP_STAT_READY,
    Fld.XSP_STAT_OCTAL, Fld.XSP_STAT_SIZE]) s t) ∧
  (∀ (s : State) p memOk, s.pins.resetL = false → exec (.pinResetRelease p memOk) s = .next
    ({ s with pins := { s.pins with resetWaits := false } })) ∧
  (∀ (s : State) src pairs verified, src < 16 → ∃ t, exec (.warmReset src pairs verified) s = .next t ∧ t.flag Fld.SYS_RSTCAUSE_WARM =
    true ∧ t.get Fld.SYS_RSTCAUSE_WSRC = src ∧ t.flag Fld.HIF_EV_HOSTRST = true ∧ t.ccx.ctxs = [] ∧ t.buf = BufSt.empty ∧ Keeps [.ang,
    .apc, .buf, .ccx, .ch, .cph, .host, .lpe, .mem, .msq, .pins, .plk, .rbk, .regs, .spn, .sys, .vale, .wrp, .xsp] [] s t) ∧
  (∀ (s : State) x svc, s.actOk x = true → ∃ t, exec (.actuatorReset x svc) s = .next t ∧ t.flag (byAct x Fld.SYS_RSTCAUSE_ACTA
    Fld.SYS_RSTCAUSE_ACTB) = true ∧ t.flag (Fld.MSQ_CTL_HOLD x) = true ∧ t.flag (drvRet x) = true ∧ t.flag (drvOff x) = false ∧ t.loaded x
    = false ∧ t.faulted x = false ∧ (t.la x).h0.ua = 0 ∧ (t.msq x).running = none ∧ (t.wrp x).gates = [] ∧ Keeps [.ang, .ch, .lpe, .mem,
    .msq, .plk, .rbk, .regs, .spn, .sys, .vale, .wrp] [] s t) ∧
  (∀ (s : State) x svc, s.actOk x = false → exec (.actuatorReset x svc) s = .next s)

/-- No command of the table stops the block (log 2): each has an effect on every state. -/
def Obligations.EveryCommandCompletes : Prop :=
  ∀ (s : State) (c : Instr), (∃ t, exec c s = .next t) ∧ SafeStep s

/-- The queue is the model's own (log 1): no command or reset puts a command in it; a tick puts the comparators that fire (R109). -/
def Obligations.QueueDrainsInOrder : Prop :=
  ∀ (s : State) (t : State), step s = .next t → (s.pending ≠ [] → t.pending = s.pending.tail) ∧ (s.pending = [] → ∀ c ∈ t.pending, ∃ x k,
    c = .comparatorFire x k) ∧ (QueueOk s → QueueOk t)

/-- The form of the memories (log 32) is kept by every command and by a tick, so that equal memories are equal data. -/
def Obligations.MemoryStaysCanonical : Prop :=
  ∀ (s : State) (t : State), Memory.wf s.mem = true → step s = .next t → Memory.wf t.mem = true

/-- The register table lists what differs from its reset value; every command and a tick keep that form. -/
def Obligations.RegistersStayCanonical : Prop :=
  ∀ (s : State) (t : State), mwf regReset s.regs = true → step s = .next t → mwf regReset t.regs = true

/-- The first state meets what MemoryStaysCanonical, RegistersStayCanonical and QueueDrainsInOrder keep. -/
def Obligations.ResetHoldsTheForms : Prop :=
  ∀ (s : State), State.reset.pending = [] ∧ QueueOk State.reset ∧ Memory.wf State.reset.mem = true ∧ mwf regReset State.reset.regs = true
    ∧ State.reset.now = 0

/-- Time passes in ticks alone (the model's choice, log 1): no command and no reset moves the clock. -/
def Obligations.CommandsTakeNoTime : Prop :=
  ∀ (s : State) (c : Instr) (t : State), exec c s = .next t → t.now = s.now

/-- R528 to R562, R618: the boot, MEM and BUF. -/
def Obligations.BootAndDram : Prop :=
  (∀ (s : State) root ent first second prot sasA sasB, s.pwr.bor = false → s.pins.resetL = false → s.thm.shut = false → s.apc.rel0 = false
    → s.apc.rel1 = false → s.imageOk first = false → s.imageOk second = false → ∃ t, exec (.secureBoot root ent first second prot sasA
    sasB) s = .next t ∧ t.sys.noImage = true ∧ t.flag Fld.SPN_CTL_RUN = false ∧ t.flag Fld.HWD_STAT_READY = true ∧ Keeps [.apc, .cph,
    .free, .hwd, .mem, .rbk, .spn, .sys, .vale, .wrp] (modeFields ++ [Fld.MEM_EV_CE, Fld.MEM_EV_UE, Fld.MEM_FLT_SRAMUE,
    Fld.MEM_UEADDR_ADDR, Fld.MEM_UEINFO_INIT, Fld.MEM_UEINFO_OVF, Fld.MEM_UEINFO_VALID, Fld.MEM_CETCTL_CET_OVF, Fld.MEM_SRAMERR_REGION,
    Fld.MEM_SRAMERR_CE, Fld.MEM_SRAMERR_UE, Fld.MEM_CNT_UE, Fld.MEM_CNT_CE, Fld.CPH_STAT_MASKOK, Fld.HWD_EV_FALLBACK, Fld.HWD_FLT_ENTROPY,
    Fld.HWD_STAT_READY, Fld.HWD_STAT_ENTOK, Fld.HWD_STAT_ROOTOK, Fld.HWD_BOOT_IMG, Fld.HWD_BOOT_FB, Fld.HWD_BOOT_FLOOR, Fld.HWD_BOOT_SVN,
    Fld.SAS_CFG_ENA, Fld.SAS_CFG_ENB, Fld.SAS_ADDRA_ADDR, Fld.SAS_ADDRAH_ADDR, Fld.SAS_ADDRB_ADDR, Fld.SAS_ADDRBH_ADDR,
    Fld.INTC_WDCFG_EN0, Fld.INTC_WDCFG_EN1, ⟨Reg.XSP_PROTB 0, 0, 32⟩, ⟨Reg.XSP_PROTL 0, 0, 32⟩, ⟨Reg.XSP_PROTB 1, 0, 32⟩,
    ⟨Reg.XSP_PROTL 1, 0, 32⟩, ⟨Reg.XSP_PROTB 2, 0, 32⟩, ⟨Reg.XSP_PROTL 2, 0, 32⟩, ⟨Reg.XSP_PROTB 3, 0, 32⟩, ⟨Reg.XSP_PROTL 3, 0, 32⟩]) s
    t) ∧
  (∀ (s : State) root ent first second prot sasA sasB, s.pwr.bor = false → s.pins.resetL = false → s.thm.shut = false → s.apc.rel0 = false
    → s.apc.rel1 = false → s.imageOk first = true → (s.imageSections first.base).any (fun e => e.1 == 2) = false → ∃ t, exec (.secureBoot
    root ent first second prot sasA sasB) s = .next t ∧ t.get Fld.HWD_BOOT_SVN = s.flashWord (first.base + 8) ∧ t.get Fld.HWD_BOOT_FLOOR =
    s.floor ∧ t.flag Fld.HWD_BOOT_FB = false ∧ t.flag Fld.HWD_BOOT_IMG = first.slotB ∧ t.flag Fld.SAS_CFG_ENA = true ∧ t.flag
    Fld.SAS_CFG_ENB = true ∧ t.sys.noImage = false ∧ t.rd Reg.SAS_ADDRA = BitVec.ofNat 32 sasA.toNat ∧ Keeps [.apc, .cph, .free, .hwd,
    .mem, .rbk, .spn, .sys, .vale, .wrp] (modeFields ++ [Fld.MEM_EV_CE, Fld.MEM_EV_UE, Fld.MEM_FLT_SRAMUE, Fld.MEM_UEADDR_ADDR,
    Fld.MEM_UEINFO_INIT, Fld.MEM_UEINFO_OVF, Fld.MEM_UEINFO_VALID, Fld.MEM_CETCTL_CET_OVF, Fld.MEM_SRAMERR_REGION, Fld.MEM_SRAMERR_CE,
    Fld.MEM_SRAMERR_UE, Fld.MEM_CNT_UE, Fld.MEM_CNT_CE, Fld.CPH_STAT_MASKOK, Fld.HWD_EV_FALLBACK, Fld.HWD_FLT_ENTROPY, Fld.HWD_STAT_READY,
    Fld.HWD_STAT_ENTOK, Fld.HWD_STAT_ROOTOK, Fld.HWD_BOOT_IMG, Fld.HWD_BOOT_FB, Fld.HWD_BOOT_FLOOR, Fld.HWD_BOOT_SVN, Fld.SAS_CFG_ENA,
    Fld.SAS_CFG_ENB, Fld.SAS_ADDRA_ADDR, Fld.SAS_ADDRAH_ADDR, Fld.SAS_ADDRB_ADDR, Fld.SAS_ADDRBH_ADDR, Fld.INTC_WDCFG_EN0,
    Fld.INTC_WDCFG_EN1, ⟨Reg.XSP_PROTB 0, 0, 32⟩, ⟨Reg.XSP_PROTL 0, 0, 32⟩, ⟨Reg.XSP_PROTB 1, 0, 32⟩, ⟨Reg.XSP_PROTL 1, 0, 32⟩,
    ⟨Reg.XSP_PROTB 2, 0, 32⟩, ⟨Reg.XSP_PROTL 2, 0, 32⟩, ⟨Reg.XSP_PROTB 3, 0, 32⟩, ⟨Reg.XSP_PROTL 3, 0, 32⟩]) s t) ∧
  (∀ (s : State) root ent first second prot sasA sasB, s.apc.rel0 = true → exec (.secureBoot root ent first second prot sasA sasB) s =
    .next s) ∧
  (∀ (s : State), s.flag Fld.MEM_STAT_TRAINED = false → s.flag Fld.MEM_STAT_DIS = false → s.memCfgOk = true → ∃ t, exec .dramTrainingDone
    s = .next t ∧ t.flag Fld.MEM_STAT_TRAINED = true ∧ t.get Fld.MEM_STAT_SIZE = s.memCapacity ∧ Keeps [] [Fld.MEM_STAT_TRAINED,
    Fld.MEM_STAT_SIZE] s t) ∧
  (∀ (s : State), s.flag Fld.MEM_STAT_TRAINED = false → s.flag Fld.MEM_STAT_DIS = false → s.memCfgOk = false → ∃ t, exec .dramTrainingDone
    s = .next t ∧ t.flag Fld.MEM_FLT_TRAIN = true ∧ t.flag Fld.MEM_STAT_TRAINED = false ∧ Keeps [.rbk] (recFields ++ [Fld.MEM_FLT_TRAIN,
    Fld.MEM_STAT_TRAINED, Fld.MEM_STAT_SIZE]) s t) ∧
  (∀ (s : State), s.flag Fld.MEM_STAT_TRAINED = false → s.flag Fld.MEM_STAT_DIS = false → max s.host.startAt s.mem.trainAt + 6400000 ≤
    s.now → s.mem.retried = false → exec .dramTrainingTimeout s = .next
    ({ s with mem := { s.mem with retried := true, trainAt := s.now } })) ∧
  (∀ (s : State), s.flag Fld.MEM_STAT_TRAINED = false → s.flag Fld.MEM_STAT_DIS = false → max s.host.startAt s.mem.trainAt + 6400000 ≤
    s.now → s.mem.retried = true → ∃ t, exec .dramTrainingTimeout s = .next t ∧ t.flag Fld.MEM_FLT_TRAIN = true ∧ t.flag Fld.MEM_STAT_DIS
    = true ∧ t.flag Fld.SPN_CTL_RUN = false ∧ Keeps [.mem, .rbk, .spn, .sys, .vale, .wrp] (modeFields ++ [Fld.MEM_FLT_TRAIN,
    Fld.MEM_STAT_DIS]) s t) ∧
  (∀ (s : State) rank, rank < 2 → ∃ t, exec (.rankRetrain rank) s = .next t ∧ t.get Fld.MEM_CTL_RETRAIN = s.get Fld.MEM_CTL_RETRAIN ||| 2
    ^ rank ∧ Keeps [] [Fld.MEM_CTL_RETRAIN] s t) ∧
  (∀ (s : State) rank, rank < 2 → (s.get Fld.MEM_CTL_RETRAIN).testBit rank = true → ∃ t, exec (.rankRetrainDone rank) s = .next t ∧ (t.get
    Fld.MEM_CTL_RETRAIN).testBit rank = false ∧ t.flag Fld.MEM_EV_RETRAINDONE = true ∧ Keeps [.rbk] (recFields ++ [Fld.MEM_EV_RETRAINDONE,
    Fld.MEM_CTL_RETRAIN]) s t) ∧
  (∀ (s : State), s.flag Fld.MEM_STAT_TRAINED = true → s.flag Fld.MEM_STAT_REFX2 = false → ∃ t, exec (.dramTemperaturePoll true) s = .next
    t ∧ t.flag Fld.MEM_STAT_REFX2 = true ∧ t.flag Fld.MEM_EV_REFX2 = true ∧ t.mem.cool = 0 ∧ Keeps [.mem, .rbk] (recFields ++
    [Fld.MEM_EV_REFX2, Fld.MEM_STAT_REFX2]) s t) ∧
  (∀ (s : State), s.flag Fld.MEM_STAT_TRAINED = true → 1 ≤ s.mem.cool → ∃ t, exec (.dramTemperaturePoll false) s = .next t ∧ t.flag
    Fld.MEM_STAT_REFX2 = false ∧ t.mem.cool = s.mem.cool + 1 ∧ Keeps [.mem] [Fld.MEM_STAT_REFX2] s t) ∧
  (∀ (s : State), ∃ t, exec .refreshWatchdog s = .next t ∧ t.flag Fld.MEM_STAT_REFLOST = true ∧ t.flag Fld.MEM_FLT_REFWD = true ∧ Keeps
    [.rbk] (recFields ++ [Fld.MEM_FLT_REFWD, Fld.MEM_STAT_REFLOST]) s t) ∧
  (∀ (s : State), s.flag Fld.MEM_CTL_ZFGO = false → ∃ t, exec .zeroFill s = .next t ∧ t.flag Fld.MEM_CTL_ZFGO = true ∧ (∀ k, s.zfRange.1 ≤
    k → k < s.zfRange.2 → mfind t.mem.dram k = none) ∧ Keeps [.mem] [Fld.MEM_CTL_ZFGO] s t) ∧
  (∀ (s : State), s.flag Fld.MEM_CTL_ZFGO = true → s.apc.svc = none → ∃ t, exec .zeroFillDone s = .next t ∧ t.flag Fld.MEM_CTL_ZFGO =
    false ∧ t.flag Fld.MEM_EV_ZFDONE = true ∧ (∀ k, s.zfRange.1 ≤ k → k < s.zfRange.2 → mfind t.mem.dram k = some (.word (encodeWord 0)))
    ∧ Keeps [.apc, .mem, .rbk] (recFields ++ [Fld.MEM_EV_ZFDONE, Fld.MEM_CTL_ZFGO]) s t) ∧
  (∀ (s : State) a k rest, s.mem.queue = (a, k) :: rest → s.mem.cet = [] → 2 ≤ s.eff Fld.MEM_CETCTL_THRESH → ∃ t, exec .correctionTrack s
    = .next t ∧ t.mem = { s.mem with queue := rest, cet := [(0, (a, (1, k)))] } ∧ Keeps [.mem] [] s t) ∧
  (∀ (s : State) a k rest n j, s.mem.queue = (a, k) :: rest → mfind s.mem.cet 0 = some (a, (n, j)) → n < 255 → ∃ t, exec .correctionTrack
    s = .next t ∧ t.mem.queue = rest ∧ mfind t.mem.cet 0 = some (a, (n + 1, k)) ∧ (n + 1 = s.eff Fld.MEM_CETCTL_THRESH → t.flag
    Fld.MEM_EV_CEREPEAT = true) ∧ Keeps [.mem, .rbk] (recFields ++ [Fld.MEM_EV_CEREPEAT, Fld.MEM_CETCTL_CET_OVF]) s t) ∧
  (∀ (s : State), ∃ t, exec .trackerEntryFree s = .next t ∧ mfind t.mem.cet (s.get Fld.MEM_CETCTL_IDX) = none ∧ Keeps [.mem] [] s t) ∧
  (∀ (s : State) granule, s.flag Fld.MEM_CTL_SCRUBEN = false ∨ s.flag Fld.MEM_STAT_TRAINED = false ∨ s.get Fld.MEM_SCRRNG_LIM ≤ s.get
    Fld.MEM_SCRRNG_BASE → exec (.scrubGranule granule) s = .next s) ∧
  (∀ (s : State) granule, s.flag Fld.MEM_CTL_SCRUBEN = true → s.flag Fld.MEM_STAT_TRAINED = true → s.get Fld.MEM_SCRRNG_BASE * 2 ^ 13 ≤
    granule → granule + 1 = s.get Fld.MEM_SCRRNG_LIM * 2 ^ 13 → ∃ t, exec (.scrubGranule granule) s = .next t ∧ t.flag Fld.MEM_EV_SCRPASS
    = true ∧ t.get Fld.MEM_SCRCFG_POS = s.get Fld.MEM_SCRRNG_BASE ∧ Keeps [.free, .mem, .rbk] (recFields ++ [Fld.MEM_EV_CE, Fld.MEM_EV_UE,
    Fld.MEM_EV_SCRPASS, Fld.MEM_UEADDR_ADDR, Fld.MEM_UEINFO_INIT, Fld.MEM_UEINFO_OVF, Fld.MEM_UEINFO_VALID, Fld.MEM_CETCTL_CET_OVF,
    Fld.MEM_SCRCFG_POS, Fld.MEM_CNT_UE, Fld.MEM_CNT_CE]) s t) ∧
  (∀ (s : State) granule, s.flag Fld.MEM_CTL_SCRUBEN = true → s.flag Fld.MEM_STAT_TRAINED = true → s.get Fld.MEM_SCRRNG_BASE * 2 ^ 13 ≤
    granule → granule + 1 < s.get Fld.MEM_SCRRNG_LIM * 2 ^ 13 → ∃ t, exec (.scrubGranule granule) s = .next t ∧ t.get Fld.MEM_SCRCFG_POS =
    (granule + 1) / 2 ^ 13 ∧ t.flag Fld.MEM_EV_SCRPASS = (s.flag Fld.MEM_EV_SCRPASS) ∧ Keeps [.free, .mem, .rbk] (recFields ++
    [Fld.MEM_EV_CE, Fld.MEM_EV_UE, Fld.MEM_EV_SCRPASS, Fld.MEM_UEADDR_ADDR, Fld.MEM_UEINFO_INIT, Fld.MEM_UEINFO_OVF, Fld.MEM_UEINFO_VALID,
    Fld.MEM_CETCTL_CET_OVF, Fld.MEM_SCRCFG_POS, Fld.MEM_CNT_UE, Fld.MEM_CNT_CE]) s t) ∧
  (∀ (s : State) n rest a b more, s.buf.wait = n :: rest → s.freeSegs = a :: b :: more → s.ctx n = none → ∃ t, exec
    .bufferReservationGrant s = .next t ∧ t.buf = { s.buf with resv := s.buf.resv ++ [mkResv n a b false], wait := rest } ∧ Keeps [.buf]
    [] s t) ∧
  (∀ (s : State), s.buf.wait = [] → exec .bufferReservationGrant s = .next s) ∧
  (∀ (s : State) v, s.buf.resv ≠ [] → ∃ t, exec (.bufPoolWrite v) s = .next t ∧ t.rd Reg.BUF_POOL = s.rd Reg.BUF_POOL ∧ t.flag
    Fld.BUF_FLT_POOL = true ∧ Keeps [.rbk] (recFields ++ [Fld.BUF_FLT_POOL, ⟨Reg.BUF_POOL, 0, 32⟩]) s t) ∧
  (∀ (s : State) v, s.buf.resv = [] → 4 ≤ v.toNat / 2 ^ 16 → v.toNat / 2 ^ 16 ≤ 16383 → (v.toNat % 2 ^ 16 + v.toNat / 2 ^ 16) * 2 ^ 20 +
    v.toNat / 2 ^ 16 * 2 ^ 12 ≤ s.dramBytes → ∃ t, exec (.bufPoolWrite v) s = .next t ∧ t.rd Reg.BUF_POOL = v ∧ Keeps []
    [⟨Reg.BUF_POOL, 0, 32⟩] s t) ∧
  (∀ (s : State) seg, seg < 2 ^ 14 → s.buf.failq.any (fun q => q.2 == seg) = true → ∃ t, exec (.segmentRelease seg) s = .next t ∧
    t.buf.failq = s.buf.failq.filter (fun q => q.2 != seg) ∧ Keeps [.buf] [] s t) ∧
  (∀ (s : State) seg, seg < 2 ^ 14 → s.buf.failq.any (fun q => q.2 == seg) = false → exec (.segmentRelease seg) s = .next s)

/-- R576 to R579, R584, R603, R609, R613 to R615: requests about key slots. The keys are free values (log 40). -/
def Obligations.HeartwoodKeys : Prop :=
  (∀ (s : State), s.flag Fld.HWD_MBCTL_GO = true → s.flag Fld.HWD_STAT_READY = true → s.get Fld.HWD_MBCMD_CODE = 1 → s.hwd.erase = none →
    s.get Fld.HWD_MBCMD_LEN ≠ 0 → ∃ t, exec .getinfo s = .next t ∧ Answered t 1 1 0 ∧ Keeps [.apc, .rbk] mailFields s t) ∧
  (∀ (s : State) i, Asked s 2 → s.reqSlot = some (true, i) → (s.ks (4096 + i)).st = 0 → s.flag Fld.HWD_STAT_ROOTOK = true → s.flag
    Fld.HWD_STAT_ENTOK = true → ∃ t, exec (.keygen true) s = .next t ∧ Answered t 2 0 23 ∧ (t.ks (4096 + i)).st = 1 ∧ (t.ks (4096 +
    i)).gen = genNext (s.ks (4096 + i)).gen ∧ t.rd (Reg.HWD_MBRSP 0) = BitVec.ofNat 32 (genNext (s.ks (4096 + i)).gen) ∧ Keeps [.apc,
    .cph, .free, .hwd, .rbk] mailFields s t) ∧
  (∀ (s : State) flash sys i, Asked s 2 → s.reqSlot = some (sys, i) → (s.ks (slotIx sys i)).st ≠ 2 → (s.ks (slotIx sys i)).st ≠ 3 → s.flag
    Fld.HWD_STAT_ROOTOK = false → ∃ t, exec (.keygen flash) s = .next t ∧ Answered t 2 7 0 ∧ Keeps [.apc, .rbk] mailFields s t) ∧
  (∀ (s : State) flash sys i, Asked s 2 → s.reqSlot = some (sys, i) → (s.ks (slotIx sys i)).st = 2 → ∃ t, exec (.keygen flash) s = .next t
    ∧ Answered t 2 3 0 ∧ Keeps [.apc, .rbk] mailFields s t) ∧
  (∀ (s : State) flash sys i, Asked s 2 → s.reqSlot = some (sys, i) → (s.ks (slotIx sys i)).st = 0 → s.flag Fld.HWD_STAT_ROOTOK = true →
    s.flag Fld.HWD_STAT_ENTOK = false → ∃ t, exec (.keygen flash) s = .next t ∧ Answered t 2 6 0 ∧ Keeps [.apc, .rbk] mailFields s t) ∧
  (∀ (s : State) i, Asked s 3 → s.reqSlot = some (true, i) → (s.ks (4096 + i)).st = 0 → s.flag Fld.HWD_STAT_ROOTOK = true → s.flag
    Fld.HWD_STAT_ENTOK = true → ∃ t, exec (.keyload true) s = .next t ∧ t.flag Fld.HWD_MBCTL_GO = false ∧ t.flag Fld.HWD_EV_DONE = true ∧
    (Config.keyUnwrap true s.reqSalt ((List.range 22).map (fun k => s.req (11 + k))) = none → Answered t 3 4 0 ∧ t.ks (4096 + i) = s.ks
    (4096 + i)) ∧ (∀ key fixed, Config.keyUnwrap true s.reqSalt ((List.range 22).map (fun k => s.req (11 + k))) = some (key, fixed) →
    Answered t 3 0 1 ∧ (t.ks (4096 + i)).st = 1 ∧ (t.ks (4096 + i)).key = key ∧ (t.ks (4096 + i)).fixed = fixed ∧ (t.ks (4096 + i)).gen =
    genNext (s.ks (4096 + i)).gen) ∧ Keeps [.apc, .cph, .free, .hwd, .rbk] mailFields s t) ∧
  (∀ (s : State) i, Asked s 3 → s.reqSlot = some (true, i) → (s.ks (4096 + i)).st = 0 → s.flag Fld.HWD_STAT_ROOTOK = true → s.flag
    Fld.HWD_STAT_ENTOK = false → s.hwd.records = [] → ∃ t, exec (.keyload true) s = .next t ∧ (∀ key fixed, Config.keyUnwrap true
    s.reqSalt ((List.range 22).map (fun k => s.req (11 + k))) = some (key, fixed) → Answered t 3 6 0) ∧ t.ks (4096 + i) = s.ks (4096 + i)
    ∧ Keeps [.apc, .rbk] mailFields s t) ∧
  (∀ (s : State), s.flag Fld.HWD_MBCTL_GO = true → s.flag Fld.HWD_STAT_READY = true → 15 ≤ s.get Fld.HWD_MBCMD_CODE → s.hwd.erase = none →
    ∃ t, exec .getinfo s = .next t ∧ Answered t (s.get Fld.HWD_MBCMD_CODE) 1 0 ∧ Keeps [.apc, .rbk] mailFields s t) ∧
  (∀ (s : State) sys i, Asked s 4 → s.reqSlot = some (sys, i) → (s.ks (slotIx sys i)).st = 0 → ∃ t, exec .keywrap s = .next t ∧ Answered t
    4 3 0 ∧ Keeps [.apc, .rbk] mailFields s t) ∧
  (∀ (s : State) sys i, Asked s 4 → s.reqSlot = some (sys, i) → (s.ks (slotIx sys i)).st = 1 → (s.ks (slotIx sys i)).sess = false → s.flag
    Fld.HWD_STAT_ROOTOK = true → ∃ t, exec .keywrap s = .next t ∧ Answered t 4 0 23 ∧ t.rd (Reg.HWD_MBRSP 0) = BitVec.ofNat 32 (s.ks
    (slotIx sys i)).gen ∧ t.rd (Reg.HWD_MBRSP 1) = Config.keyWrap sys s.reqSalt (s.ks (slotIx sys i)).key (if sys = true then (s.ks
    (slotIx sys i)).fixed else 0) 0 ∧ Keeps [.apc, .rbk] mailFields s t) ∧
  (∀ (s : State) sys i, Asked s 5 → s.reqSlot = some (sys, i) → s.req 1 = 1#32 → (s.ks (slotIx sys i)).st = 0 → ∃ t, exec .keyerase s =
    .next t ∧ Answered t 5 0 0 ∧ Keeps [.apc, .rbk] mailFields s t) ∧
  (∀ (s : State) sys i, Asked s 5 → s.reqSlot = some (sys, i) → s.req 1 = 1#32 → (s.ks (slotIx sys i)).st = 1 → s.ccx.ctxs = [] →
    s.ccx.kwait = [] → ∃ t, exec .keyerase s = .next t ∧ (t.ks (slotIx sys i)).st = 3 ∧ (t.ks (slotIx sys i)).key = 0 ∧ t.hwd.erase = some
    (slotIx sys i, 1) ∧ t.flag Fld.HWD_MBCTL_GO = true ∧ Keeps [.ang, .apc, .buf, .ccx, .ch, .cph, .hwd, .lpe, .mem, .msq, .plk, .rbk,
    .spn, .sys, .vale, .wrp] (mailFields ++ modeFields ++ squashFields s .a ++ squashFields s .b ++ [Fld.MSQ_FLT_PROG .a, Fld.MSQ_FLT_PROG
    .b]) s t) ∧
  (∀ (s : State) sys i, Asked s 5 → s.reqSlot = some (sys, i) → s.req 1 = 0#32 → ∃ t, exec .keyerase s = .next t ∧ Answered t 5 2 0 ∧
    Keeps [.apc, .rbk] mailFields s t) ∧
  (∀ (s : State) a b, Asked s 12 → a = nbits (s.req 0).toNat 0 6 → b = nbits (s.req 0).toNat 16 6 → a ≠ b → (s.ks (4096 + a)).st = 0 →
    (s.ks (4096 + b)).st = 0 → s.sysUse a = 0 → s.sysUse b = 0 → s.flag Fld.HWD_STAT_ENTOK = true → ∃ t, exec .sesskey s = .next t ∧
    Answered t 12 0 24 ∧ (t.ks (4096 + a)).st = 1 ∧ (t.ks (4096 + a)).sess = true ∧ (t.ks (4096 + a)).ctr = 0 ∧ (t.ks (4096 + b)).st = 1 ∧
    (t.ks (4096 + b)).sess = true ∧ Keeps [.apc, .cph, .free, .hwd, .rbk] mailFields s t) ∧
  (∀ (s : State), Asked s 12 → nbits (s.req 0).toNat 0 6 = nbits (s.req 0).toNat 16 6 → ∃ t, exec .sesskey s = .next t ∧ Answered t 12 2 0
    ∧ Keeps [.apc, .rbk] mailFields s t)

/-- R264, R572, R609 to R626: the services of Heartwood. Their cryptographic words are opaque (log 40). -/
def Obligations.HeartwoodServices : Prop :=
  (∀ (s : State), Asked s 1 → ∃ t, exec .getinfo s = .next t ∧ Answered t 1 0 4 ∧ t.rd (Reg.HWD_MBRSP 0) = BitVec.ofNat 32
    s.hwd.devId.toNat ∧ t.rd (Reg.HWD_MBRSP 1) = BitVec.ofNat 32 (s.hwd.devId.toNat / 2 ^ 32) ∧ t.rd (Reg.HWD_MBRSP 3) = BitVec.ofNat 32
    (s.pins.variant + s.get Fld.HWD_STAT_DBGLVL * 2 ^ 8 + s.get Fld.HWD_STAT_ROOTOK * 2 ^ 16) ∧ Keeps [.apc, .rbk] mailFields s t) ∧
  (∀ (s : State), s.flag Fld.HWD_MBCTL_GO = false → exec .getinfo s = .next s) ∧
  (∀ (s : State), Asked s 6 → 1 ≤ (s.req 0).toNat → (s.req 0).toNat ≤ 256 → s.flag Fld.HWD_STAT_ENTOK = true → ∃ t, exec .random s = .next
    t ∧ Answered t 6 0 (((s.req 0).toNat + 3) / 4) ∧ Keeps [.apc, .free, .hwd, .rbk] mailFields s t) ∧
  (∀ (s : State), Asked s 6 → 256 < (s.req 0).toNat → ∃ t, exec .random s = .next t ∧ Answered t 6 2 0 ∧ Keeps [.apc, .rbk] mailFields s
    t) ∧
  (∀ (s : State) patch b t2, Asked s 7 → 0x100 ≤ (s.req 2).toNat → s.inMem ((s.req 0).toNat + (s.req 1).toNat * 2 ^ 32) (s.req 2).toNat =
    true → State.bytesAt 7 16 ((s.req 0).toNat + (s.req 1).toNat * 2 ^ 32) s = ((b, true), t2) → b.take 4 = [0x47#8, 0x52#8, 0x4C#8,
    0x4E#8] → leNat ((b.drop 4).take 4) = 0x10000 → leNat ((b.drop 8).take 4) ≤ 4095 → s.floor ≤ leNat ((b.drop 8).take 4) → ∃ t, exec
    (.imgverify true patch) s = .next t ∧ Answered t 7 0 13 ∧ t.rd (Reg.HWD_MBRSP 0) = BitVec.ofNat 32 (leNat ((b.drop 8).take 4)) ∧
    t.hwd.patch = patch ∧ t.hwd.image = ((s.req 0).toNat + (s.req 1).toNat * 2 ^ 32, (s.req 2).toNat) ∧ t.sys.imageVerified = true ∧ Keeps
    [.apc, .free, .hwd, .mem, .rbk, .sys] (mailFields ++ [Fld.MEM_EV_CE, Fld.MEM_EV_UE, Fld.MEM_FLT_SRAMUE, Fld.MEM_UEADDR_ADDR,
    Fld.MEM_UEINFO_INIT, Fld.MEM_UEINFO_OVF, Fld.MEM_UEINFO_VALID, Fld.MEM_CETCTL_CET_OVF, Fld.MEM_SRAMERR_REGION, Fld.MEM_SRAMERR_CE,
    Fld.MEM_SRAMERR_UE, Fld.MEM_CNT_UE, Fld.MEM_CNT_CE]) s t) ∧
  (∀ (s : State) sigs patch, Asked s 7 → (s.req 2).toNat < 0x100 → ∃ t, exec (.imgverify sigs patch) s = .next t ∧ Answered t 7 2 0 ∧
    Keeps [.apc, .rbk] mailFields s t) ∧
  (∀ (s : State) patch, Asked s 7 → 0x100 ≤ (s.req 2).toNat → s.inMem ((s.req 0).toNat + (s.req 1).toNat * 2 ^ 32) (s.req 2).toNat = true
    → ∃ t, exec (.imgverify false patch) s = .next t ∧ Answered t 7 4 0 ∧ t.hwd.patch = s.hwd.patch ∧ Keeps [.apc, .free, .hwd, .mem,
    .rbk, .sys] (mailFields ++ [Fld.MEM_EV_CE, Fld.MEM_EV_UE, Fld.MEM_FLT_SRAMUE, Fld.MEM_UEADDR_ADDR, Fld.MEM_UEINFO_INIT,
    Fld.MEM_UEINFO_OVF, Fld.MEM_UEINFO_VALID, Fld.MEM_CETCTL_CET_OVF, Fld.MEM_SRAMERR_REGION, Fld.MEM_SRAMERR_CE, Fld.MEM_SRAMERR_UE,
    Fld.MEM_CNT_UE, Fld.MEM_CNT_CE]) s t) ∧
  (∀ (s : State) x p, Asked s 8 → x = (if (s.req 0).getLsbD 0 = true then Act.b else Act.a) → s.actOk x = true → s.flag (Fld.MSQ_CTL_HOLD
    x) = true → (s.msq x).running = none → s.hwd.patch = some p → ∃ t, exec .patchload s = .next t ∧ Answered t 8 0 1 ∧ t.rd
    (Reg.HWD_MBRSP 0) = BitVec.ofNat 32 p.release ∧ t.flag (byAct x Fld.UCS_EV_PATCHA Fld.UCS_EV_PATCHB) = true ∧ t.get (Fld.UCS_PATCH_VER
    x) = p.release % 2 ^ (Fld.UCS_PATCH_VER x).len ∧ (t.msq x).ucs.patch = p.words.foldl (fun q e => mput q e.1 e.2) (s.msq x).ucs.patch ∧
    Keeps [.ang, .apc, .buf, .ch, .hwd, .lpe, .mem, .msq, .plk, .rbk, .sys, .vale, .wrp] (mailFields ++ advFields s .a ++ advFields s .b
    ++ [Fld.UCS_EV_PATCHA, Fld.UCS_EV_PATCHB, Fld.UCS_PATCH_NCMP .a, Fld.UCS_PATCH_VER .a, Fld.UCS_PATCH_NCMP .b, Fld.UCS_PATCH_VER .b]) s
    t) ∧
  (∀ (s : State), Asked s 8 → (s.req 0).getLsbD 0 = false → s.flag (Fld.MSQ_CTL_HOLD .a) = false → ∃ t, exec .patchload s = .next t ∧
    Answered t 8 3 0 ∧ Keeps [.apc, .rbk] mailFields s t) ∧
  (∀ (s : State), Asked s 9 → s.floor ≤ (s.req 0).toNat → (s.req 0).toNat ≤ s.get Fld.HWD_BOOT_SVN → s.flag Fld.HWD_STAT_ROOTOK = true →
    (s.req 0).toNat ≤ 4095 → s.hwd.thermo ≤ 255 → ∃ t, exec (.rollback true) s = .next t ∧ Answered t 9 0 1 ∧ t.hwd.flashFloor = (s.req
    0).toNat ∧ t.hwd.thermo = max s.hwd.thermo ((s.req 0).toNat / 16) ∧ t.get Fld.HWD_BOOT_FLOOR = t.floor ∧ t.rd (Reg.HWD_MBRSP 0) =
    BitVec.ofNat 32 t.floor ∧ Keeps [.apc, .hwd, .rbk] (mailFields ++ [Fld.HWD_BOOT_FLOOR]) s t) ∧
  (∀ (s : State) flash, Asked s 9 → s.get Fld.HWD_BOOT_SVN < (s.req 0).toNat → ∃ t, exec (.rollback flash) s = .next t ∧ Answered t 9 2 0
    ∧ t.hwd = s.hwd ∧ Keeps [.apc, .rbk] mailFields s t) ∧
  (∀ (s : State), Asked s 10 → 1 ≤ (s.req 0).toNat → (s.req 0).toNat ≤ 6 → (∀ l, mfind s.hwd.meas (s.req 0).toNat = some l → l.length =
    12) → ∃ t, exec .measure s = .next t ∧ Answered t 10 0 12 ∧ Keeps [.apc, .rbk] mailFields s t) ∧
  (∀ (s : State), Asked s 10 → 6 < (s.req 0).toNat → ∃ t, exec .measure s = .next t ∧ Answered t 10 2 0 ∧ Keeps [.apc, .rbk] mailFields s
    t) ∧
  (∀ (s : State), Asked s 11 → s.flag Fld.HWD_STAT_ROOTOK = true → s.flag Fld.HWD_STAT_ENTOK = true → ∃ t, exec .sign s = .next t ∧
    Answered t 11 0 24 ∧ Keeps [.apc, .free, .hwd, .rbk] mailFields s t) ∧
  (∀ (s : State), Asked s 11 → s.flag Fld.HWD_STAT_ROOTOK = false → ∃ t, exec .sign s = .next t ∧ Answered t 11 7 0 ∧ Keeps [.apc, .rbk]
    mailFields s t) ∧
  (∀ (s : State), Asked s 13 → (s.req 0).toNat = 1 ∨ Asked s 13 ∧ (s.req 0).toNat = 2 → s.flag Fld.HWD_STAT_ENTOK = true → ∃ t, exec
    .dbgchal s = .next t ∧ Answered t 13 0 8 ∧ t.hwd.nonce = some ((s.req 0).toNat, s.now) ∧ Keeps [.apc, .free, .hwd, .rbk] mailFields s
    t) ∧
  (∀ (s : State) lv at_, Asked s 14 → s.hwd.nonce = some (lv, at_) → lv ≤ 2 → s.inMem ((s.req 0).toNat + (s.req 1).toNat * 2 ^ 32) (s.req
    2).toNat = true → ∃ t, exec (.dbgresp true) s = .next t ∧ Answered t 14 0 0 ∧ t.get Fld.HWD_STAT_DBGLVL = lv ∧ t.get
    Fld.DBG_STAT_LEVEL = lv ∧ t.flag Fld.HWD_EV_DBGUNLOCK = true ∧ t.hwd.nonce = none ∧ t.hwd.unlocks = s.hwd.unlocks + 1 ∧ Keeps [.apc,
    .hwd, .rbk] (mailFields ++ [Fld.HWD_EV_DBGUNLOCK, Fld.HWD_STAT_DBGLVL, Fld.DBG_STAT_LEVEL]) s t) ∧
  (∀ (s : State) ok, Asked s 14 → s.hwd.nonce = none → ∃ t, exec (.dbgresp ok) s = .next t ∧ Answered t 14 3 0 ∧ t.get Fld.HWD_STAT_DBGLVL
    = s.get Fld.HWD_STAT_DBGLVL ∧ Keeps [.apc, .hwd, .rbk] (mailFields ++ [Fld.HWD_EV_DBGUNLOCK, Fld.HWD_STAT_DBGLVL, Fld.DBG_STAT_LEVEL])
    s t) ∧
  (∀ (s : State) lv at_, Asked s 14 → s.hwd.nonce = some (lv, at_) → s.inMem ((s.req 0).toNat + (s.req 1).toNat * 2 ^ 32) (s.req 2).toNat
    = true → ∃ t, exec (.dbgresp false) s = .next t ∧ Answered t 14 4 0 ∧ t.get Fld.HWD_STAT_DBGLVL = s.get Fld.HWD_STAT_DBGLVL ∧
    t.hwd.nonce = none ∧ Keeps [.apc, .hwd, .rbk] (mailFields ++ [Fld.HWD_EV_DBGUNLOCK, Fld.HWD_STAT_DBGLVL, Fld.DBG_STAT_LEVEL]) s t) ∧
  (∀ (s : State), s.flag Fld.HWD_MBCTL_GO = true → s.hwd.goAt + s.eff Fld.HWD_MBTMO_LIMIT * 800000 ≤ s.now → ∃ t, exec .mailboxTimeout s =
    .next t ∧ t.rd Reg.HWD_MBRES = BitVec.ofNat 32 (0x0A * 2 ^ 24 + s.get Fld.HWD_MBCMD_CODE * 2 ^ 16) ∧ t.flag Fld.HWD_MBCTL_GO = false ∧
    t.flag Fld.HWD_EV_TMO = true ∧ t.get Fld.HWD_MBTMO_ELAPSED = s.eff Fld.HWD_MBTMO_LIMIT ∧ Keeps [.apc, .rbk] (recFields ++
    [Fld.HWD_EV_TMO, Fld.HWD_MBCTL_GO, ⟨Reg.HWD_MBRES, 0, 32⟩, Fld.HWD_MBTMO_ELAPSED]) s t) ∧
  (∀ (s : State), s.now < s.hwd.goAt + s.eff Fld.HWD_MBTMO_LIMIT * 800000 → exec .mailboxTimeout s = .next s) ∧
  (∀ (s : State) root, ∃ t, exec (.heartwoodReset root true) s = .next t ∧ t.flag Fld.HWD_MBCTL_GO = false ∧ t.flag Fld.HWD_EV_HRESET =
    true ∧ t.flag Fld.HWD_STAT_READY = true ∧ t.flag Fld.HWD_STAT_ENTOK = true ∧ t.flag Fld.HWD_STAT_ROOTOK = root ∧ t.hwd.nonce = none ∧
    t.hwd.erase = none ∧ t.get Fld.HWD_STAT_DBGLVL = s.get Fld.HWD_STAT_DBGLVL ∧ Keeps [.cph, .hwd, .rbk] (recFields ++
    [Fld.CPH_STAT_MASKOK, Fld.HWD_EV_HRESET, Fld.HWD_FLT_ENTROPY, Fld.HWD_STAT_READY, Fld.HWD_STAT_ENTOK, Fld.HWD_STAT_ROOTOK,
    Fld.HWD_MBCTL_GO, Fld.HWD_CTL_RESET]) s t) ∧
  (∀ (s : State) root, ∃ t, exec (.heartwoodReset root false) s = .next t ∧ t.flag Fld.HWD_MBCTL_GO = false ∧ t.flag Fld.HWD_EV_HRESET =
    true ∧ t.flag Fld.HWD_STAT_ENTOK = false ∧ t.flag Fld.HWD_FLT_ENTROPY = true ∧ Keeps [.cph, .hwd, .rbk] (recFields ++
    [Fld.CPH_STAT_MASKOK, Fld.HWD_EV_HRESET, Fld.HWD_FLT_ENTROPY, Fld.HWD_STAT_READY, Fld.HWD_STAT_ENTOK, Fld.HWD_STAT_ROOTOK,
    Fld.HWD_MBCTL_GO, Fld.HWD_CTL_RESET]) s t) ∧
  (∀ (s : State) a lv, s.hwd.nonce = some (lv, a) → a + 60 * 800000000 ≤ s.now → ∃ t, exec .debugNonceLapse s = .next t ∧ t.hwd =
    { s.hwd with nonce := none } ∧ Keeps [.hwd] [] s t) ∧
  (∀ (s : State), s.hwd.nonce = none → exec .debugNonceLapse s = .next s) ∧
  (∀ (s : State), ∃ t, exec .entropyHealthFailure s = .next t ∧ t.flag Fld.HWD_STAT_ENTOK = false ∧ t.flag Fld.HWD_FLT_ENTROPY = true ∧
    Keeps [.rbk] (recFields ++ [Fld.HWD_FLT_ENTROPY, Fld.HWD_STAT_ENTOK]) s t)

/-- R574 to R605: CPH. -/
def Obligations.KeySlotsAndJobs : Prop :=
  (∀ (s : State), s.flag Fld.HWD_STAT_ENTOK = true → s.lanesOpen = false → ∃ t, exec .maskDrbgReseed s = .next t ∧ t.cph =
    { s.cph with masks := 0 } ∧ t.flag Fld.CPH_STAT_MASKOK = true ∧ Keeps [.cph] [Fld.CPH_STAT_MASKOK] s t) ∧
  (∀ (s : State), s.lanesOpen = true → exec .maskDrbgReseed s = .next s) ∧
  (∀ (s : State), s.flag Fld.HWD_STAT_ENTOK = false → s.lanesOpen = false → ∃ t, exec .maskDrbgReseed s = .next t ∧ t.flag
    Fld.CPH_STAT_MASKOK = false ∧ t.flag Fld.CPH_FLT_MASK = true ∧ Keeps [.rbk] (recFields ++ [Fld.CPH_FLT_MASK, Fld.CPH_STAT_MASKOK]) s
    t) ∧
  (∀ (s : State) i, i < 4096 → (s.ks i).st = 2 → (s.ks i).use = 0 → s.ccx.kwait = [] → ∃ t, exec (.keyActivation false i) s = .next t ∧
    (t.ks i).st = 1 ∧ (t.ks i).key = (s.ks i).staged ∧ (t.ks i).staged = 0 ∧ (t.ks i).fixed = (s.ks i).stFixed ∧ (t.ks i).gen = genNext
    (s.ks i).gen ∧ t.flag Fld.CPH_EV_REPLACED = true ∧ Keeps [.cph, .rbk] (recFields ++ [Fld.CPH_EV_REPLACED]) s t) ∧
  (∀ (s : State) i, i < 64 → (s.ks (4096 + i)).st = 2 → (s.ks (4096 + i)).use = 0 → s.sysUse i = 0 → s.ccx.kwait = [] → ∃ t, exec
    (.keyActivation true i) s = .next t ∧ (t.ks (4096 + i)).st = 1 ∧ (t.ks (4096 + i)).key = (s.ks (4096 + i)).staged ∧ (t.ks (4096 +
    i)).fixed = (s.ks (4096 + i)).stFixed ∧ t.flag Fld.CPH_EV_REPLACED = true ∧ (∀ l, mfind s.hwd.records (Config.keyId (s.ks (4096 +
    i)).staged) = some l → (t.ks (4096 + i)).ctr = l ∧ (t.ks (4096 + i)).limit = l + 2 ^ 20) ∧ Keeps [.ang, .buf, .ccx, .ch, .cph, .free,
    .hwd, .lpe, .mem, .msq, .plk, .rbk, .sys, .vale, .wrp] (squashFields s .a ++ squashFields s .b ++ [Fld.MSQ_FLT_PROG .a,
    Fld.MSQ_FLT_PROG .b, Fld.BUF_EV_WAIT, Fld.BUF_EV_RESV, Fld.BUF_CNT_RESV, Fld.BUF_CNT_WAITS, Fld.CPH_EV_REPLACED]) s t) ∧
  (∀ (s : State) sys i, (s.ks (slotIx sys i)).st ≠ 2 → exec (.keyActivation sys i) s = .next s) ∧
  (∀ (s : State) sys i, (s.ks (slotIx sys i)).st = 3 → s.boundTo (slotIx sys i) = false → s.hwd.erase = some (slotIx sys i, 1) → s.flag
    Fld.HWD_MBCTL_GO = true → s.get Fld.HWD_MBCMD_CODE = 5 → ∃ t, exec (.eraseComplete sys i) s = .next t ∧ (t.ks (slotIx sys i)).st = 0 ∧
    (t.ks (slotIx sys i)).key = 0 ∧ t.flag Fld.CPH_EV_ERASED = true ∧ t.get Fld.CPH_CNT_ERASE = satAdd 16 (s.get Fld.CPH_CNT_ERASE) 1 ∧
    t.hwd.erase = none ∧ Answered t 5 0 0 ∧ Keeps [.apc, .cph, .hwd, .rbk] (mailFields ++ [Fld.CPH_EV_ERASED, Fld.CPH_CNT_ERASE]) s t) ∧
  (∀ (s : State) sys i, (s.ks (slotIx sys i)).st ≠ 3 → exec (.eraseComplete sys i) s = .next s) ∧
  (∀ (s : State) i v, ∃ t, exec (.lrdataAccess i true v) s = .next t ∧ mget (fun _ => (0 : Word)) t.cph.ranges (s.get Fld.CPH_LRADDR_ADDR)
    = v ∧ t.get Fld.CPH_LRADDR_ADDR = (s.get Fld.CPH_LRADDR_ADDR + 1) % 4096 ∧ Keeps [.cph] [Fld.CPH_LRADDR_ADDR] s t) ∧
  (∀ (s : State) i v, ∃ t, exec (.lrdataAccess i false v) s = .next t ∧ mget (fun _ => (0 : BitVec 64)) t.bus.readData i.idx = (mget (fun
    _ => (0 : Word)) s.cph.ranges (s.get Fld.CPH_LRADDR_ADDR)).zeroExtend 64 ∧ t.get Fld.CPH_LRADDR_ADDR = (s.get Fld.CPH_LRADDR_ADDR + 1)
    % 4096 ∧ Keeps [.bus] [Fld.CPH_LRADDR_ADDR] s t) ∧
  (∀ (s : State) ws t1 n i k ctr b t2, JobGood s ws t1 1 n i k → k.issue = .ok ctr → State.bytesAt 4 (jobAad ws + jobLen ws) (jobPtr ws 1)
    (t1.gcmTake (4096 + i) k ctr) = ((b, true), t2) → ∃ t, exec .gcmEncrypt s = .next t ∧ t = (State.bytesPut 4 (gcmMac k.gcmKey (k.ivOf
    ctr) (b.take (jobAad ws)) (gcmOut k.gcmKey (k.ivOf ctr) (b.drop (jobAad ws))) n) (jobPtr ws 3) (State.bytesPut 4 (gcmOut k.gcmKey
    (k.ivOf ctr) (b.drop (jobAad ws))) (jobPtr ws 2) t2)).jobEnd 0 ∧ (t.ks (4096 + i)).ctr = k.ctr + 1 ∧ t.get Fld.CPH_JOBCI_INDEX =
    (s.get Fld.CPH_JOBCI_INDEX + 1) % 64 ∧ t.flag Fld.CPH_EV_JOBDONE = true ∧ Keeps [.ang, .ch, .cph, .free, .lpe, .mem, .msq, .plk, .rbk,
    .sys, .vale, .wrp] (errFields s .a ++ errFields s .b ++ [Fld.MEM_EV_CE, Fld.MEM_EV_UE, Fld.MEM_FLT_SRAMUE, Fld.MEM_UEADDR_ADDR,
    Fld.MEM_UEINFO_INIT, Fld.MEM_UEINFO_OVF, Fld.MEM_UEINFO_VALID, Fld.MEM_CETCTL_CET_OVF, Fld.MEM_SRAMERR_REGION, Fld.MEM_SRAMERR_CE,
    Fld.MEM_SRAMERR_UE, Fld.MEM_CNT_UE, Fld.MEM_CNT_CE, Fld.CPH_EV_JOBDONE, Fld.CPH_EV_AUTHFAIL, Fld.CPH_JOBCI_INDEX,
    Fld.CPH_UNTRUST_ADDR, Fld.CPH_UNTRUSTINFO_LEN, Fld.CPH_UNTRUSTINFO_ADDRHI, Fld.CPH_UNTRUSTINFO_OVF, Fld.CPH_UNTRUSTINFO_VALID,
    Fld.CPH_CNT_AUTHFAIL]) s t) ∧
  (∀ (s : State) ws t1, s.jobPending = true → s.jobWords = (ws, t1) → ws.getD 0 0 = 0x01100000 → s.inMem (ws.getD 1 0 + ws.getD 4 0 % 16 *
    2 ^ 32) (ws.getD 6 0 % 2 ^ 16 + ws.getD 5 0 % 2 ^ 24) = true → s.inMem (ws.getD 2 0 + nbits (ws.getD 4 0) 4 4 * 2 ^ 32) (ws.getD 5 0 %
    2 ^ 24) = true → s.inMem (ws.getD 3 0 + nbits (ws.getD 4 0) 8 4 * 2 ^ 32) 16 = true → (s.ks 4096).st = 0 → ∃ t, exec .gcmEncrypt s =
    .next t ∧ t.get Fld.CPH_JOBCI_INDEX = (s.get Fld.CPH_JOBCI_INDEX + 1) % 64 ∧ t.flag Fld.CPH_EV_JOBDONE = true ∧ Keeps [.ang, .ch,
    .cph, .free, .lpe, .mem, .msq, .plk, .rbk, .sys, .vale, .wrp] (errFields s .a ++ errFields s .b ++ [Fld.MEM_EV_CE, Fld.MEM_EV_UE,
    Fld.MEM_FLT_SRAMUE, Fld.MEM_UEADDR_ADDR, Fld.MEM_UEINFO_INIT, Fld.MEM_UEINFO_OVF, Fld.MEM_UEINFO_VALID, Fld.MEM_CETCTL_CET_OVF,
    Fld.MEM_SRAMERR_REGION, Fld.MEM_SRAMERR_CE, Fld.MEM_SRAMERR_UE, Fld.MEM_CNT_UE, Fld.MEM_CNT_CE, Fld.CPH_EV_JOBDONE,
    Fld.CPH_EV_AUTHFAIL, Fld.CPH_JOBCI_INDEX, Fld.CPH_UNTRUST_ADDR, Fld.CPH_UNTRUSTINFO_LEN, Fld.CPH_UNTRUSTINFO_ADDRHI,
    Fld.CPH_UNTRUSTINFO_OVF, Fld.CPH_UNTRUSTINFO_VALID, Fld.CPH_CNT_AUTHFAIL]) s t) ∧
  (∀ (s : State) ws t1, s.jobPending = true → s.jobWords = (ws, t1) → 4 < ws.getD 0 0 / 2 ^ 24 → ∃ t, exec .gcmEncrypt s = .next t ∧ t.get
    Fld.CPH_JOBCI_INDEX = (s.get Fld.CPH_JOBCI_INDEX + 1) % 64 ∧ t.flag Fld.CPH_EV_JOBDONE = true ∧ Keeps [.ang, .ch, .cph, .free, .lpe,
    .mem, .msq, .plk, .rbk, .sys, .vale, .wrp] (errFields s .a ++ errFields s .b ++ [Fld.MEM_EV_CE, Fld.MEM_EV_UE, Fld.MEM_FLT_SRAMUE,
    Fld.MEM_UEADDR_ADDR, Fld.MEM_UEINFO_INIT, Fld.MEM_UEINFO_OVF, Fld.MEM_UEINFO_VALID, Fld.MEM_CETCTL_CET_OVF, Fld.MEM_SRAMERR_REGION,
    Fld.MEM_SRAMERR_CE, Fld.MEM_SRAMERR_UE, Fld.MEM_CNT_UE, Fld.MEM_CNT_CE, Fld.CPH_EV_JOBDONE, Fld.CPH_EV_AUTHFAIL, Fld.CPH_JOBCI_INDEX,
    Fld.CPH_UNTRUST_ADDR, Fld.CPH_UNTRUSTINFO_LEN, Fld.CPH_UNTRUSTINFO_ADDRHI, Fld.CPH_UNTRUSTINFO_OVF, Fld.CPH_UNTRUSTINFO_VALID,
    Fld.CPH_CNT_AUTHFAIL]) s t) ∧
  (∀ (s : State), s.jobPending = false → exec .gcmEncrypt s = .next s) ∧
  (∀ (s : State) ws t1 n i k b t2 tk t3, JobGood s ws t1 2 n i k → State.bytesAt 4 (jobAad ws + jobLen ws) (jobPtr ws 1) t1 = ((b, true),
    t2) → State.bytesAt 4 n (jobPtr ws 3) (State.bytesPut 4 (gcmOut k.gcmKey (k.ivOf (jobCtr ws)) (b.drop (jobAad ws))) (jobPtr ws 2) t2)
    = ((tk, true), t3) → ∃ t, exec .gcmDecrypt s = .next t ∧ t = (if tk = gcmMac k.gcmKey (k.ivOf (jobCtr ws)) (b.take (jobAad ws))
    (b.drop (jobAad ws)) n then t3.jobEnd 0 else (t3.authFail.untrust (jobPtr ws 2) (jobLen ws)).jobEnd 1) ∧ t.get Fld.CPH_JOBCI_INDEX =
    (s.get Fld.CPH_JOBCI_INDEX + 1) % 64 ∧ t.flag Fld.CPH_EV_JOBDONE = true ∧ Keeps [.ang, .ch, .cph, .free, .lpe, .mem, .msq, .plk, .rbk,
    .sys, .vale, .wrp] (errFields s .a ++ errFields s .b ++ [Fld.MEM_EV_CE, Fld.MEM_EV_UE, Fld.MEM_FLT_SRAMUE, Fld.MEM_UEADDR_ADDR,
    Fld.MEM_UEINFO_INIT, Fld.MEM_UEINFO_OVF, Fld.MEM_UEINFO_VALID, Fld.MEM_CETCTL_CET_OVF, Fld.MEM_SRAMERR_REGION, Fld.MEM_SRAMERR_CE,
    Fld.MEM_SRAMERR_UE, Fld.MEM_CNT_UE, Fld.MEM_CNT_CE, Fld.CPH_EV_JOBDONE, Fld.CPH_EV_AUTHFAIL, Fld.CPH_JOBCI_INDEX,
    Fld.CPH_UNTRUST_ADDR, Fld.CPH_UNTRUSTINFO_LEN, Fld.CPH_UNTRUSTINFO_ADDRHI, Fld.CPH_UNTRUSTINFO_OVF, Fld.CPH_UNTRUSTINFO_VALID,
    Fld.CPH_CNT_AUTHFAIL]) s t) ∧
  (∀ (s : State) ws t1, s.jobPending = true → s.jobWords = (ws, t1) → ws.getD 0 0 / 2 ^ 24 = 2 → (s.ks (4096 + ws.getD 0 0 % 64)).st = 0 →
    ∃ t, exec .gcmDecrypt s = .next t ∧ t.get Fld.CPH_JOBCI_INDEX = (s.get Fld.CPH_JOBCI_INDEX + 1) % 64 ∧ t.flag Fld.CPH_EV_JOBDONE =
    true ∧ Keeps [.ang, .ch, .cph, .free, .lpe, .mem, .msq, .plk, .rbk, .sys, .vale, .wrp] (errFields s .a ++ errFields s .b ++
    [Fld.MEM_EV_CE, Fld.MEM_EV_UE, Fld.MEM_FLT_SRAMUE, Fld.MEM_UEADDR_ADDR, Fld.MEM_UEINFO_INIT, Fld.MEM_UEINFO_OVF, Fld.MEM_UEINFO_VALID,
    Fld.MEM_CETCTL_CET_OVF, Fld.MEM_SRAMERR_REGION, Fld.MEM_SRAMERR_CE, Fld.MEM_SRAMERR_UE, Fld.MEM_CNT_UE, Fld.MEM_CNT_CE,
    Fld.CPH_EV_JOBDONE, Fld.CPH_EV_AUTHFAIL, Fld.CPH_JOBCI_INDEX, Fld.CPH_UNTRUST_ADDR, Fld.CPH_UNTRUSTINFO_LEN,
    Fld.CPH_UNTRUSTINFO_ADDRHI, Fld.CPH_UNTRUSTINFO_OVF, Fld.CPH_UNTRUSTINFO_VALID, Fld.CPH_CNT_AUTHFAIL]) s t) ∧
  (∀ (s : State) ws t1, s.jobPending = true → s.jobWords = (ws, t1) → ws.getD 0 0 / 2 ^ 24 = 3 → (s.ks (4096 + ws.getD 0 0 % 64)).st = 0 →
    ∃ t, exec .gmacGenerate s = .next t ∧ t.get Fld.CPH_JOBCI_INDEX = (s.get Fld.CPH_JOBCI_INDEX + 1) % 64 ∧ t.flag Fld.CPH_EV_JOBDONE =
    true ∧ Keeps [.ang, .ch, .cph, .free, .lpe, .mem, .msq, .plk, .rbk, .sys, .vale, .wrp] (errFields s .a ++ errFields s .b ++
    [Fld.MEM_EV_CE, Fld.MEM_EV_UE, Fld.MEM_FLT_SRAMUE, Fld.MEM_UEADDR_ADDR, Fld.MEM_UEINFO_INIT, Fld.MEM_UEINFO_OVF, Fld.MEM_UEINFO_VALID,
    Fld.MEM_CETCTL_CET_OVF, Fld.MEM_SRAMERR_REGION, Fld.MEM_SRAMERR_CE, Fld.MEM_SRAMERR_UE, Fld.MEM_CNT_UE, Fld.MEM_CNT_CE,
    Fld.CPH_EV_JOBDONE, Fld.CPH_EV_AUTHFAIL, Fld.CPH_JOBCI_INDEX, Fld.CPH_UNTRUST_ADDR, Fld.CPH_UNTRUSTINFO_LEN,
    Fld.CPH_UNTRUSTINFO_ADDRHI, Fld.CPH_UNTRUSTINFO_OVF, Fld.CPH_UNTRUSTINFO_VALID, Fld.CPH_CNT_AUTHFAIL]) s t) ∧
  (∀ (s : State) ws t1 k ctr, s.jobPending = true → s.jobWords = (ws, t1) → ws.getD 0 0 = 0x03100000 → k = s.ks 4096 → k.st = 1 → k.issue
    = .ok ctr → s.inMem (ws.getD 1 0 + ws.getD 4 0 % 16 * 2 ^ 32) (ws.getD 6 0 % 2 ^ 16) = true → ws.getD 5 0 % 2 ^ 24 = 0 → s.inMem
    (ws.getD 3 0 + nbits (ws.getD 4 0) 8 4 * 2 ^ 32) 16 = true → ∃ t, exec .gmacGenerate s = .next t ∧ (t.ks 4096).ctr = k.ctr + 1 ∧ (t.ks
    4096).key = k.key ∧ t.get Fld.CPH_JOBCI_INDEX = (s.get Fld.CPH_JOBCI_INDEX + 1) % 64 ∧ t.flag Fld.CPH_EV_JOBDONE = true ∧ Keeps [.ang,
    .ch, .cph, .free, .lpe, .mem, .msq, .plk, .rbk, .sys, .vale, .wrp] (errFields s .a ++ errFields s .b ++ [Fld.MEM_EV_CE, Fld.MEM_EV_UE,
    Fld.MEM_FLT_SRAMUE, Fld.MEM_UEADDR_ADDR, Fld.MEM_UEINFO_INIT, Fld.MEM_UEINFO_OVF, Fld.MEM_UEINFO_VALID, Fld.MEM_CETCTL_CET_OVF,
    Fld.MEM_SRAMERR_REGION, Fld.MEM_SRAMERR_CE, Fld.MEM_SRAMERR_UE, Fld.MEM_CNT_UE, Fld.MEM_CNT_CE, Fld.CPH_EV_JOBDONE,
    Fld.CPH_EV_AUTHFAIL, Fld.CPH_JOBCI_INDEX, Fld.CPH_UNTRUST_ADDR, Fld.CPH_UNTRUSTINFO_LEN, Fld.CPH_UNTRUSTINFO_ADDRHI,
    Fld.CPH_UNTRUSTINFO_OVF, Fld.CPH_UNTRUSTINFO_VALID, Fld.CPH_CNT_AUTHFAIL]) s t) ∧
  (∀ (s : State) ws t1 n i k b t2 tk t3, JobGood s ws t1 4 n i k → State.bytesAt 4 (jobAad ws) (jobPtr ws 1) t1 = ((b, true), t2) →
    State.bytesAt 4 n (jobPtr ws 3) t2 = ((tk, true), t3) → ∃ t, exec .gmacVerify s = .next t ∧ t = (if tk = gcmMac k.gcmKey (k.ivOf
    (jobCtr ws)) b [] n then t3.jobEnd 0 else t3.authFail.jobEnd 1) ∧ t.get Fld.CPH_JOBCI_INDEX = (s.get Fld.CPH_JOBCI_INDEX + 1) % 64 ∧
    t.flag Fld.CPH_EV_JOBDONE = true ∧ Keeps [.ang, .ch, .cph, .free, .lpe, .mem, .msq, .plk, .rbk, .sys, .vale, .wrp] (errFields s .a ++
    errFields s .b ++ [Fld.MEM_EV_CE, Fld.MEM_EV_UE, Fld.MEM_FLT_SRAMUE, Fld.MEM_UEADDR_ADDR, Fld.MEM_UEINFO_INIT, Fld.MEM_UEINFO_OVF,
    Fld.MEM_UEINFO_VALID, Fld.MEM_CETCTL_CET_OVF, Fld.MEM_SRAMERR_REGION, Fld.MEM_SRAMERR_CE, Fld.MEM_SRAMERR_UE, Fld.MEM_CNT_UE,
    Fld.MEM_CNT_CE, Fld.CPH_EV_JOBDONE, Fld.CPH_EV_AUTHFAIL, Fld.CPH_JOBCI_INDEX, Fld.CPH_UNTRUST_ADDR, Fld.CPH_UNTRUSTINFO_LEN,
    Fld.CPH_UNTRUSTINFO_ADDRHI, Fld.CPH_UNTRUSTINFO_OVF, Fld.CPH_UNTRUSTINFO_VALID, Fld.CPH_CNT_AUTHFAIL]) s t) ∧
  (∀ (s : State) ws t1, s.jobPending = true → s.jobWords = (ws, t1) → ws.getD 0 0 / 2 ^ 24 = 4 → (s.ks (4096 + ws.getD 0 0 % 64)).st = 0 →
    ∃ t, exec .gmacVerify s = .next t ∧ t.get Fld.CPH_JOBCI_INDEX = (s.get Fld.CPH_JOBCI_INDEX + 1) % 64 ∧ t.flag Fld.CPH_EV_JOBDONE =
    true ∧ Keeps [.ang, .ch, .cph, .free, .lpe, .mem, .msq, .plk, .rbk, .sys, .vale, .wrp] (errFields s .a ++ errFields s .b ++
    [Fld.MEM_EV_CE, Fld.MEM_EV_UE, Fld.MEM_FLT_SRAMUE, Fld.MEM_UEADDR_ADDR, Fld.MEM_UEINFO_INIT, Fld.MEM_UEINFO_OVF, Fld.MEM_UEINFO_VALID,
    Fld.MEM_CETCTL_CET_OVF, Fld.MEM_SRAMERR_REGION, Fld.MEM_SRAMERR_CE, Fld.MEM_SRAMERR_UE, Fld.MEM_CNT_UE, Fld.MEM_CNT_CE,
    Fld.CPH_EV_JOBDONE, Fld.CPH_EV_AUTHFAIL, Fld.CPH_JOBCI_INDEX, Fld.CPH_UNTRUST_ADDR, Fld.CPH_UNTRUSTINFO_LEN,
    Fld.CPH_UNTRUSTINFO_ADDRHI, Fld.CPH_UNTRUSTINFO_OVF, Fld.CPH_UNTRUSTINFO_VALID, Fld.CPH_CNT_AUTHFAIL]) s t) ∧
  (∀ (s : State) index k, k = s.ks (4096 + index) → k.sess = false → k.st = 1 → k.limit ≤ k.ctr + 2 ^ 18 → k.limit < 2 ^ 64 → ∃ t, exec
    (.counterReservation index true) s = .next t ∧ t.ks (4096 + index) = { k with limit := k.limit + 2 ^ 20 } ∧ Keeps [.cph, .hwd] [] s t) ∧
  (∀ (s : State) index k, k = s.ks (4096 + index) → k.sess = false → k.st = 1 → k.limit ≤ k.ctr + 2 ^ 18 → k.limit < 2 ^ 64 → ∃ t, exec
    (.counterReservation index false) s = .next t ∧ t.ks (4096 + index) = { k with resvFail := true } ∧ Keeps [.cph] [] s t)

/-- R633, R640, R641, R654: one command admitted. -/
def Obligations.CommandAdmission : Prop :=
  (∀ (s : State) h, s.portOk h.port = false ∨ s.orderedHold h = true → exec (.commandAdmission h) s = .next s) ∧
  (∀ (s : State) h, s.portOk h.port = true → s.orderedHold h = false → s.freeCtx = none → h.port < 2 → ∃ t, exec (.commandAdmission h) s =
    .next t ∧ t.ccx = { s.ccx with posted := some (h.port, (h.tag, 0x100)) } ∧ t.flag Fld.CCX_EV_FULL = true ∧ Keeps [.ccx, .rbk]
    (recFields ++ [Fld.CCX_EV_FULL]) s t) ∧
  (∀ (s : State) h n, s.portOk h.port = true → s.orderedHold h = false → s.freeCtx = some n → s.restricted = none → h.aca = false → h.fast
    = false → ∃ t, exec (.commandAdmission h) s = .next t ∧ t.ctx n = some { s.hostCtx h with st := 2, queues := 4 } ∧ t.ccx.qn = (if
    (s.hostCtx h).hoq = true then (n, false) :: s.ccx.qn else s.ccx.qn ++ [(n, false)]) ∧ t.allocSeq n = (s.allocSeq n + 1) % 2 ^ 16 ∧
    Keeps [.ccx, .mem] [] s t) ∧
  (∀ (s : State) h n, s.portOk h.port = true → s.orderedHold h = false → s.freeCtx = some n → s.restricted = none → h.aca = false → h.fast
    = true → h.len = 0 ∨ 2048 < h.len ∨ h.inUnit = false → ∃ t, exec (.commandAdmission h) s = .next t ∧ (t.ctx n).map (fun c => (c.st,
    c.status)) = some (3, 9) ∧ Keeps [.ang, .buf, .ccx, .ch, .cph, .lpe, .mem, .msq, .plk, .rbk, .sys, .vale, .wrp] (squashFields s .a ++
    squashFields s .b ++ [Fld.MSQ_FLT_PROG .a, Fld.MSQ_FLT_PROG .b, Fld.BUF_EV_WAIT, Fld.BUF_EV_RESV, Fld.BUF_CNT_RESV, Fld.BUF_CNT_WAITS,
    Fld.CCX_EV_FULL]) s t) ∧
  (∀ (s : State) h n, s.portOk h.port = true → s.orderedHold h = false → s.freeCtx = some n → h.port ≠ 2 → h.aca = true → ∃ t, exec
    (.commandAdmission h) s = .next t ∧ (t.ctx n).map (fun c => (c.st, c.status)) = some (3, 9) ∧ Keeps [.ang, .buf, .ccx, .ch, .cph,
    .lpe, .mem, .msq, .plk, .rbk, .sys, .vale, .wrp] (squashFields s .a ++ squashFields s .b ++ [Fld.MSQ_FLT_PROG .a, Fld.MSQ_FLT_PROG .b,
    Fld.BUF_EV_WAIT, Fld.BUF_EV_RESV, Fld.BUF_CNT_RESV, Fld.BUF_CNT_WAITS, Fld.CCX_EV_FULL]) s t) ∧
  (∀ (s : State) h n e, s.portOk h.port = true → s.orderedHold h = false → s.freeCtx = some n → h.aca = false → s.restricted = some e →
    h.served = false → ∃ t, exec (.commandAdmission h) s = .next t ∧ (t.ctx n).map (fun c => (c.st, c.status)) = some (3, e) ∧ Keeps
    [.ang, .buf, .ccx, .ch, .cph, .lpe, .mem, .msq, .plk, .rbk, .sys, .vale, .wrp] (squashFields s .a ++ squashFields s .b ++
    [Fld.MSQ_FLT_PROG .a, Fld.MSQ_FLT_PROG .b, Fld.BUF_EV_WAIT, Fld.BUF_EV_RESV, Fld.BUF_CNT_RESV, Fld.BUF_CNT_WAITS, Fld.CCX_EV_FULL]) s
    t) ∧
  (∀ (s : State) h n slot a b more, s.portOk h.port = true → s.orderedHold h = false → s.freeCtx = some n → s.restricted = none → h.aca =
    false → h.fast = true → 1 ≤ h.len → h.len ≤ 2048 → h.inUnit = true → s.bindChoice (s.unitOf h.unit) h.write h.lba h.len h.keytag = .ok
    slot → (s.ks slot).st = 1 → s.buf.wait = [] → s.freeSegs = a :: b :: more → h.hoq = false → h.unit = 0 → s.flag Fld.CCX_CFG_INTLV =
    false → ∃ t, exec (.commandAdmission h) s = .next t ∧ (t.ctx n).map (fun c => (c.st, (c.slot, c.queues))) = some (2, (some slot, 1)) ∧
    t.ccx.qa = s.ccx.qa ++ [n] ∧ t.buf.resv = s.buf.resv ++ [mkResv n a b false] ∧ (t.ks slot).use = min 2047 ((s.ks slot).use + 1) ∧
    Keeps [.ang, .buf, .ccx, .ch, .cph, .lpe, .mem, .msq, .plk, .rbk, .sys, .vale, .wrp] (squashFields s .a ++ squashFields s .b ++
    [Fld.MSQ_FLT_PROG .a, Fld.MSQ_FLT_PROG .b, Fld.BUF_EV_WAIT, Fld.BUF_EV_RESV, Fld.BUF_CNT_RESV, Fld.BUF_CNT_WAITS, Fld.CCX_EV_FULL]) s
    t) ∧
  (∀ (s : State) h n slot, s.portOk h.port = true → s.orderedHold h = false → s.freeCtx = some n → s.restricted = none → h.aca = false →
    h.fast = true → 1 ≤ h.len → h.len ≤ 2048 → h.inUnit = true → s.bindChoice (s.unitOf h.unit) h.write h.lba h.len h.keytag = .ok slot →
    (s.ks slot).st = 0 → ∃ t, exec (.commandAdmission h) s = .next t ∧ (t.ctx n).map (fun c => (c.st, c.status)) = some (3, 5) ∧ Keeps
    [.ang, .buf, .ccx, .ch, .cph, .lpe, .mem, .msq, .plk, .rbk, .sys, .vale, .wrp] (squashFields s .a ++ squashFields s .b ++
    [Fld.MSQ_FLT_PROG .a, Fld.MSQ_FLT_PROG .b, Fld.BUF_EV_WAIT, Fld.BUF_EV_RESV, Fld.BUF_CNT_RESV, Fld.BUF_CNT_WAITS, Fld.CCX_EV_FULL]) s
    t)

/-- R642: CCX_CTXCMD. -/
def Obligations.ContextCommands : Prop :=
  (∀ (s : State) n, s.freeCtx = some n → ∃ t, exec .ctxOpen s = .next t ∧ t.ctx n = some (newCtx s 2 4) ∧ t.rd Reg.CCX_CTXRES =
    BitVec.ofNat 32 (2 ^ 31 + n % 1024) ∧ t.allocSeq n = (s.allocSeq n + 1) % 2 ^ 16 ∧ Keeps [.ccx, .mem] [⟨Reg.CCX_CTXRES, 0, 32⟩] s t) ∧
  (∀ (s : State), s.freeCtx = none → ∃ t, exec .ctxOpen s = .next t ∧ t.rd Reg.CCX_CTXRES = 0x40000000#32 ∧ Keeps []
    [⟨Reg.CCX_CTXRES, 0, 32⟩] s t) ∧
  (∀ (s : State) n c, n < 1024 → s.ctx n = some c → c.st ≠ 4 → c.st ≠ 2 ∨ c.kind ≠ 1 → ∃ t, exec (.ctxAdmit n) s = .next t ∧ t.rd
    Reg.CCX_CTXRES = BitVec.ofNat 32 (2 ^ 30 + n) ∧ Keeps [] [⟨Reg.CCX_CTXRES, 0, 32⟩] s t) ∧
  (∀ (s : State) n c slot a b more, n < 1024 → s.ctx n = some c → c.st = 4 → c.kind = 2 → slot = wfield ((s.ctxWords n 16 6).1.getD 5 0)
    16 12 → (s.ks slot).st = 1 → s.buf.wait = [] → s.freeSegs = a :: b :: more → ∃ t, exec (.ctxAdmit n) s = .next t ∧ (t.ctx n).map (fun
    e => (e.st, (e.slot, (e.len, e.write)))) = some (2, (some slot, (((s.ctxWords n 16 6).1.getD 4 0).toNat, ((s.ctxWords n 16 6).1.getD 1
    0).getLsbD 0))) ∧ t.buf.resv = s.buf.resv ++ [mkResv n a b false] ∧ t.rd Reg.CCX_CTXRES = BitVec.ofNat 32 (2 ^ 31 + n) ∧ Keeps [.ang,
    .buf, .ccx, .ch, .cph, .free, .lpe, .mem, .msq, .plk, .rbk, .sys, .vale, .wrp] (squashFields s .a ++ squashFields s .b ++
    [Fld.MSQ_FLT_PROG .a, Fld.MSQ_FLT_PROG .b, Fld.MEM_FLT_SRAMUE, Fld.MEM_SRAMERR_REGION, Fld.MEM_SRAMERR_CE, Fld.MEM_SRAMERR_UE,
    Fld.BUF_EV_WAIT, Fld.BUF_EV_RESV, Fld.BUF_CNT_RESV, Fld.BUF_CNT_WAITS, Fld.CCX_FLT_TABLE, ⟨Reg.CCX_CTXRES, 0, 32⟩]) s t) ∧
  (∀ (s : State) n c, n < 1024 → s.ctx n = some c → c.st ≠ 2 → ∃ t, exec (.ctxQueuea n) s = .next t ∧ t.rd Reg.CCX_CTXRES = BitVec.ofNat
    32 (2 ^ 30 + n) ∧ Keeps [] [⟨Reg.CCX_CTXRES, 0, 32⟩] s t) ∧
  (∀ (s : State) n c, n < 1024 → s.ctx n = some c → c.st = 2 → ∃ t, exec (.ctxQueuea n) s = .next t ∧ t.ctx n = some
    { c with queues := c.queues ||| 1 } ∧ t.ccx.qa = s.ccx.qa ++ [n] ∧ t.rd Reg.CCX_CTXRES = BitVec.ofNat 32 (2 ^ 31 + n) ∧ Keeps [.ccx,
    .free, .mem, .rbk] (recFields ++ [Fld.MEM_FLT_SRAMUE, Fld.MEM_SRAMERR_REGION, Fld.MEM_SRAMERR_CE, Fld.MEM_SRAMERR_UE,
    Fld.CCX_FLT_TABLE, ⟨Reg.CCX_CTXRES, 0, 32⟩]) s t) ∧
  (∀ (s : State) n c w, n < 1024 → s.ctx n = some c → c.st = 2 → c.queues &&& 3 ≠ 0 → inSram (s.ctxAddr n 26) = true → mfind s.mem.sram
    (s.ctxAddr n 26 / 4) = some (some w) → ∃ t, exec (.ctxQueuea n) s = .next t ∧ mfind t.mem.sram (s.ctxAddr n 26 / 4) = some (some (wput
    w 0 8 (min 255 (wfield w 0 8 + 1)))) ∧ Keeps [.ccx, .free, .mem, .rbk] (recFields ++ [Fld.MEM_FLT_SRAMUE, Fld.MEM_SRAMERR_REGION,
    Fld.MEM_SRAMERR_CE, Fld.MEM_SRAMERR_UE, Fld.CCX_FLT_TABLE, ⟨Reg.CCX_CTXRES, 0, 32⟩]) s t) ∧
  (∀ (s : State) n, n < 1024 → s.ctx n = none → ∃ t, exec (.ctxQueueb n) s = .next t ∧ t.rd Reg.CCX_CTXRES = BitVec.ofNat 32 (2 ^ 30 + n)
    ∧ Keeps [] [⟨Reg.CCX_CTXRES, 0, 32⟩] s t) ∧
  (∀ (s : State) n c, n < 1024 → s.ctx n = some c → c.st = 2 → ∃ t, exec (.ctxQueueb n) s = .next t ∧ t.ctx n = some
    { c with queues := c.queues ||| 2 } ∧ t.ccx.qb = s.ccx.qb ++ [n] ∧ t.rd Reg.CCX_CTXRES = BitVec.ofNat 32 (2 ^ 31 + n) ∧ Keeps [.ccx,
    .free, .mem, .rbk] (recFields ++ [Fld.MEM_FLT_SRAMUE, Fld.MEM_SRAMERR_REGION, Fld.MEM_SRAMERR_CE, Fld.MEM_SRAMERR_UE,
    Fld.CCX_FLT_TABLE, ⟨Reg.CCX_CTXRES, 0, 32⟩]) s t) ∧
  (∀ (s : State) n c r a, n < 1024 → s.ctx n = some c → c.st = 2 → c.write = true → (s.ctxWord n 17).1.getLsbD 1 = true → s.resvOf n =
    some r → r.win0 = 0 → r.win1 = 256 → 1 ≤ c.len → c.len ≤ 256 → r.full false c.len = true → s.posWord n 0 = some a → ∃ t, exec
    (.ctxCache n) s = .next t ∧ t.ctx n = some { c with caching := true, cached := c.cached + c.len } ∧ t.rd Reg.CCX_CTXRES = BitVec.ofNat
    32 (2 ^ 31 + n) ∧ Keeps [.ang, .buf, .ccx, .ch, .free, .lpe, .mem, .msq, .plk, .rbk, .sys, .vale, .wrp] (advFields s .a ++ advFields s
    .b ++ [Fld.MEM_EV_CE, Fld.MEM_EV_UE, Fld.MEM_FLT_SRAMUE, Fld.MEM_UEADDR_ADDR, Fld.MEM_UEINFO_INIT, Fld.MEM_UEINFO_OVF,
    Fld.MEM_UEINFO_VALID, Fld.MEM_CETCTL_CET_OVF, Fld.MEM_SRAMERR_REGION, Fld.MEM_SRAMERR_CE, Fld.MEM_SRAMERR_UE, Fld.MEM_CNT_UE,
    Fld.MEM_CNT_CE, Fld.CCX_FLT_TABLE, ⟨Reg.CCX_CTXRES, 0, 32⟩]) s t) ∧
  (∀ (s : State) n c, n < 1024 → s.ctx n = some c → c.st ≠ 2 ∨ c.write = false → ∃ t, exec (.ctxCache n) s = .next t ∧ t.rd Reg.CCX_CTXRES
    = BitVec.ofNat 32 (2 ^ 30 + n) ∧ t.ccx = s.ccx ∧ Keeps [.ang, .buf, .ccx, .ch, .free, .lpe, .mem, .msq, .plk, .rbk, .sys, .vale, .wrp]
    (advFields s .a ++ advFields s .b ++ [Fld.MEM_EV_CE, Fld.MEM_EV_UE, Fld.MEM_FLT_SRAMUE, Fld.MEM_UEADDR_ADDR, Fld.MEM_UEINFO_INIT,
    Fld.MEM_UEINFO_OVF, Fld.MEM_UEINFO_VALID, Fld.MEM_CETCTL_CET_OVF, Fld.MEM_SRAMERR_REGION, Fld.MEM_SRAMERR_CE, Fld.MEM_SRAMERR_UE,
    Fld.MEM_CNT_UE, Fld.MEM_CNT_CE, Fld.CCX_FLT_TABLE, ⟨Reg.CCX_CTXRES, 0, 32⟩]) s t) ∧
  (∀ (s : State) n c r, n < 1024 → s.ctx n = some c → c.st = 2 → c.write = false → s.resvOf n = some r → ∃ t, exec (.ctxZero n) s = .next
    t ∧ (t.resvOf n).bind (fun q => q.zeroFrom) = some (c.len - wfield (s.ctxWord n 23).1 0 16) ∧ t.rd Reg.CCX_CTXRES = BitVec.ofNat 32 (2
    ^ 31 + n) ∧ Keeps [.buf, .free, .mem, .rbk] (recFields ++ [Fld.MEM_FLT_SRAMUE, Fld.MEM_SRAMERR_REGION, Fld.MEM_SRAMERR_CE,
    Fld.MEM_SRAMERR_UE, Fld.BUF_EV_SEGFAIL, Fld.CCX_FLT_TABLE, ⟨Reg.CCX_CTXRES, 0, 32⟩]) s t) ∧
  (∀ (s : State) n c r, n < 1024 → s.ctx n = some c → s.resvOf n = some r → c.st ≠ 2 ∨ c.write = true → ∃ t, exec (.ctxZero n) s = .next t
    ∧ t.rd Reg.CCX_CTXRES = BitVec.ofNat 32 (2 ^ 30 + n) ∧ Keeps [] [⟨Reg.CCX_CTXRES, 0, 32⟩] s t) ∧
  (∀ (s : State) n status c, n < 1024 → s.ctx n = some c → (c.st = 1 ∨ c.st = 2 ∨ c.st = 4) → s.ctxDone n c = false → ∃ t, exec (.ctxEnd n
    status) s = .next t ∧ (t.ctx n).map (fun e => (e.st, e.status)) = some (3, if c.status = 0 then status.toNat else c.status) ∧ t.rd
    Reg.CCX_CTXRES = BitVec.ofNat 32 (2 ^ 31 + n) ∧ t.ccx.qa = s.ccx.qa.filter (fun k => k != n) ∧ Keeps [.ang, .buf, .ccx, .ch, .cph,
    .lpe, .mem, .msq, .plk, .rbk, .spn, .sys, .vale, .wrp] (modeFields ++ squashFields s .a ++ squashFields s .b ++ [Fld.MSQ_FLT_PROG .a,
    Fld.MSQ_FLT_PROG .b, ⟨Reg.CCX_CTXRES, 0, 32⟩]) s t) ∧
  (∀ (s : State) n status c, n < 1024 → s.ctx n = some c → c.st = 2 → s.ctxDone n c = true → ∃ t, exec (.ctxEnd n status) s = .next t ∧
    t.ctx n = none ∧ t.rd Reg.CCX_CTXRES = BitVec.ofNat 32 (2 ^ 31 + n) ∧ Keeps [.ang, .buf, .ccx, .ch, .cph, .lpe, .mem, .msq, .plk,
    .rbk, .spn, .sys, .vale, .wrp] (modeFields ++ squashFields s .a ++ squashFields s .b ++ [Fld.MSQ_FLT_PROG .a, Fld.MSQ_FLT_PROG .b,
    ⟨Reg.CCX_CTXRES, 0, 32⟩]) s t) ∧
  (∀ (s : State) n status c, n < 1024 → s.ctx n = some c → c.st = 3 → ∃ t, exec (.ctxEnd n status) s = .next t ∧ t.rd Reg.CCX_CTXRES =
    BitVec.ofNat 32 (2 ^ 30 + n) ∧ t.ccx = s.ccx ∧ Keeps [.ang, .buf, .ccx, .ch, .cph, .lpe, .mem, .msq, .plk, .rbk, .spn, .sys, .vale,
    .wrp] (modeFields ++ squashFields s .a ++ squashFields s .b ++ [Fld.MSQ_FLT_PROG .a, Fld.MSQ_FLT_PROG .b, ⟨Reg.CCX_CTXRES, 0, 32⟩]) s
    t)

/-- R643, R644, R646, R647: the ends of a context. The first status stays. -/
def Obligations.ContextsEnd : Prop :=
  (∀ (s : State) i q n rest, q = 0 → s.ccx.qa = n :: rest → ∃ t, exec (.ccxPop i q) s = .next t ∧ t.ccx = { s.ccx with qa := rest } ∧ mget
    (fun _ => (0 : BitVec 64)) t.bus.readData i.idx = (BitVec.ofNat 32 (2 ^ 31 + n)).zeroExtend 64 ∧ Keeps [.bus, .ccx] [] s t) ∧
  (∀ (s : State) i q n rest, q = 1 → s.ccx.qb = n :: rest → ∃ t, exec (.ccxPop i q) s = .next t ∧ t.ccx = { s.ccx with qb := rest } ∧ mget
    (fun _ => (0 : BitVec 64)) t.bus.readData i.idx = (BitVec.ofNat 32 (2 ^ 31 + n)).zeroExtend 64 ∧ Keeps [.bus, .ccx] [] s t) ∧
  (∀ (s : State) i q n d rest, q = 2 → s.ccx.qn = (n, d) :: rest → ∃ t, exec (.ccxPop i q) s = .next t ∧ t.ccx = { s.ccx with qn := rest }
    ∧ mget (fun _ => (0 : BitVec 64)) t.bus.readData i.idx = (BitVec.ofNat 32 (2 ^ 31 + b2n d * 2 ^ 30 + n)).zeroExtend 64 ∧ Keeps [.bus,
    .ccx] [] s t) ∧
  (∀ (s : State) i q, q = 0 → s.ccx.qa = [] → ∃ t, exec (.ccxPop i q) s = .next t ∧ t.ccx = s.ccx ∧ mget (fun _ => (0 : BitVec 64))
    t.bus.readData i.idx = 0#64 ∧ Keeps [.bus, .ccx] [] s t) ∧
  (∀ (s : State) n c, s.ctx n = some c → s.ctxDone n c = true → c.kind ≠ 2 → c.silent = false → ∃ t, exec (.contextComplete n) s = .next t
    ∧ t.ctx n = none ∧ t.ccx.posted = some (c.port, (c.tag, c.status)) ∧ t.resvOf n = none ∧ Keeps [.buf, .ccx, .cph, .mem] [] s t) ∧
  (∀ (s : State) n c, s.ctx n = some c → s.ctxDone n c = true → c.kind = 2 → ∃ t, exec (.contextComplete n) s = .next t ∧ t.ctx n = none ∧
    t.ccx.posted = s.ccx.posted ∧ t.ccx.qn = s.ccx.qn ++ [(n, true)] ∧ Keeps [.buf, .ccx, .cph, .mem] [] s t) ∧
  (∀ (s : State) n c k, s.ctx n = some c → s.ctxDone n c = true → c.slot = some k → ∃ t, exec (.contextComplete n) s = .next t ∧ (t.ks
    k).use = (s.ks k).use - 1 ∧ Keeps [.buf, .ccx, .cph, .mem] [] s t) ∧
  (∀ (s : State) n c, s.ctx n = some c → s.ctxDone n c = false → exec (.contextComplete n) s = .next s) ∧
  (∀ (s : State) n c lim, s.ctx n = some c → s.ctxLimit n c = some lim → c.st ≠ 3 → s.ctxDone n c = false → (notedFields s .a ++
    notedFields s .b).all (fun f => f.addr != Reg.CCX_CNT) = true → c.at_ + lim * 800000000 ≤ s.now → ∃ t, exec (.contextTimeout n) s =
    .next t ∧ (t.ctx n).map (fun e => (e.st, e.status)) = some (3, if c.status = 0 then 7 else c.status) ∧ t.flag Fld.CCX_EV_TMO = true ∧
    t.get Fld.CCX_CNT_TMO = satAdd 16 (s.get Fld.CCX_CNT_TMO) 1 ∧ Keeps [.ang, .buf, .ccx, .ch, .cph, .lpe, .mem, .msq, .plk, .rbk, .spn,
    .sys, .vale, .wrp] (modeFields ++ squashFields s .a ++ squashFields s .b ++ [Fld.MSQ_FLT_PROG .a, Fld.MSQ_FLT_PROG .b, Fld.CCX_EV_TMO,
    Fld.CCX_CNT_TMO]) s t) ∧
  (∀ (s : State) n c lim, s.ctx n = some c → s.ctxLimit n c = some lim → c.st ≠ 3 → s.ctxDone n c = true → c.at_ + lim * 800000000 ≤ s.now
    → exec (.contextTimeout n) s = .next (s.ctxFree n c)) ∧
  (∀ (s : State) n c lim, s.ctx n = some c → s.ctxLimit n c = some lim → s.now < c.at_ + lim * 800000000 → exec (.contextTimeout n) s =
    .next s) ∧
  (∀ (s : State) n c, s.ctx n = some c → s.ctxLimit n c = none → exec (.contextTimeout n) s = .next s) ∧
  (∀ (s : State) port unit tag tmf n c, s.ccx.ctxs.filter (fun e => inScope port unit tag e.2) = [(n, c)] → s.ctx n = some c → c.st ≠ 3 →
    s.ctxDone n c = false → (notedFields s .a ++ notedFields s .b).all (fun f => f.addr != Reg.CCX_CNT) = true → ∃ t, exec (.hostAbort
    port unit tag tmf) s = .next t ∧ (t.ctx n).map (fun e => (e.st, e.status)) = some (3, if c.status = 0 then 8 else c.status) ∧ t.flag
    Fld.CCX_EV_ABORT = true ∧ t.get Fld.CCX_CNT_ABORT = satAdd 16 (s.get Fld.CCX_CNT_ABORT) 1 ∧ t.flag Fld.SAS_EV_TMF = (tmf || s.flag
    Fld.SAS_EV_TMF) ∧ Keeps [.ang, .buf, .ccx, .ch, .cph, .lpe, .mem, .msq, .plk, .rbk, .spn, .sys, .vale, .wrp] (modeFields ++
    squashFields s .a ++ squashFields s .b ++ [Fld.MSQ_FLT_PROG .a, Fld.MSQ_FLT_PROG .b, Fld.SAS_EV_TMF, Fld.CCX_EV_ABORT,
    Fld.CCX_CNT_ABORT]) s t) ∧
  (∀ (s : State) port unit tag tmf n c, s.ctx n = some c → inScope port unit tag c = true → (s.ccx.ctxs.map Prod.fst).Nodup → (∀ e ∈
    s.ccx.ctxs, inScope port unit tag e.2 = true → e.2.st ≠ 3 ∧ s.ctxDone e.1 e.2 = false) → (s.msq .a).running = none → (s.msq
    .b).running = none → ∃ t, exec (.hostAbort port unit tag tmf) s = .next t ∧ (t.ctx n).map (fun e => (e.st, e.status)) = some (3, if
    c.status = 0 then 8 else c.status) ∧ t.flag Fld.CCX_EV_ABORT = true ∧ t.get Fld.CCX_CNT_ABORT = satAdd 16 (s.get Fld.CCX_CNT_ABORT)
    (s.ccx.ctxs.filter (fun e => inScope port unit tag e.2)).length ∧ t.flag Fld.SAS_EV_TMF = (tmf || s.flag Fld.SAS_EV_TMF) ∧ Keeps
    [.ang, .buf, .ccx, .ch, .cph, .lpe, .mem, .msq, .plk, .rbk, .spn, .sys, .vale, .wrp] (modeFields ++ squashFields s .a ++ squashFields
    s .b ++ [Fld.MSQ_FLT_PROG .a, Fld.MSQ_FLT_PROG .b, Fld.SAS_EV_TMF, Fld.CCX_EV_ABORT, Fld.CCX_CNT_ABORT]) s t) ∧
  (∀ (s : State) port unit tag tmf n c, s.ccx.ctxs.filter (fun e => inScope port unit tag e.2) = [(n, c)] → s.ctx n = some c → c.st ≠ 3 →
    s.ctxDone n c = true → ∃ t, exec (.hostAbort port unit tag tmf) s = .next t ∧ t.ctx n = none ∧ t.get Fld.CCX_CNT_ABORT = s.get
    Fld.CCX_CNT_ABORT ∧ Keeps [.ang, .buf, .ccx, .ch, .cph, .lpe, .mem, .msq, .plk, .rbk, .spn, .sys, .vale, .wrp] (modeFields ++
    squashFields s .a ++ squashFields s .b ++ [Fld.MSQ_FLT_PROG .a, Fld.MSQ_FLT_PROG .b, Fld.SAS_EV_TMF, Fld.CCX_EV_ABORT,
    Fld.CCX_CNT_ABORT]) s t) ∧
  (∀ (s : State) port unit tag tmf, s.ccx.ctxs.filter (fun e => inScope port unit tag e.2) = [] → ∃ t, exec (.hostAbort port unit tag tmf)
    s = .next t ∧ t.ccx = s.ccx ∧ t.get Fld.CCX_CNT_ABORT = s.get Fld.CCX_CNT_ABORT ∧ t.flag Fld.SAS_EV_TMF = (tmf || s.flag
    Fld.SAS_EV_TMF) ∧ Keeps [.ang, .buf, .ccx, .ch, .cph, .lpe, .mem, .msq, .plk, .rbk, .spn, .sys, .vale, .wrp] (modeFields ++
    squashFields s .a ++ squashFields s .b ++ [Fld.MSQ_FLT_PROG .a, Fld.MSQ_FLT_PROG .b, Fld.SAS_EV_TMF, Fld.CCX_EV_ABORT,
    Fld.CCX_CNT_ABORT]) s t)

/-- R636, R651, R652, R655 to R657: the host side. -/
def Obligations.HostResetsAndManagement : Prop :=
  (∀ (s : State) portB, s.pcieMode = false → (notedFields s .a ++ notedFields s .b).all (fun f => f.addr != Reg.SAS_CNT) = true → ∃ t,
    exec (.sasHardReset portB) s = .next t ∧ t.flag Fld.SYS_RSTCAUSE_HOST = true ∧ t.flag Fld.SAS_EV_HARDRST = true ∧ t.flag
    Fld.HIF_EV_HOSTRST = true ∧ t.get (if portB = true then Fld.SAS_CNT_RSTB else Fld.SAS_CNT_RSTA) = satAdd 8 (s.get (if portB = true
    then Fld.SAS_CNT_RSTB else Fld.SAS_CNT_RSTA)) 1 ∧ t.get Fld.SAS_CNT_INVDW = s.get Fld.SAS_CNT_INVDW ∧ (portB = true → t.host.addrB =
    BitVec.ofNat 64 ((s.rd Reg.SAS_ADDRB).toNat + (s.rd Reg.SAS_ADDRBH).toNat * 2 ^ 32)) ∧ (portB = false → t.host.addrA = BitVec.ofNat 64
    ((s.rd Reg.SAS_ADDRA).toNat + (s.rd Reg.SAS_ADDRAH).toNat * 2 ^ 32)) ∧ Keeps [.ang, .buf, .ccx, .ch, .cph, .host, .lpe, .mem, .msq,
    .plk, .rbk, .spn, .sys, .vale, .wrp] (modeFields ++ squashFields s .a ++ squashFields s .b ++ [Fld.SYS_RSTCAUSE_HOST, Fld.MSQ_FLT_PROG
    .a, Fld.MSQ_FLT_PROG .b, Fld.HIF_EV_HOSTRST, Fld.SAS_EV_HARDRST, Fld.SAS_CNT_RSTA, Fld.SAS_CNT_RSTB]) s t) ∧
  (∀ (s : State) portB n c, s.pcieMode = false → s.ccx.ctxs = [(n, c)] → c.kind ≠ 2 → c.port = b2n portB → c.st ≠ 3 → s.ctxDone n c =
    false → ∃ t, exec (.sasHardReset portB) s = .next t ∧ (t.ctx n).map (fun e => (e.st, (e.status, e.silent))) = some (3, (if c.status =
    0 then 8 else c.status, true)) ∧ Keeps [.ang, .buf, .ccx, .ch, .cph, .host, .lpe, .mem, .msq, .plk, .rbk, .spn, .sys, .vale, .wrp]
    (modeFields ++ squashFields s .a ++ squashFields s .b ++ [Fld.SYS_RSTCAUSE_HOST, Fld.MSQ_FLT_PROG .a, Fld.MSQ_FLT_PROG .b,
    Fld.HIF_EV_HOSTRST, Fld.SAS_EV_HARDRST, Fld.SAS_CNT_RSTA, Fld.SAS_CNT_RSTB]) s t) ∧
  (∀ (s : State) portB, s.pcieMode = true → exec (.sasHardReset portB) s = .next s) ∧
  (∀ (s : State), s.pcieMode = true → (notedFields s .a ++ notedFields s .b).all (fun f => f.addr != Reg.PCIE_CNT) = true → ∃ t, exec
    .perst s = .next t ∧ t.flag Fld.SYS_RSTCAUSE_HOST = true ∧ t.flag Fld.PCIE_EV_PERST = true ∧ t.flag Fld.HIF_EV_HOSTRST = true ∧ t.get
    Fld.PCIE_STAT_SPEED = 0 ∧ t.get Fld.PCIE_STAT_WIDTH = 0 ∧ t.get Fld.HIF_STAT_LANEUP = 0 ∧ t.flag Fld.PCIE_STAT_RDY = false ∧ t.rd
    Reg.PCIE_CNT = 0#32 ∧ t.host.pcieCfg = s.rd Reg.PCIE_CFG ∧ t.host.pcieId = s.rd Reg.PCIE_ID ∧ t.host.ccEnAt = none ∧ Keeps [.ang,
    .buf, .ccx, .ch, .cph, .host, .lpe, .mem, .msq, .plk, .rbk, .spn, .sys, .vale, .wrp] (modeFields ++ squashFields s .a ++ squashFields
    s .b ++ [Fld.SYS_RSTCAUSE_HOST, Fld.MSQ_FLT_PROG .a, Fld.MSQ_FLT_PROG .b, Fld.HIF_EV_LINK, Fld.HIF_EV_HOSTRST, Fld.HIF_STAT_LANEUP,
    Fld.PCIE_EV_LINK, Fld.PCIE_EV_PERST, Fld.PCIE_STAT_WIDTH, Fld.PCIE_STAT_SPEED, Fld.PCIE_STAT_RDY, ⟨Reg.PCIE_CNT, 0, 32⟩]) s t) ∧
  (∀ (s : State), s.pcieMode = false → exec .perst s = .next s) ∧
  (∀ (s : State) flr, s.pcieMode = true → (notedFields s .a ++ notedFields s .b).all (fun f => f.addr != Reg.PCIE_CNT) = true → ∃ t, exec
    (.functionLevelReset flr) s = .next t ∧ t.flag (if flr = true then Fld.PCIE_EV_FLR else Fld.PCIE_EV_CCEN) = true ∧ t.flag
    Fld.HIF_EV_HOSTRST = true ∧ t.flag Fld.PCIE_STAT_RDY = false ∧ t.rd Reg.PCIE_CNT = s.rd Reg.PCIE_CNT ∧ t.host.ccEnAt = none ∧ t.flag
    Fld.SYS_RSTCAUSE_HOST = (s.flag Fld.SYS_RSTCAUSE_HOST) ∧ Keeps [.ang, .buf, .ccx, .ch, .cph, .host, .lpe, .mem, .msq, .plk, .rbk,
    .spn, .sys, .vale, .wrp] (modeFields ++ squashFields s .a ++ squashFields s .b ++ [Fld.MSQ_FLT_PROG .a, Fld.MSQ_FLT_PROG .b,
    Fld.HIF_EV_HOSTRST, Fld.PCIE_EV_CCEN, Fld.PCIE_EV_FLR, Fld.PCIE_STAT_RDY]) s t) ∧
  (∀ (s : State) flr n c, s.pcieMode = true → s.ccx.ctxs = [(n, c)] → c.kind ≠ 2 → c.port = 2 → c.st ≠ 3 → s.ctxDone n c = false → ∃ t,
    exec (.functionLevelReset flr) s = .next t ∧ (t.ctx n).map (fun e => (e.st, (e.status, e.silent))) = some (3, (if c.status = 0 then 8
    else c.status, true)) ∧ Keeps [.ang, .buf, .ccx, .ch, .cph, .host, .lpe, .mem, .msq, .plk, .rbk, .spn, .sys, .vale, .wrp] (modeFields
    ++ squashFields s .a ++ squashFields s .b ++ [Fld.MSQ_FLT_PROG .a, Fld.MSQ_FLT_PROG .b, Fld.HIF_EV_HOSTRST, Fld.PCIE_EV_CCEN,
    Fld.PCIE_EV_FLR, Fld.PCIE_STAT_RDY]) s t) ∧
  (∀ (s : State) flr, s.pcieMode = false → exec (.functionLevelReset flr) s = .next s) ∧
  (∀ (s : State) a, s.host.ccEnAt = some a → s.host.startAt + 48000000 ≤ s.now → a + 16000000 ≤ s.now → ∃ t, exec .cstsRdy s = .next t ∧
    t.flag Fld.PCIE_STAT_RDY = true ∧ Keeps [] [Fld.PCIE_STAT_RDY] s t) ∧
  (∀ (s : State) a, s.host.ccEnAt = some a → s.now < s.host.startAt + 48000000 ∨ s.now < a + 16000000 → exec .cstsRdy s = .next s) ∧
  (∀ (s : State) n pass img p memOk, s.sys.noImage = false → exec (.recoveryDownloadCommit n pass img p memOk) s = .next s) ∧
  (∀ (s : State) n pass img p memOk c, s.sys.noImage = true → pass = false → s.ctx n = some c → c.st ≠ 3 → s.ctxDone n c = false → ∃ t,
    exec (.recoveryDownloadCommit n pass img p memOk) s = .next t ∧ (t.ctx n).map (fun e => (e.st, e.status)) = some (3, if c.status = 0
    then 0x80 else c.status) ∧ t.sys.noImage = true ∧ t.xsp = s.xsp ∧ Keeps [.ang, .apc, .buf, .bus, .ccx, .ch, .cph, .d2d, .dbg, .free,
    .host, .hwd, .lpe, .mem, .msq, .now, .pins, .plk, .pwr, .rbk, .regs, .romPar, .spn, .sys, .thm, .vale, .wrp, .xsp] [] s t) ∧
  (∀ (s : State) n pass img p memOk, s.sys.noImage = true → pass = true → ∃ t, exec (.recoveryDownloadCommit n pass img p memOk) s = .next
    t ∧ t.sys.noImage = false ∧ t.pins.resetL = false ∧ t.xsp.flash = ((s.flashWrite img.bytes img.base).bootName img.recBase (b2n
    img.slotB)).xsp.flash ∧ Keeps [.ang, .apc, .buf, .bus, .ccx, .ch, .cph, .d2d, .dbg, .free, .host, .hwd, .lpe, .mem, .msq, .now, .pins,
    .plk, .pwr, .rbk, .regs, .romPar, .spn, .sys, .thm, .vale, .wrp, .xsp] [] s t) ∧
  (∀ (s : State) ofs, s.mgtOn = true → exec (.mgtWrite ofs) s = .next ({ s with host := { s.host with mgtOfs := ofs.toNat } })) ∧
  (∀ (s : State) ofs, s.mgtOn = false → exec (.mgtWrite ofs) s = .next s) ∧
  (∀ (s : State) len, s.mgtOn = true → exec (.mgtRead len) s = .next
    ({ s with host := { s.host with mgtData := (List.range len).map (fun i => s.mgtByte ((s.host.mgtOfs + i) % 256)), mgtOfs := (s.host.mgtOfs + len) % 256 } })) ∧
  (∀ (s : State) len, s.mgtOn = false → exec (.mgtRead len) s = .next s)

/-- R667 to R674, R677, R678, R666, R802: the control cores as the block sees them. -/
def Obligations.ControlCores : Prop :=
  (∀ (s : State) core p1 pairs verified, s.flag (coreF (coreN core) (b2n p1) 1) = false → exec (.pairDropout core p1 pairs verified) s =
    .next s) ∧
  (∀ (s : State) core p1 pairs verified, s.admitted (coreN core) = 2 → ∃ t, exec (.pairDropout core p1 pairs verified) s = .next t ∧
    t.flag (coreF (coreN core) (b2n p1) 1) = false ∧ t.flag (coreF (coreN core) (1 - b2n p1) 1) = true ∧ t.flag (coreF (coreN core) 4 1) =
    !p1 ∧ t.flag Fld.INTC_EV_DROP = true ∧ Keeps [.rbk] (recFields ++ [Fld.INTC_EV_DROP, ⟨Reg.INTC_CORE, 0, 32⟩]) s t) ∧
  (∀ (s : State) core p1 pairs verified, s.flag (coreF (coreN core) (b2n p1) 1) = true → s.admitted (coreN core) = 1 → ∃ t, exec
    (.pairDropout core p1 pairs verified) s = .next t ∧ t.flag Fld.SYS_RSTCAUSE_WARM = true ∧ t.get Fld.SYS_RSTCAUSE_WSRC = 3 ∧ t.flag
    (coreF (coreN core) 3 1) = true ∧ t.flag Fld.INTC_EV_DROP = true ∧ Keeps [.ang, .apc, .buf, .ccx, .ch, .cph, .host, .lpe, .mem, .msq,
    .pins, .plk, .rbk, .regs, .spn, .sys, .vale, .wrp, .xsp] [] s t) ∧
  (∀ (s : State) core, s.admitted (coreN core) = 1 → s.flag (rdmF (coreN core)) = false → ∃ t, exec (.pairReadmit core) s = .next t ∧
    t.flag (rdmF (coreN core)) = true ∧ t.get (coreF (coreN core) 6 2) = 1 ∧ Keeps [.apc] [⟨Reg.INTC_CORE, 0, 32⟩] s t) ∧
  (∀ (s : State) core, s.admitted (coreN core) ≠ 1 → exec (.pairReadmit core) s = .next s) ∧
  (∀ (s : State) core pass, s.flag (rdmF (coreN core)) = true → (mfind s.apc.rdmAt (coreN core)).getD 0 + 240000 ≤ s.now → pass = true → ∃
    t, exec (.pairReadmitDone core pass) s = .next t ∧ t.flag (rdmF (coreN core)) = false ∧ t.get (coreF (coreN core) 6 2) = 2 ∧
    t.admitted (coreN core) = 2 ∧ t.flag (coreF (coreN core) 4 1) = false ∧ t.flag Fld.INTC_EV_READMIT = true ∧ Keeps [.rbk] (recFields ++
    [Fld.INTC_EV_READMIT, ⟨Reg.INTC_CORE, 0, 32⟩]) s t) ∧
  (∀ (s : State) core pass, s.flag (rdmF (coreN core)) = true → (mfind s.apc.rdmAt (coreN core)).getD 0 + 240000 ≤ s.now → pass = false →
    ∃ t, exec (.pairReadmitDone core pass) s = .next t ∧ t.flag (rdmF (coreN core)) = false ∧ t.get (coreF (coreN core) 6 2) = 3 ∧
    t.admitted (coreN core) = s.admitted (coreN core) ∧ Keeps [] [⟨Reg.INTC_CORE, 0, 32⟩] s t) ∧
  (∀ (s : State) core pass, s.flag (rdmF (coreN core)) = false → exec (.pairReadmitDone core pass) s = .next s) ∧
  (∀ (s : State), s.flag Fld.INTC_WDCFG_EN0 = true → ∃ t, exec (.watchdogKick .lc0 0xA5C3#32) s = .next t ∧ t.apc =
    { s.apc with wd0 := { at_ := s.now, period := s.eff Fld.INTC_WDCFG_PERIOD * 800000, paused := none } } ∧ Keeps [.apc] [] s t) ∧
  (∀ (s : State), s.flag Fld.INTC_WDCFG_EN1 = true → ∃ t, exec (.watchdogKick .lc1 0xA5C3#32) s = .next t ∧ t.apc =
    { s.apc with wd1 := { at_ := s.now, period := s.eff Fld.INTC_WDCFG_PERIOD * 800000, paused := none } } ∧ Keeps [.apc] [] s t) ∧
  (∀ (s : State) i v, v ≠ 0xA5C3#32 ∨ i = .dbg → exec (.watchdogKick i v) s = .next s) ∧
  (∀ (s : State), s.flag Fld.INTC_WDCFG_EN0 = false → ∃ t, exec (.watchdogEnable false) s = .next t ∧ t.flag Fld.INTC_WDCFG_EN0 = true ∧
    t.apc = { s.apc with wd0 := { at_ := s.now, period := s.eff Fld.INTC_WDCFG_PERIOD * 800000, paused := none } } ∧ Keeps [.apc]
    [Fld.INTC_WDCFG_EN0] s t) ∧
  (∀ (s : State), s.flag Fld.INTC_WDCFG_EN1 = false → ∃ t, exec (.watchdogEnable true) s = .next t ∧ t.flag Fld.INTC_WDCFG_EN1 = true ∧
    t.apc = { s.apc with wd1 := { at_ := s.now, period := s.eff Fld.INTC_WDCFG_PERIOD * 800000, paused := none } } ∧ Keeps [.apc]
    [Fld.INTC_WDCFG_EN1] s t) ∧
  (∀ (s : State) core, s.flag (wdEn (coreN core)) = true → exec (.watchdogEnable core) s = .next s) ∧
  (∀ (s : State) core pairs verified, s.flag (wdEn (coreN core)) = true → (s.wd (coreN core)).paused = none → (s.wd (coreN core)).at_ +
    (s.wd (coreN core)).period ≤ s.now → ∃ t, exec (.watchdogExpiry core pairs verified) s = .next t ∧ t.flag (coreF (coreN core) 5 1) =
    true ∧ t.flag Fld.INTC_FLT_WDT = true ∧ t.flag Fld.SYS_RSTCAUSE_WARM = true ∧ t.get Fld.SYS_RSTCAUSE_WSRC = 2 ∧ Keeps [.ang, .apc,
    .buf, .ccx, .ch, .cph, .host, .lpe, .mem, .msq, .pins, .plk, .rbk, .regs, .spn, .sys, .vale, .wrp, .xsp] [] s t) ∧
  (∀ (s : State) core pairs verified, s.flag (wdEn (coreN core)) = false ∨ (s.wd (coreN core)).paused ≠ none ∨ s.now < (s.wd (coreN
    core)).at_ + (s.wd (coreN core)).period → exec (.watchdogExpiry core pairs verified) s = .next s) ∧
  (∀ (s : State) core i, (s.rd (causeReg (coreN core))).getLsbD 31 = false → s.bestSource (coreN core) = some i → ∃ t, exec
    (.interruptCauseLatch core) s = .next t ∧ t.rd (causeReg (coreN core)) = BitVec.ofNat 32 (2 ^ 31 + s.srcPrio i * 2 ^ 8 + i) ∧ Keeps []
    [⟨causeReg (coreN core), 0, 32⟩] s t) ∧
  (∀ (s : State) core, (s.rd (causeReg (coreN core))).getLsbD 31 = true ∨ s.bestSource (coreN core) = none → exec (.interruptCauseLatch
    core) s = .next s) ∧
  (∀ (s : State) i core, s.flag Fld.SYS_COMPAT_GEN7 = true → ∃ t, exec (.causeReadClear i core) s = .next t ∧ mget (fun _ => (0 : BitVec
    64)) t.bus.readData i.idx = (s.rd (causeReg (coreN core))).zeroExtend 64 ∧ (t.rd (causeReg (coreN core))).getLsbD 31 = false ∧ ((t.rd
    (causeReg (coreN core))).toNat % 2 ^ 31) = (s.rd (causeReg (coreN core))).toNat % 2 ^ 31 ∧ Keeps [.bus]
    [⟨causeReg (coreN core), 31, 1⟩] s t) ∧
  (∀ (s : State) i core, s.flag Fld.SYS_COMPAT_GEN7 = false → ∃ t, exec (.causeReadClear i core) s = .next t ∧ mget (fun _ => (0 : BitVec
    64)) t.bus.readData i.idx = (s.rd (causeReg (coreN core))).zeroExtend 64 ∧ Keeps [.bus] [] s t) ∧
  (∀ (s : State) v, ∃ t, exec (.countdownTimerStart false v) s = .next t ∧ t.get Fld.INTC_TMR0_COUNT = v.toNat ∧ t.apc =
    { s.apc with tmr0 := s.now } ∧ Keeps [.apc] [Fld.INTC_TMR0_COUNT] s t) ∧
  (∀ (s : State) v, ∃ t, exec (.countdownTimerStart true v) s = .next t ∧ t.get Fld.INTC_TMR1_COUNT = v.toNat ∧ t.apc =
    { s.apc with tmr1 := s.now } ∧ Keeps [.apc] [Fld.INTC_TMR1_COUNT] s t) ∧
  (∀ (s : State), 0 < s.get Fld.INTC_TMR0_COUNT → s.apc.tmr0 + 800 * s.get Fld.INTC_TMR0_COUNT ≤ s.now → ∃ t, exec (.countdownTimerExpiry
    false) s = .next t ∧ t.get Fld.INTC_TMR0_COUNT = 0 ∧ t.flag Fld.INTC_EV_TMR0 = true ∧ Keeps [.rbk] (recFields ++ [Fld.INTC_EV_TMR0,
    Fld.INTC_TMR0_COUNT]) s t) ∧
  (∀ (s : State), 0 < s.get Fld.INTC_TMR1_COUNT → s.apc.tmr1 + 800 * s.get Fld.INTC_TMR1_COUNT ≤ s.now → ∃ t, exec (.countdownTimerExpiry
    true) s = .next t ∧ t.get Fld.INTC_TMR1_COUNT = 0 ∧ t.flag Fld.INTC_EV_TMR1 = true ∧ Keeps [.rbk] (recFields ++ [Fld.INTC_EV_TMR1,
    Fld.INTC_TMR1_COUNT]) s t) ∧
  (∀ (s : State), s.get Fld.INTC_TMR0_COUNT = 0 ∨ s.now < s.apc.tmr0 + 800 * s.get Fld.INTC_TMR0_COUNT → exec (.countdownTimerExpiry
    false) s = .next s) ∧
  (∀ (s : State) core v a b w, (s.lcCsr (coreN core)).mode = 3 → s.apc.dirty = [(a, b)] → a / 64 = v.toNat / 64 → 0x20000000 ≤ a → a <
    0x20800000 → mfind s.mem.sram (a / 4) = some (some w) → ∃ t, exec (.mcmo core v) s = .next t ∧ t.apc.dirty = [] ∧ mfind t.mem.sram (a
    / 4) = some (some (wput w (8 * (a % 4)) 8 b.toNat)) ∧ Keeps [.apc, .bus, .free, .mem, .rbk] (recFields ++ [Fld.MEM_EV_CE,
    Fld.MEM_EV_UE, Fld.MEM_FLT_SRAMUE, Fld.MEM_UEADDR_ADDR, Fld.MEM_UEINFO_INIT, Fld.MEM_UEINFO_OVF, Fld.MEM_UEINFO_VALID,
    Fld.MEM_CETCTL_CET_OVF, Fld.MEM_SRAMERR_REGION, Fld.MEM_SRAMERR_CE, Fld.MEM_SRAMERR_UE, Fld.MEM_CNT_UE, Fld.MEM_CNT_CE]) s t) ∧
  (∀ (s : State) core v, (s.lcCsr (coreN core)).mode = 3 → (∀ e ∈ s.apc.dirty, e.1 / 64 ≠ v.toNat / 64) → exec (.mcmo core v) s = .next s) ∧
  (∀ (s : State) core v, (s.lcCsr (coreN core)).mode ≠ 3 → exec (.mcmo core v) s = .next (s.busFault (if core = true then .lc1 else .lc0)
    6))

/-- R681, R686 to R688: the services of the boot ROM and XSP. That a program clears bits only is the family's (log 60). -/
def Obligations.ServicesAndFlash : Prop :=
  (∀ (s : State) core, s.apc.svc = none → exec (.rominfo core) s = .next (s.setRet (coreN core) (Config.bootRomRelease.toNat : Int))) ∧
  (∀ (s : State) core, s.apc.svc ≠ none → exec (.rominfo core) s = .next (s.setRet (coreN core) (-2))) ∧
  (∀ (s : State) core ofs dst n, s.apc.svc = none → s.flag Fld.XSP_CMD_GO = false → ∃ t, exec (.xspread core ofs dst n) s = .next t ∧
    t.apc.svc = some (coreN core, 1) ∧ t.flag Fld.XSP_CMD_GO = true ∧ t.get Fld.XSP_CMD_OP = 1 ∧ t.get Fld.XSP_FADDR_ADDR = ofs % 2 ^
    Fld.XSP_FADDR_ADDR.len ∧ t.get Fld.XSP_LEN_LEN = n % 2 ^ Fld.XSP_LEN_LEN.len ∧ t.rd Reg.XSP_MADDR = BitVec.ofNat 32 dst ∧ t.xsp.res =
    none ∧ Keeps [.apc, .xsp] [Fld.XSP_FADDR_ADDR, Fld.XSP_MADDR_ADDR, Fld.XSP_MADDRH_ADDRHI, Fld.XSP_LEN_LEN, Fld.XSP_CMD_OP,
    Fld.XSP_CMD_GO] s t) ∧
  (∀ (s : State) core ofs dst n, s.apc.svc ≠ none → exec (.xspread core ofs dst n) s = .next (s.setRet (coreN core) (-2))) ∧
  (∀ (s : State) core ofs granules, s.apc.svc = none → s.flag Fld.MEM_CTL_ZFGO = false → ∃ t, exec (.zerofill core ofs granules) s = .next
    t ∧ t.apc.svc = some (coreN core, 2) ∧ t.flag Fld.MEM_CTL_ZFGO = true ∧ t.get Fld.MEM_ZFOFS_OFS = ofs / 128 % 2 ^
    Fld.MEM_ZFOFS_OFS.len ∧ t.get Fld.MEM_ZFLEN_LEN = granules % 2 ^ Fld.MEM_ZFLEN_LEN.len ∧ Keeps [.apc, .mem] [Fld.MEM_CTL_ZFGO,
    Fld.MEM_ZFOFS_OFS, Fld.MEM_ZFLEN_LEN] s t) ∧
  (∀ (s : State) core ofs granules, s.apc.svc ≠ none → exec (.zerofill core ofs granules) s = .next (s.setRet (coreN core) (-2))) ∧
  (∀ (s : State) core code req w rest, s.apc.svc = none → s.flag Fld.HWD_MBCTL_GO = false → req = w :: rest → req.length ≤ 64 → code < 256
    → ∃ t, exec (.mboxcall core code req) s = .next t ∧ t.apc.svc = some (coreN core, 3) ∧ t.flag Fld.HWD_MBCTL_GO = true ∧ t.get
    Fld.HWD_MBCMD_CODE = code ∧ t.get Fld.HWD_MBCMD_LEN = req.length ∧ t.rd (Reg.HWD_MBREQ 0) = w ∧ t.hwd.goAt = s.now ∧ Keeps [.apc,
    .hwd] (requestFields ++ [Fld.HWD_MBCTL_GO, Fld.HWD_MBCMD_LEN, Fld.HWD_MBCMD_CODE]) s t) ∧
  (∀ (s : State) core code req, s.apc.svc ≠ none → exec (.mboxcall core code req) s = .next (s.setRet (coreN core) (-2))) ∧
  (∀ (s : State) w, s.flag Fld.XSP_CMD_GO = true → s.critical = false → s.get Fld.XSP_CMD_OP = 1 → s.xsp.res = none → s.flen = 1 → s.faddr
    + 1 ≤ s.flashSize → s.inWindow 0 s.faddr 1 = false → s.inWindow 1 s.faddr 1 = false → 0x20000000 ≤ s.maddr → s.maddr < 0x20800000 →
    mfind s.mem.sram (s.maddr / 4) = some (some w) → ∃ t, exec .xspRead s = .next t ∧ t.xsp = { s.xsp with res := some (0, 1) } ∧ mfind
    t.mem.sram (s.maddr / 4) = some (some (wput w (8 * (s.maddr % 4)) 8 (s.flashAt s.faddr).toNat)) ∧ Keeps [.free, .mem, .rbk, .xsp]
    (recFields ++ [Fld.MEM_EV_CE, Fld.MEM_EV_UE, Fld.MEM_FLT_SRAMUE, Fld.MEM_UEADDR_ADDR, Fld.MEM_UEINFO_INIT, Fld.MEM_UEINFO_OVF,
    Fld.MEM_UEINFO_VALID, Fld.MEM_CETCTL_CET_OVF, Fld.MEM_SRAMERR_REGION, Fld.MEM_SRAMERR_CE, Fld.MEM_SRAMERR_UE, Fld.MEM_CNT_UE,
    Fld.MEM_CNT_CE]) s t) ∧
  (∀ (s : State), s.flag Fld.XSP_CMD_GO = true → s.critical = false → s.get Fld.XSP_CMD_OP = 1 → s.xsp.res = none → s.flen = 0 ∨
    s.flashSize < s.faddr + s.flen ∨ s.inMem s.maddr s.flen = false → ∃ t, exec .xspRead s = .next t ∧ t.xsp =
    { s.xsp with res := some (2, 0) } ∧ Keeps [.xsp] [] s t) ∧
  (∀ (s : State) fail, s.flag Fld.XSP_CMD_GO = true → s.critical = false → s.get Fld.XSP_CMD_OP = 2 → s.xsp.res = none → s.apcMay s.faddr
    s.flen = false → ∃ t, exec (.xspProgram fail) s = .next t ∧ t.xsp = { s.xsp with res := some (1, 0) } ∧ Keeps [.xsp] [] s t) ∧
  (∀ (s : State) b, s.flag Fld.XSP_CMD_GO = true → s.critical = false → s.get Fld.XSP_CMD_OP = 2 → s.xsp.res = none → s.flen = 1 →
    s.apcMay s.faddr 1 = true → s.faddr + 1 ≤ s.flashSize → s.inMem s.maddr 1 = true → (State.bytesAt 7 1 s.maddr s).1 = ([b], true) → ∃
    t, exec (.xspProgram none) s = .next t ∧ t.xsp.res = some (0, 1) ∧ t.flashAt s.faddr = s.flashAt s.faddr &&& b ∧ (∀ k, k ≠ s.faddr →
    t.flashAt k = s.flashAt k) ∧ Keeps [.free, .mem, .rbk, .xsp] (recFields ++ [Fld.MEM_EV_CE, Fld.MEM_EV_UE, Fld.MEM_FLT_SRAMUE,
    Fld.MEM_UEADDR_ADDR, Fld.MEM_UEINFO_INIT, Fld.MEM_UEINFO_OVF, Fld.MEM_UEINFO_VALID, Fld.MEM_CETCTL_CET_OVF, Fld.MEM_SRAMERR_REGION,
    Fld.MEM_SRAMERR_CE, Fld.MEM_SRAMERR_UE, Fld.MEM_CNT_UE, Fld.MEM_CNT_CE]) s t) ∧
  (∀ (s : State), s.flag Fld.XSP_CMD_GO = true → s.critical = false → s.get Fld.XSP_CMD_OP = 3 → s.xsp.res = none → s.apcMay s.faddr 4096
    = true → s.faddr % 4096 = 0 → s.faddr + 4096 ≤ s.flashSize → ∃ t, exec (.xspErase4k false) s = .next t ∧ t.xsp.res = some (0, 0) ∧ (∀
    k, s.faddr ≤ k → k < s.faddr + 4096 → t.flashAt k = 0xFF#8) ∧ (∀ k, k < s.faddr ∨ s.faddr + 4096 ≤ k → t.flashAt k = s.flashAt k) ∧
    t.get Fld.XSP_CNT_ERASES = satAdd Fld.XSP_CNT_ERASES.len (s.get Fld.XSP_CNT_ERASES) 1 ∧ Keeps [.free, .xsp] [Fld.XSP_CNT_ERASES] s t) ∧
  (∀ (s : State) fail, s.flag Fld.XSP_CMD_GO = true → s.critical = false → s.get Fld.XSP_CMD_OP = 3 → s.xsp.res = none → s.apcMay (s.faddr
    / 4096 * 4096) 4096 = true → s.faddr % 4096 ≠ 0 → ∃ t, exec (.xspErase4k fail) s = .next t ∧ t.xsp = { s.xsp with res := some (2, 0) }
    ∧ Keeps [.xsp] [] s t) ∧
  (∀ (s : State), s.flag Fld.XSP_CMD_GO = true → s.critical = false → s.get Fld.XSP_CMD_OP = 4 → s.xsp.res = none → s.apcMay s.faddr 65536
    = true → s.faddr % 65536 = 0 → s.faddr + 65536 ≤ s.flashSize → ∃ t, exec (.xspErase64k false) s = .next t ∧ t.xsp.res = some (0, 0) ∧
    (∀ k, s.faddr ≤ k → k < s.faddr + 65536 → t.flashAt k = 0xFF#8) ∧ (∀ k, k < s.faddr ∨ s.faddr + 65536 ≤ k → t.flashAt k = s.flashAt k)
    ∧ t.get Fld.XSP_CNT_ERASES = satAdd Fld.XSP_CNT_ERASES.len (s.get Fld.XSP_CNT_ERASES) 1 ∧ Keeps [.free, .xsp] [Fld.XSP_CNT_ERASES] s
    t) ∧
  (∀ (s : State) fail, s.flag Fld.XSP_CMD_GO = true → s.critical = false → s.get Fld.XSP_CMD_OP = 4 → s.xsp.res = none → s.apcMay (s.faddr
    / 65536 * 65536) 65536 = false → ∃ t, exec (.xspErase64k fail) s = .next t ∧ t.xsp = { s.xsp with res := some (1, 0) } ∧ Keeps [.xsp]
    [] s t) ∧
  (∀ (s : State) dev, s.flag Fld.XSP_CMD_GO = true → s.critical = false → s.get Fld.XSP_CMD_OP = 5 → s.xsp.res = none → ∃ t, exec
    (.xspStatus dev) s = .next t ∧ t.get Fld.XSP_STAT_DEVSTAT = dev.toNat ∧ t.xsp = { s.xsp with res := some (0, 0) } ∧ Keeps [.xsp]
    [Fld.XSP_STAT_DEVSTAT] s t) ∧
  (∀ (s : State), s.critical = true → exec .xspRead s = .next s) ∧
  (∀ (s : State) st done, s.xsp.res = some (st, done) → st < 7 → s.flag Fld.XSP_CMD_GO = true → ∃ t, exec .xspOperationEnd s = .next t ∧
    t.rd Reg.XSP_RESULT = BitVec.ofNat 32 (st * 2 ^ 28 + done % 2 ^ 24) ∧ t.flag Fld.XSP_EV_DONE = true ∧ t.flag Fld.XSP_CMD_GO =
    s.xsp.again ∧ t.xsp = { s.xsp with res := none, again := false, goAt := s.now } ∧ (st = 1 → t.flag Fld.XSP_EV_PROT = true) ∧ (st = 3 →
    t.flag Fld.XSP_FLT_FLASH = true) ∧ Keeps [.apc, .rbk, .xsp] (recFields ++ [Fld.XSP_EV_DONE, Fld.XSP_EV_PROT, Fld.XSP_FLT_FLASH,
    Fld.XSP_CMD_GO, ⟨Reg.XSP_RESULT, 0, 32⟩, Fld.XSP_CNT_TMO, Fld.XSP_CNT_FLERR]) s t) ∧
  (∀ (s : State) st done c, s.xsp.res = some (st, done) → s.flag Fld.XSP_CMD_GO = true → s.apc.svc = some (c, 1) → ∃ t, exec
    .xspOperationEnd s = .next t ∧ t.apc = ({ s with apc := { s.apc with svc := none } }.setRet c (if st = 0 then 0 else -1)).apc ∧ Keeps
    [.apc, .rbk, .xsp] (recFields ++ [Fld.XSP_EV_DONE, Fld.XSP_EV_PROT, Fld.XSP_FLT_FLASH, Fld.XSP_CMD_GO, ⟨Reg.XSP_RESULT, 0, 32⟩,
    Fld.XSP_CNT_TMO, Fld.XSP_CNT_FLERR]) s t) ∧
  (∀ (s : State), s.xsp.res = none → 1 ≤ s.get Fld.XSP_CMD_OP → s.get Fld.XSP_CMD_OP ≤ 5 → exec .xspOperationEnd s = .next s) ∧
  (∀ (s : State) units f, s.flag Fld.XSP_CMD_GO = true → s.get Fld.XSP_CMD_OP = 3 → s.xsp.res = none → s.critical = false → s.xsp.goAt +
    s.xspLimit 3 ≤ s.now → s.apcMay s.faddr 4096 = true → s.faddr % 4096 = 0 → s.faddr + 4096 ≤ s.flashSize → ∃ t, exec (.xspTimeout units
    f) s = .next t ∧ t.xsp.res = some (4, 0) ∧ t.flag Fld.XSP_FLT_TMO = true ∧ t.flag Fld.XSP_STAT_READY = f.found ∧ t.get
    Fld.XSP_CNT_ERASES = satAdd Fld.XSP_CNT_ERASES.len (s.get Fld.XSP_CNT_ERASES) 1 ∧ (∀ k, k < s.faddr ∨ s.faddr + 4096 ≤ k → t.flashAt k
    = s.flashAt k) ∧ Keeps [.free, .mem, .rbk, .xsp] (recFields ++ [Fld.MEM_EV_CE, Fld.MEM_EV_UE, Fld.MEM_FLT_SRAMUE, Fld.MEM_UEADDR_ADDR,
    Fld.MEM_UEINFO_INIT, Fld.MEM_UEINFO_OVF, Fld.MEM_UEINFO_VALID, Fld.MEM_CETCTL_CET_OVF, Fld.MEM_SRAMERR_REGION, Fld.MEM_SRAMERR_CE,
    Fld.MEM_SRAMERR_UE, Fld.MEM_CNT_UE, Fld.MEM_CNT_CE, Fld.XSP_EV_SLOW, Fld.XSP_FLT_TMO, Fld.XSP_STAT_READY, Fld.XSP_STAT_OCTAL,
    Fld.XSP_STAT_SIZE, Fld.XSP_CNT_ERASES]) s t) ∧
  (∀ (s : State) units f, s.flag Fld.XSP_CMD_GO = false ∨ s.xsp.res ≠ none ∨ s.now < s.xsp.goAt + s.xspLimit (s.get Fld.XSP_CMD_OP) → exec
    (.xspTimeout units f) s = .next s)

/-- R692 to R695: DBG. -/
def Obligations.UartAndTrace : Prop :=
  (∀ (s : State) v, s.get Fld.HWD_STAT_DBGLVL = 0 → exec (.uartTransmit v) s = .next s) ∧
  (∀ (s : State) v, 1 ≤ s.get Fld.HWD_STAT_DBGLVL → s.dbg.tx.length < 64 → exec (.uartTransmit v) s = .next
    ({ s with dbg := { s.dbg with tx := s.dbg.tx ++ [v] } })) ∧
  (∀ (s : State) v, 1 ≤ s.get Fld.HWD_STAT_DBGLVL → 64 ≤ s.dbg.tx.length → ∃ t, exec (.uartTransmit v) s = .next t ∧ t.get
    Fld.DBG_UARTCNT_TXDROP = satAdd Fld.DBG_UARTCNT_TXDROP.len (s.get Fld.DBG_UARTCNT_TXDROP) 1 ∧ Keeps [] [Fld.DBG_UARTCNT_TXDROP] s t) ∧
  (∀ (s : State) i b rest, s.dbg.rx = b :: rest → ∃ t, exec (.uartReceiveRead i) s = .next t ∧ t.dbg = { s.dbg with rx := rest } ∧ mget
    (fun _ => (0 : BitVec 64)) t.bus.readData i.idx = (BitVec.ofNat 32 (2 ^ 31 + b.toNat)).zeroExtend 64 ∧ Keeps [.bus, .dbg] [] s t) ∧
  (∀ (s : State) i, s.dbg.rx = [] → ∃ t, exec (.uartReceiveRead i) s = .next t ∧ t.dbg = s.dbg ∧ mget (fun _ => (0 : BitVec 64))
    t.bus.readData i.idx = 0#64 ∧ Keeps [.bus, .dbg] [] s t) ∧
  (∀ (s : State) v, s.flag Fld.DBG_UARTCFG_EN = true → 1 ≤ s.get Fld.HWD_STAT_DBGLVL → s.dbg.rx.length < 64 → ∃ t, exec (.uartByteReceived
    v false) s = .next t ∧ t.dbg = { s.dbg with rx := s.dbg.rx ++ [v] } ∧ t.flag Fld.DBG_EV_RX = true ∧ Keeps [.dbg, .rbk] (recFields ++
    [Fld.DBG_EV_RX, Fld.DBG_EV_RXOVR, Fld.DBG_UARTCNT_RXOVR, Fld.DBG_UARTCNT_FRAME]) s t) ∧
  (∀ (s : State) v, s.flag Fld.DBG_UARTCFG_EN = true → 1 ≤ s.get Fld.HWD_STAT_DBGLVL → 64 ≤ s.dbg.rx.length → ∃ t, exec (.uartByteReceived
    v false) s = .next t ∧ t.dbg = s.dbg ∧ t.flag Fld.DBG_EV_RXOVR = true ∧ t.get Fld.DBG_UARTCNT_RXOVR = satAdd Fld.DBG_UARTCNT_RXOVR.len
    (s.get Fld.DBG_UARTCNT_RXOVR) 1 ∧ Keeps [.dbg, .rbk] (recFields ++ [Fld.DBG_EV_RX, Fld.DBG_EV_RXOVR, Fld.DBG_UARTCNT_RXOVR,
    Fld.DBG_UARTCNT_FRAME]) s t) ∧
  (∀ (s : State) v, s.flag Fld.DBG_UARTCFG_EN = true → 1 ≤ s.get Fld.HWD_STAT_DBGLVL → ∃ t, exec (.uartByteReceived v true) s = .next t ∧
    t.get Fld.DBG_UARTCNT_FRAME = satAdd Fld.DBG_UARTCNT_FRAME.len (s.get Fld.DBG_UARTCNT_FRAME) 1 ∧ Keeps [] [Fld.DBG_UARTCNT_FRAME] s t) ∧
  (∀ (s : State) v framing, s.flag Fld.DBG_UARTCFG_EN = false → exec (.uartByteReceived v framing) s = .next s) ∧
  (∀ (s : State) src kind info a1 a2 a, s.traceOn = true → (s.get Fld.DBG_TRCCFG_SRC).testBit src.toNat = true → a = s.get
    Fld.DBG_TRCBASE_BASE * 2 ^ 12 + s.get Fld.DBG_TRCWP_OFFSET → 0x20000000 ≤ a → a + 16 ≤ 0x20800000 → a % 4 = 0 → s.get
    Fld.DBG_TRCWP_OFFSET + 16 < s.trcSize → ∃ t, exec (.traceRecord src kind info a1 a2 false) s = .next t ∧ mfind t.mem.sram (a / 4) =
    some (some (BitVec.ofNat 32 (s.now / 32))) ∧ mfind t.mem.sram (a / 4 + 1) = some (some (BitVec.ofNat 32 (src.toNat * 2 ^ 28 +
    kind.toNat * 2 ^ 24 + info.toNat))) ∧ mfind t.mem.sram (a / 4 + 2) = some (some a1) ∧ mfind t.mem.sram (a / 4 + 3) = some (some a2) ∧
    t.get Fld.DBG_TRCWP_OFFSET = (s.get Fld.DBG_TRCWP_OFFSET + 16) % 2 ^ Fld.DBG_TRCWP_OFFSET.len ∧ Keeps [.mem] [Fld.DBG_TRCWP_OFFSET] s
    t) ∧
  (∀ (s : State) src kind info a1 a2, s.traceOn = true → (s.get Fld.DBG_TRCCFG_SRC).testBit src.toNat = true → s.trcSize ≤ s.get
    Fld.DBG_TRCWP_OFFSET + 16 → s.flag Fld.DBG_TRCCFG_WRAP = true → ∃ t, exec (.traceRecord src kind info a1 a2 false) s = .next t ∧ t.get
    Fld.DBG_TRCWP_OFFSET = 0 ∧ t.flag Fld.DBG_TRCWP_WRAPPED = true ∧ t.flag Fld.DBG_TRCCFG_EN = true ∧ Keeps [.mem, .rbk] (recFields ++
    [Fld.DBG_EV_TRCFULL, Fld.DBG_TRCCFG_EN, Fld.DBG_TRCWP_OFFSET, Fld.DBG_TRCWP_WRAPPED, Fld.DBG_TRCLOST_LOST]) s t) ∧
  (∀ (s : State) src kind info a1 a2, s.traceOn = true → (s.get Fld.DBG_TRCCFG_SRC).testBit src.toNat = true → s.trcSize ≤ s.get
    Fld.DBG_TRCWP_OFFSET + 16 → s.flag Fld.DBG_TRCCFG_WRAP = false → ∃ t, exec (.traceRecord src kind info a1 a2 false) s = .next t ∧
    t.flag Fld.DBG_TRCCFG_EN = false ∧ t.flag Fld.DBG_EV_TRCFULL = true ∧ Keeps [.mem, .rbk] (recFields ++ [Fld.DBG_EV_TRCFULL,
    Fld.DBG_TRCCFG_EN, Fld.DBG_TRCWP_OFFSET, Fld.DBG_TRCWP_WRAPPED, Fld.DBG_TRCLOST_LOST]) s t) ∧
  (∀ (s : State) src kind info a1 a2, s.traceOn = true → (s.get Fld.DBG_TRCCFG_SRC).testBit src.toNat = true → ∃ t, exec (.traceRecord src
    kind info a1 a2 true) s = .next t ∧ t.get Fld.DBG_TRCLOST_LOST = satAdd Fld.DBG_TRCLOST_LOST.len (s.get Fld.DBG_TRCLOST_LOST) 1 ∧
    Keeps [] [Fld.DBG_TRCLOST_LOST] s t) ∧
  (∀ (s : State) src kind info a1 a2 lost, s.traceOn = false → exec (.traceRecord src kind info a1 a2 lost) s = .next s)

/-- R698 to R725: VALE. The MACs are of opaque keys (log 40). -/
def Obligations.ValeLink : Prop :=
  (∀ (s : State) sender high macTx macAlt, s.flag Fld.VALE_CFG_EN = true → s.thm.shut = false → macTx = true → (∀ c, mfind s.vale.counters
    (64 * s.get Fld.VALE_KEY_TXSLOT + sender.toNat) = some c → c < high.toNat * 256) → ∃ t, exec (.sync sender high macTx macAlt) s =
    .next t ∧ t.vale =
    { s.vale with counters := mput s.vale.counters (64 * s.get Fld.VALE_KEY_TXSLOT + sender.toNat) (high.toNat * 256), heard := mput s.vale.heard sender.toNat s.now }
    ∧ Keeps [.vale] [] s t) ∧
  (∀ (s : State) sender high macTx macAlt c, s.flag Fld.VALE_CFG_EN = true → s.thm.shut = false → s.flag Fld.VALE_KEY_ALTEN = false →
    mfind s.vale.counters (64 * s.get Fld.VALE_KEY_TXSLOT + sender.toNat) = some c → high.toNat * 256 ≤ c → ∃ t, exec (.sync sender high
    macTx macAlt) s = .next t ∧ t.get Fld.VALE_CNT_REPLAY = satAdd 8 (s.get Fld.VALE_CNT_REPLAY) 1 ∧ t.vale = s.vale ∧ Keeps []
    [Fld.VALE_CNT_REPLAY] s t) ∧
  (∀ (s : State) sender high macTx macAlt, s.flag Fld.VALE_CFG_EN = true → s.thm.shut = false → s.flag Fld.VALE_KEY_ALTEN = false → macTx
    = false → mfind s.vale.counters (64 * s.get Fld.VALE_KEY_TXSLOT + sender.toNat) = none → ∃ t, exec (.sync sender high macTx macAlt) s
    = .next t ∧ t.get Fld.VALE_CNT_MACERR = satAdd 16 (s.get Fld.VALE_CNT_MACERR) 1 ∧ t.flag Fld.VALE_EV_MACERR = true ∧ t.vale = s.vale ∧
    Keeps [.rbk, .vale] (recFields ++ [Fld.VALE_EV_MACERR, Fld.VALE_CNT_REPLAY, Fld.VALE_CNT_MACERR]) s t) ∧
  (∀ (s : State) sender high macTx macAlt, s.flag Fld.VALE_CFG_EN = false → exec (.sync sender high macTx macAlt) s = .next s) ∧
  (∀ (s : State) rx elig tokreq tokhold inreg retract, s.flag Fld.VALE_CFG_EN = true → s.thm.shut = false → s.flag Fld.VALE_KEY_ALTEN =
    false → mfind s.vale.counters (64 * s.get Fld.VALE_KEY_TXSLOT + rx.sender.toNat) = none → exec (.status rx elig tokreq tokhold inreg
    retract) s = .next s) ∧
  (∀ (s : State) rx elig tokreq tokhold inreg retract c d, s.flag Fld.VALE_CFG_EN = true → s.thm.shut = false → mfind s.vale.counters (64
    * s.get Fld.VALE_KEY_TXSLOT + rx.sender.toNat) = some c → d = (rx.seq.toNat + 256 - c % 256) % 256 → d ≠ 0 → rx.macTx = true → ∃ t,
    exec (.status rx elig tokreq tokhold inreg retract) s = .next t ∧ mfind t.vale.counters (64 * s.get Fld.VALE_KEY_TXSLOT +
    rx.sender.toNat) = some (c + d) ∧ mfind t.vale.status rx.sender.toNat = some (16 * b2n elig + 8 * b2n tokreq + 4 * b2n tokhold + 2 *
    b2n inreg + b2n retract) ∧ mfind t.vale.heard rx.sender.toNat = some s.now ∧ Keeps [.vale] [] s t) ∧
  (∀ (s : State) rx tokreq tokhold inreg retract, (s.valeGet rx).1 = true → s.get Fld.VALE_STAT_ROLE = 3 → rx.sender.toNat < s.own →
    s.vale.handover = none → ∃ t, exec (.status rx true tokreq tokhold inreg retract) s = .next t ∧ t.vale.handover = some
    (rx.sender.toNat, 4) ∧ Keeps [.rbk, .vale] (recFields ++ [Fld.VALE_EV_MACERR, Fld.VALE_CNT_REPLAY, Fld.VALE_CNT_MACERR]) s t) ∧
  (∀ (s : State) rx start cls dir act x k, (s.valeGet rx).1 = true → k < 8 → s.flag (Fld.LPE_NCOEF_EN x k) = true → s.get
    (Fld.LPE_NCOEF_SLOT x k) = rx.sender.toNat → s.flag Fld.ANG_STAT_CANLOCK = true → ∃ t, exec (.seekAnnouncement rx start cls dir act) s
    = .next t ∧ t.lpe.announced.getLast? = some (rx.sender.toNat, (cls.toNat + 4 * b2n act, (nextAts s.ang.ats ((start.toNat + s.phaseOfs)
    % 2 ^ 32), dir))) ∧ Keeps [.lpe, .rbk, .vale] (recFields ++ [Fld.VALE_EV_MACERR, Fld.VALE_CNT_REPLAY, Fld.VALE_CNT_MACERR]) s t) ∧
  (∀ (s : State) rx start cls dir act, (s.valeGet rx).1 = false ∨ s.flag Fld.ANG_STAT_CANLOCK = false ∧ s.get Fld.VALE_STAT_ROLE ≠ 3 →
    exec (.seekAnnouncement rx start cls dir act) s = .next ((s.valeGet rx).2)) ∧
  (∀ (s : State) rx ref refOk slot tokvalid budget cap, (s.valeGet rx).1 = true → s.get Fld.VALE_STAT_ROLE ≠ 3 ∨ rx.sender.toNat < s.own →
    ∃ t, exec (.beacon rx ref refOk false slot tokvalid budget cap) s = .next t ∧ t.get Fld.VALE_STAT_ROLE = 2 ∧ t.get
    Fld.VALE_STAT_CANSLOT = rx.sender.toNat ∧ t.vale.beaconAt = some s.now ∧ t.vale.refOk = refOk ∧ t.vale.named = 0 ∧ Keeps [.rbk, .spn,
    .sys, .vale, .wrp] (modeFields ++ [Fld.PWR_BUDGET_PMAX, Fld.SPN_STAT_INREG, Fld.SPN_CNT2_STARTS, Fld.VALE_EV_ROLE,
    Fld.VALE_EV_REFLOCK, Fld.VALE_EV_TOKEN, Fld.VALE_EV_MACERR, Fld.VALE_STAT_ROLE, Fld.VALE_STAT_CANSLOT, Fld.VALE_EFFOFS_OFS,
    Fld.VALE_CNT_ELECT, Fld.VALE_CNT_REPLAY, Fld.VALE_CNT_MACERR]) s t) ∧
  (∀ (s : State) rx ref refOk hand slot tokvalid budget cap, (s.valeGet rx).1 = false ∨ s.get Fld.VALE_STAT_ROLE = 3 ∧ s.own ≤
    rx.sender.toNat → exec (.beacon rx ref refOk hand slot tokvalid budget cap) s = .next ((s.valeGet rx).2)) ∧
  (∀ (s : State) rx ref slot budget cap, (s.valeGet rx).1 = true → s.get Fld.VALE_STAT_ROLE ≠ 3 → s.flag Fld.VALE_CFG_PLOCK = true →
    s.flag Fld.SPN_STAT_INREG = true → s.flag Fld.ANG_STAT_CANLOCK = false → s.flag Fld.SPN_CTL_RUN = true → s.spnHold = false →
    s.spn.pinStop = false → ∃ t, exec (.beacon rx ref true false slot false budget cap) s = .next t ∧ t.flag Fld.ANG_STAT_CANLOCK = true ∧
    t.rd Reg.VALE_EFFOFS = cap - ref ∧ t.rd Reg.ANG_REFERR = 0#32 ∧ t.flag Fld.VALE_EV_REFLOCK = true ∧ Keeps [.rbk, .spn, .sys, .vale,
    .wrp] (modeFields ++ [Fld.PWR_BUDGET_PMAX, Fld.SPN_STAT_INREG, Fld.SPN_CNT2_STARTS, Fld.VALE_EV_ROLE, Fld.VALE_EV_REFLOCK,
    Fld.VALE_EV_TOKEN, Fld.VALE_EV_MACERR, Fld.VALE_STAT_ROLE, Fld.VALE_STAT_CANSLOT, Fld.VALE_EFFOFS_OFS, Fld.VALE_CNT_ELECT,
    Fld.VALE_CNT_REPLAY, Fld.VALE_CNT_MACERR]) s t) ∧
  (∀ (s : State) rx ref refOk slot budget cap, (s.valeGet rx).1 = true → s.get Fld.VALE_STAT_ROLE ≠ 3 → s.flag Fld.VALE_CFG_BUDGETEN =
    true → s.flag Fld.VALE_STAT_TOKEN = false → ∃ t, exec (.beacon rx ref refOk false slot false budget cap) s = .next t ∧ t.get
    Fld.PWR_BUDGET_PMAX = budget.toNat ∧ Keeps [.rbk, .spn, .sys, .vale, .wrp] (modeFields ++ [Fld.PWR_BUDGET_PMAX, Fld.SPN_STAT_INREG,
    Fld.SPN_CNT2_STARTS, Fld.VALE_EV_ROLE, Fld.VALE_EV_REFLOCK, Fld.VALE_EV_TOKEN, Fld.VALE_EV_MACERR, Fld.VALE_STAT_ROLE,
    Fld.VALE_STAT_CANSLOT, Fld.VALE_EFFOFS_OFS, Fld.VALE_CNT_ELECT, Fld.VALE_CNT_REPLAY, Fld.VALE_CNT_MACERR]) s t) ∧
  (∀ (s : State) rx ref refOk slot budget cap, (s.valeGet rx).1 = true → s.get Fld.VALE_STAT_ROLE ≠ 3 → slot.toNat = s.own → s.flag
    Fld.SPN_CTL_RUN = true → s.flag Fld.SPN_STAT_INREG = false → ∃ t, exec (.beacon rx ref refOk false slot true budget cap) s = .next t ∧
    t.flag Fld.VALE_EV_TOKEN = true ∧ t.vale.tokenAt = s.now ∧ Keeps [.rbk, .spn, .sys, .vale, .wrp] (modeFields ++ [Fld.PWR_BUDGET_PMAX,
    Fld.SPN_STAT_INREG, Fld.SPN_CNT2_STARTS, Fld.VALE_EV_ROLE, Fld.VALE_EV_REFLOCK, Fld.VALE_EV_TOKEN, Fld.VALE_EV_MACERR,
    Fld.VALE_STAT_ROLE, Fld.VALE_STAT_CANSLOT, Fld.VALE_EFFOFS_OFS, Fld.VALE_CNT_ELECT, Fld.VALE_CNT_REPLAY, Fld.VALE_CNT_MACERR]) s t) ∧
  (∀ (s : State) rx ref refOk slot tokvalid budget cap, (s.valeGet rx).1 = true → s.get Fld.VALE_STAT_ROLE ≠ 3 → slot.toNat = s.own →
    s.pins.canopy = true → s.vale.named = 3 → ∃ t, exec (.beacon rx ref refOk true slot tokvalid budget cap) s = .next t ∧ t.get
    Fld.VALE_STAT_ROLE = 3 ∧ t.get Fld.VALE_STAT_CANSLOT = s.own ∧ t.get Fld.VALE_CNT_ELECT = satAdd 8 (s.get Fld.VALE_CNT_ELECT) 1 ∧
    t.vale.named = 0 ∧ Keeps [.rbk, .spn, .sys, .vale, .wrp] (modeFields ++ [Fld.PWR_BUDGET_PMAX, Fld.SPN_STAT_INREG, Fld.SPN_CNT2_STARTS,
    Fld.VALE_EV_ROLE, Fld.VALE_EV_REFLOCK, Fld.VALE_EV_TOKEN, Fld.VALE_EV_MACERR, Fld.VALE_STAT_ROLE, Fld.VALE_STAT_CANSLOT,
    Fld.VALE_EFFOFS_OFS, Fld.VALE_CNT_ELECT, Fld.VALE_CNT_REPLAY, Fld.VALE_CNT_MACERR]) s t) ∧
  (∀ (s : State), s.flag Fld.VALE_CFG_EN = true → s.pins.canopy = true → s.get Fld.VALE_STAT_ROLE ≠ 3 → s.flag Fld.VALE_STAT_LEFT = false
    → s.thm.shut = false → s.vale.enAt + (3 + s.own) * 64000 ≤ s.now → ∃ t, exec .canopyElection s = .next t ∧ t.get Fld.VALE_STAT_ROLE =
    3 ∧ t.get Fld.VALE_STAT_CANSLOT = s.own ∧ t.flag Fld.VALE_EV_ROLE = true ∧ t.get Fld.VALE_CNT_ELECT = satAdd 8 (s.get
    Fld.VALE_CNT_ELECT) 1 ∧ Keeps [.rbk, .spn, .sys, .vale, .wrp] (modeFields ++ [Fld.VALE_EV_ROLE, Fld.VALE_STAT_ROLE,
    Fld.VALE_STAT_CANSLOT, Fld.VALE_CNT_ELECT]) s t) ∧
  (∀ (s : State), s.pins.canopy = false ∨ s.now < s.vale.enAt + (3 + s.own) * 64000 → exec .canopyElection s = .next s) ∧
  (∀ (s : State) a, s.get Fld.VALE_STAT_ROLE = 2 → s.vale.beaconAt = some a → a + 192000 ≤ s.now → ∃ t, exec .beaconLoss s = .next t ∧
    t.get Fld.VALE_STAT_ROLE = 1 ∧ t.flag Fld.VALE_EV_ROLE = true ∧ t.flag Fld.VALE_EV_ELECT = true ∧ t.vale.refOk = false ∧ Keeps [.rbk,
    .spn, .sys, .vale, .wrp] (modeFields ++ [Fld.VALE_EV_ROLE, Fld.VALE_EV_ELECT, Fld.VALE_STAT_ROLE]) s t) ∧
  (∀ (s : State), s.get Fld.VALE_STAT_ROLE ≠ 2 ∨ s.vale.beaconAt = none → exec .beaconLoss s = .next s) ∧
  (∀ (s : State) k f, s.get Fld.VALE_STAT_ROLE = 3 → k < 64 → k ≠ s.own → s.heardLately k = true → s.vale.status = [(k, f)] → nbit f 4 =
    true → exec .canopyHandover s = .next ({ s with vale := { s.vale with handover := some (k, 4) } })) ∧
  (∀ (s : State), s.get Fld.VALE_STAT_ROLE ≠ 3 ∨ s.vale.status = [] → exec .canopyHandover s = .next s) ∧
  (∀ (s : State) slot, slot.toNat = s.own → s.flag Fld.VALE_STAT_TOKEN = true → s.vale.tokenAt + s.eff Fld.VALE_CANCFG_TOKMAX * 800000000
    ≤ s.now → ∃ t, exec (.tokenTimeout slot) s = .next t ∧ t.flag Fld.VALE_STAT_TOKEN = false ∧ Keeps [.vale] [Fld.VALE_STAT_TOKEN] s t) ∧
  (∀ (s : State) slot at_, slot.toNat ≠ s.own → s.vale.tokens = [(slot.toNat, at_)] → s.heardLately slot.toNat = false → at_ + 192000 ≤
    s.now → ∃ t, exec (.tokenTimeout slot) s = .next t ∧ t.vale = { s.vale with tokens := [] } ∧ Keeps [.vale] [] s t) ∧
  (∀ (s : State) slot, s.vale.tokens = [] → s.flag Fld.VALE_STAT_TOKEN = false → exec (.tokenTimeout slot) s = .next s) ∧
  (∀ (s : State), s.spn.deferred = true → s.vale.memberSince = false → s.vale.deferAt + s.pins.slotid * (s.eff Fld.VALE_CFG_STAG *
    8000000) ≤ s.now → s.flag Fld.SPN_CTL_RUN = true → s.spnHold = false → s.spn.pinStop = false → ∃ t, exec .staggerExpiry s = .next t ∧
    t.get Fld.SPN_STAT_STATE = spnSense ∧ t.get Fld.SPN_CNT2_STARTS = satAdd 16 (s.get Fld.SPN_CNT2_STARTS) 1 ∧ t.spn.deferred = false ∧
    Keeps [.rbk, .spn, .sys, .vale, .wrp] (modeFields ++ [Fld.SPN_STAT_INREG, Fld.SPN_CNT2_STARTS]) s t) ∧
  (∀ (s : State), s.spn.deferred = false ∨ s.vale.memberSince = true → exec .staggerExpiry s = .next s) ∧
  (∀ (s : State) v, ∃ t, exec (.valeKeyWrite v) s = .next t ∧ t.rd Reg.VALE_KEY = v &&& 0x3F80003F#32 ∧ t.vale =
    { s.vale with counters := s.vale.counters.filter (fun e => e.1 / 64 == v.toNat % 64 || e.1 / 64 == v.toNat / 2 ^ 24 % 64), stopped := false, sync := s.vale.sync || v.toNat % 64 != s.get Fld.VALE_KEY_TXSLOT }
    ∧ Keeps [.vale] [⟨Reg.VALE_KEY, 0, 32⟩] s t) ∧
  (∀ (s : State), ∃ t, exec .valeJoin s = .next t ∧ t.flag Fld.VALE_STAT_LEFT = false ∧ Keeps [] [Fld.VALE_STAT_LEFT] s t) ∧
  (∀ (s : State), ∃ t, exec .valeClrctr s = .next t ∧ t.vale = { s.vale with counters := [] } ∧ Keeps [.vale] [] s t) ∧
  (∀ (s : State), s.flag Fld.VALE_CFG_EN = false ∨ s.flag Fld.VALE_STAT_LEFT = true ∨ s.vale.stopped = true ∨ s.thm.shut = true → exec
    .valeSlotTransmit s = .next ({ s with vale := { s.vale with cycleAt := s.now - s.own * 1000 } })) ∧
  (∀ (s : State), s.flag Fld.VALE_CFG_EN = true → s.flag Fld.VALE_STAT_LEFT = false → s.vale.stopped = false → s.thm.shut = false →
    s.sys.retract = false → (s.ks (4096 + s.get Fld.VALE_KEY_TXSLOT)).st = 0 → ∃ t, exec .valeSlotTransmit s = .next t ∧ t.vale.stopped =
    true ∧ t.flag Fld.VALE_FLT_CTR = true ∧ t.vale.sent = s.vale.sent ∧ Keeps [.ang, .ch, .cph, .lpe, .mem, .msq, .plk, .rbk, .spn, .sys,
    .vale, .wrp] (errFields s .a ++ errFields s .b ++ modeFields ++ retractFields ++ [Fld.PWR_BUDGET_PMAX, Fld.SPN_STAT_INREG,
    Fld.SPN_CNT2_STARTS, Fld.VALE_EV_ROLE, Fld.VALE_EV_TOKEN, Fld.VALE_FLT_CTR, Fld.VALE_STAT_ROLE, Fld.VALE_STAT_CANSLOT]) s t) ∧
  (∀ (s : State) k ctr, s.flag Fld.VALE_CFG_EN = true → s.flag Fld.VALE_STAT_LEFT = false → s.vale.stopped = false → s.thm.shut = false →
    s.sys.retract = false → k = s.ks (4096 + s.get Fld.VALE_KEY_TXSLOT) → k.st = 1 → s.vale.sync = false → k.issue = .ok ctr → ctr % 256 ≠
    0 → s.vale.ann = [] → s.get Fld.VALE_STAT_ROLE ≠ 3 → ∃ t, exec .valeSlotTransmit s = .next t ∧ (t.ks (4096 + s.get
    Fld.VALE_KEY_TXSLOT)).ctr = ctr + 1 ∧ t.vale.sent.map (fun m => m.toNat / 2 ^ 32) = some (2 * 2 ^ 60 + ctr % 256 * 2 ^ 52 + b2n
    s.pins.canopy * 2 ^ 51 + b2n (s.spn.deferred && s.flag Fld.VALE_CFG_TOKREQ && !s.flag Fld.VALE_STAT_TOKEN) * 2 ^ 50 + b2n (s.flag
    Fld.VALE_STAT_TOKEN) * 2 ^ 49 + b2n (s.flag Fld.SPN_STAT_INREG) * 2 ^ 48) ∧ Keeps [.ang, .ch, .cph, .lpe, .mem, .msq, .plk, .rbk,
    .spn, .sys, .vale, .wrp] (errFields s .a ++ errFields s .b ++ modeFields ++ retractFields ++ [Fld.PWR_BUDGET_PMAX, Fld.SPN_STAT_INREG,
    Fld.SPN_CNT2_STARTS, Fld.VALE_EV_ROLE, Fld.VALE_EV_TOKEN, Fld.VALE_FLT_CTR, Fld.VALE_STAT_ROLE, Fld.VALE_STAT_CANSLOT]) s t) ∧
  (∀ (s : State) k ctr, s.flag Fld.VALE_CFG_EN = true → s.flag Fld.VALE_STAT_LEFT = false → s.vale.stopped = false → s.thm.shut = false →
    s.sys.retract = false → k = s.ks (4096 + s.get Fld.VALE_KEY_TXSLOT) → k.st = 1 → s.vale.sync = false → k.issue = .ok ctr → ctr % 256 =
    0 → ∃ t, exec .valeSlotTransmit s = .next t ∧ (t.ks (4096 + s.get Fld.VALE_KEY_TXSLOT)).ctr = ctr + 1 ∧ t.vale.sent.map (fun m =>
    m.toNat / 2 ^ 32) = some (0xF * 2 ^ 60 + ctr / 256 % 2 ^ 56 * 2 ^ 4) ∧ Keeps [.ang, .ch, .cph, .lpe, .mem, .msq, .plk, .rbk, .spn,
    .sys, .vale, .wrp] (errFields s .a ++ errFields s .b ++ modeFields ++ retractFields ++ [Fld.PWR_BUDGET_PMAX, Fld.SPN_STAT_INREG,
    Fld.SPN_CNT2_STARTS, Fld.VALE_EV_ROLE, Fld.VALE_EV_TOKEN, Fld.VALE_FLT_CTR, Fld.VALE_STAT_ROLE, Fld.VALE_STAT_CANSLOT]) s t)

/-- R729, R732, R733, R736, R737, R739, R741 to R743, R745: RBK. -/
def Obligations.Ringbook : Prop :=
  (∀ (s : State) (r : RbkSt) (o : Occ) u i e, newestOf r.ret.recs o.src = some (i, e) → e.occ.ty = o.ty → e.occ.code = o.code → o.t0 ≤
    e.occ.t1 + u → e.occ.count < 65535 → o.count = 1 → fileOcc u r o =
    { r with ret := { r.ret with recs := mput r.ret.recs i { e with seq := e.seq + 2, occ := { e.occ with count := e.occ.count + 1, t1 := o.t1, ats1 := o.ats1 } } } }) ∧
  (∀ (s : State) (r : RbkSt) (o : Occ) u, o.count = 1 → newestOf r.ret.recs o.src = none ∨ (∃ i e, newestOf r.ret.recs o.src = some (i, e)
    ∧ (e.occ.ty ≠ o.ty ∨ e.occ.code ≠ o.code ∨ e.occ.t1 + u < o.t0 ∨ 65535 ≤ e.occ.count)) → (fileOcc u r o).ret.wrIdx = (r.ret.wrIdx + 1)
    % 512 ∧ (fileOcc u r o).ret.wraps = (if r.ret.wrIdx + 1 = 512 then r.ret.wraps + 1 else r.ret.wraps) ∧ (mfind (fileOcc u r o).ret.recs
    r.ret.wrIdx).map (fun e => e.occ) = some o) ∧
  (∀ (s : State), s.coalesceUs = 10000 * (if s.get Fld.RBK_CFG_COALESCE = 0 then 1 else s.get Fld.RBK_CFG_COALESCE) ∧
    State.reset.coalesceUs = 1000000) ∧
  (∀ (s : State) v o, s.recHeld = false → o =
    { ty := 3, src := 32 + s.get (Fld.RBK_FWEV_SRC 0), code := s.get (Fld.RBK_FWEV_CODE 0), count := 1, t0 := s.us, ats0 := s.ang.ats, t1 := s.us, ats1 := s.ang.ats, ctx := 0x400, mode := s.get Fld.SYS_MODE_MODE, stat := v, d0 := s.rd (Reg.RBK_FWEV 2), d1 := s.rd (Reg.RBK_FWEV 3), d2 := s.rd (Reg.RBK_FWEV 4) }
    → ∃ t, exec (.fwevWrite v) s = .next t ∧ t.rbk = fileOcc s.coalesceUs s.rbk o ∧ t.rd (Reg.RBK_FWEV 1) = v ∧ Keeps [.rbk]
    [⟨Reg.RBK_FWEV 1, 0, 32⟩] s t) ∧
  (∀ (s : State) o p, s.rbk.recw = true → s.rbk.snap = none → s.rbk.flush = none → s.rbk.fifo = [o] → s.rbk.coal = [(p.src, p)] → ∃ t,
    exec .ringbookFold s = .next t ∧ t.rbk = fileOcc s.coalesceUs (fileOcc s.coalesceUs
    { s.rbk with recw := false, fifo := [], coal := [] } o) p ∧ Keeps [.rbk] [] s t) ∧
  (∀ (s : State), s.rbk.recw = false → exec .ringbookFold s = .next s) ∧
  (∀ (s : State), s.flag Fld.RBK_CTL_SNAP = false → ∃ t, exec .rbkSnap s = .next t ∧ t.flag Fld.RBK_CTL_SNAP = true ∧ t.rbk =
    { s.rbk with snap := some (s.get Fld.RBK_CTL_REGION) } ∧ Keeps [.rbk] [Fld.RBK_CTL_SNAP] s t) ∧
  (∀ (s : State), s.flag Fld.RBK_CTL_SNAP = true → exec .rbkSnap s = .next s) ∧
  (∀ (s : State) r, s.rbk.snap = some r → ∃ t, exec .rbkSnapDone s = .next t ∧ t.flag Fld.RBK_CTL_SNAP = false ∧ t.flag
    Fld.RBK_EV_SNAPDONE = true ∧ t.rbk.waiting = [] ∧ Keeps [.free, .mem, .rbk] (recFields ++ [Fld.RBK_EV_SNAPDONE, Fld.RBK_CTL_SNAP]) s
    t) ∧
  (∀ (s : State) w, s.rbk.snap = some 5 → 0x20000000 ≤ s.get Fld.RBK_SNAPBASE_BASE * 2 ^ 12 → s.get Fld.RBK_SNAPBASE_BASE * 2 ^ 12 +
    0x10000 ≤ 0x20800000 → w = BitVec.ofNat 32 (leNat ((List.range 4).map (fun i => mget (fun _ => (0 : Byte)) s.rbk.ret.fw i))) → ∃ t,
    exec .rbkSnapDone s = .next t ∧ mfind t.mem.sram (s.get Fld.RBK_SNAPBASE_BASE * 2 ^ 10) = some (some w) ∧ Keeps [.free, .mem, .rbk]
    (recFields ++ [Fld.RBK_EV_SNAPDONE, Fld.RBK_CTL_SNAP]) s t) ∧
  (∀ (s : State), s.rbk.snap = none → exec .rbkSnapDone s = .next s) ∧
  (∀ (s : State), s.rbk.flush = none → ∃ t, exec (.rbkFlush false) s = .next t ∧ t.rbk =
    { s.rbk with flush := some { cause := 3, crit := false, recs := none }, recw := true, imgSlot := (s.rbk.imgSlot + 1) % max 1 (s.eff Fld.RBK_FLASH_SLOTS), imgSeq := s.rbk.imgSeq + 1 }
    ∧ t.flag Fld.RBK_CTL_FLUSH = false ∧ Keeps [.rbk] [Fld.RBK_CTL_FLUSH] s t) ∧
  (∀ (s : State) f, s.rbk.flush = some f → s.rbk.again = none → ∃ t, exec (.rbkFlush false) s = .next t ∧ t.rbk =
    { s.rbk with again := some 3 } ∧ t.flag Fld.RBK_CTL_FLUSH = true ∧ Keeps [.rbk] [Fld.RBK_CTL_FLUSH] s t) ∧
  (∀ (s : State), s.rbk.flush = none → s.rbk.lastAt + s.eff Fld.RBK_CFG_PERIOD * 48000000000 ≤ s.now → ∃ t, exec (.rbkFlush true) s =
    .next t ∧ (t.rbk.flush.map (fun f => f.cause)) = some 4 ∧ t.rbk.recw = true ∧ Keeps [.rbk] [Fld.RBK_CTL_FLUSH] s t) ∧
  (∀ (s : State), s.now < s.rbk.lastAt + s.eff Fld.RBK_CFG_PERIOD * 48000000000 → exec (.rbkFlush true) s = .next s) ∧
  (∀ (s : State) regions f, s.rbk.flush = some f → s.rbk.recw = false → s.rbk.again = none → ∃ t, exec (.rbkFlushDone true regions) s =
    .next t ∧ t.get Fld.RBK_CNT_FLUSHES = satAdd 16 (s.get Fld.RBK_CNT_FLUSHES) 1 ∧ t.flag Fld.RBK_EV_FLUSHDONE = true ∧ t.rbk.flush =
    none ∧ t.rbk.lastAt = s.now ∧ mfind t.rbk.images ((s.rbk.imgSlot + 1) % max 1 (s.eff Fld.RBK_FLASH_SLOTS)) = none ∧ Keeps [.rbk]
    (recFields ++ [Fld.RBK_EV_FLUSHDONE, Fld.RBK_FLT_FLASH, Fld.RBK_CNT_FLERR, Fld.RBK_CNT_FLUSHES, Fld.XSP_CNT_ERASES]) s t) ∧
  (∀ (s : State) regions f, s.rbk.flush = some f → s.rbk.recw = false → s.rbk.again = none → 2 ≤ s.eff Fld.RBK_FLASH_SLOTS → s.rbk.imgSlot
    < s.eff Fld.RBK_FLASH_SLOTS → ∃ t, exec (.rbkFlushDone true regions) s = .next t ∧ (mfind t.rbk.images s.rbk.imgSlot).map (fun g =>
    (g.complete, (g.seq, g.cause))) = some (true, (s.rbk.imgSeq, f.cause)) ∧ Keeps [.rbk] (recFields ++ [Fld.RBK_EV_FLUSHDONE,
    Fld.RBK_FLT_FLASH, Fld.RBK_CNT_FLERR, Fld.RBK_CNT_FLUSHES, Fld.XSP_CNT_ERASES]) s t) ∧
  (∀ (s : State) regions f, s.rbk.flush = some f → s.rbk.recw = false → s.rbk.again = none → ∃ t, exec (.rbkFlushDone false regions) s =
    .next t ∧ t.get Fld.RBK_CNT_FLERR = satAdd 8 (s.get Fld.RBK_CNT_FLERR) 1 ∧ t.flag Fld.RBK_FLT_FLASH = true ∧ (mfind t.rbk.images
    s.rbk.imgSlot).map (fun g => (g.complete, g.regions)) = some (false, regions.toNat) ∧ Keeps [.rbk] (recFields ++
    [Fld.RBK_EV_FLUSHDONE, Fld.RBK_FLT_FLASH, Fld.RBK_CNT_FLERR, Fld.RBK_CNT_FLUSHES, Fld.XSP_CNT_ERASES]) s t) ∧
  (∀ (s : State) ok regions, s.rbk.flush = none → exec (.rbkFlushDone ok regions) s = .next s) ∧
  (∀ (s : State) addr v, 0x1E000 ≤ s.winOff addr → s.winOff addr < 0x2E000 → ∃ t, exec (.rbkWindowWrite addr v) s = .next t ∧ (∀ j, j < 4
    → mget (fun _ => (0 : Byte)) t.rbk.ret.fw (s.winOff addr - 0x1E000 + j) = BitVec.ofNat 8 (v.toNat / 2 ^ (8 * j))) ∧ t.rbk.ret.recs =
    s.rbk.ret.recs ∧ t.rbk.ret.ctrs = s.rbk.ret.ctrs ∧ t.rbk.ret.hists = s.rbk.ret.hists ∧ t.rbk.ret.exts = s.rbk.ret.exts ∧ Keeps [.rbk]
    [] s t) ∧
  (∀ (s : State) addr v, s.winOff addr < 0x1E000 ∨ 0x2E000 ≤ s.winOff addr → exec (.rbkWindowWrite addr v) s = .next s) ∧
  (∀ (s : State), s.rbk.snap = none → exec (.ringbookPeriodicSample false) s = .next
    ({ s with rbk := { s.rbk with ret := histApply s s.rbk.ret 80 (binOf 32 4000 500 ((10 * s.get Fld.PWR_VIN_VIN : Nat) : Int)) ((10 * s.get Fld.PWR_VIN_VIN : Nat) : Int) 0x400 } })) ∧
  (∀ (s : State), s.rbk.snap = none → 430 < s.get Fld.PWR_VIN_VIN → ∃ t, exec (.ringbookPeriodicSample true) s = .next t ∧ mget (fun _ =>
    0) t.rbk.ret.ctrs 0 = (mget (fun _ => 0) s.rbk.ret.ctrs 0 + 1) % 2 ^ 64 ∧ Keeps [.rbk] [] s t) ∧
  (∀ (s : State), s.rbk.snap = none → ∃ t, exec (.ringbookPeriodicSample true) s = .next t ∧ (mget (fun _ => HistArea.zero)
    t.rbk.ret.hists 83).count = (mget (fun _ => HistArea.zero) s.rbk.ret.hists 83).count + 1 ∧ Keeps [.rbk] [] s t) ∧
  (∀ (s : State) second r, s.rbk.snap = some r → r = 3 ∨ r = 4 → ∃ t, exec (.ringbookPeriodicSample second) s = .next t ∧ t.rbk.ret.hists
    = s.rbk.ret.hists ∧ t.rbk.ret.exts = s.rbk.ret.exts ∧ Keeps [.rbk] [] s t)

/-- R82, R748, R749, R753, R754, R770: MODE and SYS_MODEREQ. -/
def Obligations.ModesAndSwitch : Prop :=
  (∀ (s : State) x, ((s.put Fld.SYS_MODEREQ_REQ 6).put Fld.SYS_MODEREQ_ACT x.idx).syncMode.modeGrant 6 = true → ∃ t, exec (.modeReqSplit
    x) s = .next t ∧ t.flag Fld.SYS_MODE_SPLITLAT = true ∧ t.get Fld.SYS_MODE_SPLITACT = x.idx ∧ t.flag Fld.SYS_MODEREQ_DONE = true ∧
    t.flag Fld.SYS_MODEREQ_REFUSED = false ∧ t.flag Fld.SYS_MODEREQ_GO = false ∧ Keeps [.rbk, .spn, .sys, .vale, .wrp] (modeFields ++
    [Fld.SYS_MODE_SPLITACT, Fld.SYS_MODE_SPLITLAT, Fld.SYS_MODE_DEGLAT, Fld.SYS_MODE_SWLAT, Fld.SYS_MODEREQ_REQ, Fld.SYS_MODEREQ_ACT,
    Fld.SYS_MODEREQ_DONE, Fld.SYS_MODEREQ_REFUSED, Fld.SYS_MODEREQ_GO]) s t) ∧
  (∀ (s : State) x, s.sys.faultA = true ∨ s.sys.faultB = true ∨ s.isSN = true → ∃ t, exec (.modeReqSplit x) s = .next t ∧ t.flag
    Fld.SYS_MODE_SPLITLAT = (s.flag Fld.SYS_MODE_SPLITLAT) ∧ t.flag Fld.SYS_MODEREQ_DONE = false ∧ t.flag Fld.SYS_MODEREQ_REFUSED = true ∧
    t.flag Fld.SYS_MODEREQ_GO = false ∧ Keeps [.rbk, .spn, .sys, .vale, .wrp] (modeFields ++ [Fld.SYS_MODE_SPLITACT,
    Fld.SYS_MODE_SPLITLAT, Fld.SYS_MODE_DEGLAT, Fld.SYS_MODE_SWLAT, Fld.SYS_MODEREQ_REQ, Fld.SYS_MODEREQ_ACT, Fld.SYS_MODEREQ_DONE,
    Fld.SYS_MODEREQ_REFUSED, Fld.SYS_MODEREQ_GO]) s t) ∧
  (∀ (s : State), s.flag Fld.SPN_CTL_RUN = false → s.spnState = spnStopped → s.flag Fld.SYS_LOCK_LOCK = false → s.sys.switching = false →
    ∃ t, exec .modeReqSelfwrite s = .next t ∧ t.flag Fld.SYS_MODE_SWLAT = true ∧ t.flag Fld.SYS_MODEREQ_DONE = true ∧ t.flag
    Fld.SYS_MODEREQ_REFUSED = false ∧ t.flag Fld.SYS_MODEREQ_GO = false ∧ Keeps [.rbk, .spn, .sys, .vale, .wrp] (modeFields ++
    [Fld.SYS_MODE_SPLITACT, Fld.SYS_MODE_SPLITLAT, Fld.SYS_MODE_DEGLAT, Fld.SYS_MODE_SWLAT, Fld.SYS_MODEREQ_REQ, Fld.SYS_MODEREQ_DONE,
    Fld.SYS_MODEREQ_REFUSED, Fld.SYS_MODEREQ_GO]) s t) ∧
  (∀ (s : State), s.flag Fld.SYS_LOCK_LOCK = true ∨ s.sys.switching = true → ∃ t, exec .modeReqSelfwrite s = .next t ∧ t.flag
    Fld.SYS_MODE_SWLAT = (s.flag Fld.SYS_MODE_SWLAT) ∧ t.flag Fld.SYS_MODEREQ_DONE = false ∧ t.flag Fld.SYS_MODEREQ_REFUSED = true ∧
    t.flag Fld.SYS_MODEREQ_GO = false ∧ Keeps [.rbk, .spn, .sys, .vale, .wrp] (modeFields ++ [Fld.SYS_MODE_SPLITACT,
    Fld.SYS_MODE_SPLITLAT, Fld.SYS_MODE_DEGLAT, Fld.SYS_MODE_SWLAT, Fld.SYS_MODEREQ_REQ, Fld.SYS_MODEREQ_DONE, Fld.SYS_MODEREQ_REFUSED,
    Fld.SYS_MODEREQ_GO]) s t) ∧
  (∀ (s : State), s.flag Fld.SYS_MODE_SPLITLAT = true ∨ s.flag Fld.SYS_MODE_SWLAT = true ∨ s.flag Fld.SYS_MODE_DEGLAT = true → ∃ t, exec
    .modeReqLeave s = .next t ∧ t.flag Fld.SYS_MODE_SPLITLAT = false ∧ t.flag Fld.SYS_MODE_SWLAT = false ∧ t.flag Fld.SYS_MODE_DEGLAT =
    ((s.flag Fld.SYS_MODE_DEGLAT) && (s.sys.faultA || s.sys.faultB)) ∧ t.flag Fld.SYS_MODEREQ_DONE = true ∧ t.flag Fld.SYS_MODEREQ_REFUSED
    = false ∧ t.flag Fld.SYS_MODEREQ_GO = false ∧ Keeps [.rbk, .spn, .sys, .vale, .wrp] (modeFields ++ [Fld.SYS_MODE_SPLITACT,
    Fld.SYS_MODE_SPLITLAT, Fld.SYS_MODE_DEGLAT, Fld.SYS_MODE_SWLAT, Fld.SYS_MODEREQ_REQ, Fld.SYS_MODEREQ_DONE, Fld.SYS_MODEREQ_REFUSED,
    Fld.SYS_MODEREQ_GO]) s t) ∧
  (∀ (s : State), s.flag Fld.SYS_MODE_SPLITLAT = false → s.flag Fld.SYS_MODE_SWLAT = false → s.flag Fld.SYS_MODE_DEGLAT = false → ∃ t,
    exec .modeReqLeave s = .next t ∧ t.flag Fld.SYS_MODEREQ_DONE = false ∧ t.flag Fld.SYS_MODEREQ_REFUSED = true ∧ t.flag
    Fld.SYS_MODEREQ_GO = false ∧ Keeps [.rbk, .spn, .sys, .vale, .wrp] (modeFields ++ [Fld.SYS_MODE_SPLITACT, Fld.SYS_MODE_SPLITLAT,
    Fld.SYS_MODE_DEGLAT, Fld.SYS_MODE_SWLAT, Fld.SYS_MODEREQ_REQ, Fld.SYS_MODEREQ_DONE, Fld.SYS_MODEREQ_REFUSED, Fld.SYS_MODEREQ_GO]) s t) ∧
  (∀ (s : State) hash, s.sys.imageVerified = false → ∃ t, exec (.firmwareSwitch hash) s = .next t ∧ t.get Fld.SYS_UPDCTL_RESULT = 2 ∧
    t.flag Fld.SYS_UPDCTL_SWITCH = false ∧ Keeps [] [Fld.SYS_UPDCTL_RESULT, Fld.SYS_UPDCTL_SWITCH] s t) ∧
  (∀ (s : State), s.sys.imageVerified = true → s.sys.switching = false → s.get Fld.SYS_MODE_MODE ≠ 0xC → s.get Fld.SYS_MODE_MODE ≠ 9 →
    s.get Fld.SYS_MODE_MODE ≠ 0xA → ∃ t, exec (.firmwareSwitch false) s = .next t ∧ t.get Fld.SYS_UPDCTL_RESULT = 3 ∧ t.flag
    Fld.SYS_UPDCTL_SWITCH = false ∧ t.sys.switching = false ∧ t.rd Reg.INTC_CAUSE0 = s.rd Reg.INTC_CAUSE0 ∧ Keeps [.apc, .free, .hwd,
    .mem, .rbk, .spn, .sys, .vale, .wrp] (modeFields ++ [Fld.SYS_EV_UPD, Fld.SYS_UPDCTL_RESULT, Fld.SYS_UPDCTL_SWITCH, Fld.MEM_EV_CE,
    Fld.MEM_EV_UE, Fld.MEM_FLT_SRAMUE, Fld.MEM_UEADDR_ADDR, Fld.MEM_UEINFO_INIT, Fld.MEM_UEINFO_OVF, Fld.MEM_UEINFO_VALID,
    Fld.MEM_CETCTL_CET_OVF, Fld.MEM_SRAMERR_REGION, Fld.MEM_SRAMERR_CE, Fld.MEM_SRAMERR_UE, Fld.MEM_CNT_UE, Fld.MEM_CNT_CE,
    Fld.HWD_BOOT_SVN, ⟨Reg.INTC_CAUSE0, 0, 32⟩, ⟨Reg.INTC_CAUSE1, 0, 32⟩, ⟨Reg.XSP_PROTB 0, 0, 32⟩, ⟨Reg.XSP_PROTL 0, 0, 32⟩,
    ⟨Reg.XSP_PROTB 1, 0, 32⟩, ⟨Reg.XSP_PROTL 1, 0, 32⟩, ⟨Reg.XSP_PROTB 2, 0, 32⟩, ⟨Reg.XSP_PROTL 2, 0, 32⟩, ⟨Reg.XSP_PROTB 3, 0, 32⟩,
    ⟨Reg.XSP_PROTL 3, 0, 32⟩]) s t) ∧
  (∀ (s : State), s.sys.imageVerified = true → s.sys.switching = false → s.get Fld.SYS_MODE_MODE ≠ 0xC → s.get Fld.SYS_MODE_MODE ≠ 9 →
    s.get Fld.SYS_MODE_MODE ≠ 0xA → ∃ t, exec (.firmwareSwitch true) s = .next t ∧ t.get Fld.SYS_UPDCTL_RESULT = 1 ∧ t.flag
    Fld.SYS_UPDCTL_SWITCH = false ∧ t.sys.switching = false ∧ t.flag Fld.SYS_EV_UPD = true ∧ t.rd Reg.INTC_CAUSE0 = 0#32 ∧ t.rd
    Reg.INTC_CAUSE1 = 0#32 ∧ t.apc.dirty = [] ∧ t.apc.wd0 =
    { at_ := s.now, period := s.eff Fld.INTC_WDCFG_PERIOD * 800000, paused := none } ∧ Keeps [.apc, .free, .hwd, .mem, .rbk, .spn, .sys,
    .vale, .wrp] (modeFields ++ [Fld.SYS_EV_UPD, Fld.SYS_UPDCTL_RESULT, Fld.SYS_UPDCTL_SWITCH, Fld.MEM_EV_CE, Fld.MEM_EV_UE,
    Fld.MEM_FLT_SRAMUE, Fld.MEM_UEADDR_ADDR, Fld.MEM_UEINFO_INIT, Fld.MEM_UEINFO_OVF, Fld.MEM_UEINFO_VALID, Fld.MEM_CETCTL_CET_OVF,
    Fld.MEM_SRAMERR_REGION, Fld.MEM_SRAMERR_CE, Fld.MEM_SRAMERR_UE, Fld.MEM_CNT_UE, Fld.MEM_CNT_CE, Fld.HWD_BOOT_SVN,
    ⟨Reg.INTC_CAUSE0, 0, 32⟩, ⟨Reg.INTC_CAUSE1, 0, 32⟩, ⟨Reg.XSP_PROTB 0, 0, 32⟩, ⟨Reg.XSP_PROTL 0, 0, 32⟩, ⟨Reg.XSP_PROTB 1, 0, 32⟩,
    ⟨Reg.XSP_PROTL 1, 0, 32⟩, ⟨Reg.XSP_PROTB 2, 0, 32⟩, ⟨Reg.XSP_PROTL 2, 0, 32⟩, ⟨Reg.XSP_PROTB 3, 0, 32⟩, ⟨Reg.XSP_PROTL 3, 0, 32⟩]) s
    t) ∧
  (∀ (s : State), s.flag Fld.ANG_STAT_VALID = true → ∃ t, exec .angleWrap s = .next t ∧ t.ang.ats = (s.ang.ats / 2 ^ 32 + 1) % 2 ^ 16 * 2
    ^ 32 ∧ t.ang.pendWedges = none ∧ (t.ch 0).duty = 0 ∧ (t.ch 3).duty = 0 ∧ Keeps [.ang, .ch, .rbk] [Fld.ANG_CFG_WEDGES] s t) ∧
  (∀ (s : State) w, s.flag Fld.ANG_STAT_VALID = true → s.ang.pendWedges = some w → ∃ t, exec .angleWrap s = .next t ∧ t.get
    Fld.ANG_CFG_WEDGES = w % 2 ^ Fld.ANG_CFG_WEDGES.len ∧ Keeps [.ang, .ch, .rbk] [Fld.ANG_CFG_WEDGES] s t) ∧
  (∀ (s : State), s.flag Fld.ANG_STAT_VALID = false → exec .angleWrap s = .next s) ∧
  (∀ (s : State) a, s.sys.active = true → s.sys.idleAt = some a → a + 120 * 800000000 / max 1 (s.eff Fld.SPN_TARGET_RPM) ≤ s.now →
    s.msqA.running = none → s.msqB.running = none → ∃ t, exec .activeIdleTimeout s = .next t ∧ t.sys.active = false ∧ Keeps [.rbk, .spn,
    .sys, .vale, .wrp] modeFields s t) ∧
  (∀ (s : State) a, s.sys.active = true → s.sys.idleAt = some a → a + 120 * 800000000 / max 1 (s.eff Fld.SPN_TARGET_RPM) ≤ s.now →
    s.msqA.running = none → s.msqB.running = none → s.flag Fld.SPN_CTL_RUN = true → s.spnHold = false → s.spn.pinStop = false →
    s.sys.inregSince = true → s.loaded .a = true → s.sys.cooldown = false → s.sys.retract = false → s.sys.switching = false → s.flag
    Fld.SYS_MODE_SWLAT = false → s.flag Fld.SYS_MODE_DEGLAT = false → s.flag Fld.SYS_MODE_SPLITLAT = false → s.get Fld.SYS_MODE_MODE = 5 →
    ∃ t, exec .activeIdleTimeout s = .next t ∧ t.get Fld.SYS_MODE_MODE = 4 ∧ t.get Fld.SYS_MODE_PREV = 5 ∧ t.flag Fld.SYS_EV_MODE = true ∧
    Keeps [.rbk, .spn, .sys, .vale, .wrp] modeFields s t) ∧
  (∀ (s : State) a, s.sys.idleAt = some a → s.now < a + 120 * 800000000 / max 1 (s.eff Fld.SPN_TARGET_RPM) → exec .activeIdleTimeout s =
    .next s)

/-- R329, R432, R434, R495, R558, R630, R634, R636, R658, R696, R697, R800: single events. -/
def Obligations.LateEvents : Prop :=
  (∀ (s : State) x, (s.la x).ocPause = true → (s.la x).ocAt.getD 0 + 8000 ≤ s.now → s.actOk x = true → s.flag (drvOff x) = false → ∃ t,
    exec (.vcmOcPauseEnd x) s = .next t ∧ (t.la x).ocPause = false ∧ t.flag (drvRet x) = true ∧ t.loaded x = false ∧ Keeps [.lpe, .msq,
    .rbk, .spn, .sys, .vale, .wrp] (modeFields ++ retractFields) s t) ∧
  (∀ (s : State) x, (s.la x).ocPause = false → exec (.vcmOcPauseEnd x) s = .next s) ∧
  (∀ (s : State), ∃ t, exec .boostOutOfRegulation s = .next t ∧ t.flag Fld.DRV_STAT_BOOSTOK = false ∧ t.flag Fld.DRV_FLT_BOOST = true ∧
    Keeps [.rbk] (recFields ++ [Fld.DRV_FLT_BOOST, Fld.DRV_STAT_BOOSTOK]) s t) ∧
  (∀ (s : State) vin, s.retph = 1 → s.flag Fld.PWR_STAT_UVHOLD = false → 100 * vin < 90 * s.vbus → s.actOk .a = true → s.actOk .b = true →
    ∃ t, exec (.mediaBusExcursion vin) s = .next t ∧ t.flag Fld.PWR_STAT_UVHOLD = true ∧ (t.wrp .a).holding.testBit 2 = true ∧ (t.wrp
    .b).holding.testBit 2 = true ∧ t.get Fld.PWR_VIN_VIN = min vin 0xFFFF ∧ Keeps [.ang, .ch, .lpe, .mem, .msq, .plk, .rbk, .sys, .vale,
    .wrp] (guardFields s .a ++ guardFields s .b ++ [Fld.PWR_STAT_UVHOLD, Fld.PWR_VIN_VIN, Fld.PWR_VIN_VMIN]) s t) ∧
  (∀ (s : State) vin, s.retph ≠ 1 ∨ s.flag Fld.PWR_STAT_UVHOLD = true ∨ (90 * s.vbus ≤ 100 * vin ∧ 100 * vin ≤ 110 * s.vbus) → exec
    (.mediaBusExcursion vin) s = .next (s.vin vin)) ∧
  (∀ (s : State) vin, s.retph = 1 → s.flag Fld.PWR_STAT_UVHOLD = true → 95 * s.vbus ≤ 100 * vin → 100 * vin ≤ 105 * s.vbus → ∃ t, exec
    (.mediaBusSettled vin) s = .next t ∧ t.flag Fld.PWR_STAT_UVHOLD = false ∧ (t.wrp .a).holding = (s.wrp .a).holding &&& 251 ∧ (t.wrp
    .b).holding = (s.wrp .b).holding &&& 251 ∧ Keeps [.lpe, .rbk, .wrp] (recFields ++ [Fld.PWR_STAT_UVHOLD, Fld.PWR_VIN_VIN,
    Fld.PWR_VIN_VMIN, Fld.WRP_EV_WGREL .a, Fld.WRP_EV_WGREL .b, Fld.LPE_STAT_REGION, ⟨Reg.LPE_STAT, 8, 2⟩]) s t) ∧
  (∀ (s : State) vin, s.retph ≠ 1 ∨ s.flag Fld.PWR_STAT_UVHOLD = false → exec (.mediaBusSettled vin) s = .next (s.vin vin)) ∧
  (∀ (s : State) p memOk, s.pwr.bor = true → s.pwr.brakeBor = false → ∃ t, exec (.borRelease p memOk) s = .next t ∧ t.get Fld.PWR_RAIL_OK
    = 0x7F ∧ t.pwr.bor = false ∧ t.flag Fld.PWR_STAT_ISO = true ∧ t.flag Fld.SYS_COMPAT_GEN7 = p.gen7 ∧ t.host.startAt = s.now ∧ Keeps
    [.host, .pins, .pwr, .rbk, .spn, .sys, .vale, .wrp] (modeFields ++ [Fld.SYS_COMPAT_GEN7, Fld.PWR_STAT_ISO, Fld.PWR_RAIL_OK,
    Fld.SPN_STAT_INREG, Fld.SPN_CNT2_STARTS, Fld.MEM_EV_STFAIL, Fld.MEM_STAT_DIS, ⟨Reg.INTC_CORE, 0, 32⟩, Fld.XSP_EV_SLOW,
    Fld.XSP_STAT_READY, Fld.XSP_STAT_OCTAL, Fld.XSP_STAT_SIZE]) s t) ∧
  (∀ (s : State) p memOk, s.pwr.bor = false ∨ s.pwr.brakeBor = true → exec (.borRelease p memOk) s = .next s) ∧
  (∀ (s : State) n second data d rest c r a q, s.ctx n = some c → s.resvOf n = some r → c.st = 2 → r.win second < c.len → c.write = true →
    r.full second c.len = false → c.kind ≠ 2 → c.caching = false → s.posWord n (r.win second) = some a → s.piWord n (r.win second) = some
    q → data = d :: rest → (s.msq .a).work = [] → (s.msq .a).wait = none → (s.msq .b).work = [] → (s.msq .b).wait = none → ∃ t, exec
    (.hostDataTransfer n second data []) s = .next t ∧ mfind t.mem.dram a = some (.word (encodeWord d)) ∧ (t.resvOf n).map (fun e =>
    (winPositions (r.win second) c.len).all (fun p => e.filled.contains p)) = some true ∧ Keeps [.ang, .buf, .ccx, .ch, .cph, .free, .lpe,
    .mem, .msq, .plk, .rbk, .spn, .sys, .vale, .wrp] (advFields s .a ++ advFields s .b ++ modeFields ++ [Fld.MEM_EV_CE, Fld.MEM_EV_UE,
    Fld.MEM_UEADDR_ADDR, Fld.MEM_UEINFO_INIT, Fld.MEM_UEINFO_OVF, Fld.MEM_UEINFO_VALID, Fld.MEM_CETCTL_CET_OVF, Fld.MEM_CNT_UE,
    Fld.MEM_CNT_CE, Fld.BUF_EV_SEGFAIL]) s t) ∧
  (∀ (s : State) n second data pi c r a, s.ctx n = some c → s.resvOf n = some r → c.st = 2 → c.write = false → r.published second c.len =
    true → r.held second = false → c.kind ≠ 2 → s.posWord n (r.win second) = some a → (State.readWords (min 256 (c.len - r.win second) *
    512) a s).1 = false → r.zeroFrom = none → r.bad = [] → (s.msq .a).work = [] → (s.msq .a).wait = none → (s.msq .b).work = [] → (s.msq
    .b).wait = none → ∃ t, exec (.hostDataTransfer n second data pi) s = .next t ∧ t.resvOf n = some (r.advance second) ∧ (c.len ≤
    (r.advance second).win0 ∧ c.len ≤ (r.advance second).win1 → (t.ctx n).map (fun e => e.xferDone) = some true) ∧ Keeps [.ang, .buf,
    .ccx, .ch, .cph, .free, .lpe, .mem, .msq, .plk, .rbk, .spn, .sys, .vale, .wrp] (advFields s .a ++ advFields s .b ++ modeFields ++
    [Fld.MEM_EV_CE, Fld.MEM_EV_UE, Fld.MEM_UEADDR_ADDR, Fld.MEM_UEINFO_INIT, Fld.MEM_UEINFO_OVF, Fld.MEM_UEINFO_VALID,
    Fld.MEM_CETCTL_CET_OVF, Fld.MEM_CNT_UE, Fld.MEM_CNT_CE, Fld.BUF_EV_SEGFAIL]) s t) ∧
  (∀ (s : State) n second data pi, s.ctx n = none ∨ s.resvOf n = none → exec (.hostDataTransfer n second data pi) s = .next s) ∧
  (∀ (s : State) rate width reset, s.pcieMode = true → 1 ≤ rate → width = 1 ∨ width = 2 → ∃ t, exec (.hostLinkChange 2 rate width reset) s
    = .next t ∧ t.get Fld.PCIE_STAT_SPEED = min rate (clampN 1 5 (wfield s.host.pcieCfg 8 3)) ∧ t.get Fld.PCIE_STAT_WIDTH = width ∧ t.get
    Fld.HIF_STAT_LANEUP = (if width = 1 then 4 else 12) ∧ t.flag Fld.HIF_EV_LINK = true ∧ t.flag Fld.PCIE_EV_LINK = true ∧ Keeps [.host,
    .rbk] (recFields ++ [Fld.HIF_EV_LINK, Fld.HIF_STAT_LANEUP, Fld.SAS_EV_LINKA, Fld.SAS_EV_LINKB, Fld.SAS_STAT_UPA, Fld.SAS_STAT_UPB,
    Fld.SAS_STAT_RATEA, Fld.SAS_STAT_RATEB, Fld.SAS_CNT_RSTA, Fld.SAS_CNT_RSTB, Fld.PCIE_EV_LINK, Fld.PCIE_STAT_WIDTH,
    Fld.PCIE_STAT_SPEED]) s t) ∧
  (∀ (s : State) width reset, s.pcieMode = true → ∃ t, exec (.hostLinkChange 2 0 width reset) s = .next t ∧ t.get Fld.PCIE_STAT_SPEED = 0
    ∧ t.get Fld.PCIE_STAT_WIDTH = 0 ∧ t.get Fld.HIF_STAT_LANEUP = 0 ∧ t.flag Fld.HIF_EV_LINK = true ∧ t.flag Fld.PCIE_EV_LINK = true ∧
    Keeps [.host, .rbk] (recFields ++ [Fld.HIF_EV_LINK, Fld.HIF_STAT_LANEUP, Fld.SAS_EV_LINKA, Fld.SAS_EV_LINKB, Fld.SAS_STAT_UPA,
    Fld.SAS_STAT_UPB, Fld.SAS_STAT_RATEA, Fld.SAS_STAT_RATEB, Fld.SAS_CNT_RSTA, Fld.SAS_CNT_RSTB, Fld.PCIE_EV_LINK, Fld.PCIE_STAT_WIDTH,
    Fld.PCIE_STAT_SPEED]) s t) ∧
  (∀ (s : State) rate width reset, s.pcieMode = false → s.flag Fld.SAS_CFG_ENA = true → rate < 4 → ∃ t, exec (.hostLinkChange 0 rate width
    reset) s = .next t ∧ t.get Fld.SAS_STAT_RATEA = min rate (s.get Fld.SAS_CFG_MAXRATE) ∧ t.flag Fld.SAS_STAT_UPA = decide (min rate
    (s.get Fld.SAS_CFG_MAXRATE) ≠ 0) ∧ t.flag Fld.HIF_EV_LINK = true ∧ t.flag Fld.SAS_EV_LINKA = true ∧ t.get Fld.SAS_CNT_RSTA = (if reset
    = true then satAdd 8 (s.get Fld.SAS_CNT_RSTA) 1 else s.get Fld.SAS_CNT_RSTA) ∧ Keeps [.host, .rbk] (recFields ++ [Fld.HIF_EV_LINK,
    Fld.HIF_STAT_LANEUP, Fld.SAS_EV_LINKA, Fld.SAS_EV_LINKB, Fld.SAS_STAT_UPA, Fld.SAS_STAT_UPB, Fld.SAS_STAT_RATEA, Fld.SAS_STAT_RATEB,
    Fld.SAS_CNT_RSTA, Fld.SAS_CNT_RSTB, Fld.PCIE_EV_LINK, Fld.PCIE_STAT_WIDTH, Fld.PCIE_STAT_SPEED]) s t) ∧
  (∀ (s : State) rate width reset, s.pcieMode = false → s.flag Fld.SAS_CFG_ENB = false → ∃ t, exec (.hostLinkChange 1 rate width reset) s
    = .next t ∧ t.get Fld.SAS_STAT_RATEB = 0 ∧ t.flag Fld.SAS_STAT_UPB = false ∧ (t.get Fld.HIF_STAT_LANEUP).testBit 1 = false ∧ t.flag
    Fld.HIF_EV_LINK = true ∧ t.flag Fld.SAS_EV_LINKB = true ∧ Keeps [.host, .rbk] (recFields ++ [Fld.HIF_EV_LINK, Fld.HIF_STAT_LANEUP,
    Fld.SAS_EV_LINKA, Fld.SAS_EV_LINKB, Fld.SAS_STAT_UPA, Fld.SAS_STAT_UPB, Fld.SAS_STAT_RATEA, Fld.SAS_STAT_RATEB, Fld.SAS_CNT_RSTA,
    Fld.SAS_CNT_RSTB, Fld.PCIE_EV_LINK, Fld.PCIE_STAT_WIDTH, Fld.PCIE_STAT_SPEED]) s t) ∧
  (∀ (s : State), ∃ t, exec .phyPllLockLoss s = .next t ∧ t.flag Fld.HIF_FLT_PLL = true ∧ Keeps [.rbk] (recFields ++ [Fld.HIF_FLT_PLL]) s
    t) ∧
  (∀ (s : State), s.pcieMode = true → s.host.ccEnAt = none → ∃ t, exec .controllerEnable s = .next t ∧ t.flag Fld.PCIE_EV_CCEN = true ∧
    t.host = { s.host with ccEnAt := some s.now } ∧ Keeps [.host, .rbk] (recFields ++ [Fld.PCIE_EV_CCEN]) s t) ∧
  (∀ (s : State), s.pcieMode = false → exec .controllerEnable s = .next s) ∧
  (∀ (s : State) x, s.actOk x = true → exec (.preampFaultClear x) s = .next ((s.setPlk x
    { s.plk x with faulted := false, fltPin := false }).advance x)) ∧
  (∀ (s : State) b, s.dbg.tx = [b] → s.flag Fld.DBG_UARTCFG_EN = true → 1 ≤ s.get Fld.HWD_STAT_DBGLVL → ∃ t, exec .uartByteSent s = .next
    t ∧ t.dbg = { s.dbg with tx := [] } ∧ t.flag Fld.DBG_EV_TXEMPTY = true ∧ Keeps [.dbg, .rbk] (recFields ++ [Fld.DBG_EV_TXEMPTY]) s t) ∧
  (∀ (s : State) b c rest, s.dbg.tx = b :: c :: rest → s.flag Fld.DBG_UARTCFG_EN = true → 1 ≤ s.get Fld.HWD_STAT_DBGLVL → exec
    .uartByteSent s = .next ({ s with dbg := { s.dbg with tx := c :: rest } })) ∧
  (∀ (s : State), s.get Fld.HWD_STAT_DBGLVL = 2 → s.apc.halt0 = false → ∃ t, exec (.debugHalt false true) s = .next t ∧ t.apc =
    { s.apc with halt0 := true, wd0 := { s.apc.wd0 with paused := some (s.now - s.apc.wd0.at_) } } ∧ Keeps [.apc] [] s t) ∧
  (∀ (s : State) k, s.get Fld.HWD_STAT_DBGLVL = 2 → s.apc.halt1 = true → s.apc.wd1.paused = some k → ∃ t, exec (.debugHalt true false) s =
    .next t ∧ t.apc = { s.apc with halt1 := false, wd1 := { s.apc.wd1 with at_ := s.now - k, paused := none } } ∧ Keeps [.apc] [] s t) ∧
  (∀ (s : State) core halt, s.get Fld.HWD_STAT_DBGLVL ≠ 2 → exec (.debugHalt core halt) s = .next s)

/-- The Reset column of the register tables (R658 to R661, R697, R726, R747 and the tables of the other blocks). -/
def Obligations.ResetValues : Prop :=
  ∀ (s : State), State.reset.rd Reg.ANG_EVTEN = 0x00000004#32 ∧ State.reset.rd Reg.ANG_CFG = 0x001903B4#32 ∧ State.reset.rd
    Reg.ANG_SLIPLIM = 0x00100000#32 ∧ State.reset.rd Reg.ANG_SAMLAT = 0x00000040#32 ∧ (∀ x, State.reset.rd (Reg.MSQ_EVTEN x) =
    0x00000700#32) ∧ (∀ x, State.reset.rd (Reg.MSQ_CTL x) = 0x00000001#32) ∧ (∀ x, State.reset.rd (Reg.MSQ_CFG x) = 0x00000400#32) ∧ (∀ x,
    State.reset.rd (Reg.MSQ_TMO x) = 0x00000402#32) ∧ State.reset.rd Reg.SYS_ESCCFG = 0x03E80003#32 ∧ State.reset.rd Reg.UCS_EVTEN =
    0x00000100#32 ∧ State.reset.rd Reg.UCS_USTEP = 0x10001000#32 ∧ (∀ n, State.reset.rd (Reg.CH_EVTEN n) = 0x00000100#32) ∧ (∀ n,
    State.reset.rd (Reg.CH_CFG n) = 0x08C40000#32) ∧ (∀ n, State.reset.rd (Reg.CH_SYNC n) = 0x00A04010#32) ∧ (∀ n, State.reset.rd
    (Reg.CH_SMPAT n) = 0x6B9D2A71#32) ∧ (∀ n, State.reset.rd (Reg.CH_REDET n) = 0x0190C803#32) ∧ (∀ n, State.reset.rd (Reg.CH_DEFECT n) =
    0x10081844#32) ∧ (∀ n, State.reset.rd (Reg.CH_LOOPEN n) = 0xA68000FE#32) ∧ (∀ n, State.reset.rd (Reg.CH_RECCFG n) = 0xA0000000#32) ∧
    (∀ n, State.reset.rd (Reg.CH_TARGET n) = 0x00008408#32) ∧ (∀ n, State.reset.rd (Reg.CH_FE n) = 0x00005060#32) ∧ (∀ x, State.reset.rd
    (Reg.WRP_EVTEN x) = 0x00000300#32) ∧ (∀ x, State.reset.rd (Reg.WRP_ASSIST x) = 0x10140040#32) ∧ (∀ x, State.reset.rd (Reg.WRP_LMON x)
    = 0x00400062#32) ∧ (∀ x, State.reset.rd (Reg.WRP_WGLIM x) = 0x00000064#32) ∧ State.reset.rd Reg.WRPA_SHOCK = 0x00201919#32 ∧ (∀ x,
    State.reset.rd (Reg.PLK_EVTEN x) = 0x00000100#32) ∧ (∀ x, State.reset.rd (Reg.PLK_CFG x) = 0x00100403#32) ∧ State.reset.rd
    Reg.LPE_EVTEN = 0x0001FF00#32 ∧ State.reset.rd Reg.LPE_CTL = 0x00000A00#32 ∧ State.reset.rd Reg.LPE_REGION = 0x00404008#32 ∧
    State.reset.rd Reg.LPE_SETTLE = 0x303C2078#32 ∧ State.reset.rd Reg.LPE_SERVO = 0x01061003#32 ∧ State.reset.rd Reg.LPE_SAT =
    0x00140014#32 ∧ State.reset.rd Reg.LPE_FEUA = 0x00200008#32 ∧ State.reset.rd Reg.LPE_FELAS = 0x01000004#32 ∧ State.reset.rd
    Reg.LPE_FEHTR = 0x00800010#32 ∧ State.reset.rd Reg.LPE_FEBUS = 0x00140014#32 ∧ State.reset.rd Reg.LPE_SILIM = 0x0000007D#32 ∧
    State.reset.rd Reg.DRV_EVTEN = 0x00001F00#32 ∧ State.reset.rd Reg.DRV_CFG = 0x00001403#32 ∧ State.reset.rd Reg.DRV_RETRACT =
    0x00C8324B#32 ∧ State.reset.rd Reg.DRV_UACT = 0x0000000F#32 ∧ State.reset.rd Reg.SPN_EVTEN = 0x00001F00#32 ∧ State.reset.rd
    Reg.SPN_TARGET = 0x05001C20#32 ∧ State.reset.rd Reg.SPN_MOTOR = 0x3C500008#32 ∧ State.reset.rd Reg.SPN_LEVEL = 0x05DC04B0#32 ∧
    State.reset.rd Reg.SPN_START = 0x647D0096#32 ∧ State.reset.rd Reg.SPN_CATCH = 0x012C003C#32 ∧ State.reset.rd Reg.SPN_BRAKE =
    0x3C00012C#32 ∧ State.reset.rd Reg.SPN_BEMF = 0x140A0603#32 ∧ State.reset.rd Reg.SPN_CMDSRC = 0x27100100#32 ∧ State.reset.rd
    Reg.SPN_LOWV = 0x00001518#32 ∧ State.reset.rd Reg.PWR_EVTEN = 0x00000100#32 ∧ State.reset.rd Reg.PWR_VINCFG = 0x145A0068#32 ∧
    State.reset.rd Reg.PWR_LOWV = 0x0000006C#32 ∧ State.reset.rd Reg.PWR_RET = 0x03E83C64#32 ∧ State.reset.rd Reg.PWR_BUS = 0x000000A0#32
    ∧ State.reset.rd Reg.PWR_CHOP = 0x000A0190#32 ∧ State.reset.rd Reg.PWR_CTL = 0x00000001#32 ∧ State.reset.rd Reg.PWR_BUDGET =
    0x00008020#32 ∧ State.reset.rd Reg.THM_EVTEN = 0x00000100#32 ∧ State.reset.rd Reg.THM_CFG = 0x00505080#32 ∧ State.reset.rd
    Reg.THM_EDGES0 = 0x281E140A#32 ∧ State.reset.rd Reg.THM_EDGES1 = 0x00463C32#32 ∧ State.reset.rd Reg.THM_WARN = 0x736E0C08#32 ∧
    State.reset.rd Reg.THM_NTC = 0x0D6B03E8#32 ∧ State.reset.rd Reg.THM_BASELIM = 0x00004100#32 ∧ State.reset.rd Reg.THM_PEAK =
    0x00008000#32 ∧ State.reset.rd Reg.MEM_EVTEN = 0x00000E00#32 ∧ State.reset.rd Reg.MEM_CETCTL = 0x00100000#32 ∧ State.reset.rd
    Reg.BUF_EVTEN = 0x00000100#32 ∧ State.reset.rd Reg.HWD_EVTEN = 0x00000100#32 ∧ State.reset.rd Reg.CPH_EVTEN = 0x00000100#32 ∧
    State.reset.rd Reg.HIF_EVTEN = 0x00000100#32 ∧ State.reset.rd Reg.HIF_MGTCFG = 0x0000806A#32 ∧ State.reset.rd Reg.SAS_CFG =
    0x00000003#32 ∧ State.reset.rd Reg.PCIE_EVTEN = 0x00000100#32 ∧ State.reset.rd Reg.PCIE_CFG = 0x00000540#32 ∧ State.reset.rd
    Reg.CCX_EVTEN = 0x00000100#32 ∧ State.reset.rd Reg.CCX_CFG = 0x001E0000#32 ∧ State.reset.rd Reg.INTC_EVTEN = 0x00000100#32 ∧
    State.reset.rd Reg.INTC_WDCFG = 0x0000000A#32 ∧ State.reset.rd Reg.XSP_EVTEN = 0x00000300#32 ∧ State.reset.rd Reg.XSP_TMO =
    0x00140005#32 ∧ State.reset.rd Reg.DBG_UARTCFG = 0x0000001B#32 ∧ State.reset.rd Reg.VALE_EVTEN = 0x00000100#32 ∧ State.reset.rd
    Reg.VALE_CFG = 0x64001978#32 ∧ State.reset.rd Reg.VALE_SEEKCLS = 0x10004001#32 ∧ State.reset.rd Reg.VALE_CANCFG = 0x00000114#32 ∧
    State.reset.rd Reg.RBK_EVTEN = 0x00000100#32 ∧ State.reset.rd Reg.RBK_CFG = 0x003C0064#32 ∧ State.reset.rd Reg.RBK_FLASH =
    0x00030000#32 ∧ State.reset.rd Reg.SYS_EVTEN = 0x00000700#32 ∧ State.reset.pending = [] ∧ State.reset.ccx.ctxs = [] ∧
    State.reset.loaded .a = false ∧ State.reset.loaded .b = false ∧ State.reset.msqA.running = none ∧ State.reset.msqB.running = none ∧
    State.reset.rd Reg.CCX_EVT = 0#32 ∧ State.reset.rd Reg.RBK_EVT = 0#32 ∧ State.reset.rd Reg.VALE_EVT = 0#32 ∧ State.reset.rd
    Reg.SYS_EVT = 0#32
end

