-- ==== Sys2Proof/Laws/Keeps.lean ====
section
/-!
SUPPORT. What the shared operations leave as it was: the laws of Keeps.
-/
namespace Sys2Proof.Laws

open Sys2Proof.Machine Sys2Proof.Safety

/-- A field lies within another. -/
def covers (g f : Field) : Bool := decide (g.addr = f.addr) && decide (g.lo ≤ f.lo) && decide (f.lo + f.len ≤ g.lo + g.len)

/-- Every part of one list is in another, and every field of one list lies within a field of another: as a computation. -/
def within (P : List Part) (R : List Field) (P1 : List Part) (R1 : List Field) : Bool :=
  P1.all (fun p => P.contains p) && (P.contains .regs || R1.all (fun f => R.any (fun g => covers g f)))

theorem covers_refl (f : Field) : covers f f = true := by simp [covers]

theorem covers_trans {f g h : Field} (a : covers h g = true) (b : covers g f = true) : covers h f = true := by
  simp only [covers, Bool.and_eq_true, decide_eq_true_eq] at *
  omega

theorem covers_inField {f g : Field} {a i : Nat} (h : covers g f = true) (k : inField g a i = false) : inField f a i = false := by
  simp only [covers, inField, Bool.and_eq_true, decide_eq_true_eq, Bool.and_eq_false_iff, decide_eq_false_iff_not] at *
  omega

theorem within_iff {P : List Part} {R : List Field} {P1 : List Part} {R1 : List Field} :
    within P R P1 R1 = true ↔ (∀ p ∈ P1, p ∈ P) ∧ (Part.regs ∈ P ∨ ∀ f ∈ R1, ∃ g ∈ R, covers g f = true) := by
  simp only [within, Bool.and_eq_true, Bool.or_eq_true, List.all_eq_true, List.any_eq_true, List.contains_iff_mem]

theorem within_part {P : List Part} {R : List Field} {P1 : List Part} {R1 : List Field} (h : within P R P1 R1 = true) :
    (∀ p, p ∉ P → p ∉ P1) ∧
    (Part.regs ∉ P → ∀ a i, (∀ f ∈ R, inField f a i = false) → ∀ f ∈ R1, inField f a i = false) := by
  obtain ⟨h1, h2⟩ := within_iff.1 h
  refine ⟨fun p hp k => hp (h1 p k), fun hr a i hf f h3 => ?_⟩
  rcases h2 with h2 | h2
  · exact absurd h2 hr
  · obtain ⟨g, hg, hc⟩ := h2 f h3
    exact covers_inField hc (hf g hg)

theorem Part.same_refl (p : Part) (s : State) : p.same s s := by
  cases p <;> simp [Part.same]

theorem Part.same_trans {p : Part} {s t u : State} (h : p.same s t) (k : p.same t u) : p.same s u := by
  cases p <;> simp_all [Part.same]

theorem keeps_refl (P : List Part) (R : List Field) (s : State) : Keeps P R s s :=
  ⟨rfl, fun p _ _ => Part.same_refl p s, fun _ _ _ _ => rfl⟩

theorem keeps_trans {P : List Part} {R : List Field} {s t u : State} (h : Keeps P R s t) (k : Keeps P R t u) : Keeps P R s u :=
  ⟨k.queue.trans h.queue, fun p hn hp => Part.same_trans (h.part p hn hp) (k.part p hn hp),
    fun hr a i ha => (k.reg hr a i ha).trans (h.reg hr a i ha)⟩

theorem keeps_via {P P1 : List Part} {R R1 : List Field} {s t u : State} (k : Keeps P1 R1 t u) (w : within P R P1 R1 = true)
    (h : Keeps P R s t) : Keeps P R s u := by
  obtain ⟨w1, w2⟩ := within_part w
  refine ⟨k.queue.trans h.queue, fun p hn hp => Part.same_trans (h.part p hn hp) (k.part p hn (w1 p hp)), fun hr a i ha => ?_⟩
  exact (k.reg (w1 _ hr) a i (w2 hr a i ha)).trans (h.reg hr a i ha)

theorem within_nil {P P1 : List Part} {R : List Field} (h : P1.all (fun p => P.contains p) = true) : within P R P1 [] = true := by
  simp only [within, h, Bool.true_and, List.all_nil, Bool.or_true]

theorem within_trans {P Q S : List Part} {R T U : List Field} (h : within P R Q T = true) (k : within Q T S U = true) :
    within P R S U = true := by
  obtain ⟨h1, h2⟩ := within_iff.1 h
  obtain ⟨k1, k2⟩ := within_iff.1 k
  refine within_iff.2 ⟨fun p hp => h1 p (k1 p hp), ?_⟩
  rcases h2 with h2 | h2
  · exact .inl h2
  · rcases k2 with k2 | k2
    · exact .inl (h1 _ k2)
    · refine .inr (fun f hf => ?_)
      obtain ⟨g, hg, c⟩ := k2 f hf
      obtain ⟨g2, hg2, c2⟩ := h2 g hg
      exact ⟨g2, hg2, covers_trans c2 c⟩

theorem within_cons {P P1 : List Part} {R R1 : List Field} {a : Field} (h : within P R P1 R1 = true) : within P (a :: R) P1 R1 = true := by
  obtain ⟨h1, h2⟩ := within_iff.1 h
  refine within_iff.2 ⟨h1, h2.imp id (fun k f hf => ?_)⟩
  obtain ⟨g, hg, c⟩ := k f hf
  exact ⟨g, List.mem_cons_of_mem a hg, c⟩

theorem within_cons_cons {P P1 : List Part} {R R1 : List Field} {a : Field} (h : within P R P1 R1 = true) :
    within P (a :: R) P1 (a :: R1) = true := by
  obtain ⟨h1, h2⟩ := within_iff.1 h
  refine within_iff.2 ⟨h1, h2.imp id (fun k f hf => ?_)⟩
  rcases List.mem_cons.1 hf with rfl | hf
  · exact ⟨f, List.mem_cons_self, covers_refl f⟩
  · obtain ⟨g, hg, c⟩ := k f hf
    exact ⟨g, List.mem_cons_of_mem a hg, c⟩

theorem keeps_mono {P P1 : List Part} {R R1 : List Field} {s t : State} (k : Keeps P1 R1 s t) (w : within P R P1 R1 = true) :
    Keeps P R s t := keeps_via k w (keeps_refl _ _ _)

theorem keeps_ite {P : List Part} {R : List Field} {s a b : State} {c : Prop} [Decidable c] (h : Keeps P R s a) (k : Keeps P R s b) :
    Keeps P R s (if c then a else b) := by
  split <;> assumption

theorem keeps_ite_snd {P : List Part} {R : List Field} {α : Type} {s : State} {a b : α × State} {c : Prop} [Decidable c]
    (h : Keeps P R s a.2) (k : Keeps P R s b.2) : Keeps P R s (if c then a else b).2 := by
  split <;> assumption

theorem keeps_foldl {P : List Part} {R : List Field} {α : Type} {g : State → α → State} {l : List α} {s t : State}
    (h : ∀ u a, Keeps P R u (g u a)) (k : Keeps P R s t) : Keeps P R s (l.foldl g t) := by
  induction l generalizing t with
  | nil => exact k
  | cons a l ih =>
    refine ih ?_
    have h1 := h t a
    exact ⟨h1.queue.trans k.queue, fun p hn hp => Part.same_trans (k.part p hn hp) (h1.part p hn hp),
      fun hr x i hx => (h1.reg hr x i hx).trans (k.reg hr x i hx)⟩

theorem keeps_foldl_mem {P : List Part} {R : List Field} {α : Type} {g : State → α → State} {l : List α} {s t : State}
    (h : ∀ u a, a ∈ l → Keeps P R u (g u a)) (k : Keeps P R s t) : Keeps P R s (l.foldl g t) := by
  induction l generalizing t with
  | nil => exact k
  | cons a l ih => exact ih (fun u b hb => h u b (List.mem_cons_of_mem _ hb)) (keeps_trans k (h t a List.mem_cons_self))

theorem keeps_foldl_snd {P : List Part} {R : List Field} {α β : Type} {g : β × State → α → β × State} {l : List α} {s : State}
    {p : β × State} (h : ∀ q a, Keeps P R q.2 (g q a).2) (k : Keeps P R s p.2) : Keeps P R s (l.foldl g p).2 := by
  induction l generalizing p with
  | nil => exact k
  | cons a l ih => exact ih (keeps_trans k (h p a))

/-- A state written out, whose registers and queue are those of another, part by part. -/
theorem keeps_mk {P : List Part} {R : List Field} {s t u : State} (hq : u.pending = t.pending) (hg : u.regs = t.regs)
    (hp : ∀ p, p ≠ .regs → p ∉ P → p.same t u) (h : Keeps P R s t) : Keeps P R s u :=
  ⟨hq.trans h.queue, fun p hn h1 => Part.same_trans (h.part p hn h1) (hp p hn h1),
    fun hr a i ha => (by simp [State.rd, hg] : (u.rd a).getLsbD i = (t.rd a).getLsbD i).trans (h.reg hr a i ha)⟩

/-- The second half of a pair that a shared operation answered. -/
theorem keeps_snd {P P1 : List Part} {R R1 : List Field} {α : Type} {p : α × State} {w : α} {s s0 t : State}
    (k : Keeps P1 R1 s0 p.2) (e : p = (w, t)) (v : within P R P1 R1 = true) (h : Keeps P R s s0) : Keeps P R s t := by
  subst e; exact keeps_via k v h

/-- The first half of a pair that a shared operation answered. -/
theorem keeps_fst {P P1 : List Part} {R R1 : List Field} {α : Type} {p : State × α} {w : α} {s s0 t : State}
    (k : Keeps P1 R1 s0 p.1) (e : p = (t, w)) (v : within P R P1 R1 = true) (h : Keeps P R s s0) : Keeps P R s t := by
  subst e; exact keeps_via k v h

/-- A state that equals one. -/
theorem keeps_of_eq {P : List Part} {R : List Field} {s t u : State} (e : t = u) (h : Keeps P R s t) : Keeps P R s u := e ▸ h

/-- What a bind that succeeds did. -/
theorem bind_ok {ε α β : Type} {m : Except ε α} {f : α → Except ε β} {r : β} (h : (m >>= f) = .ok r) :
    ∃ a, m = .ok a ∧ f a = .ok r := by
  cases m with
  | error e => cases h
  | ok a => exact ⟨a, rfl, h⟩

/-- A proof for each channel. -/
theorem chan_cases {motive : Chan → Prop} (h0 : motive 0) (h1 : motive 1) (h2 : motive 2) (h3 : motive 3) (n : Chan) : motive n := by
  match n with
  | 0 => exact h0
  | 1 => exact h1
  | 2 => exact h2
  | 3 => exact h3

theorem mget_mput_ne {α : Type} (d : Nat → α) (m : List (Nat × α)) (k a : Nat) (v : α) (h : a ≠ k) :
    mget d (mput m k v) a = mget d m a := by
  induction m with
  | nil => simp [mput, mget, Ne.symm h]
  | cons e m ih =>
    obtain ⟨j, w⟩ := e
    simp only [mput]
    split
    · simp [mget, ih]
    · split
      · rename_i h1 h2; subst h2; simp [mget, Ne.symm h]
      · simp [mget, Ne.symm h]

theorem mget_mdel_ne {α : Type} (d : Nat → α) (m : List (Nat × α)) (k a : Nat) (h : a ≠ k) :
    mget d (mdel m k) a = mget d m a := by
  induction m with
  | nil => rfl
  | cons e m ih =>
    obtain ⟨j, w⟩ := e
    simp only [mdel]
    split
    · rename_i h1; subst h1; simp [mget, Ne.symm h, ih]
    · simp [mget, ih]

theorem mget_mset_ne {α : Type} [DecidableEq α] (d : Nat → α) (m : List (Nat × α)) (k a : Nat) (v : α) (h : a ≠ k) :
    mget d (mset d m k v) a = mget d m a := by
  unfold mset; split
  · exact mget_mdel_ne d m k a h
  · exact mget_mput_ne d m k a v h

theorem mget_mput {α : Type} (d : Nat → α) (m : List (Nat × α)) (k : Nat) (v : α) : mget d (mput m k v) k = v := by
  induction m with
  | nil => simp [mput, mget]
  | cons e m ih =>
    obtain ⟨j, w⟩ := e
    simp only [mput]
    split
    · rename_i h1; simp [mget, Nat.ne_of_lt h1, ih]
    · split <;> simp [mget]

theorem mget_mdel {α : Type} (d : Nat → α) (m : List (Nat × α)) (k : Nat) : mget d (mdel m k) k = d k := by
  induction m with
  | nil => rfl
  | cons e m ih =>
    obtain ⟨j, w⟩ := e
    simp only [mdel]
    split
    · exact ih
    · rename_i h1; simp [mget, h1, ih]

theorem mget_mset {α : Type} [DecidableEq α] (d : Nat → α) (m : List (Nat × α)) (k : Nat) (v : α) : mget d (mset d m k v) k = v := by
  unfold mset; split
  · rename_i h; rw [mget_mdel, h]
  · exact mget_mput d m k v

@[simp] theorem rd_wr (s : State) (a : Nat) (v : Word) : (s.wr a v).rd a = v := by
  simp [State.rd, State.wr, mget_mset]

theorem rd_wr_ne (s : State) (a b : Nat) (v : Word) (h : b ≠ a) : (s.wr a v).rd b = s.rd b := by
  simp [State.rd, State.wr, mget_mset_ne _ _ _ _ _ h]

theorem nput_testBit (v lo len x i : Nat) :
    (nput v lo len x).testBit i = if lo ≤ i ∧ i < lo + len then x.testBit (i - lo) else v.testBit i := by
  have h4 : nput v lo len x = (v / 2 ^ (lo + len)) * 2 ^ (lo + len) + (x % 2 ^ len) * 2 ^ lo + v % 2 ^ lo := by
    have h1 : v = 2 ^ lo * (v / 2 ^ lo) + v % 2 ^ lo := (Nat.div_add_mod v (2 ^ lo)).symm
    have h2 : v / 2 ^ lo = 2 ^ len * (v / 2 ^ lo / 2 ^ len) + v / 2 ^ lo % 2 ^ len := (Nat.div_add_mod _ _).symm
    have h3 : v / 2 ^ lo / 2 ^ len = v / 2 ^ (lo + len) := by rw [Nat.div_div_eq_div_mul, pow_add]
    have h5 : v = (v / 2 ^ (lo + len)) * 2 ^ (lo + len) + nbits v lo len * 2 ^ lo + v % 2 ^ lo := by
      conv_lhs => rw [h1, h2, h3]
      rw [nbits, pow_add]; ring
    unfold nput
    omega
  have a : v % 2 ^ lo < 2 ^ lo := Nat.mod_lt _ (Nat.two_pow_pos lo)
  have b : (x % 2 ^ len) * 2 ^ lo + v % 2 ^ lo < 2 ^ (lo + len) := by
    have hx : x % 2 ^ len < 2 ^ len := Nat.mod_lt _ (Nat.two_pow_pos len)
    calc (x % 2 ^ len) * 2 ^ lo + v % 2 ^ lo < (x % 2 ^ len) * 2 ^ lo + 2 ^ lo := by omega
      _ = (x % 2 ^ len + 1) * 2 ^ lo := by ring
      _ ≤ 2 ^ len * 2 ^ lo := Nat.mul_le_mul_right _ hx
      _ = 2 ^ (lo + len) := by rw [pow_add]; ring
  rw [h4, Nat.add_assoc, Nat.mul_comm (v / 2 ^ (lo + len)), Nat.testBit_two_pow_mul_add _ b,
    Nat.mul_comm (x % 2 ^ len), Nat.testBit_two_pow_mul_add _ a]
  by_cases h1 : i < lo
  · have : i < lo + len := by omega
    simp [h1, this, Nat.testBit_mod_two_pow, Nat.not_le.2 h1]
  · by_cases h2 : i < lo + len
    · have h3 : lo ≤ i := by omega
      simp [h1, h2, h3, Nat.testBit_mod_two_pow]; omega
    · simp [h2, Nat.testBit_div_two_pow]; congr 1; omega

theorem getLsbD_wput (w : Word) (lo len x i : Nat) (h : ¬ (lo ≤ i ∧ i < lo + len)) : (wput w lo len x).getLsbD i = w.getLsbD i := by
  by_cases hi : i < 32
  · rw [wput, BitVec.getLsbD_ofNat, nput_testBit, if_neg h]; simp [hi, BitVec.getLsbD]
  · rw [BitVec.getLsbD_of_ge _ _ (by omega), BitVec.getLsbD_of_ge _ _ (by omega)]

theorem State_wr_keeps (s : State) (a : Nat) (v : Word) : Keeps [] [⟨a, 0, 32⟩] s (s.wr a v) := by
  refine ⟨rfl, fun p hn hp => ?_, fun _ b i hb => ?_⟩
  · cases p <;> simp_all [Part.same, State.wr]
  · by_cases e : b = a
    · have h := hb _ List.mem_cons_self
      by_cases hi : i < 32
      · simp [inField, e, hi] at h
      · rw [BitVec.getLsbD_of_ge _ _ (by omega), BitVec.getLsbD_of_ge _ _ (by omega)]
    · rw [rd_wr_ne s a b v e]

theorem State_put_keeps (s : State) (f : Field) (v : Nat) : Keeps [] [f] s (s.put f v) := by
  refine ⟨rfl, fun p hn hp => ?_, fun _ b i hb => ?_⟩
  · cases p <;> simp_all [Part.same, State.put, State.wr]
  · by_cases e : b = f.addr
    · have h := hb _ List.mem_cons_self
      subst e
      rw [State.put, rd_wr]
      refine getLsbD_wput _ _ _ _ _ (fun k => ?_)
      simp [inField, k] at h
    · rw [State.put, rd_wr_ne _ _ _ _ e]

theorem State_putb_keeps (s : State) (f : Field) (b : Bool) : Keeps [] [f] s (s.putb f b) := State_put_keeps s f _
theorem State_bump_keeps (s : State) (f : Field) (n : Nat) : Keeps [] [f] s (s.bump f n) := State_put_keeps s f _

end Sys2Proof.Laws
end

