-- ==== Sys2Proof/Laws/Memory.lean ====
section
/-!
SUPPORT. Laws of the sparse maps and of the memories: a read after a write, other entries kept, and the canonical form kept.
-/
namespace Sys2Proof.Laws

open Sys2Proof.Machine

theorem mfind_mput {α : Type} (m : List (Nat × α)) (k : Nat) (v : α) : mfind (mput m k v) k = some v := by
  induction m with
  | nil => simp [mput, mfind]
  | cons e t ih =>
    obtain ⟨j, w⟩ := e
    simp only [mput]
    split
    · simp [mfind, ih, Nat.ne_of_lt ‹_›]
    · split <;> simp [mfind]

theorem mfind_mput_ne {α : Type} (m : List (Nat × α)) (k a : Nat) (v : α) (h : a ≠ k) : mfind (mput m k v) a = mfind m a := by
  induction m with
  | nil => simp [mput, mfind, Ne.symm h]
  | cons e t ih =>
    obtain ⟨j, w⟩ := e
    simp only [mput]
    split
    · simp [mfind, ih]
    · split
      · subst_vars; simp [mfind, Ne.symm h]
      · simp [mfind, Ne.symm h]

theorem mfind_mdel {α : Type} (m : List (Nat × α)) (k : Nat) : mfind (mdel m k) k = none := by
  induction m with
  | nil => rfl
  | cons e t ih =>
    obtain ⟨j, w⟩ := e
    simp only [mdel]
    split
    · exact ih
    · simp [mfind, ih, ‹¬_›]

theorem mrising_mono {α : Type} (m : List (Nat × α)) (a b : Nat) (h : a ≤ b) (r : mrising b m = true) : mrising a m = true := by
  cases m with
  | nil => rfl
  | cons e t => obtain ⟨j, w⟩ := e; simp [mrising] at r ⊢; exact ⟨by omega, r.2⟩

theorem mrising_mput {α : Type} (m : List (Nat × α)) (k b : Nat) (v : α) (hb : b ≤ k) (r : mrising b m = true) :
    mrising b (mput m k v) = true := by
  induction m generalizing b with
  | nil => simp [mput, mrising, hb]
  | cons e t ih =>
    obtain ⟨j, w⟩ := e
    simp [mrising] at r
    simp only [mput]
    split
    · simp [mrising, r.1, ih (j + 1) (by omega) r.2]
    · split
      · subst_vars; simp [mrising, r.1, r.2]
      · simp [mrising, hb, r.2]; omega

theorem mrising_filter {α : Type} (m : List (Nat × α)) (p : Nat × α → Bool) (b : Nat) (r : mrising b m = true) :
    mrising b (m.filter p) = true := by
  induction m generalizing b with
  | nil => rfl
  | cons e t ih =>
    obtain ⟨j, w⟩ := e
    simp [mrising] at r
    simp only [List.filter_cons]
    split
    · simp [mrising, r.1, ih (j + 1) r.2]
    · exact ih b (mrising_mono t b (j + 1) (by omega) r.2)

theorem mrising_mdel {α : Type} (m : List (Nat × α)) (k b : Nat) (r : mrising b m = true) : mrising b (mdel m k) = true := by
  induction m generalizing b with
  | nil => rfl
  | cons e t ih =>
    obtain ⟨j, w⟩ := e
    simp [mrising] at r
    simp only [mdel]
    split
    · exact ih b (mrising_mono t b (j + 1) (by omega) r.2)
    · simp [mrising, r.1, ih (j + 1) r.2]

theorem mlean_mput {α : Type} [DecidableEq α] (d : Nat → α) (m : List (Nat × α)) (k : Nat) (v : α) (hv : v ≠ d k)
    (r : mlean d m = true) : mlean d (mput m k v) = true := by
  induction m with
  | nil => simp [mput, mlean, hv]
  | cons e t ih =>
    obtain ⟨j, w⟩ := e
    simp [mlean] at r
    simp only [mput]
    split
    · simp [mlean, r.1, ih r.2]
    · split <;> simp [mlean, hv, r.1, r.2]

theorem mlean_mdel {α : Type} [DecidableEq α] (d : Nat → α) (m : List (Nat × α)) (k : Nat) (r : mlean d m = true) :
    mlean d (mdel m k) = true := by
  induction m with
  | nil => rfl
  | cons e t ih =>
    obtain ⟨j, w⟩ := e
    simp [mlean] at r
    simp only [mdel]
    split
    · exact ih r.2
    · simp [mlean, r.1, ih r.2]

/-- A table in canonical form stays so when a key is set. -/
theorem mwf_mset {α : Type} [DecidableEq α] (d : Nat → α) (m : List (Nat × α)) (k : Nat) (v : α) (h : mwf d m = true) :
    mwf d (mset d m k v) = true := by
  simp [mwf] at h ⊢
  unfold mset
  split
  · exact ⟨mrising_mdel m k 0 h.1, mlean_mdel d m k h.2⟩
  · exact ⟨mrising_mput m k 0 v (Nat.zero_le k) h.1, mlean_mput d m k v ‹_› h.2⟩

/-- A register write keeps the register table's form. -/
theorem wr_wf (s : State) (a : Nat) (v : Word) (h : mwf regReset s.regs = true) : mwf regReset (s.wr a v).regs = true :=
  mwf_mset regReset s.regs a v h

/-- A field write keeps the register table's form. -/
theorem put_wf (s : State) (f : Field) (v : Nat) (h : mwf regReset s.regs = true) : mwf regReset (s.put f v).regs = true :=
  wr_wf s _ _ h

/-- An SRAM word written keeps the memories' form. -/
theorem sramPut_wf (s : State) (a : Nat) (v : Word) (h : Memory.wf s.mem = true) : Memory.wf (s.sramPut a v).mem = true := by
  unfold State.sramPut
  split
  · simp [Memory.wf] at h ⊢; exact ⟨mrising_mput _ _ 0 _ (Nat.zero_le _) h.1, h.2⟩
  · exact h

/-- A DRAM code word stored keeps the memories' form. -/
theorem dramSet_wf (s : State) (a : Nat) (c : DramCell) (h : Memory.wf s.mem = true) : Memory.wf (s.dramSet a c).mem = true := by
  simp [Memory.wf, State.dramSet] at h ⊢; exact ⟨h.1, mrising_mput _ _ 0 _ (Nat.zero_le _) h.2⟩

theorem dramPut_wf (s : State) (a : Nat) (d : BitVec 64) (h : Memory.wf s.mem = true) : Memory.wf (s.dramPut a d).mem = true :=
  dramSet_wf s a _ h

/-- The start of a zero fill keeps the memories' form. -/
theorem zeroFill_wf (s : State) (h : Memory.wf s.mem = true) : Memory.wf s.zeroFill.mem = true := by
  unfold State.zeroFill
  split
  · exact h
  · simp [Memory.wf] at h ⊢; exact ⟨h.1, mrising_filter _ _ 0 h.2⟩

theorem zeros_wf (n a : Nat) (s : State) (h : Memory.wf s.mem = true) : Memory.wf (State.zeros n a s).mem = true := by
  induction n generalizing a s with
  | zero => exact h
  | succ n ih => exact ih (a + 1) _ (dramPut_wf s a 0 h)

/-- The memories of the state after reset have the form. -/
theorem reset_memory_wf : Memory.wf State.reset.mem = true := by decide

/-- An SRAM word reads as what was written to it. -/
theorem sramPut_read (s : State) (a : Nat) (v : Word) (h : inSram a = true) :
    mfind (s.sramPut a v).mem.sram (a / 4) = some (some v) := by
  simp [State.sramPut, h, mfind_mput]

/-- A write of an SRAM word leaves every other word as it was. -/
theorem sramPut_other (s : State) (a k : Nat) (v : Word) (h : k ≠ a / 4) :
    mfind (s.sramPut a v).mem.sram k = mfind s.mem.sram k := by
  unfold State.sramPut
  split
  · exact mfind_mput_ne _ _ _ _ h
  · rfl

/-- A DRAM code word reads as what was stored. -/
theorem dramSet_read (s : State) (a : Nat) (c : DramCell) : mfind (s.dramSet a c).mem.dram a = some c := mfind_mput _ _ _

theorem dramSet_other (s : State) (a k : Nat) (c : DramCell) (h : k ≠ a) :
    mfind (s.dramSet a c).mem.dram k = mfind s.mem.dram k := mfind_mput_ne _ _ _ _ h

end Sys2Proof.Laws
end

