-- ==== Sys2Proof/Laws/Regs.lean ====
section
/-!
SUPPORT. Laws of fields: what a field reads after a field is written, an event raised, or a shared operation run.
-/
namespace Sys2Proof.Laws

open Sys2Proof.Machine Sys2Proof.Safety

theorem nbits_testBit (v lo len i : Nat) : (nbits v lo len).testBit i = (decide (i < len) && v.testBit (lo + i)) := by
  rw [nbits, Nat.testBit_mod_two_pow, Nat.testBit_div_two_pow, Nat.add_comm i lo]

theorem nbits_nput (v lo len x : Nat) : nbits (nput v lo len x) lo len = x % 2 ^ len := by
  apply Nat.eq_of_testBit_eq; intro i
  rw [nbits_testBit, nput_testBit, Nat.testBit_mod_two_pow]
  by_cases h : i < len <;> simp [h]

theorem nbits_nput_other (v lo len x lo2 len2 : Nat) (h : lo + len ≤ lo2 ∨ lo2 + len2 ≤ lo) :
    nbits (nput v lo len x) lo2 len2 = nbits v lo2 len2 := by
  apply Nat.eq_of_testBit_eq; intro i
  rw [nbits_testBit, nbits_testBit, nput_testBit]
  by_cases hi : i < len2
  · have : ¬ (lo ≤ lo2 + i ∧ lo2 + i < lo + len) := by omega
    simp [this]
  · simp [hi]

theorem nput_lt (v lo len x : Nat) (hv : v < 2 ^ 32) (h : lo + len ≤ 32) : nput v lo len x < 2 ^ 32 := by
  apply Nat.lt_pow_two_of_testBit; intro i hi
  rw [nput_testBit, if_neg (by omega)]
  exact Nat.testBit_lt_two_pow (lt_of_lt_of_le hv (Nat.pow_le_pow_right (by decide) hi))

theorem wfield_wput (w : Word) (lo len x : Nat) (h : lo + len ≤ 32) : wfield (wput w lo len x) lo len = x % 2 ^ len := by
  rw [wfield, wput, BitVec.toNat_ofNat, Nat.mod_eq_of_lt (nput_lt _ _ _ _ w.isLt h), nbits_nput]

theorem wfield_wput_other (w : Word) (lo len x lo2 len2 : Nat) (h : lo + len ≤ 32) (d : lo + len ≤ lo2 ∨ lo2 + len2 ≤ lo) :
    wfield (wput w lo len x) lo2 len2 = wfield w lo2 len2 := by
  rw [wfield, wput, BitVec.toNat_ofNat, Nat.mod_eq_of_lt (nput_lt _ _ _ _ w.isLt h), nbits_nput_other _ _ _ _ _ _ d, wfield]

/-- The field lies in its word. -/
def Fits (f : Field) : Bool := decide (f.lo + f.len ≤ 32)

/-- Two fields share no bit. -/
def Apart (f g : Field) : Bool := decide (f.addr ≠ g.addr) || decide (f.lo + f.len ≤ g.lo) || decide (g.lo + g.len ≤ f.lo)

theorem get_put (s : State) (f : Field) (v : Nat) (h : Fits f = true) : (s.put f v).get f = v % 2 ^ f.len := by
  simp only [Fits, decide_eq_true_eq] at h
  rw [State.put, State.get, rd_wr, wfield_wput _ _ _ _ h]

theorem get_put_other (s : State) (f g : Field) (v : Nat) (h : Fits f = true) (d : Apart f g = true) :
    (s.put f v).get g = s.get g := by
  simp only [Fits, Apart, Bool.or_eq_true, decide_eq_true_eq] at h d
  by_cases e : g.addr = f.addr
  · rw [State.put, State.get, e, rd_wr, wfield_wput_other _ _ _ _ _ _ h (by simp [e] at d; exact d), State.get, e]
  · rw [State.put, State.get, rd_wr_ne _ _ _ _ e, State.get]

theorem flag_putb (s : State) (f : Field) (b : Bool) (h : Fits f = true) (l : f.len = 1) : (s.putb f b).flag f = b := by
  rw [State.flag, State.putb, get_put _ _ _ h, l]
  cases b <;> rfl

theorem get_putb (s : State) (f : Field) (b : Bool) (h : Fits f = true) (l : f.len = 1) : (s.putb f b).get f = b2n b := by
  rw [State.putb, get_put _ _ _ h, l]
  cases b <;> rfl

theorem get_putb_other (s : State) (f g : Field) (b : Bool) (h : Fits f = true) (d : Apart f g = true) :
    (s.putb f b).get g = s.get g := get_put_other s f g _ h d

theorem flag_putb_other (s : State) (f g : Field) (b : Bool) (h : Fits f = true) (d : Apart f g = true) :
    (s.putb f b).flag g = s.flag g := by
  rw [State.flag, get_putb_other _ _ _ _ h d, State.flag]

theorem flag_put_other (s : State) (f g : Field) (v : Nat) (h : Fits f = true) (d : Apart f g = true) :
    (s.put f v).flag g = s.flag g := by
  rw [State.flag, get_put_other _ _ _ _ h d, State.flag]

theorem get_bump (s : State) (f : Field) (n : Nat) (h : Fits f = true) : (s.bump f n).get f = satAdd f.len (s.get f) n := by
  rw [State.bump, get_put _ _ _ h]
  apply Nat.mod_eq_of_lt
  unfold satAdd
  have : 0 < 2 ^ f.len := Nat.two_pow_pos _
  split <;> omega

theorem get_bump_other (s : State) (f g : Field) (n : Nat) (h : Fits f = true) (d : Apart f g = true) :
    (s.bump f n).get g = s.get g := get_put_other s f g _ h d

theorem wfield_testBit (w : Word) (lo len i : Nat) : (wfield w lo len).testBit i = (decide (i < len) && w.getLsbD (lo + i)) := by
  rw [wfield, nbits_testBit]; rfl

/-- A field reads the same after an operation that keeps its bits. -/
theorem keeps_get {P : List Part} {F : List Field} {s t : State} (k : Keeps P F s t) (g : Field) (hr : Part.regs ∉ P)
    (ha : F.all (fun f => Apart f g) = true) : t.get g = s.get g := by
  apply Nat.eq_of_testBit_eq; intro i
  rw [State.get, State.get, wfield_testBit, wfield_testBit]
  by_cases hi : i < g.len
  · rw [k.reg hr g.addr (g.lo + i) (fun f hf => ?_)]
    have h := List.all_eq_true.1 ha f hf
    simp only [Apart, Bool.or_eq_true, decide_eq_true_eq, ne_eq] at h
    simp only [inField, Bool.and_eq_false_iff, decide_eq_false_iff_not]
    omega
  · simp [hi]

theorem keeps_flag {P : List Part} {F : List Field} {s t : State} (k : Keeps P F s t) (g : Field) (hr : Part.regs ∉ P)
    (ha : F.all (fun f => Apart f g) = true) : t.flag g = s.flag g := by
  rw [State.flag, keeps_get k g hr ha, State.flag]

/-- A register reads the same after an operation that keeps it. -/
theorem keeps_rd {P : List Part} {F : List Field} {s t : State} (k : Keeps P F s t) (a : Nat) (hr : Part.regs ∉ P)
    (ha : F.all (fun f => decide (f.addr ≠ a)) = true) : t.rd a = s.rd a := by
  apply BitVec.eq_of_getLsbD_eq; intro i _
  refine k.reg hr a i (fun f hf => ?_)
  have h := List.all_eq_true.1 ha f hf
  simp only [decide_eq_true_eq] at h
  simp [inField, h]

/-- A state that differs in other parts only reads its fields the same. -/
theorem get_of_regs {s t : State} (h : t.regs = s.regs) (f : Field) : t.get f = s.get f := by
  simp [State.get, State.rd, h]

end Sys2Proof.Laws
end

