-- ==== Sys2Proof/Laws/State.lean ====
section
/-!
SUPPORT. What each update of the state leaves as it was, field by field, so that no later proof unfolds a record update.
-/
namespace Sys2Proof.Laws

open Sys2Proof.Machine

@[simp] theorem wr_pending (s : State) (a : Nat) (v : Word) : (s.wr a v).pending = s.pending := rfl
@[simp] theorem wr_freeCtr (s : State) (a : Nat) (v : Word) : (s.wr a v).freeCtr = s.freeCtr := rfl
@[simp] theorem wr_now (s : State) (a : Nat) (v : Word) : (s.wr a v).now = s.now := rfl
@[simp] theorem wr_bus (s : State) (a : Nat) (v : Word) : (s.wr a v).bus = s.bus := rfl
@[simp] theorem wr_pins (s : State) (a : Nat) (v : Word) : (s.wr a v).pins = s.pins := rfl
@[simp] theorem wr_d2d (s : State) (a : Nat) (v : Word) : (s.wr a v).d2d = s.d2d := rfl
@[simp] theorem wr_ang (s : State) (a : Nat) (v : Word) : (s.wr a v).ang = s.ang := rfl
@[simp] theorem wr_sys (s : State) (a : Nat) (v : Word) : (s.wr a v).sys = s.sys := rfl
@[simp] theorem wr_rbk (s : State) (a : Nat) (v : Word) : (s.wr a v).rbk = s.rbk := rfl
@[simp] theorem wr_msqA (s : State) (a : Nat) (v : Word) : (s.wr a v).msqA = s.msqA := rfl
@[simp] theorem wr_msqB (s : State) (a : Nat) (v : Word) : (s.wr a v).msqB = s.msqB := rfl
@[simp] theorem wr_romPar (s : State) (a : Nat) (v : Word) : (s.wr a v).romPar = s.romPar := rfl
@[simp] theorem wr_ch0 (s : State) (a : Nat) (v : Word) : (s.wr a v).ch0 = s.ch0 := rfl
@[simp] theorem wr_ch1 (s : State) (a : Nat) (v : Word) : (s.wr a v).ch1 = s.ch1 := rfl
@[simp] theorem wr_ch2 (s : State) (a : Nat) (v : Word) : (s.wr a v).ch2 = s.ch2 := rfl
@[simp] theorem wr_ch3 (s : State) (a : Nat) (v : Word) : (s.wr a v).ch3 = s.ch3 := rfl
@[simp] theorem wr_wrpA (s : State) (a : Nat) (v : Word) : (s.wr a v).wrpA = s.wrpA := rfl
@[simp] theorem wr_wrpB (s : State) (a : Nat) (v : Word) : (s.wr a v).wrpB = s.wrpB := rfl
@[simp] theorem wr_plkA (s : State) (a : Nat) (v : Word) : (s.wr a v).plkA = s.plkA := rfl
@[simp] theorem wr_plkB (s : State) (a : Nat) (v : Word) : (s.wr a v).plkB = s.plkB := rfl
@[simp] theorem wr_lpe (s : State) (a : Nat) (v : Word) : (s.wr a v).lpe = s.lpe := rfl
@[simp] theorem wr_spn (s : State) (a : Nat) (v : Word) : (s.wr a v).spn = s.spn := rfl
@[simp] theorem wr_pwr (s : State) (a : Nat) (v : Word) : (s.wr a v).pwr = s.pwr := rfl
@[simp] theorem wr_thm (s : State) (a : Nat) (v : Word) : (s.wr a v).thm = s.thm := rfl
@[simp] theorem wr_mem (s : State) (a : Nat) (v : Word) : (s.wr a v).mem = s.mem := rfl
@[simp] theorem wr_buf (s : State) (a : Nat) (v : Word) : (s.wr a v).buf = s.buf := rfl
@[simp] theorem wr_cph (s : State) (a : Nat) (v : Word) : (s.wr a v).cph = s.cph := rfl
@[simp] theorem wr_hwd (s : State) (a : Nat) (v : Word) : (s.wr a v).hwd = s.hwd := rfl
@[simp] theorem wr_ccx (s : State) (a : Nat) (v : Word) : (s.wr a v).ccx = s.ccx := rfl
@[simp] theorem wr_host (s : State) (a : Nat) (v : Word) : (s.wr a v).host = s.host := rfl
@[simp] theorem wr_apc (s : State) (a : Nat) (v : Word) : (s.wr a v).apc = s.apc := rfl
@[simp] theorem wr_xsp (s : State) (a : Nat) (v : Word) : (s.wr a v).xsp = s.xsp := rfl
@[simp] theorem wr_dbg (s : State) (a : Nat) (v : Word) : (s.wr a v).dbg = s.dbg := rfl
@[simp] theorem wr_vale (s : State) (a : Nat) (v : Word) : (s.wr a v).vale = s.vale := rfl

@[simp] theorem put_pending (s : State) (f : Field) (v : Nat) : (s.put f v).pending = s.pending := rfl
@[simp] theorem put_freeCtr (s : State) (f : Field) (v : Nat) : (s.put f v).freeCtr = s.freeCtr := rfl
@[simp] theorem put_now (s : State) (f : Field) (v : Nat) : (s.put f v).now = s.now := rfl
@[simp] theorem put_bus (s : State) (f : Field) (v : Nat) : (s.put f v).bus = s.bus := rfl
@[simp] theorem put_pins (s : State) (f : Field) (v : Nat) : (s.put f v).pins = s.pins := rfl
@[simp] theorem put_d2d (s : State) (f : Field) (v : Nat) : (s.put f v).d2d = s.d2d := rfl
@[simp] theorem put_ang (s : State) (f : Field) (v : Nat) : (s.put f v).ang = s.ang := rfl
@[simp] theorem put_sys (s : State) (f : Field) (v : Nat) : (s.put f v).sys = s.sys := rfl
@[simp] theorem put_rbk (s : State) (f : Field) (v : Nat) : (s.put f v).rbk = s.rbk := rfl
@[simp] theorem put_msqA (s : State) (f : Field) (v : Nat) : (s.put f v).msqA = s.msqA := rfl
@[simp] theorem put_msqB (s : State) (f : Field) (v : Nat) : (s.put f v).msqB = s.msqB := rfl
@[simp] theorem put_romPar (s : State) (f : Field) (v : Nat) : (s.put f v).romPar = s.romPar := rfl
@[simp] theorem put_ch0 (s : State) (f : Field) (v : Nat) : (s.put f v).ch0 = s.ch0 := rfl
@[simp] theorem put_ch1 (s : State) (f : Field) (v : Nat) : (s.put f v).ch1 = s.ch1 := rfl
@[simp] theorem put_ch2 (s : State) (f : Field) (v : Nat) : (s.put f v).ch2 = s.ch2 := rfl
@[simp] theorem put_ch3 (s : State) (f : Field) (v : Nat) : (s.put f v).ch3 = s.ch3 := rfl
@[simp] theorem put_wrpA (s : State) (f : Field) (v : Nat) : (s.put f v).wrpA = s.wrpA := rfl
@[simp] theorem put_wrpB (s : State) (f : Field) (v : Nat) : (s.put f v).wrpB = s.wrpB := rfl
@[simp] theorem put_plkA (s : State) (f : Field) (v : Nat) : (s.put f v).plkA = s.plkA := rfl
@[simp] theorem put_plkB (s : State) (f : Field) (v : Nat) : (s.put f v).plkB = s.plkB := rfl
@[simp] theorem put_lpe (s : State) (f : Field) (v : Nat) : (s.put f v).lpe = s.lpe := rfl
@[simp] theorem put_spn (s : State) (f : Field) (v : Nat) : (s.put f v).spn = s.spn := rfl
@[simp] theorem put_pwr (s : State) (f : Field) (v : Nat) : (s.put f v).pwr = s.pwr := rfl
@[simp] theorem put_thm (s : State) (f : Field) (v : Nat) : (s.put f v).thm = s.thm := rfl
@[simp] theorem put_mem (s : State) (f : Field) (v : Nat) : (s.put f v).mem = s.mem := rfl
@[simp] theorem put_buf (s : State) (f : Field) (v : Nat) : (s.put f v).buf = s.buf := rfl
@[simp] theorem put_cph (s : State) (f : Field) (v : Nat) : (s.put f v).cph = s.cph := rfl
@[simp] theorem put_hwd (s : State) (f : Field) (v : Nat) : (s.put f v).hwd = s.hwd := rfl
@[simp] theorem put_ccx (s : State) (f : Field) (v : Nat) : (s.put f v).ccx = s.ccx := rfl
@[simp] theorem put_host (s : State) (f : Field) (v : Nat) : (s.put f v).host = s.host := rfl
@[simp] theorem put_apc (s : State) (f : Field) (v : Nat) : (s.put f v).apc = s.apc := rfl
@[simp] theorem put_xsp (s : State) (f : Field) (v : Nat) : (s.put f v).xsp = s.xsp := rfl
@[simp] theorem put_dbg (s : State) (f : Field) (v : Nat) : (s.put f v).dbg = s.dbg := rfl
@[simp] theorem put_vale (s : State) (f : Field) (v : Nat) : (s.put f v).vale = s.vale := rfl

@[simp] theorem putb_pending (s : State) (f : Field) (b : Bool) : (s.putb f b).pending = s.pending := rfl
@[simp] theorem putb_freeCtr (s : State) (f : Field) (b : Bool) : (s.putb f b).freeCtr = s.freeCtr := rfl
@[simp] theorem putb_now (s : State) (f : Field) (b : Bool) : (s.putb f b).now = s.now := rfl
@[simp] theorem putb_bus (s : State) (f : Field) (b : Bool) : (s.putb f b).bus = s.bus := rfl
@[simp] theorem putb_pins (s : State) (f : Field) (b : Bool) : (s.putb f b).pins = s.pins := rfl
@[simp] theorem putb_d2d (s : State) (f : Field) (b : Bool) : (s.putb f b).d2d = s.d2d := rfl
@[simp] theorem putb_ang (s : State) (f : Field) (b : Bool) : (s.putb f b).ang = s.ang := rfl
@[simp] theorem putb_sys (s : State) (f : Field) (b : Bool) : (s.putb f b).sys = s.sys := rfl
@[simp] theorem putb_rbk (s : State) (f : Field) (b : Bool) : (s.putb f b).rbk = s.rbk := rfl
@[simp] theorem putb_msqA (s : State) (f : Field) (b : Bool) : (s.putb f b).msqA = s.msqA := rfl
@[simp] theorem putb_msqB (s : State) (f : Field) (b : Bool) : (s.putb f b).msqB = s.msqB := rfl
@[simp] theorem putb_romPar (s : State) (f : Field) (b : Bool) : (s.putb f b).romPar = s.romPar := rfl
@[simp] theorem putb_ch0 (s : State) (f : Field) (b : Bool) : (s.putb f b).ch0 = s.ch0 := rfl
@[simp] theorem putb_ch1 (s : State) (f : Field) (b : Bool) : (s.putb f b).ch1 = s.ch1 := rfl
@[simp] theorem putb_ch2 (s : State) (f : Field) (b : Bool) : (s.putb f b).ch2 = s.ch2 := rfl
@[simp] theorem putb_ch3 (s : State) (f : Field) (b : Bool) : (s.putb f b).ch3 = s.ch3 := rfl
@[simp] theorem putb_wrpA (s : State) (f : Field) (b : Bool) : (s.putb f b).wrpA = s.wrpA := rfl
@[simp] theorem putb_wrpB (s : State) (f : Field) (b : Bool) : (s.putb f b).wrpB = s.wrpB := rfl
@[simp] theorem putb_plkA (s : State) (f : Field) (b : Bool) : (s.putb f b).plkA = s.plkA := rfl
@[simp] theorem putb_plkB (s : State) (f : Field) (b : Bool) : (s.putb f b).plkB = s.plkB := rfl
@[simp] theorem putb_lpe (s : State) (f : Field) (b : Bool) : (s.putb f b).lpe = s.lpe := rfl
@[simp] theorem putb_spn (s : State) (f : Field) (b : Bool) : (s.putb f b).spn = s.spn := rfl
@[simp] theorem putb_pwr (s : State) (f : Field) (b : Bool) : (s.putb f b).pwr = s.pwr := rfl
@[simp] theorem putb_thm (s : State) (f : Field) (b : Bool) : (s.putb f b).thm = s.thm := rfl
@[simp] theorem putb_mem (s : State) (f : Field) (b : Bool) : (s.putb f b).mem = s.mem := rfl
@[simp] theorem putb_buf (s : State) (f : Field) (b : Bool) : (s.putb f b).buf = s.buf := rfl
@[simp] theorem putb_cph (s : State) (f : Field) (b : Bool) : (s.putb f b).cph = s.cph := rfl
@[simp] theorem putb_hwd (s : State) (f : Field) (b : Bool) : (s.putb f b).hwd = s.hwd := rfl
@[simp] theorem putb_ccx (s : State) (f : Field) (b : Bool) : (s.putb f b).ccx = s.ccx := rfl
@[simp] theorem putb_host (s : State) (f : Field) (b : Bool) : (s.putb f b).host = s.host := rfl
@[simp] theorem putb_apc (s : State) (f : Field) (b : Bool) : (s.putb f b).apc = s.apc := rfl
@[simp] theorem putb_xsp (s : State) (f : Field) (b : Bool) : (s.putb f b).xsp = s.xsp := rfl
@[simp] theorem putb_dbg (s : State) (f : Field) (b : Bool) : (s.putb f b).dbg = s.dbg := rfl
@[simp] theorem putb_vale (s : State) (f : Field) (b : Bool) : (s.putb f b).vale = s.vale := rfl

@[simp] theorem bump_pending (s : State) (f : Field) (n : Nat) : (s.bump f n).pending = s.pending := rfl
@[simp] theorem bump_freeCtr (s : State) (f : Field) (n : Nat) : (s.bump f n).freeCtr = s.freeCtr := rfl
@[simp] theorem bump_now (s : State) (f : Field) (n : Nat) : (s.bump f n).now = s.now := rfl
@[simp] theorem bump_bus (s : State) (f : Field) (n : Nat) : (s.bump f n).bus = s.bus := rfl
@[simp] theorem bump_pins (s : State) (f : Field) (n : Nat) : (s.bump f n).pins = s.pins := rfl
@[simp] theorem bump_d2d (s : State) (f : Field) (n : Nat) : (s.bump f n).d2d = s.d2d := rfl
@[simp] theorem bump_ang (s : State) (f : Field) (n : Nat) : (s.bump f n).ang = s.ang := rfl
@[simp] theorem bump_sys (s : State) (f : Field) (n : Nat) : (s.bump f n).sys = s.sys := rfl
@[simp] theorem bump_rbk (s : State) (f : Field) (n : Nat) : (s.bump f n).rbk = s.rbk := rfl
@[simp] theorem bump_msqA (s : State) (f : Field) (n : Nat) : (s.bump f n).msqA = s.msqA := rfl
@[simp] theorem bump_msqB (s : State) (f : Field) (n : Nat) : (s.bump f n).msqB = s.msqB := rfl
@[simp] theorem bump_romPar (s : State) (f : Field) (n : Nat) : (s.bump f n).romPar = s.romPar := rfl
@[simp] theorem bump_ch0 (s : State) (f : Field) (n : Nat) : (s.bump f n).ch0 = s.ch0 := rfl
@[simp] theorem bump_ch1 (s : State) (f : Field) (n : Nat) : (s.bump f n).ch1 = s.ch1 := rfl
@[simp] theorem bump_ch2 (s : State) (f : Field) (n : Nat) : (s.bump f n).ch2 = s.ch2 := rfl
@[simp] theorem bump_ch3 (s : State) (f : Field) (n : Nat) : (s.bump f n).ch3 = s.ch3 := rfl
@[simp] theorem bump_wrpA (s : State) (f : Field) (n : Nat) : (s.bump f n).wrpA = s.wrpA := rfl
@[simp] theorem bump_wrpB (s : State) (f : Field) (n : Nat) : (s.bump f n).wrpB = s.wrpB := rfl
@[simp] theorem bump_plkA (s : State) (f : Field) (n : Nat) : (s.bump f n).plkA = s.plkA := rfl
@[simp] theorem bump_plkB (s : State) (f : Field) (n : Nat) : (s.bump f n).plkB = s.plkB := rfl
@[simp] theorem bump_lpe (s : State) (f : Field) (n : Nat) : (s.bump f n).lpe = s.lpe := rfl
@[simp] theorem bump_spn (s : State) (f : Field) (n : Nat) : (s.bump f n).spn = s.spn := rfl
@[simp] theorem bump_pwr (s : State) (f : Field) (n : Nat) : (s.bump f n).pwr = s.pwr := rfl
@[simp] theorem bump_thm (s : State) (f : Field) (n : Nat) : (s.bump f n).thm = s.thm := rfl
@[simp] theorem bump_mem (s : State) (f : Field) (n : Nat) : (s.bump f n).mem = s.mem := rfl
@[simp] theorem bump_buf (s : State) (f : Field) (n : Nat) : (s.bump f n).buf = s.buf := rfl
@[simp] theorem bump_cph (s : State) (f : Field) (n : Nat) : (s.bump f n).cph = s.cph := rfl
@[simp] theorem bump_hwd (s : State) (f : Field) (n : Nat) : (s.bump f n).hwd = s.hwd := rfl
@[simp] theorem bump_ccx (s : State) (f : Field) (n : Nat) : (s.bump f n).ccx = s.ccx := rfl
@[simp] theorem bump_host (s : State) (f : Field) (n : Nat) : (s.bump f n).host = s.host := rfl
@[simp] theorem bump_apc (s : State) (f : Field) (n : Nat) : (s.bump f n).apc = s.apc := rfl
@[simp] theorem bump_xsp (s : State) (f : Field) (n : Nat) : (s.bump f n).xsp = s.xsp := rfl
@[simp] theorem bump_dbg (s : State) (f : Field) (n : Nat) : (s.bump f n).dbg = s.dbg := rfl
@[simp] theorem bump_vale (s : State) (f : Field) (n : Nat) : (s.bump f n).vale = s.vale := rfl

@[simp] theorem setSpn_pending (s : State) (v : SpnSt) : (s.setSpn v).pending = s.pending := rfl
@[simp] theorem setSpn_freeCtr (s : State) (v : SpnSt) : (s.setSpn v).freeCtr = s.freeCtr := rfl
@[simp] theorem setSpn_now (s : State) (v : SpnSt) : (s.setSpn v).now = s.now := rfl
@[simp] theorem setSpn_regs (s : State) (v : SpnSt) : (s.setSpn v).regs = s.regs := rfl
@[simp] theorem setSpn_bus (s : State) (v : SpnSt) : (s.setSpn v).bus = s.bus := rfl
@[simp] theorem setSpn_pins (s : State) (v : SpnSt) : (s.setSpn v).pins = s.pins := rfl
@[simp] theorem setSpn_d2d (s : State) (v : SpnSt) : (s.setSpn v).d2d = s.d2d := rfl
@[simp] theorem setSpn_ang (s : State) (v : SpnSt) : (s.setSpn v).ang = s.ang := rfl
@[simp] theorem setSpn_sys (s : State) (v : SpnSt) : (s.setSpn v).sys = s.sys := rfl
@[simp] theorem setSpn_rbk (s : State) (v : SpnSt) : (s.setSpn v).rbk = s.rbk := rfl
@[simp] theorem setSpn_msqA (s : State) (v : SpnSt) : (s.setSpn v).msqA = s.msqA := rfl
@[simp] theorem setSpn_msqB (s : State) (v : SpnSt) : (s.setSpn v).msqB = s.msqB := rfl
@[simp] theorem setSpn_romPar (s : State) (v : SpnSt) : (s.setSpn v).romPar = s.romPar := rfl
@[simp] theorem setSpn_ch0 (s : State) (v : SpnSt) : (s.setSpn v).ch0 = s.ch0 := rfl
@[simp] theorem setSpn_ch1 (s : State) (v : SpnSt) : (s.setSpn v).ch1 = s.ch1 := rfl
@[simp] theorem setSpn_ch2 (s : State) (v : SpnSt) : (s.setSpn v).ch2 = s.ch2 := rfl
@[simp] theorem setSpn_ch3 (s : State) (v : SpnSt) : (s.setSpn v).ch3 = s.ch3 := rfl
@[simp] theorem setSpn_wrpA (s : State) (v : SpnSt) : (s.setSpn v).wrpA = s.wrpA := rfl
@[simp] theorem setSpn_wrpB (s : State) (v : SpnSt) : (s.setSpn v).wrpB = s.wrpB := rfl
@[simp] theorem setSpn_plkA (s : State) (v : SpnSt) : (s.setSpn v).plkA = s.plkA := rfl
@[simp] theorem setSpn_plkB (s : State) (v : SpnSt) : (s.setSpn v).plkB = s.plkB := rfl
@[simp] theorem setSpn_lpe (s : State) (v : SpnSt) : (s.setSpn v).lpe = s.lpe := rfl
@[simp] theorem setSpn_pwr (s : State) (v : SpnSt) : (s.setSpn v).pwr = s.pwr := rfl
@[simp] theorem setSpn_thm (s : State) (v : SpnSt) : (s.setSpn v).thm = s.thm := rfl
@[simp] theorem setSpn_mem (s : State) (v : SpnSt) : (s.setSpn v).mem = s.mem := rfl
@[simp] theorem setSpn_buf (s : State) (v : SpnSt) : (s.setSpn v).buf = s.buf := rfl
@[simp] theorem setSpn_cph (s : State) (v : SpnSt) : (s.setSpn v).cph = s.cph := rfl
@[simp] theorem setSpn_hwd (s : State) (v : SpnSt) : (s.setSpn v).hwd = s.hwd := rfl
@[simp] theorem setSpn_ccx (s : State) (v : SpnSt) : (s.setSpn v).ccx = s.ccx := rfl
@[simp] theorem setSpn_host (s : State) (v : SpnSt) : (s.setSpn v).host = s.host := rfl
@[simp] theorem setSpn_apc (s : State) (v : SpnSt) : (s.setSpn v).apc = s.apc := rfl
@[simp] theorem setSpn_xsp (s : State) (v : SpnSt) : (s.setSpn v).xsp = s.xsp := rfl
@[simp] theorem setSpn_dbg (s : State) (v : SpnSt) : (s.setSpn v).dbg = s.dbg := rfl
@[simp] theorem setSpn_vale (s : State) (v : SpnSt) : (s.setSpn v).vale = s.vale := rfl

@[simp] theorem setRead_pending (s : State) (i : Initiator) (v : BitVec 64) : (s.setRead i v).pending = s.pending := rfl
@[simp] theorem setRead_freeCtr (s : State) (i : Initiator) (v : BitVec 64) : (s.setRead i v).freeCtr = s.freeCtr := rfl
@[simp] theorem setRead_now (s : State) (i : Initiator) (v : BitVec 64) : (s.setRead i v).now = s.now := rfl
@[simp] theorem setRead_regs (s : State) (i : Initiator) (v : BitVec 64) : (s.setRead i v).regs = s.regs := rfl
@[simp] theorem setRead_pins (s : State) (i : Initiator) (v : BitVec 64) : (s.setRead i v).pins = s.pins := rfl
@[simp] theorem setRead_d2d (s : State) (i : Initiator) (v : BitVec 64) : (s.setRead i v).d2d = s.d2d := rfl
@[simp] theorem setRead_ang (s : State) (i : Initiator) (v : BitVec 64) : (s.setRead i v).ang = s.ang := rfl
@[simp] theorem setRead_sys (s : State) (i : Initiator) (v : BitVec 64) : (s.setRead i v).sys = s.sys := rfl
@[simp] theorem setRead_rbk (s : State) (i : Initiator) (v : BitVec 64) : (s.setRead i v).rbk = s.rbk := rfl
@[simp] theorem setRead_msqA (s : State) (i : Initiator) (v : BitVec 64) : (s.setRead i v).msqA = s.msqA := rfl
@[simp] theorem setRead_msqB (s : State) (i : Initiator) (v : BitVec 64) : (s.setRead i v).msqB = s.msqB := rfl
@[simp] theorem setRead_romPar (s : State) (i : Initiator) (v : BitVec 64) : (s.setRead i v).romPar = s.romPar := rfl
@[simp] theorem setRead_ch0 (s : State) (i : Initiator) (v : BitVec 64) : (s.setRead i v).ch0 = s.ch0 := rfl
@[simp] theorem setRead_ch1 (s : State) (i : Initiator) (v : BitVec 64) : (s.setRead i v).ch1 = s.ch1 := rfl
@[simp] theorem setRead_ch2 (s : State) (i : Initiator) (v : BitVec 64) : (s.setRead i v).ch2 = s.ch2 := rfl
@[simp] theorem setRead_ch3 (s : State) (i : Initiator) (v : BitVec 64) : (s.setRead i v).ch3 = s.ch3 := rfl
@[simp] theorem setRead_wrpA (s : State) (i : Initiator) (v : BitVec 64) : (s.setRead i v).wrpA = s.wrpA := rfl
@[simp] theorem setRead_wrpB (s : State) (i : Initiator) (v : BitVec 64) : (s.setRead i v).wrpB = s.wrpB := rfl
@[simp] theorem setRead_plkA (s : State) (i : Initiator) (v : BitVec 64) : (s.setRead i v).plkA = s.plkA := rfl
@[simp] theorem setRead_plkB (s : State) (i : Initiator) (v : BitVec 64) : (s.setRead i v).plkB = s.plkB := rfl
@[simp] theorem setRead_lpe (s : State) (i : Initiator) (v : BitVec 64) : (s.setRead i v).lpe = s.lpe := rfl
@[simp] theorem setRead_spn (s : State) (i : Initiator) (v : BitVec 64) : (s.setRead i v).spn = s.spn := rfl
@[simp] theorem setRead_pwr (s : State) (i : Initiator) (v : BitVec 64) : (s.setRead i v).pwr = s.pwr := rfl
@[simp] theorem setRead_thm (s : State) (i : Initiator) (v : BitVec 64) : (s.setRead i v).thm = s.thm := rfl
@[simp] theorem setRead_mem (s : State) (i : Initiator) (v : BitVec 64) : (s.setRead i v).mem = s.mem := rfl
@[simp] theorem setRead_buf (s : State) (i : Initiator) (v : BitVec 64) : (s.setRead i v).buf = s.buf := rfl
@[simp] theorem setRead_cph (s : State) (i : Initiator) (v : BitVec 64) : (s.setRead i v).cph = s.cph := rfl
@[simp] theorem setRead_hwd (s : State) (i : Initiator) (v : BitVec 64) : (s.setRead i v).hwd = s.hwd := rfl
@[simp] theorem setRead_ccx (s : State) (i : Initiator) (v : BitVec 64) : (s.setRead i v).ccx = s.ccx := rfl
@[simp] theorem setRead_host (s : State) (i : Initiator) (v : BitVec 64) : (s.setRead i v).host = s.host := rfl
@[simp] theorem setRead_apc (s : State) (i : Initiator) (v : BitVec 64) : (s.setRead i v).apc = s.apc := rfl
@[simp] theorem setRead_xsp (s : State) (i : Initiator) (v : BitVec 64) : (s.setRead i v).xsp = s.xsp := rfl
@[simp] theorem setRead_dbg (s : State) (i : Initiator) (v : BitVec 64) : (s.setRead i v).dbg = s.dbg := rfl
@[simp] theorem setRead_vale (s : State) (i : Initiator) (v : BitVec 64) : (s.setRead i v).vale = s.vale := rfl

@[simp] theorem dramSet_pending (s : State) (a : Nat) (c : DramCell) : (s.dramSet a c).pending = s.pending := rfl
@[simp] theorem dramSet_freeCtr (s : State) (a : Nat) (c : DramCell) : (s.dramSet a c).freeCtr = s.freeCtr := rfl
@[simp] theorem dramSet_now (s : State) (a : Nat) (c : DramCell) : (s.dramSet a c).now = s.now := rfl
@[simp] theorem dramSet_regs (s : State) (a : Nat) (c : DramCell) : (s.dramSet a c).regs = s.regs := rfl
@[simp] theorem dramSet_bus (s : State) (a : Nat) (c : DramCell) : (s.dramSet a c).bus = s.bus := rfl
@[simp] theorem dramSet_pins (s : State) (a : Nat) (c : DramCell) : (s.dramSet a c).pins = s.pins := rfl
@[simp] theorem dramSet_d2d (s : State) (a : Nat) (c : DramCell) : (s.dramSet a c).d2d = s.d2d := rfl
@[simp] theorem dramSet_ang (s : State) (a : Nat) (c : DramCell) : (s.dramSet a c).ang = s.ang := rfl
@[simp] theorem dramSet_sys (s : State) (a : Nat) (c : DramCell) : (s.dramSet a c).sys = s.sys := rfl
@[simp] theorem dramSet_rbk (s : State) (a : Nat) (c : DramCell) : (s.dramSet a c).rbk = s.rbk := rfl
@[simp] theorem dramSet_msqA (s : State) (a : Nat) (c : DramCell) : (s.dramSet a c).msqA = s.msqA := rfl
@[simp] theorem dramSet_msqB (s : State) (a : Nat) (c : DramCell) : (s.dramSet a c).msqB = s.msqB := rfl
@[simp] theorem dramSet_romPar (s : State) (a : Nat) (c : DramCell) : (s.dramSet a c).romPar = s.romPar := rfl
@[simp] theorem dramSet_ch0 (s : State) (a : Nat) (c : DramCell) : (s.dramSet a c).ch0 = s.ch0 := rfl
@[simp] theorem dramSet_ch1 (s : State) (a : Nat) (c : DramCell) : (s.dramSet a c).ch1 = s.ch1 := rfl
@[simp] theorem dramSet_ch2 (s : State) (a : Nat) (c : DramCell) : (s.dramSet a c).ch2 = s.ch2 := rfl
@[simp] theorem dramSet_ch3 (s : State) (a : Nat) (c : DramCell) : (s.dramSet a c).ch3 = s.ch3 := rfl
@[simp] theorem dramSet_wrpA (s : State) (a : Nat) (c : DramCell) : (s.dramSet a c).wrpA = s.wrpA := rfl
@[simp] theorem dramSet_wrpB (s : State) (a : Nat) (c : DramCell) : (s.dramSet a c).wrpB = s.wrpB := rfl
@[simp] theorem dramSet_plkA (s : State) (a : Nat) (c : DramCell) : (s.dramSet a c).plkA = s.plkA := rfl
@[simp] theorem dramSet_plkB (s : State) (a : Nat) (c : DramCell) : (s.dramSet a c).plkB = s.plkB := rfl
@[simp] theorem dramSet_lpe (s : State) (a : Nat) (c : DramCell) : (s.dramSet a c).lpe = s.lpe := rfl
@[simp] theorem dramSet_spn (s : State) (a : Nat) (c : DramCell) : (s.dramSet a c).spn = s.spn := rfl
@[simp] theorem dramSet_pwr (s : State) (a : Nat) (c : DramCell) : (s.dramSet a c).pwr = s.pwr := rfl
@[simp] theorem dramSet_thm (s : State) (a : Nat) (c : DramCell) : (s.dramSet a c).thm = s.thm := rfl
@[simp] theorem dramSet_buf (s : State) (a : Nat) (c : DramCell) : (s.dramSet a c).buf = s.buf := rfl
@[simp] theorem dramSet_cph (s : State) (a : Nat) (c : DramCell) : (s.dramSet a c).cph = s.cph := rfl
@[simp] theorem dramSet_hwd (s : State) (a : Nat) (c : DramCell) : (s.dramSet a c).hwd = s.hwd := rfl
@[simp] theorem dramSet_ccx (s : State) (a : Nat) (c : DramCell) : (s.dramSet a c).ccx = s.ccx := rfl
@[simp] theorem dramSet_host (s : State) (a : Nat) (c : DramCell) : (s.dramSet a c).host = s.host := rfl
@[simp] theorem dramSet_apc (s : State) (a : Nat) (c : DramCell) : (s.dramSet a c).apc = s.apc := rfl
@[simp] theorem dramSet_xsp (s : State) (a : Nat) (c : DramCell) : (s.dramSet a c).xsp = s.xsp := rfl
@[simp] theorem dramSet_dbg (s : State) (a : Nat) (c : DramCell) : (s.dramSet a c).dbg = s.dbg := rfl
@[simp] theorem dramSet_vale (s : State) (a : Nat) (c : DramCell) : (s.dramSet a c).vale = s.vale := rfl

@[simp] theorem dramPut_pending (s : State) (a : Nat) (d : BitVec 64) : (s.dramPut a d).pending = s.pending := rfl
@[simp] theorem dramPut_freeCtr (s : State) (a : Nat) (d : BitVec 64) : (s.dramPut a d).freeCtr = s.freeCtr := rfl
@[simp] theorem dramPut_now (s : State) (a : Nat) (d : BitVec 64) : (s.dramPut a d).now = s.now := rfl
@[simp] theorem dramPut_regs (s : State) (a : Nat) (d : BitVec 64) : (s.dramPut a d).regs = s.regs := rfl
@[simp] theorem dramPut_bus (s : State) (a : Nat) (d : BitVec 64) : (s.dramPut a d).bus = s.bus := rfl
@[simp] theorem dramPut_pins (s : State) (a : Nat) (d : BitVec 64) : (s.dramPut a d).pins = s.pins := rfl
@[simp] theorem dramPut_d2d (s : State) (a : Nat) (d : BitVec 64) : (s.dramPut a d).d2d = s.d2d := rfl
@[simp] theorem dramPut_ang (s : State) (a : Nat) (d : BitVec 64) : (s.dramPut a d).ang = s.ang := rfl
@[simp] theorem dramPut_sys (s : State) (a : Nat) (d : BitVec 64) : (s.dramPut a d).sys = s.sys := rfl
@[simp] theorem dramPut_rbk (s : State) (a : Nat) (d : BitVec 64) : (s.dramPut a d).rbk = s.rbk := rfl
@[simp] theorem dramPut_msqA (s : State) (a : Nat) (d : BitVec 64) : (s.dramPut a d).msqA = s.msqA := rfl
@[simp] theorem dramPut_msqB (s : State) (a : Nat) (d : BitVec 64) : (s.dramPut a d).msqB = s.msqB := rfl
@[simp] theorem dramPut_romPar (s : State) (a : Nat) (d : BitVec 64) : (s.dramPut a d).romPar = s.romPar := rfl
@[simp] theorem dramPut_ch0 (s : State) (a : Nat) (d : BitVec 64) : (s.dramPut a d).ch0 = s.ch0 := rfl
@[simp] theorem dramPut_ch1 (s : State) (a : Nat) (d : BitVec 64) : (s.dramPut a d).ch1 = s.ch1 := rfl
@[simp] theorem dramPut_ch2 (s : State) (a : Nat) (d : BitVec 64) : (s.dramPut a d).ch2 = s.ch2 := rfl
@[simp] theorem dramPut_ch3 (s : State) (a : Nat) (d : BitVec 64) : (s.dramPut a d).ch3 = s.ch3 := rfl
@[simp] theorem dramPut_wrpA (s : State) (a : Nat) (d : BitVec 64) : (s.dramPut a d).wrpA = s.wrpA := rfl
@[simp] theorem dramPut_wrpB (s : State) (a : Nat) (d : BitVec 64) : (s.dramPut a d).wrpB = s.wrpB := rfl
@[simp] theorem dramPut_plkA (s : State) (a : Nat) (d : BitVec 64) : (s.dramPut a d).plkA = s.plkA := rfl
@[simp] theorem dramPut_plkB (s : State) (a : Nat) (d : BitVec 64) : (s.dramPut a d).plkB = s.plkB := rfl
@[simp] theorem dramPut_lpe (s : State) (a : Nat) (d : BitVec 64) : (s.dramPut a d).lpe = s.lpe := rfl
@[simp] theorem dramPut_spn (s : State) (a : Nat) (d : BitVec 64) : (s.dramPut a d).spn = s.spn := rfl
@[simp] theorem dramPut_pwr (s : State) (a : Nat) (d : BitVec 64) : (s.dramPut a d).pwr = s.pwr := rfl
@[simp] theorem dramPut_thm (s : State) (a : Nat) (d : BitVec 64) : (s.dramPut a d).thm = s.thm := rfl
@[simp] theorem dramPut_buf (s : State) (a : Nat) (d : BitVec 64) : (s.dramPut a d).buf = s.buf := rfl
@[simp] theorem dramPut_cph (s : State) (a : Nat) (d : BitVec 64) : (s.dramPut a d).cph = s.cph := rfl
@[simp] theorem dramPut_hwd (s : State) (a : Nat) (d : BitVec 64) : (s.dramPut a d).hwd = s.hwd := rfl
@[simp] theorem dramPut_ccx (s : State) (a : Nat) (d : BitVec 64) : (s.dramPut a d).ccx = s.ccx := rfl
@[simp] theorem dramPut_host (s : State) (a : Nat) (d : BitVec 64) : (s.dramPut a d).host = s.host := rfl
@[simp] theorem dramPut_apc (s : State) (a : Nat) (d : BitVec 64) : (s.dramPut a d).apc = s.apc := rfl
@[simp] theorem dramPut_xsp (s : State) (a : Nat) (d : BitVec 64) : (s.dramPut a d).xsp = s.xsp := rfl
@[simp] theorem dramPut_dbg (s : State) (a : Nat) (d : BitVec 64) : (s.dramPut a d).dbg = s.dbg := rfl
@[simp] theorem dramPut_vale (s : State) (a : Nat) (d : BitVec 64) : (s.dramPut a d).vale = s.vale := rfl

@[simp] theorem xspRes_pending (s : State) (st n : Nat) : (s.xspRes st n).pending = s.pending := rfl
@[simp] theorem xspRes_freeCtr (s : State) (st n : Nat) : (s.xspRes st n).freeCtr = s.freeCtr := rfl
@[simp] theorem xspRes_now (s : State) (st n : Nat) : (s.xspRes st n).now = s.now := rfl
@[simp] theorem xspRes_regs (s : State) (st n : Nat) : (s.xspRes st n).regs = s.regs := rfl
@[simp] theorem xspRes_bus (s : State) (st n : Nat) : (s.xspRes st n).bus = s.bus := rfl
@[simp] theorem xspRes_pins (s : State) (st n : Nat) : (s.xspRes st n).pins = s.pins := rfl
@[simp] theorem xspRes_d2d (s : State) (st n : Nat) : (s.xspRes st n).d2d = s.d2d := rfl
@[simp] theorem xspRes_ang (s : State) (st n : Nat) : (s.xspRes st n).ang = s.ang := rfl
@[simp] theorem xspRes_sys (s : State) (st n : Nat) : (s.xspRes st n).sys = s.sys := rfl
@[simp] theorem xspRes_rbk (s : State) (st n : Nat) : (s.xspRes st n).rbk = s.rbk := rfl
@[simp] theorem xspRes_msqA (s : State) (st n : Nat) : (s.xspRes st n).msqA = s.msqA := rfl
@[simp] theorem xspRes_msqB (s : State) (st n : Nat) : (s.xspRes st n).msqB = s.msqB := rfl
@[simp] theorem xspRes_romPar (s : State) (st n : Nat) : (s.xspRes st n).romPar = s.romPar := rfl
@[simp] theorem xspRes_ch0 (s : State) (st n : Nat) : (s.xspRes st n).ch0 = s.ch0 := rfl
@[simp] theorem xspRes_ch1 (s : State) (st n : Nat) : (s.xspRes st n).ch1 = s.ch1 := rfl
@[simp] theorem xspRes_ch2 (s : State) (st n : Nat) : (s.xspRes st n).ch2 = s.ch2 := rfl
@[simp] theorem xspRes_ch3 (s : State) (st n : Nat) : (s.xspRes st n).ch3 = s.ch3 := rfl
@[simp] theorem xspRes_wrpA (s : State) (st n : Nat) : (s.xspRes st n).wrpA = s.wrpA := rfl
@[simp] theorem xspRes_wrpB (s : State) (st n : Nat) : (s.xspRes st n).wrpB = s.wrpB := rfl
@[simp] theorem xspRes_plkA (s : State) (st n : Nat) : (s.xspRes st n).plkA = s.plkA := rfl
@[simp] theorem xspRes_plkB (s : State) (st n : Nat) : (s.xspRes st n).plkB = s.plkB := rfl
@[simp] theorem xspRes_lpe (s : State) (st n : Nat) : (s.xspRes st n).lpe = s.lpe := rfl
@[simp] theorem xspRes_spn (s : State) (st n : Nat) : (s.xspRes st n).spn = s.spn := rfl
@[simp] theorem xspRes_pwr (s : State) (st n : Nat) : (s.xspRes st n).pwr = s.pwr := rfl
@[simp] theorem xspRes_thm (s : State) (st n : Nat) : (s.xspRes st n).thm = s.thm := rfl
@[simp] theorem xspRes_mem (s : State) (st n : Nat) : (s.xspRes st n).mem = s.mem := rfl
@[simp] theorem xspRes_buf (s : State) (st n : Nat) : (s.xspRes st n).buf = s.buf := rfl
@[simp] theorem xspRes_cph (s : State) (st n : Nat) : (s.xspRes st n).cph = s.cph := rfl
@[simp] theorem xspRes_hwd (s : State) (st n : Nat) : (s.xspRes st n).hwd = s.hwd := rfl
@[simp] theorem xspRes_ccx (s : State) (st n : Nat) : (s.xspRes st n).ccx = s.ccx := rfl
@[simp] theorem xspRes_host (s : State) (st n : Nat) : (s.xspRes st n).host = s.host := rfl
@[simp] theorem xspRes_apc (s : State) (st n : Nat) : (s.xspRes st n).apc = s.apc := rfl
@[simp] theorem xspRes_dbg (s : State) (st n : Nat) : (s.xspRes st n).dbg = s.dbg := rfl
@[simp] theorem xspRes_vale (s : State) (st n : Nat) : (s.xspRes st n).vale = s.vale := rfl

@[simp] theorem flashSet_pending (s : State) (a : Nat) (v : Byte) : (s.flashSet a v).pending = s.pending := rfl
@[simp] theorem flashSet_freeCtr (s : State) (a : Nat) (v : Byte) : (s.flashSet a v).freeCtr = s.freeCtr := rfl
@[simp] theorem flashSet_now (s : State) (a : Nat) (v : Byte) : (s.flashSet a v).now = s.now := rfl
@[simp] theorem flashSet_regs (s : State) (a : Nat) (v : Byte) : (s.flashSet a v).regs = s.regs := rfl
@[simp] theorem flashSet_bus (s : State) (a : Nat) (v : Byte) : (s.flashSet a v).bus = s.bus := rfl
@[simp] theorem flashSet_pins (s : State) (a : Nat) (v : Byte) : (s.flashSet a v).pins = s.pins := rfl
@[simp] theorem flashSet_d2d (s : State) (a : Nat) (v : Byte) : (s.flashSet a v).d2d = s.d2d := rfl
@[simp] theorem flashSet_ang (s : State) (a : Nat) (v : Byte) : (s.flashSet a v).ang = s.ang := rfl
@[simp] theorem flashSet_sys (s : State) (a : Nat) (v : Byte) : (s.flashSet a v).sys = s.sys := rfl
@[simp] theorem flashSet_rbk (s : State) (a : Nat) (v : Byte) : (s.flashSet a v).rbk = s.rbk := rfl
@[simp] theorem flashSet_msqA (s : State) (a : Nat) (v : Byte) : (s.flashSet a v).msqA = s.msqA := rfl
@[simp] theorem flashSet_msqB (s : State) (a : Nat) (v : Byte) : (s.flashSet a v).msqB = s.msqB := rfl
@[simp] theorem flashSet_romPar (s : State) (a : Nat) (v : Byte) : (s.flashSet a v).romPar = s.romPar := rfl
@[simp] theorem flashSet_ch0 (s : State) (a : Nat) (v : Byte) : (s.flashSet a v).ch0 = s.ch0 := rfl
@[simp] theorem flashSet_ch1 (s : State) (a : Nat) (v : Byte) : (s.flashSet a v).ch1 = s.ch1 := rfl
@[simp] theorem flashSet_ch2 (s : State) (a : Nat) (v : Byte) : (s.flashSet a v).ch2 = s.ch2 := rfl
@[simp] theorem flashSet_ch3 (s : State) (a : Nat) (v : Byte) : (s.flashSet a v).ch3 = s.ch3 := rfl
@[simp] theorem flashSet_wrpA (s : State) (a : Nat) (v : Byte) : (s.flashSet a v).wrpA = s.wrpA := rfl
@[simp] theorem flashSet_wrpB (s : State) (a : Nat) (v : Byte) : (s.flashSet a v).wrpB = s.wrpB := rfl
@[simp] theorem flashSet_plkA (s : State) (a : Nat) (v : Byte) : (s.flashSet a v).plkA = s.plkA := rfl
@[simp] theorem flashSet_plkB (s : State) (a : Nat) (v : Byte) : (s.flashSet a v).plkB = s.plkB := rfl
@[simp] theorem flashSet_lpe (s : State) (a : Nat) (v : Byte) : (s.flashSet a v).lpe = s.lpe := rfl
@[simp] theorem flashSet_spn (s : State) (a : Nat) (v : Byte) : (s.flashSet a v).spn = s.spn := rfl
@[simp] theorem flashSet_pwr (s : State) (a : Nat) (v : Byte) : (s.flashSet a v).pwr = s.pwr := rfl
@[simp] theorem flashSet_thm (s : State) (a : Nat) (v : Byte) : (s.flashSet a v).thm = s.thm := rfl
@[simp] theorem flashSet_mem (s : State) (a : Nat) (v : Byte) : (s.flashSet a v).mem = s.mem := rfl
@[simp] theorem flashSet_buf (s : State) (a : Nat) (v : Byte) : (s.flashSet a v).buf = s.buf := rfl
@[simp] theorem flashSet_cph (s : State) (a : Nat) (v : Byte) : (s.flashSet a v).cph = s.cph := rfl
@[simp] theorem flashSet_hwd (s : State) (a : Nat) (v : Byte) : (s.flashSet a v).hwd = s.hwd := rfl
@[simp] theorem flashSet_ccx (s : State) (a : Nat) (v : Byte) : (s.flashSet a v).ccx = s.ccx := rfl
@[simp] theorem flashSet_host (s : State) (a : Nat) (v : Byte) : (s.flashSet a v).host = s.host := rfl
@[simp] theorem flashSet_apc (s : State) (a : Nat) (v : Byte) : (s.flashSet a v).apc = s.apc := rfl
@[simp] theorem flashSet_dbg (s : State) (a : Nat) (v : Byte) : (s.flashSet a v).dbg = s.dbg := rfl
@[simp] theorem flashSet_vale (s : State) (a : Nat) (v : Byte) : (s.flashSet a v).vale = s.vale := rfl

@[simp] theorem setMsq_pending (s : State) (x : Act) (m : Msq) : (s.setMsq x m).pending = s.pending := by cases x <;> rfl
@[simp] theorem setMsq_freeCtr (s : State) (x : Act) (m : Msq) : (s.setMsq x m).freeCtr = s.freeCtr := by cases x <;> rfl
@[simp] theorem setMsq_now (s : State) (x : Act) (m : Msq) : (s.setMsq x m).now = s.now := by cases x <;> rfl
@[simp] theorem setMsq_regs (s : State) (x : Act) (m : Msq) : (s.setMsq x m).regs = s.regs := by cases x <;> rfl
@[simp] theorem setMsq_bus (s : State) (x : Act) (m : Msq) : (s.setMsq x m).bus = s.bus := by cases x <;> rfl
@[simp] theorem setMsq_pins (s : State) (x : Act) (m : Msq) : (s.setMsq x m).pins = s.pins := by cases x <;> rfl
@[simp] theorem setMsq_d2d (s : State) (x : Act) (m : Msq) : (s.setMsq x m).d2d = s.d2d := by cases x <;> rfl
@[simp] theorem setMsq_ang (s : State) (x : Act) (m : Msq) : (s.setMsq x m).ang = s.ang := by cases x <;> rfl
@[simp] theorem setMsq_sys (s : State) (x : Act) (m : Msq) : (s.setMsq x m).sys = s.sys := by cases x <;> rfl
@[simp] theorem setMsq_rbk (s : State) (x : Act) (m : Msq) : (s.setMsq x m).rbk = s.rbk := by cases x <;> rfl
@[simp] theorem setMsq_romPar (s : State) (x : Act) (m : Msq) : (s.setMsq x m).romPar = s.romPar := by cases x <;> rfl
@[simp] theorem setMsq_ch0 (s : State) (x : Act) (m : Msq) : (s.setMsq x m).ch0 = s.ch0 := by cases x <;> rfl
@[simp] theorem setMsq_ch1 (s : State) (x : Act) (m : Msq) : (s.setMsq x m).ch1 = s.ch1 := by cases x <;> rfl
@[simp] theorem setMsq_ch2 (s : State) (x : Act) (m : Msq) : (s.setMsq x m).ch2 = s.ch2 := by cases x <;> rfl
@[simp] theorem setMsq_ch3 (s : State) (x : Act) (m : Msq) : (s.setMsq x m).ch3 = s.ch3 := by cases x <;> rfl
@[simp] theorem setMsq_wrpA (s : State) (x : Act) (m : Msq) : (s.setMsq x m).wrpA = s.wrpA := by cases x <;> rfl
@[simp] theorem setMsq_wrpB (s : State) (x : Act) (m : Msq) : (s.setMsq x m).wrpB = s.wrpB := by cases x <;> rfl
@[simp] theorem setMsq_plkA (s : State) (x : Act) (m : Msq) : (s.setMsq x m).plkA = s.plkA := by cases x <;> rfl
@[simp] theorem setMsq_plkB (s : State) (x : Act) (m : Msq) : (s.setMsq x m).plkB = s.plkB := by cases x <;> rfl
@[simp] theorem setMsq_lpe (s : State) (x : Act) (m : Msq) : (s.setMsq x m).lpe = s.lpe := by cases x <;> rfl
@[simp] theorem setMsq_spn (s : State) (x : Act) (m : Msq) : (s.setMsq x m).spn = s.spn := by cases x <;> rfl
@[simp] theorem setMsq_pwr (s : State) (x : Act) (m : Msq) : (s.setMsq x m).pwr = s.pwr := by cases x <;> rfl
@[simp] theorem setMsq_thm (s : State) (x : Act) (m : Msq) : (s.setMsq x m).thm = s.thm := by cases x <;> rfl
@[simp] theorem setMsq_mem (s : State) (x : Act) (m : Msq) : (s.setMsq x m).mem = s.mem := by cases x <;> rfl
@[simp] theorem setMsq_buf (s : State) (x : Act) (m : Msq) : (s.setMsq x m).buf = s.buf := by cases x <;> rfl
@[simp] theorem setMsq_cph (s : State) (x : Act) (m : Msq) : (s.setMsq x m).cph = s.cph := by cases x <;> rfl
@[simp] theorem setMsq_hwd (s : State) (x : Act) (m : Msq) : (s.setMsq x m).hwd = s.hwd := by cases x <;> rfl
@[simp] theorem setMsq_ccx (s : State) (x : Act) (m : Msq) : (s.setMsq x m).ccx = s.ccx := by cases x <;> rfl
@[simp] theorem setMsq_host (s : State) (x : Act) (m : Msq) : (s.setMsq x m).host = s.host := by cases x <;> rfl
@[simp] theorem setMsq_apc (s : State) (x : Act) (m : Msq) : (s.setMsq x m).apc = s.apc := by cases x <;> rfl
@[simp] theorem setMsq_xsp (s : State) (x : Act) (m : Msq) : (s.setMsq x m).xsp = s.xsp := by cases x <;> rfl
@[simp] theorem setMsq_dbg (s : State) (x : Act) (m : Msq) : (s.setMsq x m).dbg = s.dbg := by cases x <;> rfl
@[simp] theorem setMsq_vale (s : State) (x : Act) (m : Msq) : (s.setMsq x m).vale = s.vale := by cases x <;> rfl

@[simp] theorem setWrp_pending (s : State) (x : Act) (w : WrpSt) : (s.setWrp x w).pending = s.pending := by cases x <;> rfl
@[simp] theorem setWrp_freeCtr (s : State) (x : Act) (w : WrpSt) : (s.setWrp x w).freeCtr = s.freeCtr := by cases x <;> rfl
@[simp] theorem setWrp_now (s : State) (x : Act) (w : WrpSt) : (s.setWrp x w).now = s.now := by cases x <;> rfl
@[simp] theorem setWrp_regs (s : State) (x : Act) (w : WrpSt) : (s.setWrp x w).regs = s.regs := by cases x <;> rfl
@[simp] theorem setWrp_bus (s : State) (x : Act) (w : WrpSt) : (s.setWrp x w).bus = s.bus := by cases x <;> rfl
@[simp] theorem setWrp_pins (s : State) (x : Act) (w : WrpSt) : (s.setWrp x w).pins = s.pins := by cases x <;> rfl
@[simp] theorem setWrp_d2d (s : State) (x : Act) (w : WrpSt) : (s.setWrp x w).d2d = s.d2d := by cases x <;> rfl
@[simp] theorem setWrp_ang (s : State) (x : Act) (w : WrpSt) : (s.setWrp x w).ang = s.ang := by cases x <;> rfl
@[simp] theorem setWrp_sys (s : State) (x : Act) (w : WrpSt) : (s.setWrp x w).sys = s.sys := by cases x <;> rfl
@[simp] theorem setWrp_rbk (s : State) (x : Act) (w : WrpSt) : (s.setWrp x w).rbk = s.rbk := by cases x <;> rfl
@[simp] theorem setWrp_msqA (s : State) (x : Act) (w : WrpSt) : (s.setWrp x w).msqA = s.msqA := by cases x <;> rfl
@[simp] theorem setWrp_msqB (s : State) (x : Act) (w : WrpSt) : (s.setWrp x w).msqB = s.msqB := by cases x <;> rfl
@[simp] theorem setWrp_romPar (s : State) (x : Act) (w : WrpSt) : (s.setWrp x w).romPar = s.romPar := by cases x <;> rfl
@[simp] theorem setWrp_ch0 (s : State) (x : Act) (w : WrpSt) : (s.setWrp x w).ch0 = s.ch0 := by cases x <;> rfl
@[simp] theorem setWrp_ch1 (s : State) (x : Act) (w : WrpSt) : (s.setWrp x w).ch1 = s.ch1 := by cases x <;> rfl
@[simp] theorem setWrp_ch2 (s : State) (x : Act) (w : WrpSt) : (s.setWrp x w).ch2 = s.ch2 := by cases x <;> rfl
@[simp] theorem setWrp_ch3 (s : State) (x : Act) (w : WrpSt) : (s.setWrp x w).ch3 = s.ch3 := by cases x <;> rfl
@[simp] theorem setWrp_plkA (s : State) (x : Act) (w : WrpSt) : (s.setWrp x w).plkA = s.plkA := by cases x <;> rfl
@[simp] theorem setWrp_plkB (s : State) (x : Act) (w : WrpSt) : (s.setWrp x w).plkB = s.plkB := by cases x <;> rfl
@[simp] theorem setWrp_lpe (s : State) (x : Act) (w : WrpSt) : (s.setWrp x w).lpe = s.lpe := by cases x <;> rfl
@[simp] theorem setWrp_spn (s : State) (x : Act) (w : WrpSt) : (s.setWrp x w).spn = s.spn := by cases x <;> rfl
@[simp] theorem setWrp_pwr (s : State) (x : Act) (w : WrpSt) : (s.setWrp x w).pwr = s.pwr := by cases x <;> rfl
@[simp] theorem setWrp_thm (s : State) (x : Act) (w : WrpSt) : (s.setWrp x w).thm = s.thm := by cases x <;> rfl
@[simp] theorem setWrp_mem (s : State) (x : Act) (w : WrpSt) : (s.setWrp x w).mem = s.mem := by cases x <;> rfl
@[simp] theorem setWrp_buf (s : State) (x : Act) (w : WrpSt) : (s.setWrp x w).buf = s.buf := by cases x <;> rfl
@[simp] theorem setWrp_cph (s : State) (x : Act) (w : WrpSt) : (s.setWrp x w).cph = s.cph := by cases x <;> rfl
@[simp] theorem setWrp_hwd (s : State) (x : Act) (w : WrpSt) : (s.setWrp x w).hwd = s.hwd := by cases x <;> rfl
@[simp] theorem setWrp_ccx (s : State) (x : Act) (w : WrpSt) : (s.setWrp x w).ccx = s.ccx := by cases x <;> rfl
@[simp] theorem setWrp_host (s : State) (x : Act) (w : WrpSt) : (s.setWrp x w).host = s.host := by cases x <;> rfl
@[simp] theorem setWrp_apc (s : State) (x : Act) (w : WrpSt) : (s.setWrp x w).apc = s.apc := by cases x <;> rfl
@[simp] theorem setWrp_xsp (s : State) (x : Act) (w : WrpSt) : (s.setWrp x w).xsp = s.xsp := by cases x <;> rfl
@[simp] theorem setWrp_dbg (s : State) (x : Act) (w : WrpSt) : (s.setWrp x w).dbg = s.dbg := by cases x <;> rfl
@[simp] theorem setWrp_vale (s : State) (x : Act) (w : WrpSt) : (s.setWrp x w).vale = s.vale := by cases x <;> rfl

@[simp] theorem setPlk_pending (s : State) (x : Act) (w : PlkSt) : (s.setPlk x w).pending = s.pending := by cases x <;> rfl
@[simp] theorem setPlk_freeCtr (s : State) (x : Act) (w : PlkSt) : (s.setPlk x w).freeCtr = s.freeCtr := by cases x <;> rfl
@[simp] theorem setPlk_now (s : State) (x : Act) (w : PlkSt) : (s.setPlk x w).now = s.now := by cases x <;> rfl
@[simp] theorem setPlk_regs (s : State) (x : Act) (w : PlkSt) : (s.setPlk x w).regs = s.regs := by cases x <;> rfl
@[simp] theorem setPlk_bus (s : State) (x : Act) (w : PlkSt) : (s.setPlk x w).bus = s.bus := by cases x <;> rfl
@[simp] theorem setPlk_pins (s : State) (x : Act) (w : PlkSt) : (s.setPlk x w).pins = s.pins := by cases x <;> rfl
@[simp] theorem setPlk_d2d (s : State) (x : Act) (w : PlkSt) : (s.setPlk x w).d2d = s.d2d := by cases x <;> rfl
@[simp] theorem setPlk_ang (s : State) (x : Act) (w : PlkSt) : (s.setPlk x w).ang = s.ang := by cases x <;> rfl
@[simp] theorem setPlk_sys (s : State) (x : Act) (w : PlkSt) : (s.setPlk x w).sys = s.sys := by cases x <;> rfl
@[simp] theorem setPlk_rbk (s : State) (x : Act) (w : PlkSt) : (s.setPlk x w).rbk = s.rbk := by cases x <;> rfl
@[simp] theorem setPlk_msqA (s : State) (x : Act) (w : PlkSt) : (s.setPlk x w).msqA = s.msqA := by cases x <;> rfl
@[simp] theorem setPlk_msqB (s : State) (x : Act) (w : PlkSt) : (s.setPlk x w).msqB = s.msqB := by cases x <;> rfl
@[simp] theorem setPlk_romPar (s : State) (x : Act) (w : PlkSt) : (s.setPlk x w).romPar = s.romPar := by cases x <;> rfl
@[simp] theorem setPlk_ch0 (s : State) (x : Act) (w : PlkSt) : (s.setPlk x w).ch0 = s.ch0 := by cases x <;> rfl
@[simp] theorem setPlk_ch1 (s : State) (x : Act) (w : PlkSt) : (s.setPlk x w).ch1 = s.ch1 := by cases x <;> rfl
@[simp] theorem setPlk_ch2 (s : State) (x : Act) (w : PlkSt) : (s.setPlk x w).ch2 = s.ch2 := by cases x <;> rfl
@[simp] theorem setPlk_ch3 (s : State) (x : Act) (w : PlkSt) : (s.setPlk x w).ch3 = s.ch3 := by cases x <;> rfl
@[simp] theorem setPlk_wrpA (s : State) (x : Act) (w : PlkSt) : (s.setPlk x w).wrpA = s.wrpA := by cases x <;> rfl
@[simp] theorem setPlk_wrpB (s : State) (x : Act) (w : PlkSt) : (s.setPlk x w).wrpB = s.wrpB := by cases x <;> rfl
@[simp] theorem setPlk_lpe (s : State) (x : Act) (w : PlkSt) : (s.setPlk x w).lpe = s.lpe := by cases x <;> rfl
@[simp] theorem setPlk_spn (s : State) (x : Act) (w : PlkSt) : (s.setPlk x w).spn = s.spn := by cases x <;> rfl
@[simp] theorem setPlk_pwr (s : State) (x : Act) (w : PlkSt) : (s.setPlk x w).pwr = s.pwr := by cases x <;> rfl
@[simp] theorem setPlk_thm (s : State) (x : Act) (w : PlkSt) : (s.setPlk x w).thm = s.thm := by cases x <;> rfl
@[simp] theorem setPlk_mem (s : State) (x : Act) (w : PlkSt) : (s.setPlk x w).mem = s.mem := by cases x <;> rfl
@[simp] theorem setPlk_buf (s : State) (x : Act) (w : PlkSt) : (s.setPlk x w).buf = s.buf := by cases x <;> rfl
@[simp] theorem setPlk_cph (s : State) (x : Act) (w : PlkSt) : (s.setPlk x w).cph = s.cph := by cases x <;> rfl
@[simp] theorem setPlk_hwd (s : State) (x : Act) (w : PlkSt) : (s.setPlk x w).hwd = s.hwd := by cases x <;> rfl
@[simp] theorem setPlk_ccx (s : State) (x : Act) (w : PlkSt) : (s.setPlk x w).ccx = s.ccx := by cases x <;> rfl
@[simp] theorem setPlk_host (s : State) (x : Act) (w : PlkSt) : (s.setPlk x w).host = s.host := by cases x <;> rfl
@[simp] theorem setPlk_apc (s : State) (x : Act) (w : PlkSt) : (s.setPlk x w).apc = s.apc := by cases x <;> rfl
@[simp] theorem setPlk_xsp (s : State) (x : Act) (w : PlkSt) : (s.setPlk x w).xsp = s.xsp := by cases x <;> rfl
@[simp] theorem setPlk_dbg (s : State) (x : Act) (w : PlkSt) : (s.setPlk x w).dbg = s.dbg := by cases x <;> rfl
@[simp] theorem setPlk_vale (s : State) (x : Act) (w : PlkSt) : (s.setPlk x w).vale = s.vale := by cases x <;> rfl

@[simp] theorem setLa_pending (s : State) (x : Act) (l : LpeAct) : (s.setLa x l).pending = s.pending := by cases x <;> rfl
@[simp] theorem setLa_freeCtr (s : State) (x : Act) (l : LpeAct) : (s.setLa x l).freeCtr = s.freeCtr := by cases x <;> rfl
@[simp] theorem setLa_now (s : State) (x : Act) (l : LpeAct) : (s.setLa x l).now = s.now := by cases x <;> rfl
@[simp] theorem setLa_regs (s : State) (x : Act) (l : LpeAct) : (s.setLa x l).regs = s.regs := by cases x <;> rfl
@[simp] theorem setLa_bus (s : State) (x : Act) (l : LpeAct) : (s.setLa x l).bus = s.bus := by cases x <;> rfl
@[simp] theorem setLa_pins (s : State) (x : Act) (l : LpeAct) : (s.setLa x l).pins = s.pins := by cases x <;> rfl
@[simp] theorem setLa_d2d (s : State) (x : Act) (l : LpeAct) : (s.setLa x l).d2d = s.d2d := by cases x <;> rfl
@[simp] theorem setLa_ang (s : State) (x : Act) (l : LpeAct) : (s.setLa x l).ang = s.ang := by cases x <;> rfl
@[simp] theorem setLa_sys (s : State) (x : Act) (l : LpeAct) : (s.setLa x l).sys = s.sys := by cases x <;> rfl
@[simp] theorem setLa_rbk (s : State) (x : Act) (l : LpeAct) : (s.setLa x l).rbk = s.rbk := by cases x <;> rfl
@[simp] theorem setLa_msqA (s : State) (x : Act) (l : LpeAct) : (s.setLa x l).msqA = s.msqA := by cases x <;> rfl
@[simp] theorem setLa_msqB (s : State) (x : Act) (l : LpeAct) : (s.setLa x l).msqB = s.msqB := by cases x <;> rfl
@[simp] theorem setLa_romPar (s : State) (x : Act) (l : LpeAct) : (s.setLa x l).romPar = s.romPar := by cases x <;> rfl
@[simp] theorem setLa_ch0 (s : State) (x : Act) (l : LpeAct) : (s.setLa x l).ch0 = s.ch0 := by cases x <;> rfl
@[simp] theorem setLa_ch1 (s : State) (x : Act) (l : LpeAct) : (s.setLa x l).ch1 = s.ch1 := by cases x <;> rfl
@[simp] theorem setLa_ch2 (s : State) (x : Act) (l : LpeAct) : (s.setLa x l).ch2 = s.ch2 := by cases x <;> rfl
@[simp] theorem setLa_ch3 (s : State) (x : Act) (l : LpeAct) : (s.setLa x l).ch3 = s.ch3 := by cases x <;> rfl
@[simp] theorem setLa_wrpA (s : State) (x : Act) (l : LpeAct) : (s.setLa x l).wrpA = s.wrpA := by cases x <;> rfl
@[simp] theorem setLa_wrpB (s : State) (x : Act) (l : LpeAct) : (s.setLa x l).wrpB = s.wrpB := by cases x <;> rfl
@[simp] theorem setLa_plkA (s : State) (x : Act) (l : LpeAct) : (s.setLa x l).plkA = s.plkA := by cases x <;> rfl
@[simp] theorem setLa_plkB (s : State) (x : Act) (l : LpeAct) : (s.setLa x l).plkB = s.plkB := by cases x <;> rfl
@[simp] theorem setLa_spn (s : State) (x : Act) (l : LpeAct) : (s.setLa x l).spn = s.spn := by cases x <;> rfl
@[simp] theorem setLa_pwr (s : State) (x : Act) (l : LpeAct) : (s.setLa x l).pwr = s.pwr := by cases x <;> rfl
@[simp] theorem setLa_thm (s : State) (x : Act) (l : LpeAct) : (s.setLa x l).thm = s.thm := by cases x <;> rfl
@[simp] theorem setLa_mem (s : State) (x : Act) (l : LpeAct) : (s.setLa x l).mem = s.mem := by cases x <;> rfl
@[simp] theorem setLa_buf (s : State) (x : Act) (l : LpeAct) : (s.setLa x l).buf = s.buf := by cases x <;> rfl
@[simp] theorem setLa_cph (s : State) (x : Act) (l : LpeAct) : (s.setLa x l).cph = s.cph := by cases x <;> rfl
@[simp] theorem setLa_hwd (s : State) (x : Act) (l : LpeAct) : (s.setLa x l).hwd = s.hwd := by cases x <;> rfl
@[simp] theorem setLa_ccx (s : State) (x : Act) (l : LpeAct) : (s.setLa x l).ccx = s.ccx := by cases x <;> rfl
@[simp] theorem setLa_host (s : State) (x : Act) (l : LpeAct) : (s.setLa x l).host = s.host := by cases x <;> rfl
@[simp] theorem setLa_apc (s : State) (x : Act) (l : LpeAct) : (s.setLa x l).apc = s.apc := by cases x <;> rfl
@[simp] theorem setLa_xsp (s : State) (x : Act) (l : LpeAct) : (s.setLa x l).xsp = s.xsp := by cases x <;> rfl
@[simp] theorem setLa_dbg (s : State) (x : Act) (l : LpeAct) : (s.setLa x l).dbg = s.dbg := by cases x <;> rfl
@[simp] theorem setLa_vale (s : State) (x : Act) (l : LpeAct) : (s.setLa x l).vale = s.vale := by cases x <;> rfl

@[simp] theorem setCh_pending (s : State) (n : Chan) (c : ChanSt) : (s.setCh n c).pending = s.pending := by
  unfold State.setCh; split <;> rfl
@[simp] theorem setCh_freeCtr (s : State) (n : Chan) (c : ChanSt) : (s.setCh n c).freeCtr = s.freeCtr := by
  unfold State.setCh; split <;> rfl
@[simp] theorem setCh_now (s : State) (n : Chan) (c : ChanSt) : (s.setCh n c).now = s.now := by
  unfold State.setCh; split <;> rfl
@[simp] theorem setCh_regs (s : State) (n : Chan) (c : ChanSt) : (s.setCh n c).regs = s.regs := by
  unfold State.setCh; split <;> rfl
@[simp] theorem setCh_bus (s : State) (n : Chan) (c : ChanSt) : (s.setCh n c).bus = s.bus := by
  unfold State.setCh; split <;> rfl
@[simp] theorem setCh_pins (s : State) (n : Chan) (c : ChanSt) : (s.setCh n c).pins = s.pins := by
  unfold State.setCh; split <;> rfl
@[simp] theorem setCh_d2d (s : State) (n : Chan) (c : ChanSt) : (s.setCh n c).d2d = s.d2d := by
  unfold State.setCh; split <;> rfl
@[simp] theorem setCh_ang (s : State) (n : Chan) (c : ChanSt) : (s.setCh n c).ang = s.ang := by
  unfold State.setCh; split <;> rfl
@[simp] theorem setCh_sys (s : State) (n : Chan) (c : ChanSt) : (s.setCh n c).sys = s.sys := by
  unfold State.setCh; split <;> rfl
@[simp] theorem setCh_rbk (s : State) (n : Chan) (c : ChanSt) : (s.setCh n c).rbk = s.rbk := by
  unfold State.setCh; split <;> rfl
@[simp] theorem setCh_msqA (s : State) (n : Chan) (c : ChanSt) : (s.setCh n c).msqA = s.msqA := by
  unfold State.setCh; split <;> rfl
@[simp] theorem setCh_msqB (s : State) (n : Chan) (c : ChanSt) : (s.setCh n c).msqB = s.msqB := by
  unfold State.setCh; split <;> rfl
@[simp] theorem setCh_romPar (s : State) (n : Chan) (c : ChanSt) : (s.setCh n c).romPar = s.romPar := by
  unfold State.setCh; split <;> rfl
@[simp] theorem setCh_wrpA (s : State) (n : Chan) (c : ChanSt) : (s.setCh n c).wrpA = s.wrpA := by
  unfold State.setCh; split <;> rfl
@[simp] theorem setCh_wrpB (s : State) (n : Chan) (c : ChanSt) : (s.setCh n c).wrpB = s.wrpB := by
  unfold State.setCh; split <;> rfl
@[simp] theorem setCh_plkA (s : State) (n : Chan) (c : ChanSt) : (s.setCh n c).plkA = s.plkA := by
  unfold State.setCh; split <;> rfl
@[simp] theorem setCh_plkB (s : State) (n : Chan) (c : ChanSt) : (s.setCh n c).plkB = s.plkB := by
  unfold State.setCh; split <;> rfl
@[simp] theorem setCh_lpe (s : State) (n : Chan) (c : ChanSt) : (s.setCh n c).lpe = s.lpe := by
  unfold State.setCh; split <;> rfl
@[simp] theorem setCh_spn (s : State) (n : Chan) (c : ChanSt) : (s.setCh n c).spn = s.spn := by
  unfold State.setCh; split <;> rfl
@[simp] theorem setCh_pwr (s : State) (n : Chan) (c : ChanSt) : (s.setCh n c).pwr = s.pwr := by
  unfold State.setCh; split <;> rfl
@[simp] theorem setCh_thm (s : State) (n : Chan) (c : ChanSt) : (s.setCh n c).thm = s.thm := by
  unfold State.setCh; split <;> rfl
@[simp] theorem setCh_mem (s : State) (n : Chan) (c : ChanSt) : (s.setCh n c).mem = s.mem := by
  unfold State.setCh; split <;> rfl
@[simp] theorem setCh_buf (s : State) (n : Chan) (c : ChanSt) : (s.setCh n c).buf = s.buf := by
  unfold State.setCh; split <;> rfl
@[simp] theorem setCh_cph (s : State) (n : Chan) (c : ChanSt) : (s.setCh n c).cph = s.cph := by
  unfold State.setCh; split <;> rfl
@[simp] theorem setCh_hwd (s : State) (n : Chan) (c : ChanSt) : (s.setCh n c).hwd = s.hwd := by
  unfold State.setCh; split <;> rfl
@[simp] theorem setCh_ccx (s : State) (n : Chan) (c : ChanSt) : (s.setCh n c).ccx = s.ccx := by
  unfold State.setCh; split <;> rfl
@[simp] theorem setCh_host (s : State) (n : Chan) (c : ChanSt) : (s.setCh n c).host = s.host := by
  unfold State.setCh; split <;> rfl
@[simp] theorem setCh_apc (s : State) (n : Chan) (c : ChanSt) : (s.setCh n c).apc = s.apc := by
  unfold State.setCh; split <;> rfl
@[simp] theorem setCh_xsp (s : State) (n : Chan) (c : ChanSt) : (s.setCh n c).xsp = s.xsp := by
  unfold State.setCh; split <;> rfl
@[simp] theorem setCh_dbg (s : State) (n : Chan) (c : ChanSt) : (s.setCh n c).dbg = s.dbg := by
  unfold State.setCh; split <;> rfl
@[simp] theorem setCh_vale (s : State) (n : Chan) (c : ChanSt) : (s.setCh n c).vale = s.vale := by
  unfold State.setCh; split <;> rfl

@[simp] theorem msq_setMsq (s : State) (x : Act) (m : Msq) : (s.setMsq x m).msq x = m := by cases x <;> rfl
@[simp] theorem msq_setMsq_other (s : State) (x : Act) (m : Msq) : (s.setMsq x m).msq x.other = s.msq x.other := by cases x <;> rfl
@[simp] theorem wrp_setWrp (s : State) (x : Act) (w : WrpSt) : (s.setWrp x w).wrp x = w := by cases x <;> rfl
@[simp] theorem wrp_setWrp_other (s : State) (x : Act) (w : WrpSt) : (s.setWrp x w).wrp x.other = s.wrp x.other := by cases x <;> rfl
@[simp] theorem plk_setPlk (s : State) (x : Act) (w : PlkSt) : (s.setPlk x w).plk x = w := by cases x <;> rfl
@[simp] theorem plk_setPlk_other (s : State) (x : Act) (w : PlkSt) : (s.setPlk x w).plk x.other = s.plk x.other := by cases x <;> rfl
@[simp] theorem la_setLa (s : State) (x : Act) (l : LpeAct) : (s.setLa x l).la x = l := by cases x <;> rfl
@[simp] theorem la_setLa_other (s : State) (x : Act) (l : LpeAct) : (s.setLa x l).la x.other = s.la x.other := by cases x <;> rfl

end Sys2Proof.Laws
end

