-- ==== Sys2Proof/Laws/Updates.lean ====
section
/-!
SUPPORT. What an update of named fields of the state leaves as it was.
-/
namespace Sys2Proof.Laws

open Sys2Proof.Machine Sys2Proof.Safety

theorem keeps_set_ang {P : List Part} {R : List Field} {s t : State} {v0 : AngSt}
    (w : within P R [.ang] [] = true) (h : Keeps P R s t) : Keeps P R s { t with ang := v0 } := by
  have k : Keeps [.ang] [] t { t with ang := v0 } := by
    refine ⟨rfl, fun p hn hp => ?_, fun hr a i _ => ?_⟩
    · cases p <;> simp_all [Part.same]
    · first | rfl | simp at hr
  exact keeps_via k w h

theorem keeps_set_apc {P : List Part} {R : List Field} {s t : State} {v0 : ApcSt}
    (w : within P R [.apc] [] = true) (h : Keeps P R s t) : Keeps P R s { t with apc := v0 } := by
  have k : Keeps [.apc] [] t { t with apc := v0 } := by
    refine ⟨rfl, fun p hn hp => ?_, fun hr a i _ => ?_⟩
    · cases p <;> simp_all [Part.same]
    · first | rfl | simp at hr
  exact keeps_via k w h

theorem keeps_set_apc_buf_ccx_regs_sys {P : List Part} {R : List Field} {s t : State} {v0 : ApcSt} {v1 : BufSt} {v2 : CcxSt} {v3 : List (Nat × Word)} {v4 : SysSt}
    (w : within P R [.apc, .buf, .ccx, .regs, .sys] [] = true) (h : Keeps P R s t) : Keeps P R s { t with apc := v0, buf := v1, ccx := v2, regs := v3, sys := v4 } := by
  have k : Keeps [.apc, .buf, .ccx, .regs, .sys] [] t { t with apc := v0, buf := v1, ccx := v2, regs := v3, sys := v4 } := by
    refine ⟨rfl, fun p hn hp => ?_, fun hr a i _ => ?_⟩
    · cases p <;> simp_all [Part.same]
    · first | rfl | simp at hr
  exact keeps_via k w h

theorem keeps_set_buf {P : List Part} {R : List Field} {s t : State} {v0 : BufSt}
    (w : within P R [.buf] [] = true) (h : Keeps P R s t) : Keeps P R s { t with buf := v0 } := by
  have k : Keeps [.buf] [] t { t with buf := v0 } := by
    refine ⟨rfl, fun p hn hp => ?_, fun hr a i _ => ?_⟩
    · cases p <;> simp_all [Part.same]
    · first | rfl | simp at hr
  exact keeps_via k w h

theorem keeps_set_buf_ccx {P : List Part} {R : List Field} {s t : State} {v0 : BufSt} {v1 : CcxSt}
    (w : within P R [.buf, .ccx] [] = true) (h : Keeps P R s t) : Keeps P R s { t with buf := v0, ccx := v1 } := by
  have k : Keeps [.buf, .ccx] [] t { t with buf := v0, ccx := v1 } := by
    refine ⟨rfl, fun p hn hp => ?_, fun hr a i _ => ?_⟩
    · cases p <;> simp_all [Part.same]
    · first | rfl | simp at hr
  exact keeps_via k w h

theorem keeps_set_bus {P : List Part} {R : List Field} {s t : State} {v0 : BusSt}
    (w : within P R [.bus] [] = true) (h : Keeps P R s t) : Keeps P R s { t with bus := v0 } := by
  have k : Keeps [.bus] [] t { t with bus := v0 } := by
    refine ⟨rfl, fun p hn hp => ?_, fun hr a i _ => ?_⟩
    · cases p <;> simp_all [Part.same]
    · first | rfl | simp at hr
  exact keeps_via k w h

theorem keeps_set_ccx {P : List Part} {R : List Field} {s t : State} {v0 : CcxSt}
    (w : within P R [.ccx] [] = true) (h : Keeps P R s t) : Keeps P R s { t with ccx := v0 } := by
  have k : Keeps [.ccx] [] t { t with ccx := v0 } := by
    refine ⟨rfl, fun p hn hp => ?_, fun hr a i _ => ?_⟩
    · cases p <;> simp_all [Part.same]
    · first | rfl | simp at hr
  exact keeps_via k w h

theorem keeps_set_ch0 {P : List Part} {R : List Field} {s t : State} {v0 : ChanSt}
    (w : within P R [.ch] [] = true) (h : Keeps P R s t) : Keeps P R s { t with ch0 := v0 } := by
  have k : Keeps [.ch] [] t { t with ch0 := v0 } := by
    refine ⟨rfl, fun p hn hp => ?_, fun hr a i _ => ?_⟩
    · cases p <;> simp_all [Part.same]
    · first | rfl | simp at hr
  exact keeps_via k w h

theorem keeps_set_ch0_ch1_ch2_ch3 {P : List Part} {R : List Field} {s t : State} {v0 : ChanSt} {v1 : ChanSt} {v2 : ChanSt} {v3 : ChanSt}
    (w : within P R [.ch] [] = true) (h : Keeps P R s t) : Keeps P R s { t with ch0 := v0, ch1 := v1, ch2 := v2, ch3 := v3 } := by
  have k : Keeps [.ch] [] t { t with ch0 := v0, ch1 := v1, ch2 := v2, ch3 := v3 } := by
    refine ⟨rfl, fun p hn hp => ?_, fun hr a i _ => ?_⟩
    · cases p <;> simp_all [Part.same]
    · first | rfl | simp at hr
  exact keeps_via k w h

theorem keeps_set_ch1 {P : List Part} {R : List Field} {s t : State} {v0 : ChanSt}
    (w : within P R [.ch] [] = true) (h : Keeps P R s t) : Keeps P R s { t with ch1 := v0 } := by
  have k : Keeps [.ch] [] t { t with ch1 := v0 } := by
    refine ⟨rfl, fun p hn hp => ?_, fun hr a i _ => ?_⟩
    · cases p <;> simp_all [Part.same]
    · first | rfl | simp at hr
  exact keeps_via k w h

theorem keeps_set_ch2 {P : List Part} {R : List Field} {s t : State} {v0 : ChanSt}
    (w : within P R [.ch] [] = true) (h : Keeps P R s t) : Keeps P R s { t with ch2 := v0 } := by
  have k : Keeps [.ch] [] t { t with ch2 := v0 } := by
    refine ⟨rfl, fun p hn hp => ?_, fun hr a i _ => ?_⟩
    · cases p <;> simp_all [Part.same]
    · first | rfl | simp at hr
  exact keeps_via k w h

theorem keeps_set_ch3 {P : List Part} {R : List Field} {s t : State} {v0 : ChanSt}
    (w : within P R [.ch] [] = true) (h : Keeps P R s t) : Keeps P R s { t with ch3 := v0 } := by
  have k : Keeps [.ch] [] t { t with ch3 := v0 } := by
    refine ⟨rfl, fun p hn hp => ?_, fun hr a i _ => ?_⟩
    · cases p <;> simp_all [Part.same]
    · first | rfl | simp at hr
  exact keeps_via k w h

theorem keeps_set_cph {P : List Part} {R : List Field} {s t : State} {v0 : CphSt}
    (w : within P R [.cph] [] = true) (h : Keeps P R s t) : Keeps P R s { t with cph := v0 } := by
  have k : Keeps [.cph] [] t { t with cph := v0 } := by
    refine ⟨rfl, fun p hn hp => ?_, fun hr a i _ => ?_⟩
    · cases p <;> simp_all [Part.same]
    · first | rfl | simp at hr
  exact keeps_via k w h

theorem keeps_set_d2d {P : List Part} {R : List Field} {s t : State} {v0 : D2dSt}
    (w : within P R [.d2d] [] = true) (h : Keeps P R s t) : Keeps P R s { t with d2d := v0 } := by
  have k : Keeps [.d2d] [] t { t with d2d := v0 } := by
    refine ⟨rfl, fun p hn hp => ?_, fun hr a i _ => ?_⟩
    · cases p <;> simp_all [Part.same]
    · first | rfl | simp at hr
  exact keeps_via k w h

theorem keeps_set_dbg {P : List Part} {R : List Field} {s t : State} {v0 : DbgSt}
    (w : within P R [.dbg] [] = true) (h : Keeps P R s t) : Keeps P R s { t with dbg := v0 } := by
  have k : Keeps [.dbg] [] t { t with dbg := v0 } := by
    refine ⟨rfl, fun p hn hp => ?_, fun hr a i _ => ?_⟩
    · cases p <;> simp_all [Part.same]
    · first | rfl | simp at hr
  exact keeps_via k w h

theorem keeps_set_freeCtr {P : List Part} {R : List Field} {s t : State} {v0 : Nat}
    (w : within P R [.free] [] = true) (h : Keeps P R s t) : Keeps P R s { t with freeCtr := v0 } := by
  have k : Keeps [.free] [] t { t with freeCtr := v0 } := by
    refine ⟨rfl, fun p hn hp => ?_, fun hr a i _ => ?_⟩
    · cases p <;> simp_all [Part.same]
    · first | rfl | simp at hr
  exact keeps_via k w h

theorem keeps_set_host {P : List Part} {R : List Field} {s t : State} {v0 : HostSt}
    (w : within P R [.host] [] = true) (h : Keeps P R s t) : Keeps P R s { t with host := v0 } := by
  have k : Keeps [.host] [] t { t with host := v0 } := by
    refine ⟨rfl, fun p hn hp => ?_, fun hr a i _ => ?_⟩
    · cases p <;> simp_all [Part.same]
    · first | rfl | simp at hr
  exact keeps_via k w h

theorem keeps_set_host_pins {P : List Part} {R : List Field} {s t : State} {v0 : HostSt} {v1 : PinSt}
    (w : within P R [.host, .pins] [] = true) (h : Keeps P R s t) : Keeps P R s { t with host := v0, pins := v1 } := by
  have k : Keeps [.host, .pins] [] t { t with host := v0, pins := v1 } := by
    refine ⟨rfl, fun p hn hp => ?_, fun hr a i _ => ?_⟩
    · cases p <;> simp_all [Part.same]
    · first | rfl | simp at hr
  exact keeps_via k w h

theorem keeps_set_host_pwr_sys {P : List Part} {R : List Field} {s t : State} {v0 : HostSt} {v1 : PwrSt} {v2 : SysSt}
    (w : within P R [.host, .pwr, .sys] [] = true) (h : Keeps P R s t) : Keeps P R s { t with host := v0, pwr := v1, sys := v2 } := by
  have k : Keeps [.host, .pwr, .sys] [] t { t with host := v0, pwr := v1, sys := v2 } := by
    refine ⟨rfl, fun p hn hp => ?_, fun hr a i _ => ?_⟩
    · cases p <;> simp_all [Part.same]
    · first | rfl | simp at hr
  exact keeps_via k w h

theorem keeps_set_hwd {P : List Part} {R : List Field} {s t : State} {v0 : HwdSt}
    (w : within P R [.hwd] [] = true) (h : Keeps P R s t) : Keeps P R s { t with hwd := v0 } := by
  have k : Keeps [.hwd] [] t { t with hwd := v0 } := by
    refine ⟨rfl, fun p hn hp => ?_, fun hr a i _ => ?_⟩
    · cases p <;> simp_all [Part.same]
    · first | rfl | simp at hr
  exact keeps_via k w h

theorem keeps_set_hwd_sys {P : List Part} {R : List Field} {s t : State} {v0 : HwdSt} {v1 : SysSt}
    (w : within P R [.hwd, .sys] [] = true) (h : Keeps P R s t) : Keeps P R s { t with hwd := v0, sys := v1 } := by
  have k : Keeps [.hwd, .sys] [] t { t with hwd := v0, sys := v1 } := by
    refine ⟨rfl, fun p hn hp => ?_, fun hr a i _ => ?_⟩
    · cases p <;> simp_all [Part.same]
    · first | rfl | simp at hr
  exact keeps_via k w h

theorem keeps_set_lpe {P : List Part} {R : List Field} {s t : State} {v0 : LpeSt}
    (w : within P R [.lpe] [] = true) (h : Keeps P R s t) : Keeps P R s { t with lpe := v0 } := by
  have k : Keeps [.lpe] [] t { t with lpe := v0 } := by
    refine ⟨rfl, fun p hn hp => ?_, fun hr a i _ => ?_⟩
    · cases p <;> simp_all [Part.same]
    · first | rfl | simp at hr
  exact keeps_via k w h

theorem keeps_set_lpe_regs {P : List Part} {R : List Field} {s t : State} {v0 : LpeSt} {v1 : List (Nat × Word)}
    (w : within P R [.lpe, .regs] [] = true) (h : Keeps P R s t) : Keeps P R s { t with lpe := v0, regs := v1 } := by
  have k : Keeps [.lpe, .regs] [] t { t with lpe := v0, regs := v1 } := by
    refine ⟨rfl, fun p hn hp => ?_, fun hr a i _ => ?_⟩
    · cases p <;> simp_all [Part.same]
    · first | rfl | simp at hr
  exact keeps_via k w h

theorem keeps_set_lpe_spn {P : List Part} {R : List Field} {s t : State} {v0 : LpeSt} {v1 : SpnSt}
    (w : within P R [.lpe, .spn] [] = true) (h : Keeps P R s t) : Keeps P R s { t with lpe := v0, spn := v1 } := by
  have k : Keeps [.lpe, .spn] [] t { t with lpe := v0, spn := v1 } := by
    refine ⟨rfl, fun p hn hp => ?_, fun hr a i _ => ?_⟩
    · cases p <;> simp_all [Part.same]
    · first | rfl | simp at hr
  exact keeps_via k w h

theorem keeps_set_mem {P : List Part} {R : List Field} {s t : State} {v0 : MemSt}
    (w : within P R [.mem] [] = true) (h : Keeps P R s t) : Keeps P R s { t with mem := v0 } := by
  have k : Keeps [.mem] [] t { t with mem := v0 } := by
    refine ⟨rfl, fun p hn hp => ?_, fun hr a i _ => ?_⟩
    · cases p <;> simp_all [Part.same]
    · first | rfl | simp at hr
  exact keeps_via k w h

theorem keeps_set_msqA {P : List Part} {R : List Field} {s t : State} {v0 : Msq}
    (w : within P R [.msq] [] = true) (h : Keeps P R s t) : Keeps P R s { t with msqA := v0 } := by
  have k : Keeps [.msq] [] t { t with msqA := v0 } := by
    refine ⟨rfl, fun p hn hp => ?_, fun hr a i _ => ?_⟩
    · cases p <;> simp_all [Part.same]
    · first | rfl | simp at hr
  exact keeps_via k w h

theorem keeps_set_msqB {P : List Part} {R : List Field} {s t : State} {v0 : Msq}
    (w : within P R [.msq] [] = true) (h : Keeps P R s t) : Keeps P R s { t with msqB := v0 } := by
  have k : Keeps [.msq] [] t { t with msqB := v0 } := by
    refine ⟨rfl, fun p hn hp => ?_, fun hr a i _ => ?_⟩
    · cases p <;> simp_all [Part.same]
    · first | rfl | simp at hr
  exact keeps_via k w h

theorem keeps_set_now {P : List Part} {R : List Field} {s t : State} {v0 : Nat}
    (w : within P R [.now] [] = true) (h : Keeps P R s t) : Keeps P R s { t with now := v0 } := by
  have k : Keeps [.now] [] t { t with now := v0 } := by
    refine ⟨rfl, fun p hn hp => ?_, fun hr a i _ => ?_⟩
    · cases p <;> simp_all [Part.same]
    · first | rfl | simp at hr
  exact keeps_via k w h

theorem keeps_set_pins {P : List Part} {R : List Field} {s t : State} {v0 : PinSt}
    (w : within P R [.pins] [] = true) (h : Keeps P R s t) : Keeps P R s { t with pins := v0 } := by
  have k : Keeps [.pins] [] t { t with pins := v0 } := by
    refine ⟨rfl, fun p hn hp => ?_, fun hr a i _ => ?_⟩
    · cases p <;> simp_all [Part.same]
    · first | rfl | simp at hr
  exact keeps_via k w h

theorem keeps_set_pins_sys {P : List Part} {R : List Field} {s t : State} {v0 : PinSt} {v1 : SysSt}
    (w : within P R [.pins, .sys] [] = true) (h : Keeps P R s t) : Keeps P R s { t with pins := v0, sys := v1 } := by
  have k : Keeps [.pins, .sys] [] t { t with pins := v0, sys := v1 } := by
    refine ⟨rfl, fun p hn hp => ?_, fun hr a i _ => ?_⟩
    · cases p <;> simp_all [Part.same]
    · first | rfl | simp at hr
  exact keeps_via k w h

theorem keeps_set_plkA {P : List Part} {R : List Field} {s t : State} {v0 : PlkSt}
    (w : within P R [.plk] [] = true) (h : Keeps P R s t) : Keeps P R s { t with plkA := v0 } := by
  have k : Keeps [.plk] [] t { t with plkA := v0 } := by
    refine ⟨rfl, fun p hn hp => ?_, fun hr a i _ => ?_⟩
    · cases p <;> simp_all [Part.same]
    · first | rfl | simp at hr
  exact keeps_via k w h

theorem keeps_set_plkB {P : List Part} {R : List Field} {s t : State} {v0 : PlkSt}
    (w : within P R [.plk] [] = true) (h : Keeps P R s t) : Keeps P R s { t with plkB := v0 } := by
  have k : Keeps [.plk] [] t { t with plkB := v0 } := by
    refine ⟨rfl, fun p hn hp => ?_, fun hr a i _ => ?_⟩
    · cases p <;> simp_all [Part.same]
    · first | rfl | simp at hr
  exact keeps_via k w h

theorem keeps_set_pwr {P : List Part} {R : List Field} {s t : State} {v0 : PwrSt}
    (w : within P R [.pwr] [] = true) (h : Keeps P R s t) : Keeps P R s { t with pwr := v0 } := by
  have k : Keeps [.pwr] [] t { t with pwr := v0 } := by
    refine ⟨rfl, fun p hn hp => ?_, fun hr a i _ => ?_⟩
    · cases p <;> simp_all [Part.same]
    · first | rfl | simp at hr
  exact keeps_via k w h

theorem keeps_set_pwr_sys {P : List Part} {R : List Field} {s t : State} {v0 : PwrSt} {v1 : SysSt}
    (w : within P R [.pwr, .sys] [] = true) (h : Keeps P R s t) : Keeps P R s { t with pwr := v0, sys := v1 } := by
  have k : Keeps [.pwr, .sys] [] t { t with pwr := v0, sys := v1 } := by
    refine ⟨rfl, fun p hn hp => ?_, fun hr a i _ => ?_⟩
    · cases p <;> simp_all [Part.same]
    · first | rfl | simp at hr
  exact keeps_via k w h

theorem keeps_set_rbk {P : List Part} {R : List Field} {s t : State} {v0 : RbkSt}
    (w : within P R [.rbk] [] = true) (h : Keeps P R s t) : Keeps P R s { t with rbk := v0 } := by
  have k : Keeps [.rbk] [] t { t with rbk := v0 } := by
    refine ⟨rfl, fun p hn hp => ?_, fun hr a i _ => ?_⟩
    · cases p <;> simp_all [Part.same]
    · first | rfl | simp at hr
  exact keeps_via k w h

theorem keeps_set_regs {P : List Part} {R : List Field} {s t : State} {v0 : List (Nat × Word)}
    (w : within P R [.regs] [] = true) (h : Keeps P R s t) : Keeps P R s { t with regs := v0 } := by
  have k : Keeps [.regs] [] t { t with regs := v0 } := by
    refine ⟨rfl, fun p hn hp => ?_, fun hr a i _ => ?_⟩
    · cases p <;> simp_all [Part.same]
    · first | rfl | simp at hr
  exact keeps_via k w h

theorem keeps_set_romPar {P : List Part} {R : List Field} {s t : State} {v0 : List (Nat × Nat)}
    (w : within P R [.romPar] [] = true) (h : Keeps P R s t) : Keeps P R s { t with romPar := v0 } := by
  have k : Keeps [.romPar] [] t { t with romPar := v0 } := by
    refine ⟨rfl, fun p hn hp => ?_, fun hr a i _ => ?_⟩
    · cases p <;> simp_all [Part.same]
    · first | rfl | simp at hr
  exact keeps_via k w h

theorem keeps_set_spn {P : List Part} {R : List Field} {s t : State} {v0 : SpnSt}
    (w : within P R [.spn] [] = true) (h : Keeps P R s t) : Keeps P R s { t with spn := v0 } := by
  have k : Keeps [.spn] [] t { t with spn := v0 } := by
    refine ⟨rfl, fun p hn hp => ?_, fun hr a i _ => ?_⟩
    · cases p <;> simp_all [Part.same]
    · first | rfl | simp at hr
  exact keeps_via k w h

theorem keeps_set_spn_sys {P : List Part} {R : List Field} {s t : State} {v0 : SpnSt} {v1 : SysSt}
    (w : within P R [.spn, .sys] [] = true) (h : Keeps P R s t) : Keeps P R s { t with spn := v0, sys := v1 } := by
  have k : Keeps [.spn, .sys] [] t { t with spn := v0, sys := v1 } := by
    refine ⟨rfl, fun p hn hp => ?_, fun hr a i _ => ?_⟩
    · cases p <;> simp_all [Part.same]
    · first | rfl | simp at hr
  exact keeps_via k w h

theorem keeps_set_spn_sys_vale {P : List Part} {R : List Field} {s t : State} {v0 : SpnSt} {v1 : SysSt} {v2 : ValeSt}
    (w : within P R [.spn, .sys, .vale] [] = true) (h : Keeps P R s t) : Keeps P R s { t with spn := v0, sys := v1, vale := v2 } := by
  have k : Keeps [.spn, .sys, .vale] [] t { t with spn := v0, sys := v1, vale := v2 } := by
    refine ⟨rfl, fun p hn hp => ?_, fun hr a i _ => ?_⟩
    · cases p <;> simp_all [Part.same]
    · first | rfl | simp at hr
  exact keeps_via k w h

theorem keeps_set_sys {P : List Part} {R : List Field} {s t : State} {v0 : SysSt}
    (w : within P R [.sys] [] = true) (h : Keeps P R s t) : Keeps P R s { t with sys := v0 } := by
  have k : Keeps [.sys] [] t { t with sys := v0 } := by
    refine ⟨rfl, fun p hn hp => ?_, fun hr a i _ => ?_⟩
    · cases p <;> simp_all [Part.same]
    · first | rfl | simp at hr
  exact keeps_via k w h

theorem keeps_set_sys_thm {P : List Part} {R : List Field} {s t : State} {v0 : SysSt} {v1 : ThmSt}
    (w : within P R [.sys, .thm] [] = true) (h : Keeps P R s t) : Keeps P R s { t with sys := v0, thm := v1 } := by
  have k : Keeps [.sys, .thm] [] t { t with sys := v0, thm := v1 } := by
    refine ⟨rfl, fun p hn hp => ?_, fun hr a i _ => ?_⟩
    · cases p <;> simp_all [Part.same]
    · first | rfl | simp at hr
  exact keeps_via k w h

theorem keeps_set_thm {P : List Part} {R : List Field} {s t : State} {v0 : ThmSt}
    (w : within P R [.thm] [] = true) (h : Keeps P R s t) : Keeps P R s { t with thm := v0 } := by
  have k : Keeps [.thm] [] t { t with thm := v0 } := by
    refine ⟨rfl, fun p hn hp => ?_, fun hr a i _ => ?_⟩
    · cases p <;> simp_all [Part.same]
    · first | rfl | simp at hr
  exact keeps_via k w h

theorem keeps_set_vale {P : List Part} {R : List Field} {s t : State} {v0 : ValeSt}
    (w : within P R [.vale] [] = true) (h : Keeps P R s t) : Keeps P R s { t with vale := v0 } := by
  have k : Keeps [.vale] [] t { t with vale := v0 } := by
    refine ⟨rfl, fun p hn hp => ?_, fun hr a i _ => ?_⟩
    · cases p <;> simp_all [Part.same]
    · first | rfl | simp at hr
  exact keeps_via k w h

theorem keeps_set_wrpA {P : List Part} {R : List Field} {s t : State} {v0 : WrpSt}
    (w : within P R [.wrp] [] = true) (h : Keeps P R s t) : Keeps P R s { t with wrpA := v0 } := by
  have k : Keeps [.wrp] [] t { t with wrpA := v0 } := by
    refine ⟨rfl, fun p hn hp => ?_, fun hr a i _ => ?_⟩
    · cases p <;> simp_all [Part.same]
    · first | rfl | simp at hr
  exact keeps_via k w h

theorem keeps_set_wrpA_wrpB {P : List Part} {R : List Field} {s t : State} {v0 : WrpSt} {v1 : WrpSt}
    (w : within P R [.wrp] [] = true) (h : Keeps P R s t) : Keeps P R s { t with wrpA := v0, wrpB := v1 } := by
  have k : Keeps [.wrp] [] t { t with wrpA := v0, wrpB := v1 } := by
    refine ⟨rfl, fun p hn hp => ?_, fun hr a i _ => ?_⟩
    · cases p <;> simp_all [Part.same]
    · first | rfl | simp at hr
  exact keeps_via k w h

theorem keeps_set_wrpB {P : List Part} {R : List Field} {s t : State} {v0 : WrpSt}
    (w : within P R [.wrp] [] = true) (h : Keeps P R s t) : Keeps P R s { t with wrpB := v0 } := by
  have k : Keeps [.wrp] [] t { t with wrpB := v0 } := by
    refine ⟨rfl, fun p hn hp => ?_, fun hr a i _ => ?_⟩
    · cases p <;> simp_all [Part.same]
    · first | rfl | simp at hr
  exact keeps_via k w h

theorem keeps_set_xsp {P : List Part} {R : List Field} {s t : State} {v0 : XspSt}
    (w : within P R [.xsp] [] = true) (h : Keeps P R s t) : Keeps P R s { t with xsp := v0 } := by
  have k : Keeps [.xsp] [] t { t with xsp := v0 } := by
    refine ⟨rfl, fun p hn hp => ?_, fun hr a i _ => ?_⟩
    · cases p <;> simp_all [Part.same]
    · first | rfl | simp at hr
  exact keeps_via k w h

end Sys2Proof.Laws
end

