-- ==== Sys2Proof/Tests/Slice0.lean ====
section
/-!
SUPPORT. Tests: ill-formed commands are refused by WellFormed, a few commands are tried on small states against values of the spec's text,
and for every clause of the statements a state and operands that meet its conditions.
-/
set_option Elab.async false

namespace Sys2Proof.Tests

open Sys2Proof Sys2Proof.Machine Sys2Proof.Safety

def nxt (o : Host.Outcome State Fault Refusal) : State := match o with | .next t => t | _ => State.reset
abbrev R0 : State := State.reset
/-- A context that is ACTIVE and queued to both sequencers. -/
def ctx0 : Ctx := { st := 2, kind := 0, port := 0, unit := 0, tag := 0, sq := 0, write := false, lba := 0, len := 4, slot := none, status := 0, credited := 0, finals := 0, xferDone := false, cached := 0, queues := 3, at_ := 0, ordered := false, silent := false, hoq := false, keytag := none, caching := false, ended := none }
/-- A sequencer with slot 0 in RUN at the first word of the SRAM. -/
def run0 : State := R0.setMsq .a { R0.msq .a with ucs := { (R0.msq .a).ucs with disp := definedOpcodes.map (fun o => (o, 0x8000)) }, slots := [(0, { Slot.empty with st := .run, spec := { Arch.empty with pc := 0x20000000 }, comm := { Arch.empty with pc := 0x20000000 } })] }
/-- Fields of an instruction of format R that names no register. -/
def fR : FmtR := { g := false, n := false, p := 0, rd := 0, rs1 := 0, rs2 := 0, i := false, z := false, imm := 0 }
/-- Fields of an instruction of format Q without a qualifier. -/
def fQ : FmtQ := { g := false, n := false, p := 0, aq := 0, qop := 0, ops := 0 }
/-- The same with the heads loaded, head 0 bound to the first channel and head 1 to the second. -/
def runL : State := { run0.setMsq .a { run0.msq .a with pos0 := { (run0.msq .a).pos0 with head := some 0, target := some 5 }, pos1 := { (run0.msq .a).pos1 with head := some 1, target := some 5 } } with sys := { R0.sys with loadedA := true } }
/-- The same with a context bound and a zone of 400 sectors per track for both heads. -/
def runM : State := { (runL.put (Fld.MSQ_CKBASE_BASE .a) 0x20000).setSpec .a 0 { Arch.empty with pc := 0x20000000, ctx := 0 } with mem := { R0.mem with sram := [(0x8000400, some 0x80000000#32), (0x8000401, some 0x00FFFFFF#32), (0x8000402, some 400#32), (0x8001400, some 0x80000000#32), (0x8001401, some 0x00FFFFFF#32), (0x8001402, some 400#32)] } }
/-- The same with a routine in progress at micro-address 16. -/
def runU : State := run0.setMicro .a { Micro.idle with on := true, upc := 16, tpc := 0x20000000 }
/-- Its routine. -/
def uU : Micro := { Micro.idle with on := true, upc := 16, tpc := 0x20000000 }
/-- Operands of a microword of format M that name t0, t0 and t1. -/
def fM : FmtM := { d := 0x40, a := 0x40, b := 0x41 }
/-- A media operation on the first channel whose run is one sector. -/
def mrun (op : MediaOp) : MediaRun := { op := op, chs := 1, count := 1, sec0 := 0, sec1 := 0, skip0 := 0, skip1 := 0, buf0 := 0, buf1 := 0, seed0 := ⟨0, 0⟩, seed1 := ⟨0, 0⟩, ctx := 0 }
/-- A channel that reads that run, with a bit clock of 2 Gbaud. -/
def runR : State := ((((runM.setMsq .a { runM.msq .a with work := [{ mkWork (.media (mrun .read)) 0 none with begun := true }] }).setCh 0 { R0.ch 0 with op := 1 }).wr (Reg.ANG_BPR 0) 16666667#32).wr Reg.ANG_SPEED 42221243#32)
/-- The sector of that run, its sync found at the predicted position. -/
def sec0 : Sec := { item := 1, ctx := 0, read := true, sector := 0, place := 0, spos := 0, lba := 0, gen := 0, set := R0.chSetNow 0, clk := true, sync := some (0, 0), others := [] }
/-- A decode that converges after two iterations. -/
def dec0 : DecodeOut := { weights := [3, 0], crc := true, tag := 0, sramBad := false, agc := 0, tloop := 0, taps := [] }
/-- An offset of re-detection that decodes. -/
def try0 : RedetTry := { inRing := true, weights := [3, 0], crc := true, tag := 0 }
/-- Both Write Guards released, and the laser gate of the first channel held open by a micro-op. -/
def lgW : State := (((R0.setWrp .a { R0.wrp .a with holding := 0, gates := [{ kind := 1, ch := 0, opens := 0, closes := 0, isOpen := true, since := 0 }] }).setWrp .b { R0.wrp .b with holding := 0 }).put (Fld.WRP_CFG_AMODE .a) 1)
/-- The spindle in a state, with RUN as given. -/
def spS (k : Nat) (run : Bool) : State := (R0.put Fld.SPN_STAT_STATE k).putb Fld.SPN_CTL_RUN run
/-- A mailbox request of a code and length in hand. -/
def askS (code len : Nat) : State := ((((R0.putb Fld.HWD_MBCTL_GO true).putb Fld.HWD_STAT_READY true).putb Fld.HWD_STAT_ENTOK true).putb Fld.HWD_STAT_ROOTOK true).put Fld.HWD_MBCMD_CODE code |>.put Fld.HWD_MBCMD_LEN len
/-- The flash with an image header of version 5 and no section at its start. -/
def flashS : State := { R0 with xsp := { R0.xsp with flash := [(0, 0x47), (1, 0x52), (2, 0x4C), (3, 0x4E), (4, 0), (5, 0), (6, 1), (7, 0), (8, 5), (9, 0), (10, 0), (11, 0), (0x1C, 0), (0x1D, 0), (0x1E, 0), (0x1F, 0)] } }
/-- A ring with one job whose descriptor has a first word as given, its source, destination and tag in SRAM, no payload. -/
def gcmS (w0 : Word) : State := { (R0.put Fld.CPH_JOBBASE_BASE 0x20000).put Fld.CPH_JOBPI_INDEX 1 with mem := { R0.mem with sram := [(0x8000000, some w0), (0x8000001, some 0x20001000#32), (0x8000002, some 0x20002000#32), (0x8000003, some 0x20003000#32), (0x8000004, some 0#32), (0x8000005, some 0#32), (0x8000006, some 0#32), (0x8000007, some 0#32), (0x8000008, some 0#32), (0x8000009, some 0#32), (0x800000A, some 0#32)] } }

def gcmD (w0 : Word) : State := { gcmS w0 with mem := { R0.mem with sram := (gcmS w0).mem.sram.take 5 ++ [(0x8000005, some 4#32)] ++ (gcmS w0).mem.sram.drop 6 ++ [(0x8000400, some 0x04030201#32), (0x8000C00, some 0x04030201#32), (0x8000C01, some 0x08070605#32), (0x8000C02, some 0x0C0B0A09#32), (0x8000C03, some 0x100F0E0D#32)] } }
/-- The first m contexts in use. -/
def fullC : Nat → List (Nat × Ctx)
  | 0 => []
  | m + 1 => (m, ctx0) :: fullC m
theorem fullC_find (m n : Nat) (h : n < m) : mfind (fullC m) n = some ctx0 := by
  induction m with
  | zero => omega
  | succ m ih =>
    by_cases e : m = n
    · simp [fullC, mfind, e]
    · simp only [fullC, mfind, e, if_false]; exact ih (by omega)
/-- Every context in use. -/
def fullS : State := { R0 with ccx := { R0.ccx with ctxs := fullC 1024 } }
theorem fullS_free : fullS.freeCtx = none := by
  rw [State.freeCtx, List.find?_eq_none]
  intro n hn
  have e : fullS.ctx n = some ctx0 := fullC_find 1024 n (List.mem_range.mp hn)
  simp [e]
/-- A result that is the value k. -/
def okIs (r : Except Nat Nat) (k : Nat) : Bool := match r with | .ok n => n == k | .error _ => false
theorem of_okIs {r : Except Nat Nat} {k : Nat} (h : okIs r k = true) : r = .ok k := by
  cases r <;> simp_all [okIs]
/-- A flash operation in hand on a device of 256 MiB. -/
def xspS (op ofs n : Nat) : State := (((((R0.putb Fld.XSP_CMD_GO true).put Fld.XSP_CMD_OP op).put Fld.XSP_FADDR_ADDR ofs).put Fld.XSP_LEN_LEN n).putb Fld.XSP_STAT_READY true).put Fld.XSP_STAT_SIZE 2
/-- A trace of every source into a ring at the start of the SRAM, with its write position. -/
def trcS (ofs : Nat) : State := (((((R0.put Fld.HWD_STAT_DBGLVL 1).putb Fld.DBG_TRCCFG_EN true).put Fld.DBG_TRCCFG_SRC 15).put Fld.DBG_TRCCFG_SIZE 1).wr Reg.DBG_TRCBASE 0x20000000#32).put Fld.DBG_TRCWP_OFFSET ofs
/-- VALE on, in slot 5, with the sender 3 known under its key. -/
def valeS : State := { R0.putb Fld.VALE_CFG_EN true with pins := { R0.pins with slotid := 5, canopy := true }, vale := { R0.vale with counters := [(3, 0x100)] }, now := 1000000000 }
/-- A message of the sender 3 that passes. -/
def rx3 : ValeRx := { sender := 3, seq := 5, macTx := true, macAlt := false }
/-- A message of the sender 3 that fails its MAC. -/
def rx3f : ValeRx := { sender := 3, seq := 5, macTx := false, macAlt := false }
/-- The same with the spindle in regulation. -/
def valeR : State := (valeS.putb Fld.SPN_CTL_RUN true).putb Fld.SPN_STAT_INREG true
/-- A drive that runs with heads loaded. -/
def flyS : State := { (R0.putb Fld.SPN_CTL_RUN true).put Fld.SYS_MODE_MODE 5 with sys := { R0.sys with inregSince := true, loadedA := true } }
/-- An occurrence that firmware makes. -/
def occF : Occ := { ty := 3, src := 32, code := 5, count := 1, t0 := 0, ats0 := 0, t1 := 0, ats1 := 0, ctx := 0x400, mode := 0, stat := 0#32, d0 := 0#32, d1 := 0#32, d2 := 0#32 }
/-- Straps of a drive with a usable flash. -/
def strapS : Straps := { hifsel := false, spinup := false, gen7 := true, slotid := 3, canopy := false, flash := { found := true, octal := true, size := 2 }, pairs := 15 }

/-! ### Commands that WellFormed refuses -/

theorem wf_refuses_laneFailure : Instr.wf (.laneFailure 9) = false := by decide

theorem wf_refuses_registerWrite : Instr.wf (.registerWrite .lc0 0x80000002 0#32) = false := by decide

theorem wf_refuses_latRead : Instr.wf (.latRead .lc0 0x80010001) = false := by decide

theorem wf_refuses_lathWrite : Instr.wf (.lathWrite .lc0 0x80010003 0#32) = false := by decide

theorem wf_refuses_latWrite : Instr.wf (.latWrite .lc0 0x80010002 0#32) = false := by decide

theorem wf_refuses_access64bit : Instr.wf (.access64bit .lc0 true 0x80010004 0#64) = false := by decide

theorem wf_refuses_narrowWrite : Instr.wf (.narrowWrite .lc0 0x80010001 true 0#16) = false := by decide

theorem wf_refuses_accessFault : Instr.wf (.accessFault .lc0 .load 4 0) = false := by decide

theorem wf_refuses_servoCorrection : Instr.wf (.servoCorrection 2048) = false := by decide

theorem wf_refuses_bemfCorrection : Instr.wf (.bemfCorrection 0 0x100000000) = false := by decide

theorem wf_refuses_comparatorFire : Instr.wf (.comparatorFire .a 64) = false := by decide

theorem wf_refuses_slotResume : Instr.wf (.slotResume .a 16) = false := by decide

theorem wf_refuses_slotDiscard : Instr.wf (.slotDiscard .b 16) = false := by decide

theorem wf_refuses_slotAbort : Instr.wf (.slotAbort .a 16) = false := by decide

theorem wf_refuses_slotdoneClear : Instr.wf (.slotdoneClear .b 16) = false := by decide

theorem wf_refuses_wedgeCheck : Instr.wf (.wedgeCheck .a 2048) = false := by decide

theorem wf_refuses_controlStoreParity : Instr.wf (.controlStoreParity .a 0x5001) = false := by decide

theorem wf_refuses_monitorRead : Instr.wf (.monitorRead .a false (some 4096)) = false := by decide

theorem wf_refuses_headContact : Instr.wf (.headContact .a 12) = false := by decide

theorem wf_refuses_laserPowerSample : Instr.wf (.laserPowerSample 0 4096) = false := by decide

theorem wf_refuses_heaterSample : Instr.wf (.heaterSample 3 4096) = false := by decide

theorem wf_refuses_followingError : Instr.wf (.followingError 13) = false := by decide

theorem wf_refuses_outputSaturation : Instr.wf (.outputSaturation 3) = false := by decide

theorem wf_refuses_bankSwap : Instr.wf (.bankSwap 3) = false := by decide

theorem wf_refuses_uactOvercurrent : Instr.wf (.uactOvercurrent 4) = false := by decide

theorem wf_refuses_bemfCrossing : Instr.wf (.bemfCrossing 6 0 false) = false := by decide

theorem wf_refuses_probeComplete : Instr.wf (.probeComplete [1, 2, 3]) = false := by decide

theorem wf_refuses_ovRelease : Instr.wf (.ovRelease 4 12000) = false := by decide

theorem wf_refuses_ovRelease_zero : Instr.wf (.ovRelease 0 12000) = false := by decide

theorem wf_refuses_vcorePhaseDrop : Instr.wf (.vcorePhaseDrop 3) = false := by decide

theorem wf_refuses_thmSample : Instr.wf (.thmSample [] none none) = false := by decide

theorem wf_refuses_tjShut : Instr.wf (.tjShut 6 130) = false := by decide

theorem wf_refuses_rankRetrain : Instr.wf (.rankRetrain 2) = false := by decide

theorem wf_refuses_rankRetrainDone : Instr.wf (.rankRetrainDone 2) = false := by decide

theorem wf_refuses_segmentRelease : Instr.wf (.segmentRelease 0x4000) = false := by decide

theorem wf_refuses_keyActivation : Instr.wf (.keyActivation true 64) = false := by decide

theorem wf_refuses_eraseComplete : Instr.wf (.eraseComplete false 4096) = false := by decide

theorem wf_refuses_counterReservation : Instr.wf (.counterReservation 64 true) = false := by decide

theorem wf_refuses_ctxAdmit : Instr.wf (.ctxAdmit 1024) = false := by decide

theorem wf_refuses_ctxQueuea : Instr.wf (.ctxQueuea 1024) = false := by decide

theorem wf_refuses_ctxQueueb : Instr.wf (.ctxQueueb 1024) = false := by decide

theorem wf_refuses_ctxCache : Instr.wf (.ctxCache 1024) = false := by decide

theorem wf_refuses_ctxZero : Instr.wf (.ctxZero 1024) = false := by decide

theorem wf_refuses_ctxEnd : Instr.wf (.ctxEnd 1024 0) = false := by decide

theorem wf_refuses_ccxPop : Instr.wf (.ccxPop .lc0 3) = false := by decide

theorem wf_refuses_contextComplete : Instr.wf (.contextComplete 1024) = false := by decide

theorem wf_refuses_contextTimeout : Instr.wf (.contextTimeout 1024) = false := by decide

theorem wf_refuses_mgtRead : Instr.wf (.mgtRead 257) = false := by decide

theorem wf_refuses_mboxcall : Instr.wf (.mboxcall false 256 []) = false := by decide

theorem wf_refuses_hostDataTransfer : Instr.wf (.hostDataTransfer 1024 false [] []) = false := by decide

theorem wf_refuses_hostLinkChange : Instr.wf (.hostLinkChange 3 0 0 false) = false := by decide

theorem wf_accepts_laneFailure : Instr.wf (.laneFailure 8) = true := by decide

theorem wf_accepts_wedgeCheck : Instr.wf (.wedgeCheck .b 2047) = true := by decide

/-! ### Words of the two kinds that the spec encodes (R129, R131, R132, R236) -/

theorem reads_add : decodeTableWord 64 0b0010001010010000110001000000001000000000000000000000000000000101 =
    some (.add .a { g := true, n := false, p := 1, rd := 3, rs1 := 4, rs2 := 0, i := true, z := false, imm := 5 }) := by decide

theorem reads_seek : decodeTableWord 64 0b0100000001100110000000000000000000000001000000000000001000000011 =
    some (.seek .a { g := false, n := true, p := 2, aq := 1, qop := 0x2000001, ops := 0x203 }) := by decide

theorem reads_uop_ldi : decodeTableWord 32 0b01100100000111000000000000000001 = some (.uopLdi .a 3 0x40001) := by decide

theorem reads_uop_mul : decodeTableWord 32 0b01111100000010000010100000000000 = some (.uopMul .a { d := 1, a := 2, b := 64 }) := by decide

theorem reads_no_undefined_opcode : decodeTableWord 64 0x0900000000000000 = none := by decide


/-! ### IdleStepTicks -/

def w_IdleStepTicks_1 : State := R0
theorem wit_IdleStepTicks_1 : w_IdleStepTicks_1.pending = [] := by decide +kernel

/-! ### LinkLane -/

def w_LinkLane_2 : State := (R0.putb Fld.SYS_D2DSTAT_TRAINED true)
theorem wit_LinkLane_2 : 7 < 8 ∧ w_LinkLane_2.flag Fld.SYS_D2DSTAT_TRAINED = true ∧ w_LinkLane_2.flag Fld.SYS_D2DSTAT_SPARE_USED = false ∧
      w_LinkLane_2.flag Fld.SYS_D2DSTAT_HALF = false ∧ w_LinkLane_2.d2d.remapSent = false ∧ w_LinkLane_2.d2d.bad.testBit 8 = false := by
      decide +kernel

def w_LinkLane_3 : State := ((R0.putb Fld.SYS_D2DSTAT_TRAINED true).putb Fld.SYS_D2DSTAT_SPARE_USED true)
theorem wit_LinkLane_3 : 0 < 8 ∧ w_LinkLane_3.flag Fld.SYS_D2DSTAT_TRAINED = true ∧ w_LinkLane_3.flag Fld.SYS_D2DSTAT_SPARE_USED = true :=
      by decide +kernel

def w_LinkLane_4 : State := { R0 with d2d := { R0.d2d with remapSent := true } }
theorem wit_LinkLane_4 : w_LinkLane_4.d2d.remapSent = true := by decide +kernel

def w_LinkLane_5 : State := { R0 with d2d := { R0.d2d with remapSent := true, remapAcked := true, remapLane := 5 } }
theorem wit_LinkLane_5 : w_LinkLane_5.d2d.remapAcked = true := by decide +kernel

/-! ### LinkLoss -/

def w_LinkLoss_1 : State :=
      { R0 with d2d := { R0.d2d with remapSent := true, remapAcked := true, remapLane := 5, limitUs := 8 }, now := 6400 }
theorem wit_LinkLoss_1 : w_LinkLoss_1.d2d.remapAcked = true ∧ w_LinkLoss_1.d2d.ackAt + w_LinkLoss_1.d2d.limitUs * 800 ≤ w_LinkLoss_1.now
      := by decide +kernel

def w_LinkLoss_3 : State := (R0.putb Fld.SYS_D2DSTAT_TRAINED false)
theorem wit_LinkLoss_3 : w_LinkLoss_3.flag Fld.SYS_D2DSTAT_TRAINED = false ∧ w_LinkLoss_3.pwr.bor = false ∧ w_LinkLoss_3.pins.resetL =
      false ∧ w_LinkLoss_3.d2d.reads = [] ∧ 8 ≤ popcount 9 (0x1F7#9).toNat := by decide +kernel

def w_LinkLoss_4 : State := (R0.putb Fld.SYS_D2DSTAT_TRAINED false)
theorem wit_LinkLoss_4 : w_LinkLoss_4.flag Fld.SYS_D2DSTAT_TRAINED = false ∧ w_LinkLoss_4.pwr.bor = false ∧ w_LinkLoss_4.pins.resetL =
      false ∧ w_LinkLoss_4.d2d.reads = [] ∧ 4 ≤ popcount 9 (0x0F#9).toNat ∧ popcount 9 (0x0F#9).toNat < 8 := by decide +kernel

def w_LinkLoss_5 : State := { (R0.putb Fld.SYS_D2DSTAT_TRAINED false) with d2d := { R0.d2d with reads := [(.lc0, 4, 0x80010000)] } }
theorem wit_LinkLoss_5 : w_LinkLoss_5.flag Fld.SYS_D2DSTAT_TRAINED = false ∧ w_LinkLoss_5.pwr.bor = false ∧ w_LinkLoss_5.pins.resetL =
      false ∧ 4 ≤ popcount 9 (0x1FF#9).toNat ∧ w_LinkLoss_5.d2d.reads = [(.lc0, 4, 0x80010000)] := by decide +kernel

def w_LinkLoss_6 : State := { R0 with pwr := { R0.pwr with bor := true } }
theorem wit_LinkLoss_6 : w_LinkLoss_6.pwr.bor = true := by decide +kernel

def w_LinkLoss_7 : State := (R0.putb Fld.SYS_D2DSTAT_TRAINED false)
theorem wit_LinkLoss_7 : w_LinkLoss_7.flag Fld.SYS_D2DSTAT_TRAINED = false ∧ w_LinkLoss_7.pwr.bor = false ∧ w_LinkLoss_7.pins.resetL =
      false ∧ popcount 9 (0x07#9).toNat < 4 := by decide +kernel

def w_LinkLoss_8 : State := ((R0.putb Fld.SYS_D2DSTAT_TRAINED true).putb Fld.SYS_D2DSTAT_SAFE true)
theorem wit_LinkLoss_8 : w_LinkLoss_8.flag Fld.SYS_D2DSTAT_TRAINED = true ∧ w_LinkLoss_8.flag Fld.SYS_D2DSTAT_SAFE = true := by
      decide +kernel

def w_LinkLoss_9 : State := (R0.putb Fld.SYS_D2DSTAT_TRAINED false)
theorem wit_LinkLoss_9 : w_LinkLoss_9.flag Fld.SYS_D2DSTAT_TRAINED = false := by decide +kernel

/-! ### RegisterAccess -/

def w_RegisterAccess_1 : State := R0
theorem wit_RegisterAccess_1 : w_RegisterAccess_1.reaches Initiator.lc1 = true ∧ w_RegisterAccess_1.accessKind 2 0x800E0000 .store = none
      ∧ inRegs 0x800E0000 = true ∧ w_RegisterAccess_1.fusedOff 0x800E0000 = false ∧ (0x800E0000 - 0x80000000) / 0x10000 ∈ [14, 15, 18, 24,
      26] ∧ regDesc 0x800E0000 = some (((some Act.a)), ((({ off := 0x0, reset := 0x0, clr := .actuator, w1c := 0x107 } : RegDesc)))) ∧
      ((({ off := 0x0, reset := 0x0, clr := .actuator, w1c := 0x107 } : RegDesc))).keep = [] := by decide +kernel

def w_RegisterAccess_2 : State := R0
theorem wit_RegisterAccess_2 : (latOf Reg.ANG_NOW = some (Reg.ANG_NOW, false) ∨ latOf Reg.ANG_NOW = some (Reg.ANG_NOW, true)) ∧
      w_RegisterAccess_2.reaches Initiator.lc0 = true ∧ w_RegisterAccess_2.accessKind 2 Reg.ANG_NOW .load = none ∧ inRegs Reg.ANG_NOW =
      true ∧ w_RegisterAccess_2.fusedOff Reg.ANG_NOW = false ∧ rbkWindow Reg.ANG_NOW = false ∧ w_RegisterAccess_2.powerWaits Reg.ANG_NOW =
      false := by decide +kernel

def w_RegisterAccess_3 : State := R0
theorem wit_RegisterAccess_3 : Reg.SAS_ADDRB ∈ [Reg.SAS_ADDRA, Reg.SAS_ADDRB] ∧ w_RegisterAccess_3.reaches Initiator.lc0 = true ∧
      w_RegisterAccess_3.accessKind 2 (Reg.SAS_ADDRB + 4) .store = none := by decide +kernel

def w_RegisterAccess_4 : State := (R0.setHolding .lc0 Reg.SAS_ADDRA 9#32)
theorem wit_RegisterAccess_4 : Reg.SAS_ADDRA ∈ [Reg.SAS_ADDRA, Reg.SAS_ADDRB] ∧ w_RegisterAccess_4.reaches Initiator.lc0 = true ∧
      w_RegisterAccess_4.accessKind 2 Reg.SAS_ADDRA .store = none := by decide +kernel

def w_RegisterAccess_5 : State := R0
theorem wit_RegisterAccess_5 : Reg.SAS_ADDRB ∈ [Reg.SAS_ADDRA, Reg.SAS_ADDRB] ∧ w_RegisterAccess_5.reaches Initiator.lc1 = true ∧
      w_RegisterAccess_5.accessKind 3 Reg.SAS_ADDRB .store = none := by decide +kernel

def w_RegisterAccess_6 : State := R0
theorem wit_RegisterAccess_6 : w_RegisterAccess_6.reaches Initiator.lc1 = true ∧ w_RegisterAccess_6.accessKind (b2n true) 0x80FFFFFE
      .store = none ∧ inRegs 0x80FFFFFE = true ∧ w_RegisterAccess_6.flag Fld.SYS_BUSERR_VALID = false := by decide +kernel

def w_RegisterAccess_7 : State := (R0.putb Fld.SYS_BUSERR_VALID true)
theorem wit_RegisterAccess_7 : w_RegisterAccess_7.reaches Initiator.lc1 = true ∧ w_RegisterAccess_7.accessKind (b2n false) 0x80000000
      .store = none ∧ inRegs 0x80000000 = true ∧ w_RegisterAccess_7.flag Fld.SYS_BUSERR_VALID = true := by decide +kernel

def w_RegisterAccess_8 : State := R0
theorem wit_RegisterAccess_8 : w_RegisterAccess_8.reaches Initiator.lc0 = true ∧ 2 ≤ 3 ∧ w_RegisterAccess_8.accessKind 2 0x80000000
      AccKind.fetch = some 7 ∧ w_RegisterAccess_8.flag Fld.SYS_BUSERR_VALID = false := by decide +kernel

/-! ### AngleSources -/

def w_AngleSources_1 : State := ((R0.putb Fld.ANG_CFG_SERVOEN true).setMsq .a
      { R0.msq .a with pos0 := { (R0.msq .a).pos0 with head := some 0 } })
theorem wit_AngleSources_1 : (w_AngleSources_1.msq w_AngleSources_1.master).pos0.head = some 0 ∧ w_AngleSources_1.flag Fld.ANG_CFG_SERVOEN
      = true ∧ w_AngleSources_1.servoFrozen w_AngleSources_1.master = false ∧ ¬ w_AngleSources_1.get Fld.ANG_CFG_WEDGES ≤ 5 := by
      decide +kernel

def w_AngleSources_2 : State := ((R0.putb Fld.SPN_STAT_BEMFOK true).put Fld.ANG_STAT_SRC 1)
theorem wit_AngleSources_2 : w_AngleSources_2.bemfForward = true ∧ w_AngleSources_2.get Fld.ANG_STAT_SRC = 1 := by decide +kernel

def w_AngleSources_3 : State := (((R0.putb Fld.ANG_CFG_BEMFEN true).putb Fld.SPN_STAT_BEMFOK true).put Fld.ANG_STAT_SRC 2)
theorem wit_AngleSources_3 : w_AngleSources_3.bemfUsable = true ∧ w_AngleSources_3.get Fld.ANG_STAT_SRC = 2 := by decide +kernel

def w_AngleSources_4 : State :=
      { (((R0.putb Fld.ANG_CFG_SERVOEN true).putb Fld.ANG_STAT_VALID true)) with ang := { R0.ang with servoAt := some 0 } }
theorem wit_AngleSources_4 : w_AngleSources_4.flag Fld.ANG_STAT_VALID = true ∧ w_AngleSources_4.servoWithin 3 = true := by decide +kernel

def w_AngleSources_5 : State := ((((R0.putb Fld.ANG_CFG_BEMFEN true).putb Fld.SPN_STAT_BEMFOK true).put Fld.ANG_STAT_SRC 1).putb
      Fld.ANG_STAT_VALID true)
theorem wit_AngleSources_5 : w_AngleSources_5.flag Fld.ANG_STAT_VALID = true ∧ w_AngleSources_5.servoWithin 3 = false ∧
      w_AngleSources_5.bemfUsable = true ∧ w_AngleSources_5.ang.servoSince = false := by decide +kernel

def w_AngleSources_6 : State :=
      { (((R0.put Fld.ANG_STAT_SRC 1).wr Reg.ANG_SPEED 0x10000#32).putb Fld.ANG_STAT_VALID true) with ang := { R0.ang with corrAt := some 0 } }
theorem wit_AngleSources_6 : w_AngleSources_6.flag Fld.ANG_STAT_VALID = true ∧ w_AngleSources_6.servoWithin 3 = false ∧
      (w_AngleSources_6.bemfUsable && !w_AngleSources_6.ang.servoSince) = false ∧ w_AngleSources_6.freeHolds = true := by decide +kernel

def w_AngleSources_7 : State :=
      { (((R0.putb Fld.ANG_CFG_BEMFEN true).putb Fld.SPN_STAT_BEMFOK true).putb Fld.ANG_STAT_VALID true) with ang := { R0.ang with servoSince := true } }
theorem wit_AngleSources_7 : w_AngleSources_7.flag Fld.ANG_STAT_VALID = true ∧ w_AngleSources_7.servoWithin 3 = false ∧
      w_AngleSources_7.ang.servoSince = true ∧ w_AngleSources_7.freeHolds = false ∧ w_AngleSources_7.bemfUsable = true := by
      decide +kernel

def w_AngleSources_8 : State := (R0.putb Fld.ANG_STAT_VALID true)
theorem wit_AngleSources_8 : w_AngleSources_8.flag Fld.ANG_STAT_VALID = true ∧ w_AngleSources_8.servoWithin 3 = false ∧
      w_AngleSources_8.bemfUsable = false ∧ w_AngleSources_8.freeHolds = false := by decide +kernel

def w_AngleSources_9 : State := R0
theorem wit_AngleSources_9 : w_AngleSources_9.flag Fld.ANG_STAT_VALID = false := by decide +kernel

def w_AngleSources_10 : State := (R0.putb Fld.ANG_STAT_VALID true)
theorem wit_AngleSources_10 : w_AngleSources_10.flag Fld.ANG_STAT_VALID = true ∧ w_AngleSources_10.servoWithin 3 = false ∧
      w_AngleSources_10.bemfUsable = false ∧ w_AngleSources_10.freeHolds = false := by decide +kernel

def w_AngleSources_11 : State := (R0.putb Fld.ANG_CFG_AUTOMASTER true)
theorem wit_AngleSources_11 : w_AngleSources_11.flag Fld.ANG_CFG_AUTOMASTER = true ∧ w_AngleSources_11.isSN = false ∧
      w_AngleSources_11.servoWithin 4 = false ∧ w_AngleSources_11.ang.masterWas = none := by decide +kernel

def w_AngleSources_12 : State := { (R0.putb Fld.ANG_CFG_AUTOMASTER true) with ang := { R0.ang with masterWas := some (0, true) } }
theorem wit_AngleSources_12 : w_AngleSources_12.flag Fld.ANG_CFG_AUTOMASTER = true ∧ w_AngleSources_12.isSN = false ∧
      w_AngleSources_12.servoWithin 4 = false ∧ w_AngleSources_12.ang.masterWas = some (w_AngleSources_12.now, true) := by decide +kernel

def w_AngleSources_13 : State := { R0.putb Fld.ANG_CFG_SERVOEN true with ang := { R0.ang with servoAt := some 0 } }
theorem wit_AngleSources_13 : w_AngleSources_13.servoWithin 4 = true := by decide +kernel

/-! ### ComparatorFires -/

def w_ComparatorFires_1 : State := (R0.setCmps .a [(4, { target := 9, dest := 3, hit := true })])
theorem wit_ComparatorFires_1 : mfind (w_ComparatorFires_1.cmps .a) 4 = some ((⟨9, 3, true⟩ : Cmp)) ∧ ((⟨9, 3, true⟩ : Cmp)).hit = true ∧
      ((⟨9, 3, true⟩ : Cmp)).dest = 3 := by decide +kernel

def w_ComparatorFires_2 : State := ((R0.setCmps .a [(4, { target := 9, dest := 4, hit := true })]).setPlk .a
      { R0.plk .a with hsel := some 0x13#32 })
theorem wit_ComparatorFires_2 : mfind (w_ComparatorFires_2.cmps .a) 4 = some ((⟨9, 4, true⟩ : Cmp)) ∧ ((⟨9, 4, true⟩ : Cmp)).hit = true ∧
      ((⟨9, 4, true⟩ : Cmp)).dest = 4 ∧ (w_ComparatorFires_2.plk .a).hsel = some (0x13#32) := by decide +kernel

def w_ComparatorFires_3 : State := (R0.setCmps .a [(4, { target := 9, dest := 5, hit := true })])
theorem wit_ComparatorFires_3 : mfind (w_ComparatorFires_3.cmps .a) 4 = some ((⟨9, 5, true⟩ : Cmp)) ∧ ((⟨9, 5, true⟩ : Cmp)).hit = true ∧
      5 ≤ ((⟨9, 5, true⟩ : Cmp)).dest := by decide +kernel

def w_ComparatorFires_4 : State := R0
theorem wit_ComparatorFires_4 : mfind (w_ComparatorFires_4.cmps .b) 63 = none := by decide +kernel

def w_ComparatorFires_5 : State := (R0.setCmps .b [(4, { target := 9, dest := 3, hit := false })])
theorem wit_ComparatorFires_5 : mfind (w_ComparatorFires_5.cmps .b) 4 = some ((⟨9, 3, false⟩ : Cmp)) ∧ ((⟨9, 3, false⟩ : Cmp)).hit = false
      := by decide +kernel

/-! ### Submission -/

def w_Submission_1 : State := (R0.setMsq .a
      { R0.msq .a with slots := (List.range 16).map (fun k => (k, { Slot.empty with st := .ready })) })
theorem wit_Submission_1 : w_Submission_1.actOk .a = true ∧ (w_Submission_1.msq .a).subWait = none ∧ (w_Submission_1.msq .a).lowestFree =
      none := by decide +kernel

def w_Submission_2 : State := (R0.wr (Reg.MSQ_SUBPC .a) 0x20000008#32)
theorem wit_Submission_2 : w_Submission_2.actOk .a = true ∧ (w_Submission_2.msq .a).subWait = none ∧ (w_Submission_2.msq .a).subAgain =
      false ∧ (w_Submission_2.msq .a).lowestFree = some 0 ∧ w_Submission_2.flag (Fld.MSQ_SUBCTL_RESUME .a) = false ∧ (w_Submission_2.rd
      (Reg.MSQ_SUBPC .a)).toNat % 8 = 0 ∧ 0x20000000 ≤ (w_Submission_2.rd (Reg.MSQ_SUBPC .a)).toNat ∧ (w_Submission_2.rd (Reg.MSQ_SUBPC
      .a)).toNat + 8 ≤ 0x20800000 := by decide +kernel

def w_Submission_3 : State := (R0.wr (Reg.MSQ_SUBPC .b) 0x20000004#32)
theorem wit_Submission_3 : w_Submission_3.actOk .b = true ∧ (w_Submission_3.msq .b).subWait = none ∧ (w_Submission_3.msq .b).subAgain =
      false ∧ (w_Submission_3.msq .b).lowestFree = some 0 ∧ w_Submission_3.flag (Fld.MSQ_SUBCTL_RESUME .b) = false ∧ (w_Submission_3.rd
      (Reg.MSQ_SUBPC .b)).toNat % 8 ≠ 0 := by decide +kernel

def w_Submission_4 : State := R0.setMsq .a
      { R0.msq .a with subWait := some 2, subAgain := true, slots := (List.range 16).map (fun k => (k, { Slot.empty with st := .done })) }
theorem wit_Submission_4 : (w_Submission_4.msq .a).subAgain = true ∧ (w_Submission_4.msq .a).subWait = some 2 ∧ (w_Submission_4.msq
      .a).lowestFree = none := by decide +kernel

def w_Submission_5 : State :=
      { ((R0.put (Fld.MSQ_CKBASE_BASE .a) 0x20000).setMsq .a { R0.msq .a with subWait := some 2 }) with mem := { R0.mem with sram := (List.range 57).map (fun i => (0x8000000 + 128 + i, some 0#32)) }, ccx := { R0.ccx with ctxs := [(0, ctx0)] } }
theorem wit_Submission_5 : (w_Submission_5.msq .a).subAgain = false ∧ (w_Submission_5.msq .a).subWait = some 2 ∧ (w_Submission_5.msq
      .a).lowestFree = some 0 ∧ ((w_Submission_5.loadCkpt .a 2).2.bindOk .a (w_Submission_5.loadCkpt .a 2).1.1.ctx &&
      (w_Submission_5.loadCkpt .a 2).2.allocSeq (w_Submission_5.loadCkpt .a 2).1.1.ctx % 2 ^ 16 == (w_Submission_5.loadCkpt .a 2).1.2.2) =
      true := by decide +kernel

def w_Submission_6 : State :=
      { ((R0.put (Fld.MSQ_CKBASE_BASE .a) 0x20000).setMsq .a { R0.msq .a with subWait := some 2 }) with mem := { R0.mem with sram := (List.range 57).map (fun i => (0x8000000 + 128 + i, some 0#32)) } }
theorem wit_Submission_6 : (w_Submission_6.msq .a).subAgain = false ∧ (w_Submission_6.msq .a).subWait = some 2 ∧ (w_Submission_6.msq
      .a).lowestFree = some 0 ∧ ((w_Submission_6.loadCkpt .a 2).2.bindOk .a (w_Submission_6.loadCkpt .a 2).1.1.ctx &&
      (w_Submission_6.loadCkpt .a 2).2.allocSeq (w_Submission_6.loadCkpt .a 2).1.1.ctx % 2 ^ 16 == (w_Submission_6.loadCkpt .a 2).1.2.2) =
      false := by decide +kernel

def w_Submission_7 : State := ((R0.putb (Fld.MSQ_CTL_HOLD .a) false).setSlot .a 5 { Slot.empty with st := .ready })
theorem wit_Submission_7 : w_Submission_7.actOk .a = true ∧ (w_Submission_7.msq .a).running = none ∧ w_Submission_7.flag (Fld.MSQ_CTL_HOLD
      .a) = false ∧ w_Submission_7.flag (Fld.UCS_SAPCTL_LOAD .a) = false ∧ w_Submission_7.ploading .a = false ∧ (w_Submission_7.msq
      .a).nextReady = some 5 := by
  refine ⟨?_, ?_, ?_, ?_, ?_, ?_⟩ <;> first | decide +kernel | rfl

def w_Submission_8 : State := (R0.putb (Fld.MSQ_CTL_HOLD .a) true)
theorem wit_Submission_8 : w_Submission_8.actOk .a = true ∧ (w_Submission_8.msq .a).running = none ∧ w_Submission_8.flag (Fld.MSQ_CTL_HOLD
      .a) = true := by decide +kernel

/-! ### SlotCommands -/

def w_SlotCommands_1 : State := (R0.setSlot .a 15 { Slot.empty with st := .fault, fcode := 3 })
theorem wit_SlotCommands_1 : w_SlotCommands_1.actOk .a = true ∧ 15 < 16 ∧ ((w_SlotCommands_1.msq .a).slot 15).st = .fault := by
      decide +kernel

def w_SlotCommands_2 : State := R0
theorem wit_SlotCommands_2 : 15 < 16 ∧ ((w_SlotCommands_2.msq .a).slot 15).st ≠ .fault := by decide +kernel

def w_SlotCommands_3 : State := (R0.setSlot .a 15 { Slot.empty with st := .fault, fcode := 3 })
theorem wit_SlotCommands_3 : w_SlotCommands_3.actOk .a = true ∧ 15 < 16 ∧ ((w_SlotCommands_3.msq .a).slot 15).st = .fault := by
      decide +kernel

def w_SlotCommands_4 : State := (R0.setSlot .a 0 { Slot.empty with st := .ready })
theorem wit_SlotCommands_4 : w_SlotCommands_4.actOk .a = true ∧ 0 < 16 ∧ ((w_SlotCommands_4.msq .a).slot 0).st = .ready := by
      decide +kernel

def w_SlotCommands_5 : State := (R0.setSlot .a 0 { Slot.empty with st := .ready })
theorem wit_SlotCommands_5 : w_SlotCommands_5.actOk .a = true ∧ 0 < 16 ∧ ((w_SlotCommands_5.msq .a).slot 0).st = .ready := by
      decide +kernel

def w_SlotCommands_6 : State := R0
theorem wit_SlotCommands_6 : 15 < 16 ∧ ((w_SlotCommands_6.msq .a).slot 15).st ≠ .fault ∧ ((w_SlotCommands_6.msq .a).slot 15).st ≠ .ready
      := by decide +kernel

def w_SlotCommands_7 : State := (R0.setSlot .a 15 { Slot.empty with st := .fault, fcode := 3 })
theorem wit_SlotCommands_7 : w_SlotCommands_7.actOk .a = true ∧ 15 < 16 ∧ ((w_SlotCommands_7.msq .a).slot 15).st = .fault := by
      decide +kernel

def w_SlotCommands_8 : State := R0
theorem wit_SlotCommands_8 : 15 < 16 ∧ (((w_SlotCommands_8.msq .a).slot 15).st = .free ∨ ((w_SlotCommands_8.msq .a).slot 15).st = .done)
      := by decide +kernel

def w_SlotCommands_9 : State := run0
theorem wit_SlotCommands_9 : w_SlotCommands_9.actOk .a = true ∧ 0 < 16 ∧ (w_SlotCommands_9.msq .a).running = some 0 ∧
      (w_SlotCommands_9.msq .a).sqWait = false ∧ ((w_SlotCommands_9.msq .a).slot 0).st = .run := by decide +kernel

def w_SlotCommands_10 : State := (R0.setSlot .a 0 { Slot.empty with st := .run })
theorem wit_SlotCommands_10 : w_SlotCommands_10.actOk .a = true ∧ 0 < 16 ∧ ((w_SlotCommands_10.msq .a).slot 0).st = .run := by
      decide +kernel

def w_SlotCommands_11 : State := (R0.setSlot .a 0 { Slot.empty with st := .done })
theorem wit_SlotCommands_11 : 0 < 16 ∧ ((w_SlotCommands_11.msq .a).slot 0).st = .done := by decide +kernel

/-! ### Arithmetic -/

def w_Arithmetic_1 : State := run0
theorem wit_Arithmetic_1 : Issues w_Arithmetic_1 .a 0x22 0 ({ fR with rd := 0x33, rs1 := 0x34, i := true, imm := 5 }).g
      ({ fR with rd := 0x33, rs1 := 0x34, i := true, imm := 5 }).n ({ fR with rd := 0x33, rs1 := 0x34, i := true, imm := 5 }).p ∧
      (w_Arithmetic_1.msq .a).work = [] ∧ ({ fR with rd := 0x33, rs1 := 0x34, i := true, imm := 5 }).z = false ∧ writable
      ({ fR with rd := 0x33, rs1 := 0x34, i := true, imm := 5 }).rd = true ∧ readable
      ({ fR with rd := 0x33, rs1 := 0x34, i := true, imm := 5 }).rs1 = true ∧
      ({ fR with rd := 0x33, rs1 := 0x34, i := true, imm := 5 }).opBLegal = true := by
  refine ⟨⟨?_, ?_, ?_, ?_, ?_, ?_, ?_⟩, ?_, ?_, ?_, ?_, ?_⟩ <;> first | decide +kernel | rfl

def w_Arithmetic_2 : State := run0
theorem wit_Arithmetic_2 : Issues w_Arithmetic_2 .a 0x23 0 ({ fR with rd := 0x33, rs1 := 0x34, i := true, imm := 5 }).g
      ({ fR with rd := 0x33, rs1 := 0x34, i := true, imm := 5 }).n ({ fR with rd := 0x33, rs1 := 0x34, i := true, imm := 5 }).p ∧
      (w_Arithmetic_2.msq .a).work = [] ∧ ({ fR with rd := 0x33, rs1 := 0x34, i := true, imm := 5 }).z = false ∧ writable
      ({ fR with rd := 0x33, rs1 := 0x34, i := true, imm := 5 }).rd = true ∧ readable
      ({ fR with rd := 0x33, rs1 := 0x34, i := true, imm := 5 }).rs1 = true ∧
      ({ fR with rd := 0x33, rs1 := 0x34, i := true, imm := 5 }).opBLegal = true := by
  refine ⟨⟨?_, ?_, ?_, ?_, ?_, ?_, ?_⟩, ?_, ?_, ?_, ?_, ?_⟩ <;> first | decide +kernel | rfl

def w_Arithmetic_3 : State := run0
theorem wit_Arithmetic_3 : Issues w_Arithmetic_3 .a 0x24 0 ({ fR with rd := 0x33, rs1 := 0x34, i := true, imm := 5 }).g
      ({ fR with rd := 0x33, rs1 := 0x34, i := true, imm := 5 }).n ({ fR with rd := 0x33, rs1 := 0x34, i := true, imm := 5 }).p ∧
      (w_Arithmetic_3.msq .a).work = [] ∧ ({ fR with rd := 0x33, rs1 := 0x34, i := true, imm := 5 }).z = false ∧ writable
      ({ fR with rd := 0x33, rs1 := 0x34, i := true, imm := 5 }).rd = true ∧ readable
      ({ fR with rd := 0x33, rs1 := 0x34, i := true, imm := 5 }).rs1 = true ∧
      ({ fR with rd := 0x33, rs1 := 0x34, i := true, imm := 5 }).opBLegal = true := by
  refine ⟨⟨?_, ?_, ?_, ?_, ?_, ?_, ?_⟩, ?_, ?_, ?_, ?_, ?_⟩ <;> first | decide +kernel | rfl

def w_Arithmetic_4 : State := run0
theorem wit_Arithmetic_4 : Issues w_Arithmetic_4 .a 0x25 0 ({ fR with rd := 0x33, rs1 := 0x34, i := true, imm := 5 }).g
      ({ fR with rd := 0x33, rs1 := 0x34, i := true, imm := 5 }).n ({ fR with rd := 0x33, rs1 := 0x34, i := true, imm := 5 }).p ∧
      (w_Arithmetic_4.msq .a).work = [] ∧ ({ fR with rd := 0x33, rs1 := 0x34, i := true, imm := 5 }).z = false ∧ writable
      ({ fR with rd := 0x33, rs1 := 0x34, i := true, imm := 5 }).rd = true ∧ readable
      ({ fR with rd := 0x33, rs1 := 0x34, i := true, imm := 5 }).rs1 = true ∧
      ({ fR with rd := 0x33, rs1 := 0x34, i := true, imm := 5 }).opBLegal = true := by
  refine ⟨⟨?_, ?_, ?_, ?_, ?_, ?_, ?_⟩, ?_, ?_, ?_, ?_, ?_⟩ <;> first | decide +kernel | rfl

def w_Arithmetic_5 : State := run0
theorem wit_Arithmetic_5 : Issues w_Arithmetic_5 .a 0x26 0 ({ fR with rd := 0x33, rs1 := 0x34, i := true, imm := 5 }).g
      ({ fR with rd := 0x33, rs1 := 0x34, i := true, imm := 5 }).n ({ fR with rd := 0x33, rs1 := 0x34, i := true, imm := 5 }).p ∧
      (w_Arithmetic_5.msq .a).work = [] ∧ ({ fR with rd := 0x33, rs1 := 0x34, i := true, imm := 5 }).z = false ∧ writable
      ({ fR with rd := 0x33, rs1 := 0x34, i := true, imm := 5 }).rd = true ∧ readable
      ({ fR with rd := 0x33, rs1 := 0x34, i := true, imm := 5 }).rs1 = true ∧
      ({ fR with rd := 0x33, rs1 := 0x34, i := true, imm := 5 }).opBLegal = true := by
  refine ⟨⟨?_, ?_, ?_, ?_, ?_, ?_, ?_⟩, ?_, ?_, ?_, ?_, ?_⟩ <;> first | decide +kernel | rfl

def w_Arithmetic_6 : State := run0
theorem wit_Arithmetic_6 : Issues w_Arithmetic_6 .a 0x27 0 ({ fR with rd := 0x33, rs1 := 0x34, i := true, imm := 5 }).g
      ({ fR with rd := 0x33, rs1 := 0x34, i := true, imm := 5 }).n ({ fR with rd := 0x33, rs1 := 0x34, i := true, imm := 5 }).p ∧
      (w_Arithmetic_6.msq .a).work = [] ∧ ({ fR with rd := 0x33, rs1 := 0x34, i := true, imm := 5 }).z = false ∧ writable
      ({ fR with rd := 0x33, rs1 := 0x34, i := true, imm := 5 }).rd = true ∧ readable
      ({ fR with rd := 0x33, rs1 := 0x34, i := true, imm := 5 }).rs1 = true ∧
      ({ fR with rd := 0x33, rs1 := 0x34, i := true, imm := 5 }).opBLegal = true := by
  refine ⟨⟨?_, ?_, ?_, ?_, ?_, ?_, ?_⟩, ?_, ?_, ?_, ?_, ?_⟩ <;> first | decide +kernel | rfl

def w_Arithmetic_7 : State := run0
theorem wit_Arithmetic_7 : Issues w_Arithmetic_7 .a 0x28 0 ({ fR with rd := 0x33, rs1 := 0x34, i := true, imm := 5 }).g
      ({ fR with rd := 0x33, rs1 := 0x34, i := true, imm := 5 }).n ({ fR with rd := 0x33, rs1 := 0x34, i := true, imm := 5 }).p ∧
      (w_Arithmetic_7.msq .a).work = [] ∧ ({ fR with rd := 0x33, rs1 := 0x34, i := true, imm := 5 }).z = false ∧ writable
      ({ fR with rd := 0x33, rs1 := 0x34, i := true, imm := 5 }).rd = true ∧ readable
      ({ fR with rd := 0x33, rs1 := 0x34, i := true, imm := 5 }).rs1 = true ∧
      ({ fR with rd := 0x33, rs1 := 0x34, i := true, imm := 5 }).opBLegal = true := by
  refine ⟨⟨?_, ?_, ?_, ?_, ?_, ?_, ?_⟩, ?_, ?_, ?_, ?_, ?_⟩ <;> first | decide +kernel | rfl

def w_Arithmetic_8 : State := run0
theorem wit_Arithmetic_8 : Issues w_Arithmetic_8 .a 0x20 0 ({ fR with i := true, imm := 5 }).g ({ fR with i := true, imm := 5 }).n
      ({ fR with i := true, imm := 5 }).p ∧ (w_Arithmetic_8.msq .a).work = [] ∧ ({ fR with i := true, imm := 5 }).z = false ∧
      ({ fR with i := true, imm := 5 }).i = true ∧ writable ({ fR with i := true, imm := 5 }).rd = true ∧
      ({ fR with i := true, imm := 5 }).rs1 = 0 ∧ ({ fR with i := true, imm := 5 }).rs2 = 0 := by
  refine ⟨⟨?_, ?_, ?_, ?_, ?_, ?_, ?_⟩, ?_, ?_, ?_, ?_, ?_, ?_⟩ <;> first | decide +kernel | rfl

def w_Arithmetic_9 : State := run0
theorem wit_Arithmetic_9 : Issues w_Arithmetic_9 .a 0x21 0 fR.g fR.n fR.p ∧ (w_Arithmetic_9.msq .a).work = [] ∧ fR.z = false ∧ fR.i =
      false ∧ writable fR.rd = true ∧ readable fR.rs1 = true ∧ fR.rs2 = 0 ∧ fR.imm = 0 := by
  refine ⟨⟨?_, ?_, ?_, ?_, ?_, ?_, ?_⟩, ?_, ?_, ?_, ?_, ?_, ?_, ?_⟩ <;> first | decide +kernel | rfl

def w_Arithmetic_10 : State := run0
theorem wit_Arithmetic_10 : Issues w_Arithmetic_10 .a 0x29 0 ({ fR with rd := 39 }).g ({ fR with rd := 39 }).n ({ fR with rd := 39 }).p ∧
      (w_Arithmetic_10.msq .a).work = [] ∧ ({ fR with rd := 39 }).z = false ∧ readable ({ fR with rd := 39 }).rs1 = true ∧
      ({ fR with rd := 39 }).opBLegal = true ∧ cmpCond (nbits ({ fR with rd := 39 }).rd.toNat 2 4) (((w_Arithmetic_10.msq .a).slot
      0).spec.reg ({ fR with rd := 39 }).rs1.toNat) (({ fR with rd := 39 }).opB ((w_Arithmetic_10.msq .a).slot 0).spec) = some true := by
  refine ⟨⟨?_, ?_, ?_, ?_, ?_, ?_, ?_⟩, ?_, ?_, ?_, ?_, ?_⟩ <;> first | decide +kernel | rfl

def w_Arithmetic_14 : State := run0
theorem wit_Arithmetic_14 : Issues w_Arithmetic_14 .a 0x29 0 ({ fR with rd := 40 }).g ({ fR with rd := 40 }).n ({ fR with rd := 40 }).p ∧
      10 ≤ nbits ({ fR with rd := 40 }).rd.toNat 2 4 := by
  refine ⟨⟨?_, ?_, ?_, ?_, ?_, ?_, ?_⟩, ?_⟩ <;> first | decide +kernel | rfl

def w_Arithmetic_15 : State := run0
theorem wit_Arithmetic_15 : Issues w_Arithmetic_15 .a 0x22 0 ({ fR with rs1 := 0x35 }).g ({ fR with rs1 := 0x35 }).n
      ({ fR with rs1 := 0x35 }).p ∧ readable ({ fR with rs1 := 0x35 }).rs1 = false := by
  refine ⟨⟨?_, ?_, ?_, ?_, ?_, ?_, ?_⟩, ?_⟩ <;> first | decide +kernel | rfl

/-! ### ControlFlow -/

def w_ControlFlow_1 : State := run0
theorem wit_ControlFlow_1 : Issues w_ControlFlow_1 .a 0x00 0 fR.g fR.n fR.p ∧ (w_ControlFlow_1.msq .a).work = [] ∧ fR.z = false ∧ fR.bareR
      = true := by
  refine ⟨⟨?_, ?_, ?_, ?_, ?_, ?_, ?_⟩, ?_, ?_, ?_⟩ <;> first | decide +kernel | rfl

def w_ControlFlow_2 : State := run0
theorem wit_ControlFlow_2 : Issues w_ControlFlow_2 .a 0x01 0 ({ fR with imm := 0xFFFFFFFF }).g ({ fR with imm := 0xFFFFFFFF }).n
      ({ fR with imm := 0xFFFFFFFF }).p ∧ (w_ControlFlow_2.msq .a).work = [] ∧ ({ fR with imm := 0xFFFFFFFF }).z = false ∧
      ({ fR with imm := 0xFFFFFFFF }).immOnlyR = true := by
  refine ⟨⟨?_, ?_, ?_, ?_, ?_, ?_, ?_⟩, ?_, ?_, ?_⟩ <;> first | decide +kernel | rfl

def w_ControlFlow_3 : State := run0
theorem wit_ControlFlow_3 : Issues w_ControlFlow_3 .a 0x02 0 ({ fR with rd := 0x23, imm := 4 }).g ({ fR with rd := 0x23, imm := 4 }).n
      ({ fR with rd := 0x23, imm := 4 }).p ∧ (w_ControlFlow_3.msq .a).work = [] ∧ ({ fR with rd := 0x23, imm := 4 }).z = false ∧
      ({ fR with rd := 0x23, imm := 4 }).rs1 = 0 ∧ ({ fR with rd := 0x23, imm := 4 }).rs2 = 0 ∧ ({ fR with rd := 0x23, imm := 4 }).i =
      false ∧ nbits ({ fR with rd := 0x23, imm := 4 }).rd.toNat 0 4 ≠ 0 := by
  refine ⟨⟨?_, ?_, ?_, ?_, ?_, ?_, ?_⟩, ?_, ?_, ?_, ?_, ?_, ?_⟩ <;> first | decide +kernel | rfl

def w_ControlFlow_4 : State := run0
theorem wit_ControlFlow_4 : Issues w_ControlFlow_4 .a 0x03 0 ({ fR with imm := 4 }).g ({ fR with imm := 4 }).n ({ fR with imm := 4 }).p ∧
      (w_ControlFlow_4.msq .a).work = [] ∧ ({ fR with imm := 4 }).z = false ∧ ({ fR with imm := 4 }).immOnlyR = true ∧
      ((w_ControlFlow_4.msq .a).slot 0).spec.stack.length < 8 := by
  refine ⟨⟨?_, ?_, ?_, ?_, ?_, ?_, ?_⟩, ?_, ?_, ?_, ?_⟩ <;> first | decide +kernel | rfl

def w_ControlFlow_5 : State := (run0.setSpec .a 0 { Arch.empty with pc := 0x20000000, stack := [1, 2, 3, 4, 5, 6, 7, 8] })
theorem wit_ControlFlow_5 : Issues w_ControlFlow_5 .a 0x03 0 ({ fR with imm := 4 }).g ({ fR with imm := 4 }).n ({ fR with imm := 4 }).p ∧
      ({ fR with imm := 4 }).z = false ∧ ({ fR with imm := 4 }).immOnlyR = true ∧ 8 ≤ ((w_ControlFlow_5.msq .a).slot 0).spec.stack.length
      := by
  refine ⟨⟨?_, ?_, ?_, ?_, ?_, ?_, ?_⟩, ?_, ?_, ?_⟩ <;> first | decide +kernel | rfl

def w_ControlFlow_6 : State := (run0.setSpec .a 0 { Arch.empty with pc := 0x20000000, stack := [0x20000040] })
theorem wit_ControlFlow_6 : Issues w_ControlFlow_6 .a 0x04 0 fR.g fR.n fR.p ∧ (w_ControlFlow_6.msq .a).work = [] ∧ fR.z = false ∧ fR.bareR
      = true ∧ ((w_ControlFlow_6.msq .a).slot 0).spec.stack = 0x20000040 :: ([]) := by
  refine ⟨⟨?_, ?_, ?_, ?_, ?_, ?_, ?_⟩, ?_, ?_, ?_, ?_⟩ <;> first | decide +kernel | rfl

def w_ControlFlow_7 : State := run0
theorem wit_ControlFlow_7 : Issues w_ControlFlow_7 .a 0x04 0 fR.g fR.n fR.p ∧ fR.z = false ∧ fR.bareR = true ∧ ((w_ControlFlow_7.msq
      .a).slot 0).spec.stack = [] := by
  refine ⟨⟨?_, ?_, ?_, ?_, ?_, ?_, ?_⟩, ?_, ?_, ?_⟩ <;> first | decide +kernel | rfl

def w_ControlFlow_8 : State := run0
theorem wit_ControlFlow_8 : Issues w_ControlFlow_8 .a 0x05 0 fR.g fR.n fR.p ∧ (w_ControlFlow_8.msq .a).work = [] ∧ fR.z = false ∧ fR.bareR
      = true := by
  refine ⟨⟨?_, ?_, ?_, ?_, ?_, ?_, ?_⟩, ?_, ?_, ?_⟩ <;> first | decide +kernel | rfl

def w_ControlFlow_9 : State := ((run0.setMsq .a { run0.msq .a with acp := some 0 }).setSpec .a 0
      { Arch.empty with pc := 0x20000000, regs := [(0x28, 0x80000000#32)] })
theorem wit_ControlFlow_9 : Issues w_ControlFlow_9 .a 0x06 0 ({ fQ with aq := 1 }).g ({ fQ with aq := 1 }).n ({ fQ with aq := 1 }).p ∧
      (w_ControlFlow_9.msq .a).work = [] ∧ ({ fQ with aq := 1 }).ops = 0 ∧ ({ fQ with aq := 1 }).aq ≠ 0 ∧ ({ fQ with aq := 1 }).aqLegal =
      true ∧ ({ fQ with aq := 1 }).wedgeOk w_ControlFlow_9 = true ∧ ({ fQ with aq := 1 }).angle w_ControlFlow_9 .a ((w_ControlFlow_9.msq
      .a).slot 0).spec = some 0x80000000 ∧ 8 < w_ControlFlow_9.boundariesTo .a 0x80000000 := by
  refine ⟨⟨?_, ?_, ?_, ?_, ?_, ?_, ?_⟩, ?_, ?_, ?_, ?_, ?_, ?_, ?_⟩ <;> first | decide +kernel | rfl

def w_ControlFlow_10 : State := run0
theorem wit_ControlFlow_10 : Issues w_ControlFlow_10 .a 0x06 0 ({ fQ with aq := 1 }).g ({ fQ with aq := 1 }).n ({ fQ with aq := 1 }).p ∧
      (w_ControlFlow_10.msq .a).work = [] ∧ ({ fQ with aq := 1 }).ops = 0 ∧ ({ fQ with aq := 1 }).aq ≠ 0 ∧ ({ fQ with aq := 1 }).aqLegal =
      true ∧ ({ fQ with aq := 1 }).wedgeOk w_ControlFlow_10 = true ∧ ({ fQ with aq := 1 }).angle w_ControlFlow_10 .a
      ((w_ControlFlow_10.msq .a).slot 0).spec = some 0 ∧ w_ControlFlow_10.boundariesTo .a 0 ≤ 8 := by
  refine ⟨⟨?_, ?_, ?_, ?_, ?_, ?_, ?_⟩, ?_, ?_, ?_, ?_, ?_, ?_, ?_⟩ <;> first | decide +kernel | rfl

def w_ControlFlow_11 : State := run0
theorem wit_ControlFlow_11 : Issues w_ControlFlow_11 .a 0x07 0 ({ fR with rd := 0x30, imm := 0x40005 }).g
      ({ fR with rd := 0x30, imm := 0x40005 }).n ({ fR with rd := 0x30, imm := 0x40005 }).p ∧ (w_ControlFlow_11.msq .a).work = [] ∧
      ({ fR with rd := 0x30, imm := 0x40005 }).z = false ∧ isP ({ fR with rd := 0x30, imm := 0x40005 }).rd = true ∧
      ({ fR with rd := 0x30, imm := 0x40005 }).rs1 = 0 ∧ ({ fR with rd := 0x30, imm := 0x40005 }).rs2 = 0 ∧
      ({ fR with rd := 0x30, imm := 0x40005 }).i = false ∧ ({ fR with rd := 0x30, imm := 0x40005 }).ib 20 12 = 0 ∧
      ({ fR with rd := 0x30, imm := 0x40005 }).ib 16 4 ≠ 0 ∧ w_ControlFlow_11.waiteHolds .a 0 (({ fR with rd := 0x30, imm := 0x40005 }).ib
      16 4) = false := by
  refine ⟨⟨?_, ?_, ?_, ?_, ?_, ?_, ?_⟩, ?_, ?_, ?_, ?_, ?_, ?_, ?_, ?_, ?_⟩ <;> first | decide +kernel | rfl

def w_ControlFlow_12 : State := (run0.put (Fld.MSQ_DOORBELL_RING .a) 1)
theorem wit_ControlFlow_12 : Issues w_ControlFlow_12 .a 0x07 0 ({ fR with rd := 0x30, imm := 0x40005 }).g
      ({ fR with rd := 0x30, imm := 0x40005 }).n ({ fR with rd := 0x30, imm := 0x40005 }).p ∧ (w_ControlFlow_12.msq .a).work = [] ∧
      ({ fR with rd := 0x30, imm := 0x40005 }).z = false ∧ isP ({ fR with rd := 0x30, imm := 0x40005 }).rd = true ∧
      ({ fR with rd := 0x30, imm := 0x40005 }).rs1 = 0 ∧ ({ fR with rd := 0x30, imm := 0x40005 }).rs2 = 0 ∧
      ({ fR with rd := 0x30, imm := 0x40005 }).i = false ∧ ({ fR with rd := 0x30, imm := 0x40005 }).ib 20 12 = 0 ∧
      ({ fR with rd := 0x30, imm := 0x40005 }).ib 16 4 ≠ 0 ∧ w_ControlFlow_12.waiteHolds .a 0 (({ fR with rd := 0x30, imm := 0x40005 }).ib
      16 4) = true := by
  refine ⟨⟨?_, ?_, ?_, ?_, ?_, ?_, ?_⟩, ?_, ?_, ?_, ?_, ?_, ?_, ?_, ?_, ?_⟩ <;> first | decide +kernel | rfl

def w_ControlFlow_13 : State := run0
theorem wit_ControlFlow_13 : Issues w_ControlFlow_13 .a 0x08 0 fR.g fR.n fR.p ∧ (w_ControlFlow_13.msq .a).work = [] ∧ fR.z = false ∧
      fR.bareR = true ∧ (w_ControlFlow_13.msq .a).higherReady 0 = false := by
  refine ⟨⟨?_, ?_, ?_, ?_, ?_, ?_, ?_⟩, ?_, ?_, ?_, ?_⟩ <;> first | decide +kernel | rfl

def w_ControlFlow_14 : State := (run0.setSlot .a 3 { Slot.empty with st := .ready, prio := 1 })
theorem wit_ControlFlow_14 : Issues w_ControlFlow_14 .a 0x08 0 fR.g fR.n fR.p ∧ (w_ControlFlow_14.msq .a).work = [] ∧ fR.z = false ∧
      fR.bareR = true ∧ (w_ControlFlow_14.msq .a).higherReady 0 = true := by
  refine ⟨⟨?_, ?_, ?_, ?_, ?_, ?_, ?_⟩, ?_, ?_, ?_, ?_⟩ <;> first | decide +kernel | rfl

def w_ControlFlow_15 : State := run0
theorem wit_ControlFlow_15 : w_ControlFlow_15.actOk .a = true ∧ (w_ControlFlow_15.msq .a).running = some 0 ∧ (w_ControlFlow_15.msq
      .a).canIssue 0x00 = true ∧ pcInSram ((w_ControlFlow_15.msq .a).slot 0).spec.pc = true ∧ (w_ControlFlow_15.msq .a).dispatchValid 0x00
      = true ∧ guardLegal ({ fR with g := true }).g ({ fR with g := true }).n ({ fR with g := true }).p = true ∧ guardFalse
      ((w_ControlFlow_15.msq .a).slot 0).spec ({ fR with g := true }).g ({ fR with g := true }).n ({ fR with g := true }).p = true ∧
      (w_ControlFlow_15.msq .a).work = [] := by decide +kernel

/-! ### Positioning -/

def w_Positioning_1 : State := run0
theorem wit_Positioning_1 : Issues w_Positioning_1 .a 0x40 0 fQ.g fQ.n fQ.p ∧ fQ.aqLegal = true ∧ fQ.ob 22 2 ≠ 3 ∧ fQ.ob 0 12 = 0 ∧
      ((inMask (chsMask (fQ.ob 22 2)) false = false → fQ.ob 17 5 = 0)) ∧ ((inMask (chsMask (fQ.ob 22 2)) true = false → fQ.ob 12 5 = 0))
      := by
  refine ⟨⟨?_, ?_, ?_, ?_, ?_, ?_, ?_⟩, ?_, ?_, ?_, ?_, ?_⟩ <;> first | decide +kernel | rfl

def w_Positioning_2 : State := runL
theorem wit_Positioning_2 : Issues w_Positioning_2 .a 0x41 0 fQ.g fQ.n fQ.p ∧ fQ.aqLegal = true ∧ fQ.ob 22 2 ≠ 3 ∧ fQ.ob 0 21 = 0 := by
  refine ⟨⟨?_, ?_, ?_, ?_, ?_, ?_, ?_⟩, ?_, ?_, ?_⟩ <;> first | decide +kernel | rfl

def w_Positioning_3 : State := run0
theorem wit_Positioning_3 : Issues w_Positioning_3 .a 0x41 0 fQ.g fQ.n fQ.p ∧ fQ.aqLegal = true ∧ fQ.ob 22 2 ≠ 3 ∧ fQ.ob 0 21 = 0 ∧
      (w_Positioning_3.msq .a).work = [] ∧ w_Positioning_3.loaded .a = false := by
  refine ⟨⟨?_, ?_, ?_, ?_, ?_, ?_, ?_⟩, ?_, ?_, ?_, ?_, ?_⟩ <;> first | decide +kernel | rfl

def w_Positioning_4 : State := run0
theorem wit_Positioning_4 : Issues w_Positioning_4 .a 0x42 0 ({ fQ with ops := 0x100000 }).g ({ fQ with ops := 0x100000 }).n
      ({ fQ with ops := 0x100000 }).p ∧ ({ fQ with ops := 0x100000 }).aqLegal = true ∧ ({ fQ with ops := 0x100000 }).ob 22 2 ≠ 3 ∧
      ({ fQ with ops := 0x100000 }).ob 0 13 = 0 := by
  refine ⟨⟨?_, ?_, ?_, ?_, ?_, ?_, ?_⟩, ?_, ?_, ?_⟩ <;> first | decide +kernel | rfl

def w_Positioning_5 : State := runL
theorem wit_Positioning_5 : Issues w_Positioning_5 .a 0x42 0 ({ fQ with ops := 0x102000 }).g ({ fQ with ops := 0x102000 }).n
      ({ fQ with ops := 0x102000 }).p ∧ ({ fQ with ops := 0x102000 }).aqLegal = true ∧ ({ fQ with ops := 0x102000 }).ob 22 2 ≠ 3 ∧
      ({ fQ with ops := 0x102000 }).ob 0 13 = 0 ∧ (w_Positioning_5.msq .a).work = [] ∧ w_Positioning_5.loaded .a = true ∧
      (w_Positioning_5.msq .a).boundAll (chsMask (({ fQ with ops := 0x102000 }).ob 22 2)) = true ∧ (w_Positioning_5.msq .a).targetAll
      (chsMask (({ fQ with ops := 0x102000 }).ob 22 2)) = true ∧ 128 < sgn 9 (({ fQ with ops := 0x102000 }).ob 13 9) := by
  refine ⟨⟨?_, ?_, ?_, ?_, ?_, ?_, ?_⟩, ?_, ?_, ?_, ?_, ?_, ?_, ?_, ?_⟩ <;> first | decide +kernel | rfl

def w_Positioning_6 : State := (run0.put (Fld.MSQ_HEADS_EN .a) 0xFFF)
theorem wit_Positioning_6 : Issues w_Positioning_6 .a 0x43 0 ({ fQ with ops := 0x580000 }).g ({ fQ with ops := 0x580000 }).n
      ({ fQ with ops := 0x580000 }).p ∧ ({ fQ with ops := 0x580000 }).aqLegal = true ∧ ({ fQ with ops := 0x580000 }).wedgeOk
      w_Positioning_6 = true ∧ ({ fQ with ops := 0x580000 }).ob 0 19 = 0 ∧ ({ fQ with ops := 0x580000 }).ob 19 4 ≤ 11 ∧
      (w_Positioning_6.get (Fld.MSQ_HEADS_EN .a)).testBit (({ fQ with ops := 0x580000 }).ob 19 4) = true := by
  refine ⟨⟨?_, ?_, ?_, ?_, ?_, ?_, ?_⟩, ?_, ?_, ?_, ?_, ?_⟩ <;> first | decide +kernel | rfl

def w_Positioning_7 : State := (runL.put (Fld.MSQ_HEADS_EN .a) 0xFFF)
theorem wit_Positioning_7 : Issues w_Positioning_7 .a 0x43 0 ({ fQ with ops := 0x080000 }).g ({ fQ with ops := 0x080000 }).n
      ({ fQ with ops := 0x080000 }).p ∧ ({ fQ with ops := 0x080000 }).aqLegal = true ∧ ({ fQ with ops := 0x080000 }).wedgeOk
      w_Positioning_7 = true ∧ ({ fQ with ops := 0x080000 }).ob 0 19 = 0 ∧ ({ fQ with ops := 0x080000 }).ob 19 4 ≤ 11 ∧
      (w_Positioning_7.get (Fld.MSQ_HEADS_EN .a)).testBit (({ fQ with ops := 0x080000 }).ob 19 4) = true ∧ (w_Positioning_7.msq .a).work =
      [] ∧ ((w_Positioning_7.msq .a).pos (({ fQ with ops := 0x080000 }).ob 23 1 == 0)).head = some (({ fQ with ops := 0x080000 }).ob 19 4)
      := by
  refine ⟨⟨?_, ?_, ?_, ?_, ?_, ?_, ?_⟩, ?_, ?_, ?_, ?_, ?_, ?_, ?_⟩ <;> first | decide +kernel | rfl

def w_Positioning_8 : State := run0
theorem wit_Positioning_8 : Issues w_Positioning_8 .a 0x43 0 ({ fQ with ops := 0x600000 }).g ({ fQ with ops := 0x600000 }).n
      ({ fQ with ops := 0x600000 }).p ∧ ({ fQ with ops := 0x600000 }).aqLegal = true ∧ ({ fQ with ops := 0x600000 }).wedgeOk
      w_Positioning_8 = true ∧ ({ fQ with ops := 0x600000 }).ob 0 19 = 0 ∧ 11 < ({ fQ with ops := 0x600000 }).ob 19 4 := by
  refine ⟨⟨?_, ?_, ?_, ?_, ?_, ?_, ?_⟩, ?_, ?_, ?_, ?_⟩ <;> first | decide +kernel | rfl

def w_Positioning_9 : State :=
      { (((run0.putb Fld.SPN_STAT_INREG true).putb Fld.PWR_STAT_LOWV false).putb (drvOff .a) false) with pwr := { R0.pwr with vinSeen := true }, sys := { R0.sys with drvHold := false } }
theorem wit_Positioning_9 : Issues w_Positioning_9 .a 0x44 0 fQ.g fQ.n fQ.p ∧ fQ.aqLegal = true ∧ fQ.wedgeOk w_Positioning_9 = true ∧
      fQ.ops = 0 ∧ w_Positioning_9.canLoad .a = true := by
  refine ⟨⟨?_, ?_, ?_, ?_, ?_, ?_, ?_⟩, ?_, ?_, ?_, ?_⟩ <;> first | decide +kernel | rfl

def w_Positioning_10 : State := run0
theorem wit_Positioning_10 : Issues w_Positioning_10 .a 0x44 0 fQ.g fQ.n fQ.p ∧ fQ.aqLegal = true ∧ fQ.wedgeOk w_Positioning_10 = true ∧
      fQ.ops = 0 ∧ w_Positioning_10.canLoad .a = false := by
  refine ⟨⟨?_, ?_, ?_, ?_, ?_, ?_, ?_⟩, ?_, ?_, ?_, ?_⟩ <;> first | decide +kernel | rfl

def w_Positioning_11 : State := runL
theorem wit_Positioning_11 : Issues w_Positioning_11 .a 0x45 0 fQ.g fQ.n fQ.p ∧ fQ.aqLegal = true ∧ fQ.wedgeOk w_Positioning_11 = true ∧
      fQ.ops = 0 ∧ w_Positioning_11.loaded .a = true := by
  refine ⟨⟨?_, ?_, ?_, ?_, ?_, ?_, ?_⟩, ?_, ?_, ?_, ?_⟩ <;> first | decide +kernel | rfl

/-! ### MediaInstructions -/

def w_MediaInstructions_1 : State := runM
theorem wit_MediaInstructions_1 : Issues w_MediaInstructions_1 .a 0x60 0 ({ fQ with ops := 0x4000 }).g ({ fQ with ops := 0x4000 }).n
      ({ fQ with ops := 0x4000 }).p ∧ ({ fQ with ops := 0x4000 }).aqLegal = true ∧ ({ fQ with ops := 0x4000 }).wedgeOk
      w_MediaInstructions_1 = true ∧ ({ fQ with ops := 0x4000 }).ob 22 2 ≠ 3 ∧ ((({ fQ with ops := 0x4000 }).ob 0 1 = 0 →
      ({ fQ with ops := 0x4000 }).ob 1 5 = 0)) ∧ ((w_MediaInstructions_1.msq .a).slot 0).spec.ctx ≠ 0x400 ∧ ({ fQ with ops := 0x4000 }).ob
      14 8 ≠ 0 ∧ ((({ fQ with ops := 0x4000 }).ob 0 1 = 1 → ({ fQ with ops := 0x4000 }).ob 14 8 ≤ 32)) ∧ ((({ fQ with ops := 0x4000 }).ob
      22 2 = 2 → ({ fQ with ops := 0x4000 }).ob 6 5 ≠ 31 ∧ ({ fQ with ops := 0x4000 }).ob 1 5 ≠ 31 ∧ ({ fQ with ops := 0x4000 }).ob 11 3 %
      2 = 0)) ∧ 1 = ({ fQ with ops := 0x4000 }).ob 14 8 - skipped (({ fQ with ops := 0x4000 }).ob 14 8) (if ({ fQ with ops := 0x4000 }).ob
      0 1 = 1 then (((w_MediaInstructions_1.msq .a).slot 0).spec.reg (({ fQ with ops := 0x4000 }).ob 1 5)).toNat else 0) ∧ 1 =
      ({ fQ with ops := 0x4000 }).ob 14 8 - skipped (({ fQ with ops := 0x4000 }).ob 14 8) (if ({ fQ with ops := 0x4000 }).ob 0 1 = 1 then
      (((w_MediaInstructions_1.msq .a).slot 0).spec.reg (({ fQ with ops := 0x4000 }).ob 1 5 + second1 (({ fQ with ops := 0x4000 }).ob 22 2
      == 2))).toNat else 0) := by
  refine ⟨⟨?_, ?_, ?_, ?_, ?_, ?_, ?_⟩, ?_, ?_, ?_, ?_, ?_, ?_, ?_, ?_, ?_, ?_⟩ <;> first | decide +kernel | rfl

def w_MediaInstructions_2 : State := runM
theorem wit_MediaInstructions_2 : Issues w_MediaInstructions_2 .a 0x61 0 ({ fQ with ops := 0x4000 }).g ({ fQ with ops := 0x4000 }).n
      ({ fQ with ops := 0x4000 }).p ∧ ({ fQ with ops := 0x4000 }).aqLegal = true ∧ ({ fQ with ops := 0x4000 }).wedgeOk
      w_MediaInstructions_2 = true ∧ ({ fQ with ops := 0x4000 }).ob 22 2 ≠ 3 ∧ ((({ fQ with ops := 0x4000 }).ob 0 1 = 0 →
      ({ fQ with ops := 0x4000 }).ob 1 5 = 0)) ∧ ((w_MediaInstructions_2.msq .a).slot 0).spec.ctx ≠ 0x400 ∧ ({ fQ with ops := 0x4000 }).ob
      14 8 ≠ 0 ∧ ((({ fQ with ops := 0x4000 }).ob 0 1 = 1 → ({ fQ with ops := 0x4000 }).ob 14 8 ≤ 32)) ∧ ((({ fQ with ops := 0x4000 }).ob
      22 2 = 2 → ({ fQ with ops := 0x4000 }).ob 6 5 ≠ 31 ∧ ({ fQ with ops := 0x4000 }).ob 1 5 ≠ 31 ∧ ({ fQ with ops := 0x4000 }).ob 11 3 %
      2 = 0)) ∧ 1 = ({ fQ with ops := 0x4000 }).ob 14 8 - skipped (({ fQ with ops := 0x4000 }).ob 14 8) (if ({ fQ with ops := 0x4000 }).ob
      0 1 = 1 then (((w_MediaInstructions_2.msq .a).slot 0).spec.reg (({ fQ with ops := 0x4000 }).ob 1 5)).toNat else 0) ∧ 1 =
      ({ fQ with ops := 0x4000 }).ob 14 8 - skipped (({ fQ with ops := 0x4000 }).ob 14 8) (if ({ fQ with ops := 0x4000 }).ob 0 1 = 1 then
      (((w_MediaInstructions_2.msq .a).slot 0).spec.reg (({ fQ with ops := 0x4000 }).ob 1 5 + second1 (({ fQ with ops := 0x4000 }).ob 22 2
      == 2))).toNat else 0) := by
  refine ⟨⟨?_, ?_, ?_, ?_, ?_, ?_, ?_⟩, ?_, ?_, ?_, ?_, ?_, ?_, ?_, ?_, ?_, ?_⟩ <;> first | decide +kernel | rfl

def w_MediaInstructions_3 : State := runM
theorem wit_MediaInstructions_3 : Issues w_MediaInstructions_3 .a 0x62 0 ({ fQ with ops := 0x4000 }).g ({ fQ with ops := 0x4000 }).n
      ({ fQ with ops := 0x4000 }).p ∧ ({ fQ with ops := 0x4000 }).aqLegal = true ∧ ({ fQ with ops := 0x4000 }).wedgeOk
      w_MediaInstructions_3 = true ∧ ({ fQ with ops := 0x4000 }).ob 22 2 ≠ 3 ∧ ((({ fQ with ops := 0x4000 }).ob 11 3 = 0 ∧
      (({ fQ with ops := 0x4000 }).ob 0 1 = 0 → ({ fQ with ops := 0x4000 }).ob 1 5 = 0))) ∧ ({ fQ with ops := 0x4000 }).ob 14 8 ≠ 0 ∧
      ((({ fQ with ops := 0x4000 }).ob 0 1 = 1 → ({ fQ with ops := 0x4000 }).ob 14 8 ≤ 32)) ∧ ((({ fQ with ops := 0x4000 }).ob 22 2 = 2 →
      ({ fQ with ops := 0x4000 }).ob 6 5 ≠ 31 ∧ ({ fQ with ops := 0x4000 }).ob 1 5 ≠ 31)) ∧ 1 = ({ fQ with ops := 0x4000 }).ob 14 8 -
      skipped (({ fQ with ops := 0x4000 }).ob 14 8) (if ({ fQ with ops := 0x4000 }).ob 0 1 = 1 then (((w_MediaInstructions_3.msq .a).slot
      0).spec.reg (({ fQ with ops := 0x4000 }).ob 1 5)).toNat else 0) ∧ 1 = ({ fQ with ops := 0x4000 }).ob 14 8 - skipped
      (({ fQ with ops := 0x4000 }).ob 14 8) (if ({ fQ with ops := 0x4000 }).ob 0 1 = 1 then (((w_MediaInstructions_3.msq .a).slot
      0).spec.reg (({ fQ with ops := 0x4000 }).ob 1 5 + second1 (({ fQ with ops := 0x4000 }).ob 22 2 == 2))).toNat else 0) := by
  refine ⟨⟨?_, ?_, ?_, ?_, ?_, ?_, ?_⟩, ?_, ?_, ?_, ?_, ?_, ?_, ?_, ?_, ?_⟩ <;> first | decide +kernel | rfl

def w_MediaInstructions_4 : State := runM
theorem wit_MediaInstructions_4 : Issues w_MediaInstructions_4 .a 0x63 0 ({ fQ with ops := 0x4000 }).g ({ fQ with ops := 0x4000 }).n
      ({ fQ with ops := 0x4000 }).p ∧ ({ fQ with ops := 0x4000 }).aqLegal = true ∧ ({ fQ with ops := 0x4000 }).wedgeOk
      w_MediaInstructions_4 = true ∧ ({ fQ with ops := 0x4000 }).ob 22 2 ≠ 3 ∧ (({ fQ with ops := 0x4000 }).ob 1 5 = 0 ∧
      ({ fQ with ops := 0x4000 }).ob 0 1 = 0) ∧ ((w_MediaInstructions_4.msq .a).slot 0).spec.ctx ≠ 0x400 ∧ ({ fQ with ops := 0x4000 }).ob
      14 8 ≠ 0 ∧ ((({ fQ with ops := 0x4000 }).ob 0 1 = 1 → ({ fQ with ops := 0x4000 }).ob 14 8 ≤ 32)) ∧ ((({ fQ with ops := 0x4000 }).ob
      22 2 = 2 → ({ fQ with ops := 0x4000 }).ob 6 5 ≠ 31 ∧ ({ fQ with ops := 0x4000 }).ob 1 5 ≠ 31 ∧ ({ fQ with ops := 0x4000 }).ob 11 3 %
      2 = 0)) ∧ 1 = ({ fQ with ops := 0x4000 }).ob 14 8 - skipped (({ fQ with ops := 0x4000 }).ob 14 8) (if ({ fQ with ops := 0x4000 }).ob
      0 1 = 1 then (((w_MediaInstructions_4.msq .a).slot 0).spec.reg (({ fQ with ops := 0x4000 }).ob 1 5)).toNat else 0) ∧ 1 =
      ({ fQ with ops := 0x4000 }).ob 14 8 - skipped (({ fQ with ops := 0x4000 }).ob 14 8) (if ({ fQ with ops := 0x4000 }).ob 0 1 = 1 then
      (((w_MediaInstructions_4.msq .a).slot 0).spec.reg (({ fQ with ops := 0x4000 }).ob 1 5 + second1 (({ fQ with ops := 0x4000 }).ob 22 2
      == 2))).toNat else 0) := by
  refine ⟨⟨?_, ?_, ?_, ?_, ?_, ?_, ?_⟩, ?_, ?_, ?_, ?_, ?_, ?_, ?_, ?_, ?_, ?_⟩ <;> first | decide +kernel | rfl

def w_MediaInstructions_5 : State := runM
theorem wit_MediaInstructions_5 : Issues w_MediaInstructions_5 .a 0x64 0 ({ fQ with ops := 0x4000 }).g ({ fQ with ops := 0x4000 }).n
      ({ fQ with ops := 0x4000 }).p ∧ ({ fQ with ops := 0x4000 }).aqLegal = true ∧ ({ fQ with ops := 0x4000 }).wedgeOk
      w_MediaInstructions_5 = true ∧ ({ fQ with ops := 0x4000 }).ob 22 2 ≠ 3 ∧ (({ fQ with ops := 0x4000 }).ob 11 3 = 0 ∧
      ({ fQ with ops := 0x4000 }).ob 1 5 = 0 ∧ ({ fQ with ops := 0x4000 }).ob 0 1 = 0) ∧ ({ fQ with ops := 0x4000 }).ob 14 8 ≠ 0 ∧
      ((({ fQ with ops := 0x4000 }).ob 0 1 = 1 → ({ fQ with ops := 0x4000 }).ob 14 8 ≤ 32)) ∧ ((({ fQ with ops := 0x4000 }).ob 22 2 = 2 →
      ({ fQ with ops := 0x4000 }).ob 6 5 ≠ 31 ∧ ({ fQ with ops := 0x4000 }).ob 1 5 ≠ 31)) ∧ 1 = ({ fQ with ops := 0x4000 }).ob 14 8 -
      skipped (({ fQ with ops := 0x4000 }).ob 14 8) (if ({ fQ with ops := 0x4000 }).ob 0 1 = 1 then (((w_MediaInstructions_5.msq .a).slot
      0).spec.reg (({ fQ with ops := 0x4000 }).ob 1 5)).toNat else 0) ∧ 1 = ({ fQ with ops := 0x4000 }).ob 14 8 - skipped
      (({ fQ with ops := 0x4000 }).ob 14 8) (if ({ fQ with ops := 0x4000 }).ob 0 1 = 1 then (((w_MediaInstructions_5.msq .a).slot
      0).spec.reg (({ fQ with ops := 0x4000 }).ob 1 5 + second1 (({ fQ with ops := 0x4000 }).ob 22 2 == 2))).toNat else 0) := by
  refine ⟨⟨?_, ?_, ?_, ?_, ?_, ?_, ?_⟩, ?_, ?_, ?_, ?_, ?_, ?_, ?_, ?_, ?_⟩ <;> first | decide +kernel | rfl

def w_MediaInstructions_6 : State := run0
theorem wit_MediaInstructions_6 : Issues w_MediaInstructions_6 .a 0x60 0 ({ fQ with ops := 0x4000 }).g ({ fQ with ops := 0x4000 }).n
      ({ fQ with ops := 0x4000 }).p ∧ ({ fQ with ops := 0x4000 }).aqLegal = true ∧ ({ fQ with ops := 0x4000 }).wedgeOk
      w_MediaInstructions_6 = true ∧ ({ fQ with ops := 0x4000 }).ob 22 2 ≠ 3 ∧ ((({ fQ with ops := 0x4000 }).ob 0 1 = 0 →
      ({ fQ with ops := 0x4000 }).ob 1 5 = 0)) ∧ ((w_MediaInstructions_6.msq .a).slot 0).spec.ctx = 0x400 := by
  refine ⟨⟨?_, ?_, ?_, ?_, ?_, ?_, ?_⟩, ?_, ?_, ?_, ?_, ?_⟩ <;> first | decide +kernel | rfl

/-! ### AssistInstructions -/

def w_AssistInstructions_1 : State := run0
theorem wit_AssistInstructions_1 : Issues w_AssistInstructions_1 .a 0x80 0 ({ fR with imm := 0xC }).g ({ fR with imm := 0xC }).n
      ({ fR with imm := 0xC }).p ∧ ({ fR with imm := 0xC }).z = false ∧ ({ fR with imm := 0xC }).rd = 0 ∧ ({ fR with imm := 0xC }).rs2 = 0
      ∧ ({ fR with imm := 0xC }).i = false ∧ ({ fR with imm := 0xC }).ib 0 2 ≠ 3 ∧ ({ fR with imm := 0xC }).ib 4 28 = 0 ∧ (if
      ({ fR with imm := 0xC }).ib 3 1 = 1 then readable ({ fR with imm := 0xC }).rs1 = true else ({ fR with imm := 0xC }).rs1 = 0) := by
  refine ⟨⟨?_, ?_, ?_, ?_, ?_, ?_, ?_⟩, ?_, ?_, ?_, ?_, ?_, ?_, ?_⟩ <;> first | decide +kernel | rfl

def w_AssistInstructions_2 : State := run0
theorem wit_AssistInstructions_2 : Issues w_AssistInstructions_2 .a 0x81 0 ({ fR with imm := 0x28 }).g ({ fR with imm := 0x28 }).n
      ({ fR with imm := 0x28 }).p ∧ ({ fR with imm := 0x28 }).z = false ∧ ({ fR with imm := 0x28 }).rd = 0 ∧ ({ fR with imm := 0x28 }).rs2
      = 0 ∧ ({ fR with imm := 0x28 }).i = false ∧ ({ fR with imm := 0x28 }).ib 0 2 ≠ 3 ∧ ({ fR with imm := 0x28 }).ib 6 26 = 0 ∧
      ({ fR with imm := 0x28 }).ib 2 1 = 0 ∧ ({ fR with imm := 0x28 }).ib 4 2 ≠ 3 ∧ (if ({ fR with imm := 0x28 }).ib 3 1 = 1 then readable
      ({ fR with imm := 0x28 }).rs1 = true else ({ fR with imm := 0x28 }).rs1 = 0) := by
  refine ⟨⟨?_, ?_, ?_, ?_, ?_, ?_, ?_⟩, ?_, ?_, ?_, ?_, ?_, ?_, ?_, ?_, ?_⟩ <;> first | decide +kernel | rfl

def w_AssistInstructions_3 : State := (run0.put (Fld.WRP_CFG_AMODE .a) 1)
theorem wit_AssistInstructions_3 : Issues w_AssistInstructions_3 .a 0x82 0 ({ fR with imm := 0x52 }).g ({ fR with imm := 0x52 }).n
      ({ fR with imm := 0x52 }).p ∧ (w_AssistInstructions_3.msq .a).work = [] ∧ ({ fR with imm := 0x52 }).z = false ∧
      ({ fR with imm := 0x52 }).immOnlyR = true ∧ ({ fR with imm := 0x52 }).ib 20 12 = 0 ∧ ({ fR with imm := 0x52 }).ib 2 2 = 0 ∧
      ({ fR with imm := 0x52 }).ib 0 2 ≠ 3 ∧ ((({ fR with imm := 0x52 }).ib 4 16 = 0 → w_AssistInstructions_3.ptAll .a (chsMask
      (({ fR with imm := 0x52 }).ib 0 2)) = true)) ∧ w_AssistInstructions_3.get (Fld.WRP_CFG_AMODE .a) ≠ 0 := by
  refine ⟨⟨?_, ?_, ?_, ?_, ?_, ?_, ?_⟩, ?_, ?_, ?_, ?_, ?_, ?_, ?_, ?_⟩ <;> first | decide +kernel | rfl

def w_AssistInstructions_4 : State := (run0.put (Fld.WRP_CFG_AMODE .a) 0)
theorem wit_AssistInstructions_4 : Issues w_AssistInstructions_4 .a 0x82 0 ({ fR with imm := 0x50 }).g ({ fR with imm := 0x50 }).n
      ({ fR with imm := 0x50 }).p ∧ (w_AssistInstructions_4.msq .a).work = [] ∧ ({ fR with imm := 0x50 }).z = false ∧
      ({ fR with imm := 0x50 }).immOnlyR = true ∧ ({ fR with imm := 0x50 }).ib 20 12 = 0 ∧ ({ fR with imm := 0x50 }).ib 2 2 = 0 ∧
      ({ fR with imm := 0x50 }).ib 0 2 ≠ 3 ∧ ((({ fR with imm := 0x50 }).ib 4 16 = 0 → w_AssistInstructions_4.ptAll .a (chsMask
      (({ fR with imm := 0x50 }).ib 0 2)) = true)) ∧ w_AssistInstructions_4.get (Fld.WRP_CFG_AMODE .a) = 0 := by
  refine ⟨⟨?_, ?_, ?_, ?_, ?_, ?_, ?_⟩, ?_, ?_, ?_, ?_, ?_, ?_, ?_, ?_⟩ <;> first | decide +kernel | rfl

/-! ### HostInstructions -/

def w_HostInstructions_1 : State := run0
theorem wit_HostInstructions_1 : Issues w_HostInstructions_1 .a 0xA0 0 fR.g fR.n fR.p ∧ (w_HostInstructions_1.msq .a).work = [] ∧ fR.z =
      false ∧ fR.rd = 0 ∧ readable fR.rs1 = true ∧ fR.rs2 = 0 ∧ fR.i = false ∧ fR.imm = 0 := by
  refine ⟨⟨?_, ?_, ?_, ?_, ?_, ?_, ?_⟩, ?_, ?_, ?_, ?_, ?_, ?_, ?_⟩ <;> first | decide +kernel | rfl

def w_HostInstructions_2 : State := run0
theorem wit_HostInstructions_2 : Issues w_HostInstructions_2 .a 0xA1 0 ({ fR with rs1 := 0x20 }).g ({ fR with rs1 := 0x20 }).n
      ({ fR with rs1 := 0x20 }).p ∧ (w_HostInstructions_2.msq .a).work = [] ∧ ({ fR with rs1 := 0x20 }).z = false ∧
      ({ fR with rs1 := 0x20 }).rd = 0 ∧ isB ({ fR with rs1 := 0x20 }).rs1 = true ∧ ({ fR with rs1 := 0x20 }).rs2 = 0 ∧
      ({ fR with rs1 := 0x20 }).i = false ∧ ({ fR with rs1 := 0x20 }).imm = 0 := by
  refine ⟨⟨?_, ?_, ?_, ?_, ?_, ?_, ?_⟩, ?_, ?_, ?_, ?_, ?_, ?_, ?_⟩ <;> first | decide +kernel | rfl

def w_HostInstructions_3 : State := run0
theorem wit_HostInstructions_3 : Issues w_HostInstructions_3 .a 0xA2 0 ({ fR with imm := 1 }).g ({ fR with imm := 1 }).n
      ({ fR with imm := 1 }).p ∧ (w_HostInstructions_3.msq .a).work = [] ∧ ({ fR with imm := 1 }).z = false ∧ ({ fR with imm := 1 }).rd =
      0 ∧ readable ({ fR with imm := 1 }).rs1 = true ∧ readable ({ fR with imm := 1 }).rs2 = true ∧ ({ fR with imm := 1 }).i = false ∧
      ({ fR with imm := 1 }).ib 2 30 = 0 ∧ ({ fR with imm := 1 }).ib 0 2 ≠ 3 ∧ ((⟨0, 0⟩ : Seed)) =
      ⟨(((w_HostInstructions_3.msq .a).slot 0).spec.reg ({ fR with imm := 1 }).rs1.toNat).toNat + (((w_HostInstructions_3.msq .a).slot 0).spec.reg ({ fR with imm := 1 }).rs2.toNat).toNat % 8 * 2 ^ 32, (((w_HostInstructions_3.msq .a).slot 0).spec.reg ({ fR with imm := 1 }).rs2.toNat).toNat / 2 ^ 16⟩
      := by
  refine ⟨⟨?_, ?_, ?_, ?_, ?_, ?_, ?_⟩, ?_, ?_, ?_, ?_, ?_, ?_, ?_, ?_, ?_⟩ <;> first | decide +kernel | rfl

def w_HostInstructions_4 : State := run0
theorem wit_HostInstructions_4 : Issues w_HostInstructions_4 .a 0xA3 0 ({ fR with imm := 0x10A }).g ({ fR with imm := 0x10A }).n
      ({ fR with imm := 0x10A }).p ∧ (w_HostInstructions_4.msq .a).work = [] ∧ ({ fR with imm := 0x10A }).z = false ∧
      ({ fR with imm := 0x10A }).immOnlyR = true ∧ ({ fR with imm := 0x10A }).ib 9 23 = 0 := by
  refine ⟨⟨?_, ?_, ?_, ?_, ?_, ?_, ?_⟩, ?_, ?_, ?_, ?_⟩ <;> first | decide +kernel | rfl

def w_HostInstructions_5 : State := run0
theorem wit_HostInstructions_5 : Issues w_HostInstructions_5 .a 0xC0 0 fR.g fR.n fR.p ∧ fR.z = false ∧ fR.bareR = true := by
  refine ⟨⟨?_, ?_, ?_, ?_, ?_, ?_, ?_⟩, ?_, ?_⟩ <;> first | decide +kernel | rfl

def w_HostInstructions_6 : State := run0
theorem wit_HostInstructions_6 : Issues w_HostInstructions_6 .a 0xC1 0 fR.g fR.n fR.p ∧ (w_HostInstructions_6.msq .a).work = [] ∧ fR.z =
      false ∧ fR.bareR = true := by
  refine ⟨⟨?_, ?_, ?_, ?_, ?_, ?_, ?_⟩, ?_, ?_, ?_⟩ <;> first | decide +kernel | rfl

def w_HostInstructions_7 : State := (run0.put (Fld.MSQ_CKBASE_BASE .a) 0x207FF)
theorem wit_HostInstructions_7 : Issues w_HostInstructions_7 .a 0xC2 0 fR.g fR.n fR.p ∧ (w_HostInstructions_7.msq .a).work = [] ∧ fR.z =
      false ∧ fR.bareR = true ∧ ((w_HostInstructions_7.msq .a).slot 0).spec.stack = [] ∧ 0x20000000 ≤ w_HostInstructions_7.get
      (Fld.MSQ_CKBASE_BASE .a) * 2 ^ 12 ∧ w_HostInstructions_7.get (Fld.MSQ_CKBASE_BASE .a) * 2 ^ 12 + 4096 ≤ 0x20800000 := by
  refine ⟨⟨?_, ?_, ?_, ?_, ?_, ?_, ?_⟩, ?_, ?_, ?_, ?_, ?_, ?_⟩ <;> first | decide +kernel | rfl

def w_HostInstructions_8 : State := (run0.setSpec .a 0 { Arch.empty with pc := 0x20000000, stack := [1] })
theorem wit_HostInstructions_8 : Issues w_HostInstructions_8 .a 0xC2 0 fR.g fR.n fR.p ∧ fR.z = false ∧ fR.bareR = true ∧
      ((w_HostInstructions_8.msq .a).slot 0).spec.stack ≠ [] := by
  refine ⟨⟨?_, ?_, ?_, ?_, ?_, ?_, ?_⟩, ?_, ?_, ?_⟩ <;> first | decide +kernel | rfl

/-! ### WindowInstructions -/

def w_WindowInstructions_1 : State := (run0.setMsq .a { run0.msq .a with ucs := { (run0.msq .a).ucs with sapTab := [(3, 0x8005)] } })
theorem wit_WindowInstructions_1 : Issues w_WindowInstructions_1 .a 0xE0 0 ({ fR with imm := 3 }).g ({ fR with imm := 3 }).n
      ({ fR with imm := 3 }).p ∧ (w_WindowInstructions_1.msq .a).work = [] ∧ ({ fR with imm := 3 }).z = false ∧ writable
      ({ fR with imm := 3 }).rd = true ∧ readable ({ fR with imm := 3 }).rs1 = true ∧ readable ({ fR with imm := 3 }).rs2 = true ∧
      ({ fR with imm := 3 }).i = false ∧ ({ fR with imm := 3 }).ib 6 26 = 0 ∧ (mget (fun _ => 0) (w_WindowInstructions_1.msq
      .a).ucs.sapTab (({ fR with imm := 3 }).ib 0 6)).testBit 15 = true := by
  refine ⟨⟨?_, ?_, ?_, ?_, ?_, ?_, ?_⟩, ?_, ?_, ?_, ?_, ?_, ?_, ?_, ?_⟩ <;> first | decide +kernel | rfl

def w_WindowInstructions_2 : State := run0
theorem wit_WindowInstructions_2 : Issues w_WindowInstructions_2 .a 0xE0 0 ({ fR with imm := 63 }).g ({ fR with imm := 63 }).n
      ({ fR with imm := 63 }).p ∧ ({ fR with imm := 63 }).z = false ∧ writable ({ fR with imm := 63 }).rd = true ∧ readable
      ({ fR with imm := 63 }).rs1 = true ∧ readable ({ fR with imm := 63 }).rs2 = true ∧ ({ fR with imm := 63 }).i = false ∧
      ({ fR with imm := 63 }).ib 6 26 = 0 ∧ (mget (fun _ => 0) (w_WindowInstructions_2.msq .a).ucs.sapTab (({ fR with imm := 63 }).ib 0
      6)).testBit 15 = false := by
  refine ⟨⟨?_, ?_, ?_, ?_, ?_, ?_, ?_⟩, ?_, ?_, ?_, ?_, ?_, ?_, ?_⟩ <;> first | decide +kernel | rfl

def w_WindowInstructions_3 : State := run0
theorem wit_WindowInstructions_3 : Issues w_WindowInstructions_3 .a 0xE1 0 ({ fR with imm := 0x9FC }).g ({ fR with imm := 0x9FC }).n
      ({ fR with imm := 0x9FC }).p ∧ ({ fR with imm := 0x9FC }).z = false ∧ writable ({ fR with imm := 0x9FC }).rd = true ∧
      ({ fR with imm := 0x9FC }).rs1 = 0 ∧ ({ fR with imm := 0x9FC }).rs2 = 0 ∧ ({ fR with imm := 0x9FC }).i = false ∧
      ({ fR with imm := 0x9FC }).ib 12 20 = 0 ∧ windowRead .a (({ fR with imm := 0x9FC }).ib 0 12) = some 0x800E01FC := by
  refine ⟨⟨?_, ?_, ?_, ?_, ?_, ?_, ?_⟩, ?_, ?_, ?_, ?_, ?_, ?_, ?_⟩ <;> first | decide +kernel | rfl

def w_WindowInstructions_4 : State := run0
theorem wit_WindowInstructions_4 : Issues w_WindowInstructions_4 .a 0xE1 0 ({ fR with imm := 0xA00 }).g ({ fR with imm := 0xA00 }).n
      ({ fR with imm := 0xA00 }).p ∧ ({ fR with imm := 0xA00 }).z = false ∧ writable ({ fR with imm := 0xA00 }).rd = true ∧
      ({ fR with imm := 0xA00 }).rs1 = 0 ∧ ({ fR with imm := 0xA00 }).rs2 = 0 ∧ ({ fR with imm := 0xA00 }).i = false ∧
      ({ fR with imm := 0xA00 }).ib 12 20 = 0 ∧ windowRead .a (({ fR with imm := 0xA00 }).ib 0 12) = none := by
  refine ⟨⟨?_, ?_, ?_, ?_, ?_, ?_, ?_⟩, ?_, ?_, ?_, ?_, ?_, ?_, ?_⟩ <;> first | decide +kernel | rfl

def w_WindowInstructions_5 : State := run0
theorem wit_WindowInstructions_5 : Issues w_WindowInstructions_5 .a 0xE2 0 ({ fR with imm := 0xFC }).g ({ fR with imm := 0xFC }).n
      ({ fR with imm := 0xFC }).p ∧ (w_WindowInstructions_5.msq .a).work = [] ∧ ({ fR with imm := 0xFC }).z = false ∧
      ({ fR with imm := 0xFC }).rd = 0 ∧ readable ({ fR with imm := 0xFC }).rs1 = true ∧ ({ fR with imm := 0xFC }).rs2 = 0 ∧
      ({ fR with imm := 0xFC }).i = false ∧ ({ fR with imm := 0xFC }).ib 12 20 = 0 ∧ w_WindowInstructions_5.windowWrite .a
      (({ fR with imm := 0xFC }).ib 0 12) (((w_WindowInstructions_5.msq .a).slot 0).spec.reg ({ fR with imm := 0xFC }).rs1.toNat) = some
      0x800401FC := by
  refine ⟨⟨?_, ?_, ?_, ?_, ?_, ?_, ?_⟩, ?_, ?_, ?_, ?_, ?_, ?_, ?_, ?_⟩ <;> first | decide +kernel | rfl

def w_WindowInstructions_6 : State := run0
theorem wit_WindowInstructions_6 : Issues w_WindowInstructions_6 .a 0xE2 0 ({ fR with imm := 0x100 }).g ({ fR with imm := 0x100 }).n
      ({ fR with imm := 0x100 }).p ∧ ({ fR with imm := 0x100 }).z = false ∧ ({ fR with imm := 0x100 }).rd = 0 ∧ readable
      ({ fR with imm := 0x100 }).rs1 = true ∧ ({ fR with imm := 0x100 }).rs2 = 0 ∧ ({ fR with imm := 0x100 }).i = false ∧
      ({ fR with imm := 0x100 }).ib 12 20 = 0 ∧ w_WindowInstructions_6.windowWrite .a (({ fR with imm := 0x100 }).ib 0 12)
      (((w_WindowInstructions_6.msq .a).slot 0).spec.reg ({ fR with imm := 0x100 }).rs1.toNat) = none := by
  refine ⟨⟨?_, ?_, ?_, ?_, ?_, ?_, ?_⟩, ?_, ?_, ?_, ?_, ?_, ?_, ?_⟩ <;> first | decide +kernel | rfl

/-! ### MicroFlow -/

def w_MicroFlow_1 : State := runU
theorem wit_MicroFlow_1 : Runs w_MicroFlow_1 .a 0 uU ∧ uNext (w_MicroFlow_1.msq .a) uU.cap true (uU.upc + 1) = .ok 17 := by
  refine ⟨⟨?_, ?_, ?_, ?_, ?_, ?_, ?_⟩, ?_⟩ <;> first | decide +kernel | rfl

def w_MicroFlow_2 : State := runU
theorem wit_MicroFlow_2 : Runs w_MicroFlow_2 .a 0 uU ∧ uNext (w_MicroFlow_2.msq .a) uU.cap false (0x10#15).toNat = .ok 16 := by
  refine ⟨⟨?_, ?_, ?_, ?_, ?_, ?_, ?_⟩, ?_⟩ <;> first | decide +kernel | rfl

def w_MicroFlow_3 : State := runU
theorem wit_MicroFlow_3 : Runs w_MicroFlow_3 .a 0 uU ∧ uopCond (1#4).toNat uU.z uU.n uU.c uU.e (uU.guardTrue ((w_MicroFlow_3.msq .a).slot
      0).spec) = some true ∧ uNext (w_MicroFlow_3.msq .a) uU.cap false (0x10#15).toNat = .ok 16 := by
  refine ⟨⟨?_, ?_, ?_, ?_, ?_, ?_, ?_⟩, ?_, ?_⟩ <;> first | decide +kernel | rfl

def w_MicroFlow_4 : State := runU
theorem wit_MicroFlow_4 : Runs w_MicroFlow_4 .a 0 uU ∧ uopCond (0#4).toNat uU.z uU.n uU.c uU.e (uU.guardTrue ((w_MicroFlow_4.msq .a).slot
      0).spec) = some false ∧ uNext (w_MicroFlow_4.msq .a) uU.cap true (uU.upc + 1) = .ok 17 := by
  refine ⟨⟨?_, ?_, ?_, ?_, ?_, ?_, ?_⟩, ?_, ?_⟩ <;> first | decide +kernel | rfl

def w_MicroFlow_5 : State := runU
theorem wit_MicroFlow_5 : Runs w_MicroFlow_5 .a 0 uU ∧ uopCond (9#4).toNat uU.z uU.n uU.c uU.e (uU.guardTrue ((w_MicroFlow_5.msq .a).slot
      0).spec) = none := by
  refine ⟨⟨?_, ?_, ?_, ?_, ?_, ?_, ?_⟩, ?_⟩ <;> first | decide +kernel | rfl

def w_MicroFlow_6 : State := runU
theorem wit_MicroFlow_6 : Runs w_MicroFlow_6 .a 0 uU ∧ uU.ustack.length < 4 ∧ uNext (w_MicroFlow_6.msq .a) uU.cap false (0x10#15).toNat =
      .ok 16 := by
  refine ⟨⟨?_, ?_, ?_, ?_, ?_, ?_, ?_⟩, ?_, ?_⟩ <;> first | decide +kernel | rfl

def w_MicroFlow_7 : State := (run0.setMicro .a { Micro.idle with on := true, ustack := [1, 2, 3, 4] })
theorem wit_MicroFlow_7 : Runs w_MicroFlow_7 .a 0 (({ Micro.idle with on := true, ustack := [1, 2, 3, 4] } : Micro)) ∧ 4 ≤
      (({ Micro.idle with on := true, ustack := [1, 2, 3, 4] } : Micro)).ustack.length := by
  refine ⟨⟨?_, ?_, ?_, ?_, ?_, ?_, ?_⟩, ?_⟩ <;> first | decide +kernel | rfl

def w_MicroFlow_8 : State := (run0.setMicro .a { Micro.idle with on := true, ustack := [9] })
theorem wit_MicroFlow_8 : Runs w_MicroFlow_8 .a 0 (({ Micro.idle with on := true, ustack := [9] } : Micro)) ∧
      (({ Micro.idle with on := true, ustack := [9] } : Micro)).ustack = 9 :: ([]) ∧ uNext (w_MicroFlow_8.msq .a)
      (({ Micro.idle with on := true, ustack := [9] } : Micro)).cap false 9 = .ok 9 := by
  refine ⟨⟨?_, ?_, ?_, ?_, ?_, ?_, ?_⟩, ?_, ?_⟩ <;> first | decide +kernel | rfl

def w_MicroFlow_9 : State := runU
theorem wit_MicroFlow_9 : Runs w_MicroFlow_9 .a 0 uU ∧ uU.ustack = [] := by
  refine ⟨⟨?_, ?_, ?_, ?_, ?_, ?_, ?_⟩, ?_⟩ <;> first | decide +kernel | rfl

def w_MicroFlow_10 : State := (runU.setMsq .a { runU.msq .a with ucs := { (runU.msq .a).ucs with sapTab := [(0, 0xC801)] } })
theorem wit_MicroFlow_10 : Runs w_MicroFlow_10 .a 0 uU ∧ (mget (fun _ => 0) (w_MicroFlow_10.msq .a).ucs.sapTab (uU.irl.toNat %
      64)).testBit 15 = true ∧ uNext (w_MicroFlow_10.msq .a) true false ((mget (fun _ => 0) (w_MicroFlow_10.msq .a).ucs.sapTab
      (uU.irl.toNat % 64)) % 2 ^ 15) = .ok 0x4801 := by
  refine ⟨⟨?_, ?_, ?_, ?_, ?_, ?_, ?_⟩, ?_, ?_⟩ <;> first | decide +kernel | rfl

def w_MicroFlow_11 : State := runU
theorem wit_MicroFlow_11 : Runs w_MicroFlow_11 .a 0 uU ∧ (mget (fun _ => 0) (w_MicroFlow_11.msq .a).ucs.sapTab (uU.irl.toNat %
      64)).testBit 15 = false := by
  refine ⟨⟨?_, ?_, ?_, ?_, ?_, ?_, ?_⟩, ?_⟩ <;> first | decide +kernel | rfl

def w_MicroFlow_12 : State := runU
theorem wit_MicroFlow_12 : Runs w_MicroFlow_12 .a 0 uU ∧ uNext (w_MicroFlow_12.msq .a) uU.cap true (uU.upc + 1) = .ok 17 := by
  refine ⟨⟨?_, ?_, ?_, ?_, ?_, ?_, ?_⟩, ?_⟩ <;> first | decide +kernel | rfl

def w_MicroFlow_13 : State := runU
theorem wit_MicroFlow_13 : Runs w_MicroFlow_13 .a 0 uU := by
  refine ⟨?_, ?_, ?_, ?_, ?_, ?_, ?_⟩ <;> first | decide +kernel | rfl

def w_MicroFlow_14 : State := { run0 with mem := { R0.mem with sram := [(0x8000000, some 0#32), (0x8000001, some 0#32)] } }
theorem wit_MicroFlow_14 : w_MicroFlow_14.actOk .a = true ∧ (w_MicroFlow_14.msq .a).running = some 0 ∧ (w_MicroFlow_14.msq .a).sqWait =
      false ∧ (w_MicroFlow_14.msq .a).wait = none ∧ (w_MicroFlow_14.msq .a).micro.on = false ∧ Runs (w_MicroFlow_14.startRoutine .a) .a 0
      ({ ((({ run0 with mem := { R0.mem with sram := [(0x8000000, some 0#32), (0x8000001, some 0#32)] } } : State).startRoutine .a).msq .a).micro with fresh := false })
      ∧ uNext ((w_MicroFlow_14.startRoutine .a).msq .a)
      ({ ((({ run0 with mem := { R0.mem with sram := [(0x8000000, some 0#32), (0x8000001, some 0#32)] } } : State).startRoutine .a).msq .a).micro with fresh := false }).cap
      true
      (({ ((({ run0 with mem := { R0.mem with sram := [(0x8000000, some 0#32), (0x8000001, some 0#32)] } } : State).startRoutine .a).msq .a).micro with fresh := false }).upc
      + 1) = .ok 1 := by
  refine ⟨?_, ?_, ?_, ?_, ?_, ⟨?_, ?_, ?_, ?_, ?_, ?_, ?_⟩, ?_⟩ <;> first | decide +kernel | rfl

/-! ### MicroArithmetic -/

def w_MicroArithmetic_1 : State := runU
theorem wit_MicroArithmetic_1 : Runs w_MicroArithmetic_1 .a 0 uU ∧ uRead uU ((w_MicroArithmetic_1.msq .a).slot 0).spec fM.a.toNat = .ok
      (0#32) ∧ uRead uU ((w_MicroArithmetic_1.msq .a).slot 0).spec fM.b.toNat = .ok (0#32) ∧ uWrite uU fM.d.toNat ((0#32) + (0#32)) = .ok
      uU ∧ uNext (w_MicroArithmetic_1.msq .a) uU.cap true (uU.upc + 1) = .ok 17 := by
  refine ⟨⟨?_, ?_, ?_, ?_, ?_, ?_, ?_⟩, ?_, ?_, ?_, ?_⟩ <;> first | decide +kernel | rfl

def w_MicroArithmetic_2 : State := runU
theorem wit_MicroArithmetic_2 : Runs w_MicroArithmetic_2 .a 0 uU ∧ uRead uU ((w_MicroArithmetic_2.msq .a).slot 0).spec fM.a.toNat = .ok
      (0#32) ∧ uRead uU ((w_MicroArithmetic_2.msq .a).slot 0).spec fM.b.toNat = .ok (0#32) ∧ uWrite uU fM.d.toNat ((0#32) - (0#32)) = .ok
      uU ∧ uNext (w_MicroArithmetic_2.msq .a) uU.cap true (uU.upc + 1) = .ok 17 := by
  refine ⟨⟨?_, ?_, ?_, ?_, ?_, ?_, ?_⟩, ?_, ?_, ?_, ?_⟩ <;> first | decide +kernel | rfl

def w_MicroArithmetic_3 : State := runU
theorem wit_MicroArithmetic_3 : Runs w_MicroArithmetic_3 .a 0 uU ∧ uRead uU ((w_MicroArithmetic_3.msq .a).slot 0).spec fM.a.toNat = .ok
      (0#32) ∧ uRead uU ((w_MicroArithmetic_3.msq .a).slot 0).spec fM.b.toNat = .ok (0#32) ∧ uWrite uU fM.d.toNat ((0#32) &&& (0#32)) =
      .ok uU ∧ uNext (w_MicroArithmetic_3.msq .a) uU.cap true (uU.upc + 1) = .ok 17 := by
  refine ⟨⟨?_, ?_, ?_, ?_, ?_, ?_, ?_⟩, ?_, ?_, ?_, ?_⟩ <;> first | decide +kernel | rfl

def w_MicroArithmetic_4 : State := runU
theorem wit_MicroArithmetic_4 : Runs w_MicroArithmetic_4 .a 0 uU ∧ uRead uU ((w_MicroArithmetic_4.msq .a).slot 0).spec fM.a.toNat = .ok
      (0#32) ∧ uRead uU ((w_MicroArithmetic_4.msq .a).slot 0).spec fM.b.toNat = .ok (0#32) ∧ uWrite uU fM.d.toNat ((0#32) ||| (0#32)) =
      .ok uU ∧ uNext (w_MicroArithmetic_4.msq .a) uU.cap true (uU.upc + 1) = .ok 17 := by
  refine ⟨⟨?_, ?_, ?_, ?_, ?_, ?_, ?_⟩, ?_, ?_, ?_, ?_⟩ <;> first | decide +kernel | rfl

def w_MicroArithmetic_5 : State := runU
theorem wit_MicroArithmetic_5 : Runs w_MicroArithmetic_5 .a 0 uU ∧ uRead uU ((w_MicroArithmetic_5.msq .a).slot 0).spec fM.a.toNat = .ok
      (0#32) ∧ uRead uU ((w_MicroArithmetic_5.msq .a).slot 0).spec fM.b.toNat = .ok (0#32) ∧ uWrite uU fM.d.toNat ((0#32) ^^^ (0#32)) =
      .ok uU ∧ uNext (w_MicroArithmetic_5.msq .a) uU.cap true (uU.upc + 1) = .ok 17 := by
  refine ⟨⟨?_, ?_, ?_, ?_, ?_, ?_, ?_⟩, ?_, ?_, ?_, ?_⟩ <;> first | decide +kernel | rfl

def w_MicroArithmetic_6 : State := runU
theorem wit_MicroArithmetic_6 : Runs w_MicroArithmetic_6 .a 0 uU ∧ uRead uU ((w_MicroArithmetic_6.msq .a).slot 0).spec fM.a.toNat = .ok
      (0#32) ∧ uRead uU ((w_MicroArithmetic_6.msq .a).slot 0).spec fM.b.toNat = .ok (0#32) ∧ uWrite uU fM.d.toNat ((0#32) <<<
      ((0#32).toNat % 32)) = .ok uU ∧ uNext (w_MicroArithmetic_6.msq .a) uU.cap true (uU.upc + 1) = .ok 17 := by
  refine ⟨⟨?_, ?_, ?_, ?_, ?_, ?_, ?_⟩, ?_, ?_, ?_, ?_⟩ <;> first | decide +kernel | rfl

def w_MicroArithmetic_7 : State := runU
theorem wit_MicroArithmetic_7 : Runs w_MicroArithmetic_7 .a 0 uU ∧ uRead uU ((w_MicroArithmetic_7.msq .a).slot 0).spec fM.a.toNat = .ok
      (0#32) ∧ uRead uU ((w_MicroArithmetic_7.msq .a).slot 0).spec fM.b.toNat = .ok (0#32) ∧ uWrite uU fM.d.toNat ((0#32) >>>
      ((0#32).toNat % 32)) = .ok uU ∧ uNext (w_MicroArithmetic_7.msq .a) uU.cap true (uU.upc + 1) = .ok 17 := by
  refine ⟨⟨?_, ?_, ?_, ?_, ?_, ?_, ?_⟩, ?_, ?_, ?_, ?_⟩ <;> first | decide +kernel | rfl

def w_MicroArithmetic_8 : State := runU
theorem wit_MicroArithmetic_8 : Runs w_MicroArithmetic_8 .a 0 uU ∧ uRead uU ((w_MicroArithmetic_8.msq .a).slot 0).spec fM.a.toNat = .ok
      (0#32) ∧ uRead uU ((w_MicroArithmetic_8.msq .a).slot 0).spec fM.b.toNat = .ok (0#32) ∧ uWrite uU fM.d.toNat ((0#32).sshiftRight
      ((0#32).toNat % 32)) = .ok uU ∧ uNext (w_MicroArithmetic_8.msq .a) uU.cap true (uU.upc + 1) = .ok 17 := by
  refine ⟨⟨?_, ?_, ?_, ?_, ?_, ?_, ?_⟩, ?_, ?_, ?_, ?_⟩ <;> first | decide +kernel | rfl

def w_MicroArithmetic_9 : State := runU
theorem wit_MicroArithmetic_9 : Runs w_MicroArithmetic_9 .a 0 uU ∧ uRead uU ((w_MicroArithmetic_9.msq .a).slot 0).spec fM.a.toNat = .ok
      (0#32) ∧ uRead uU ((w_MicroArithmetic_9.msq .a).slot 0).spec fM.b.toNat = .ok (0#32) ∧ uWrite uU fM.d.toNat (if (0#32).toNat <
      (0#32).toNat then (0#32) else (0#32)) = .ok uU ∧ uNext (w_MicroArithmetic_9.msq .a) uU.cap true (uU.upc + 1) = .ok 17 := by
  refine ⟨⟨?_, ?_, ?_, ?_, ?_, ?_, ?_⟩, ?_, ?_, ?_, ?_⟩ <;> first | decide +kernel | rfl

def w_MicroArithmetic_10 : State := runU
theorem wit_MicroArithmetic_10 : Runs w_MicroArithmetic_10 .a 0 uU ∧ uRead uU ((w_MicroArithmetic_10.msq .a).slot 0).spec fM.a.toNat = .ok
      (0#32) ∧ uRead uU ((w_MicroArithmetic_10.msq .a).slot 0).spec fM.b.toNat = .ok (0#32) ∧ uWrite uU fM.d.toNat (if (0#32).toNat <
      (0#32).toNat then (0#32) else (0#32)) = .ok uU ∧ uNext (w_MicroArithmetic_10.msq .a) uU.cap true (uU.upc + 1) = .ok 17 := by
  refine ⟨⟨?_, ?_, ?_, ?_, ?_, ?_, ?_⟩, ?_, ?_, ?_, ?_⟩ <;> first | decide +kernel | rfl

def w_MicroArithmetic_11 : State := runU
theorem wit_MicroArithmetic_11 : Runs w_MicroArithmetic_11 .a 0 uU ∧ uRead uU ((w_MicroArithmetic_11.msq .a).slot 0).spec fM.a.toNat = .ok
      (0#32) ∧ uRead uU ((w_MicroArithmetic_11.msq .a).slot 0).spec fM.b.toNat = .ok (0#32) ∧ uWrite uU fM.d.toNat (BitVec.ofNat 32
      ((0#32).toNat % 2 ^ 16 * ((0#32).toNat % 2 ^ 16))) = .ok uU ∧ uNext (w_MicroArithmetic_11.msq .a) uU.cap true (uU.upc + 1) = .ok 17
      := by
  refine ⟨⟨?_, ?_, ?_, ?_, ?_, ?_, ?_⟩, ?_, ?_, ?_, ?_⟩ <;> first | decide +kernel | rfl

def w_MicroArithmetic_12 : State := runU
theorem wit_MicroArithmetic_12 : Runs w_MicroArithmetic_12 .a 0 uU ∧ uRead uU ((w_MicroArithmetic_12.msq .a).slot 0).spec fM.a.toNat = .ok
      (0#32) ∧ uRead uU ((w_MicroArithmetic_12.msq .a).slot 0).spec fM.b.toNat = .ok (0#32) ∧ uWrite uU fM.d.toNat (if uU.z then (0#32)
      else (0#32)) = .ok uU ∧ uNext (w_MicroArithmetic_12.msq .a) uU.cap true (uU.upc + 1) = .ok 17 := by
  refine ⟨⟨?_, ?_, ?_, ?_, ?_, ?_, ?_⟩, ?_, ?_, ?_, ?_⟩ <;> first | decide +kernel | rfl

def w_MicroArithmetic_13 : State := runU
theorem wit_MicroArithmetic_13 : Runs w_MicroArithmetic_13 .a 0 uU ∧ uRead uU ((w_MicroArithmetic_13.msq .a).slot 0).spec fM.a.toNat = .ok
      (0#32) ∧ uRead uU ((w_MicroArithmetic_13.msq .a).slot 0).spec fM.b.toNat = .ok (0#32) ∧ uWrite uU fM.d.toNat (BitVec.ofNat 32 (nbits
      (0#32).toNat (nbits (0#32).toNat 0 5) (nbits (0#32).toNat 5 5 + 1))) = .ok uU ∧ uNext (w_MicroArithmetic_13.msq .a) uU.cap true
      (uU.upc + 1) = .ok 17 := by
  refine ⟨⟨?_, ?_, ?_, ?_, ?_, ?_, ?_⟩, ?_, ?_, ?_, ?_⟩ <;> first | decide +kernel | rfl

def w_MicroArithmetic_14 : State := runU
theorem wit_MicroArithmetic_14 : Runs w_MicroArithmetic_14 .a 0 uU ∧ uRead uU ((w_MicroArithmetic_14.msq .a).slot 0).spec
      ({ fM with a := 0x57 }).a.toNat = .error (UErr.err errIllegal) := by
  refine ⟨⟨?_, ?_, ?_, ?_, ?_, ?_, ?_⟩, ?_⟩ <;> first | decide +kernel | rfl

def w_MicroArithmetic_15 : State := runU
theorem wit_MicroArithmetic_15 : Runs w_MicroArithmetic_15 .a 0 uU ∧ uRead uU ((w_MicroArithmetic_15.msq .a).slot 0).spec (0x40#7).toNat =
      .ok (0#32) ∧ uWrite uU (0x40#7).toNat ((0#32) + (0#19).signExtend 32) = .ok uU ∧ uNext (w_MicroArithmetic_15.msq .a) uU.cap true
      (uU.upc + 1) = .ok 17 := by
  refine ⟨⟨?_, ?_, ?_, ?_, ?_, ?_, ?_⟩, ?_, ?_, ?_⟩ <;> first | decide +kernel | rfl

def w_MicroArithmetic_16 : State := runU
theorem wit_MicroArithmetic_16 : Runs w_MicroArithmetic_16 .a 0 uU ∧ uWrite uU (0x40#7).toNat ((0#19).zeroExtend 32) = .ok uU ∧ uNext
      (w_MicroArithmetic_16.msq .a) uU.cap true (uU.upc + 1) = .ok 17 := by
  refine ⟨⟨?_, ?_, ?_, ?_, ?_, ?_, ?_⟩, ?_, ?_⟩ <;> first | decide +kernel | rfl

def w_MicroArithmetic_17 : State := runU
theorem wit_MicroArithmetic_17 : Runs w_MicroArithmetic_17 .a 0 uU ∧ uRead uU ((w_MicroArithmetic_17.msq .a).slot 0).spec (0x40#7).toNat =
      .ok (0#32) ∧ uWrite uU (0x40#7).toNat (wput (0#32) 19 13 (0#19).toNat) = .ok uU ∧ uNext (w_MicroArithmetic_17.msq .a) uU.cap true
      (uU.upc + 1) = .ok 17 := by
  refine ⟨⟨?_, ?_, ?_, ?_, ?_, ?_, ?_⟩, ?_, ?_, ?_⟩ <;> first | decide +kernel | rfl

def w_MicroArithmetic_18 : State := runU
theorem wit_MicroArithmetic_18 : Runs w_MicroArithmetic_18 .a 0 uU ∧ uRead uU ((w_MicroArithmetic_18.msq .a).slot 0).spec fM.a.toNat = .ok
      (0#32) ∧ uWrite uU fM.d.toNat (0#32) = .ok uU ∧ uNext (w_MicroArithmetic_18.msq .a) uU.cap true (uU.upc + 1) = .ok 17 := by
  refine ⟨⟨?_, ?_, ?_, ?_, ?_, ?_, ?_⟩, ?_, ?_, ?_⟩ <;> first | decide +kernel | rfl

def w_MicroArithmetic_19 : State := runU
theorem wit_MicroArithmetic_19 : Runs w_MicroArithmetic_19 .a 0 uU ∧ uRead uU ((w_MicroArithmetic_19.msq .a).slot 0).spec fM.a.toNat = .ok
      (0#32) ∧ uRead uU ((w_MicroArithmetic_19.msq .a).slot 0).spec fM.b.toNat = .ok (0#32) ∧ uNext (w_MicroArithmetic_19.msq .a) uU.cap
      true (uU.upc + 1) = .ok 17 := by
  refine ⟨⟨?_, ?_, ?_, ?_, ?_, ?_, ?_⟩, ?_, ?_, ?_⟩ <;> first | decide +kernel | rfl

def w_MicroArithmetic_20 : State := runU
theorem wit_MicroArithmetic_20 : Runs w_MicroArithmetic_20 .a 0 uU ∧ uWrite uU fM.d.toNat (BitVec.ofNat 32 w_MicroArithmetic_20.angle) =
      .ok uU ∧ uNext (w_MicroArithmetic_20.msq .a) uU.cap true (uU.upc + 1) = .ok 17 := by
  refine ⟨⟨?_, ?_, ?_, ?_, ?_, ?_, ?_⟩, ?_, ?_⟩ <;> first | decide +kernel | rfl

def w_MicroArithmetic_21 : State := runU
theorem wit_MicroArithmetic_21 : Runs w_MicroArithmetic_21 .a 0 uU ∧ uNext (w_MicroArithmetic_21.msq .a) uU.cap true (uU.upc + 1) = .ok 17
      := by
  refine ⟨⟨?_, ?_, ?_, ?_, ?_, ?_, ?_⟩, ?_⟩ <;> first | decide +kernel | rfl

/-! ### MicroShadows -/

def w_MicroShadows_1 : State := runU
theorem wit_MicroShadows_1 : Runs w_MicroShadows_1 .a 0 uU ∧ uShadow uU (.setflg ((3#19).toNat % 16)) = .ok
      ({ uU with shadows := [.setflg 3] }) ∧ uNext (w_MicroShadows_1.msq .a) uU.cap true (uU.upc + 1) = .ok 17 := by
  refine ⟨⟨?_, ?_, ?_, ?_, ?_, ?_, ?_⟩, ?_, ?_⟩ <;> first | decide +kernel | rfl

def w_MicroShadows_2 : State := runU
theorem wit_MicroShadows_2 : Runs w_MicroShadows_2 .a 0 uU ∧ uShadow uU (.clrflg ((3#19).toNat % 16)) = .ok
      ({ uU with shadows := [.clrflg 3] }) ∧ uNext (w_MicroShadows_2.msq .a) uU.cap true (uU.upc + 1) = .ok 17 := by
  refine ⟨⟨?_, ?_, ?_, ?_, ?_, ?_, ?_⟩, ?_, ?_⟩ <;> first | decide +kernel | rfl

def w_MicroShadows_3 : State := runU
theorem wit_MicroShadows_3 : Runs w_MicroShadows_3 .a 0 uU ∧ uRead uU ((w_MicroShadows_3.msq .a).slot 0).spec fM.a.toNat = .ok (0#32) ∧
      uRead uU ((w_MicroShadows_3.msq .a).slot 0).spec fM.b.toNat = .ok (0#32) ∧ (uU.cap && !w_MicroShadows_3.inSapWin .a (0#32).toNat) =
      false ∧ uShadow uU (.sram (0#32).toNat (0#32)) = .ok ({ uU with shadows := [.sram 0 0#32] }) ∧ uNext (w_MicroShadows_3.msq .a)
      uU.cap true (uU.upc + 1) = .ok 17 := by
  refine ⟨⟨?_, ?_, ?_, ?_, ?_, ?_, ?_⟩, ?_, ?_, ?_, ?_, ?_⟩ <;> first | decide +kernel | rfl

def w_MicroShadows_4 : State := runU
theorem wit_MicroShadows_4 : Runs w_MicroShadows_4 .a 0 uU ∧ uU.cap = false ∧ uRead uU ((w_MicroShadows_4.msq .a).slot 0).spec fM.a.toNat
      = .ok (0#32) ∧ uRead uU ((w_MicroShadows_4.msq .a).slot 0).spec fM.b.toNat = .ok (0#32) ∧ uShadow uU (.wrr (0#32).toNat (0#32)) =
      .ok ({ uU with shadows := [.wrr 0 0#32] }) ∧ uNext (w_MicroShadows_4.msq .a) uU.cap true (uU.upc + 1) = .ok 17 := by
  refine ⟨⟨?_, ?_, ?_, ?_, ?_, ?_, ?_⟩, ?_, ?_, ?_, ?_, ?_⟩ <;> first | decide +kernel | rfl

def w_MicroShadows_5 : State := runU
theorem wit_MicroShadows_5 : Runs w_MicroShadows_5 .a 0 uU ∧ uU.cap = false ∧ uRead uU ((w_MicroShadows_5.msq .a).slot 0).spec fM.a.toNat
      = .ok (0#32) ∧ uRead uU ((w_MicroShadows_5.msq .a).slot 0).spec fM.b.toNat = .ok (0#32) ∧ uShadow uU (.tag (fM.d.toNat % 2) (0#32)
      (0#32)) = .ok ({ uU with shadows := [.tag 0 0#32 0#32] }) ∧ uNext (w_MicroShadows_5.msq .a) uU.cap true (uU.upc + 1) = .ok 17 := by
  refine ⟨⟨?_, ?_, ?_, ?_, ?_, ?_, ?_⟩, ?_, ?_, ?_, ?_, ?_⟩ <;> first | decide +kernel | rfl

def w_MicroShadows_6 : State := runU
theorem wit_MicroShadows_6 : Runs w_MicroShadows_6 .a 0 uU ∧ uU.cap = false ∧ uRead uU ((w_MicroShadows_6.msq .a).slot 0).spec
      ({ fM with d := 0x27 }).a.toNat = .ok (0#32) ∧ uRead uU ((w_MicroShadows_6.msq .a).slot 0).spec ({ fM with d := 0x27 }).d.toNat =
      .ok (0#32) ∧ 0x20 ≤ ({ fM with d := 0x27 }).d.toNat ∧ ({ fM with d := 0x27 }).d.toNat ≤ 0x27 ∧ uShadow uU (.bufa
      ({ fM with d := 0x27 }).d.toNat ((0#32) + (0#32))) = .ok ({ uU with shadows := [.bufa 0x27 0#32] }) ∧ uNext (w_MicroShadows_6.msq
      .a) uU.cap true (uU.upc + 1) = .ok 17 := by
  refine ⟨⟨?_, ?_, ?_, ?_, ?_, ?_, ?_⟩, ?_, ?_, ?_, ?_, ?_, ?_, ?_⟩ <;> first | decide +kernel | rfl

def w_MicroShadows_7 : State := runU
theorem wit_MicroShadows_7 : Runs w_MicroShadows_7 .a 0 uU ∧ uU.cap = false ∧ uRead uU ((w_MicroShadows_7.msq .a).slot 0).spec fM.a.toNat
      = .ok (0#32) ∧ uShadow uU (.ctxp ((0#32).toNat % 2 ^ 8) ((0#32).getLsbD 8)) = .ok ({ uU with shadows := [.ctxp 0 false] }) ∧ uNext
      (w_MicroShadows_7.msq .a) uU.cap true (uU.upc + 1) = .ok 17 := by
  refine ⟨⟨?_, ?_, ?_, ?_, ?_, ?_, ?_⟩, ?_, ?_, ?_, ?_⟩ <;> first | decide +kernel | rfl

def w_MicroShadows_8 : State := runU
theorem wit_MicroShadows_8 : Runs w_MicroShadows_8 .a 0 uU ∧ uU.cap = false ∧ uShadow uU (.ckwr) = .ok ({ uU with shadows := [.ckwr] }) ∧
      uNext (w_MicroShadows_8.msq .a) uU.cap true (uU.upc + 1) = .ok 17 := by
  refine ⟨⟨?_, ?_, ?_, ?_, ?_, ?_, ?_⟩, ?_, ?_, ?_⟩ <;> first | decide +kernel | rfl

def w_MicroShadows_9 : State := runU
theorem wit_MicroShadows_9 : Runs w_MicroShadows_9 .a 0 uU ∧ uRead uU ((w_MicroShadows_9.msq .a).slot 0).spec fM.a.toNat = .ok (0#32) ∧
      uRead uU ((w_MicroShadows_9.msq .a).slot 0).spec fM.b.toNat = .ok (0#32) ∧ uShadow uU (.rbks ((0#32).toNat % 256) (0#32).toNat) =
      .ok ({ uU with shadows := [.rbks 0 0] }) ∧ uNext (w_MicroShadows_9.msq .a) uU.cap true (uU.upc + 1) = .ok 17 := by
  refine ⟨⟨?_, ?_, ?_, ?_, ?_, ?_, ?_⟩, ?_, ?_, ?_, ?_⟩ <;> first | decide +kernel | rfl

def w_MicroShadows_10 : State := runU
theorem wit_MicroShadows_10 : Runs w_MicroShadows_10 .a 0 uU ∧ ((runU.setMicro .a ({ uU with steps := 0 })).applyShadows .a 0) =
      (w_MicroShadows_10.setMicro .a { uU with steps := 0 }).applyShadows .a 0 ∧ (((runU.setMicro .a
      ({ uU with steps := 0 })).applyShadows .a 0).msq .a).micro.on = true ∧ (((runU.setMicro .a ({ uU with steps := 0 })).applyShadows .a
      0).msq .a).micro.fresh = false ∧ uNext (((runU.setMicro .a ({ uU with steps := 0 })).applyShadows .a 0).msq .a) (((runU.setMicro .a
      ({ uU with steps := 0 })).applyShadows .a 0).msq .a).micro.cap true ((((runU.setMicro .a ({ uU with steps := 0 })).applyShadows .a
      0).msq .a).micro.upc + 1) = .ok 17 := by
  refine ⟨⟨?_, ?_, ?_, ?_, ?_, ?_, ?_⟩, ?_, ?_, ?_, ?_⟩ <;> first | decide +kernel | rfl

def w_MicroShadows_11 : State := runU
theorem wit_MicroShadows_11 : Runs w_MicroShadows_11 .a 0 uU ∧ uU.cap = false ∧ uShadow uU .halts = .ok ({ uU with shadows := [.halts] })
      ∧ ((runU.setMicro .a (counted { uU with shadows := [.halts] })).applyShadows .a 0) = (w_MicroShadows_11.setMicro .a (counted
      ({ uU with shadows := [.halts] }))).applyShadows .a 0 ∧ (((runU.setMicro .a (counted { uU with shadows := [.halts] })).applyShadows
      .a 0).msq .a).micro.on = true ∧ (((runU.setMicro .a (counted { uU with shadows := [.halts] })).applyShadows .a 0).msq
      .a).micro.fresh = false ∧ uNext (((runU.setMicro .a (counted { uU with shadows := [.halts] })).applyShadows .a 0).msq .a)
      (((runU.setMicro .a (counted { uU with shadows := [.halts] })).applyShadows .a 0).msq .a).micro.cap true ((((runU.setMicro .a
      (counted { uU with shadows := [.halts] })).applyShadows .a 0).msq .a).micro.upc + 1) = .ok 17 := by
  refine ⟨⟨?_, ?_, ?_, ?_, ?_, ?_, ?_⟩, ?_, ?_, ?_, ?_, ?_, ?_⟩ <;> first | decide +kernel | rfl

def w_MicroShadows_12 : State := { runU with mem := { R0.mem with sram := [(0x8000002, some 0#32), (0x8000003, some 0#32)] } }
theorem wit_MicroShadows_12 : Runs w_MicroShadows_12 .a 0 uU ∧
      ((({ runU with mem := { R0.mem with sram := [(0x8000002, some 0#32), (0x8000003, some 0#32)] } } : State).setMicro .a (counted
      uU)).applyShadows .a 0) = ((w_MicroShadows_12.setMicro .a (counted uU)).applyShadows .a 0) ∧
      ((((((({ runU with mem := { R0.mem with sram := [(0x8000002, some 0#32), (0x8000003, some 0#32)] } } : State).setMicro .a (counted
      uU)).applyShadows .a 0).setSpec .a 0
      { ((((({ runU with mem := { R0.mem with sram := [(0x8000002, some 0#32), (0x8000003, some 0#32)] } } : State).setMicro .a (counted uU)).applyShadows .a 0).msq .a).slot 0).spec with pc := 0x20000008 }).setMicro
      .a Micro.idle).startRoutine .a)) =
      ((((({ runU with mem := { R0.mem with sram := [(0x8000002, some 0#32), (0x8000003, some 0#32)] } } : State).setMicro .a (counted
      uU)).applyShadows .a 0).setSpec .a 0
      { ((((({ runU with mem := { R0.mem with sram := [(0x8000002, some 0#32), (0x8000003, some 0#32)] } } : State).setMicro .a (counted uU)).applyShadows .a 0).msq .a).slot 0).spec with pc := (((((({ runU with mem := { R0.mem with sram := [(0x8000002, some 0#32), (0x8000003, some 0#32)] } } : State).setMicro .a (counted uU)).applyShadows .a 0).msq .a).slot 0).spec.pc + 8) % 2 ^ 32 }).setMicro
      .a
      { Micro.idle with events := (((({ runU with mem := { R0.mem with sram := [(0x8000002, some 0#32), (0x8000003, some 0#32)] } } : State).setMicro .a (counted uU)).applyShadows .a 0).msq .a).micro.events }).startRoutine
      .a ∧ (((((((({ runU with mem := { R0.mem with sram := [(0x8000002, some 0#32), (0x8000003, some 0#32)] } } : State).setMicro .a
      (counted uU)).applyShadows .a 0).setSpec .a 0
      { ((((({ runU with mem := { R0.mem with sram := [(0x8000002, some 0#32), (0x8000003, some 0#32)] } } : State).setMicro .a (counted uU)).applyShadows .a 0).msq .a).slot 0).spec with pc := 0x20000008 }).setMicro
      .a Micro.idle).startRoutine .a)).msq .a).micro.on = true ∧
      (((((((({ runU with mem := { R0.mem with sram := [(0x8000002, some 0#32), (0x8000003, some 0#32)] } } : State).setMicro .a (counted
      uU)).applyShadows .a 0).setSpec .a 0
      { ((((({ runU with mem := { R0.mem with sram := [(0x8000002, some 0#32), (0x8000003, some 0#32)] } } : State).setMicro .a (counted uU)).applyShadows .a 0).msq .a).slot 0).spec with pc := 0x20000008 }).setMicro
      .a Micro.idle).startRoutine .a)).msq .a).micro.fresh = true := by
  refine ⟨⟨?_, ?_, ?_, ?_, ?_, ?_, ?_⟩, ?_, ?_, ?_, ?_⟩ <;> first | decide +kernel | rfl

def w_MicroShadows_13 : State := (run0.setMicro .a { Micro.idle with on := true, cap := true, upc := 0x4801 })
theorem wit_MicroShadows_13 : Runs w_MicroShadows_13 .a 0 ({ Micro.idle with on := true, cap := true, upc := 0x4801 }) ∧
      ({ Micro.idle with on := true, cap := true, upc := 0x4801 }).cap = true := by
  refine ⟨⟨?_, ?_, ?_, ?_, ?_, ?_, ?_⟩, ?_⟩ <;> first | decide +kernel | rfl

/-! ### MicroStalls -/

def w_MicroStalls_1 : State := runU
theorem wit_MicroStalls_1 : Runs w_MicroStalls_1 .a 0 uU ∧ uNext (w_MicroStalls_1.msq .a) uU.cap true (uU.upc + 1) = .ok 17 := by
  refine ⟨⟨?_, ?_, ?_, ?_, ?_, ?_, ?_⟩, ?_⟩ <;> first | decide +kernel | rfl

def w_MicroStalls_2 : State := runU
theorem wit_MicroStalls_2 : Runs w_MicroStalls_2 .a 0 uU ∧ uRead uU ((w_MicroStalls_2.msq .a).slot 0).spec fM.a.toNat = .ok (0#32) ∧
      (uU.cap && !w_MicroStalls_2.inSapWin .a (0#32).toNat) = false ∧ uWrite (counted uU) fM.d.toNat 0#32 = .ok
      ({ (counted uU) with t := [] }) ∧ uNext (w_MicroStalls_2.msq .a) uU.cap true (uU.upc + 1) = .ok 17 := by
  refine ⟨⟨?_, ?_, ?_, ?_, ?_, ?_, ?_⟩, ?_, ?_, ?_, ?_⟩ <;> first | decide +kernel | rfl

def w_MicroStalls_3 : State := runU
theorem wit_MicroStalls_3 : Runs w_MicroStalls_3 .a 0 uU ∧ uRead uU ((w_MicroStalls_3.msq .a).slot 0).spec fM.a.toNat = .ok (0#32) ∧ uRead
      uU ((w_MicroStalls_3.msq .a).slot 0).spec fM.b.toNat = .ok (0#32) ∧ uWrite (counted uU) fM.d.toNat 0#32 = .ok
      ({ (counted uU) with t := [] }) ∧ uNext (w_MicroStalls_3.msq .a) uU.cap true (uU.upc + 1) = .ok 17 := by
  refine ⟨⟨?_, ?_, ?_, ?_, ?_, ?_, ?_⟩, ?_, ?_, ?_, ?_⟩ <;> first | decide +kernel | rfl

def w_MicroStalls_4 : State := (runU.put (Fld.WRP_PTBASE_BASE .a) 0x200000)
theorem wit_MicroStalls_4 : Runs w_MicroStalls_4 .a 0 uU ∧ uRead uU ((w_MicroStalls_4.msq .a).slot 0).spec fM.a.toNat = .ok (0#32) ∧
      w_MicroStalls_4.ptOk .a ((0#32).toNat / 32) = true ∧ uWrite (counted uU) fM.d.toNat 0#32 = .ok ({ (counted uU) with t := [] }) ∧
      uNext (w_MicroStalls_4.msq .a) uU.cap true (uU.upc + 1) = .ok 17 := by
  refine ⟨⟨?_, ?_, ?_, ?_, ?_, ?_, ?_⟩, ?_, ?_, ?_, ?_⟩ <;> first | decide +kernel | rfl

def w_MicroStalls_5 : State := runU
theorem wit_MicroStalls_5 : Runs w_MicroStalls_5 .a 0 uU ∧ uU.cap = false ∧ uRead uU ((w_MicroStalls_5.msq .a).slot 0).spec fM.a.toNat =
      .ok (0#32) ∧ uWrite (counted uU) fM.d.toNat 0#32 = .ok ({ (counted uU) with t := [] }) ∧ uNext (w_MicroStalls_5.msq .a) uU.cap true
      (uU.upc + 1) = .ok 17 := by
  refine ⟨⟨?_, ?_, ?_, ?_, ?_, ?_, ?_⟩, ?_, ?_, ?_, ?_⟩ <;> first | decide +kernel | rfl

def w_MicroStalls_6 : State := runU
theorem wit_MicroStalls_6 : Runs w_MicroStalls_6 .a 0 uU ∧ uRead uU ((w_MicroStalls_6.msq .a).slot 0).spec fM.a.toNat = .ok (0#32) ∧
      uWrite (counted uU) fM.d.toNat 0#32 = .ok ({ (counted uU) with t := [] }) ∧ uNext (w_MicroStalls_6.msq .a) uU.cap true (uU.upc + 1)
      = .ok 17 := by
  refine ⟨⟨?_, ?_, ?_, ?_, ?_, ?_, ?_⟩, ?_, ?_, ?_⟩ <;> first | decide +kernel | rfl

def w_MicroStalls_7 : State := runU
theorem wit_MicroStalls_7 : Runs w_MicroStalls_7 .a 0 uU ∧ uRead uU ((w_MicroStalls_7.msq .a).slot 0).spec fM.a.toNat = .ok (0#32) ∧
      uWrite (counted uU) fM.d.toNat 0#32 = .ok ({ (counted uU) with t := [] }) ∧ uNext (w_MicroStalls_7.msq .a) uU.cap true (uU.upc + 1)
      = .ok 17 := by
  refine ⟨⟨?_, ?_, ?_, ?_, ?_, ?_, ?_⟩, ?_, ?_, ?_⟩ <;> first | decide +kernel | rfl

def w_MicroStalls_8 : State := runU
theorem wit_MicroStalls_8 : Runs w_MicroStalls_8 .a 0 uU ∧ uRead uU ((w_MicroStalls_8.msq .a).slot 0).spec fM.a.toNat = .ok (0#32) ∧
      uWrite (counted uU) fM.d.toNat 0#32 = .ok ({ (counted uU) with t := [] }) ∧ uNext (w_MicroStalls_8.msq .a) uU.cap true (uU.upc + 1)
      = .ok 17 := by
  refine ⟨⟨?_, ?_, ?_, ?_, ?_, ?_, ?_⟩, ?_, ?_, ?_⟩ <;> first | decide +kernel | rfl

def w_MicroStalls_9 : State := runU
theorem wit_MicroStalls_9 : Runs w_MicroStalls_9 .a 0 uU ∧ uU.cap = false ∧ uRead uU ((w_MicroStalls_9.msq .a).slot 0).spec fM.a.toNat =
      .ok (0#32) ∧ uWrite (counted uU) fM.d.toNat 0#32 = .ok ({ (counted uU) with t := [] }) ∧ uNext (w_MicroStalls_9.msq .a) uU.cap true
      (uU.upc + 1) = .ok 17 := by
  refine ⟨⟨?_, ?_, ?_, ?_, ?_, ?_, ?_⟩, ?_, ?_, ?_, ?_⟩ <;> first | decide +kernel | rfl

def w_MicroStalls_10 : State := (run0.setMicro .a { Micro.idle with on := true, stall := some (.plkr 0x4F 3) })
theorem wit_MicroStalls_10 : (w_MicroStalls_10.msq .a).running = some 0 ∧ (w_MicroStalls_10.msq .a).micro.stall = some (.plkr 0x4F 3) ∧
      w_MicroStalls_10.flag (Fld.PLK_REQ_GO .a) = false ∧ 0x40 ≤ 0x4F ∧ 0x4F ≤ 0x4F := by decide +kernel

def w_MicroStalls_11 : State := (run0.setMicro .a
      { Micro.idle with on := true, stall := some (.lds 0x4F 0x20000004), shadows := [.sram 0x20000004 9#32] })
theorem wit_MicroStalls_11 : (w_MicroStalls_11.msq .a).running = some 0 ∧ (w_MicroStalls_11.msq .a).micro.stall = some (.lds 0x4F
      0x20000004) ∧ shadowSram (w_MicroStalls_11.msq .a).micro.shadows 0x20000004 = some (9#32) ∧ 0x40 ≤ 0x4F ∧ 0x4F ≤ 0x4F := by
      decide +kernel

def w_MicroStalls_12 : State := (run0.setMicro .a { Micro.idle with on := true, stall := some (.wait 1), events := 1 })
theorem wit_MicroStalls_12 : (w_MicroStalls_12.msq .a).running = some 0 ∧ (w_MicroStalls_12.msq .a).micro.stall = some (.wait 1) ∧
      w_MicroStalls_12.uEvents .a &&& 1 ≠ 0 := by decide +kernel

def w_MicroStalls_13 : State := (run0.setMicro .a { Micro.idle with on := true, stall := some (.wait 64) })
theorem wit_MicroStalls_13 : (w_MicroStalls_13.msq .a).running = some 0 ∧ (w_MicroStalls_13.msq .a).micro.stall = some (.wait 64) ∧
      w_MicroStalls_13.uEvents .a &&& 64 = 0 := by decide +kernel

/-! ### MicroUnits -/

def w_MicroUnits_1 : State := runU
theorem wit_MicroUnits_1 : Runs w_MicroUnits_1 .a 0 uU ∧ uRead uU ((w_MicroUnits_1.msq .a).slot 0).spec fM.a.toNat = .ok (0#32) ∧ uRead uU
      ((w_MicroUnits_1.msq .a).slot 0).spec fM.b.toNat = .ok (0#32) ∧ ((runU.setMicro .a (counted uU)).setCmps .a [(0,
      { target := 0, dest := 0, hit := false })]) = ((w_MicroUnits_1.setMicro .a (counted uU)).setCmps .a (mput (w_MicroUnits_1.cmps .a)
      ((0#32).toNat % 64) { target := (0#32).toNat, dest := fM.d.toNat % 8, hit := false })) ∧ uNext (((runU.setMicro .a (counted
      uU)).setCmps .a [(0, { target := 0, dest := 0, hit := false })]).msq .a) uU.cap true (uU.upc + 1) = .ok 17 := by
  refine ⟨⟨?_, ?_, ?_, ?_, ?_, ?_, ?_⟩, ?_, ?_, ?_, ?_⟩ <;> first | decide +kernel | rfl

def w_MicroUnits_2 : State := (runU.setCmps .a [(0, ⟨5, 0, false⟩)])
theorem wit_MicroUnits_2 : Runs w_MicroUnits_2 .a 0 uU ∧ uRead uU ((w_MicroUnits_2.msq .a).slot 0).spec fM.a.toNat = .ok (0#32) ∧ mfind
      (w_MicroUnits_2.cmps .a) ((0#32).toNat % 64) = some ((⟨5, 0, false⟩ : Cmp)) ∧ ((⟨5, 0, false⟩ : Cmp)).hit = false ∧ (((runU.setMicro
      .a (counted uU)).setCmps .a [(0, ⟨5, 0, false⟩)]).setCmps .a []) = ((w_MicroUnits_2.setMicro .a (counted uU)).setCmps .a (mdel
      (w_MicroUnits_2.cmps .a) ((0#32).toNat % 64))) ∧ uNext ((((runU.setMicro .a (counted uU)).setCmps .a [(0, ⟨5, 0, false⟩)]).setCmps
      .a []).msq .a) uU.cap true (uU.upc + 1) = .ok 17 := by
  refine ⟨⟨?_, ?_, ?_, ?_, ?_, ?_, ?_⟩, ?_, ?_, ?_, ?_, ?_⟩ <;> first | decide +kernel | rfl

def w_MicroUnits_3 : State := runU
theorem wit_MicroUnits_3 : Runs w_MicroUnits_3 .a 0 uU ∧ uU.cap = false ∧ ((runU.setMicro .a (counted uU)).chSet 0 [0, 0, 0, 0, 0, 0, 0,
      0]) = ((w_MicroUnits_3.setMicro .a (counted uU)).chSet (chanOf .a (fM.d.getLsbD 0)) ((List.range 8).map (fun i => mget (fun _ => (0
      : Word)) uU.t i))) ∧ uNext (((runU.setMicro .a (counted uU)).chSet 0 [0, 0, 0, 0, 0, 0, 0, 0]).msq .a) uU.cap true (uU.upc + 1) =
      .ok 17 := by
  refine ⟨⟨?_, ?_, ?_, ?_, ?_, ?_, ?_⟩, ?_, ?_, ?_⟩ <;> first | decide +kernel | rfl

def w_MicroUnits_4 : State := runU
theorem wit_MicroUnits_4 : Runs w_MicroUnits_4 .a 0 uU ∧ uU.cap = false ∧ uRead uU ((w_MicroUnits_4.msq .a).slot 0).spec fM.a.toNat = .ok
      (0#32) ∧ ((runU.setMicro .a (counted uU)).chGo 0 0) = ((w_MicroUnits_4.setMicro .a (counted uU)).chGo (chanOf .a (fM.d.getLsbD 0))
      ((0#32).toNat % 64)) ∧ uNext (((runU.setMicro .a (counted uU)).chGo 0 0).msq .a) uU.cap true (uU.upc + 1) = .ok 17 := by
  refine ⟨⟨?_, ?_, ?_, ?_, ?_, ?_, ?_⟩, ?_, ?_, ?_, ?_⟩ <;> first | decide +kernel | rfl

def w_MicroUnits_5 : State := runU
theorem wit_MicroUnits_5 : Runs w_MicroUnits_5 .a 0 uU ∧ uU.cap = false ∧ uRead uU ((w_MicroUnits_5.msq .a).slot 0).spec fM.a.toNat = .ok
      (0#32) ∧ uRead uU ((w_MicroUnits_5.msq .a).slot 0).spec fM.b.toNat = .ok (0#32) ∧ ((runU.setMicro .a (counted uU)).addGate .a
      { kind := 0, ch := 0, opens := 0, closes := 0, isOpen := false, since := 0 }) = ((w_MicroUnits_5.setMicro .a (counted uU)).addGate
      .a { kind := 0, ch := b2n (fM.d.getLsbD 0), opens := (0#32).toNat % 64, closes := (0#32).toNat % 64, isOpen := false, since := 0 })
      ∧ uNext (((runU.setMicro .a (counted uU)).addGate .a
      { kind := 0, ch := 0, opens := 0, closes := 0, isOpen := false, since := 0 }).msq .a) uU.cap true (uU.upc + 1) = .ok 17 := by
  refine ⟨⟨?_, ?_, ?_, ?_, ?_, ?_, ?_⟩, ?_, ?_, ?_, ?_, ?_⟩ <;> first | decide +kernel | rfl

def w_MicroUnits_6 : State := runU
theorem wit_MicroUnits_6 : Runs w_MicroUnits_6 .a 0 uU ∧ uU.cap = false ∧ uRead uU ((w_MicroUnits_6.msq .a).slot 0).spec fM.a.toNat = .ok
      (0#32) ∧ uRead uU ((w_MicroUnits_6.msq .a).slot 0).spec fM.b.toNat = .ok (0#32) ∧ ((runU.setMicro .a (counted uU)).addGate .a
      { kind := 1, ch := 0, opens := 0, closes := 0, isOpen := false, since := 0 }) = ((w_MicroUnits_6.setMicro .a (counted uU)).addGate
      .a { kind := 1, ch := b2n (fM.d.getLsbD 0), opens := (0#32).toNat % 64, closes := (0#32).toNat % 64, isOpen := false, since := 0 })
      ∧ uNext (((runU.setMicro .a (counted uU)).addGate .a
      { kind := 1, ch := 0, opens := 0, closes := 0, isOpen := false, since := 0 }).msq .a) uU.cap true (uU.upc + 1) = .ok 17 := by
  refine ⟨⟨?_, ?_, ?_, ?_, ?_, ?_, ?_⟩, ?_, ?_, ?_, ?_, ?_⟩ <;> first | decide +kernel | rfl

def w_MicroUnits_7 : State := runU
theorem wit_MicroUnits_7 : Runs w_MicroUnits_7 .a 0 uU ∧ uU.cap = false ∧ uRead uU ((w_MicroUnits_7.msq .a).slot 0).spec fM.a.toNat = .ok
      (0#32) ∧ uRead uU ((w_MicroUnits_7.msq .a).slot 0).spec fM.b.toNat = .ok (0#32) ∧ ((runU.setMicro .a (counted uU)).addGate .a
      { kind := 2, ch := 0, opens := 0, closes := 0, isOpen := false, since := 0 }) = ((w_MicroUnits_7.setMicro .a (counted uU)).addGate
      .a { kind := 2, ch := b2n (fM.d.getLsbD 0), opens := (0#32).toNat % 64, closes := (0#32).toNat % 64, isOpen := false, since := 0 })
      ∧ uNext (((runU.setMicro .a (counted uU)).addGate .a
      { kind := 2, ch := 0, opens := 0, closes := 0, isOpen := false, since := 0 }).msq .a) uU.cap true (uU.upc + 1) = .ok 17 := by
  refine ⟨⟨?_, ?_, ?_, ?_, ?_, ?_, ?_⟩, ?_, ?_, ?_, ?_, ?_⟩ <;> first | decide +kernel | rfl

def w_MicroUnits_8 : State := runU
theorem wit_MicroUnits_8 : Runs w_MicroUnits_8 .a 0 uU ∧ uU.cap = false ∧ uRead uU ((w_MicroUnits_8.msq .a).slot 0).spec fM.a.toNat = .ok
      (0#32) ∧ uRead uU ((w_MicroUnits_8.msq .a).slot 0).spec fM.b.toNat = .ok (0#32) ∧ ((runU.setMicro .a (counted uU)).lpeCommand .a 0
      0#32 0#32) = ((w_MicroUnits_8.setMicro .a (counted uU)).lpeCommand .a (fM.d.toNat % 8) (0#32) (0#32)) ∧ (((runU.setMicro .a (counted
      uU)).lpeCommand .a 0 0#32 0#32).msq .a).micro.on = true ∧ (((runU.setMicro .a (counted uU)).lpeCommand .a 0 0#32 0#32).msq
      .a).micro.fresh = false ∧ uNext (((runU.setMicro .a (counted uU)).lpeCommand .a 0 0#32 0#32).msq .a) (((runU.setMicro .a (counted
      uU)).lpeCommand .a 0 0#32 0#32).msq .a).micro.cap true ((((runU.setMicro .a (counted uU)).lpeCommand .a 0 0#32 0#32).msq
      .a).micro.upc + 1) = .ok 17 := by
  refine ⟨⟨?_, ?_, ?_, ?_, ?_, ?_, ?_⟩, ?_, ?_, ?_, ?_, ?_, ?_, ?_⟩ <;> first | decide +kernel | rfl

def w_MicroUnits_9 : State := runU
theorem wit_MicroUnits_9 : Runs w_MicroUnits_9 .a 0 uU ∧ uU.cap = false ∧ uRead uU ((w_MicroUnits_9.msq .a).slot 0).spec fM.a.toNat = .ok
      (0#32) ∧ ((runU.setMicro .a (counted uU)).headSelect .a false 0) = ((w_MicroUnits_9.setMicro .a (counted uU)).headSelect .a
      (fM.d.getLsbD 0) ((0#32).toNat % 16)) ∧ uNext (((runU.setMicro .a (counted uU)).headSelect .a false 0).msq .a) uU.cap true (uU.upc +
      1) = .ok 17 := by
  refine ⟨⟨?_, ?_, ?_, ?_, ?_, ?_, ?_⟩, ?_, ?_, ?_, ?_⟩ <;> first | decide +kernel | rfl

def w_MicroUnits_10 : State := runU
theorem wit_MicroUnits_10 : Runs w_MicroUnits_10 .a 0 uU ∧ uU.cap = false ∧ uRead uU ((w_MicroUnits_10.msq .a).slot 0).spec fM.a.toNat =
      .ok (0#32) ∧ uRead uU ((w_MicroUnits_10.msq .a).slot 0).spec fM.b.toNat = .ok (0#32) ∧ ((runU.setMicro .a (counted uU)).plkWrite .a
      0 0) = ((w_MicroUnits_10.setMicro .a (counted uU)).plkWrite .a ((0#32).toNat % 128) ((0#32).toNat % 2 ^ 16)) ∧ uNext
      (((runU.setMicro .a (counted uU)).plkWrite .a 0 0).msq .a) uU.cap true (uU.upc + 1) = .ok 17 := by
  refine ⟨⟨?_, ?_, ?_, ?_, ?_, ?_, ?_⟩, ?_, ?_, ?_, ?_, ?_⟩ <;> first | decide +kernel | rfl

def w_MicroUnits_11 : State := runU
theorem wit_MicroUnits_11 : Runs w_MicroUnits_11 .a 0 uU ∧ uU.cap = false ∧ uRead uU ((w_MicroUnits_11.msq .a).slot 0).spec fM.a.toNat =
      .ok (0#32) ∧ (((runU.setMicro .a (counted uU)).setMsq .a (((runU.setMicro .a (counted uU)).msq .a).setPos false
      { ((runU.setMicro .a (counted uU)).msq .a).pos0 with heat := 0, hpow := some 0 })).setHeaters .a) = (((w_MicroUnits_11.setMicro .a
      (counted uU)).setMsq .a (((w_MicroUnits_11.setMicro .a (counted uU)).msq .a).setPos (fM.d.getLsbD 0)
      { ((w_MicroUnits_11.setMicro .a (counted uU)).msq .a).pos (fM.d.getLsbD 0) with heat := (0#32).toNat % 4, hpow := some (nbits (0#32).toNat 16 12) })).setHeaters
      .a) ∧ uNext ((((runU.setMicro .a (counted uU)).setMsq .a (((runU.setMicro .a (counted uU)).msq .a).setPos false
      { ((runU.setMicro .a (counted uU)).msq .a).pos0 with heat := 0, hpow := some 0 })).setHeaters .a).msq .a) uU.cap true (uU.upc + 1) =
      .ok 17 := by
  refine ⟨⟨?_, ?_, ?_, ?_, ?_, ?_, ?_⟩, ?_, ?_, ?_, ?_⟩ <;> first | decide +kernel | rfl

def w_MicroUnits_12 : State := runU
theorem wit_MicroUnits_12 : Runs w_MicroUnits_12 .a 0 uU ∧ uU.cap = false ∧ uRead uU ((w_MicroUnits_12.msq .a).slot 0).spec fM.a.toNat =
      .ok (0#32) ∧ (((runU.setMicro .a (counted uU)).setMsq .a (((runU.setMicro .a (counted uU)).msq .a).setPos false
      { ((runU.setMicro .a (counted uU)).msq .a).pos0 with assist := false, setp := some 0 })).restLasers .a) =
      (((w_MicroUnits_12.setMicro .a (counted uU)).setMsq .a (((w_MicroUnits_12.setMicro .a (counted uU)).msq .a).setPos (fM.d.getLsbD 0)
      { ((w_MicroUnits_12.setMicro .a (counted uU)).msq .a).pos (fM.d.getLsbD 0) with assist := (0#32).getLsbD 0, setp := some (nbits (0#32).toNat 16 12) })).restLasers
      .a) ∧ uNext ((((runU.setMicro .a (counted uU)).setMsq .a (((runU.setMicro .a (counted uU)).msq .a).setPos false
      { ((runU.setMicro .a (counted uU)).msq .a).pos0 with assist := false, setp := some 0 })).restLasers .a).msq .a) uU.cap true (uU.upc
      + 1) = .ok 17 := by
  refine ⟨⟨?_, ?_, ?_, ?_, ?_, ?_, ?_⟩, ?_, ?_, ?_, ?_⟩ <;> first | decide +kernel | rfl

def w_MicroUnits_13 : State := runU
theorem wit_MicroUnits_13 : Runs w_MicroUnits_13 .a 0 uU ∧ uU.cap = false ∧ uRead uU ((w_MicroUnits_13.msq .a).slot 0).spec fM.a.toNat =
      .ok (0#32) ∧ uRead uU ((w_MicroUnits_13.msq .a).slot 0).spec fM.b.toNat = .ok (0#32) ∧ ((runU.setMicro .a (counted uU)).put
      (Fld.WRP_WGLIM_PESLIM .a) 20) = ((w_MicroUnits_13.setMicro .a (counted uU)).put (Fld.WRP_WGLIM_PESLIM .a) (clampN 20 200
      (0#32).toNat)) ∧ uNext (((runU.setMicro .a (counted uU)).put (Fld.WRP_WGLIM_PESLIM .a) 20).msq .a) uU.cap true (uU.upc + 1) = .ok 17
      := by
  refine ⟨⟨?_, ?_, ?_, ?_, ?_, ?_, ?_⟩, ?_, ?_, ?_, ?_, ?_⟩ <;> first | decide +kernel | rfl

def w_MicroUnits_14 : State := runU
theorem wit_MicroUnits_14 : Runs w_MicroUnits_14 .a 0 uU ∧ uU.cap = false ∧ ((runU.setMicro .a (counted uU)).selectKey .a 0x400) =
      ((w_MicroUnits_14.setMicro .a (counted uU)).selectKey .a ((w_MicroUnits_14.msq .a).slot 0).spec.ctx) ∧ uNext (((runU.setMicro .a
      (counted uU)).selectKey .a 0x400).msq .a) uU.cap true (uU.upc + 1) = .ok 17 := by
  refine ⟨⟨?_, ?_, ?_, ?_, ?_, ?_, ?_⟩, ?_, ?_, ?_⟩ <;> first | decide +kernel | rfl

def w_MicroUnits_15 : State := runU
theorem wit_MicroUnits_15 : Runs w_MicroUnits_15 .a 0 uU ∧ uU.cap = false ∧ uRead uU ((w_MicroUnits_15.msq .a).slot 0).spec fM.a.toNat =
      .ok (0#32) ∧ ((runU.setMicro .a (counted uU)).setBpr 0 0#32) = ((w_MicroUnits_15.setMicro .a (counted uU)).setBpr (chanOf .a
      (fM.d.getLsbD 0)) (0#32)) ∧ uNext (((runU.setMicro .a (counted uU)).setBpr 0 0#32).msq .a) uU.cap true (uU.upc + 1) = .ok 17 := by
  refine ⟨⟨?_, ?_, ?_, ?_, ?_, ?_, ?_⟩, ?_, ?_, ?_, ?_⟩ <;> first | decide +kernel | rfl

/-! ### WorkCompletes -/

def w_WorkCompletes_1 : State := (run0.setMsq .a { run0.msq .a with work := [{ mkWork .loadh 0 none with begun := true }] })
theorem wit_WorkCompletes_1 : (w_WorkCompletes_1.msq .a).work = [({ mkWork .loadh 0 none with begun := true })] ∧ (w_WorkCompletes_1.msq
      .a).wait = none ∧ (w_WorkCompletes_1.msq .a).sqWait = false ∧ ({ mkWork .loadh 0 none with begun := true }).kind = .loadh ∧
      ({ mkWork .loadh 0 none with begun := true }).begun = true ∧ ({ mkWork .loadh 0 none with begun := true }).done = false := by
      decide +kernel

def w_WorkCompletes_2 : State := ((runL.setMsq .a { runL.msq .a with work := [{ mkWork (.seek 1 5 0) 0 none with begun := true }] }).setLa
      .a { runL.la .a with h0 := { (runL.la .a).h0 with rd := 255 } })
theorem wit_WorkCompletes_2 : (w_WorkCompletes_2.msq .a).work = [({ mkWork (.seek 1 5 0) 0 none with begun := true })] ∧
      (w_WorkCompletes_2.msq .a).wait = none ∧ ({ mkWork (.seek 1 5 0) 0 none with begun := true }).kind = .seek 1 5 0 ∧
      ({ mkWork (.seek 1 5 0) 0 none with begun := true }).begun = true ∧ ({ mkWork (.seek 1 5 0) 0 none with begun := true }).done =
      false ∧ w_WorkCompletes_2.settled .a 1 false = true := by decide +kernel

def w_WorkCompletes_3 : State := runL.setMsq .a { runL.msq .a with work := [{ mkWork (.follow 1 true) 0 none with begun := true }] }
theorem wit_WorkCompletes_3 : (w_WorkCompletes_3.msq .a).work = [({ mkWork (.follow 1 true) 0 none with begun := true })] ∧
      ({ mkWork (.follow 1 true) 0 none with begun := true }).kind = .follow 1 true ∧
      ({ mkWork (.follow 1 true) 0 none with begun := true }).begun = true ∧ ({ mkWork (.follow 1 true) 0 none with begun := true }).done
      = false ∧ w_WorkCompletes_3.settled .a 1 true = false := by decide +kernel

def w_WorkCompletes_4 : State := (runR.setCh 0 { runR.ch 0 with place := 1 })
theorem wit_WorkCompletes_4 : (w_WorkCompletes_4.msq .a).running = some 0 ∧ w_WorkCompletes_4.oldestOn .a false = some (0, 1) ∧
      (w_WorkCompletes_4.msq .a).work = [({ mkWork (.media (mrun .read)) 0 none with begun := true })] ∧
      ({ mkWork (.media (mrun .read)) 0 none with begun := true }).kind = .media (mrun .read) ∧ (mrun .read).op ≠ .scan ∧
      w_WorkCompletes_4.bclkOk (chanOf .a false) = true ∧ (w_WorkCompletes_4.msq .a).wait = none ∧ w_WorkCompletes_4.channelQuiet (chanOf
      .a false) 1 (mrun .read) = true := by decide +kernel

def w_WorkCompletes_5 : State := runR
theorem wit_WorkCompletes_5 : (w_WorkCompletes_5.msq .a).running = some 0 ∧ w_WorkCompletes_5.oldestOn .a false = some (0, 1) ∧
      (w_WorkCompletes_5.msq .a).work = [({ mkWork (.media (mrun .read)) 0 none with begun := true })] ∧
      ({ mkWork (.media (mrun .read)) 0 none with begun := true }).kind = .media (mrun .read) ∧ w_WorkCompletes_5.channelQuiet (chanOf .a
      false) 1 (mrun .read) = false := by decide +kernel

def w_WorkCompletes_6 : State := R0
theorem wit_WorkCompletes_6 : (w_WorkCompletes_6.msq .b).running = none := by decide +kernel

def w_WorkCompletes_7 : State := (run0.setMsq .a { run0.msq .a with work := [{ mkWork (.heat 2 1 none) 0 (some 4) with begun := true }] })
theorem wit_WorkCompletes_7 : (w_WorkCompletes_7.msq .a).work = [({ mkWork (.heat 2 1 none) 0 (some 4) with begun := true })] ∧
      (w_WorkCompletes_7.msq .a).wait = none ∧ ({ mkWork (.heat 2 1 none) 0 (some 4) with begun := true }).kind = .heat 2 1 none ∧ 2 = 2 ^
      b2n true ∧ ({ mkWork (.heat 2 1 none) 0 (some 4) with begun := true }).begun = true ∧
      ({ mkWork (.heat 2 1 none) 0 (some 4) with begun := true }).done = false ∧
      ({ mkWork (.heat 2 1 none) 0 (some 4) with begun := true }).qmet = false := by
  refine ⟨?_, ?_, ?_, ?_, ?_, ?_, ?_⟩ <;> first | decide +kernel | rfl

def w_WorkCompletes_8 : State :=
      { run0.setMsq .a { run0.msq .a with wait := some (.bind 0) } with ccx := { R0.ccx with ctxs := [(0, ctx0)] } }
theorem wit_WorkCompletes_8 : (w_WorkCompletes_8.msq .a).running = some 0 ∧ (w_WorkCompletes_8.msq .a).wait = some (.bind 0) ∧
      w_WorkCompletes_8.bindOk .a 0 = true ∧ (w_WorkCompletes_8.msq .a).work = [] := by decide +kernel

def w_WorkCompletes_9 : State := run0.setMsq .a { run0.msq .a with wait := some (.bind 0) }
theorem wit_WorkCompletes_9 : (w_WorkCompletes_9.msq .a).running = some 0 ∧ (w_WorkCompletes_9.msq .a).wait = some (.bind 0) ∧
      w_WorkCompletes_9.bindOk .a 0 = false := by decide +kernel

def w_WorkCompletes_10 : State := ({ (run0.setMsq .a { run0.msq .a with wait := some (.waite 1 0x33 5 0) }) with now := 1000000000 } :
      State).wr Reg.ANG_SPEED 42221243#32
theorem wit_WorkCompletes_10 : (w_WorkCompletes_10.msq .a).running = some 0 ∧ (w_WorkCompletes_10.msq .a).wait = some (.waite 1 0x33 5 0)
      ∧ 5 ≠ 0 ∧ w_WorkCompletes_10.wedgePeriod ≠ 0 ∧ 0 + 5 * w_WorkCompletes_10.wedgePeriod ≤ w_WorkCompletes_10.now ∧
      (w_WorkCompletes_10.msq .a).work = [] := by decide +kernel

def w_WorkCompletes_11 : State := (run0.setMsq .a { run0.msq .a with wait := some (.waite 1 0x33 5 0) }).wr Reg.ANG_SPEED 42221243#32
theorem wit_WorkCompletes_11 : (w_WorkCompletes_11.msq .a).running = some 0 ∧ (w_WorkCompletes_11.msq .a).wait = some (.waite 1 0x33 5 0)
      ∧ w_WorkCompletes_11.now < 0 + 5 * w_WorkCompletes_11.wedgePeriod := by decide +kernel

def w_WorkCompletes_12 : State :=
      { (run0.setMsq .a { run0.msq .a with wait := some (.waita 4 none 0) }) with ang := { R0.ang with ats := 0x7FFF00000000 } }
theorem wit_WorkCompletes_12 : (w_WorkCompletes_12.msq .a).running = some 0 ∧ (w_WorkCompletes_12.msq .a).wait = some (.waita 4 none 0) ∧
      w_WorkCompletes_12.get (Fld.MSQ_TMO_WAITA_REV .a) * 2 ^ 32 ≤ w_WorkCompletes_12.atsSince 0 := by decide +kernel

def w_WorkCompletes_13 : State := run0.setMsq .a { run0.msq .a with wait := some (.waita 4 none 0) }
theorem wit_WorkCompletes_13 : (w_WorkCompletes_13.msq .a).running = some 0 ∧ (w_WorkCompletes_13.msq .a).wait = some (.waita 4 none 0) ∧
      w_WorkCompletes_13.atsSince 0 < w_WorkCompletes_13.get (Fld.MSQ_TMO_WAITA_REV .a) * 2 ^ 32 := by decide +kernel

def w_WorkCompletes_14 : State := { run0 with ang := { R0.ang with ats := 0x7FFF00000000 } }
theorem wit_WorkCompletes_14 : (w_WorkCompletes_14.msq .a).running = some 0 ∧ w_WorkCompletes_14.get (Fld.MSQ_TMO_SLOT_REV .a) * 2 ^ 32 ≤
      w_WorkCompletes_14.atsSince (w_WorkCompletes_14.msq .a).lastCommitAts := by decide +kernel

def w_WorkCompletes_15 : State := run0.setMicro .a { Micro.idle with on := true, steps := 0x10000 }
theorem wit_WorkCompletes_15 : (w_WorkCompletes_15.msq .a).running = some 0 ∧ (w_WorkCompletes_15.msq .a).micro.on = true ∧
      w_WorkCompletes_15.eff (byAct .a Fld.UCS_USTEP_MAXA Fld.UCS_USTEP_MAXB) ≤ (w_WorkCompletes_15.msq .a).micro.steps := by
      decide +kernel

/-! ### WedgeChecks -/

def w_WedgeChecks_1 : State := (R0.putb Fld.ANG_STAT_VALID true)
theorem wit_WedgeChecks_1 : w_WedgeChecks_1.actOk .a = true ∧ w_WedgeChecks_1.flag Fld.ANG_STAT_VALID = true ∧ ¬ w_WedgeChecks_1.get
      Fld.ANG_CFG_WEDGES ≤ 255 ∧ (w_WedgeChecks_1.msq .a).sqCauses = 0 ∧ w_WedgeChecks_1.loaded .a = false ∧ (w_WedgeChecks_1.msq
      .a).running = none := by decide +kernel

def w_WedgeChecks_2 : State := (run0.putb Fld.ANG_STAT_VALID true).setMsq .a
      { run0.msq .a with work := [{ mkWork (.commit 0 Arch.empty (run0.msq .a).pos0 (run0.msq .a).pos1 [] 0) 0 none with begun := true }] }
theorem wit_WedgeChecks_2 : w_WedgeChecks_2.actOk .a = true ∧ w_WedgeChecks_2.flag Fld.ANG_STAT_VALID = true ∧ ¬ w_WedgeChecks_2.get
      Fld.ANG_CFG_WEDGES ≤ 0 ∧ (w_WedgeChecks_2.msq .a).sqCauses = 0 ∧ w_WedgeChecks_2.loaded .a = false ∧ (w_WedgeChecks_2.msq
      .a).running = some 0 ∧ (w_WedgeChecks_2.msq .a).sqWait = false ∧ (w_WedgeChecks_2.msq .a).wait = none ∧ (w_WedgeChecks_2.msq
      .a).work = [{ mkWork (.commit 0 Arch.empty ((run0.msq .a).pos0) ((run0.msq .a).pos1) [] 0) Arch.empty.pc none with begun := true }]
      := by decide +kernel

def w_WedgeChecks_3 : State := (runL.putb Fld.ANG_STAT_VALID true).put (Fld.LPE_PES_PES0 .a) 0x8000
theorem wit_WedgeChecks_3 : w_WedgeChecks_3.actOk .a = true ∧ w_WedgeChecks_3.flag Fld.ANG_STAT_VALID = true ∧ ¬ w_WedgeChecks_3.get
      Fld.ANG_CFG_WEDGES ≤ 0 ∧ (w_WedgeChecks_3.msq .a).sqCauses = 0 ∧ w_WedgeChecks_3.loaded .a = true ∧ w_WedgeChecks_3.pesValid .a =
      false ∧ (w_WedgeChecks_3.msq .a).running = some 0 ∧ (w_WedgeChecks_3.msq .a).sqWait = false := by decide +kernel

def w_WedgeChecks_4 : State := (run0.putb Fld.ANG_STAT_VALID true).setMsq .a
      { run0.msq .a with work := [{ mkWork (.media (mrun .read)) 0 none with begun := true }, { mkWork (.commit 0 Arch.empty (run0.msq .a).pos0 (run0.msq .a).pos1 [] 0) 0 none with begun := true }] }
theorem wit_WedgeChecks_4 : w_WedgeChecks_4.actOk .a = true ∧ w_WedgeChecks_4.flag Fld.ANG_STAT_VALID = true ∧ ¬ w_WedgeChecks_4.get
      Fld.ANG_CFG_WEDGES ≤ 0 ∧ (w_WedgeChecks_4.msq .a).sqCauses = 0 ∧ w_WedgeChecks_4.loaded .a = false ∧ (w_WedgeChecks_4.msq
      .a).running = some 0 ∧ (w_WedgeChecks_4.msq .a).sqWait = false ∧ (w_WedgeChecks_4.msq .a).wait = none ∧ (w_WedgeChecks_4.msq
      .a).work = [({ mkWork (.media (mrun .read)) 0 none with begun := true }),
      ({ mkWork (.commit 0 Arch.empty (run0.msq .a).pos0 (run0.msq .a).pos1 [] 0) 0 none with begun := true })] ∧
      ({ mkWork (.media (mrun .read)) 0 none with begun := true }).kind = .media (mrun .read) ∧
      ({ mkWork (.media (mrun .read)) 0 none with begun := true }).begun = true ∧
      ({ mkWork (.media (mrun .read)) 0 none with begun := true }).done = false ∧
      ({ mkWork (.commit 0 Arch.empty (run0.msq .a).pos0 (run0.msq .a).pos1 [] 0) 0 none with begun := true }).kind.isCommit = true ∧
      ({ mkWork (.commit 0 Arch.empty (run0.msq .a).pos0 (run0.msq .a).pos1 [] 0) 0 none with begun := true }).begun = true := by
      decide +kernel

def w_WedgeChecks_5 : State := (((runL.setMsq .a { runL.msq .a with sqWait := true, sqCauses := 4 }).putb Fld.ANG_STAT_VALID true).put
      (Fld.LPE_PES_PES0 .a) 0x8000)
theorem wit_WedgeChecks_5 : w_WedgeChecks_5.actOk .a = true ∧ w_WedgeChecks_5.flag Fld.ANG_STAT_VALID = true ∧ ¬ w_WedgeChecks_5.get
      Fld.ANG_CFG_WEDGES ≤ 0 ∧ (w_WedgeChecks_5.msq .a).running = some 0 ∧ (w_WedgeChecks_5.msq .a).sqWait = true ∧
      w_WedgeChecks_5.causesCleared .a = false ∧ w_WedgeChecks_5.loaded .a = true ∧ w_WedgeChecks_5.pesValid .a = false := by
      decide +kernel

def w_WedgeChecks_6 : State := run0.setMsq .a { run0.msq .a with sqWait := true }
theorem wit_WedgeChecks_6 : (w_WedgeChecks_6.msq .a).running = some 0 ∧ (w_WedgeChecks_6.msq .a).sqWait = true ∧
      w_WedgeChecks_6.causesCleared .a = true ∧ (w_WedgeChecks_6.msq .a).unloaded = false ∧ (w_WedgeChecks_6.msq .a).work = [] ∧
      (w_WedgeChecks_6.msq .a).wait = none := by decide +kernel

def w_WedgeChecks_7 : State := { ((runL.putb Fld.ANG_STAT_VALID true).wr Reg.ANG_SPEED 42221243#32) with now := 1000000000 }
theorem wit_WedgeChecks_7 : w_WedgeChecks_7.loaded .a = true ∧ w_WedgeChecks_7.flag Fld.ANG_STAT_VALID = true ∧
      w_WedgeChecks_7.wedgePeriod ≠ 0 ∧ 3 * w_WedgeChecks_7.wedgePeriod ≤ 2 * (w_WedgeChecks_7.now - (w_WedgeChecks_7.msq .a).checkAt) ∧
      (w_WedgeChecks_7.msq .a).running = some 0 ∧ (w_WedgeChecks_7.msq .a).sqWait = false := by decide +kernel

def w_WedgeChecks_8 : State := R0.wr Reg.ANG_SPEED 42221243#32
theorem wit_WedgeChecks_8 : 2 * (w_WedgeChecks_8.now - (w_WedgeChecks_8.msq .b).checkAt) < 3 * w_WedgeChecks_8.wedgePeriod := by
      decide +kernel

def w_WedgeChecks_9 : State := R0
theorem wit_WedgeChecks_9 : w_WedgeChecks_9.actOk .b = true ∧ 0x3FFF < 0x4000 ∧ (notedFields w_WedgeChecks_9 .a ++ notedFields
      w_WedgeChecks_9 .b).all (fun f => f.addr != Reg.UCS_PARCNT) = true := by decide +kernel

def w_WedgeChecks_10 : State := R0
theorem wit_WedgeChecks_10 : w_WedgeChecks_10.actOk .b = true ∧ 0x4000 ≤ 0x4000 ∧ 0x4000 < 0x5000 ∧ (notedFields w_WedgeChecks_10 .a ++
      notedFields w_WedgeChecks_10 .b).all (fun f => f.addr != Reg.UCS_PARCNT) = true := by decide +kernel

def w_WedgeChecks_11 : State := R0
theorem wit_WedgeChecks_11 : w_WedgeChecks_11.actOk .b = true ∧ 0x5000 ≤ 0x5000 ∧ (notedFields w_WedgeChecks_11 .a ++ notedFields
      w_WedgeChecks_11 .b).all (fun f => f.addr != Reg.UCS_PARCNT) = true := by decide +kernel

/-! ### SapwoodLoading -/

def w_SapwoodLoading_1 : State := R0
theorem wit_SapwoodLoading_1 : w_SapwoodLoading_1.actOk .a = true ∧ w_SapwoodLoading_1.see (Fld.MSQ_STAT_HELD .a) = 1 := by decide +kernel

def w_SapwoodLoading_2 : State := run0
theorem wit_SapwoodLoading_2 : w_SapwoodLoading_2.actOk .a = true ∧ w_SapwoodLoading_2.see (Fld.MSQ_STAT_HELD .a) ≠ 1 := by decide +kernel

def w_SapwoodLoading_3 : State := R0
theorem wit_SapwoodLoading_3 : w_SapwoodLoading_3.actOk .a = true := by decide +kernel

def w_SapwoodLoading_4 : State := (R0.putb (Fld.UCS_SAPCTL_LOAD .a) true).put (Fld.UCS_SAPADDR_ADDR .a) 0x7FF
theorem wit_SapwoodLoading_4 : w_SapwoodLoading_4.actOk .a = true ∧ w_SapwoodLoading_4.flag (Fld.UCS_SAPCTL_LOAD .a) = true ∧
      w_SapwoodLoading_4.get (Fld.UCS_SAPADDR_ADDR .a) < 0x800 := by decide +kernel

def w_SapwoodLoading_5 : State := (R0.putb (Fld.UCS_SAPCTL_LOAD .b) true).put (Fld.UCS_SAPADDR_ADDR .b) 0x83F
theorem wit_SapwoodLoading_5 : w_SapwoodLoading_5.actOk .b = true ∧ w_SapwoodLoading_5.flag (Fld.UCS_SAPCTL_LOAD .b) = true ∧ 0x800 ≤
      w_SapwoodLoading_5.get (Fld.UCS_SAPADDR_ADDR .b) ∧ w_SapwoodLoading_5.get (Fld.UCS_SAPADDR_ADDR .b) < 0x840 := by decide +kernel

def w_SapwoodLoading_6 : State := R0
theorem wit_SapwoodLoading_6 : w_SapwoodLoading_6.actOk .a = true ∧ w_SapwoodLoading_6.flag (Fld.UCS_SAPCTL_LOAD .a) = false := by
      decide +kernel

def w_SapwoodLoading_7 : State := R0
theorem wit_SapwoodLoading_7 : w_SapwoodLoading_7.actOk .a = true := by decide +kernel

/-! ### SyncAndDecode -/

def w_SyncAndDecode_1 : State := runR
theorem wit_SyncAndDecode_1 : (w_SyncAndDecode_1.msq (actOf 0)).mediaOn (isSecond 0) = some (mrun .read) ∧ (w_SyncAndDecode_1.ch 0).op = 1
      ∧ (w_SyncAndDecode_1.ch 0).place < (mrun .read).count ∧ ((runR.sectorAt 0 0 (mrun .read) 0)) = w_SyncAndDecode_1.sectorAt 0
      (w_SyncAndDecode_1.ch 0).items (mrun .read) (w_SyncAndDecode_1.ch 0).place ∧ ((runR.sectorAt 0 0 (mrun .read) 0)).clk = true ∧
      slowDec ((runR.sectorAt 0 0 (mrun .read) 0)).set.recc = false ∧ w_SyncAndDecode_1.candidates 0 ([(3, 9), (2, 1), (-1, 1)]) = ((-1,
      1)) :: ([(2, 1)]) := by
  refine ⟨?_, ?_, ?_, ?_, ?_, ?_, ?_⟩ <;> first | decide +kernel | rfl

def w_SyncAndDecode_2 : State := runR
theorem wit_SyncAndDecode_2 : (w_SyncAndDecode_2.msq (actOf 0)).mediaOn (isSecond 0) = some (mrun .read) ∧ (w_SyncAndDecode_2.ch 0).op = 1
      ∧ (w_SyncAndDecode_2.ch 0).place < (mrun .read).count ∧ ((runR.sectorAt 0 0 (mrun .read) 0)) = w_SyncAndDecode_2.sectorAt 0
      (w_SyncAndDecode_2.ch 0).items (mrun .read) (w_SyncAndDecode_2.ch 0).place ∧ ((runR.sectorAt 0 0 (mrun .read) 0)).clk = true ∧
      slowDec ((runR.sectorAt 0 0 (mrun .read) 0)).set.recc = false ∧ w_SyncAndDecode_2.candidates 0 ([(0, 9)]) = [] ∧
      w_SyncAndDecode_2.flag (Fld.CH_REDET_MISSED 0) = true ∧ (w_SyncAndDecode_2.ch 0).redet.length < 3 := by
  refine ⟨?_, ?_, ?_, ?_, ?_, ?_, ?_, ?_, ?_⟩ <;> first | decide +kernel | rfl

def w_SyncAndDecode_3 : State := runR.putb (Fld.CH_REDET_MISSED 0) false
theorem wit_SyncAndDecode_3 : (w_SyncAndDecode_3.msq (actOf 0)).mediaOn (isSecond 0) = some (mrun .read) ∧ (w_SyncAndDecode_3.ch 0).op = 1
      ∧ (w_SyncAndDecode_3.ch 0).place < (mrun .read).count ∧ (((runR.putb (Fld.CH_REDET_MISSED 0) false).sectorAt 0 0 (mrun .read) 0)) =
      w_SyncAndDecode_3.sectorAt 0 (w_SyncAndDecode_3.ch 0).items (mrun .read) (w_SyncAndDecode_3.ch 0).place ∧ (((runR.putb
      (Fld.CH_REDET_MISSED 0) false).sectorAt 0 0 (mrun .read) 0)).clk = true ∧ slowDec (((runR.putb (Fld.CH_REDET_MISSED 0)
      false).sectorAt 0 0 (mrun .read) 0)).set.recc = false ∧ w_SyncAndDecode_3.candidates 0 ([]) = [] ∧ w_SyncAndDecode_3.flag
      (Fld.CH_REDET_MISSED 0) = false := by
  refine ⟨?_, ?_, ?_, ?_, ?_, ?_, ?_, ?_⟩ <;> first | decide +kernel | rfl

def w_SyncAndDecode_4 : State := runR.wr (Reg.ANG_BPR 0) 0#32
theorem wit_SyncAndDecode_4 : (w_SyncAndDecode_4.msq (actOf 0)).mediaOn (isSecond 0) = some (mrun .read) ∧ (w_SyncAndDecode_4.ch 0).op = 1
      ∧ (w_SyncAndDecode_4.ch 0).place < (mrun .read).count ∧ (((runR.wr (Reg.ANG_BPR 0) 0#32).sectorAt 0 0 (mrun .read) 0)) =
      w_SyncAndDecode_4.sectorAt 0 (w_SyncAndDecode_4.ch 0).items (mrun .read) (w_SyncAndDecode_4.ch 0).place ∧ (((runR.wr (Reg.ANG_BPR 0)
      0#32).sectorAt 0 0 (mrun .read) 0)).clk = false := by
  refine ⟨?_, ?_, ?_, ?_, ?_⟩ <;> first | decide +kernel | rfl

def w_SyncAndDecode_5 : State := runR.setCh 0 { runR.ch 0 with cur := [sec0] }
theorem wit_SyncAndDecode_5 : (w_SyncAndDecode_5.ch 0).cur = sec0 :: ([]) ∧ dec0.sramBad = false ∧ w_SyncAndDecode_5.bclkOk 0 = true ∧
      converged (iterLimit sec0.set.cfg sec0.set.recc) dec0.weights = some 2 ∧ dec0.crc = true ∧ sec0.tagOk dec0.tag = true ∧ sec0.read =
      true := by decide +kernel

def w_SyncAndDecode_6 : State := runR.setCh 0 { runR.ch 0 with cur := [sec0] }
theorem wit_SyncAndDecode_6 : (w_SyncAndDecode_6.ch 0).cur = sec0 :: ([]) ∧ ({ dec0 with tag := 1 }).sramBad = false ∧
      w_SyncAndDecode_6.bclkOk 0 = true ∧ converged (iterLimit sec0.set.cfg sec0.set.recc) ({ dec0 with tag := 1 }).weights = some 2 ∧
      ({ dec0 with tag := 1 }).crc = true ∧ sec0.tagOk ({ dec0 with tag := 1 }).tag = false := by decide +kernel

def w_SyncAndDecode_7 : State := runR.setCh 0 { runR.ch 0 with cur := [sec0] }
theorem wit_SyncAndDecode_7 : (w_SyncAndDecode_7.ch 0).cur = sec0 :: ([]) ∧ ({ dec0 with weights := [3] }).sramBad = false ∧
      w_SyncAndDecode_7.bclkOk 0 = true ∧ converged (iterLimit sec0.set.cfg sec0.set.recc) ({ dec0 with weights := [3] }).weights = none ∧
      sec0.sync = some (0, 0) ∧ 0 ≤ 0 ∧ w_SyncAndDecode_7.flag (Fld.CH_REDET_ANYSYNC 0) = false := by decide +kernel

def w_SyncAndDecode_8 : State := runR.setCh 0 { runR.ch 0 with cur := [{ sec0 with sync := some (-1, 0) }] }
theorem wit_SyncAndDecode_8 : (w_SyncAndDecode_8.ch 0).cur = ({ sec0 with sync := some (-1, 0) }) :: ([]) ∧
      ({ dec0 with weights := [3] }).sramBad = false ∧ w_SyncAndDecode_8.bclkOk 0 = true ∧ converged (iterLimit
      ({ sec0 with sync := some (-1, 0) }).set.cfg ({ sec0 with sync := some (-1, 0) }).set.recc) ({ dec0 with weights := [3] }).weights =
      none ∧ ({ sec0 with sync := some (-1, 0) }).sync = some ((-1), 0) ∧ (-1) < 0 ∧ w_SyncAndDecode_8.flag (Fld.CH_REDET_EARLY 0) = true
      ∧ (w_SyncAndDecode_8.ch 0).redet.length < 3 := by decide +kernel

def w_SyncAndDecode_9 : State := R0.setCh 0 { R0.ch 0 with cur := [sec0] }
theorem wit_SyncAndDecode_9 : (w_SyncAndDecode_9.ch 0).cur = sec0 :: ([]) ∧ dec0.sramBad = false ∧ w_SyncAndDecode_9.bclkOk 0 = false :=
      by decide +kernel

def w_SyncAndDecode_10 : State := R0
theorem wit_SyncAndDecode_10 : w_SyncAndDecode_10.chanOk 1 = true := by decide +kernel

def w_SyncAndDecode_11 : State :=
      { runR.setCh 0 { runR.ch 0 with cur := [sec0], frozen := true } with ang := { runR.ang with ats := 1000000 } }
theorem wit_SyncAndDecode_11 : (w_SyncAndDecode_11.msq (actOf 0)).mediaOn (isSecond 0) = some (mrun .read) ∧ (w_SyncAndDecode_11.ch 0).op
      = 1 ∧ (w_SyncAndDecode_11.ch 0).cur.getLast? = some sec0 ∧ w_SyncAndDecode_11.freezeOver 0 sec0.place = true := by decide +kernel

def w_SyncAndDecode_13 : State := R0.put (Fld.CH_EQADDR_ADDR 1) 127
theorem wit_SyncAndDecode_13 : w_SyncAndDecode_13.chanOk 1 = true := by decide +kernel

def w_SyncAndDecode_14 : State := R0
theorem wit_SyncAndDecode_14 : w_SyncAndDecode_14.chanOk 1 = true := by decide +kernel

/-! ### RedetectionAndLanes -/

def w_RedetectionAndLanes_1 : State := runR.setCh 0
      { runR.ch 0 with redet := [{ sec := sec0, reason := 2, item := 0 }], ring := [{ item := 0, place := 0, start := 0, len := 1, agc := 0, tloop := 0 }] }
theorem wit_RedetectionAndLanes_1 : (w_RedetectionAndLanes_1.ch 0).redet = (({ sec := sec0, reason := 2, item := 0 } : Redet)) :: ([]) ∧
      try0.inRing = true ∧ w_RedetectionAndLanes_1.ringHolds 0 (({ sec := sec0, reason := 2, item := 0 } : Redet)).item
      (({ sec := sec0, reason := 2, item := 0 } : Redet)).sec.place = true ∧ converged (max 1 (w_RedetectionAndLanes_1.get
      (Fld.CH_REDET_ITER 0))) try0.weights = some 2 ∧ (((converged (min 2 (max 1 (w_RedetectionAndLanes_1.get (Fld.CH_REDET_ITER 0))))
      try0.weights).isSome = true ∨ (try0.weights[1]?).getD 0 ≤ w_RedetectionAndLanes_1.get (Fld.CH_REDET_SWMAX 0))) ∧ try0.crc = true ∧
      (({ sec := sec0, reason := 2, item := 0 } : Redet)).sec.tagOk try0.tag = true := by decide +kernel

def w_RedetectionAndLanes_2 : State := runR.setCh 0 { runR.ch 0 with redet := [{ sec := sec0, reason := 2, item := 0 }] }
theorem wit_RedetectionAndLanes_2 : (w_RedetectionAndLanes_2.ch 0).redet = (({ sec := sec0, reason := 2, item := 0 } : Redet)) :: ([]) ∧
      w_RedetectionAndLanes_2.ringHolds 0 (({ sec := sec0, reason := 2, item := 0 } : Redet)).item
      (({ sec := sec0, reason := 2, item := 0 } : Redet)).sec.place = false := by decide +kernel

def w_RedetectionAndLanes_3 : State := runR.setCh 0 { runR.ch 0 with redet := [{ sec := sec0, reason := 2, item := 0 }] }
theorem wit_RedetectionAndLanes_3 : (w_RedetectionAndLanes_3.ch 0).redet = (({ sec := sec0, reason := 2, item := 0 } : Redet)) :: ([]) :=
      by decide +kernel

def w_RedetectionAndLanes_4 : State := runR.setCh 0 { runR.ch 0 with redet := [{ sec := sec0, reason := 2, item := 0 }] }
theorem wit_RedetectionAndLanes_4 : (w_RedetectionAndLanes_4.ch 0).redet = (({ sec := sec0, reason := 2, item := 0 } : Redet)) :: ([]) :=
      by decide +kernel

def w_RedetectionAndLanes_5 : State := runR.setCh 0 { runR.ch 0 with redet := [{ sec := sec0, reason := 2, item := 0 }] }
theorem wit_RedetectionAndLanes_5 : (w_RedetectionAndLanes_5.ch 0).redet = (({ sec := sec0, reason := 2, item := 0 } : Redet)) :: ([]) ∧
      w_RedetectionAndLanes_5.ringFull 0 (({ sec := sec0, reason := 2, item := 0 } : Redet)).item
      (({ sec := sec0, reason := 2, item := 0 } : Redet)).sec.place = true := by decide +kernel

def w_RedetectionAndLanes_6 : State := runR.setCh 0
      { runR.ch 0 with redet := [{ sec := sec0, reason := 2, item := 0 }], ring := [{ item := 0, place := 0, start := 0, len := 1, agc := 0, tloop := 0 }] }
theorem wit_RedetectionAndLanes_6 : (w_RedetectionAndLanes_6.ch 0).redet = (({ sec := sec0, reason := 2, item := 0 } : Redet)) :: ([]) ∧
      w_RedetectionAndLanes_6.ringFull 0 (({ sec := sec0, reason := 2, item := 0 } : Redet)).item
      (({ sec := sec0, reason := 2, item := 0 } : Redet)).sec.place = false := by decide +kernel

def w_RedetectionAndLanes_7 : State := (runR.putb Fld.CPH_STAT_MASKOK true).setCh 0
      { runR.ch 0 with out := [{ item := 1, ctx := 0, spos := 0, lba := 0, pi := 0 }] }
theorem wit_RedetectionAndLanes_7 : w_RedetectionAndLanes_7.lanesOpen = true ∧ (w_RedetectionAndLanes_7.ch 0).out =
      (({ item := 1, ctx := 0, spos := 0, lba := 0, pi := 0 } : RSec)) :: ([]) := by decide +kernel

def w_RedetectionAndLanes_8 : State := (((runM.setMsq .a
      { runM.msq .a with work := [{ mkWork (.media (mrun .write)) 0 none with begun := true }] }).setCh 0 { R0.ch 0 with op := 2 }).putb
      Fld.CPH_STAT_MASKOK true)
theorem wit_RedetectionAndLanes_8 : w_RedetectionAndLanes_8.lanesOpen = true ∧ (w_RedetectionAndLanes_8.ch 0).out = [] ∧
      (w_RedetectionAndLanes_8.msq (actOf 0)).mediaOn (isSecond 0) = some (mrun .write) ∧ (mrun .write).op = .write ∧ (if isSecond 0 then
      (mrun .write).lane1 else (mrun .write).lane0) < (mrun .write).active (isSecond 0) := by decide +kernel

def w_RedetectionAndLanes_9 : State := R0.putb Fld.CPH_STAT_MASKOK false
theorem wit_RedetectionAndLanes_9 : w_RedetectionAndLanes_9.lanesOpen = false := by decide +kernel

/-! ### WriteGuardTrips -/

def w_WriteGuardTrips_1 : State := { lgW with ang := { lgW.ang with ats := 6000000000 } }
theorem wit_WriteGuardTrips_1 : w_WriteGuardTrips_1.laserOver .a false = true ∧ w_WriteGuardTrips_1.actOk .a = true ∧ (notedFields
      w_WriteGuardTrips_1 .a ++ notedFields w_WriteGuardTrips_1 .b).all (fun f => f.addr != (Reg.WRP_WGLAST .a)) = true := by
      decide +kernel

def w_WriteGuardTrips_2 : State := lgW.setWrp .a { lgW.wrp .a with las0 := { (lgW.wrp .a).las0 with misses := 1 } }
theorem wit_WriteGuardTrips_2 : w_WriteGuardTrips_2.get (Fld.WRP_CFG_AMODE .a) = 1 ∧ w_WriteGuardTrips_2.lgOpen .a false = true ∧
      w_WriteGuardTrips_2.actOk .a = true ∧ w_WriteGuardTrips_2.eff (Fld.WRP_LMON_LM_MISS .a) ≤ ((w_WriteGuardTrips_2.wrp .a).las
      false).misses + 1 := by decide +kernel

def w_WriteGuardTrips_3 : State := lgW
theorem wit_WriteGuardTrips_3 : w_WriteGuardTrips_3.get (Fld.WRP_CFG_AMODE .a) = 1 ∧ w_WriteGuardTrips_3.lgOpen .a false = true ∧
      ((w_WriteGuardTrips_3.wrp .a).las false).misses + 1 < w_WriteGuardTrips_3.eff (Fld.WRP_LMON_LM_MISS .a) ∧ ((w_WriteGuardTrips_3.wrp
      .a).las false).same < w_WriteGuardTrips_3.eff (Fld.WRP_LMON_LM_FRZ .a) := by decide +kernel

def w_WriteGuardTrips_4 : State := R0.put (Fld.WRP_CFG_AMODE .b) 1
theorem wit_WriteGuardTrips_4 : w_WriteGuardTrips_4.get (Fld.WRP_CFG_AMODE .b) = 1 ∧ w_WriteGuardTrips_4.lgOpen .b true = false := by
      decide +kernel

def w_WriteGuardTrips_5 : State := R0.setWrp .a { R0.wrp .a with holding := 64 }
theorem wit_WriteGuardTrips_5 : (w_WriteGuardTrips_5.wrp .a).holding = 64 := by decide +kernel

def w_WriteGuardTrips_6 : State := R0
theorem wit_WriteGuardTrips_6 : w_WriteGuardTrips_6.actState .a ≠ 6 ∧ 11 < 16 := by decide +kernel

def w_WriteGuardTrips_7 : State := lgW
theorem wit_WriteGuardTrips_7 : (0x81#8) ≠ 0 ∧ (0x81#8).getLsbD 1 = false ∧ w_WriteGuardTrips_7.actOk .b = true ∧ (w_WriteGuardTrips_7.wrp
      .b).holding = 0 ∧ (notedFields w_WriteGuardTrips_7 .a ++ notedFields w_WriteGuardTrips_7 .b).all (fun f => f.addr != (Reg.WRP_WGLAST
      .b)) = true := by decide +kernel

def w_WriteGuardTrips_8 : State := R0.setWrp .a { R0.wrp .a with holding := 64 }
theorem wit_WriteGuardTrips_8 : (1#8) ≠ 0 ∧ (1#8).getLsbD 1 = false ∧ w_WriteGuardTrips_8.actOk .a = true ∧ (w_WriteGuardTrips_8.wrp
      .a).holding ≠ 0 ∧ (notedFields w_WriteGuardTrips_8 .a ++ notedFields w_WriteGuardTrips_8 .b).all (fun f => f.addr != (Reg.WRP_WGLAST
      .a)) = true := by decide +kernel

def w_WriteGuardTrips_9 : State := lgW
theorem wit_WriteGuardTrips_9 : (2#8).getLsbD 1 = true ∧ w_WriteGuardTrips_9.actOk .a = true ∧ w_WriteGuardTrips_9.actOk .b = true := by
      decide +kernel

def w_WriteGuardTrips_11 : State := { R0 with now := 1000000 }
theorem wit_WriteGuardTrips_11 : w_WriteGuardTrips_11.wrpA.shockAt + w_WriteGuardTrips_11.get Fld.WRPA_SHOCK_HOLD * 12800 ≤
      w_WriteGuardTrips_11.now := by decide +kernel

/-! ### PreampLink -/

def w_PreampLink_2 : State := R0.setPlk .a { R0.plk .a with repeated := true }
theorem wit_PreampLink_2 : w_PreampLink_2.actOk .a = true ∧ ¬ ((5#7).toNat = w_PreampLink_2.get (Fld.PLK_CFG_STATADDR .a) ∧ (7#16).msb =
      true) := by decide +kernel

def w_PreampLink_3 : State := R0.put (Fld.PLK_CFG_STATADDR .a) 9
theorem wit_PreampLink_3 : (9#7).toNat = w_PreampLink_3.get (Fld.PLK_CFG_STATADDR .a) ∧ (0x8001#16).msb = true ∧ w_PreampLink_3.actOk .a =
      true := by decide +kernel

def w_PreampLink_4 : State := R0
theorem wit_PreampLink_4 : (w_PreampLink_4.plk .b).repeated = false ∧ w_PreampLink_4.actOk .b = true := by decide +kernel

def w_PreampLink_5 : State := R0.setPlk .a { R0.plk .a with repeated := true }
theorem wit_PreampLink_5 : (w_PreampLink_5.plk .a).repeated = true ∧ w_PreampLink_5.actOk .a = true ∧ (notedFields w_PreampLink_5 .a ++
      notedFields w_PreampLink_5 .b).all (fun f => f.addr != (Reg.PLK_CNT .a)) = true := by decide +kernel

def w_PreampLink_6 : State := R0
theorem wit_PreampLink_6 : (w_PreampLink_6.plk .a).repeated = false ∧ w_PreampLink_6.actOk .a = true := by decide +kernel

def w_PreampLink_7 : State := R0.put (Fld.PLK_REQ_ADDR .a) 127 |>.putb (Fld.PLK_REQ_RD .a) true
theorem wit_PreampLink_7 : w_PreampLink_7.actOk .a = true ∧ ((w_PreampLink_7.plk .a).fwWaits && w_PreampLink_7.plkReading .a) = false ∧
      (w_PreampLink_7.msq .a).work = [] ∧ w_PreampLink_7.flag (Fld.PLK_REQ_RD .a) = true ∧ ¬ (w_PreampLink_7.get (Fld.PLK_REQ_ADDR .a) =
      w_PreampLink_7.get (Fld.PLK_CFG_STATADDR .a) ∧ (7#16).msb = true) := by decide +kernel

def w_PreampLink_8 : State := R0.put (Fld.PLK_REQ_ADDR .a) 127 |>.put (Fld.PLK_REQ_DATA .a) 3
theorem wit_PreampLink_8 : w_PreampLink_8.actOk .a = true ∧ ((w_PreampLink_8.plk .a).fwWaits && w_PreampLink_8.plkReading .a) = false ∧
      (w_PreampLink_8.msq .a).work = [] ∧ w_PreampLink_8.flag (Fld.PLK_REQ_RD .a) = false := by decide +kernel

def w_PreampLink_9 : State := (run0.setMicro .a { Micro.idle with on := true, stall := some (.plkr 0x4F 3) }).setPlk .a
      { R0.plk .a with fwWaits := true }
theorem wit_PreampLink_9 : ((w_PreampLink_9.plk .a).fwWaits && w_PreampLink_9.plkReading .a) = true := by decide +kernel

def w_PreampLink_10 : State := R0
theorem wit_PreampLink_10 : (true || (0#16).msb) = true ∧ w_PreampLink_10.actOk .a = true := by decide +kernel

def w_PreampLink_11 : State := R0
theorem wit_PreampLink_11 : (0x7FFF#16).msb = false := by decide +kernel

/-! ### LoopSamples -/

def w_LoopSamples_1 : State := R0
theorem wit_LoopSamples_1 : w_LoopSamples_1.actOk .a = true ∧ w_LoopSamples_1.flag (drvOff .a) = false ∧ w_LoopSamples_1.lpe.held = false
      := by decide +kernel

def w_LoopSamples_2 : State := { R0 with lpe := { R0.lpe with held := true } }
theorem wit_LoopSamples_2 : w_LoopSamples_2.lpe.held = true := by decide +kernel

def w_LoopSamples_3 : State := (runL.put (Fld.LPE_PES_PES0 .a) 0 |>.put Fld.DRV_UACT_EN 15 |>.putb Fld.DRV_CFG_BOOSTEN true)
theorem wit_LoopSamples_3 : w_LoopSamples_3.actOk (actOf ((0 : Chan))) = true ∧ w_LoopSamples_3.flag (drvOff (actOf ((0 : Chan)))) = false
      ∧ w_LoopSamples_3.lpe.held = false ∧ w_LoopSamples_3.d2d.remapAcked = false ∧ w_LoopSamples_3.loaded (actOf ((0 : Chan))) = true ∧
      ((w_LoopSamples_3.msq (actOf ((0 : Chan)))).pos (isSecond ((0 : Chan)))).head = some 0 ∧ 0 = w_LoopSamples_3.get (if isSecond ((0 :
      Chan)) then Fld.LPE_PES_PES1 (actOf ((0 : Chan))) else Fld.LPE_PES_PES0 (actOf ((0 : Chan)))) ∧ 0 ≠ 0x8000 ∧ w_LoopSamples_3.uaOn
      ((0 : Chan)) = true ∧ (-((runL.put (Fld.LPE_PES_PES0 .a) 0 |>.put Fld.DRV_UACT_EN 15 |>.putb Fld.DRV_CFG_BOOSTEN true).pesUnits .a 0
      5 0) - ((((runL.put (Fld.LPE_PES_PES0 .a) 0 |>.put Fld.DRV_UACT_EN 15 |>.putb Fld.DRV_CFG_BOOSTEN true).la .a).target : Rat) -
      ((runL.put (Fld.LPE_PES_PES0 .a) 0 |>.put Fld.DRV_UACT_EN 15 |>.putb Fld.DRV_CFG_BOOSTEN true).la .a).p)) =
      -(w_LoopSamples_3.pesUnits (actOf ((0 : Chan))) 0 ((((w_LoopSamples_3.msq (actOf ((0 : Chan)))).pos (isSecond ((0 :
      Chan)))).target).getD 0) (sgn 16 0)) - (((w_LoopSamples_3.la (actOf ((0 : Chan)))).target : Rat) - (w_LoopSamples_3.la (actOf ((0 :
      Chan)))).p) := by
  refine ⟨?_, ?_, ?_, ?_, ?_, ?_, ?_, ?_, ?_, ?_⟩ <;> first | decide +kernel | rfl

def w_LoopSamples_4 : State := runL.put (Fld.LPE_PES_PES0 .a) 0 |>.put Fld.LPE_FESTAT_UA 15
theorem wit_LoopSamples_4 : w_LoopSamples_4.actOk (actOf ((0 : Chan))) = true ∧ w_LoopSamples_4.flag (drvOff (actOf ((0 : Chan)))) = false
      ∧ w_LoopSamples_4.lpe.held = false ∧ w_LoopSamples_4.d2d.remapAcked = false ∧ w_LoopSamples_4.loaded (actOf ((0 : Chan))) = true ∧
      ((w_LoopSamples_4.msq (actOf ((0 : Chan)))).pos (isSecond ((0 : Chan)))).head = some 0 ∧ w_LoopSamples_4.get (if isSecond ((0 :
      Chan)) then Fld.LPE_PES_PES1 (actOf ((0 : Chan))) else Fld.LPE_PES_PES0 (actOf ((0 : Chan)))) ≠ 0x8000 ∧ w_LoopSamples_4.uaOn ((0 :
      Chan)) = false := by decide +kernel

def w_LoopSamples_5 : State := runL.put (Fld.LPE_PES_PES0 .a) 0x8000
theorem wit_LoopSamples_5 : w_LoopSamples_5.actOk (actOf ((0 : Chan))) = true ∧ w_LoopSamples_5.flag (drvOff (actOf ((0 : Chan)))) = false
      ∧ w_LoopSamples_5.lpe.held = false ∧ w_LoopSamples_5.d2d.remapAcked = false ∧ w_LoopSamples_5.loaded (actOf ((0 : Chan))) = true ∧
      ((w_LoopSamples_5.msq (actOf ((0 : Chan)))).pos (isSecond ((0 : Chan)))).head = some 0 ∧ w_LoopSamples_5.get (if isSecond ((0 :
      Chan)) then Fld.LPE_PES_PES1 (actOf ((0 : Chan))) else Fld.LPE_PES_PES0 (actOf ((0 : Chan)))) = 0x8000 := by decide +kernel

def w_LoopSamples_6 : State := R0.putb Fld.SPN_CTL_RUN false
theorem wit_LoopSamples_6 : w_LoopSamples_6.lpe.held = false ∧ w_LoopSamples_6.flag Fld.SPN_CTL_RUN = false ∧ w_LoopSamples_6.loaded .a =
      false ∧ w_LoopSamples_6.loaded .b = false := by decide +kernel

def w_LoopSamples_7 : State := (runL.putb Fld.SPN_CTL_RUN false).setSpn { runL.spn with target := 7200 }
theorem wit_LoopSamples_7 : w_LoopSamples_7.lpe.held = false ∧ w_LoopSamples_7.flag Fld.SPN_CTL_RUN = false ∧ w_LoopSamples_7.get
      Fld.SPN_CMDSRC_SRC = 0 ∧ (w_LoopSamples_7.loaded .a || w_LoopSamples_7.loaded .b) = true ∧ w_LoopSamples_7.spn.target = 7200 ∧
      w_LoopSamples_7.spnState = spnStopped := by decide +kernel

def w_LoopSamples_8 : State := R0
theorem wit_LoopSamples_8 : w_LoopSamples_8.lpe.held = false ∧ w_LoopSamples_8.d2d.remapAcked = false ∧ w_LoopSamples_8.busTarget + 50 *
      w_LoopSamples_8.feLim Fld.LPE_FEBUS_FE_LIM < 100000 := by decide +kernel

def w_LoopSamples_9 : State := R0
theorem wit_LoopSamples_9 : w_LoopSamples_9.lpe.held = false ∧ w_LoopSamples_9.d2d.remapAcked = false ∧ R0.busTarget =
      w_LoopSamples_9.busTarget := by
  refine ⟨?_, ?_, ?_⟩ <;> first | decide +kernel | rfl

def w_LoopSamples_10 : State := lgW.setMsq .a { lgW.msq .a with pos0 := { (lgW.msq .a).pos0 with head := some 3 } }
theorem wit_LoopSamples_10 : w_LoopSamples_10.get (Fld.WRP_CFG_AMODE (actOf ((0 : Chan)))) = 1 ∧ w_LoopSamples_10.lgOpen (actOf ((0 :
      Chan))) (isSecond ((0 : Chan))) = true ∧ w_LoopSamples_10.lpe.held = false ∧ w_LoopSamples_10.d2d.remapAcked = false ∧
      ((w_LoopSamples_10.msq (actOf ((0 : Chan)))).pos (isSecond ((0 : Chan)))).head = some 3 ∧ w_LoopSamples_10.laserSetp (actOf ((0 :
      Chan))) (isSecond ((0 : Chan))) + w_LoopSamples_10.feLim Fld.LPE_FELAS_FE_LIM < 4000 := by decide +kernel

def w_LoopSamples_11 : State := R0.setMsq .a { R0.msq .a with pos0 := { (R0.msq .a).pos0 with head := some 3 } }
theorem wit_LoopSamples_11 : ((w_LoopSamples_11.msq (actOf ((0 : Chan)))).pos (isSecond ((0 : Chan)))).head = some 3 ∧
      w_LoopSamples_11.lpe.held = false ∧ w_LoopSamples_11.actOk (actOf ((0 : Chan))) = true ∧ (if isSecond ((0 : Chan)) then
      (w_LoopSamples_11.wrp (actOf ((0 : Chan)))).htr1 else (w_LoopSamples_11.wrp (actOf ((0 : Chan)))).htr0) + w_LoopSamples_11.feLim
      Fld.LPE_FEHTR_FE_LIM < 4000 := by decide +kernel

def w_LoopSamples_12 : State := R0.setMsq .a { R0.msq .a with pos0 := { (R0.msq .a).pos0 with head := some 3 } }
theorem wit_LoopSamples_12 : ((w_LoopSamples_12.msq (actOf ((0 : Chan)))).pos (isSecond ((0 : Chan)))).head = some 3 ∧
      w_LoopSamples_12.lpe.held = false ∧ w_LoopSamples_12.actOk (actOf ((0 : Chan))) = true ∧ (if isSecond ((0 : Chan)) then
      (w_LoopSamples_12.wrp (actOf ((0 : Chan)))).htr1 else (w_LoopSamples_12.wrp (actOf ((0 : Chan)))).htr0) = ((R0.wrp .a).htr0) := by
      decide +kernel

/-! ### LoopSupervision -/

def w_LoopSupervision_1 : State := runL.setLa .a { runL.la .a with blind := 3 }
theorem wit_LoopSupervision_1 : (w_LoopSupervision_1.loaded .a || (w_LoopSupervision_1.la .a).loading) = true ∧ w_LoopSupervision_1.flag
      (lpeSearch .a) = false ∧ w_LoopSupervision_1.eff Fld.LPE_SERVO_COAST_MAX ≤ (w_LoopSupervision_1.la .a).blind := by decide +kernel

def w_LoopSupervision_2 : State := { (runL.putb (lpeSearch .a) true) with ang := { R0.ang with ats := 0x900000000 } }
theorem wit_LoopSupervision_2 : w_LoopSupervision_2.flag (lpeSearch .a) = true ∧ (w_LoopSupervision_2.la .a).searchRev +
      w_LoopSupervision_2.eff Fld.LPE_SERVO_SEARCH_REV ≤ w_LoopSupervision_2.rev ∧ (w_LoopSupervision_2.la .a).loading = false ∧
      w_LoopSupervision_2.actOk .a = true ∧ w_LoopSupervision_2.flag (drvOff .a) = false := by decide +kernel

def w_LoopSupervision_3 : State :=
      { (((run0.putb (lpeSearch .a) true).setMsq .a { run0.msq .a with work := [{ mkWork .loadh 0 none with begun := true }] }).setLa .a { run0.la .a with loading := true }) with ang := { R0.ang with ats := 0x900000000 } }
theorem wit_LoopSupervision_3 : w_LoopSupervision_3.flag (lpeSearch .a) = true ∧ (w_LoopSupervision_3.la .a).searchRev +
      w_LoopSupervision_3.eff Fld.LPE_SERVO_SEARCH_REV ≤ w_LoopSupervision_3.rev ∧ (w_LoopSupervision_3.la .a).loading = true ∧
      w_LoopSupervision_3.actOk .a = true ∧ w_LoopSupervision_3.flag (drvOff .a) = false ∧ (w_LoopSupervision_3.msq .a).running = some 0 ∧
      (w_LoopSupervision_3.msq .a).work = [({ mkWork .loadh 0 none with begun := true })] ∧
      ({ mkWork .loadh 0 none with begun := true }).kind = .loadh ∧ ({ mkWork .loadh 0 none with begun := true }).begun = true ∧
      ({ mkWork .loadh 0 none with begun := true }).done = false := by decide +kernel

def w_LoopSupervision_4 : State := R0.putb (lpeSearch .b) true
theorem wit_LoopSupervision_4 : w_LoopSupervision_4.rev < (w_LoopSupervision_4.la .b).searchRev + w_LoopSupervision_4.eff
      Fld.LPE_SERVO_SEARCH_REV := by decide +kernel

def w_LoopSupervision_5 : State := R0.setLa .b { R0.la .b with h1 := { (R0.la .b).h1 with fe := 70000 } }
theorem wit_LoopSupervision_5 : 3 < 4 ∧ w_LoopSupervision_5.feTime Fld.LPE_FEUA_FE_TIME ≤ ((w_LoopSupervision_5.la (if 3 < 2 then .a else
      .b)).head (3 % 2 == 1)).fe := by decide +kernel

def w_LoopSupervision_6 : State := { R0 with lpe := { R0.lpe with feLas := [(1, 70000)] } }
theorem wit_LoopSupervision_6 : 4 ≤ 5 ∧ 5 < 8 ∧ w_LoopSupervision_6.feTime Fld.LPE_FELAS_FE_TIME ≤ mget (fun _ => 0)
      w_LoopSupervision_6.lpe.feLas (5 % 4) := by decide +kernel

def w_LoopSupervision_7 : State := { R0 with lpe := { R0.lpe with feHtr := [(1, 70000)] } }
theorem wit_LoopSupervision_7 : 8 ≤ 9 ∧ 9 < 12 ∧ 1 = ((9 % 4 : Nat)) ∧ w_LoopSupervision_7.feTime Fld.LPE_FEHTR_FE_TIME ≤ mget (fun _ =>
      0) w_LoopSupervision_7.lpe.feHtr 1 := by
  refine ⟨?_, ?_, ?_, ?_⟩ <;> first | decide +kernel | rfl

def w_LoopSupervision_8 : State := { R0 with lpe := { R0.lpe with feBus := 70000 } }
theorem wit_LoopSupervision_8 : w_LoopSupervision_8.feTime Fld.LPE_FEBUS_FE_TIME ≤ w_LoopSupervision_8.lpe.feBus := by decide +kernel

def w_LoopSupervision_9 : State := { runL.setLa .a { runL.la .a with satSince := some 0 } with now := 100000000 }
theorem wit_LoopSupervision_9 : 0 < 2 ∧ (w_LoopSupervision_9.la (if 0 = 0 then .a else .b)).satSince = some 0 ∧ 0 +
      w_LoopSupervision_9.eff Fld.LPE_SAT_VSAT_TIME * 80000 ≤ w_LoopSupervision_9.now ∧ w_LoopSupervision_9.actOk (if 0 = 0 then .a else
      .b) = true := by decide +kernel

def w_LoopSupervision_10 : State := { R0 with lpe := { R0.lpe with sSatSince := some 0 }, now := 100000000000 }
theorem wit_LoopSupervision_10 : w_LoopSupervision_10.lpe.sSatSince = some 0 ∧ 0 + w_LoopSupervision_10.eff Fld.LPE_SAT_SSAT_TIME *
      80000000 ≤ w_LoopSupervision_10.now := by decide +kernel

def w_LoopSupervision_11 : State := R0
theorem wit_LoopSupervision_11 : w_LoopSupervision_11.actOk .a = true ∧ (notedFields w_LoopSupervision_11 .a ++ notedFields
      w_LoopSupervision_11 .b).all (fun f => f.addr != Reg.LPE_OVR) = true := by decide +kernel

def w_LoopSupervision_12 : State := R0.setLa .b { R0.la .b with ovr := 1 }
theorem wit_LoopSupervision_12 : w_LoopSupervision_12.actOk .b = true ∧ (w_LoopSupervision_12.la .b).ovr = 1 ∧ w_LoopSupervision_12.flag
      (lpeSafe .b) = false := by decide +kernel

def w_LoopSupervision_13 : State := runL.setLa .a { runL.la .a with ovrRevNo := runL.rev, ovrRev := 7 }
theorem wit_LoopSupervision_13 : w_LoopSupervision_13.actOk .a = true ∧ (w_LoopSupervision_13.la .a).ovrRevNo = w_LoopSupervision_13.rev ∧
      (w_LoopSupervision_13.la .a).ovrRev = 7 := by decide +kernel

def w_LoopSupervision_14 : State := R0
theorem wit_LoopSupervision_14 : 2 ≤ 2 := by decide +kernel

def w_LoopSupervision_15 : State := (R0.putb (lpeSafe .a) true).setLa .a { R0.la .a with safeOk := 64 }
theorem wit_LoopSupervision_15 : w_LoopSupervision_15.flag (lpeSafe .a) = true ∧ 64 ≤ (w_LoopSupervision_15.la .a).safeOk := by
      decide +kernel

def w_LoopSupervision_16 : State := R0.putb Fld.LPE_STAT_DUPLEX true
theorem wit_LoopSupervision_16 : 2 ≤ 2 ∧ w_LoopSupervision_16.flag Fld.LPE_STAT_DUPLEX = true ∧ w_LoopSupervision_16.actOk .a = true ∧
      w_LoopSupervision_16.actOk .b = true ∧ (notedFields w_LoopSupervision_16 .a ++ notedFields w_LoopSupervision_16 .b).all (fun f =>
      f.addr != Reg.LPE_DUP) = true := by decide +kernel

def w_LoopSupervision_17 : State := R0.putb Fld.LPE_STAT_DUPLEX true
theorem wit_LoopSupervision_17 : w_LoopSupervision_17.actOk .a = true ∧ w_LoopSupervision_17.flag Fld.LPE_STAT_DUPLEX = true ∧
      (notedFields w_LoopSupervision_17 .a ++ notedFields w_LoopSupervision_17 .b).all (fun f => f.addr != Reg.LPE_DUP) = true := by
      decide +kernel

def w_LoopSupervision_18 : State := R0.putb Fld.LPE_STAT_DUPLEX false
theorem wit_LoopSupervision_18 : w_LoopSupervision_18.flag Fld.LPE_STAT_DUPLEX = false ∧ w_LoopSupervision_18.actOk .a = true ∧
      w_LoopSupervision_18.actOk .b = true := by decide +kernel

def w_LoopSupervision_19 : State := R0.putb Fld.LPE_STAT_DUPLEX false
theorem wit_LoopSupervision_19 : w_LoopSupervision_19.flag Fld.LPE_STAT_DUPLEX = false := by decide +kernel

def w_LoopSupervision_20 : State := { (R0.putb Fld.LPE_STAT_DUPLEX false).putb Fld.LPE_CTL_READMIT true with now := 160000 }
theorem wit_LoopSupervision_20 : w_LoopSupervision_20.flag Fld.LPE_CTL_READMIT = true ∧ w_LoopSupervision_20.lpe.readmitAt + 160000 ≤
      w_LoopSupervision_20.now := by decide +kernel

def w_LoopSupervision_21 : State := { (R0.putb Fld.LPE_STAT_DUPLEX false).putb Fld.LPE_CTL_READMIT true with now := 160000 }
theorem wit_LoopSupervision_21 : w_LoopSupervision_21.flag Fld.LPE_CTL_READMIT = true ∧ w_LoopSupervision_21.lpe.readmitAt + 160000 ≤
      w_LoopSupervision_21.now := by decide +kernel

def w_LoopSupervision_22 : State := R0
theorem wit_LoopSupervision_22 : 2 < 3 := by decide +kernel

/-! ### CoefficientsAndDrive -/

def w_CoefficientsAndDrive_1 : State := R0.put Fld.LPE_COEFADDR_WORD 3
theorem wit_CoefficientsAndDrive_1 : w_CoefficientsAndDrive_1.coefPort = some (0, (1 - R0.coefBank 0), 3) ∧ w_CoefficientsAndDrive_1.flag
      Fld.LPE_COEFADDR_ACTV = false ∧ coefNamed 0 3 = true := by decide +kernel

def w_CoefficientsAndDrive_2 : State := R0.putb Fld.LPE_COEFADDR_ACTV true
theorem wit_CoefficientsAndDrive_2 : w_CoefficientsAndDrive_2.flag Fld.LPE_COEFADDR_ACTV = true := by decide +kernel

def w_CoefficientsAndDrive_3 : State := R0.put Fld.LPE_COEFADDR_WORD 4095
theorem wit_CoefficientsAndDrive_3 : w_CoefficientsAndDrive_3.coefPort = some (0, (1 - R0.coefBank 0), 4095) := by decide +kernel

def w_CoefficientsAndDrive_4 : State := R0.putb (drvRet .b) true
theorem wit_CoefficientsAndDrive_4 : w_CoefficientsAndDrive_4.flag (drvRet .b) = true ∧ w_CoefficientsAndDrive_4.retph ≠ 2 ∧
      w_CoefficientsAndDrive_4.thm.shut = false := by decide +kernel

def w_CoefficientsAndDrive_5 : State := R0
theorem wit_CoefficientsAndDrive_5 : w_CoefficientsAndDrive_5.actOk .a = true ∧ w_CoefficientsAndDrive_5.flag (drvOff .a) = false ∧
      (w_CoefficientsAndDrive_5.la .a).ocAt = none := by decide +kernel

def w_CoefficientsAndDrive_6 : State := runL.setLa .a { runL.la .a with ocAt := some 0 }
theorem wit_CoefficientsAndDrive_6 : w_CoefficientsAndDrive_6.actOk .a = true ∧ w_CoefficientsAndDrive_6.flag (drvOff .a) = false ∧
      (w_CoefficientsAndDrive_6.la .a).ocAt = some 0 ∧ w_CoefficientsAndDrive_6.now < 0 + 800000 := by decide +kernel

def w_CoefficientsAndDrive_7 : State := { R0.setLa .a { R0.la .a with ocAt := some 0 } with now := 800000 }
theorem wit_CoefficientsAndDrive_7 : w_CoefficientsAndDrive_7.actOk .a = true ∧ w_CoefficientsAndDrive_7.flag (drvOff .a) = false ∧
      (w_CoefficientsAndDrive_7.la .a).ocAt = some 0 ∧ 0 + 800000 ≤ w_CoefficientsAndDrive_7.now := by decide +kernel

def w_CoefficientsAndDrive_8 : State := runL
theorem wit_CoefficientsAndDrive_8 : w_CoefficientsAndDrive_8.actOk .a = true ∧ w_CoefficientsAndDrive_8.flag (drvOff .a) = false := by
      decide +kernel

def w_CoefficientsAndDrive_9 : State := R0.put Fld.DRV_STAT_UAON 15
theorem wit_CoefficientsAndDrive_9 : 3 < 4 ∧ w_CoefficientsAndDrive_9.actOk (if 3 < 2 then .a else .b) = true := by decide +kernel

/-! ### BackEmf -/

def w_BackEmf_1 : State := spS spnShort true
theorem wit_BackEmf_1 : w_BackEmf_1.spnState = spnStopped ∨ w_BackEmf_1.spnState = spnProbe ∨ w_BackEmf_1.spnState = spnShort := by
      decide +kernel

def w_BackEmf_2 : State := (spS spnL1 true).setSpn { R0.spn with valid := 5, place := some 1 }
theorem wit_BackEmf_2 : w_BackEmf_2.spnState = spnL1 ∧ 2 < 6 ∧ w_BackEmf_2.eff Fld.SPN_BEMF_REST_MAX < 500 ∧ w_BackEmf_2.flag
      Fld.SPN_STAT_BEMFOK = false ∧ w_BackEmf_2.spn.crossOk (w_BackEmf_2.flag Fld.SPN_STAT_DIR) 2 w_BackEmf_2.now = true ∧
      w_BackEmf_2.spn.valid = 5 ∧ w_BackEmf_2.flag Fld.SPN_CTL_RUN = true ∧ w_BackEmf_2.spnHold = false ∧ w_BackEmf_2.spn.pinStop = false
      := by decide +kernel

def w_BackEmf_3 : State := (spS spnSense true).setSpn { R0.spn with valid := 5, place := some 1 }
theorem wit_BackEmf_3 : w_BackEmf_3.spnState = spnSense ∧ 3 < 6 ∧ w_BackEmf_3.eff Fld.SPN_BEMF_REST_MAX < 500 ∧ w_BackEmf_3.flag
      Fld.SPN_STAT_BEMFOK = false ∧ w_BackEmf_3.spn.crossOk (w_BackEmf_3.flag Fld.SPN_STAT_DIR) 3 w_BackEmf_3.now = false ∧
      w_BackEmf_3.flag Fld.SPN_CTL_RUN = true ∧ w_BackEmf_3.spnHold = false ∧ w_BackEmf_3.spn.pinStop = false := by decide +kernel

def w_BackEmf_4 : State := (spS spnL2 true).putb Fld.SPN_STAT_BEMFOK true
theorem wit_BackEmf_4 : w_BackEmf_4.spnState = spnL2 ∧ 0 < 6 ∧ w_BackEmf_4.eff Fld.SPN_BEMF_REST_MAX < 50 ∧ 50 < 10 * w_BackEmf_4.eff
      Fld.SPN_BEMF_BEMF_MIN ∧ w_BackEmf_4.flag Fld.SPN_STAT_BEMFOK = true := by decide +kernel

def w_BackEmf_5 : State := R0.putb Fld.SPN_STAT_BEMFOK true
theorem wit_BackEmf_5 : w_BackEmf_5.flag Fld.SPN_STAT_BEMFOK = true := by decide +kernel

def w_BackEmf_6 : State := ((spS spnL1 true).putb Fld.SPN_STAT_BEMFOK true).put Fld.ANG_STAT_SRC 1
theorem wit_BackEmf_6 : w_BackEmf_6.flag Fld.SPN_STAT_BEMFOK = true ∧ w_BackEmf_6.spnState = spnL1 ∧ w_BackEmf_6.get Fld.ANG_STAT_SRC = 1
      ∧ w_BackEmf_6.flag Fld.SPN_CTL_RUN = true ∧ w_BackEmf_6.spnHold = false ∧ w_BackEmf_6.spn.pinStop = false := by decide +kernel

def w_BackEmf_7 : State := ((spS spnL2 true).putb Fld.SPN_STAT_BEMFOK true).put Fld.ANG_STAT_SRC 0
theorem wit_BackEmf_7 : w_BackEmf_7.flag Fld.SPN_STAT_BEMFOK = true ∧ w_BackEmf_7.spnState = spnL2 ∧ w_BackEmf_7.get Fld.ANG_STAT_SRC = 0
      ∧ w_BackEmf_7.flag Fld.SPN_CTL_RUN = true ∧ w_BackEmf_7.spnHold = false ∧ w_BackEmf_7.spn.pinStop = false := by decide +kernel

def w_BackEmf_8 : State := { (spS spnCoast true).setSpn { R0.spn with lostAt := some 0 } with now := 800000000 }
theorem wit_BackEmf_8 : w_BackEmf_8.spnState = spnCoast ∧ w_BackEmf_8.spn.lostAt = some 0 ∧ 0 + 800000000 ≤ w_BackEmf_8.now ∧
      w_BackEmf_8.flag Fld.SPN_STAT_BEMFOK = false := by decide +kernel

def w_BackEmf_9 : State := { spS spnSense true with now := 80000000 }
theorem wit_BackEmf_9 : w_BackEmf_9.spnState = spnSense ∧ w_BackEmf_9.spn.senseAt + w_BackEmf_9.eff Fld.SPN_START_SENSE_T * 800000 ≤
      w_BackEmf_9.now ∧ w_BackEmf_9.flag Fld.SPN_CTL_RUN = true ∧ w_BackEmf_9.spnHold = false ∧ w_BackEmf_9.spn.pinStop = false ∧
      w_BackEmf_9.spn.valid < 3 ∧ 0 ≤ w_BackEmf_9.eff Fld.SPN_BEMF_REST_MAX := by decide +kernel

def w_BackEmf_10 : State := { spS spnSense true with now := 80000000 }
theorem wit_BackEmf_10 : w_BackEmf_10.spnState = spnSense ∧ w_BackEmf_10.spn.senseAt + w_BackEmf_10.eff Fld.SPN_START_SENSE_T * 800000 ≤
      w_BackEmf_10.now ∧ w_BackEmf_10.flag Fld.SPN_CTL_RUN = true ∧ w_BackEmf_10.spnHold = false ∧ w_BackEmf_10.spn.pinStop = false ∧
      w_BackEmf_10.spn.valid < 3 ∧ w_BackEmf_10.eff Fld.SPN_BEMF_REST_MAX < 5000 := by decide +kernel

/-! ### SpindleStart -/

def w_SpindleStart_1 : State := spS spnStopped true
theorem wit_SpindleStart_1 : w_SpindleStart_1.flag Fld.SPN_CTL_RUN = true ∧ w_SpindleStart_1.flag Fld.SPN_STAT_KEBAD = false ∧
      w_SpindleStart_1.spnHold = false ∧ w_SpindleStart_1.spn.pinStop = false := by decide +kernel

def w_SpindleStart_2 : State := R0
theorem wit_SpindleStart_2 : w_SpindleStart_2.flag Fld.SPN_CTL_RUN = false := by decide +kernel

def w_SpindleStart_3 : State := spS spnProbe true
theorem wit_SpindleStart_3 : w_SpindleStart_3.spnState = spnProbe ∧ probeAmbiguous ([1, 2, 3, 4, 5, 6, 7, 200, 5, 4, 3, 2]) = false ∧
      w_SpindleStart_3.flag Fld.SPN_CTL_RUN = true ∧ w_SpindleStart_3.spnHold = false ∧ w_SpindleStart_3.spn.pinStop = false := by
      decide +kernel

def w_SpindleStart_4 : State := spS spnProbe true
theorem wit_SpindleStart_4 : w_SpindleStart_4.spnState = spnProbe ∧ probeAmbiguous ([1, 1, 1, 1, 1, 1, 1, 1, 1, 1, 1, 1]) = true ∧
      w_SpindleStart_4.spn.probed = false := by decide +kernel

def w_SpindleStart_5 : State := (spS spnProbe true).setSpn { R0.spn with probed := true }
theorem wit_SpindleStart_5 : w_SpindleStart_5.spnState = spnProbe ∧ probeAmbiguous ([1, 1, 1, 1, 1, 1, 1, 1, 1, 1, 1, 1]) = true ∧
      w_SpindleStart_5.spn.probed = true := by decide +kernel

def w_SpindleStart_6 : State := { (spS spnL1 true).setSpn { R0.spn with handoffAt := some 0 } with now := 1600000000 }
theorem wit_SpindleStart_6 : w_SpindleStart_6.spn.handoffAt = some 0 ∧ 0 + 1600000000 ≤ w_SpindleStart_6.now ∧ w_SpindleStart_6.flag
      Fld.SPN_STAT_BEMFOK = false ∧ w_SpindleStart_6.spnState = spnL1 := by decide +kernel

def w_SpindleStart_7 : State := spS spnL2 true
theorem wit_SpindleStart_7 : w_SpindleStart_7.spnState = spnL2 ∧ w_SpindleStart_7.spn.ke = 0 ∧ w_SpindleStart_7.flag Fld.SPN_STAT_INREG =
      false ∧ w_SpindleStart_7.spn.keStart = false ∧ 4 * w_SpindleStart_7.spn.target ≤ 2 * w_SpindleStart_7.speed4 := by decide +kernel

def w_SpindleStart_8 : State := ((spS spnL2 true).putb Fld.SPN_CTL_KEREQ true).setSpn { R0.spn with keStart := true }
theorem wit_SpindleStart_8 : w_SpindleStart_8.spnState = spnL2 ∧ w_SpindleStart_8.spn.ke = 0 ∧ w_SpindleStart_8.anyGate = false ∧
      w_SpindleStart_8.spn.keStart = true ∧ w_SpindleStart_8.flag Fld.SPN_CTL_KEREQ = true := by decide +kernel

def w_SpindleStart_9 : State := (R0.put Fld.SPN_KENOM_NOM 1000).setSpn { R0.spn with ke := 2 }
theorem wit_SpindleStart_9 : w_SpindleStart_9.spn.ke ≠ 0 ∧ keBeyond 1120 (w_SpindleStart_9.get Fld.SPN_KENOM_NOM) 12 = false := by
      decide +kernel

def w_SpindleStart_10 : State := (R0.put Fld.SPN_KENOM_NOM 1000).setSpn { R0.spn with ke := 2 }
theorem wit_SpindleStart_10 : w_SpindleStart_10.spn.ke = 2 ∧ keBeyond 1201 (w_SpindleStart_10.get Fld.SPN_KENOM_NOM) 20 = true := by
      decide +kernel

def w_SpindleStart_11 : State := (R0.put Fld.SPN_KENOM_NOM 1000).setSpn { R0.spn with ke := 1 }
theorem wit_SpindleStart_11 : w_SpindleStart_11.spn.ke = 1 ∧ keBeyond 1201 (w_SpindleStart_11.get Fld.SPN_KENOM_NOM) 20 = true := by
      decide +kernel

def w_SpindleStart_14 : State := R0.putb Fld.VALE_CFG_TOKREQ false
theorem wit_SpindleStart_14 : w_SpindleStart_14.flag Fld.SPN_CTL_RUN = false ∧ w_SpindleStart_14.flag Fld.SPN_STAT_KEBAD = false ∧
      w_SpindleStart_14.spnHold = false ∧ w_SpindleStart_14.spn.pinStop = false ∧ w_SpindleStart_14.flag Fld.VALE_CFG_TOKREQ = false := by
      decide +kernel

def w_SpindleStart_15 : State := R0.putb Fld.SPN_STAT_KEBAD true
theorem wit_SpindleStart_15 : w_SpindleStart_15.flag Fld.SPN_CTL_RUN = true ∨ w_SpindleStart_15.flag Fld.SPN_STAT_KEBAD = true ∨
      w_SpindleStart_15.spnHold = true := by decide +kernel

/-! ### SpindleStop -/

def w_SpindleStop_1 : State := spS spnStopped true
theorem wit_SpindleStop_1 : w_SpindleStop_1.flag Fld.SPN_CTL_RUN = true := by decide +kernel

def w_SpindleStop_2 : State := (((spS spnL2 true).putb Fld.SPN_STAT_BEMFOK true).putb Fld.ANG_STAT_VALID false).put Fld.SPN_SPEED_RPM4
      28800
theorem wit_SpindleStop_2 : w_SpindleStop_2.flag Fld.SPN_CTL_RUN = true ∧ w_SpindleStop_2.loaded .a = false ∧ w_SpindleStop_2.loaded .b =
      false ∧ w_SpindleStop_2.spnState = spnL2 ∧ 4 * w_SpindleStop_2.eff Fld.SPN_BRAKE_SB_RPM ≤ w_SpindleStop_2.speed4 ∧
      w_SpindleStop_2.flag Fld.SPN_STAT_BEMFOK = true := by decide +kernel

def w_SpindleStop_3 : State := spS spnShort false
theorem wit_SpindleStop_3 : w_SpindleStop_3.spnState = spnShort ∧ w_SpindleStop_3.spn.ov2 = false ∧ w_SpindleStop_3.eff
      Fld.SPN_BEMF_REST_MAX < 5000 := by decide +kernel

def w_SpindleStop_4 : State := spS spnShort false
theorem wit_SpindleStop_4 : w_SpindleStop_4.spnState = spnShort ∧ w_SpindleStop_4.spn.ov2 = false ∧ 0 ≤ w_SpindleStop_4.eff
      Fld.SPN_BEMF_REST_MAX ∧ w_SpindleStop_4.spn.quietAt = none := by decide +kernel

def w_SpindleStop_5 : State := { (spS spnShort false).setSpn { R0.spn with quietAt := some 0 } with now := 160000000 }
theorem wit_SpindleStop_5 : w_SpindleStop_5.spnState = spnShort ∧ w_SpindleStop_5.spn.ov2 = false ∧ 0 ≤ w_SpindleStop_5.eff
      Fld.SPN_BEMF_REST_MAX ∧ w_SpindleStop_5.spn.quietAt = some 0 ∧ 0 + 160000000 ≤ w_SpindleStop_5.now ∧ w_SpindleStop_5.spn.toProbe =
      false := by decide +kernel

def w_SpindleStop_6 : State := { (spS spnShort true).setSpn { R0.spn with quietAt := some 0, toProbe := true } with now := 160000000 }
theorem wit_SpindleStop_6 : w_SpindleStop_6.spnState = spnShort ∧ w_SpindleStop_6.spn.ov2 = false ∧ 0 ≤ w_SpindleStop_6.eff
      Fld.SPN_BEMF_REST_MAX ∧ w_SpindleStop_6.spn.quietAt = some 0 ∧ 0 + 160000000 ≤ w_SpindleStop_6.now ∧ w_SpindleStop_6.spn.toProbe =
      true ∧ w_SpindleStop_6.flag Fld.SPN_CTL_RUN = true ∧ w_SpindleStop_6.spnHold = false ∧ w_SpindleStop_6.spn.pinStop = false := by
      decide +kernel

def w_SpindleStop_7 : State := { (R0.putb Fld.SPN_STAT_REST false).setSpn { R0.spn with stopAt := some 0 } with now := 48000000000 }
theorem wit_SpindleStop_7 : w_SpindleStop_7.spn.stopAt = some 0 ∧ 0 + w_SpindleStop_7.eff Fld.SPN_BRAKE_STOP_TMO * 800000000 ≤
      w_SpindleStop_7.now ∧ w_SpindleStop_7.flag Fld.SPN_STAT_REST = false := by decide +kernel

def w_SpindleStop_8 : State := R0.putb Fld.SPN_STAT_DRIVING true
theorem wit_SpindleStop_8 : w_SpindleStop_8.flag Fld.SPN_STAT_DRIVING = true ∧ w_SpindleStop_8.spn.ocAt = none := by decide +kernel

def w_SpindleStop_9 : State := ((spS spnL2 true).putb Fld.SPN_STAT_DRIVING true).setSpn { R0.spn with ocAt := some 0 }
theorem wit_SpindleStop_9 : w_SpindleStop_9.flag Fld.SPN_STAT_DRIVING = true ∧ w_SpindleStop_9.spn.ocAt = some 0 ∧ w_SpindleStop_9.now < 0
      + 800000000 := by decide +kernel

def w_SpindleStop_10 : State := { (spS spnL2 true).setSpn { R0.spn with ocPause := true, ocAt := some 0 } with now := 8000 }
theorem wit_SpindleStop_10 : w_SpindleStop_10.spn.ocPause = true ∧ w_SpindleStop_10.spn.ocAt.getD 0 + 8000 ≤ w_SpindleStop_10.now ∧
      w_SpindleStop_10.flag Fld.SPN_CTL_RUN = true ∧ w_SpindleStop_10.flag Fld.SPN_STAT_KEBAD = false ∧ w_SpindleStop_10.spnHold = false ∧
      w_SpindleStop_10.spn.pinStop = false := by decide +kernel

def w_SpindleStop_11 : State := R0
theorem wit_SpindleStop_11 : w_SpindleStop_11.spn.ocPause = false := by decide +kernel

def w_SpindleStop_12 : State :=
      { ((spS spnShort true).putb Fld.SYS_D2DSTAT_SAFE false).setSpn { R0.spn with ov2 := true } with now := 800000 }
theorem wit_SpindleStop_12 : w_SpindleStop_12.spn.ov2 = true ∧ w_SpindleStop_12.spn.ov2End + 800000 ≤ w_SpindleStop_12.now ∧
      w_SpindleStop_12.flag Fld.PWR_STAT_OV2 = false ∧ w_SpindleStop_12.sys.retract = false ∧ w_SpindleStop_12.flag Fld.SYS_D2DSTAT_SAFE =
      false ∧ w_SpindleStop_12.flag Fld.SPN_CTL_RUN = true ∧ w_SpindleStop_12.flag Fld.SPN_STAT_KEBAD = false ∧ w_SpindleStop_12.spnHold =
      false ∧ w_SpindleStop_12.spn.pinStop = false := by decide +kernel

def w_SpindleStop_13 : State := R0.putb Fld.PWR_STAT_OV2 true
theorem wit_SpindleStop_13 : w_SpindleStop_13.flag Fld.PWR_STAT_OV2 = true := by decide +kernel

def w_SpindleStop_14 : State := R0.put Fld.SPN_CMDSRC_SRC 2
theorem wit_SpindleStop_14 : w_SpindleStop_14.get Fld.SPN_CMDSRC_SRC ≠ 0 := by decide +kernel

def w_SpindleStop_15 : State := R0.put Fld.SPN_CMDSRC_SRC 0
theorem wit_SpindleStop_15 : w_SpindleStop_15.get Fld.SPN_CMDSRC_SRC = 0 := by decide +kernel

/-! ### SupplyThresholds -/

def w_SupplyThresholds_1 : State := { lgW with pwr := { R0.pwr with vinSeen := true } }
theorem wit_SupplyThresholds_1 : mayBelow 0 (10 * w_SupplyThresholds_1.eff Fld.PWR_VINCFG_UVW) = true ∧ w_SupplyThresholds_1.pwr.vinSeen =
      true ∧ w_SupplyThresholds_1.retph = 0 ∧ w_SupplyThresholds_1.flag Fld.PWR_STAT_UVHOLD = false ∧ w_SupplyThresholds_1.actOk .a = true
      ∧ w_SupplyThresholds_1.actOk .b = true ∧ (notedFields w_SupplyThresholds_1 .a ++ notedFields w_SupplyThresholds_1 .b).all (fun f =>
      f.addr != Reg.PWR_CNT) = true := by decide +kernel

def w_SupplyThresholds_2 : State := { R0 with pwr := { R0.pwr with vinSeen := false } }
theorem wit_SupplyThresholds_2 : mayBelow 0 (10 * w_SupplyThresholds_2.eff Fld.PWR_VINCFG_UVW) = true ∧ w_SupplyThresholds_2.pwr.vinSeen =
      false := by decide +kernel

def w_SupplyThresholds_3 : State := R0.putb Fld.PWR_STAT_UVHOLD true
theorem wit_SupplyThresholds_3 : mayAbove 1200 (10 * w_SupplyThresholds_3.eff Fld.PWR_VINCFG_UVW + 20) = true ∧ w_SupplyThresholds_3.retph
      = 0 ∧ w_SupplyThresholds_3.flag Fld.PWR_STAT_UVHOLD = true := by decide +kernel

def w_SupplyThresholds_4 : State := R0
theorem wit_SupplyThresholds_4 : mayBelow 0 (10 * w_SupplyThresholds_4.eff Fld.PWR_LOWV_VLOW) = true ∧ w_SupplyThresholds_4.flag
      Fld.PWR_STAT_LOWV = false := by decide +kernel

def w_SupplyThresholds_5 : State := R0.putb Fld.PWR_STAT_LOWV true
theorem wit_SupplyThresholds_5 : mayAbove 1200 (10 * w_SupplyThresholds_5.eff Fld.PWR_LOWV_VLOW + 30) = true := by decide +kernel

def w_SupplyThresholds_6 : State := R0.put Fld.PWR_CHOP_RBRK 5
theorem wit_SupplyThresholds_6 : mayAbove 1900 1900 = true ∧ w_SupplyThresholds_6.flag Fld.PWR_STAT_OV1 = false ∧ w_SupplyThresholds_6.get
      Fld.PWR_CHOP_RBRK ≠ 0 ∧ w_SupplyThresholds_6.flag Fld.PWR_STAT_CHOPBLK = false := by decide +kernel

def w_SupplyThresholds_7 : State := R0.put Fld.PWR_CHOP_RBRK 0
theorem wit_SupplyThresholds_7 : mayAbove 1900 1900 = true ∧ w_SupplyThresholds_7.flag Fld.PWR_STAT_OV1 = false ∧ w_SupplyThresholds_7.get
      Fld.PWR_CHOP_RBRK = 0 := by decide +kernel

def w_SupplyThresholds_8 : State := R0
theorem wit_SupplyThresholds_8 : mayAbove 2050 2050 = true ∧ w_SupplyThresholds_8.flag Fld.PWR_STAT_OV2 = false := by decide +kernel

def w_SupplyThresholds_9 : State := R0
theorem wit_SupplyThresholds_9 : mayAbove 2250 2250 = true ∧ w_SupplyThresholds_9.flag Fld.PWR_STAT_OV3 = false := by decide +kernel

def w_SupplyThresholds_10 : State := { R0.putb Fld.PWR_STAT_OV1 true with now := 16000 }
theorem wit_SupplyThresholds_10 : mayBelow 1850 1850 = true ∧ w_SupplyThresholds_10.pwr.brkAt + 16000 ≤ w_SupplyThresholds_10.now := by
      decide +kernel

def w_SupplyThresholds_11 : State := (R0.putb Fld.PWR_STAT_OV1 true).putb Fld.PWR_STAT_BRK true
theorem wit_SupplyThresholds_11 : mayBelow 1850 1850 = true ∧ w_SupplyThresholds_11.now < w_SupplyThresholds_11.pwr.brkAt + 16000 ∧
      w_SupplyThresholds_11.flag Fld.PWR_STAT_BRK = true := by decide +kernel

def w_SupplyThresholds_12 : State := R0.putb Fld.PWR_STAT_OV2 true
theorem wit_SupplyThresholds_12 : mayBelow 2000 2000 = true ∧ w_SupplyThresholds_12.flag Fld.PWR_STAT_OV2 = true := by decide +kernel

def w_SupplyThresholds_13 : State := R0.putb Fld.PWR_STAT_OV3 true
theorem wit_SupplyThresholds_13 : mayBelow 2200 2200 = true ∧ w_SupplyThresholds_13.flag Fld.PWR_STAT_OV3 = true := by decide +kernel

def w_SupplyThresholds_14 : State := { (R0.put Fld.PWR_CHOP_RBRK 5).putb Fld.PWR_STAT_BRK true with now := 16000 }
theorem wit_SupplyThresholds_14 : w_SupplyThresholds_14.get Fld.PWR_CHOP_RBRK ≠ 0 ∧ w_SupplyThresholds_14.flag Fld.PWR_STAT_BRK = true ∧
      w_SupplyThresholds_14.pwr.brkAt + 16000 ≤ w_SupplyThresholds_14.now := by decide +kernel

def w_SupplyThresholds_15 : State := R0.put Fld.PWR_CHOP_RBRK 5
theorem wit_SupplyThresholds_15 : w_SupplyThresholds_15.get Fld.PWR_CHOP_RBRK ≠ 0 ∧ w_SupplyThresholds_15.flag Fld.PWR_STAT_BRK = false :=
      by decide +kernel

/-! ### RailsAndRetract -/

def w_RailsAndRetract_1 : State := (runL.putb Fld.PWR_CTL_PREEN true).put Fld.PWR_RAIL_OK 0x7F
theorem wit_RailsAndRetract_1 : w_RailsAndRetract_1.flag Fld.PWR_CTL_PREEN = true ∧ w_RailsAndRetract_1.actOk .a = true ∧ (notedFields
      w_RailsAndRetract_1 .a ++ notedFields w_RailsAndRetract_1 .b).all (fun f => f.addr != Reg.PWR_CTL) = true := by decide +kernel

def w_RailsAndRetract_3 : State := R0.put Fld.PWR_RAIL_PHASES 7
theorem wit_RailsAndRetract_3 : 2 < 3 ∧ w_RailsAndRetract_3.get Fld.PWR_RAIL_PHASES = 7 := by decide +kernel

def w_RailsAndRetract_4 : State := R0.put Fld.PWR_RAIL_PHASES 3
theorem wit_RailsAndRetract_4 : 1 < 2 ∧ w_RailsAndRetract_4.get Fld.PWR_RAIL_PHASES = 3 := by decide +kernel

def w_RailsAndRetract_5 : State := R0.put Fld.PWR_RAIL_PHASES 5
theorem wit_RailsAndRetract_5 : popcount 3 (w_RailsAndRetract_5.get Fld.PWR_RAIL_PHASES) = 2 := by decide +kernel

def w_RailsAndRetract_7 : State := R0
theorem wit_RailsAndRetract_7 : w_RailsAndRetract_7.pwr.dipAt = none := by decide +kernel

def w_RailsAndRetract_8 : State :=
      { (R0.putb Fld.ANG_STAT_VALID false).put Fld.SPN_SPEED_RPM4 28800 with pwr := { R0.pwr with dipAt := some 0 }, now := 1600000 }
theorem wit_RailsAndRetract_8 : w_RailsAndRetract_8.pwr.dipAt = some 0 ∧ 0 + w_RailsAndRetract_8.dipTicks ≤ w_RailsAndRetract_8.now ∧
      w_RailsAndRetract_8.retph = 0 ∧ w_RailsAndRetract_8.thm.shut = false ∧ w_RailsAndRetract_8.pwr.bor = false ∧
      w_RailsAndRetract_8.belowDstg = false ∧ (notedFields w_RailsAndRetract_8 .a ++ notedFields w_RailsAndRetract_8 .b).all (fun f =>
      f.addr != Reg.PWR_CNT) = true := by decide +kernel

def w_RailsAndRetract_9 : State := { R0 with pwr := { R0.pwr with vinSeen := true } }
theorem wit_RailsAndRetract_9 : mayBelow 0 w_RailsAndRetract_9.pldThr = true ∧ w_RailsAndRetract_9.pwr.vinSeen = true ∧
      w_RailsAndRetract_9.retph = 0 ∧ w_RailsAndRetract_9.thm.shut = false ∧ w_RailsAndRetract_9.pwr.bor = false ∧ (notedFields
      w_RailsAndRetract_9 .a ++ notedFields w_RailsAndRetract_9 .b).all (fun f => f.addr != Reg.PWR_CNT) = true := by decide +kernel

def w_RailsAndRetract_10 : State := R0
theorem wit_RailsAndRetract_10 : w_RailsAndRetract_10.retph = 0 ∧ w_RailsAndRetract_10.thm.shut = false ∧ w_RailsAndRetract_10.pwr.bor =
      false ∧ (notedFields w_RailsAndRetract_10 .a ++ notedFields w_RailsAndRetract_10 .b).all (fun f => f.addr != Reg.PWR_CNT) = true :=
      by decide +kernel

def w_RailsAndRetract_11 : State := R0.put Fld.PWR_STAT_RETPH 1
theorem wit_RailsAndRetract_11 : w_RailsAndRetract_11.retph ≠ 0 := by decide +kernel

def w_RailsAndRetract_12 : State := runL.put Fld.PWR_STAT_RETPH 1
theorem wit_RailsAndRetract_12 : w_RailsAndRetract_12.retph = 1 ∧ w_RailsAndRetract_12.actOk .a = true ∧ w_RailsAndRetract_12.actOk .b =
      true := by decide +kernel

def w_RailsAndRetract_13 : State := { runL.put Fld.PWR_STAT_RETPH 1 with now := 800000000 }
theorem wit_RailsAndRetract_13 : w_RailsAndRetract_13.retph = 1 ∧ w_RailsAndRetract_13.pwr.retAt + w_RailsAndRetract_13.tmax ≤
      w_RailsAndRetract_13.now ∧ w_RailsAndRetract_13.actOk .a = true ∧ w_RailsAndRetract_13.actOk .b = true := by decide +kernel

def w_RailsAndRetract_14 : State := R0.put Fld.PWR_STAT_RETPH 1
theorem wit_RailsAndRetract_14 : w_RailsAndRetract_14.retph = 1 := by decide +kernel

def w_RailsAndRetract_15 : State := R0.put Fld.PWR_STAT_RETPH 2
theorem wit_RailsAndRetract_15 : w_RailsAndRetract_15.retph = 2 ∧ w_RailsAndRetract_15.bothParked = true := by decide +kernel

def w_RailsAndRetract_16 : State := R0.put Fld.PWR_STAT_RETPH 2
theorem wit_RailsAndRetract_16 : w_RailsAndRetract_16.retph = 2 ∧ w_RailsAndRetract_16.bothParked = true := by decide +kernel

def w_RailsAndRetract_17 : State := R0
theorem wit_RailsAndRetract_17 : w_RailsAndRetract_17.retph ≠ 2 := by decide +kernel

def w_RailsAndRetract_18 : State := { R0 with pwr := { R0.pwr with bor := true, brakeBor := true } }
theorem wit_RailsAndRetract_18 : w_RailsAndRetract_18.pwr.bor = true ∧ w_RailsAndRetract_18.pwr.brakeBor = true ∧ mayAbove 1200
      (w_RailsAndRetract_18.uvwThr + 20) = true := by decide +kernel

/-! ### Thermal -/

def w_Thermal_1 : State := R0
theorem wit_Thermal_1 : thmValid (-40) 150 (([some 2401, some 400, some 400, some 400, some 400, some 400]).getD 0 none) = none ∧
      w_Thermal_1.thm.invalid.testBit 0 = false := by decide +kernel

def w_Thermal_2 : State := R0
theorem wit_Thermal_2 : thmValid (-40) 150 (([some 2401, some 400, some 400, some (-640), some 400, some 400]).getD 3 none) = some ((-640
      : Int)) := by decide +kernel

def w_Thermal_3 : State := R0
theorem wit_Thermal_3 : w_Thermal_3.flag Fld.THM_STAT_WARN = false := by decide +kernel

def w_Thermal_4 : State := R0.put Fld.THM_SHUT_COUNT 5
theorem wit_Thermal_4 : w_Thermal_4.thm.shut = false ∧ w_Thermal_4.pwr.bor = false ∧ 5 < 6 ∧ w_Thermal_4.shutAt ≤ ((2100 : Int)) := by
      decide +kernel

def w_Thermal_5 : State :=
      { R0 with sys := { R0.sys with cooldown := true }, thm := { R0.thm with shut := true, coolSince := some 0 }, now := 800000000 }
theorem wit_Thermal_5 : w_Thermal_5.sys.cooldown = true ∧ w_Thermal_5.thm.coolSince = some 0 ∧ 0 + 800000000 ≤ w_Thermal_5.now := by
      decide +kernel

def w_Thermal_6 : State := R0
theorem wit_Thermal_6 : w_Thermal_6.sys.cooldown = false := by decide +kernel

/-! ### Resets -/

def w_Resets_2 : State := R0.put Fld.PWR_CNT_UVW 7
theorem wit_Resets_2 : w_Resets_2.pwr.bor = false := by decide +kernel

def w_Resets_3 : State := { R0 with pwr := { R0.pwr with bor := true } }
theorem wit_Resets_3 : w_Resets_3.pwr.bor = true := by decide +kernel

def w_Resets_4 : State := R0.put Fld.PWR_STAT_RETPH 1
theorem wit_Resets_4 : w_Resets_4.retph ≠ 0 ∧ w_Resets_4.pwr.bor = false := by decide +kernel

def w_Resets_5 : State := R0.putb (drvOff .a) true
theorem wit_Resets_5 : w_Resets_5.retph = 0 ∧ w_Resets_5.pwr.bor = false := by decide +kernel

def w_Resets_6 : State := { R0 with pwr := { R0.pwr with bor := true } }
theorem wit_Resets_6 : w_Resets_6.pwr.bor = true := by decide +kernel

def w_Resets_7 : State := { R0 with pins := { R0.pins with resetL := true } }
theorem wit_Resets_7 : w_Resets_7.pins.resetL = true ∧ w_Resets_7.pwr.bor = false ∧ w_Resets_7.thm.shut = false ∧ w_Resets_7.spn.pinStop =
      false := by decide +kernel

def w_Resets_8 : State := { R0 with pins := { R0.pins with resetL := true } }
theorem wit_Resets_8 : w_Resets_8.pins.resetL = true ∧ w_Resets_8.pwr.bor = false ∧ w_Resets_8.thm.shut = false ∧
      (({ hifsel := true, spinup := false, gen7 := true, slotid := 3, canopy := false, flash := { found := true, octal := true, size := 2 }, pairs := 15 }
      : Straps)).spinup = false := by decide +kernel

def w_Resets_9 : State := R0
theorem wit_Resets_9 : w_Resets_9.pins.resetL = false := by decide +kernel

def w_Resets_10 : State := R0
theorem wit_Resets_10 : 1 < 16 := by decide +kernel

def w_Resets_11 : State := runL.setLoaded .b true
theorem wit_Resets_11 : w_Resets_11.actOk .b = true := by decide +kernel

def w_Resets_12 : State := { R0 with pins := { R0.pins with variant := 3 } }
theorem wit_Resets_12 : w_Resets_12.actOk .b = false := by decide +kernel

/-! ### QueueDrainsInOrder -/

def w_QueueDrainsInOrder_1 : State := R0
theorem wit_QueueDrainsInOrder_1 : step w_QueueDrainsInOrder_1 = .next R0.tick := by
  refine ?_ <;> first | decide +kernel | rfl

/-! ### MemoryStaysCanonical -/

def w_MemoryStaysCanonical_1 : State := R0
theorem wit_MemoryStaysCanonical_1 : Memory.wf w_MemoryStaysCanonical_1.mem = true ∧ step w_MemoryStaysCanonical_1 = .next R0.tick := by
  refine ⟨?_, ?_⟩ <;> first | decide +kernel | rfl

/-! ### RegistersStayCanonical -/

def w_RegistersStayCanonical_1 : State := R0
theorem wit_RegistersStayCanonical_1 : mwf regReset w_RegistersStayCanonical_1.regs = true ∧ step w_RegistersStayCanonical_1 = .next
      R0.tick := by
  refine ⟨?_, ?_⟩ <;> first | decide +kernel | rfl

/-! ### CommandsTakeNoTime -/

def w_CommandsTakeNoTime_1 : State := R0
theorem wit_CommandsTakeNoTime_1 : exec Instr.frameCrcError w_CommandsTakeNoTime_1 = .next ((nxt (exec Instr.frameCrcError R0))) := by
  refine ?_ <;> first | decide +kernel | rfl

/-! ### BootAndDram -/

def w_BootAndDram_1 : State := R0
theorem wit_BootAndDram_1 : w_BootAndDram_1.pwr.bor = false ∧ w_BootAndDram_1.pins.resetL = false ∧ w_BootAndDram_1.thm.shut = false ∧
      w_BootAndDram_1.apc.rel0 = false ∧ w_BootAndDram_1.apc.rel1 = false ∧ w_BootAndDram_1.imageOk
      (({ slotB := false, base := 0, sigs := false, patch := none } : BootTry)) = false ∧ w_BootAndDram_1.imageOk
      (({ slotB := true, base := 4096, sigs := false, patch := none } : BootTry)) = false := by decide +kernel

def w_BootAndDram_2 : State := flashS
theorem wit_BootAndDram_2 : w_BootAndDram_2.pwr.bor = false ∧ w_BootAndDram_2.pins.resetL = false ∧ w_BootAndDram_2.thm.shut = false ∧
      w_BootAndDram_2.apc.rel0 = false ∧ w_BootAndDram_2.apc.rel1 = false ∧ w_BootAndDram_2.imageOk
      (({ slotB := false, base := 0, sigs := true, patch := none } : BootTry)) = true ∧ (w_BootAndDram_2.imageSections
      (({ slotB := false, base := 0, sigs := true, patch := none } : BootTry)).base).any (fun e => e.1 == 2) = false := by decide +kernel

def w_BootAndDram_3 : State := { R0 with apc := { R0.apc with rel0 := true } }
theorem wit_BootAndDram_3 : w_BootAndDram_3.apc.rel0 = true := by decide +kernel

def w_BootAndDram_4 : State := ((R0.put Fld.MEM_CFG_WIDTH 1).put Fld.MEM_CFG_HALF 0).put Fld.MEM_CFG_RANKS 0
theorem wit_BootAndDram_4 : w_BootAndDram_4.flag Fld.MEM_STAT_TRAINED = false ∧ w_BootAndDram_4.flag Fld.MEM_STAT_DIS = false ∧
      w_BootAndDram_4.memCfgOk = true := by decide +kernel

def w_BootAndDram_5 : State := (R0.put Fld.MEM_CFG_WIDTH 0).put Fld.MEM_CFG_HALF 1
theorem wit_BootAndDram_5 : w_BootAndDram_5.flag Fld.MEM_STAT_TRAINED = false ∧ w_BootAndDram_5.flag Fld.MEM_STAT_DIS = false ∧
      w_BootAndDram_5.memCfgOk = false := by decide +kernel

def w_BootAndDram_6 : State := { R0 with now := 6400000 }
theorem wit_BootAndDram_6 : w_BootAndDram_6.flag Fld.MEM_STAT_TRAINED = false ∧ w_BootAndDram_6.flag Fld.MEM_STAT_DIS = false ∧ max
      w_BootAndDram_6.host.startAt w_BootAndDram_6.mem.trainAt + 6400000 ≤ w_BootAndDram_6.now ∧ w_BootAndDram_6.mem.retried = false := by
      decide +kernel

def w_BootAndDram_7 : State := { R0 with mem := { R0.mem with retried := true }, now := 6400000 }
theorem wit_BootAndDram_7 : w_BootAndDram_7.flag Fld.MEM_STAT_TRAINED = false ∧ w_BootAndDram_7.flag Fld.MEM_STAT_DIS = false ∧ max
      w_BootAndDram_7.host.startAt w_BootAndDram_7.mem.trainAt + 6400000 ≤ w_BootAndDram_7.now ∧ w_BootAndDram_7.mem.retried = true := by
      decide +kernel

def w_BootAndDram_8 : State := R0
theorem wit_BootAndDram_8 : 1 < 2 := by decide +kernel

def w_BootAndDram_9 : State := R0.put Fld.MEM_CTL_RETRAIN 3
theorem wit_BootAndDram_9 : 1 < 2 ∧ (w_BootAndDram_9.get Fld.MEM_CTL_RETRAIN).testBit 1 = true := by decide +kernel

def w_BootAndDram_10 : State := R0.putb Fld.MEM_STAT_TRAINED true
theorem wit_BootAndDram_10 : w_BootAndDram_10.flag Fld.MEM_STAT_TRAINED = true ∧ w_BootAndDram_10.flag Fld.MEM_STAT_REFX2 = false := by
      decide +kernel

def w_BootAndDram_11 : State := { (R0.putb Fld.MEM_STAT_TRAINED true).putb Fld.MEM_STAT_REFX2 true with mem := { R0.mem with cool := 1 } }
theorem wit_BootAndDram_11 : w_BootAndDram_11.flag Fld.MEM_STAT_TRAINED = true ∧ 1 ≤ w_BootAndDram_11.mem.cool := by decide +kernel

def w_BootAndDram_13 : State := R0
theorem wit_BootAndDram_13 : w_BootAndDram_13.flag Fld.MEM_CTL_ZFGO = false := by decide +kernel

def w_BootAndDram_14 : State := R0.putb Fld.MEM_CTL_ZFGO true
theorem wit_BootAndDram_14 : w_BootAndDram_14.flag Fld.MEM_CTL_ZFGO = true ∧ w_BootAndDram_14.apc.svc = none := by decide +kernel

def w_BootAndDram_15 : State := { R0 with mem := { R0.mem with queue := [(5, 3)] } }
theorem wit_BootAndDram_15 : w_BootAndDram_15.mem.queue = (5, 3) :: ([]) ∧ w_BootAndDram_15.mem.cet = [] ∧ 2 ≤ w_BootAndDram_15.eff
      Fld.MEM_CETCTL_THRESH := by decide +kernel

def w_BootAndDram_16 : State := { R0 with mem := { R0.mem with queue := [(5, 3)], cet := [(0, (5, (15, 2)))] } }
theorem wit_BootAndDram_16 : w_BootAndDram_16.mem.queue = (5, 3) :: ([]) ∧ mfind w_BootAndDram_16.mem.cet 0 = some (5, (15, 2)) ∧ 15 < 255
      := by decide +kernel

def w_BootAndDram_18 : State := R0.putb Fld.MEM_CTL_SCRUBEN false
theorem wit_BootAndDram_18 : w_BootAndDram_18.flag Fld.MEM_CTL_SCRUBEN = false ∨ w_BootAndDram_18.flag Fld.MEM_STAT_TRAINED = false ∨
      w_BootAndDram_18.get Fld.MEM_SCRRNG_LIM ≤ w_BootAndDram_18.get Fld.MEM_SCRRNG_BASE := by decide +kernel

def w_BootAndDram_19 : State := ((R0.putb Fld.MEM_CTL_SCRUBEN true).putb Fld.MEM_STAT_TRAINED true).put Fld.MEM_SCRRNG_BASE 0 |>.put
      Fld.MEM_SCRRNG_LIM 1
theorem wit_BootAndDram_19 : w_BootAndDram_19.flag Fld.MEM_CTL_SCRUBEN = true ∧ w_BootAndDram_19.flag Fld.MEM_STAT_TRAINED = true ∧
      w_BootAndDram_19.get Fld.MEM_SCRRNG_BASE * 2 ^ 13 ≤ 8191 ∧ 8191 + 1 = w_BootAndDram_19.get Fld.MEM_SCRRNG_LIM * 2 ^ 13 := by
      decide +kernel

def w_BootAndDram_20 : State := ((R0.putb Fld.MEM_CTL_SCRUBEN true).putb Fld.MEM_STAT_TRAINED true).put Fld.MEM_SCRRNG_BASE 0 |>.put
      Fld.MEM_SCRRNG_LIM 1
theorem wit_BootAndDram_20 : w_BootAndDram_20.flag Fld.MEM_CTL_SCRUBEN = true ∧ w_BootAndDram_20.flag Fld.MEM_STAT_TRAINED = true ∧
      w_BootAndDram_20.get Fld.MEM_SCRRNG_BASE * 2 ^ 13 ≤ 0 ∧ 0 + 1 < w_BootAndDram_20.get Fld.MEM_SCRRNG_LIM * 2 ^ 13 := by
      decide +kernel

def w_BootAndDram_21 : State := { R0.wr Reg.BUF_POOL 0x00050000#32 with buf := { R0.buf with wait := [4] } }
theorem wit_BootAndDram_21 : w_BootAndDram_21.buf.wait = 4 :: ([]) ∧ w_BootAndDram_21.freeSegs = 0 :: 1 :: ([2]) ∧ w_BootAndDram_21.ctx 4
      = none := by decide +kernel

def w_BootAndDram_22 : State := R0
theorem wit_BootAndDram_22 : w_BootAndDram_22.buf.wait = [] := by decide +kernel

def w_BootAndDram_23 : State := { R0 with buf := { R0.buf with resv := [mkResv 0 0 1 false] } }
theorem wit_BootAndDram_23 : w_BootAndDram_23.buf.resv ≠ [] := by decide +kernel

def w_BootAndDram_24 : State := (R0.putb Fld.MEM_STAT_TRAINED true).put Fld.MEM_STAT_SIZE 2
theorem wit_BootAndDram_24 : w_BootAndDram_24.buf.resv = [] ∧ 4 ≤ (0x00040000#32).toNat / 2 ^ 16 ∧ (0x00040000#32).toNat / 2 ^ 16 ≤ 16383
      ∧ ((0x00040000#32).toNat % 2 ^ 16 + (0x00040000#32).toNat / 2 ^ 16) * 2 ^ 20 + (0x00040000#32).toNat / 2 ^ 16 * 2 ^ 12 ≤
      w_BootAndDram_24.dramBytes := by decide +kernel

def w_BootAndDram_25 : State := { R0 with buf := { R0.buf with failq := [(1, 7), (2, 8)] } }
theorem wit_BootAndDram_25 : 7 < 2 ^ 14 ∧ w_BootAndDram_25.buf.failq.any (fun q => q.2 == 7) = true := by decide +kernel

def w_BootAndDram_26 : State := R0
theorem wit_BootAndDram_26 : 16383 < 2 ^ 14 ∧ w_BootAndDram_26.buf.failq.any (fun q => q.2 == 16383) = false := by decide +kernel

/-! ### HeartwoodKeys -/

def w_HeartwoodKeys_1 : State := askS 1 5
theorem wit_HeartwoodKeys_1 : w_HeartwoodKeys_1.flag Fld.HWD_MBCTL_GO = true ∧ w_HeartwoodKeys_1.flag Fld.HWD_STAT_READY = true ∧
      w_HeartwoodKeys_1.get Fld.HWD_MBCMD_CODE = 1 ∧ w_HeartwoodKeys_1.hwd.erase = none ∧ w_HeartwoodKeys_1.get Fld.HWD_MBCMD_LEN ≠ 0 :=
      by decide +kernel

def w_HeartwoodKeys_2 : State := (askS 2 11).wr (Reg.HWD_MBREQ 0) 0x103F#32
theorem wit_HeartwoodKeys_2 : Asked w_HeartwoodKeys_2 2 ∧ w_HeartwoodKeys_2.reqSlot = some (true, 63) ∧ (w_HeartwoodKeys_2.ks (4096 +
      63)).st = 0 ∧ w_HeartwoodKeys_2.flag Fld.HWD_STAT_ROOTOK = true ∧ w_HeartwoodKeys_2.flag Fld.HWD_STAT_ENTOK = true := by
      decide +kernel

def w_HeartwoodKeys_3 : State := (askS 2 11).putb Fld.HWD_STAT_ROOTOK false
theorem wit_HeartwoodKeys_3 : Asked w_HeartwoodKeys_3 2 ∧ w_HeartwoodKeys_3.reqSlot = some (false, 0) ∧ (w_HeartwoodKeys_3.ks (slotIx
      false 0)).st ≠ 2 ∧ (w_HeartwoodKeys_3.ks (slotIx false 0)).st ≠ 3 ∧ w_HeartwoodKeys_3.flag Fld.HWD_STAT_ROOTOK = false := by
      decide +kernel

def w_HeartwoodKeys_4 : State := (askS 2 11).setKs 0 { KeySlot.empty with st := 2 }
theorem wit_HeartwoodKeys_4 : Asked w_HeartwoodKeys_4 2 ∧ w_HeartwoodKeys_4.reqSlot = some (false, 0) ∧ (w_HeartwoodKeys_4.ks (slotIx
      false 0)).st = 2 := by decide +kernel

def w_HeartwoodKeys_5 : State := (askS 2 11).putb Fld.HWD_STAT_ENTOK false
theorem wit_HeartwoodKeys_5 : Asked w_HeartwoodKeys_5 2 ∧ w_HeartwoodKeys_5.reqSlot = some (false, 0) ∧ (w_HeartwoodKeys_5.ks (slotIx
      false 0)).st = 0 ∧ w_HeartwoodKeys_5.flag Fld.HWD_STAT_ROOTOK = true ∧ w_HeartwoodKeys_5.flag Fld.HWD_STAT_ENTOK = false := by
      decide +kernel

def w_HeartwoodKeys_6 : State := (askS 3 33).wr (Reg.HWD_MBREQ 0) 0x1000#32
theorem wit_HeartwoodKeys_6 : Asked w_HeartwoodKeys_6 3 ∧ w_HeartwoodKeys_6.reqSlot = some (true, 0) ∧ (w_HeartwoodKeys_6.ks (4096 +
      0)).st = 0 ∧ w_HeartwoodKeys_6.flag Fld.HWD_STAT_ROOTOK = true ∧ w_HeartwoodKeys_6.flag Fld.HWD_STAT_ENTOK = true := by
      decide +kernel

def w_HeartwoodKeys_7 : State := ((askS 3 33).wr (Reg.HWD_MBREQ 0) 0x1000#32).putb Fld.HWD_STAT_ENTOK false
theorem wit_HeartwoodKeys_7 : Asked w_HeartwoodKeys_7 3 ∧ w_HeartwoodKeys_7.reqSlot = some (true, 0) ∧ (w_HeartwoodKeys_7.ks (4096 +
      0)).st = 0 ∧ w_HeartwoodKeys_7.flag Fld.HWD_STAT_ROOTOK = true ∧ w_HeartwoodKeys_7.flag Fld.HWD_STAT_ENTOK = false ∧
      w_HeartwoodKeys_7.hwd.records = [] := by decide +kernel

def w_HeartwoodKeys_8 : State := askS 0x20 0
theorem wit_HeartwoodKeys_8 : w_HeartwoodKeys_8.flag Fld.HWD_MBCTL_GO = true ∧ w_HeartwoodKeys_8.flag Fld.HWD_STAT_READY = true ∧ 15 ≤
      w_HeartwoodKeys_8.get Fld.HWD_MBCMD_CODE ∧ w_HeartwoodKeys_8.hwd.erase = none := by decide +kernel

def w_HeartwoodKeys_9 : State := askS 4 11
theorem wit_HeartwoodKeys_9 : Asked w_HeartwoodKeys_9 4 ∧ w_HeartwoodKeys_9.reqSlot = some (false, 0) ∧ (w_HeartwoodKeys_9.ks (slotIx
      false 0)).st = 0 := by decide +kernel

def w_HeartwoodKeys_10 : State := (askS 4 11).setKs 0 { KeySlot.empty with st := 1 }
theorem wit_HeartwoodKeys_10 : Asked w_HeartwoodKeys_10 4 ∧ w_HeartwoodKeys_10.reqSlot = some (false, 0) ∧ (w_HeartwoodKeys_10.ks (slotIx
      false 0)).st = 1 ∧ (w_HeartwoodKeys_10.ks (slotIx false 0)).sess = false ∧ w_HeartwoodKeys_10.flag Fld.HWD_STAT_ROOTOK = true := by
      decide +kernel

def w_HeartwoodKeys_11 : State := (askS 5 2).wr (Reg.HWD_MBREQ 1) 1#32
theorem wit_HeartwoodKeys_11 : Asked w_HeartwoodKeys_11 5 ∧ w_HeartwoodKeys_11.reqSlot = some (false, 0) ∧ w_HeartwoodKeys_11.req 1 = 1#32
      ∧ (w_HeartwoodKeys_11.ks (slotIx false 0)).st = 0 := by decide +kernel

def w_HeartwoodKeys_12 : State := ((askS 5 2).wr (Reg.HWD_MBREQ 1) 1#32).setKs 0 { KeySlot.empty with st := 1 }
theorem wit_HeartwoodKeys_12 : Asked w_HeartwoodKeys_12 5 ∧ w_HeartwoodKeys_12.reqSlot = some (false, 0) ∧ w_HeartwoodKeys_12.req 1 = 1#32
      ∧ (w_HeartwoodKeys_12.ks (slotIx false 0)).st = 1 ∧ w_HeartwoodKeys_12.ccx.ctxs = [] ∧ w_HeartwoodKeys_12.ccx.kwait = [] := by
      decide +kernel

def w_HeartwoodKeys_13 : State := askS 5 2
theorem wit_HeartwoodKeys_13 : Asked w_HeartwoodKeys_13 5 ∧ w_HeartwoodKeys_13.reqSlot = some (false, 0) ∧ w_HeartwoodKeys_13.req 1 = 0#32
      := by decide +kernel

def w_HeartwoodKeys_14 : State := (askS 12 37).wr (Reg.HWD_MBREQ 0) 0x00010000#32
theorem wit_HeartwoodKeys_14 : Asked w_HeartwoodKeys_14 12 ∧ 0 = nbits (w_HeartwoodKeys_14.req 0).toNat 0 6 ∧ 1 = nbits
      (w_HeartwoodKeys_14.req 0).toNat 16 6 ∧ 0 ≠ 1 ∧ (w_HeartwoodKeys_14.ks (4096 + 0)).st = 0 ∧ (w_HeartwoodKeys_14.ks (4096 + 1)).st =
      0 ∧ w_HeartwoodKeys_14.sysUse 0 = 0 ∧ w_HeartwoodKeys_14.sysUse 1 = 0 ∧ w_HeartwoodKeys_14.flag Fld.HWD_STAT_ENTOK = true := by
  refine ⟨?_, ?_, ?_, ?_, ?_, ?_, ?_, ?_, ?_⟩ <;> first | decide +kernel | rfl

def w_HeartwoodKeys_15 : State := askS 12 37
theorem wit_HeartwoodKeys_15 : Asked w_HeartwoodKeys_15 12 ∧ nbits (w_HeartwoodKeys_15.req 0).toNat 0 6 = nbits (w_HeartwoodKeys_15.req
      0).toNat 16 6 := by decide +kernel

/-! ### HeartwoodServices -/

def w_HeartwoodServices_1 : State := askS 1 0
theorem wit_HeartwoodServices_1 : Asked w_HeartwoodServices_1 1 := by decide +kernel

def w_HeartwoodServices_2 : State := R0
theorem wit_HeartwoodServices_2 : w_HeartwoodServices_2.flag Fld.HWD_MBCTL_GO = false := by decide +kernel

def w_HeartwoodServices_3 : State := (askS 6 1).wr (Reg.HWD_MBREQ 0) 256#32
theorem wit_HeartwoodServices_3 : Asked w_HeartwoodServices_3 6 ∧ 1 ≤ (w_HeartwoodServices_3.req 0).toNat ∧ (w_HeartwoodServices_3.req
      0).toNat ≤ 256 ∧ w_HeartwoodServices_3.flag Fld.HWD_STAT_ENTOK = true := by decide +kernel

def w_HeartwoodServices_4 : State := (askS 6 1).wr (Reg.HWD_MBREQ 0) 257#32
theorem wit_HeartwoodServices_4 : Asked w_HeartwoodServices_4 6 ∧ 256 < (w_HeartwoodServices_4.req 0).toNat := by decide +kernel

def w_HeartwoodServices_5 : State :=
      { ((askS 7 3).wr (Reg.HWD_MBREQ 0) 0x20000000#32).wr (Reg.HWD_MBREQ 2) 256#32 with mem := { R0.mem with sram := [(0x8000000, some 0x4E4C5247#32), (0x8000001, some 0x10000#32), (0x8000002, some 4095#32), (0x8000003, some 0#32)] } }
theorem wit_HeartwoodServices_5 : Asked w_HeartwoodServices_5 7 ∧ 0x100 ≤ (w_HeartwoodServices_5.req 2).toNat ∧
      w_HeartwoodServices_5.inMem ((w_HeartwoodServices_5.req 0).toNat + (w_HeartwoodServices_5.req 1).toNat * 2 ^ 32)
      (w_HeartwoodServices_5.req 2).toNat = true ∧ State.bytesAt 7 16 ((w_HeartwoodServices_5.req 0).toNat + (w_HeartwoodServices_5.req
      1).toNat * 2 ^ 32) w_HeartwoodServices_5 = ((([0x47#8, 0x52#8, 0x4C#8, 0x4E#8, 0#8, 0#8, 1#8, 0#8, 0xFF#8, 0x0F#8, 0#8, 0#8, 0#8,
      0#8, 0#8, 0#8]), true),
      ({ ((askS 7 3).wr (Reg.HWD_MBREQ 0) 0x20000000#32).wr (Reg.HWD_MBREQ 2) 256#32 with mem := { R0.mem with sram := [(0x8000000, some 0x4E4C5247#32), (0x8000001, some 0x10000#32), (0x8000002, some 4095#32), (0x8000003, some 0#32)] } }))
      ∧ ([0x47#8, 0x52#8, 0x4C#8, 0x4E#8, 0#8, 0#8, 1#8, 0#8, 0xFF#8, 0x0F#8, 0#8, 0#8, 0#8, 0#8, 0#8, 0#8]).take 4 = [0x47#8, 0x52#8,
      0x4C#8, 0x4E#8] ∧ leNat ((([0x47#8, 0x52#8, 0x4C#8, 0x4E#8, 0#8, 0#8, 1#8, 0#8, 0xFF#8, 0x0F#8, 0#8, 0#8, 0#8, 0#8, 0#8, 0#8]).drop
      4).take 4) = 0x10000 ∧ leNat ((([0x47#8, 0x52#8, 0x4C#8, 0x4E#8, 0#8, 0#8, 1#8, 0#8, 0xFF#8, 0x0F#8, 0#8, 0#8, 0#8, 0#8, 0#8,
      0#8]).drop 8).take 4) ≤ 4095 ∧ w_HeartwoodServices_5.floor ≤ leNat ((([0x47#8, 0x52#8, 0x4C#8, 0x4E#8, 0#8, 0#8, 1#8, 0#8, 0xFF#8,
      0x0F#8, 0#8, 0#8, 0#8, 0#8, 0#8, 0#8]).drop 8).take 4) := by decide +kernel

def w_HeartwoodServices_6 : State := askS 7 3
theorem wit_HeartwoodServices_6 : Asked w_HeartwoodServices_6 7 ∧ (w_HeartwoodServices_6.req 2).toNat < 0x100 := by decide +kernel

def w_HeartwoodServices_7 : State := ((askS 7 3).wr (Reg.HWD_MBREQ 0) 0x20000000#32).wr (Reg.HWD_MBREQ 2) 256#32
theorem wit_HeartwoodServices_7 : Asked w_HeartwoodServices_7 7 ∧ 0x100 ≤ (w_HeartwoodServices_7.req 2).toNat ∧
      w_HeartwoodServices_7.inMem ((w_HeartwoodServices_7.req 0).toNat + (w_HeartwoodServices_7.req 1).toNat * 2 ^ 32)
      (w_HeartwoodServices_7.req 2).toNat = true := by decide +kernel

def w_HeartwoodServices_8 : State :=
      { (askS 8 1).putb (Fld.MSQ_CTL_HOLD .a) true with hwd := { R0.hwd with patch := some { release := 3, words := [(0x4000, 5#32)], comps := [], disp := [] } } }
theorem wit_HeartwoodServices_8 : Asked w_HeartwoodServices_8 8 ∧ .a = (if (w_HeartwoodServices_8.req 0).getLsbD 0 = true then Act.b else
      Act.a) ∧ w_HeartwoodServices_8.actOk .a = true ∧ w_HeartwoodServices_8.flag (Fld.MSQ_CTL_HOLD .a) = true ∧
      (w_HeartwoodServices_8.msq .a).running = none ∧ w_HeartwoodServices_8.hwd.patch = some
      (({ release := 3, words := [(0x4000, 5#32)], comps := [], disp := [] } : PatchImg)) := by
  refine ⟨?_, ?_, ?_, ?_, ?_, ?_⟩ <;> first | decide +kernel | rfl

def w_HeartwoodServices_9 : State := (askS 8 1).putb (Fld.MSQ_CTL_HOLD .a) false
theorem wit_HeartwoodServices_9 : Asked w_HeartwoodServices_9 8 ∧ (w_HeartwoodServices_9.req 0).getLsbD 0 = false ∧
      w_HeartwoodServices_9.flag (Fld.MSQ_CTL_HOLD .a) = false := by decide +kernel

def w_HeartwoodServices_10 : State := ((askS 9 1).put Fld.HWD_BOOT_SVN 4095).wr (Reg.HWD_MBREQ 0) 4095#32
theorem wit_HeartwoodServices_10 : Asked w_HeartwoodServices_10 9 ∧ w_HeartwoodServices_10.floor ≤ (w_HeartwoodServices_10.req 0).toNat ∧
      (w_HeartwoodServices_10.req 0).toNat ≤ w_HeartwoodServices_10.get Fld.HWD_BOOT_SVN ∧ w_HeartwoodServices_10.flag Fld.HWD_STAT_ROOTOK
      = true ∧ (w_HeartwoodServices_10.req 0).toNat ≤ 4095 ∧ w_HeartwoodServices_10.hwd.thermo ≤ 255 := by decide +kernel

def w_HeartwoodServices_11 : State := ((askS 9 1).put Fld.HWD_BOOT_SVN 3).wr (Reg.HWD_MBREQ 0) 4#32
theorem wit_HeartwoodServices_11 : Asked w_HeartwoodServices_11 9 ∧ w_HeartwoodServices_11.get Fld.HWD_BOOT_SVN <
      (w_HeartwoodServices_11.req 0).toNat := by decide +kernel

def w_HeartwoodServices_12 : State := (askS 10 1).wr (Reg.HWD_MBREQ 0) 6#32
theorem wit_HeartwoodServices_12 : Asked w_HeartwoodServices_12 10 ∧ 1 ≤ (w_HeartwoodServices_12.req 0).toNat ∧
      (w_HeartwoodServices_12.req 0).toNat ≤ 6 ∧ ((∀ l, mfind w_HeartwoodServices_12.hwd.meas (w_HeartwoodServices_12.req 0).toNat = some
      l → l.length = 12)) := by decide +kernel

def w_HeartwoodServices_13 : State := (askS 10 1).wr (Reg.HWD_MBREQ 0) 7#32
theorem wit_HeartwoodServices_13 : Asked w_HeartwoodServices_13 10 ∧ 6 < (w_HeartwoodServices_13.req 0).toNat := by decide +kernel

def w_HeartwoodServices_14 : State := askS 11 12
theorem wit_HeartwoodServices_14 : Asked w_HeartwoodServices_14 11 ∧ w_HeartwoodServices_14.flag Fld.HWD_STAT_ROOTOK = true ∧
      w_HeartwoodServices_14.flag Fld.HWD_STAT_ENTOK = true := by decide +kernel

def w_HeartwoodServices_15 : State := (askS 11 12).putb Fld.HWD_STAT_ROOTOK false
theorem wit_HeartwoodServices_15 : Asked w_HeartwoodServices_15 11 ∧ w_HeartwoodServices_15.flag Fld.HWD_STAT_ROOTOK = false := by
      decide +kernel

def w_HeartwoodServices_16 : State := (askS 13 1).wr (Reg.HWD_MBREQ 0) 2#32
theorem wit_HeartwoodServices_16 : Asked w_HeartwoodServices_16 13 ∧ ((w_HeartwoodServices_16.req 0).toNat = 1 ∨ Asked
      w_HeartwoodServices_16 13 ∧ (w_HeartwoodServices_16.req 0).toNat = 2) ∧ w_HeartwoodServices_16.flag Fld.HWD_STAT_ENTOK = true := by
      decide +kernel

def w_HeartwoodServices_17 : State := { (askS 14 3).wr (Reg.HWD_MBREQ 0) 0x20000000#32 with hwd := { R0.hwd with nonce := some (2, 0) } }
theorem wit_HeartwoodServices_17 : Asked w_HeartwoodServices_17 14 ∧ w_HeartwoodServices_17.hwd.nonce = some (2, 0) ∧ 2 ≤ 2 ∧
      w_HeartwoodServices_17.inMem ((w_HeartwoodServices_17.req 0).toNat + (w_HeartwoodServices_17.req 1).toNat * 2 ^ 32)
      (w_HeartwoodServices_17.req 2).toNat = true := by decide +kernel

def w_HeartwoodServices_18 : State := askS 14 3
theorem wit_HeartwoodServices_18 : Asked w_HeartwoodServices_18 14 ∧ w_HeartwoodServices_18.hwd.nonce = none := by decide +kernel

def w_HeartwoodServices_19 : State := { (askS 14 3).wr (Reg.HWD_MBREQ 0) 0x20000000#32 with hwd := { R0.hwd with nonce := some (2, 0) } }
theorem wit_HeartwoodServices_19 : Asked w_HeartwoodServices_19 14 ∧ w_HeartwoodServices_19.hwd.nonce = some (2, 0) ∧
      w_HeartwoodServices_19.inMem ((w_HeartwoodServices_19.req 0).toNat + (w_HeartwoodServices_19.req 1).toNat * 2 ^ 32)
      (w_HeartwoodServices_19.req 2).toNat = true := by decide +kernel

def w_HeartwoodServices_20 : State := { askS 6 1 with now := 1000000000000 }
theorem wit_HeartwoodServices_20 : w_HeartwoodServices_20.flag Fld.HWD_MBCTL_GO = true ∧ w_HeartwoodServices_20.hwd.goAt +
      w_HeartwoodServices_20.eff Fld.HWD_MBTMO_LIMIT * 800000 ≤ w_HeartwoodServices_20.now := by decide +kernel

def w_HeartwoodServices_21 : State := askS 6 1
theorem wit_HeartwoodServices_21 : w_HeartwoodServices_21.now < w_HeartwoodServices_21.hwd.goAt + w_HeartwoodServices_21.eff
      Fld.HWD_MBTMO_LIMIT * 800000 := by decide +kernel

def w_HeartwoodServices_24 : State := { R0 with hwd := { R0.hwd with nonce := some (1, 0) }, now := 48000000000 }
theorem wit_HeartwoodServices_24 : w_HeartwoodServices_24.hwd.nonce = some (1, 0) ∧ 0 + 60 * 800000000 ≤ w_HeartwoodServices_24.now := by
      decide +kernel

def w_HeartwoodServices_25 : State := R0
theorem wit_HeartwoodServices_25 : w_HeartwoodServices_25.hwd.nonce = none := by decide +kernel

/-! ### KeySlotsAndJobs -/

def w_KeySlotsAndJobs_1 : State := (R0.putb Fld.HWD_STAT_ENTOK true).putb Fld.CPH_STAT_MASKOK false
theorem wit_KeySlotsAndJobs_1 : w_KeySlotsAndJobs_1.flag Fld.HWD_STAT_ENTOK = true ∧ w_KeySlotsAndJobs_1.lanesOpen = false := by
      decide +kernel

def w_KeySlotsAndJobs_2 : State := R0.putb Fld.CPH_STAT_MASKOK true
theorem wit_KeySlotsAndJobs_2 : w_KeySlotsAndJobs_2.lanesOpen = true := by decide +kernel

def w_KeySlotsAndJobs_3 : State := (R0.putb Fld.HWD_STAT_ENTOK false).putb Fld.CPH_STAT_MASKOK false
theorem wit_KeySlotsAndJobs_3 : w_KeySlotsAndJobs_3.flag Fld.HWD_STAT_ENTOK = false ∧ w_KeySlotsAndJobs_3.lanesOpen = false := by
      decide +kernel

def w_KeySlotsAndJobs_4 : State := R0.setKs 4095 { KeySlot.empty with st := 2, staged := 7 }
theorem wit_KeySlotsAndJobs_4 : 4095 < 4096 ∧ (w_KeySlotsAndJobs_4.ks 4095).st = 2 ∧ (w_KeySlotsAndJobs_4.ks 4095).use = 0 ∧
      w_KeySlotsAndJobs_4.ccx.kwait = [] := by decide +kernel

def w_KeySlotsAndJobs_5 : State := R0.setKs 4159 { KeySlot.empty with st := 2, staged := 7 }
theorem wit_KeySlotsAndJobs_5 : 63 < 64 ∧ (w_KeySlotsAndJobs_5.ks (4096 + 63)).st = 2 ∧ (w_KeySlotsAndJobs_5.ks (4096 + 63)).use = 0 ∧
      w_KeySlotsAndJobs_5.sysUse 63 = 0 ∧ w_KeySlotsAndJobs_5.ccx.kwait = [] := by decide +kernel

def w_KeySlotsAndJobs_6 : State := R0
theorem wit_KeySlotsAndJobs_6 : (w_KeySlotsAndJobs_6.ks (slotIx true 63)).st ≠ 2 := by decide +kernel

def w_KeySlotsAndJobs_7 : State := { (askS 5 2).setKs 0 { KeySlot.empty with st := 3 } with hwd := { R0.hwd with erase := some (0, 1) } }
theorem wit_KeySlotsAndJobs_7 : (w_KeySlotsAndJobs_7.ks (slotIx false 0)).st = 3 ∧ w_KeySlotsAndJobs_7.boundTo (slotIx false 0) = false ∧
      w_KeySlotsAndJobs_7.hwd.erase = some (slotIx false 0, 1) ∧ w_KeySlotsAndJobs_7.flag Fld.HWD_MBCTL_GO = true ∧
      w_KeySlotsAndJobs_7.get Fld.HWD_MBCMD_CODE = 5 := by decide +kernel

def w_KeySlotsAndJobs_8 : State := R0
theorem wit_KeySlotsAndJobs_8 : (w_KeySlotsAndJobs_8.ks (slotIx false 0)).st ≠ 3 := by decide +kernel

def w_KeySlotsAndJobs_11 : State := (gcmD 0x01100000#32).setKs 4096 { KeySlot.empty with st := 1, sess := true }
theorem wit_KeySlotsAndJobs_11 : JobGood w_KeySlotsAndJobs_11 ([0x01100000, 0x20001000, 0x20002000, 0x20003000, 0, 4, 0, 0, 0, 0, 0])
      ((gcmD 0x01100000#32).setKs 4096 { KeySlot.empty with st := 1, sess := true }) 1 16 0 (({ KeySlot.empty with st := 1, sess := true }
      : KeySlot)) ∧ (({ KeySlot.empty with st := 1, sess := true } : KeySlot)).issue = .ok 0 ∧ State.bytesAt 4 (jobAad ([0x01100000,
      0x20001000, 0x20002000, 0x20003000, 0, 4, 0, 0, 0, 0, 0]) + jobLen ([0x01100000, 0x20001000, 0x20002000, 0x20003000, 0, 4, 0, 0, 0,
      0, 0])) (jobPtr ([0x01100000, 0x20001000, 0x20002000, 0x20003000, 0, 4, 0, 0, 0, 0, 0]) 1) (((gcmD 0x01100000#32).setKs 4096
      { KeySlot.empty with st := 1, sess := true }).gcmTake (4096 + 0) (({ KeySlot.empty with st := 1, sess := true } : KeySlot)) 0) =
      ((([1#8, 2#8, 3#8, 4#8]), true), (((gcmD 0x01100000#32).setKs 4096 { KeySlot.empty with st := 1, sess := true }).gcmTake 4096
      { KeySlot.empty with st := 1, sess := true } 0)) := by
  refine ⟨?_, ?_, ?_⟩ <;> first | decide +kernel | rfl

def w_KeySlotsAndJobs_12 : State := gcmS 0x01100000#32
theorem wit_KeySlotsAndJobs_12 : w_KeySlotsAndJobs_12.jobPending = true ∧ w_KeySlotsAndJobs_12.jobWords = (([0x01100000, 0x20001000,
      0x20002000, 0x20003000, 0, 0, 0, 0, 0, 0, 0]), (gcmS 0x01100000#32)) ∧ ([0x01100000, 0x20001000, 0x20002000, 0x20003000, 0, 0, 0, 0,
      0, 0, 0]).getD 0 0 = 0x01100000 ∧ w_KeySlotsAndJobs_12.inMem (([0x01100000, 0x20001000, 0x20002000, 0x20003000, 0, 0, 0, 0, 0, 0,
      0]).getD 1 0 + ([0x01100000, 0x20001000, 0x20002000, 0x20003000, 0, 0, 0, 0, 0, 0, 0]).getD 4 0 % 16 * 2 ^ 32) (([0x01100000,
      0x20001000, 0x20002000, 0x20003000, 0, 0, 0, 0, 0, 0, 0]).getD 6 0 % 2 ^ 16 + ([0x01100000, 0x20001000, 0x20002000, 0x20003000, 0,
      0, 0, 0, 0, 0, 0]).getD 5 0 % 2 ^ 24) = true ∧ w_KeySlotsAndJobs_12.inMem (([0x01100000, 0x20001000, 0x20002000, 0x20003000, 0, 0,
      0, 0, 0, 0, 0]).getD 2 0 + nbits (([0x01100000, 0x20001000, 0x20002000, 0x20003000, 0, 0, 0, 0, 0, 0, 0]).getD 4 0) 4 4 * 2 ^ 32)
      (([0x01100000, 0x20001000, 0x20002000, 0x20003000, 0, 0, 0, 0, 0, 0, 0]).getD 5 0 % 2 ^ 24) = true ∧ w_KeySlotsAndJobs_12.inMem
      (([0x01100000, 0x20001000, 0x20002000, 0x20003000, 0, 0, 0, 0, 0, 0, 0]).getD 3 0 + nbits (([0x01100000, 0x20001000, 0x20002000,
      0x20003000, 0, 0, 0, 0, 0, 0, 0]).getD 4 0) 8 4 * 2 ^ 32) 16 = true ∧ (w_KeySlotsAndJobs_12.ks 4096).st = 0 := by decide +kernel

def w_KeySlotsAndJobs_13 : State := gcmS 0x05000000#32
theorem wit_KeySlotsAndJobs_13 : w_KeySlotsAndJobs_13.jobPending = true ∧ w_KeySlotsAndJobs_13.jobWords = (([0x05000000, 0x20001000,
      0x20002000, 0x20003000, 0, 0, 0, 0, 0, 0, 0]), (gcmS 0x05000000#32)) ∧ 4 < ([0x05000000, 0x20001000, 0x20002000, 0x20003000, 0, 0,
      0, 0, 0, 0, 0]).getD 0 0 / 2 ^ 24 := by decide +kernel

def w_KeySlotsAndJobs_14 : State := R0
theorem wit_KeySlotsAndJobs_14 : w_KeySlotsAndJobs_14.jobPending = false := by decide +kernel

def w_KeySlotsAndJobs_15 : State := (gcmD 0x02100000#32).setKs 4096 { KeySlot.empty with st := 1, sess := true }
theorem wit_KeySlotsAndJobs_15 : JobGood w_KeySlotsAndJobs_15 ([0x02100000, 0x20001000, 0x20002000, 0x20003000, 0, 4, 0, 0, 0, 0, 0])
      ((gcmD 0x02100000#32).setKs 4096 { KeySlot.empty with st := 1, sess := true }) 2 16 0 (({ KeySlot.empty with st := 1, sess := true }
      : KeySlot)) ∧ State.bytesAt 4 (jobAad ([0x02100000, 0x20001000, 0x20002000, 0x20003000, 0, 4, 0, 0, 0, 0, 0]) + jobLen ([0x02100000,
      0x20001000, 0x20002000, 0x20003000, 0, 4, 0, 0, 0, 0, 0])) (jobPtr ([0x02100000, 0x20001000, 0x20002000, 0x20003000, 0, 4, 0, 0, 0,
      0, 0]) 1) ((gcmD 0x02100000#32).setKs 4096 { KeySlot.empty with st := 1, sess := true }) = ((([1#8, 2#8, 3#8, 4#8]), true), ((gcmD
      0x02100000#32).setKs 4096 { KeySlot.empty with st := 1, sess := true })) ∧ State.bytesAt 4 16 (jobPtr ([0x02100000, 0x20001000,
      0x20002000, 0x20003000, 0, 4, 0, 0, 0, 0, 0]) 3) (State.bytesPut 4 (gcmOut (({ KeySlot.empty with st := 1, sess := true } :
      KeySlot)).gcmKey ((({ KeySlot.empty with st := 1, sess := true } : KeySlot)).ivOf (jobCtr ([0x02100000, 0x20001000, 0x20002000,
      0x20003000, 0, 4, 0, 0, 0, 0, 0]))) (([1#8, 2#8, 3#8, 4#8]).drop (jobAad ([0x02100000, 0x20001000, 0x20002000, 0x20003000, 0, 4, 0,
      0, 0, 0, 0])))) (jobPtr ([0x02100000, 0x20001000, 0x20002000, 0x20003000, 0, 4, 0, 0, 0, 0, 0]) 2) ((gcmD 0x02100000#32).setKs 4096
      { KeySlot.empty with st := 1, sess := true })) = ((([1#8, 2#8, 3#8, 4#8, 5#8, 6#8, 7#8, 8#8, 9#8, 10#8, 11#8, 12#8, 13#8, 14#8,
      15#8, 16#8]), true), (State.bytesPut 4 (gcmOut (({ KeySlot.empty with st := 1, sess := true } : KeySlot).gcmKey)
      (({ KeySlot.empty with st := 1, sess := true } : KeySlot).ivOf 0) [1#8, 2#8, 3#8, 4#8]) 0x20002000 ((gcmD 0x02100000#32).setKs 4096
      { KeySlot.empty with st := 1, sess := true }))) := ⟨by decide +kernel, by decide +kernel, by rfl⟩

def w_KeySlotsAndJobs_16 : State := gcmS 0x02100000#32
theorem wit_KeySlotsAndJobs_16 : w_KeySlotsAndJobs_16.jobPending = true ∧ w_KeySlotsAndJobs_16.jobWords = (([0x02100000, 0x20001000,
      0x20002000, 0x20003000, 0, 0, 0, 0, 0, 0, 0]), (gcmS 0x02100000#32)) ∧ ([0x02100000, 0x20001000, 0x20002000, 0x20003000, 0, 0, 0, 0,
      0, 0, 0]).getD 0 0 / 2 ^ 24 = 2 ∧ (w_KeySlotsAndJobs_16.ks (4096 + ([0x02100000, 0x20001000, 0x20002000, 0x20003000, 0, 0, 0, 0, 0,
      0, 0]).getD 0 0 % 64)).st = 0 := by decide +kernel

def w_KeySlotsAndJobs_17 : State := gcmS 0x03100000#32
theorem wit_KeySlotsAndJobs_17 : w_KeySlotsAndJobs_17.jobPending = true ∧ w_KeySlotsAndJobs_17.jobWords = (([0x03100000, 0x20001000,
      0x20002000, 0x20003000, 0, 0, 0, 0, 0, 0, 0]), (gcmS 0x03100000#32)) ∧ ([0x03100000, 0x20001000, 0x20002000, 0x20003000, 0, 0, 0, 0,
      0, 0, 0]).getD 0 0 / 2 ^ 24 = 3 ∧ (w_KeySlotsAndJobs_17.ks (4096 + ([0x03100000, 0x20001000, 0x20002000, 0x20003000, 0, 0, 0, 0, 0,
      0, 0]).getD 0 0 % 64)).st = 0 := by decide +kernel

def w_KeySlotsAndJobs_18 : State := (gcmS 0x03100000#32).setKs 4096 { KeySlot.empty with st := 1, sess := true }
theorem wit_KeySlotsAndJobs_18 : w_KeySlotsAndJobs_18.jobPending = true ∧ w_KeySlotsAndJobs_18.jobWords = (([0x03100000, 0x20001000,
      0x20002000, 0x20003000, 0, 0, 0, 0, 0, 0, 0]), ((gcmS 0x03100000#32).setKs 4096 { KeySlot.empty with st := 1, sess := true })) ∧
      ([0x03100000, 0x20001000, 0x20002000, 0x20003000, 0, 0, 0, 0, 0, 0, 0]).getD 0 0 = 0x03100000 ∧
      (({ KeySlot.empty with st := 1, sess := true } : KeySlot)) = w_KeySlotsAndJobs_18.ks 4096 ∧
      (({ KeySlot.empty with st := 1, sess := true } : KeySlot)).st = 1 ∧ (({ KeySlot.empty with st := 1, sess := true } : KeySlot)).issue
      = .ok 0 ∧ w_KeySlotsAndJobs_18.inMem (([0x03100000, 0x20001000, 0x20002000, 0x20003000, 0, 0, 0, 0, 0, 0, 0]).getD 1 0 +
      ([0x03100000, 0x20001000, 0x20002000, 0x20003000, 0, 0, 0, 0, 0, 0, 0]).getD 4 0 % 16 * 2 ^ 32) (([0x03100000, 0x20001000,
      0x20002000, 0x20003000, 0, 0, 0, 0, 0, 0, 0]).getD 6 0 % 2 ^ 16) = true ∧ ([0x03100000, 0x20001000, 0x20002000, 0x20003000, 0, 0, 0,
      0, 0, 0, 0]).getD 5 0 % 2 ^ 24 = 0 ∧ w_KeySlotsAndJobs_18.inMem (([0x03100000, 0x20001000, 0x20002000, 0x20003000, 0, 0, 0, 0, 0, 0,
      0]).getD 3 0 + nbits (([0x03100000, 0x20001000, 0x20002000, 0x20003000, 0, 0, 0, 0, 0, 0, 0]).getD 4 0) 8 4 * 2 ^ 32) 16 = true :=
      by
  refine ⟨?_, ?_, ?_, ?_, ?_, ?_, ?_, ?_, ?_⟩ <;> first | decide +kernel | rfl

def w_KeySlotsAndJobs_19 : State := (gcmS 0x04100000#32).setKs 4096 { KeySlot.empty with st := 1, sess := true } |>.sramPut 0x20003000
      0x04030201#32 |>.sramPut 0x20003004 0x08070605#32 |>.sramPut 0x20003008 0x0C0B0A09#32 |>.sramPut 0x2000300C 0x100F0E0D#32
theorem wit_KeySlotsAndJobs_19 : JobGood w_KeySlotsAndJobs_19 ([0x04100000, 0x20001000, 0x20002000, 0x20003000, 0, 0, 0, 0, 0, 0, 0])
      w_KeySlotsAndJobs_19 4 16 0 (({ KeySlot.empty with st := 1, sess := true } : KeySlot)) ∧ State.bytesAt 4 (jobAad ([0x04100000,
      0x20001000, 0x20002000, 0x20003000, 0, 0, 0, 0, 0, 0, 0])) (jobPtr ([0x04100000, 0x20001000, 0x20002000, 0x20003000, 0, 0, 0, 0, 0,
      0, 0]) 1) w_KeySlotsAndJobs_19 = ((([]), true), w_KeySlotsAndJobs_19) ∧ State.bytesAt 4 16 (jobPtr ([0x04100000, 0x20001000,
      0x20002000, 0x20003000, 0, 0, 0, 0, 0, 0, 0]) 3) w_KeySlotsAndJobs_19 = ((([1#8, 2#8, 3#8, 4#8, 5#8, 6#8, 7#8, 8#8, 9#8, 10#8, 11#8,
      12#8, 13#8, 14#8, 15#8, 16#8]), true), w_KeySlotsAndJobs_19) := by decide +kernel

def w_KeySlotsAndJobs_20 : State := gcmS 0x04100000#32
theorem wit_KeySlotsAndJobs_20 : w_KeySlotsAndJobs_20.jobPending = true ∧ w_KeySlotsAndJobs_20.jobWords = (([0x04100000, 0x20001000,
      0x20002000, 0x20003000, 0, 0, 0, 0, 0, 0, 0]), (gcmS 0x04100000#32)) ∧ ([0x04100000, 0x20001000, 0x20002000, 0x20003000, 0, 0, 0, 0,
      0, 0, 0]).getD 0 0 / 2 ^ 24 = 4 ∧ (w_KeySlotsAndJobs_20.ks (4096 + ([0x04100000, 0x20001000, 0x20002000, 0x20003000, 0, 0, 0, 0, 0,
      0, 0]).getD 0 0 % 64)).st = 0 := by decide +kernel

def w_KeySlotsAndJobs_21 : State := R0.setKs 4096 { KeySlot.empty with st := 1 }
theorem wit_KeySlotsAndJobs_21 : ({ KeySlot.empty with st := 1 }) = w_KeySlotsAndJobs_21.ks (4096 + 0) ∧
      ({ KeySlot.empty with st := 1 }).sess = false ∧ ({ KeySlot.empty with st := 1 }).st = 1 ∧ ({ KeySlot.empty with st := 1 }).limit ≤
      ({ KeySlot.empty with st := 1 }).ctr + 2 ^ 18 ∧ ({ KeySlot.empty with st := 1 }).limit < 2 ^ 64 := by
  refine ⟨?_, ?_, ?_, ?_, ?_⟩ <;> first | decide +kernel | rfl

def w_KeySlotsAndJobs_22 : State := R0.setKs 4096 { KeySlot.empty with st := 1 }
theorem wit_KeySlotsAndJobs_22 : ({ KeySlot.empty with st := 1 }) = w_KeySlotsAndJobs_22.ks (4096 + 0) ∧
      ({ KeySlot.empty with st := 1 }).sess = false ∧ ({ KeySlot.empty with st := 1 }).st = 1 ∧ ({ KeySlot.empty with st := 1 }).limit ≤
      ({ KeySlot.empty with st := 1 }).ctr + 2 ^ 18 ∧ ({ KeySlot.empty with st := 1 }).limit < 2 ^ 64 := by
  refine ⟨?_, ?_, ?_, ?_, ?_⟩ <;> first | decide +kernel | rfl

/-! ### CommandAdmission -/

def w_CommandAdmission_1 : State := R0
theorem wit_CommandAdmission_1 : w_CommandAdmission_1.portOk
      (({ port := 2, fast := true, unit := 0, tag := 3, sq := 0, write := false, fua := false, lba := 0, len := 1, keytag := none, aca := false, hoq := false, ordered := false, raw := [], inUnit := true, served := false }
      : HostCmd)).port = false ∨ w_CommandAdmission_1.orderedHold
      (({ port := 2, fast := true, unit := 0, tag := 3, sq := 0, write := false, fua := false, lba := 0, len := 1, keytag := none, aca := false, hoq := false, ordered := false, raw := [], inUnit := true, served := false }
      : HostCmd)) = true := by decide +kernel

def w_CommandAdmission_2 : State := fullS
theorem wit_CommandAdmission_2 : w_CommandAdmission_2.portOk
      (({ port := 1, fast := true, unit := 0, tag := 3, sq := 0, write := false, fua := false, lba := 0, len := 1, keytag := none, aca := false, hoq := false, ordered := false, raw := [], inUnit := true, served := false }
      : HostCmd)).port = true ∧ w_CommandAdmission_2.orderedHold
      (({ port := 1, fast := true, unit := 0, tag := 3, sq := 0, write := false, fua := false, lba := 0, len := 1, keytag := none, aca := false, hoq := false, ordered := false, raw := [], inUnit := true, served := false }
      : HostCmd)) = false ∧ w_CommandAdmission_2.freeCtx = none ∧
      (({ port := 1, fast := true, unit := 0, tag := 3, sq := 0, write := false, fua := false, lba := 0, len := 1, keytag := none, aca := false, hoq := false, ordered := false, raw := [], inUnit := true, served := false }
      : HostCmd)).port < 2 := ⟨by decide +kernel, by decide +kernel, fullS_free, by decide⟩

def w_CommandAdmission_3 : State := { R0 with ccx := { R0.ccx with ctxs := [(0, ctx0)], qn := [(0, false)] } }
theorem wit_CommandAdmission_3 : w_CommandAdmission_3.portOk
      (({ port := 1, fast := false, unit := 0, tag := 3, sq := 0, write := false, fua := false, lba := 0, len := 1, keytag := none, aca := false, hoq := true, ordered := false, raw := [1#32], inUnit := true, served := false }
      : HostCmd)).port = true ∧ w_CommandAdmission_3.orderedHold
      (({ port := 1, fast := false, unit := 0, tag := 3, sq := 0, write := false, fua := false, lba := 0, len := 1, keytag := none, aca := false, hoq := true, ordered := false, raw := [1#32], inUnit := true, served := false }
      : HostCmd)) = false ∧ w_CommandAdmission_3.freeCtx = some 1 ∧ w_CommandAdmission_3.restricted = none ∧
      (({ port := 1, fast := false, unit := 0, tag := 3, sq := 0, write := false, fua := false, lba := 0, len := 1, keytag := none, aca := false, hoq := true, ordered := false, raw := [1#32], inUnit := true, served := false }
      : HostCmd)).aca = false ∧
      (({ port := 1, fast := false, unit := 0, tag := 3, sq := 0, write := false, fua := false, lba := 0, len := 1, keytag := none, aca := false, hoq := true, ordered := false, raw := [1#32], inUnit := true, served := false }
      : HostCmd)).fast = false := by decide +kernel

def w_CommandAdmission_4 : State := R0
theorem wit_CommandAdmission_4 : w_CommandAdmission_4.portOk
      (({ port := 1, fast := true, unit := 0, tag := 3, sq := 0, write := false, fua := false, lba := 0, len := 2049, keytag := none, aca := false, hoq := true, ordered := false, raw := [1#32], inUnit := true, served := false }
      : HostCmd)).port = true ∧ w_CommandAdmission_4.orderedHold
      (({ port := 1, fast := true, unit := 0, tag := 3, sq := 0, write := false, fua := false, lba := 0, len := 2049, keytag := none, aca := false, hoq := true, ordered := false, raw := [1#32], inUnit := true, served := false }
      : HostCmd)) = false ∧ w_CommandAdmission_4.freeCtx = some 0 ∧ w_CommandAdmission_4.restricted = none ∧
      (({ port := 1, fast := true, unit := 0, tag := 3, sq := 0, write := false, fua := false, lba := 0, len := 2049, keytag := none, aca := false, hoq := true, ordered := false, raw := [1#32], inUnit := true, served := false }
      : HostCmd)).aca = false ∧
      (({ port := 1, fast := true, unit := 0, tag := 3, sq := 0, write := false, fua := false, lba := 0, len := 2049, keytag := none, aca := false, hoq := true, ordered := false, raw := [1#32], inUnit := true, served := false }
      : HostCmd)).fast = true ∧
      ((({ port := 1, fast := true, unit := 0, tag := 3, sq := 0, write := false, fua := false, lba := 0, len := 2049, keytag := none, aca := false, hoq := true, ordered := false, raw := [1#32], inUnit := true, served := false }
      : HostCmd)).len = 0 ∨ 2048 <
      (({ port := 1, fast := true, unit := 0, tag := 3, sq := 0, write := false, fua := false, lba := 0, len := 2049, keytag := none, aca := false, hoq := true, ordered := false, raw := [1#32], inUnit := true, served := false }
      : HostCmd)).len ∨
      (({ port := 1, fast := true, unit := 0, tag := 3, sq := 0, write := false, fua := false, lba := 0, len := 2049, keytag := none, aca := false, hoq := true, ordered := false, raw := [1#32], inUnit := true, served := false }
      : HostCmd)).inUnit = false) := by decide +kernel

def w_CommandAdmission_5 : State := R0
theorem wit_CommandAdmission_5 : w_CommandAdmission_5.portOk
      (({ port := 1, fast := true, unit := 0, tag := 3, sq := 0, write := false, fua := false, lba := 0, len := 5, keytag := none, aca := true, hoq := true, ordered := false, raw := [1#32], inUnit := true, served := false }
      : HostCmd)).port = true ∧ w_CommandAdmission_5.orderedHold
      (({ port := 1, fast := true, unit := 0, tag := 3, sq := 0, write := false, fua := false, lba := 0, len := 5, keytag := none, aca := true, hoq := true, ordered := false, raw := [1#32], inUnit := true, served := false }
      : HostCmd)) = false ∧ w_CommandAdmission_5.freeCtx = some 0 ∧
      (({ port := 1, fast := true, unit := 0, tag := 3, sq := 0, write := false, fua := false, lba := 0, len := 5, keytag := none, aca := true, hoq := true, ordered := false, raw := [1#32], inUnit := true, served := false }
      : HostCmd)).port ≠ 2 ∧
      (({ port := 1, fast := true, unit := 0, tag := 3, sq := 0, write := false, fua := false, lba := 0, len := 5, keytag := none, aca := true, hoq := true, ordered := false, raw := [1#32], inUnit := true, served := false }
      : HostCmd)).aca = true := by decide +kernel

def w_CommandAdmission_6 : State := R0.putb Fld.MEM_STAT_DIS true
theorem wit_CommandAdmission_6 : w_CommandAdmission_6.portOk
      (({ port := 0, fast := false, unit := 0, tag := 3, sq := 0, write := false, fua := false, lba := 0, len := 5, keytag := none, aca := false, hoq := true, ordered := false, raw := [1#32], inUnit := true, served := false }
      : HostCmd)).port = true ∧ w_CommandAdmission_6.orderedHold
      (({ port := 0, fast := false, unit := 0, tag := 3, sq := 0, write := false, fua := false, lba := 0, len := 5, keytag := none, aca := false, hoq := true, ordered := false, raw := [1#32], inUnit := true, served := false }
      : HostCmd)) = false ∧ w_CommandAdmission_6.freeCtx = some 0 ∧
      (({ port := 0, fast := false, unit := 0, tag := 3, sq := 0, write := false, fua := false, lba := 0, len := 5, keytag := none, aca := false, hoq := true, ordered := false, raw := [1#32], inUnit := true, served := false }
      : HostCmd)).aca = false ∧ w_CommandAdmission_6.restricted = some 6 ∧
      (({ port := 0, fast := false, unit := 0, tag := 3, sq := 0, write := false, fua := false, lba := 0, len := 5, keytag := none, aca := false, hoq := true, ordered := false, raw := [1#32], inUnit := true, served := false }
      : HostCmd)).served = false := by decide +kernel

def w_CommandAdmission_7 : State := (R0.wr Reg.BUF_POOL 0x00050000#32).setKs 0 { KeySlot.empty with st := 1 }
theorem wit_CommandAdmission_7 : w_CommandAdmission_7.portOk
      (({ port := 0, fast := true, unit := 0, tag := 3, sq := 0, write := true, fua := false, lba := 0, len := 2048, keytag := none, aca := false, hoq := false, ordered := false, raw := [1#32], inUnit := true, served := false }
      : HostCmd)).port = true ∧ w_CommandAdmission_7.orderedHold
      (({ port := 0, fast := true, unit := 0, tag := 3, sq := 0, write := true, fua := false, lba := 0, len := 2048, keytag := none, aca := false, hoq := false, ordered := false, raw := [1#32], inUnit := true, served := false }
      : HostCmd)) = false ∧ w_CommandAdmission_7.freeCtx = some 0 ∧ w_CommandAdmission_7.restricted = none ∧
      (({ port := 0, fast := true, unit := 0, tag := 3, sq := 0, write := true, fua := false, lba := 0, len := 2048, keytag := none, aca := false, hoq := false, ordered := false, raw := [1#32], inUnit := true, served := false }
      : HostCmd)).aca = false ∧
      (({ port := 0, fast := true, unit := 0, tag := 3, sq := 0, write := true, fua := false, lba := 0, len := 2048, keytag := none, aca := false, hoq := false, ordered := false, raw := [1#32], inUnit := true, served := false }
      : HostCmd)).fast = true ∧ 1 ≤
      (({ port := 0, fast := true, unit := 0, tag := 3, sq := 0, write := true, fua := false, lba := 0, len := 2048, keytag := none, aca := false, hoq := false, ordered := false, raw := [1#32], inUnit := true, served := false }
      : HostCmd)).len ∧
      (({ port := 0, fast := true, unit := 0, tag := 3, sq := 0, write := true, fua := false, lba := 0, len := 2048, keytag := none, aca := false, hoq := false, ordered := false, raw := [1#32], inUnit := true, served := false }
      : HostCmd)).len ≤ 2048 ∧
      (({ port := 0, fast := true, unit := 0, tag := 3, sq := 0, write := true, fua := false, lba := 0, len := 2048, keytag := none, aca := false, hoq := false, ordered := false, raw := [1#32], inUnit := true, served := false }
      : HostCmd)).inUnit = true ∧ w_CommandAdmission_7.bindChoice (w_CommandAdmission_7.unitOf
      (({ port := 0, fast := true, unit := 0, tag := 3, sq := 0, write := true, fua := false, lba := 0, len := 2048, keytag := none, aca := false, hoq := false, ordered := false, raw := [1#32], inUnit := true, served := false }
      : HostCmd)).unit)
      (({ port := 0, fast := true, unit := 0, tag := 3, sq := 0, write := true, fua := false, lba := 0, len := 2048, keytag := none, aca := false, hoq := false, ordered := false, raw := [1#32], inUnit := true, served := false }
      : HostCmd)).write
      (({ port := 0, fast := true, unit := 0, tag := 3, sq := 0, write := true, fua := false, lba := 0, len := 2048, keytag := none, aca := false, hoq := false, ordered := false, raw := [1#32], inUnit := true, served := false }
      : HostCmd)).lba
      (({ port := 0, fast := true, unit := 0, tag := 3, sq := 0, write := true, fua := false, lba := 0, len := 2048, keytag := none, aca := false, hoq := false, ordered := false, raw := [1#32], inUnit := true, served := false }
      : HostCmd)).len
      (({ port := 0, fast := true, unit := 0, tag := 3, sq := 0, write := true, fua := false, lba := 0, len := 2048, keytag := none, aca := false, hoq := false, ordered := false, raw := [1#32], inUnit := true, served := false }
      : HostCmd)).keytag = .ok 0 ∧ (w_CommandAdmission_7.ks 0).st = 1 ∧ w_CommandAdmission_7.buf.wait = [] ∧ w_CommandAdmission_7.freeSegs
      = 0 :: 1 :: ([2]) ∧
      (({ port := 0, fast := true, unit := 0, tag := 3, sq := 0, write := true, fua := false, lba := 0, len := 2048, keytag := none, aca := false, hoq := false, ordered := false, raw := [1#32], inUnit := true, served := false }
      : HostCmd)).hoq = false ∧
      (({ port := 0, fast := true, unit := 0, tag := 3, sq := 0, write := true, fua := false, lba := 0, len := 2048, keytag := none, aca := false, hoq := false, ordered := false, raw := [1#32], inUnit := true, served := false }
      : HostCmd)).unit = 0 ∧ w_CommandAdmission_7.flag Fld.CCX_CFG_INTLV = false := by
  refine ⟨?_, ?_, ?_, ?_, ?_, ?_, ?_, ?_, ?_, ?_, ?_, ?_, ?_, ?_, ?_, ?_⟩ <;> first | decide +kernel | exact of_okIs (by decide +kernel)

def w_CommandAdmission_8 : State := R0
theorem wit_CommandAdmission_8 : w_CommandAdmission_8.portOk
      (({ port := 0, fast := true, unit := 0, tag := 3, sq := 0, write := true, fua := false, lba := 0, len := 2048, keytag := none, aca := false, hoq := false, ordered := false, raw := [1#32], inUnit := true, served := false }
      : HostCmd)).port = true ∧ w_CommandAdmission_8.orderedHold
      (({ port := 0, fast := true, unit := 0, tag := 3, sq := 0, write := true, fua := false, lba := 0, len := 2048, keytag := none, aca := false, hoq := false, ordered := false, raw := [1#32], inUnit := true, served := false }
      : HostCmd)) = false ∧ w_CommandAdmission_8.freeCtx = some 0 ∧ w_CommandAdmission_8.restricted = none ∧
      (({ port := 0, fast := true, unit := 0, tag := 3, sq := 0, write := true, fua := false, lba := 0, len := 2048, keytag := none, aca := false, hoq := false, ordered := false, raw := [1#32], inUnit := true, served := false }
      : HostCmd)).aca = false ∧
      (({ port := 0, fast := true, unit := 0, tag := 3, sq := 0, write := true, fua := false, lba := 0, len := 2048, keytag := none, aca := false, hoq := false, ordered := false, raw := [1#32], inUnit := true, served := false }
      : HostCmd)).fast = true ∧ 1 ≤
      (({ port := 0, fast := true, unit := 0, tag := 3, sq := 0, write := true, fua := false, lba := 0, len := 2048, keytag := none, aca := false, hoq := false, ordered := false, raw := [1#32], inUnit := true, served := false }
      : HostCmd)).len ∧
      (({ port := 0, fast := true, unit := 0, tag := 3, sq := 0, write := true, fua := false, lba := 0, len := 2048, keytag := none, aca := false, hoq := false, ordered := false, raw := [1#32], inUnit := true, served := false }
      : HostCmd)).len ≤ 2048 ∧
      (({ port := 0, fast := true, unit := 0, tag := 3, sq := 0, write := true, fua := false, lba := 0, len := 2048, keytag := none, aca := false, hoq := false, ordered := false, raw := [1#32], inUnit := true, served := false }
      : HostCmd)).inUnit = true ∧ w_CommandAdmission_8.bindChoice (w_CommandAdmission_8.unitOf
      (({ port := 0, fast := true, unit := 0, tag := 3, sq := 0, write := true, fua := false, lba := 0, len := 2048, keytag := none, aca := false, hoq := false, ordered := false, raw := [1#32], inUnit := true, served := false }
      : HostCmd)).unit)
      (({ port := 0, fast := true, unit := 0, tag := 3, sq := 0, write := true, fua := false, lba := 0, len := 2048, keytag := none, aca := false, hoq := false, ordered := false, raw := [1#32], inUnit := true, served := false }
      : HostCmd)).write
      (({ port := 0, fast := true, unit := 0, tag := 3, sq := 0, write := true, fua := false, lba := 0, len := 2048, keytag := none, aca := false, hoq := false, ordered := false, raw := [1#32], inUnit := true, served := false }
      : HostCmd)).lba
      (({ port := 0, fast := true, unit := 0, tag := 3, sq := 0, write := true, fua := false, lba := 0, len := 2048, keytag := none, aca := false, hoq := false, ordered := false, raw := [1#32], inUnit := true, served := false }
      : HostCmd)).len
      (({ port := 0, fast := true, unit := 0, tag := 3, sq := 0, write := true, fua := false, lba := 0, len := 2048, keytag := none, aca := false, hoq := false, ordered := false, raw := [1#32], inUnit := true, served := false }
      : HostCmd)).keytag = .ok 0 ∧ (w_CommandAdmission_8.ks 0).st = 0 := by
  refine ⟨?_, ?_, ?_, ?_, ?_, ?_, ?_, ?_, ?_, ?_, ?_⟩ <;> first | decide +kernel | exact of_okIs (by decide +kernel)

/-! ### ContextCommands -/

def w_ContextCommands_1 : State := { R0 with ccx := { R0.ccx with ctxs := [(0, ctx0)] } }
theorem wit_ContextCommands_1 : w_ContextCommands_1.freeCtx = some 1 := by decide +kernel

def w_ContextCommands_2 : State := fullS
theorem wit_ContextCommands_2 : w_ContextCommands_2.freeCtx = none := fullS_free

def w_ContextCommands_3 : State := { R0 with ccx := { R0.ccx with ctxs := [(1023, ctx0)] } }
theorem wit_ContextCommands_3 : 1023 < 1024 ∧ w_ContextCommands_3.ctx 1023 = some ctx0 ∧ ctx0.st ≠ 4 ∧ (ctx0.st ≠ 2 ∨ ctx0.kind ≠ 1) := by
      decide +kernel

def w_ContextCommands_4 : State :=
      { ((R0.wr Reg.BUF_POOL 0x00050000#32).wr Reg.CCX_CTXBASE 0x20000000#32).setKs 7 { KeySlot.empty with st := 1 } with mem := { R0.mem with sram := [(0x8000010, some 0x10000#32), (0x8000011, some 1#32), (0x8000012, some 5#32), (0x8000013, some 0#32), (0x8000014, some 9#32), (0x8000015, some 0x70000#32)] }, ccx := { R0.ccx with ctxs := [(0, { ctx0 with st := 4, kind := 2 })] } }
theorem wit_ContextCommands_4 : 0 < 1024 ∧ w_ContextCommands_4.ctx 0 = some ({ ctx0 with st := 4, kind := 2 }) ∧
      ({ ctx0 with st := 4, kind := 2 }).st = 4 ∧ ({ ctx0 with st := 4, kind := 2 }).kind = 2 ∧ 7 = wfield ((w_ContextCommands_4.ctxWords
      0 16 6).1.getD 5 0) 16 12 ∧ (w_ContextCommands_4.ks 7).st = 1 ∧ w_ContextCommands_4.buf.wait = [] ∧ w_ContextCommands_4.freeSegs = 0
      :: 1 :: ([2]) := by
  refine ⟨?_, ?_, ?_, ?_, ?_, ?_, ?_, ?_⟩ <;> first | decide +kernel | rfl

def w_ContextCommands_5 : State := { R0 with ccx := { R0.ccx with ctxs := [(3, { ctx0 with st := 3 })] } }
theorem wit_ContextCommands_5 : 3 < 1024 ∧ w_ContextCommands_5.ctx 3 = some ({ ctx0 with st := 3 }) ∧ ({ ctx0 with st := 3 }).st ≠ 2 := by
      decide +kernel

def w_ContextCommands_6 : State := { R0 with ccx := { R0.ccx with qa := [5], ctxs := [(3, { ctx0 with queues := 4 })] } }
theorem wit_ContextCommands_6 : 3 < 1024 ∧ w_ContextCommands_6.ctx 3 = some ({ ctx0 with queues := 4 }) ∧ ({ ctx0 with queues := 4 }).st =
      2 := by decide +kernel

def w_ContextCommands_7 : State :=
      { R0.wr Reg.CCX_CTXBASE 0x20000000#32 with mem := { R0.mem with sram := [(0x800001A, some 1#32)] }, ccx := { R0.ccx with qa := [5], ctxs := [(0, ctx0)] } }
theorem wit_ContextCommands_7 : 0 < 1024 ∧ w_ContextCommands_7.ctx 0 = some ctx0 ∧ ctx0.st = 2 ∧ ctx0.queues &&& 3 ≠ 0 ∧ inSram
      (w_ContextCommands_7.ctxAddr 0 26) = true ∧ mfind w_ContextCommands_7.mem.sram (w_ContextCommands_7.ctxAddr 0 26 / 4) = some (some
      (1#32)) := by decide +kernel

def w_ContextCommands_8 : State := R0
theorem wit_ContextCommands_8 : 0 < 1024 ∧ w_ContextCommands_8.ctx 0 = none := by decide +kernel

def w_ContextCommands_9 : State := { R0 with ccx := { R0.ccx with qb := [5], ctxs := [(3, { ctx0 with queues := 4 })] } }
theorem wit_ContextCommands_9 : 3 < 1024 ∧ w_ContextCommands_9.ctx 3 = some ({ ctx0 with queues := 4 }) ∧ ({ ctx0 with queues := 4 }).st =
      2 := by decide +kernel

def w_ContextCommands_10 : State :=
      { R0.wr Reg.CCX_CTXBASE 0x20000000#32 with mem := { R0.mem with sram := [(0x8000011, some 3#32)] }, ccx := { R0.ccx with ctxs := [(0, { ctx0 with write := true, len := 1 })] }, buf := { R0.buf with resv := [{ mkResv 0 0 1 false with filled := [0] }] } }
theorem wit_ContextCommands_10 : 0 < 1024 ∧ w_ContextCommands_10.ctx 0 = some ({ ctx0 with write := true, len := 1 }) ∧
      ({ ctx0 with write := true, len := 1 }).st = 2 ∧ ({ ctx0 with write := true, len := 1 }).write = true ∧
      (w_ContextCommands_10.ctxWord 0 17).1.getLsbD 1 = true ∧ w_ContextCommands_10.resvOf 0 = some
      ({ mkResv 0 0 1 false with filled := [0] }) ∧ ({ mkResv 0 0 1 false with filled := [0] }).win0 = 0 ∧
      ({ mkResv 0 0 1 false with filled := [0] }).win1 = 256 ∧ 1 ≤ ({ ctx0 with write := true, len := 1 }).len ∧
      ({ ctx0 with write := true, len := 1 }).len ≤ 256 ∧ ({ mkResv 0 0 1 false with filled := [0] }).full false
      ({ ctx0 with write := true, len := 1 }).len = true ∧ w_ContextCommands_10.posWord 0 0 = some 0 := by decide +kernel

def w_ContextCommands_11 : State := { R0 with ccx := { R0.ccx with ctxs := [(3, ctx0)] } }
theorem wit_ContextCommands_11 : 3 < 1024 ∧ w_ContextCommands_11.ctx 3 = some ctx0 ∧ (ctx0.st ≠ 2 ∨ ctx0.write = false) := by
      decide +kernel

def w_ContextCommands_12 : State :=
      { R0.wr Reg.CCX_CTXBASE 0x20000000#32 with mem := { R0.mem with sram := [(0x8000017, some 2#32)] }, ccx := { R0.ccx with ctxs := [(0, ctx0)] }, buf := { R0.buf with resv := [mkResv 0 0 1 false] } }
theorem wit_ContextCommands_12 : 0 < 1024 ∧ w_ContextCommands_12.ctx 0 = some ctx0 ∧ ctx0.st = 2 ∧ ctx0.write = false ∧
      w_ContextCommands_12.resvOf 0 = some (mkResv 0 0 1 false) := by decide +kernel

def w_ContextCommands_13 : State :=
      { R0 with ccx := { R0.ccx with ctxs := [(0, { ctx0 with write := true })] }, buf := { R0.buf with resv := [mkResv 0 0 1 false] } }
theorem wit_ContextCommands_13 : 0 < 1024 ∧ w_ContextCommands_13.ctx 0 = some ({ ctx0 with write := true }) ∧ w_ContextCommands_13.resvOf
      0 = some (mkResv 0 0 1 false) ∧ (({ ctx0 with write := true }).st ≠ 2 ∨ ({ ctx0 with write := true }).write = true) := by
      decide +kernel

def w_ContextCommands_14 : State := { R0 with ccx := { R0.ccx with qa := [1, 3], ctxs := [(3, ctx0)] } }
theorem wit_ContextCommands_14 : 3 < 1024 ∧ w_ContextCommands_14.ctx 3 = some ctx0 ∧ ((ctx0.st = 1 ∨ ctx0.st = 2 ∨ ctx0.st = 4)) ∧
      w_ContextCommands_14.ctxDone 3 ctx0 = false := by decide +kernel

def w_ContextCommands_15 : State :=
      { R0.wr Reg.CCX_CTXBASE 0x20000000#32 with ccx := { R0.ccx with ctxs := [(3, { ctx0 with slot := some 2, credited := 4, finals := 1, xferDone := true })] }, mem := { R0.mem with sram := [(0x800007A, some 1#32)] } }
theorem wit_ContextCommands_15 : 3 < 1024 ∧ w_ContextCommands_15.ctx 3 = some
      ({ ctx0 with slot := some 2, credited := 4, finals := 1, xferDone := true }) ∧
      ({ ctx0 with slot := some 2, credited := 4, finals := 1, xferDone := true }).st = 2 ∧ w_ContextCommands_15.ctxDone 3
      ({ ctx0 with slot := some 2, credited := 4, finals := 1, xferDone := true }) = true := by decide +kernel

def w_ContextCommands_16 : State := { R0 with ccx := { R0.ccx with ctxs := [(3, { ctx0 with st := 3 })] } }
theorem wit_ContextCommands_16 : 3 < 1024 ∧ w_ContextCommands_16.ctx 3 = some ({ ctx0 with st := 3 }) ∧ ({ ctx0 with st := 3 }).st = 3 :=
      by decide +kernel

/-! ### ContextsEnd -/

def w_ContextsEnd_1 : State := { R0 with ccx := { R0.ccx with qa := [9, 2] } }
theorem wit_ContextsEnd_1 : 0 = 0 ∧ w_ContextsEnd_1.ccx.qa = 9 :: ([2]) := by
  refine ⟨?_, ?_⟩ <;> first | decide +kernel | rfl

def w_ContextsEnd_2 : State := { R0 with ccx := { R0.ccx with qb := [9, 2] } }
theorem wit_ContextsEnd_2 : 1 = 1 ∧ w_ContextsEnd_2.ccx.qb = 9 :: ([2]) := by
  refine ⟨?_, ?_⟩ <;> first | decide +kernel | rfl

def w_ContextsEnd_3 : State := { R0 with ccx := { R0.ccx with qn := [(9, true)] } }
theorem wit_ContextsEnd_3 : 2 = 2 ∧ w_ContextsEnd_3.ccx.qn = (9, true) :: ([]) := by
  refine ⟨?_, ?_⟩ <;> first | decide +kernel | rfl

def w_ContextsEnd_4 : State := R0
theorem wit_ContextsEnd_4 : 0 = 0 ∧ w_ContextsEnd_4.ccx.qa = [] := by
  refine ⟨?_, ?_⟩ <;> first | decide +kernel | rfl

def w_ContextsEnd_5 : State :=
      { R0 with ccx := { R0.ccx with ctxs := [(3, { ctx0 with st := 3, status := 8 })] }, buf := { R0.buf with resv := [mkResv 3 0 1 false] } }
theorem wit_ContextsEnd_5 : w_ContextsEnd_5.ctx 3 = some ({ ctx0 with st := 3, status := 8 }) ∧ w_ContextsEnd_5.ctxDone 3
      ({ ctx0 with st := 3, status := 8 }) = true ∧ ({ ctx0 with st := 3, status := 8 }).kind ≠ 2 ∧
      ({ ctx0 with st := 3, status := 8 }).silent = false := by decide +kernel

def w_ContextsEnd_6 : State := { R0 with ccx := { R0.ccx with ctxs := [(3, { ctx0 with st := 3, kind := 2 })] } }
theorem wit_ContextsEnd_6 : w_ContextsEnd_6.ctx 3 = some ({ ctx0 with st := 3, kind := 2 }) ∧ w_ContextsEnd_6.ctxDone 3
      ({ ctx0 with st := 3, kind := 2 }) = true ∧ ({ ctx0 with st := 3, kind := 2 }).kind = 2 := by decide +kernel

def w_ContextsEnd_7 : State :=
      { R0.setKs 2 { KeySlot.empty with use := 3 } with ccx := { R0.ccx with ctxs := [(3, { ctx0 with st := 3, slot := some 2 })] } }
theorem wit_ContextsEnd_7 : w_ContextsEnd_7.ctx 3 = some ({ ctx0 with st := 3, slot := some 2 }) ∧ w_ContextsEnd_7.ctxDone 3
      ({ ctx0 with st := 3, slot := some 2 }) = true ∧ ({ ctx0 with st := 3, slot := some 2 }).slot = some 2 := by decide +kernel

def w_ContextsEnd_8 : State := { R0 with ccx := { R0.ccx with ctxs := [(3, ctx0)] } }
theorem wit_ContextsEnd_8 : w_ContextsEnd_8.ctx 3 = some ctx0 ∧ w_ContextsEnd_8.ctxDone 3 ctx0 = false := by decide +kernel

def w_ContextsEnd_9 : State :=
      { R0.wr Reg.CCX_CTXBASE 0x20000000#32 with now := 4000000000, mem := { R0.mem with sram := [(0x8000015, some 5#32)] }, ccx := { R0.ccx with ctxs := [(0, ctx0)] } }
theorem wit_ContextsEnd_9 : w_ContextsEnd_9.ctx 0 = some ctx0 ∧ w_ContextsEnd_9.ctxLimit 0 ctx0 = some 5 ∧ ctx0.st ≠ 3 ∧
      w_ContextsEnd_9.ctxDone 0 ctx0 = false ∧ (notedFields w_ContextsEnd_9 .a ++ notedFields w_ContextsEnd_9 .b).all (fun f => f.addr !=
      Reg.CCX_CNT) = true ∧ ctx0.at_ + 5 * 800000000 ≤ w_ContextsEnd_9.now := by decide +kernel

def w_ContextsEnd_10 : State :=
      { R0.wr Reg.CCX_CTXBASE 0x20000000#32 with now := 4000000000, mem := { R0.mem with sram := [(0x8000015, some 5#32), (0x800001A, some 1#32)] }, ccx := { R0.ccx with ctxs := [(0, { ctx0 with slot := some 2, credited := 4, finals := 1, xferDone := true })] } }
theorem wit_ContextsEnd_10 : w_ContextsEnd_10.ctx 0 = some ({ ctx0 with slot := some 2, credited := 4, finals := 1, xferDone := true }) ∧
      w_ContextsEnd_10.ctxLimit 0 ({ ctx0 with slot := some 2, credited := 4, finals := 1, xferDone := true }) = some 5 ∧
      ({ ctx0 with slot := some 2, credited := 4, finals := 1, xferDone := true }).st ≠ 3 ∧ w_ContextsEnd_10.ctxDone 0
      ({ ctx0 with slot := some 2, credited := 4, finals := 1, xferDone := true }) = true ∧
      ({ ctx0 with slot := some 2, credited := 4, finals := 1, xferDone := true }).at_ + 5 * 800000000 ≤ w_ContextsEnd_10.now := by
      decide +kernel

def w_ContextsEnd_11 : State :=
      { R0.wr Reg.CCX_CTXBASE 0x20000000#32 with now := 3999999999, mem := { R0.mem with sram := [(0x8000015, some 5#32)] }, ccx := { R0.ccx with ctxs := [(0, ctx0)] } }
theorem wit_ContextsEnd_11 : w_ContextsEnd_11.ctx 0 = some ctx0 ∧ w_ContextsEnd_11.ctxLimit 0 ctx0 = some 5 ∧ w_ContextsEnd_11.now <
      ctx0.at_ + 5 * 800000000 := by decide +kernel

def w_ContextsEnd_12 : State :=
      { R0.wr Reg.CCX_CTXBASE 0x20000000#32 with mem := { R0.mem with sram := [(0x8000015, some 255#32)] }, ccx := { R0.ccx with ctxs := [(0, { ctx0 with kind := 2 })] } }
theorem wit_ContextsEnd_12 : w_ContextsEnd_12.ctx 0 = some ({ ctx0 with kind := 2 }) ∧ w_ContextsEnd_12.ctxLimit 0
      ({ ctx0 with kind := 2 }) = none := by decide +kernel

def w_ContextsEnd_13 : State := { R0 with ccx := { R0.ccx with ctxs := [(3, ctx0)] } }
theorem wit_ContextsEnd_13 : w_ContextsEnd_13.ccx.ctxs.filter (fun e => inScope (some 0) none (some 0) e.2) = [(3, ctx0)] ∧
      w_ContextsEnd_13.ctx 3 = some ctx0 ∧ ctx0.st ≠ 3 ∧ w_ContextsEnd_13.ctxDone 3 ctx0 = false ∧ (notedFields w_ContextsEnd_13 .a ++
      notedFields w_ContextsEnd_13 .b).all (fun f => f.addr != Reg.CCX_CNT) = true := by decide +kernel

def w_ContextsEnd_14 : State := { R0 with ccx := { R0.ccx with ctxs := [(3, ctx0), (5, ctx0)] } }
theorem wit_ContextsEnd_14 : w_ContextsEnd_14.ctx 3 = some ctx0 ∧ inScope (some 0) none (some 0) ctx0 = true ∧
      (w_ContextsEnd_14.ccx.ctxs.map Prod.fst).Nodup ∧ ((∀ e ∈ w_ContextsEnd_14.ccx.ctxs, inScope (some 0) none (some 0) e.2 = true →
      e.2.st ≠ 3 ∧ w_ContextsEnd_14.ctxDone e.1 e.2 = false)) ∧ (w_ContextsEnd_14.msq .a).running = none ∧ (w_ContextsEnd_14.msq
      .b).running = none := by decide +kernel

def w_ContextsEnd_15 : State :=
      { R0.wr Reg.CCX_CTXBASE 0x20000000#32 with ccx := { R0.ccx with ctxs := [(3, { ctx0 with slot := some 2, credited := 4, finals := 1, xferDone := true })] }, mem := { R0.mem with sram := [(0x800007A, some 1#32)] } }
theorem wit_ContextsEnd_15 : w_ContextsEnd_15.ccx.ctxs.filter (fun e => inScope (some 0) none (some 0) e.2) = [(3,
      ({ ctx0 with slot := some 2, credited := 4, finals := 1, xferDone := true }))] ∧ w_ContextsEnd_15.ctx 3 = some
      ({ ctx0 with slot := some 2, credited := 4, finals := 1, xferDone := true }) ∧
      ({ ctx0 with slot := some 2, credited := 4, finals := 1, xferDone := true }).st ≠ 3 ∧ w_ContextsEnd_15.ctxDone 3
      ({ ctx0 with slot := some 2, credited := 4, finals := 1, xferDone := true }) = true := by decide +kernel

def w_ContextsEnd_16 : State := { R0 with ccx := { R0.ccx with ctxs := [(3, ctx0)] } }
theorem wit_ContextsEnd_16 : w_ContextsEnd_16.ccx.ctxs.filter (fun e => inScope (some 1) none none e.2) = [] := by decide +kernel

/-! ### HostResetsAndManagement -/

def w_HostResetsAndManagement_1 : State := R0
theorem wit_HostResetsAndManagement_1 : w_HostResetsAndManagement_1.pcieMode = false ∧ (notedFields w_HostResetsAndManagement_1 .a ++
      notedFields w_HostResetsAndManagement_1 .b).all (fun f => f.addr != Reg.SAS_CNT) = true := by decide +kernel

def w_HostResetsAndManagement_2 : State := { R0 with ccx := { R0.ccx with ctxs := [(3, ctx0)] } }
theorem wit_HostResetsAndManagement_2 : w_HostResetsAndManagement_2.pcieMode = false ∧ w_HostResetsAndManagement_2.ccx.ctxs = [(3, ctx0)]
      ∧ ctx0.kind ≠ 2 ∧ ctx0.port = b2n false ∧ ctx0.st ≠ 3 ∧ w_HostResetsAndManagement_2.ctxDone 3 ctx0 = false := by decide +kernel

def w_HostResetsAndManagement_3 : State := { R0 with pins := { R0.pins with hifsel := true } }
theorem wit_HostResetsAndManagement_3 : w_HostResetsAndManagement_3.pcieMode = true := by decide +kernel

def w_HostResetsAndManagement_4 : State := { R0 with pins := { R0.pins with hifsel := true } }
theorem wit_HostResetsAndManagement_4 : w_HostResetsAndManagement_4.pcieMode = true ∧ (notedFields w_HostResetsAndManagement_4 .a ++
      notedFields w_HostResetsAndManagement_4 .b).all (fun f => f.addr != Reg.PCIE_CNT) = true := by decide +kernel

def w_HostResetsAndManagement_5 : State := R0
theorem wit_HostResetsAndManagement_5 : w_HostResetsAndManagement_5.pcieMode = false := by decide +kernel

def w_HostResetsAndManagement_6 : State := { R0 with pins := { R0.pins with hifsel := true } }
theorem wit_HostResetsAndManagement_6 : w_HostResetsAndManagement_6.pcieMode = true ∧ (notedFields w_HostResetsAndManagement_6 .a ++
      notedFields w_HostResetsAndManagement_6 .b).all (fun f => f.addr != Reg.PCIE_CNT) = true := by decide +kernel

def w_HostResetsAndManagement_7 : State :=
      { R0 with pins := { R0.pins with hifsel := true }, ccx := { R0.ccx with ctxs := [(3, { ctx0 with port := 2 })] } }
theorem wit_HostResetsAndManagement_7 : w_HostResetsAndManagement_7.pcieMode = true ∧ w_HostResetsAndManagement_7.ccx.ctxs = [(3,
      ({ ctx0 with port := 2 }))] ∧ ({ ctx0 with port := 2 }).kind ≠ 2 ∧ ({ ctx0 with port := 2 }).port = 2 ∧ ({ ctx0 with port := 2 }).st
      ≠ 3 ∧ w_HostResetsAndManagement_7.ctxDone 3 ({ ctx0 with port := 2 }) = false := by decide +kernel

def w_HostResetsAndManagement_8 : State := R0
theorem wit_HostResetsAndManagement_8 : w_HostResetsAndManagement_8.pcieMode = false := by decide +kernel

def w_HostResetsAndManagement_9 : State := { R0 with now := 48000000, host := { R0.host with ccEnAt := some 32000000 } }
theorem wit_HostResetsAndManagement_9 : w_HostResetsAndManagement_9.host.ccEnAt = some 32000000 ∧ w_HostResetsAndManagement_9.host.startAt
      + 48000000 ≤ w_HostResetsAndManagement_9.now ∧ 32000000 + 16000000 ≤ w_HostResetsAndManagement_9.now := by decide +kernel

def w_HostResetsAndManagement_10 : State := { R0 with now := 48000000, host := { R0.host with ccEnAt := some 32000001 } }
theorem wit_HostResetsAndManagement_10 : w_HostResetsAndManagement_10.host.ccEnAt = some 32000001 ∧ (w_HostResetsAndManagement_10.now <
      w_HostResetsAndManagement_10.host.startAt + 48000000 ∨ w_HostResetsAndManagement_10.now < 32000001 + 16000000) := by decide +kernel

def w_HostResetsAndManagement_11 : State := R0
theorem wit_HostResetsAndManagement_11 : w_HostResetsAndManagement_11.sys.noImage = false := by decide +kernel

def w_HostResetsAndManagement_12 : State := { R0 with sys := { R0.sys with noImage := true }, ccx := { R0.ccx with ctxs := [(3, ctx0)] } }
theorem wit_HostResetsAndManagement_12 : w_HostResetsAndManagement_12.sys.noImage = true ∧ false = false ∧
      w_HostResetsAndManagement_12.ctx 3 = some ctx0 ∧ ctx0.st ≠ 3 ∧ w_HostResetsAndManagement_12.ctxDone 3 ctx0 = false := by
  refine ⟨?_, ?_, ?_, ?_, ?_⟩ <;> first | decide +kernel | rfl

def w_HostResetsAndManagement_13 : State := { R0 with sys := { R0.sys with noImage := true } }
theorem wit_HostResetsAndManagement_13 : w_HostResetsAndManagement_13.sys.noImage = true ∧ true = true := by
  refine ⟨?_, ?_⟩ <;> first | decide +kernel | rfl

def w_HostResetsAndManagement_14 : State := { R0 with pins := { R0.pins with resetL := false } }
theorem wit_HostResetsAndManagement_14 : w_HostResetsAndManagement_14.mgtOn = true := by decide +kernel

def w_HostResetsAndManagement_15 : State := R0.putb Fld.HIF_MGTCFG_EN false
theorem wit_HostResetsAndManagement_15 : w_HostResetsAndManagement_15.mgtOn = false := by decide +kernel

def w_HostResetsAndManagement_16 : State := { R0 with pins := { R0.pins with resetL := false }, host := { R0.host with mgtOfs := 254 } }
theorem wit_HostResetsAndManagement_16 : w_HostResetsAndManagement_16.mgtOn = true := by decide +kernel

def w_HostResetsAndManagement_17 : State := R0.putb Fld.HIF_MGTCFG_EN false
theorem wit_HostResetsAndManagement_17 : w_HostResetsAndManagement_17.mgtOn = false := by decide +kernel

/-! ### ControlCores -/

def w_ControlCores_1 : State := R0.put (coreF 1 0 1) 0
theorem wit_ControlCores_1 : w_ControlCores_1.flag (coreF (coreN true) (b2n false) 1) = false := by decide +kernel

def w_ControlCores_2 : State := R0
theorem wit_ControlCores_2 : w_ControlCores_2.admitted (coreN true) = 2 := by decide +kernel

def w_ControlCores_3 : State := (R0.putb (coreF 0 0 1) true).putb (coreF 0 1 1) false
theorem wit_ControlCores_3 : w_ControlCores_3.flag (coreF (coreN false) (b2n false) 1) = true ∧ w_ControlCores_3.admitted (coreN false) =
      1 := by decide +kernel

def w_ControlCores_4 : State := (R0.putb (coreF 0 0 1) true).putb (coreF 0 1 1) false
theorem wit_ControlCores_4 : w_ControlCores_4.admitted (coreN false) = 1 ∧ w_ControlCores_4.flag (rdmF (coreN false)) = false := by
      decide +kernel

def w_ControlCores_5 : State := R0
theorem wit_ControlCores_5 : w_ControlCores_5.admitted (coreN true) ≠ 1 := by decide +kernel

def w_ControlCores_6 : State := { R0.putb (rdmF 1) true with now := 240000 }
theorem wit_ControlCores_6 : w_ControlCores_6.flag (rdmF (coreN true)) = true ∧ (mfind w_ControlCores_6.apc.rdmAt (coreN true)).getD 0 +
      240000 ≤ w_ControlCores_6.now ∧ true = true := by
  refine ⟨?_, ?_, ?_⟩ <;> first | decide +kernel | rfl

def w_ControlCores_7 : State := { R0.putb (rdmF 1) true with now := 240000 }
theorem wit_ControlCores_7 : w_ControlCores_7.flag (rdmF (coreN true)) = true ∧ (mfind w_ControlCores_7.apc.rdmAt (coreN true)).getD 0 +
      240000 ≤ w_ControlCores_7.now ∧ false = false := by
  refine ⟨?_, ?_, ?_⟩ <;> first | decide +kernel | rfl

def w_ControlCores_8 : State := R0
theorem wit_ControlCores_8 : w_ControlCores_8.flag (rdmF (coreN true)) = false := by decide +kernel

def w_ControlCores_9 : State := R0.putb Fld.INTC_WDCFG_EN0 true
theorem wit_ControlCores_9 : w_ControlCores_9.flag Fld.INTC_WDCFG_EN0 = true := by decide +kernel

def w_ControlCores_10 : State := R0.putb Fld.INTC_WDCFG_EN1 true
theorem wit_ControlCores_10 : w_ControlCores_10.flag Fld.INTC_WDCFG_EN1 = true := by decide +kernel

def w_ControlCores_11 : State := R0.putb Fld.INTC_WDCFG_EN0 true
theorem wit_ControlCores_11 : (0x1A5C3#32) ≠ 0xA5C3#32 ∨ Initiator.lc0 = .dbg := by decide +kernel

def w_ControlCores_12 : State := R0
theorem wit_ControlCores_12 : w_ControlCores_12.flag Fld.INTC_WDCFG_EN0 = false := by decide +kernel

def w_ControlCores_13 : State := R0
theorem wit_ControlCores_13 : w_ControlCores_13.flag Fld.INTC_WDCFG_EN1 = false := by decide +kernel

def w_ControlCores_14 : State := R0.putb Fld.INTC_WDCFG_EN1 true
theorem wit_ControlCores_14 : w_ControlCores_14.flag (wdEn (coreN true)) = true := by decide +kernel

def w_ControlCores_15 : State :=
      { R0.putb Fld.INTC_WDCFG_EN1 true with now := 8000000, apc := { R0.apc with wd1 := { at_ := 0, period := 8000000, paused := none } } }
theorem wit_ControlCores_15 : w_ControlCores_15.flag (wdEn (coreN true)) = true ∧ (w_ControlCores_15.wd (coreN true)).paused = none ∧
      (w_ControlCores_15.wd (coreN true)).at_ + (w_ControlCores_15.wd (coreN true)).period ≤ w_ControlCores_15.now := by decide +kernel

def w_ControlCores_16 : State := R0
theorem wit_ControlCores_16 : w_ControlCores_16.flag (wdEn (coreN true)) = false ∨ (w_ControlCores_16.wd (coreN true)).paused ≠ none ∨
      w_ControlCores_16.now < (w_ControlCores_16.wd (coreN true)).at_ + (w_ControlCores_16.wd (coreN true)).period := by decide +kernel

def w_ControlCores_17 : State := ((R0.wr (Reg.INTC_SRCCFG 54) 0xF3#32).putb Fld.CCX_EV_ABORT true).wr Reg.CCX_EVTEN 1#32
theorem wit_ControlCores_17 : (w_ControlCores_17.rd (causeReg (coreN true))).getLsbD 31 = false ∧ w_ControlCores_17.bestSource (coreN
      true) = some 216 := by decide +kernel

def w_ControlCores_18 : State := R0.wr Reg.INTC_CAUSE1 0x80000705#32
theorem wit_ControlCores_18 : (w_ControlCores_18.rd (causeReg (coreN true))).getLsbD 31 = true ∨ w_ControlCores_18.bestSource (coreN true)
      = none := by decide +kernel

def w_ControlCores_19 : State := (R0.putb Fld.SYS_COMPAT_GEN7 true).wr Reg.INTC_CAUSE1 0x80000705#32
theorem wit_ControlCores_19 : w_ControlCores_19.flag Fld.SYS_COMPAT_GEN7 = true := by decide +kernel

def w_ControlCores_20 : State := (R0.putb Fld.SYS_COMPAT_GEN7 false).wr Reg.INTC_CAUSE1 0x80000705#32
theorem wit_ControlCores_20 : w_ControlCores_20.flag Fld.SYS_COMPAT_GEN7 = false := by decide +kernel

def w_ControlCores_23 : State := { R0.put Fld.INTC_TMR0_COUNT 5 with now := 4000 }
theorem wit_ControlCores_23 : 0 < w_ControlCores_23.get Fld.INTC_TMR0_COUNT ∧ w_ControlCores_23.apc.tmr0 + 800 * w_ControlCores_23.get
      Fld.INTC_TMR0_COUNT ≤ w_ControlCores_23.now := by decide +kernel

def w_ControlCores_24 : State := { R0.put Fld.INTC_TMR1_COUNT 5 with now := 4000 }
theorem wit_ControlCores_24 : 0 < w_ControlCores_24.get Fld.INTC_TMR1_COUNT ∧ w_ControlCores_24.apc.tmr1 + 800 * w_ControlCores_24.get
      Fld.INTC_TMR1_COUNT ≤ w_ControlCores_24.now := by decide +kernel

def w_ControlCores_25 : State := { R0.put Fld.INTC_TMR0_COUNT 5 with now := 3999 }
theorem wit_ControlCores_25 : w_ControlCores_25.get Fld.INTC_TMR0_COUNT = 0 ∨ w_ControlCores_25.now < w_ControlCores_25.apc.tmr0 + 800 *
      w_ControlCores_25.get Fld.INTC_TMR0_COUNT := by decide +kernel

def w_ControlCores_26 : State :=
      { R0 with apc := { R0.apc with dirty := [(0x2000003F, 9#8)] }, mem := { R0.mem with sram := [(0x800000F, some 0x11223344#32)] } }
theorem wit_ControlCores_26 : (w_ControlCores_26.lcCsr (coreN true)).mode = 3 ∧ w_ControlCores_26.apc.dirty = [(0x2000003F, (9#8))] ∧
      0x2000003F / 64 = (0x20000000#64).toNat / 64 ∧ 0x20000000 ≤ 0x2000003F ∧ 0x2000003F < 0x20800000 ∧ mfind w_ControlCores_26.mem.sram
      (0x2000003F / 4) = some (some (0x11223344#32)) := by decide +kernel

def w_ControlCores_27 : State := { R0 with apc := { R0.apc with dirty := [(0x20000040, 9#8)] } }
theorem wit_ControlCores_27 : (w_ControlCores_27.lcCsr (coreN true)).mode = 3 ∧ (∀ e ∈ w_ControlCores_27.apc.dirty, e.1 / 64 ≠
      (0x20000000#64).toNat / 64) := by decide +kernel

def w_ControlCores_28 : State := { R0 with apc := { R0.apc with csr1 := { R0.apc.csr1 with mode := 0 } } }
theorem wit_ControlCores_28 : (w_ControlCores_28.lcCsr (coreN true)).mode ≠ 3 := by decide +kernel

/-! ### ServicesAndFlash -/

def w_ServicesAndFlash_1 : State := R0
theorem wit_ServicesAndFlash_1 : w_ServicesAndFlash_1.apc.svc = none := by decide +kernel

def w_ServicesAndFlash_2 : State := { R0 with apc := { R0.apc with svc := some (1, 1) } }
theorem wit_ServicesAndFlash_2 : w_ServicesAndFlash_2.apc.svc ≠ none := by decide +kernel

def w_ServicesAndFlash_3 : State := R0
theorem wit_ServicesAndFlash_3 : w_ServicesAndFlash_3.apc.svc = none ∧ w_ServicesAndFlash_3.flag Fld.XSP_CMD_GO = false := by
      decide +kernel

def w_ServicesAndFlash_4 : State := { R0 with apc := { R0.apc with svc := some (1, 1) } }
theorem wit_ServicesAndFlash_4 : w_ServicesAndFlash_4.apc.svc ≠ none := by decide +kernel

def w_ServicesAndFlash_5 : State := R0
theorem wit_ServicesAndFlash_5 : w_ServicesAndFlash_5.apc.svc = none ∧ w_ServicesAndFlash_5.flag Fld.MEM_CTL_ZFGO = false := by
      decide +kernel

def w_ServicesAndFlash_6 : State := { R0 with apc := { R0.apc with svc := some (1, 1) } }
theorem wit_ServicesAndFlash_6 : w_ServicesAndFlash_6.apc.svc ≠ none := by decide +kernel

def w_ServicesAndFlash_7 : State := R0
theorem wit_ServicesAndFlash_7 : w_ServicesAndFlash_7.apc.svc = none ∧ w_ServicesAndFlash_7.flag Fld.HWD_MBCTL_GO = false ∧ ([64#32]) =
      (64#32) :: ([]) ∧ ([64#32]).length ≤ 64 ∧ 6 < 256 := by
  refine ⟨?_, ?_, ?_, ?_, ?_⟩ <;> first | decide +kernel | rfl

def w_ServicesAndFlash_8 : State := { R0 with apc := { R0.apc with svc := some (1, 1) } }
theorem wit_ServicesAndFlash_8 : w_ServicesAndFlash_8.apc.svc ≠ none := by decide +kernel

def w_ServicesAndFlash_9 : State :=
      { (xspS 1 9 1).wr Reg.XSP_MADDR 0x20000003#32 with mem := { R0.mem with sram := [(0x8000000, some 1#32)] }, xsp := { R0.xsp with flash := [(9, 7#8)] } }
theorem wit_ServicesAndFlash_9 : w_ServicesAndFlash_9.flag Fld.XSP_CMD_GO = true ∧ w_ServicesAndFlash_9.critical = false ∧
      w_ServicesAndFlash_9.get Fld.XSP_CMD_OP = 1 ∧ w_ServicesAndFlash_9.xsp.res = none ∧ w_ServicesAndFlash_9.flen = 1 ∧
      w_ServicesAndFlash_9.faddr + 1 ≤ w_ServicesAndFlash_9.flashSize ∧ w_ServicesAndFlash_9.inWindow 0 w_ServicesAndFlash_9.faddr 1 =
      false ∧ w_ServicesAndFlash_9.inWindow 1 w_ServicesAndFlash_9.faddr 1 = false ∧ 0x20000000 ≤ w_ServicesAndFlash_9.maddr ∧
      w_ServicesAndFlash_9.maddr < 0x20800000 ∧ mfind w_ServicesAndFlash_9.mem.sram (w_ServicesAndFlash_9.maddr / 4) = some (some (1#32))
      := by decide +kernel

def w_ServicesAndFlash_10 : State := xspS 1 9 0
theorem wit_ServicesAndFlash_10 : w_ServicesAndFlash_10.flag Fld.XSP_CMD_GO = true ∧ w_ServicesAndFlash_10.critical = false ∧
      w_ServicesAndFlash_10.get Fld.XSP_CMD_OP = 1 ∧ w_ServicesAndFlash_10.xsp.res = none ∧ (w_ServicesAndFlash_10.flen = 0 ∨
      w_ServicesAndFlash_10.flashSize < w_ServicesAndFlash_10.faddr + w_ServicesAndFlash_10.flen ∨ w_ServicesAndFlash_10.inMem
      w_ServicesAndFlash_10.maddr w_ServicesAndFlash_10.flen = false) := by decide +kernel

def w_ServicesAndFlash_11 : State := ((xspS 2 9 1).wr (Reg.XSP_PROTB 0) 0#32).wr (Reg.XSP_PROTL 0) 1#32
theorem wit_ServicesAndFlash_11 : w_ServicesAndFlash_11.flag Fld.XSP_CMD_GO = true ∧ w_ServicesAndFlash_11.critical = false ∧
      w_ServicesAndFlash_11.get Fld.XSP_CMD_OP = 2 ∧ w_ServicesAndFlash_11.xsp.res = none ∧ w_ServicesAndFlash_11.apcMay
      w_ServicesAndFlash_11.faddr w_ServicesAndFlash_11.flen = false := by decide +kernel

def w_ServicesAndFlash_12 : State :=
      { (xspS 2 9 1).wr Reg.XSP_MADDR 0x20000003#32 with mem := { R0.mem with sram := [(0x8000000, some 0x05000000#32)] }, xsp := { R0.xsp with flash := [(9, 7#8)] } }
theorem wit_ServicesAndFlash_12 : w_ServicesAndFlash_12.flag Fld.XSP_CMD_GO = true ∧ w_ServicesAndFlash_12.critical = false ∧
      w_ServicesAndFlash_12.get Fld.XSP_CMD_OP = 2 ∧ w_ServicesAndFlash_12.xsp.res = none ∧ w_ServicesAndFlash_12.flen = 1 ∧
      w_ServicesAndFlash_12.apcMay w_ServicesAndFlash_12.faddr 1 = true ∧ w_ServicesAndFlash_12.faddr + 1 ≤
      w_ServicesAndFlash_12.flashSize ∧ w_ServicesAndFlash_12.inMem w_ServicesAndFlash_12.maddr 1 = true ∧ (State.bytesAt 7 1
      w_ServicesAndFlash_12.maddr w_ServicesAndFlash_12).1 = ([(5#8)], true) := by decide +kernel

def w_ServicesAndFlash_13 : State := xspS 3 0x1000 0
theorem wit_ServicesAndFlash_13 : w_ServicesAndFlash_13.flag Fld.XSP_CMD_GO = true ∧ w_ServicesAndFlash_13.critical = false ∧
      w_ServicesAndFlash_13.get Fld.XSP_CMD_OP = 3 ∧ w_ServicesAndFlash_13.xsp.res = none ∧ w_ServicesAndFlash_13.apcMay
      w_ServicesAndFlash_13.faddr 4096 = true ∧ w_ServicesAndFlash_13.faddr % 4096 = 0 ∧ w_ServicesAndFlash_13.faddr + 4096 ≤
      w_ServicesAndFlash_13.flashSize := by decide +kernel

def w_ServicesAndFlash_14 : State := xspS 3 0x1001 0
theorem wit_ServicesAndFlash_14 : w_ServicesAndFlash_14.flag Fld.XSP_CMD_GO = true ∧ w_ServicesAndFlash_14.critical = false ∧
      w_ServicesAndFlash_14.get Fld.XSP_CMD_OP = 3 ∧ w_ServicesAndFlash_14.xsp.res = none ∧ w_ServicesAndFlash_14.apcMay
      (w_ServicesAndFlash_14.faddr / 4096 * 4096) 4096 = true ∧ w_ServicesAndFlash_14.faddr % 4096 ≠ 0 := by decide +kernel

def w_ServicesAndFlash_15 : State := xspS 4 0x10000 0
theorem wit_ServicesAndFlash_15 : w_ServicesAndFlash_15.flag Fld.XSP_CMD_GO = true ∧ w_ServicesAndFlash_15.critical = false ∧
      w_ServicesAndFlash_15.get Fld.XSP_CMD_OP = 4 ∧ w_ServicesAndFlash_15.xsp.res = none ∧ w_ServicesAndFlash_15.apcMay
      w_ServicesAndFlash_15.faddr 65536 = true ∧ w_ServicesAndFlash_15.faddr % 65536 = 0 ∧ w_ServicesAndFlash_15.faddr + 65536 ≤
      w_ServicesAndFlash_15.flashSize := by decide +kernel

def w_ServicesAndFlash_16 : State := ((xspS 4 0x10000 0).wr (Reg.XSP_PROTB 0) 0#32).wr (Reg.XSP_PROTL 0) 2#32
theorem wit_ServicesAndFlash_16 : w_ServicesAndFlash_16.flag Fld.XSP_CMD_GO = true ∧ w_ServicesAndFlash_16.critical = false ∧
      w_ServicesAndFlash_16.get Fld.XSP_CMD_OP = 4 ∧ w_ServicesAndFlash_16.xsp.res = none ∧ w_ServicesAndFlash_16.apcMay
      (w_ServicesAndFlash_16.faddr / 65536 * 65536) 65536 = false := by decide +kernel

def w_ServicesAndFlash_17 : State := xspS 5 0 0
theorem wit_ServicesAndFlash_17 : w_ServicesAndFlash_17.flag Fld.XSP_CMD_GO = true ∧ w_ServicesAndFlash_17.critical = false ∧
      w_ServicesAndFlash_17.get Fld.XSP_CMD_OP = 5 ∧ w_ServicesAndFlash_17.xsp.res = none := by decide +kernel

def w_ServicesAndFlash_18 : State := { xspS 1 9 1 with rbk := { R0.rbk with flush := some { cause := 0, crit := true, recs := none } } }
theorem wit_ServicesAndFlash_18 : w_ServicesAndFlash_18.critical = true := by decide +kernel

def w_ServicesAndFlash_19 : State := { xspS 3 0 0 with xsp := { R0.xsp with res := some (3, 5) } }
theorem wit_ServicesAndFlash_19 : w_ServicesAndFlash_19.xsp.res = some (3, 5) ∧ 3 < 7 ∧ w_ServicesAndFlash_19.flag Fld.XSP_CMD_GO = true
      := by decide +kernel

def w_ServicesAndFlash_20 : State :=
      { xspS 3 0 0 with xsp := { R0.xsp with res := some (3, 5) }, apc := { R0.apc with svc := some (1, 1) } }
theorem wit_ServicesAndFlash_20 : w_ServicesAndFlash_20.xsp.res = some (3, 5) ∧ w_ServicesAndFlash_20.flag Fld.XSP_CMD_GO = true ∧
      w_ServicesAndFlash_20.apc.svc = some (1, 1) := by decide +kernel

def w_ServicesAndFlash_21 : State := xspS 3 0 0
theorem wit_ServicesAndFlash_21 : w_ServicesAndFlash_21.xsp.res = none ∧ 1 ≤ w_ServicesAndFlash_21.get Fld.XSP_CMD_OP ∧
      w_ServicesAndFlash_21.get Fld.XSP_CMD_OP ≤ 5 := by decide +kernel

def w_ServicesAndFlash_22 : State := { xspS 3 0x1000 0 with now := 1600000000 }
theorem wit_ServicesAndFlash_22 : w_ServicesAndFlash_22.flag Fld.XSP_CMD_GO = true ∧ w_ServicesAndFlash_22.get Fld.XSP_CMD_OP = 3 ∧
      w_ServicesAndFlash_22.xsp.res = none ∧ w_ServicesAndFlash_22.critical = false ∧ w_ServicesAndFlash_22.xsp.goAt +
      w_ServicesAndFlash_22.xspLimit 3 ≤ w_ServicesAndFlash_22.now ∧ w_ServicesAndFlash_22.apcMay w_ServicesAndFlash_22.faddr 4096 = true
      ∧ w_ServicesAndFlash_22.faddr % 4096 = 0 ∧ w_ServicesAndFlash_22.faddr + 4096 ≤ w_ServicesAndFlash_22.flashSize := by decide +kernel

def w_ServicesAndFlash_23 : State := R0
theorem wit_ServicesAndFlash_23 : w_ServicesAndFlash_23.flag Fld.XSP_CMD_GO = false ∨ w_ServicesAndFlash_23.xsp.res ≠ none ∨
      w_ServicesAndFlash_23.now < w_ServicesAndFlash_23.xsp.goAt + w_ServicesAndFlash_23.xspLimit (w_ServicesAndFlash_23.get
      Fld.XSP_CMD_OP) := by decide +kernel

/-! ### UartAndTrace -/

def w_UartAndTrace_1 : State := R0
theorem wit_UartAndTrace_1 : w_UartAndTrace_1.get Fld.HWD_STAT_DBGLVL = 0 := by decide +kernel

def w_UartAndTrace_2 : State := { R0.put Fld.HWD_STAT_DBGLVL 1 with dbg := { R0.dbg with tx := List.replicate 63 0#8 } }
theorem wit_UartAndTrace_2 : 1 ≤ w_UartAndTrace_2.get Fld.HWD_STAT_DBGLVL ∧ w_UartAndTrace_2.dbg.tx.length < 64 := by decide +kernel

def w_UartAndTrace_3 : State := { R0.put Fld.HWD_STAT_DBGLVL 1 with dbg := { R0.dbg with tx := List.replicate 64 0#8 } }
theorem wit_UartAndTrace_3 : 1 ≤ w_UartAndTrace_3.get Fld.HWD_STAT_DBGLVL ∧ 64 ≤ w_UartAndTrace_3.dbg.tx.length := by decide +kernel

def w_UartAndTrace_4 : State := { R0 with dbg := { R0.dbg with rx := [7#8, 9#8] } }
theorem wit_UartAndTrace_4 : w_UartAndTrace_4.dbg.rx = (7#8) :: ([9#8]) := by decide +kernel

def w_UartAndTrace_5 : State := R0
theorem wit_UartAndTrace_5 : w_UartAndTrace_5.dbg.rx = [] := by decide +kernel

def w_UartAndTrace_6 : State :=
      { (R0.put Fld.HWD_STAT_DBGLVL 1).putb Fld.DBG_UARTCFG_EN true with dbg := { R0.dbg with rx := List.replicate 63 0#8 } }
theorem wit_UartAndTrace_6 : w_UartAndTrace_6.flag Fld.DBG_UARTCFG_EN = true ∧ 1 ≤ w_UartAndTrace_6.get Fld.HWD_STAT_DBGLVL ∧
      w_UartAndTrace_6.dbg.rx.length < 64 := by decide +kernel

def w_UartAndTrace_7 : State :=
      { (R0.put Fld.HWD_STAT_DBGLVL 1).putb Fld.DBG_UARTCFG_EN true with dbg := { R0.dbg with rx := List.replicate 64 0#8 } }
theorem wit_UartAndTrace_7 : w_UartAndTrace_7.flag Fld.DBG_UARTCFG_EN = true ∧ 1 ≤ w_UartAndTrace_7.get Fld.HWD_STAT_DBGLVL ∧ 64 ≤
      w_UartAndTrace_7.dbg.rx.length := by decide +kernel

def w_UartAndTrace_8 : State := (R0.put Fld.HWD_STAT_DBGLVL 1).putb Fld.DBG_UARTCFG_EN true
theorem wit_UartAndTrace_8 : w_UartAndTrace_8.flag Fld.DBG_UARTCFG_EN = true ∧ 1 ≤ w_UartAndTrace_8.get Fld.HWD_STAT_DBGLVL := by
      decide +kernel

def w_UartAndTrace_9 : State := R0.putb Fld.DBG_UARTCFG_EN false
theorem wit_UartAndTrace_9 : w_UartAndTrace_9.flag Fld.DBG_UARTCFG_EN = false := by decide +kernel

def w_UartAndTrace_10 : State := { trcS 0 with now := 320 }
theorem wit_UartAndTrace_10 : w_UartAndTrace_10.traceOn = true ∧ (w_UartAndTrace_10.get Fld.DBG_TRCCFG_SRC).testBit (2#2).toNat = true ∧
      0x20000000 = w_UartAndTrace_10.get Fld.DBG_TRCBASE_BASE * 2 ^ 12 + w_UartAndTrace_10.get Fld.DBG_TRCWP_OFFSET ∧ 0x20000000 ≤
      0x20000000 ∧ 0x20000000 + 16 ≤ 0x20800000 ∧ 0x20000000 % 4 = 0 ∧ w_UartAndTrace_10.get Fld.DBG_TRCWP_OFFSET + 16 <
      w_UartAndTrace_10.trcSize := by
  refine ⟨?_, ?_, ?_, ?_, ?_, ?_, ?_⟩ <;> first | decide +kernel | rfl

def w_UartAndTrace_11 : State := (trcS 4080).putb Fld.DBG_TRCCFG_WRAP true
theorem wit_UartAndTrace_11 : w_UartAndTrace_11.traceOn = true ∧ (w_UartAndTrace_11.get Fld.DBG_TRCCFG_SRC).testBit (2#2).toNat = true ∧
      w_UartAndTrace_11.trcSize ≤ w_UartAndTrace_11.get Fld.DBG_TRCWP_OFFSET + 16 ∧ w_UartAndTrace_11.flag Fld.DBG_TRCCFG_WRAP = true :=
      by decide +kernel

def w_UartAndTrace_12 : State := (trcS 4080).putb Fld.DBG_TRCCFG_WRAP false
theorem wit_UartAndTrace_12 : w_UartAndTrace_12.traceOn = true ∧ (w_UartAndTrace_12.get Fld.DBG_TRCCFG_SRC).testBit (2#2).toNat = true ∧
      w_UartAndTrace_12.trcSize ≤ w_UartAndTrace_12.get Fld.DBG_TRCWP_OFFSET + 16 ∧ w_UartAndTrace_12.flag Fld.DBG_TRCCFG_WRAP = false :=
      by decide +kernel

def w_UartAndTrace_13 : State := trcS 0
theorem wit_UartAndTrace_13 : w_UartAndTrace_13.traceOn = true ∧ (w_UartAndTrace_13.get Fld.DBG_TRCCFG_SRC).testBit (2#2).toNat = true :=
      by decide +kernel

def w_UartAndTrace_14 : State := R0
theorem wit_UartAndTrace_14 : w_UartAndTrace_14.traceOn = false := by decide +kernel

/-! ### ValeLink -/

def w_ValeLink_1 : State := valeS
theorem wit_ValeLink_1 : w_ValeLink_1.flag Fld.VALE_CFG_EN = true ∧ w_ValeLink_1.thm.shut = false ∧ true = true ∧ ((∀ c, mfind
      w_ValeLink_1.vale.counters (64 * w_ValeLink_1.get Fld.VALE_KEY_TXSLOT + (3#6).toNat) = some c → c < (2#56).toNat * 256)) :=
      ⟨by decide +kernel, by decide +kernel, rfl, by intro c h; rw [show mfind w_ValeLink_1.vale.counters (64 * w_ValeLink_1.get Fld.VALE_KEY_TXSLOT + (3#6).toNat) = some 0x100 by decide +kernel] at h; cases h; decide⟩

def w_ValeLink_2 : State := valeS
theorem wit_ValeLink_2 : w_ValeLink_2.flag Fld.VALE_CFG_EN = true ∧ w_ValeLink_2.thm.shut = false ∧ w_ValeLink_2.flag Fld.VALE_KEY_ALTEN =
      false ∧ mfind w_ValeLink_2.vale.counters (64 * w_ValeLink_2.get Fld.VALE_KEY_TXSLOT + (3#6).toNat) = some 0x100 ∧ (1#56).toNat * 256
      ≤ 0x100 := by decide +kernel

def w_ValeLink_3 : State := valeS
theorem wit_ValeLink_3 : w_ValeLink_3.flag Fld.VALE_CFG_EN = true ∧ w_ValeLink_3.thm.shut = false ∧ w_ValeLink_3.flag Fld.VALE_KEY_ALTEN =
      false ∧ false = false ∧ mfind w_ValeLink_3.vale.counters (64 * w_ValeLink_3.get Fld.VALE_KEY_TXSLOT + (4#6).toNat) = none := by
  refine ⟨?_, ?_, ?_, ?_, ?_⟩ <;> first | decide +kernel | rfl

def w_ValeLink_4 : State := R0
theorem wit_ValeLink_4 : w_ValeLink_4.flag Fld.VALE_CFG_EN = false := by decide +kernel

def w_ValeLink_5 : State := valeS
theorem wit_ValeLink_5 : w_ValeLink_5.flag Fld.VALE_CFG_EN = true ∧ w_ValeLink_5.thm.shut = false ∧ w_ValeLink_5.flag Fld.VALE_KEY_ALTEN =
      false ∧ mfind w_ValeLink_5.vale.counters (64 * w_ValeLink_5.get Fld.VALE_KEY_TXSLOT + ({ rx3 with sender := 4 }).sender.toNat) =
      none := by decide +kernel

def w_ValeLink_6 : State := valeS
theorem wit_ValeLink_6 : w_ValeLink_6.flag Fld.VALE_CFG_EN = true ∧ w_ValeLink_6.thm.shut = false ∧ mfind w_ValeLink_6.vale.counters (64 *
      w_ValeLink_6.get Fld.VALE_KEY_TXSLOT + rx3.sender.toNat) = some 0x100 ∧ 5 = (rx3.seq.toNat + 256 - 0x100 % 256) % 256 ∧ 5 ≠ 0 ∧
      rx3.macTx = true := by
  refine ⟨?_, ?_, ?_, ?_, ?_, ?_⟩ <;> first | decide +kernel | rfl

def w_ValeLink_7 : State := valeS.put Fld.VALE_STAT_ROLE 3
theorem wit_ValeLink_7 : (w_ValeLink_7.valeGet rx3).1 = true ∧ w_ValeLink_7.get Fld.VALE_STAT_ROLE = 3 ∧ rx3.sender.toNat <
      w_ValeLink_7.own ∧ w_ValeLink_7.vale.handover = none := by decide +kernel

def w_ValeLink_8 : State := ((valeS.putb (Fld.LPE_NCOEF_EN .b 7) true).put (Fld.LPE_NCOEF_SLOT .b 7) 3).putb Fld.ANG_STAT_CANLOCK true
theorem wit_ValeLink_8 : (w_ValeLink_8.valeGet rx3).1 = true ∧ 7 < 8 ∧ w_ValeLink_8.flag (Fld.LPE_NCOEF_EN Act.b 7) = true ∧
      w_ValeLink_8.get (Fld.LPE_NCOEF_SLOT Act.b 7) = rx3.sender.toNat ∧ w_ValeLink_8.flag Fld.ANG_STAT_CANLOCK = true := by
      decide +kernel

def w_ValeLink_9 : State := valeS
theorem wit_ValeLink_9 : (w_ValeLink_9.valeGet rx3f).1 = false ∨ w_ValeLink_9.flag Fld.ANG_STAT_CANLOCK = false ∧ w_ValeLink_9.get
      Fld.VALE_STAT_ROLE ≠ 3 := by decide +kernel

def w_ValeLink_10 : State := valeS
theorem wit_ValeLink_10 : (w_ValeLink_10.valeGet rx3).1 = true ∧ (w_ValeLink_10.get Fld.VALE_STAT_ROLE ≠ 3 ∨ rx3.sender.toNat <
      w_ValeLink_10.own) := by decide +kernel

def w_ValeLink_11 : State := (valeS.put Fld.VALE_STAT_ROLE 3)
theorem wit_ValeLink_11 : (w_ValeLink_11.valeGet rx3f).1 = false ∨ w_ValeLink_11.get Fld.VALE_STAT_ROLE = 3 ∧ w_ValeLink_11.own ≤
      rx3f.sender.toNat := by decide +kernel

def w_ValeLink_12 : State := valeR
theorem wit_ValeLink_12 : (w_ValeLink_12.valeGet rx3).1 = true ∧ w_ValeLink_12.get Fld.VALE_STAT_ROLE ≠ 3 ∧ w_ValeLink_12.flag
      Fld.VALE_CFG_PLOCK = true ∧ w_ValeLink_12.flag Fld.SPN_STAT_INREG = true ∧ w_ValeLink_12.flag Fld.ANG_STAT_CANLOCK = false ∧
      w_ValeLink_12.flag Fld.SPN_CTL_RUN = true ∧ w_ValeLink_12.spnHold = false ∧ w_ValeLink_12.spn.pinStop = false := by decide +kernel

def w_ValeLink_13 : State := valeR
theorem wit_ValeLink_13 : (w_ValeLink_13.valeGet rx3).1 = true ∧ w_ValeLink_13.get Fld.VALE_STAT_ROLE ≠ 3 ∧ w_ValeLink_13.flag
      Fld.VALE_CFG_BUDGETEN = true ∧ w_ValeLink_13.flag Fld.VALE_STAT_TOKEN = false := by decide +kernel

def w_ValeLink_14 : State := valeR.putb Fld.SPN_STAT_INREG false
theorem wit_ValeLink_14 : (w_ValeLink_14.valeGet rx3).1 = true ∧ w_ValeLink_14.get Fld.VALE_STAT_ROLE ≠ 3 ∧ (5#6).toNat =
      w_ValeLink_14.own ∧ w_ValeLink_14.flag Fld.SPN_CTL_RUN = true ∧ w_ValeLink_14.flag Fld.SPN_STAT_INREG = false := by decide +kernel

def w_ValeLink_15 : State := { valeS with vale := { valeS.vale with named := 3 } }
theorem wit_ValeLink_15 : (w_ValeLink_15.valeGet rx3).1 = true ∧ w_ValeLink_15.get Fld.VALE_STAT_ROLE ≠ 3 ∧ (5#6).toNat =
      w_ValeLink_15.own ∧ w_ValeLink_15.pins.canopy = true ∧ w_ValeLink_15.vale.named = 3 := by decide +kernel

def w_ValeLink_16 : State := valeS
theorem wit_ValeLink_16 : w_ValeLink_16.flag Fld.VALE_CFG_EN = true ∧ w_ValeLink_16.pins.canopy = true ∧ w_ValeLink_16.get
      Fld.VALE_STAT_ROLE ≠ 3 ∧ w_ValeLink_16.flag Fld.VALE_STAT_LEFT = false ∧ w_ValeLink_16.thm.shut = false ∧ w_ValeLink_16.vale.enAt +
      (3 + w_ValeLink_16.own) * 64000 ≤ w_ValeLink_16.now := by decide +kernel

def w_ValeLink_17 : State := R0
theorem wit_ValeLink_17 : w_ValeLink_17.pins.canopy = false ∨ w_ValeLink_17.now < w_ValeLink_17.vale.enAt + (3 + w_ValeLink_17.own) *
      64000 := by decide +kernel

def w_ValeLink_18 : State := { valeS.put Fld.VALE_STAT_ROLE 2 with vale := { valeS.vale with beaconAt := some 0 } }
theorem wit_ValeLink_18 : w_ValeLink_18.get Fld.VALE_STAT_ROLE = 2 ∧ w_ValeLink_18.vale.beaconAt = some 0 ∧ 0 + 192000 ≤ w_ValeLink_18.now
      := by decide +kernel

def w_ValeLink_19 : State := R0
theorem wit_ValeLink_19 : w_ValeLink_19.get Fld.VALE_STAT_ROLE ≠ 2 ∨ w_ValeLink_19.vale.beaconAt = none := by decide +kernel

def w_ValeLink_20 : State :=
      { valeS.put Fld.VALE_STAT_ROLE 3 with vale := { valeS.vale with status := [(63, 16)], heard := [(63, 1000000000)] } }
theorem wit_ValeLink_20 : w_ValeLink_20.get Fld.VALE_STAT_ROLE = 3 ∧ 63 < 64 ∧ 63 ≠ w_ValeLink_20.own ∧ w_ValeLink_20.heardLately 63 =
      true ∧ w_ValeLink_20.vale.status = [(63, 16)] ∧ nbit 16 4 = true := by decide +kernel

def w_ValeLink_21 : State := R0
theorem wit_ValeLink_21 : w_ValeLink_21.get Fld.VALE_STAT_ROLE ≠ 3 ∨ w_ValeLink_21.vale.status = [] := by decide +kernel

def w_ValeLink_22 : State := { valeS.putb Fld.VALE_STAT_TOKEN true with now := 16000000000 }
theorem wit_ValeLink_22 : (5#6).toNat = w_ValeLink_22.own ∧ w_ValeLink_22.flag Fld.VALE_STAT_TOKEN = true ∧ w_ValeLink_22.vale.tokenAt +
      w_ValeLink_22.eff Fld.VALE_CANCFG_TOKMAX * 800000000 ≤ w_ValeLink_22.now := by decide +kernel

def w_ValeLink_23 : State := { valeS with vale := { valeS.vale with tokens := [(7, 0)] } }
theorem wit_ValeLink_23 : (7#6).toNat ≠ w_ValeLink_23.own ∧ w_ValeLink_23.vale.tokens = [((7#6).toNat, 0)] ∧ w_ValeLink_23.heardLately
      (7#6).toNat = false ∧ 0 + 192000 ≤ w_ValeLink_23.now := by decide +kernel

def w_ValeLink_24 : State := valeS
theorem wit_ValeLink_24 : w_ValeLink_24.vale.tokens = [] ∧ w_ValeLink_24.flag Fld.VALE_STAT_TOKEN = false := by decide +kernel

def w_ValeLink_25 : State := { valeS.putb Fld.SPN_CTL_RUN true with spn := { R0.spn with deferred := true } }
theorem wit_ValeLink_25 : w_ValeLink_25.spn.deferred = true ∧ w_ValeLink_25.vale.memberSince = false ∧ w_ValeLink_25.vale.deferAt +
      w_ValeLink_25.pins.slotid * (w_ValeLink_25.eff Fld.VALE_CFG_STAG * 8000000) ≤ w_ValeLink_25.now ∧ w_ValeLink_25.flag Fld.SPN_CTL_RUN
      = true ∧ w_ValeLink_25.spnHold = false ∧ w_ValeLink_25.spn.pinStop = false := by decide +kernel

def w_ValeLink_26 : State := R0
theorem wit_ValeLink_26 : w_ValeLink_26.spn.deferred = false ∨ w_ValeLink_26.vale.memberSince = true := by decide +kernel

def w_ValeLink_30 : State := R0
theorem wit_ValeLink_30 : w_ValeLink_30.flag Fld.VALE_CFG_EN = false ∨ w_ValeLink_30.flag Fld.VALE_STAT_LEFT = true ∨
      w_ValeLink_30.vale.stopped = true ∨ w_ValeLink_30.thm.shut = true := by decide +kernel

def w_ValeLink_31 : State := valeS
theorem wit_ValeLink_31 : w_ValeLink_31.flag Fld.VALE_CFG_EN = true ∧ w_ValeLink_31.flag Fld.VALE_STAT_LEFT = false ∧
      w_ValeLink_31.vale.stopped = false ∧ w_ValeLink_31.thm.shut = false ∧ w_ValeLink_31.sys.retract = false ∧ (w_ValeLink_31.ks (4096 +
      w_ValeLink_31.get Fld.VALE_KEY_TXSLOT)).st = 0 := by decide +kernel

def w_ValeLink_32 : State := valeS.setKs 4096 { KeySlot.empty with st := 1, sess := true, ctr := 9 }
theorem wit_ValeLink_32 : w_ValeLink_32.flag Fld.VALE_CFG_EN = true ∧ w_ValeLink_32.flag Fld.VALE_STAT_LEFT = false ∧
      w_ValeLink_32.vale.stopped = false ∧ w_ValeLink_32.thm.shut = false ∧ w_ValeLink_32.sys.retract = false ∧
      ({ KeySlot.empty with st := 1, sess := true, ctr := 9 }) = w_ValeLink_32.ks (4096 + w_ValeLink_32.get Fld.VALE_KEY_TXSLOT) ∧
      ({ KeySlot.empty with st := 1, sess := true, ctr := 9 }).st = 1 ∧ w_ValeLink_32.vale.sync = false ∧
      ({ KeySlot.empty with st := 1, sess := true, ctr := 9 }).issue = .ok 9 ∧ 9 % 256 ≠ 0 ∧ w_ValeLink_32.vale.ann = [] ∧
      w_ValeLink_32.get Fld.VALE_STAT_ROLE ≠ 3 :=
      ⟨by decide +kernel, by decide +kernel, by decide +kernel, by decide +kernel, by decide +kernel, by decide +kernel, by decide +kernel, by decide +kernel, rfl, by decide, by decide +kernel, by decide +kernel⟩

def w_ValeLink_33 : State := valeS.setKs 4096 { KeySlot.empty with st := 1, sess := true, ctr := 512 }
theorem wit_ValeLink_33 : w_ValeLink_33.flag Fld.VALE_CFG_EN = true ∧ w_ValeLink_33.flag Fld.VALE_STAT_LEFT = false ∧
      w_ValeLink_33.vale.stopped = false ∧ w_ValeLink_33.thm.shut = false ∧ w_ValeLink_33.sys.retract = false ∧
      ({ KeySlot.empty with st := 1, sess := true, ctr := 512 }) = w_ValeLink_33.ks (4096 + w_ValeLink_33.get Fld.VALE_KEY_TXSLOT) ∧
      ({ KeySlot.empty with st := 1, sess := true, ctr := 512 }).st = 1 ∧ w_ValeLink_33.vale.sync = false ∧
      ({ KeySlot.empty with st := 1, sess := true, ctr := 512 }).issue = .ok 512 ∧ 512 % 256 = 0 :=
      ⟨by decide +kernel, by decide +kernel, by decide +kernel, by decide +kernel, by decide +kernel, by decide +kernel, by decide +kernel, by decide +kernel, rfl, by decide⟩

/-! ### Ringbook -/

def w_Ringbook_1 : State := R0
theorem wit_Ringbook_1 : newestOf
      (({ R0.rbk with ret := { R0.rbk.ret with recs := [(0, { seq := 2, ord := 0, occ := { occF with count := 65534 } })] } } :
      RbkSt)).ret.recs occF.src = some (0, (({ seq := 2, ord := 0, occ := { occF with count := 65534 } } : EvRec))) ∧
      (({ seq := 2, ord := 0, occ := { occF with count := 65534 } } : EvRec)).occ.ty = occF.ty ∧
      (({ seq := 2, ord := 0, occ := { occF with count := 65534 } } : EvRec)).occ.code = occF.code ∧ occF.t0 ≤
      (({ seq := 2, ord := 0, occ := { occF with count := 65534 } } : EvRec)).occ.t1 + 0 ∧
      (({ seq := 2, ord := 0, occ := { occF with count := 65534 } } : EvRec)).occ.count < 65535 ∧ occF.count = 1 := by decide +kernel

def w_Ringbook_2 : State := R0
theorem wit_Ringbook_2 : occF.count = 1 ∧ (newestOf
      (({ R0.rbk with ret := { R0.rbk.ret with recs := [(0, { seq := 2, ord := 0, occ := { occF with count := 65535 } })] } } :
      RbkSt)).ret.recs occF.src = none ∨ (∃ i e, newestOf
      (({ R0.rbk with ret := { R0.rbk.ret with recs := [(0, { seq := 2, ord := 0, occ := { occF with count := 65535 } })] } } :
      RbkSt)).ret.recs occF.src = some (i, e) ∧ (e.occ.ty ≠ occF.ty ∨ e.occ.code ≠ occF.code ∨ e.occ.t1 + 0 < occF.t0 ∨ 65535 ≤
      e.occ.count))) := ⟨rfl, .inr ⟨0, { seq := 2, ord := 0, occ := { occF with count := 65535 } }, by decide +kernel, by decide⟩⟩

def w_Ringbook_4 : State := R0.wr (Reg.RBK_FWEV 0) 0x051F#32
theorem wit_Ringbook_4 : w_Ringbook_4.recHeld = false ∧
      (({ ty := 3, src := 32 + w_Ringbook_4.get (Fld.RBK_FWEV_SRC 0), code := w_Ringbook_4.get (Fld.RBK_FWEV_CODE 0), count := 1, t0 := w_Ringbook_4.us, ats0 := w_Ringbook_4.ang.ats, t1 := w_Ringbook_4.us, ats1 := w_Ringbook_4.ang.ats, ctx := 0x400, mode := w_Ringbook_4.get Fld.SYS_MODE_MODE, stat := 7#32, d0 := w_Ringbook_4.rd (Reg.RBK_FWEV 2), d1 := w_Ringbook_4.rd (Reg.RBK_FWEV 3), d2 := w_Ringbook_4.rd (Reg.RBK_FWEV 4) }
      : Occ)) =
      { ty := 3, src := 32 + w_Ringbook_4.get (Fld.RBK_FWEV_SRC 0), code := w_Ringbook_4.get (Fld.RBK_FWEV_CODE 0), count := 1, t0 := w_Ringbook_4.us, ats0 := w_Ringbook_4.ang.ats, t1 := w_Ringbook_4.us, ats1 := w_Ringbook_4.ang.ats, ctx := 0x400, mode := w_Ringbook_4.get Fld.SYS_MODE_MODE, stat := (7#32), d0 := w_Ringbook_4.rd (Reg.RBK_FWEV 2), d1 := w_Ringbook_4.rd (Reg.RBK_FWEV 3), d2 := w_Ringbook_4.rd (Reg.RBK_FWEV 4) }
      := ⟨by decide +kernel, rfl⟩

def w_Ringbook_5 : State := { R0 with rbk := { R0.rbk with recw := true, fifo := [occF], coal := [(32, { occF with code := 6 })] } }
theorem wit_Ringbook_5 : w_Ringbook_5.rbk.recw = true ∧ w_Ringbook_5.rbk.snap = none ∧ w_Ringbook_5.rbk.flush = none ∧
      w_Ringbook_5.rbk.fifo = [occF] ∧ w_Ringbook_5.rbk.coal = [(({ occF with code := 6 }).src, ({ occF with code := 6 }))] := by
      decide +kernel

def w_Ringbook_6 : State := R0
theorem wit_Ringbook_6 : w_Ringbook_6.rbk.recw = false := by decide +kernel

def w_Ringbook_7 : State := R0
theorem wit_Ringbook_7 : w_Ringbook_7.flag Fld.RBK_CTL_SNAP = false := by decide +kernel

def w_Ringbook_8 : State := R0.putb Fld.RBK_CTL_SNAP true
theorem wit_Ringbook_8 : w_Ringbook_8.flag Fld.RBK_CTL_SNAP = true := by decide +kernel

def w_Ringbook_9 : State := { R0 with rbk := { R0.rbk with snap := some 6 } }
theorem wit_Ringbook_9 : w_Ringbook_9.rbk.snap = some 6 := by decide +kernel

def w_Ringbook_10 : State := { R0.wr Reg.RBK_SNAPBASE 0x20000000#32 with rbk := { R0.rbk with snap := some 5 } }
theorem wit_Ringbook_10 : w_Ringbook_10.rbk.snap = some 5 ∧ 0x20000000 ≤ w_Ringbook_10.get Fld.RBK_SNAPBASE_BASE * 2 ^ 12 ∧
      w_Ringbook_10.get Fld.RBK_SNAPBASE_BASE * 2 ^ 12 + 0x10000 ≤ 0x20800000 ∧ (BitVec.ofNat 32 (leNat ((List.range 4).map (fun i => mget
      (fun _ => (0 : Byte)) w_Ringbook_10.rbk.ret.fw i)))) = BitVec.ofNat 32 (leNat ((List.range 4).map (fun i => mget (fun _ => (0 :
      Byte)) w_Ringbook_10.rbk.ret.fw i))) := ⟨by decide +kernel, by decide +kernel, by decide +kernel, rfl⟩

def w_Ringbook_11 : State := R0
theorem wit_Ringbook_11 : w_Ringbook_11.rbk.snap = none := by decide +kernel

def w_Ringbook_12 : State := R0
theorem wit_Ringbook_12 : w_Ringbook_12.rbk.flush = none := by decide +kernel

def w_Ringbook_13 : State := { R0 with rbk := { R0.rbk with flush := some { cause := 0, crit := false, recs := none } } }
theorem wit_Ringbook_13 : w_Ringbook_13.rbk.flush = some (({ cause := 0, crit := false, recs := none } : Flush)) ∧ w_Ringbook_13.rbk.again
      = none := by decide +kernel

def w_Ringbook_14 : State := { R0 with now := 2880000000000 }
theorem wit_Ringbook_14 : w_Ringbook_14.rbk.flush = none ∧ w_Ringbook_14.rbk.lastAt + w_Ringbook_14.eff Fld.RBK_CFG_PERIOD * 48000000000 ≤
      w_Ringbook_14.now := by decide +kernel

def w_Ringbook_15 : State := R0
theorem wit_Ringbook_15 : w_Ringbook_15.now < w_Ringbook_15.rbk.lastAt + w_Ringbook_15.eff Fld.RBK_CFG_PERIOD * 48000000000 := by
      decide +kernel

def w_Ringbook_16 : State := { R0 with rbk := { R0.rbk with flush := some { cause := 0, crit := false, recs := none } } }
theorem wit_Ringbook_16 : w_Ringbook_16.rbk.flush = some (({ cause := 0, crit := false, recs := none } : Flush)) ∧ w_Ringbook_16.rbk.recw
      = false ∧ w_Ringbook_16.rbk.again = none := by decide +kernel

def w_Ringbook_17 : State := { R0 with rbk := { R0.rbk with flush := some { cause := 0, crit := false, recs := none } } }
theorem wit_Ringbook_17 : w_Ringbook_17.rbk.flush = some (({ cause := 0, crit := false, recs := none } : Flush)) ∧ w_Ringbook_17.rbk.recw
      = false ∧ w_Ringbook_17.rbk.again = none ∧ 2 ≤ w_Ringbook_17.eff Fld.RBK_FLASH_SLOTS ∧ w_Ringbook_17.rbk.imgSlot < w_Ringbook_17.eff
      Fld.RBK_FLASH_SLOTS := by decide +kernel

def w_Ringbook_18 : State := { R0 with rbk := { R0.rbk with flush := some { cause := 0, crit := false, recs := none } } }
theorem wit_Ringbook_18 : w_Ringbook_18.rbk.flush = some (({ cause := 0, crit := false, recs := none } : Flush)) ∧ w_Ringbook_18.rbk.recw
      = false ∧ w_Ringbook_18.rbk.again = none := by decide +kernel

def w_Ringbook_19 : State := R0
theorem wit_Ringbook_19 : w_Ringbook_19.rbk.flush = none := by decide +kernel

def w_Ringbook_20 : State := R0.put Fld.RBK_WIN_PAGE 4
theorem wit_Ringbook_20 : 0x1E000 ≤ w_Ringbook_20.winOff 0x801D8000 ∧ w_Ringbook_20.winOff 0x801D8000 < 0x2E000 := by decide +kernel

def w_Ringbook_21 : State := R0.put Fld.RBK_WIN_PAGE 5
theorem wit_Ringbook_21 : w_Ringbook_21.winOff 0x801DE000 < 0x1E000 ∨ 0x2E000 ≤ w_Ringbook_21.winOff 0x801DE000 := by decide +kernel

def w_Ringbook_22 : State := R0.put Fld.PWR_VIN_VIN 1200
theorem wit_Ringbook_22 : w_Ringbook_22.rbk.snap = none := by decide +kernel

def w_Ringbook_23 : State := R0.put Fld.PWR_VIN_VIN 1200
theorem wit_Ringbook_23 : w_Ringbook_23.rbk.snap = none ∧ 430 < w_Ringbook_23.get Fld.PWR_VIN_VIN := by decide +kernel

def w_Ringbook_24 : State := R0
theorem wit_Ringbook_24 : w_Ringbook_24.rbk.snap = none := by decide +kernel

def w_Ringbook_25 : State := { R0 with rbk := { R0.rbk with snap := some 4 } }
theorem wit_Ringbook_25 : w_Ringbook_25.rbk.snap = some 4 ∧ (4 = 3 ∨ 4 = 4) := by
  refine ⟨?_, ?_⟩ <;> first | decide +kernel | rfl

/-! ### ModesAndSwitch -/

def w_ModesAndSwitch_1 : State := flyS
theorem wit_ModesAndSwitch_1 : ((w_ModesAndSwitch_1.put Fld.SYS_MODEREQ_REQ 6).put Fld.SYS_MODEREQ_ACT Act.b.idx).syncMode.modeGrant 6 =
      true := by decide +kernel

def w_ModesAndSwitch_2 : State := { flyS with sys := { flyS.sys with faultB := true } }
theorem wit_ModesAndSwitch_2 : w_ModesAndSwitch_2.sys.faultA = true ∨ w_ModesAndSwitch_2.sys.faultB = true ∨ w_ModesAndSwitch_2.isSN =
      true := by decide +kernel

def w_ModesAndSwitch_3 : State := R0.putb Fld.SYS_LOCK_LOCK false
theorem wit_ModesAndSwitch_3 : w_ModesAndSwitch_3.flag Fld.SPN_CTL_RUN = false ∧ w_ModesAndSwitch_3.spnState = spnStopped ∧
      w_ModesAndSwitch_3.flag Fld.SYS_LOCK_LOCK = false ∧ w_ModesAndSwitch_3.sys.switching = false := by decide +kernel

def w_ModesAndSwitch_4 : State := R0.putb Fld.SYS_LOCK_LOCK true
theorem wit_ModesAndSwitch_4 : w_ModesAndSwitch_4.flag Fld.SYS_LOCK_LOCK = true ∨ w_ModesAndSwitch_4.sys.switching = true := by
      decide +kernel

def w_ModesAndSwitch_5 : State := { R0.putb Fld.SYS_MODE_DEGLAT true with sys := { R0.sys with faultB := true } }
theorem wit_ModesAndSwitch_5 : w_ModesAndSwitch_5.flag Fld.SYS_MODE_SPLITLAT = true ∨ w_ModesAndSwitch_5.flag Fld.SYS_MODE_SWLAT = true ∨
      w_ModesAndSwitch_5.flag Fld.SYS_MODE_DEGLAT = true := by decide +kernel

def w_ModesAndSwitch_6 : State := R0
theorem wit_ModesAndSwitch_6 : w_ModesAndSwitch_6.flag Fld.SYS_MODE_SPLITLAT = false ∧ w_ModesAndSwitch_6.flag Fld.SYS_MODE_SWLAT = false
      ∧ w_ModesAndSwitch_6.flag Fld.SYS_MODE_DEGLAT = false := by decide +kernel

def w_ModesAndSwitch_7 : State := R0
theorem wit_ModesAndSwitch_7 : w_ModesAndSwitch_7.sys.imageVerified = false := by decide +kernel

def w_ModesAndSwitch_8 : State := { flyS with sys := { flyS.sys with imageVerified := true } }
theorem wit_ModesAndSwitch_8 : w_ModesAndSwitch_8.sys.imageVerified = true ∧ w_ModesAndSwitch_8.sys.switching = false ∧
      w_ModesAndSwitch_8.get Fld.SYS_MODE_MODE ≠ 0xC ∧ w_ModesAndSwitch_8.get Fld.SYS_MODE_MODE ≠ 9 ∧ w_ModesAndSwitch_8.get
      Fld.SYS_MODE_MODE ≠ 0xA := by decide +kernel

def w_ModesAndSwitch_9 : State := { flyS with sys := { flyS.sys with imageVerified := true } }
theorem wit_ModesAndSwitch_9 : w_ModesAndSwitch_9.sys.imageVerified = true ∧ w_ModesAndSwitch_9.sys.switching = false ∧
      w_ModesAndSwitch_9.get Fld.SYS_MODE_MODE ≠ 0xC ∧ w_ModesAndSwitch_9.get Fld.SYS_MODE_MODE ≠ 9 ∧ w_ModesAndSwitch_9.get
      Fld.SYS_MODE_MODE ≠ 0xA := by decide +kernel

def w_ModesAndSwitch_10 : State := { R0.putb Fld.ANG_STAT_VALID true with ang := { R0.ang with ats := 2 ^ 48 - 1 } }
theorem wit_ModesAndSwitch_10 : w_ModesAndSwitch_10.flag Fld.ANG_STAT_VALID = true := by decide +kernel

def w_ModesAndSwitch_11 : State := { R0.putb Fld.ANG_STAT_VALID true with ang := { R0.ang with pendWedges := some 300 } }
theorem wit_ModesAndSwitch_11 : w_ModesAndSwitch_11.flag Fld.ANG_STAT_VALID = true ∧ w_ModesAndSwitch_11.ang.pendWedges = some 300 := by
      decide +kernel

def w_ModesAndSwitch_12 : State := R0
theorem wit_ModesAndSwitch_12 : w_ModesAndSwitch_12.flag Fld.ANG_STAT_VALID = false := by decide +kernel

def w_ModesAndSwitch_13 : State := { flyS with sys := { flyS.sys with active := true, idleAt := some 0 }, now := 13333334 }
theorem wit_ModesAndSwitch_13 : w_ModesAndSwitch_13.sys.active = true ∧ w_ModesAndSwitch_13.sys.idleAt = some 0 ∧ 0 + 120 * 800000000 /
      max 1 (w_ModesAndSwitch_13.eff Fld.SPN_TARGET_RPM) ≤ w_ModesAndSwitch_13.now ∧ w_ModesAndSwitch_13.msqA.running = none ∧
      w_ModesAndSwitch_13.msqB.running = none := by decide +kernel

def w_ModesAndSwitch_14 : State := { flyS with sys := { flyS.sys with active := true, idleAt := some 0 }, now := 13333334 }
theorem wit_ModesAndSwitch_14 : w_ModesAndSwitch_14.sys.active = true ∧ w_ModesAndSwitch_14.sys.idleAt = some 0 ∧ 0 + 120 * 800000000 /
      max 1 (w_ModesAndSwitch_14.eff Fld.SPN_TARGET_RPM) ≤ w_ModesAndSwitch_14.now ∧ w_ModesAndSwitch_14.msqA.running = none ∧
      w_ModesAndSwitch_14.msqB.running = none ∧ w_ModesAndSwitch_14.flag Fld.SPN_CTL_RUN = true ∧ w_ModesAndSwitch_14.spnHold = false ∧
      w_ModesAndSwitch_14.spn.pinStop = false ∧ w_ModesAndSwitch_14.sys.inregSince = true ∧ w_ModesAndSwitch_14.loaded .a = true ∧
      w_ModesAndSwitch_14.sys.cooldown = false ∧ w_ModesAndSwitch_14.sys.retract = false ∧ w_ModesAndSwitch_14.sys.switching = false ∧
      w_ModesAndSwitch_14.flag Fld.SYS_MODE_SWLAT = false ∧ w_ModesAndSwitch_14.flag Fld.SYS_MODE_DEGLAT = false ∧
      w_ModesAndSwitch_14.flag Fld.SYS_MODE_SPLITLAT = false ∧ w_ModesAndSwitch_14.get Fld.SYS_MODE_MODE = 5 := by decide +kernel

def w_ModesAndSwitch_15 : State := { flyS with sys := { flyS.sys with active := true, idleAt := some 0 }, now := 13333332 }
theorem wit_ModesAndSwitch_15 : w_ModesAndSwitch_15.sys.idleAt = some 0 ∧ w_ModesAndSwitch_15.now < 0 + 120 * 800000000 / max 1
      (w_ModesAndSwitch_15.eff Fld.SPN_TARGET_RPM) := by decide +kernel

/-! ### LateEvents -/

def w_LateEvents_1 : State := { R0.setLa .a { R0.la .a with ocPause := true } with now := 8000 }
theorem wit_LateEvents_1 : (w_LateEvents_1.la Act.a).ocPause = true ∧ (w_LateEvents_1.la Act.a).ocAt.getD 0 + 8000 ≤ w_LateEvents_1.now ∧
      w_LateEvents_1.actOk Act.a = true ∧ w_LateEvents_1.flag (drvOff Act.a) = false := by decide +kernel

def w_LateEvents_2 : State := R0
theorem wit_LateEvents_2 : (w_LateEvents_2.la Act.b).ocPause = false := by decide +kernel

def w_LateEvents_4 : State := R0.put Fld.PWR_STAT_RETPH 1
theorem wit_LateEvents_4 : w_LateEvents_4.retph = 1 ∧ w_LateEvents_4.flag Fld.PWR_STAT_UVHOLD = false ∧ 100 * 890 < 90 *
      w_LateEvents_4.vbus ∧ w_LateEvents_4.actOk .a = true ∧ w_LateEvents_4.actOk .b = true := by decide +kernel

def w_LateEvents_5 : State := R0
theorem wit_LateEvents_5 : w_LateEvents_5.retph ≠ 1 ∨ w_LateEvents_5.flag Fld.PWR_STAT_UVHOLD = true ∨ (90 * w_LateEvents_5.vbus ≤ 100 *
      900 ∧ 100 * 900 ≤ 110 * w_LateEvents_5.vbus) := by decide +kernel

def w_LateEvents_6 : State := (R0.put Fld.PWR_STAT_RETPH 1).putb Fld.PWR_STAT_UVHOLD true
theorem wit_LateEvents_6 : w_LateEvents_6.retph = 1 ∧ w_LateEvents_6.flag Fld.PWR_STAT_UVHOLD = true ∧ 95 * w_LateEvents_6.vbus ≤ 100 *
      1000 ∧ 100 * 1000 ≤ 105 * w_LateEvents_6.vbus := by decide +kernel

def w_LateEvents_7 : State := R0
theorem wit_LateEvents_7 : w_LateEvents_7.retph ≠ 1 ∨ w_LateEvents_7.flag Fld.PWR_STAT_UVHOLD = false := by decide +kernel

def w_LateEvents_8 : State := { R0 with pwr := { R0.pwr with bor := true } }
theorem wit_LateEvents_8 : w_LateEvents_8.pwr.bor = true ∧ w_LateEvents_8.pwr.brakeBor = false := by decide +kernel

def w_LateEvents_9 : State := R0
theorem wit_LateEvents_9 : w_LateEvents_9.pwr.bor = false ∨ w_LateEvents_9.pwr.brakeBor = true := by decide +kernel

def w_LateEvents_10 : State :=
      { R0.wr Reg.BUF_POOL 0x00050000#32 with ccx := { R0.ccx with ctxs := [(3, { ctx0 with write := true, len := 1 })] }, buf := { R0.buf with resv := [mkResv 3 0 1 false] } }
theorem wit_LateEvents_10 : w_LateEvents_10.ctx 3 = some ({ ctx0 with write := true, len := 1 }) ∧ w_LateEvents_10.resvOf 3 = some (mkResv
      3 0 1 false) ∧ ({ ctx0 with write := true, len := 1 }).st = 2 ∧ (mkResv 3 0 1 false).win false <
      ({ ctx0 with write := true, len := 1 }).len ∧ ({ ctx0 with write := true, len := 1 }).write = true ∧ (mkResv 3 0 1 false).full false
      ({ ctx0 with write := true, len := 1 }).len = false ∧ ({ ctx0 with write := true, len := 1 }).kind ≠ 2 ∧
      ({ ctx0 with write := true, len := 1 }).caching = false ∧ w_LateEvents_10.posWord 3 ((mkResv 3 0 1 false).win false) = some 0 ∧
      w_LateEvents_10.piWord 3 ((mkResv 3 0 1 false).win false) = some 655360 ∧ ([5#64]) = (5#64) :: ([]) ∧ (w_LateEvents_10.msq .a).work
      = [] ∧ (w_LateEvents_10.msq .a).wait = none ∧ (w_LateEvents_10.msq .b).work = [] ∧ (w_LateEvents_10.msq .b).wait = none := by
  refine ⟨?_, ?_, ?_, ?_, ?_, ?_, ?_, ?_, ?_, ?_, ?_, ?_, ?_, ?_, ?_⟩ <;> first | decide +kernel | rfl

def w_LateEvents_11 : State :=
      { R0.wr Reg.BUF_POOL 0x00050000#32 with ccx := { R0.ccx with ctxs := [(3, { ctx0 with len := 1 })] }, buf := { R0.buf with resv := [{ mkResv 3 0 1 false with filled := [0], pub := 1 }] }, mem := { R0.mem with dram := (List.range 512).map (fun k => (k, .word (encodeWord 0))) } }
theorem wit_LateEvents_11 : w_LateEvents_11.ctx 3 = some ({ ctx0 with len := 1 }) ∧ w_LateEvents_11.resvOf 3 = some
      ({ mkResv 3 0 1 false with filled := [0], pub := 1 }) ∧ ({ ctx0 with len := 1 }).st = 2 ∧ ({ ctx0 with len := 1 }).write = false ∧
      ({ mkResv 3 0 1 false with filled := [0], pub := 1 }).published false ({ ctx0 with len := 1 }).len = true ∧
      ({ mkResv 3 0 1 false with filled := [0], pub := 1 }).held false = false ∧ ({ ctx0 with len := 1 }).kind ≠ 2 ∧
      w_LateEvents_11.posWord 3 (({ mkResv 3 0 1 false with filled := [0], pub := 1 }).win false) = some 0 ∧ (State.readWords (min 256
      (({ ctx0 with len := 1 }).len - ({ mkResv 3 0 1 false with filled := [0], pub := 1 }).win false) * 512) 0 w_LateEvents_11).1 = false
      ∧ ({ mkResv 3 0 1 false with filled := [0], pub := 1 }).zeroFrom = none ∧ ({ mkResv 3 0 1 false with filled := [0], pub := 1 }).bad
      = [] ∧ (w_LateEvents_11.msq .a).work = [] ∧ (w_LateEvents_11.msq .a).wait = none ∧ (w_LateEvents_11.msq .b).work = [] ∧
      (w_LateEvents_11.msq .b).wait = none := by decide +kernel

def w_LateEvents_12 : State := R0
theorem wit_LateEvents_12 : w_LateEvents_12.ctx 3 = none ∨ w_LateEvents_12.resvOf 3 = none := by decide +kernel

def w_LateEvents_13 : State := { R0 with pins := { R0.pins with hifsel := true } }
theorem wit_LateEvents_13 : w_LateEvents_13.pcieMode = true ∧ 1 ≤ 5 ∧ (2 = 1 ∨ 2 = 2) := by
  refine ⟨?_, ?_, ?_⟩ <;> first | decide +kernel | rfl

def w_LateEvents_14 : State := { R0 with pins := { R0.pins with hifsel := true } }
theorem wit_LateEvents_14 : w_LateEvents_14.pcieMode = true := by decide +kernel

def w_LateEvents_15 : State := R0.putb Fld.SAS_CFG_ENA true
theorem wit_LateEvents_15 : w_LateEvents_15.pcieMode = false ∧ w_LateEvents_15.flag Fld.SAS_CFG_ENA = true ∧ 3 < 4 := by decide +kernel

def w_LateEvents_16 : State := R0
theorem wit_LateEvents_16 : w_LateEvents_16.pcieMode = false ∧ w_LateEvents_16.flag Fld.SAS_CFG_ENB = false := by decide +kernel

def w_LateEvents_18 : State := { R0 with pins := { R0.pins with hifsel := true } }
theorem wit_LateEvents_18 : w_LateEvents_18.pcieMode = true ∧ w_LateEvents_18.host.ccEnAt = none := by decide +kernel

def w_LateEvents_19 : State := R0
theorem wit_LateEvents_19 : w_LateEvents_19.pcieMode = false := by decide +kernel

def w_LateEvents_20 : State := R0
theorem wit_LateEvents_20 : w_LateEvents_20.actOk .a = true := by decide +kernel

def w_LateEvents_21 : State := { (R0.put Fld.HWD_STAT_DBGLVL 1).putb Fld.DBG_UARTCFG_EN true with dbg := { R0.dbg with tx := [5#8] } }
theorem wit_LateEvents_21 : w_LateEvents_21.dbg.tx = [(5#8)] ∧ w_LateEvents_21.flag Fld.DBG_UARTCFG_EN = true ∧ 1 ≤ w_LateEvents_21.get
      Fld.HWD_STAT_DBGLVL := by decide +kernel

def w_LateEvents_22 : State :=
      { (R0.put Fld.HWD_STAT_DBGLVL 1).putb Fld.DBG_UARTCFG_EN true with dbg := { R0.dbg with tx := [5#8, 6#8] } }
theorem wit_LateEvents_22 : w_LateEvents_22.dbg.tx = (5#8) :: (6#8) :: ([]) ∧ w_LateEvents_22.flag Fld.DBG_UARTCFG_EN = true ∧ 1 ≤
      w_LateEvents_22.get Fld.HWD_STAT_DBGLVL := by decide +kernel

def w_LateEvents_23 : State := R0.put Fld.HWD_STAT_DBGLVL 2
theorem wit_LateEvents_23 : w_LateEvents_23.get Fld.HWD_STAT_DBGLVL = 2 ∧ w_LateEvents_23.apc.halt0 = false := by decide +kernel

def w_LateEvents_24 : State :=
      { R0.put Fld.HWD_STAT_DBGLVL 2 with now := 900, apc := { R0.apc with halt1 := true, wd1 := { R0.apc.wd1 with paused := some 7 } } }
theorem wit_LateEvents_24 : w_LateEvents_24.get Fld.HWD_STAT_DBGLVL = 2 ∧ w_LateEvents_24.apc.halt1 = true ∧
      w_LateEvents_24.apc.wd1.paused = some 7 := by decide +kernel

def w_LateEvents_25 : State := R0
theorem wit_LateEvents_25 : w_LateEvents_25.get Fld.HWD_STAT_DBGLVL ≠ 2 := by decide +kernel

end Sys2Proof.Tests
end

section
/-!
PROOFS. The resets (R760 to R765, R228). The statement has an ACTUATOR reset leave the FAULT latch of its actuator at 0 in every state;
the ESC_N-th counted one within ESC_WIN escalates, and the escalation latches FAULT again (R228, R758).
-/
namespace Sys2Proof.Proofs

open Sys2Proof.Machine

/-- ACTUATOR_RESET always answers, with the reset carried out. -/
theorem exec_actuatorReset (s : State) (x : Act) (svc : Bool) : exec (.actuatorReset x svc) s = .next (s.actuatorReset x svc) := rfl

/-- Actuator A exists on every variant (R7). -/
theorem actOk_a (s : State) : s.actOk .a = true := by
  simp [State.actOk]

/-- The drive after two ACTUATOR resets of actuator A from reset. Both lie within ESC_WIN, and ESC_N has its Reset value, 3, so that the
next one escalates (R225). -/
def twoActResets : State := (State.reset.actuatorReset .a false).actuatorReset .a false

/-- The third reset escalates: it clears the FAULT latch and then sets it (R228, R758). -/
theorem twoActResets_actuatorReset_faulted : (twoActResets.actuatorReset .a false).faulted .a = true := by
  decide +kernel

/-- Refutes O38: the third ACTUATOR reset of actuator A within ESC_WIN escalates (R228) and leaves A in FAULT, where the clause of the
ACTUATOR reset has it not in FAULT. -/
theorem not_resets : ¬ Obligations.Resets := by
  unfold Obligations.Resets
  rintro ⟨-, -, -, -, -, -, -, -, -, -, actuatorClause, -⟩
  obtain ⟨t, answer, -, -, -, -, -, notFaulted, -⟩ := actuatorClause twoActResets .a false (actOk_a _)
  rw [exec_actuatorReset, Host.Outcome.next.injEq] at answer
  rw [← answer, twoActResets_actuatorReset_faulted] at notFaulted
  exact absurd notFaulted (by decide)

end Sys2Proof.Proofs
end

section
/-!
PROOFS. Frames of the shared operations that events, the spindle, the modes and a squash are made of, step by step.
-/
namespace Sys2Proof.Proofs

open Sys2Proof.Machine Sys2Proof.Safety Sys2Proof.Laws

/-! ### One more update inside a frame -/

section
variable {P : List Part} {R : List Field} {s t : State}

theorem keeps_put {f : Field} {v : Nat} (w : within P R [] [f] = true) (h : Keeps P R s t) : Keeps P R s (t.put f v) :=
  keeps_via (State_put_keeps t f v) w h

theorem keeps_putb {f : Field} {b : Bool} (w : within P R [] [f] = true) (h : Keeps P R s t) : Keeps P R s (t.putb f b) :=
  keeps_via (State_putb_keeps t f b) w h

theorem keeps_bump {f : Field} {n : Nat} (w : within P R [] [f] = true) (h : Keeps P R s t) : Keeps P R s (t.bump f n) :=
  keeps_via (State_bump_keeps t f n) w h

theorem keeps_wr {a : Nat} {v : Word} (w : within P R [] [⟨a, 0, 32⟩] = true) (h : Keeps P R s t) : Keeps P R s (t.wr a v) :=
  keeps_via (State_wr_keeps t a v) w h

theorem keeps_setMsq {x : Act} {m : Msq} (w : within P R [.msq] [] = true) (h : Keeps P R s t) : Keeps P R s (t.setMsq x m) := by
  cases x
  · exact keeps_set_msqA w h
  · exact keeps_set_msqB w h

theorem keeps_setWrp {x : Act} {v : WrpSt} (w : within P R [.wrp] [] = true) (h : Keeps P R s t) : Keeps P R s (t.setWrp x v) := by
  cases x
  · exact keeps_set_wrpA w h
  · exact keeps_set_wrpB w h

theorem keeps_setPlk {x : Act} {v : PlkSt} (w : within P R [.plk] [] = true) (h : Keeps P R s t) : Keeps P R s (t.setPlk x v) := by
  cases x
  · exact keeps_set_plkA w h
  · exact keeps_set_plkB w h

theorem keeps_setLa {x : Act} {v : LpeAct} (w : within P R [.lpe] [] = true) (h : Keeps P R s t) : Keeps P R s (t.setLa x v) := by
  cases x <;> exact keeps_set_lpe w h

theorem keeps_setCmps {x : Act} {c : List (Nat × Cmp)} (w : within P R [.ang] [] = true) (h : Keeps P R s t) :
    Keeps P R s (t.setCmps x c) := by
  cases x <;> exact keeps_set_ang w h

theorem keeps_setLoaded {x : Act} {b : Bool} (w : within P R [.sys] [] = true) (h : Keeps P R s t) :
    Keeps P R s (t.setLoaded x b) := by
  cases x <;> exact keeps_set_sys w h

theorem keeps_setCh {n : Chan} {c : ChanSt} (w : within P R [.ch] [] = true) (h : Keeps P R s t) : Keeps P R s (t.setCh n c) := by
  induction n using chan_cases with
  | h0 => exact keeps_set_ch0 w h
  | h1 => exact keeps_set_ch1 w h
  | h2 => exact keeps_set_ch2 w h
  | h3 => exact keeps_set_ch3 w h

/-- A sequencer is as it was where the frame leaves both alone. -/
theorem keeps_msq (k : Keeps P R s t) (h : Part.msq ∉ P) (x : Act) : t.msq x = s.msq x := by
  obtain ⟨ha, hb⟩ := k.part .msq (by decide) h
  cases x
  · exact ha
  · exact hb

/-- A part is as it was outside the frame. -/
theorem keeps_d2d (k : Keeps P R s t) (h : Part.d2d ∉ P) : t.d2d = s.d2d := k.part .d2d (by decide) h

theorem keeps_pins (k : Keeps P R s t) (h : Part.pins ∉ P) : t.pins = s.pins := k.part .pins (by decide) h

end

/-! ### Events (R737 to R743) -/

theorem recordOcc_keeps (s : State) (o : Occ) : Keeps [.rbk] recFields s (s.recordOcc o) := by
  unfold State.recordOcc
  split
  · split
    · exact keeps_set_rbk (by decide) (keeps_refl _ _ _)
    · exact keeps_set_rbk (by decide) (keeps_putb (by decide) (keeps_set_rbk (by decide) (keeps_refl _ _ _)))
  · exact keeps_set_rbk (by decide) (keeps_refl _ _ _)

theorem beginFlush_keeps (s : State) (cause : Nat) : Keeps [.rbk] recFields s (s.beginFlush cause) :=
  keeps_putb (by decide) (keeps_set_rbk (by decide) (keeps_refl _ _ _))

theorem startFlush_keeps (s : State) (cause : Nat) : Keeps [.rbk] recFields s (s.startFlush cause) := by
  unfold State.startFlush
  split
  · exact beginFlush_keeps s cause
  · split
    · exact keeps_trans (keeps_set_rbk (by decide) (keeps_refl _ _ _)) (beginFlush_keeps _ 1)
    · exact keeps_set_rbk (by decide) (keeps_refl _ _ _)

theorem occur_keeps (s : State) (ty src code : Nat) : Keeps [.rbk] recFields s (s.occur ty src code) := by
  have recorded := recordOcc_keeps s (s.occNow ty src code (s.view (statAddr src)) 0 0 0)
  exact keeps_ite (keeps_trans recorded (startFlush_keeps _ 0)) recorded

/-- An event writes its own bit and what recording it writes. -/
theorem raise_keeps (s : State) (f : Field) : Keeps [.rbk] (f :: recFields) s (s.raise f) :=
  keeps_via (occur_keeps _ _ _ _) (within_cons (by decide)) (keeps_mono (State_putb_keeps s f true)
    (within_cons_cons (R := recFields) (R1 := []) (by decide)))

theorem keeps_raise {P : List Part} {R : List Field} {s t : State} {f : Field} (w : within P R [.rbk] (f :: recFields) = true)
    (h : Keeps P R s t) : Keeps P R s (t.raise f) :=
  keeps_via (raise_keeps t f) w h

/-- The bit of an event that has been raised reads 1. -/
theorem flag_raise (s : State) (f : Field) (fits : Fits f = true) (one : f.len = 1)
    (apart : recFields.all (fun g => Apart g f) = true) : (s.raise f).flag f = true :=
  (keeps_flag (occur_keeps _ _ _ _) f (by decide) apart).trans (flag_putb s f true fits one)

theorem keeps_count {P : List Part} {R : List Field} {s t : State} {i n : Nat} (w : within P R [.rbk] [] = true)
    (h : Keeps P R s t) : Keeps P R s (t.count i n) := by
  unfold State.count
  exact keeps_ite (keeps_set_rbk w h) (keeps_set_rbk w h)

/-! ### The spindle (R435 to R472, R715, R750) -/

/-- The fields that entering a state of SPN writes. -/
def spnEnterFields : List Field :=
  [Fld.SPN_STAT_STATE, Fld.SPN_STAT_DRIVING, Fld.SPN_STAT_REST, Fld.SPN_STAT_SRVCOM, Fld.SPN_STAT_LEVEL, Fld.SPN_STAT_BEMFOK]

theorem spnEnter_keeps (s : State) (k : Nat) : Keeps [.spn] spnEnterFields s (s.spnEnter k) := by
  unfold State.spnEnter
  extract_lets s1 s2 s3 s4 none_ s5 p p1
  have h1 : Keeps [.spn] spnEnterFields s s1 := keeps_putb (by decide) (keeps_put (by decide) (keeps_refl _ _ _))
  have h2 : Keeps [.spn] spnEnterFields s s2 := keeps_ite h1 (keeps_putb (by decide) h1)
  have h3 : Keeps [.spn] spnEnterFields s s3 := keeps_ite h2 (keeps_putb (by decide) h2)
  have h4 : Keeps [.spn] spnEnterFields s s4 :=
    keeps_ite (keeps_putb (by decide) h3) (keeps_ite h3 (keeps_putb (by decide) h3))
  have h5 : Keeps [.spn] spnEnterFields s s5 := keeps_ite (keeps_putb (by decide) h4) h4
  exact keeps_set_spn (by decide) h5

theorem keeps_spnEnter {P : List Part} {R : List Field} {s t : State} {k : Nat} (w : within P R [.spn] spnEnterFields = true)
    (h : Keeps P R s t) : Keeps P R s (t.spnEnter k) :=
  keeps_via (spnEnter_keeps t k) w h

/-- The parts that a change of the spindle or the mode may touch. -/
def modeParts : List Part := [.rbk, .spn, .sys, .vale, .wrp]

theorem stopNow_keeps (s : State) : Keeps [.spn] spnEnterFields s s.stopNow := by
  unfold State.stopNow
  extract_lets k fast t
  have same : Keeps [.spn] spnEnterFields s s := keeps_refl _ _ _
  have short : Keeps [.spn] spnEnterFields s (s.spnEnter spnShort) := spnEnter_keeps s _
  exact keeps_ite (keeps_ite (keeps_set_spn (by decide) (spnEnter_keeps s _)) short)
    (keeps_ite (keeps_ite same short) (keeps_ite (keeps_ite same short) (keeps_ite short same)))

theorem runClear_keeps (s : State) : Keeps modeParts spnFields s s.runClear := by
  unfold State.runClear
  extract_lets s1 spn s2
  have h2 : Keeps modeParts spnFields s s2 :=
    keeps_set_spn (by decide) (keeps_putb (by decide) (keeps_putb (by decide) (keeps_refl _ _ _)))
  exact keeps_ite h2 (keeps_via (stopNow_keeps s2) (by decide) h2)

theorem refDrop_keeps (s : State) : Keeps modeParts spnFields s s.refDrop := by
  unfold State.refDrop
  extract_lets s1
  have h1 : Keeps modeParts spnFields s s1 :=
    keeps_putb (by decide) (keeps_wr (by decide) (keeps_putb (by decide) (keeps_refl _ _ _)))
  exact keeps_ite (keeps_raise (by decide) (keeps_set_vale (by decide) h1)) (keeps_refl _ _ _)

theorem refCheck_keeps (s : State) : Keeps modeParts spnFields s s.refCheck :=
  keeps_ite (keeps_refl _ _ _) (refDrop_keeps s)

theorem spnCheck_keeps (s : State) : Keeps modeParts spnFields s s.spnCheck := by
  unfold State.spnCheck
  extract_lets s1
  have h1 : Keeps modeParts spnFields s s1 :=
    keeps_trans (keeps_ite (runClear_keeps s) (keeps_refl _ _ _)) (refCheck_keeps _)
  exact keeps_ite (keeps_via (stopNow_keeps s1) (by decide) h1) h1

/-- The fields that a start of the spindle writes beside entering its state. -/
def startNowFields : List Field := spnEnterFields ++ [Fld.SPN_STAT_INREG, Fld.SPN_CNT2_STARTS]

theorem startNow_keeps (s : State) : Keeps [.spn, .sys] startNowFields s s.startNow := by
  unfold State.startNow
  extract_lets s1
  have h1 : Keeps [.spn, .sys] startNowFields s s1 :=
    keeps_spnEnter (by decide) (keeps_putb (by decide) (keeps_bump (by decide) (keeps_refl _ _ _)))
  exact keeps_set_spn_sys (by decide) (keeps_putb (by decide) h1)

theorem startDecision_keeps (s : State) (deferrable : Bool) :
    Keeps [.spn, .sys, .vale] startNowFields s (s.startDecision deferrable) :=
  keeps_ite (keeps_refl _ _ _) (keeps_ite (keeps_set_spn_sys_vale (by decide) (keeps_refl _ _ _))
    (keeps_mono (startNow_keeps s) (by decide)))

/-! ### The mode (R748 to R754) -/

theorem keeps_runWatch {P : List Part} {R : List Field} {s t : State} (w : within P R [.sys] [] = true) (h : Keeps P R s t) :
    Keeps P R s t.runWatch := by
  unfold State.runWatch
  split
  · exact keeps_set_sys w h
  · split
    · exact h
    · exact keeps_set_sys w h

theorem keeps_lasersOff {P : List Part} {R : List Field} {s t : State} {x : Act} (w : within P R [.wrp] [] = true)
    (h : Keeps P R s t) : Keeps P R s (t.lasersOff x) :=
  keeps_setWrp w h

theorem syncMode_keeps (s : State) : Keeps modeParts modeFields s s.syncMode := by
  unfold State.syncMode
  extract_lets s0 old new s1 s2
  have h0 : Keeps modeParts modeFields s s0 := keeps_runWatch (by decide) (keeps_mono (spnCheck_keeps s) (by decide))
  have h1 : Keeps modeParts modeFields s s1 := keeps_raise (by decide) (keeps_put (by decide) (keeps_put (by decide) h0))
  have h2 : Keeps modeParts modeFields s s2 := keeps_ite (keeps_lasersOff (by decide) (keeps_lasersOff (by decide) h1)) h1
  exact keeps_ite h0 (keeps_ite (keeps_put (by decide) h2) h2)

end Sys2Proof.Proofs
end

section
/-!
PROOFS. Frames of a squash (R203, R213, R214, R228), of a Write Guard trip (R329 to R337) and of a retract (R422). What microroutines
wrote goes back at one place of a squash (R221), so a trip is given as: a frame, perhaps the notes put back, and a frame again.
-/
namespace Sys2Proof.Proofs

open Sys2Proof.Machine Sys2Proof.Safety Sys2Proof.Laws

/-! ### Torn records and gates (R336 to R338) -/

/-- The fields that torn records write (R338). -/
def tornFields (x : Act) : List Field :=
  recFields ++ [Fld.MSQ_SQCNT_TORN x, Fld.WRP_EV_TORN x, Fld.WRP_EV_TORNOVF x]

theorem pushTorn_keeps (s : State) (x : Act) (r : Rec4) : Keeps [.rbk, .wrp] (tornFields x) s (s.pushTorn x r) := by
  have counted : Keeps [.rbk, .wrp] (tornFields x) s (s.bump (Fld.MSQ_SQCNT_TORN x) 1) :=
    keeps_bump (by cases x <;> decide) (keeps_refl _ _ _)
  exact keeps_ite (keeps_raise (by cases x <;> decide) (keeps_setWrp (within_nil rfl) counted))
    (keeps_raise (by cases x <;> decide) counted)

/-- The sector of each channel is named by an opaque function: with it written out the kernel would evaluate its arithmetic. -/
theorem tear_keeps (s : State) (x : Act) (cause : Nat) (neg : Bool) : Keeps [.rbk, .wrp] (tornFields x) s (s.tear x cause neg) := by
  unfold State.tear
  extract_lets one
  have onChannel (second : Bool) (t : State) : Keeps [.rbk, .wrp] (tornFields x) t (one second t) := by
    refine keeps_ite ?_ (keeps_refl _ _ _)
    obtain ⟨place, hplace⟩ : ∃ p, t.placeNow x second = p := ⟨_, rfl⟩
    rw [hplace]
    split
    · split
      · exact pushTorn_keeps t x _
      · exact keeps_refl _ _ _
    · exact keeps_refl _ _ _
  exact keeps_trans (onChannel false s) (onChannel true _)

theorem keeps_gatesLow {P : List Part} {R : List Field} {s t : State} {x : Act} (w : within P R [.wrp] [] = true)
    (h : Keeps P R s t) : Keeps P R s (t.gatesLow x) :=
  keeps_setWrp w h

theorem hardStop_keeps (s : State) (x : Act) : Keeps [.rbk, .wrp] (tornFields x) s (s.hardStop x) :=
  keeps_gatesLow (within_nil rfl) (tear_keeps s x 0 false)

/-! ### The frame of a trip, notes apart -/

/-- The parts that a trip touches. -/
def tripParts : List Part := [.ang, .ch, .lpe, .mem, .msq, .plk, .rbk, .sys, .vale, .wrp]

/-- The fields that a trip of an actuator's Write Guard and its squash write of their own, beside those that notes put back. -/
def guardOwn (x : Act) : List Field :=
  tornFields x ++ [Fld.THM_STAT_BANDA, Fld.THM_STAT_BANDB, Fld.MSQ_CTL_HOLD x, Fld.MSQ_ESC_PEND x, Fld.MSQ_ESC_SLOT x,
    Fld.MSQ_EV_HOLD x, Fld.MSQ_EV_SQUASH x, Fld.MSQ_SQCAUSE_CAUSE x, Fld.MSQ_SQCNT_SQUASH x, Fld.MSQ_SQLAST_CAUSE x,
    Fld.MSQ_SQLAST_SLOT x, Fld.WRP_EV_WGTRIP x, Fld.WRP_WGLAST_CAUSE x, Fld.WRP_WGLAST_TRIPS x]

/-- A part of a trip of actuator x: within the trip's frame, and the other actuator's sequencer is as it was. -/
structure TripFrame (x : Act) (s t : State) : Prop where
  keeps : Keeps tripParts (guardOwn x) s t
  other : t.msq x.other = s.msq x.other

namespace TripFrame

variable {x : Act} {s t u : State}

theorem refl (x : Act) (s : State) : TripFrame x s s := ⟨keeps_refl _ _ _, rfl⟩

theorem trans (h : TripFrame x s t) (k : TripFrame x t u) : TripFrame x s u :=
  ⟨keeps_trans h.keeps k.keeps, k.other.trans h.other⟩

/-- What leaves both sequencers alone. -/
theorem of_keeps {P : List Part} {R : List Field} (k : Keeps P R s t) (w : within tripParts (guardOwn x) P R = true)
    (h : Part.msq ∉ P) : TripFrame x s t :=
  ⟨keeps_mono k w, keeps_msq k h _⟩

theorem setMsq (s : State) (x : Act) (m : Msq) : TripFrame x s (s.setMsq x m) :=
  ⟨keeps_setMsq (within_nil rfl) (keeps_refl _ _ _), msq_setMsq_other s x m⟩

theorem ite {c : Prop} [Decidable c] (h : TripFrame x s t) (k : TripFrame x s u) : TripFrame x s (if c then t else u) := by
  split <;> assumption

end TripFrame

/-! ### The track-level escalation (R225, R228) -/

theorem keeps_holdEvent {P : List Part} {R : List Field} {s t : State} {x : Act}
    (w : within P R [.rbk] (Fld.MSQ_EV_HOLD x :: recFields) = true) (h : Keeps P R s t) : Keeps P R s (t.holdEvent x) :=
  keeps_ite (keeps_raise w h) h

theorem setHold_keeps (s : State) (x : Act) : Keeps [.rbk] (guardOwn x) s (s.setHold x) :=
  keeps_holdEvent (by cases x <;> decide) (keeps_putb (by cases x <;> decide) (keeps_refl _ _ _))

theorem takeBand_keeps (s : State) (x : Act) : Keeps [] [Fld.THM_STAT_BANDA, Fld.THM_STAT_BANDB] s (s.takeBand x) := by
  cases x <;> exact keeps_put (by decide) (keeps_refl _ _ _)

theorem trackEscalate_frame (s : State) (x : Act) (k : Nat) : TripFrame x s (s.trackEscalate x k) := by
  have slot : TripFrame x s _ := TripFrame.setMsq s x { (s.msq x).setSlot k { (s.msq x).slot k with st := .ready } with
    sqWait := false, sqCauses := 0, counted := [], escAt := some s.now }
  have marks (t : State) : Keeps [.rbk, .sys] (guardOwn x) t
      (((t.put (Fld.MSQ_ESC_SLOT x) k).putb (Fld.MSQ_ESC_PEND x) true).runWatch.setHold x) :=
    keeps_via (setHold_keeps _ x) (by cases x <;> decide) (keeps_runWatch (within_nil rfl)
      (keeps_putb (by cases x <;> decide) (keeps_put (by cases x <;> decide) (keeps_refl _ _ _))))
  exact slot.trans (TripFrame.of_keeps (keeps_via (takeBand_keeps _ x) (by cases x <;> decide) (marks _))
    (by cases x <;> decide) (by decide))

theorem trackCount_frame (s : State) (x : Act) : TripFrame x s (s.trackCount x) := TripFrame.setMsq s x _

/-- The escalation that a squash leaves due is carried out at its end. -/
theorem escDue_frame (s : State) (x : Act) (k : Nat) :
    TripFrame x s (if (s.msq x).escDue then (s.setMsq x { s.msq x with escDue := false }).trackEscalate x k else s) :=
  ((TripFrame.setMsq s x _).trans (trackEscalate_frame _ x k)).ite (TripFrame.refl x s)

/-! ### A squash (R213, R214) -/

theorem sqRecord_keeps (s : State) (x : Act) (k causes : Nat) (join : Bool) : Keeps [] (guardOwn x) s (s.sqRecord x k causes join) :=
  keeps_put (by cases x <;> decide) (keeps_put (by cases x <;> decide) (keeps_put (by cases x <;> decide) (keeps_refl _ _ _)))

theorem sqJoin_frame (s : State) (x : Act) (k causes : Nat) (counts : Bool) : TripFrame x s (s.sqJoin x k causes counts) := by
  unfold State.sqJoin
  extract_lets m s1 s2
  have h1 : TripFrame x s s1 := (TripFrame.setMsq s x _).trans
    (TripFrame.of_keeps (sqRecord_keeps _ x k causes true) (by cases x <;> decide) (by decide))
  have h2 : TripFrame x s s2 := (h1.trans (trackCount_frame s1 x)).ite h1
  exact h2.trans (escDue_frame s2 x k)

theorem keeps_abandonChannels {P : List Part} {R : List Field} {s t : State} {x : Act} (w : within P R [.ch] [] = true)
    (h : Keeps P R s t) : Keeps P R s (t.abandonChannels x) :=
  keeps_setCh w (keeps_setCh w h)

theorem keeps_lpeReturn {P : List Part} {R : List Field} {s t : State} {x : Act} (w : within P R [.lpe] [] = true)
    (h : Keeps P R s t) : Keeps P R s (t.lpeReturn x) := by
  unfold State.lpeReturn
  split <;> exact keeps_setLa w h

theorem keeps_restLasers {P : List Part} {R : List Field} {s t : State} {x : Act} (w : within P R [.wrp] [] = true)
    (h : Keeps P R s t) : Keeps P R s (t.restLasers x) := by
  unfold State.restLasers
  extract_lets one
  have onChannel (second : Bool) {u : State} (k : Keeps P R s u) : Keeps P R s (one second u) := keeps_ite k (keeps_setWrp w k)
  exact onChannel true (onChannel false h)

/-- What a squash stops before the notes go back (R213 steps 1 to 3). -/
def squashStop (s : State) (x : Act) : State :=
  (((s.hardStop x).setCmps x ((s.cmps x).filter (fun e => e.2.hit))).abandonChannels x).dropUnsent x

theorem squashStop_keeps (s : State) (x : Act) : Keeps [.ang, .ch, .rbk, .vale, .wrp] (tornFields x) s (squashStop s x) :=
  keeps_set_vale (within_nil rfl) (keeps_abandonChannels (within_nil rfl)
    (keeps_setCmps (within_nil rfl) (keeps_mono (hardStop_keeps s x) (by cases x <;> decide))))

/-- From s to t a trip of actuator x: within its frame, save that what its microroutines noted may go back once. -/
def Trip (x : Act) (s t : State) : Prop :=
  ∃ u v, TripFrame x s u ∧ u.msq x = s.msq x ∧ (v = u ∨ v = u.unstage x) ∧ TripFrame x v t

theorem TripFrame.trip {x : Act} {s t : State} (h : TripFrame x s t) : Trip x s t :=
  ⟨s, s, TripFrame.refl x s, rfl, .inl rfl, h⟩

theorem squash_trip (s : State) (x : Act) (causes : Nat) (counts : Bool) : Trip x s (s.squash x causes counts) := by
  unfold State.squash
  split
  case h_1 => exact (TripFrame.refl x s).trip
  case h_2 k _ =>
    split
    · exact (sqJoin_frame s x k causes counts).trip
    · extract_lets s1 s2 s2' m undone s3 s3' s4 s5 s6
      have stopped : Keeps [.ang, .ch, .rbk, .vale, .wrp] (tornFields x) s (squashStop s x) := squashStop_keeps s x
      refine ⟨squashStop s x, s2', TripFrame.of_keeps stopped (by cases x <;> decide) (by decide), keeps_msq stopped (by decide) x,
        .inr rfl, ?_⟩
      have h3 : TripFrame x s2' s3 := (TripFrame.setMsq s2' x _).trans (TripFrame.of_keeps (P := [.lpe]) (R := [])
        (keeps_lpeReturn (by decide) (keeps_refl _ _ _)) (within_nil rfl) (by decide))
      have h3' : TripFrame x s3 s3' := (TripFrame.setMsq s3 x _).trans (TripFrame.of_keeps (P := [.plk, .wrp]) (R := [])
        (keeps_restLasers (by decide) (keeps_setWrp (by decide) (keeps_setPlk (by decide) (keeps_refl _ _ _)))) (within_nil rfl)
        (by decide))
      have h5 : TripFrame x s3' s5 := TripFrame.of_keeps (P := [.rbk]) (R := guardOwn x)
        (keeps_raise (by cases x <;> decide) (keeps_count (within_nil rfl) (keeps_bump (by cases x <;> decide)
          (keeps_mono (sqRecord_keeps s3' x k causes false) (by cases x <;> decide))))) (by cases x <;> decide) (by decide)
      have h6 : TripFrame x s5 s6 := (trackCount_frame s5 x).ite (TripFrame.refl x s5)
      exact (h3.trans (h3'.trans (h5.trans h6))).trans (escDue_frame s6 x k)

end Sys2Proof.Proofs
end

section
/-!
PROOFS. What a Write Guard trip keeps once what microroutines wrote is put back (R221, R329), and the frames of a retract (R422) and of
the safe state (R39).
-/
namespace Sys2Proof.Proofs

open Sys2Proof.Machine Sys2Proof.Safety Sys2Proof.Laws

/-! ### The notes put back (R221, R252) -/

theorem within_of_subset {P P1 : List Part} {R R1 : List Field} (hP : P1 ⊆ P) (hR : R1 ⊆ R) : within P R P1 R1 = true :=
  within_iff.2 ⟨fun _ hp => hP hp, .inr fun f hf => ⟨f, hR hf, covers_refl f⟩⟩

theorem regWas_mem_notedFields {s : State} {x : Act} {a : Nat} {v : Word} (h : Staged.regWas a v ∈ (s.msq x).allStaged) :
    ⟨a, 0, 32⟩ ∈ notedFields s x :=
  List.mem_filterMap.2 ⟨_, h, rfl⟩

theorem putBack_keeps (s t : State) (x : Act) (e : Staged) (h : e ∈ (s.msq x).allStaged) :
    Keeps [.mem] (notedFields s x) t (t.putBack e) := by
  unfold State.putBack
  split
  case h_1 => exact keeps_set_mem (within_nil rfl) (keeps_refl _ _ _)
  case h_2 a v =>
    split
    · exact keeps_wr (within_of_subset (by simp) (by simpa using regWas_mem_notedFields h)) (keeps_refl _ _ _)
    · exact keeps_refl _ _ _
  case h_3 => exact keeps_refl _ _ _

theorem unstage_keeps (s : State) (x : Act) : Keeps [.mem] (notedFields s x) s (s.unstage x) :=
  keeps_foldl_mem (fun t e he => putBack_keeps s t x e (List.mem_reverse.1 he)) (keeps_refl _ _ _)

/-- No bit of a field is RW (R60): a note that is put back leaves it as it is. -/
def hardwareOwned (f : Field) : Bool :=
  match regDesc f.addr with
  | some (_, d) => (List.range f.len).all (fun i => !d.rw.testBit (f.lo + i))
  | none => true

theorem getLsbD_merge_unmasked (w v mask : Word) (i : Nat) (h : mask.getLsbD i = false) : (merge w v mask).getLsbD i = w.getLsbD i := by
  by_cases hi : i < 32
  · simp only [merge, BitVec.getLsbD_or, BitVec.getLsbD_and, BitVec.getLsbD_not, h, hi]
    simp
  · rw [BitVec.getLsbD_of_ge _ _ (by omega), BitVec.getLsbD_of_ge _ _ (by omega)]

theorem get_putBack (s : State) (e : Staged) (f : Field) (owned : hardwareOwned f = true) : (s.putBack e).get f = s.get f := by
  unfold State.putBack
  split
  case h_1 => rfl
  case h_3 => rfl
  case h_2 a v =>
    split
    case h_2 => rfl
    case h_1 o d row =>
      by_cases here : f.addr = a
      · apply Nat.eq_of_testBit_eq
        intro i
        rw [State.get, State.get, here, rd_wr, wfield_testBit, wfield_testBit]
        by_cases hi : i < f.len
        · simp only [hardwareOwned, here, row, List.all_eq_true, List.mem_range, Bool.not_eq_true'] at owned
          rw [getLsbD_merge_unmasked _ _ _ _ (by rw [BitVec.getLsbD_ofNat, owned i hi, Bool.and_false])]
        · simp [hi]
      · rw [State.get, State.get, rd_wr_ne _ _ _ _ here]

theorem get_unstage (s : State) (x : Act) (f : Field) (owned : hardwareOwned f = true) : (s.unstage x).get f = s.get f := by
  unfold State.unstage
  generalize (s.msq x).allStaged.reverse = notes
  induction notes generalizing s with
  | nil => rfl
  | cons e notes ih => exact (ih (s.putBack e)).trans (get_putBack s e f owned)

/-! ### What a trip keeps -/

theorem guardOwn_subset (s : State) (x : Act) : guardOwn x ⊆ guardFields s x := by
  simp [guardOwn, tornFields, guardFields, squashFields]

theorem notedFields_subset (s : State) (x : Act) : notedFields s x ⊆ guardFields s x := by
  intro f hf
  simp [guardFields, squashFields, hf]

theorem guardFields_of_msq {s t : State} {x : Act} (h : t.msq x = s.msq x) : guardFields t x = guardFields s x := by
  simp only [guardFields, squashFields, notedFields, h]

namespace Trip

variable {x : Act} {s t u : State}

/-- A trip after a step that leaves the actuator's notes as they are. -/
theorem after (h : TripFrame x s t) (same : t.msq x = s.msq x) (k : Trip x t u) : Trip x s u := by
  obtain ⟨v, w, hv, hm, hw, hu⟩ := k
  exact ⟨v, w, h.trans hv, hm.trans same, hw, hu⟩

theorem keeps (h : Trip x s t) : Keeps tripParts (guardFields s x) s t := by
  obtain ⟨u, v, hu, same, hv, ht⟩ := h
  have own (a b : State) (k : TripFrame x a b) : Keeps tripParts (guardFields s x) a b :=
    keeps_mono k.keeps (within_of_subset (List.Subset.refl _) (guardOwn_subset s x))
  have back : Keeps tripParts (guardFields s x) u v := by
    rcases hv with rfl | rfl
    · exact keeps_refl _ _ _
    · rw [← guardFields_of_msq same]
      exact keeps_mono (unstage_keeps u x) (within_of_subset (by decide) (notedFields_subset u x))
  exact keeps_trans (own s u hu) (keeps_trans back (own v t ht))

/-- The other actuator's sequencer is as it was. -/
theorem other (h : Trip x s t) : t.msq x.other = s.msq x.other := by
  obtain ⟨u, v, hu, -, hv, ht⟩ := h
  have back : v.msq x.other = u.msq x.other := by
    rcases hv with rfl | rfl
    · rfl
    · exact keeps_msq (unstage_keeps u x) (by decide) _
  exact ht.other.trans (back.trans hu.other)

/-- A field that hardware owns and no trip writes is as it was, whatever the notes name. -/
theorem get (h : Trip x s t) (f : Field) (owned : hardwareOwned f = true) (apart : (guardOwn x).all (fun g => Apart g f) = true) :
    t.get f = s.get f := by
  obtain ⟨u, v, hu, -, hv, ht⟩ := h
  have back : v.get f = u.get f := by
    rcases hv with rfl | rfl
    · rfl
    · exact get_unstage u x f owned
  exact (keeps_get ht.keeps f (by decide) apart).trans (back.trans (keeps_get hu.keeps f (by decide) apart))

end Trip

/-! ### The Write Guard (R329, R335) -/

theorem guardHold_keeps (s : State) (x : Act) (bits : Nat) (neg : Bool) : Keeps [.rbk, .wrp] (guardOwn x) s (s.guardHold x bits neg) := by
  have torn : Keeps [.rbk, .wrp] (guardOwn x) s ((s.tear x bits neg).gatesLow x) :=
    keeps_gatesLow (within_nil rfl) (keeps_mono (tear_keeps s x bits neg) (by cases x <;> decide))
  exact keeps_ite
    (keeps_raise (by cases x <;> decide) (keeps_bump (by cases x <;> decide) (keeps_put (by cases x <;> decide)
      (keeps_setWrp (within_nil rfl) torn))))
    (keeps_put (by cases x <;> decide) (keeps_setWrp (within_nil rfl) (keeps_refl _ _ _)))

theorem wgTrip_trip (s : State) (x : Act) (bits : Nat) (neg : Bool) : Trip x s (s.wgTrip x bits neg) := by
  have hold := guardHold_keeps s x bits neg
  have framed : TripFrame x s (s.guardHold x bits neg) := TripFrame.of_keeps hold (by cases x <;> decide) (by decide)
  unfold State.wgTrip State.wgTripC
  extract_lets causes s1
  split
  · exact (TripFrame.refl x s).trip
  · split
    · exact framed.trip
    · exact Trip.after framed (keeps_msq hold (by decide) x) (squash_trip _ x _ _)

theorem wgTripBoth_keeps (s : State) (bits : Nat) : Keeps tripParts (guardFields s .a ++ guardFields s .b) s (s.wgTripBoth bits) := by
  have ha := wgTrip_trip s .a bits false
  have hb := (wgTrip_trip (s.wgTrip .a bits false) .b bits false).keeps
  rw [guardFields_of_msq (x := .b) ha.other] at hb
  exact keeps_trans (keeps_mono ha.keeps (within_of_subset (List.Subset.refl _) (List.subset_append_left _ _)))
    (keeps_mono hb (within_of_subset (List.Subset.refl _) (List.subset_append_right _ _)))

theorem get_wgTripBoth (s : State) (bits : Nat) (f : Field) (owned : hardwareOwned f = true)
    (apart : (guardOwn .a ++ guardOwn .b).all (fun g => Apart g f) = true) : (s.wgTripBoth bits).get f = s.get f := by
  rw [List.all_append, Bool.and_eq_true] at apart
  exact ((wgTrip_trip _ .b bits false).get f owned apart.2).trans ((wgTrip_trip s .a bits false).get f owned apart.1)

/-! ### Retract and safe state (R422, R39) -/

theorem retract_keeps (s : State) (x : Act) : Keeps [.lpe, .msq, .sys] retractFields s (s.retract x) := by
  have idle : Keeps [.lpe, .msq, .sys] retractFields s (s.notLoaded x) :=
    keeps_setMsq (by decide) (keeps_putb (by cases x <;> decide) (keeps_putb (by cases x <;> decide)
      (keeps_put (by cases x <;> decide) (keeps_setLoaded (by decide) (keeps_refl _ _ _)))))
  have zero : Keeps [.lpe, .msq, .sys] retractFields s ((s.notLoaded x).uaZero x) :=
    keeps_put (by decide) (keeps_setLa (by decide) idle)
  have ends := keeps_setLa (x := x) (v := { ((s.notLoaded x).uaZero x).la x with loading := false, unloading := false, seekWait := false })
    (by decide) zero
  exact keeps_ite (keeps_refl _ _ _) (keeps_ite ends (keeps_putb (by cases x <;> decide) ends))

/-- The fields that the safe state writes as it begins. -/
def safeFields : List Field := Fld.SYS_D2DSTAT_SAFE :: (spnEnterFields ++ retractFields)

theorem safeEnter_keeps (s : State) : Keeps [.lpe, .msq, .spn, .sys] safeFields s s.safeEnter :=
  keeps_spnEnter (by decide) (keeps_via (retract_keeps _ .b) (by decide) (keeps_via (retract_keeps _ .a) (by decide)
    (keeps_putb (by decide) (keeps_refl _ _ _))))

/-- The safe state of the power die stands once it is entered (R39). -/
theorem flag_safe_safeEnter (s : State) : s.safeEnter.flag Fld.SYS_D2DSTAT_SAFE = true := by
  have rest : Keeps [.lpe, .msq, .spn, .sys] (spnEnterFields ++ retractFields) (s.putb Fld.SYS_D2DSTAT_SAFE true) s.safeEnter :=
    keeps_spnEnter (by decide) (keeps_via (retract_keeps _ .b) (by decide) (keeps_mono (retract_keeps _ .a) (by decide)))
  exact (keeps_flag rest _ (by decide) (by decide)).trans (flag_putb s _ true (by decide) rfl)

end Sys2Proof.Proofs
end

section
/-!
PROOFS. The die-to-die link (R38 to R44, R797): link loss, the release of the safe state, training, and the reads that training completes.
-/
namespace Sys2Proof.Proofs

open Sys2Proof.Machine Sys2Proof.Safety Sys2Proof.Laws

/-! ### Link loss (R39, R40) -/

/-- The parts that link loss touches. -/
def linkDownParts : List Part := [.ang, .ch, .d2d, .lpe, .mem, .msq, .pins, .plk, .rbk, .spn, .sys, .vale, .wrp]

/-- The fields that link loss writes of its own, beside those of the Write Guards' trips. -/
def linkDownOwn : List Field :=
  modeFields ++ retractFields ++ [Fld.SYS_FLT_D2D, Fld.SYS_D2DSTAT_TRAINED, Fld.SYS_D2DSTAT_SAFE]

/-- The fields that link loss writes. -/
def linkDownFields (s : State) : List Field :=
  guardFields s .a ++ guardFields s .b ++ modeFields ++ retractFields ++
    [Fld.SYS_FLT_D2D, Fld.SYS_D2DSTAT_TRAINED, Fld.SYS_D2DSTAT_SAFE]

theorem linkDownOwn_subset (s : State) : linkDownOwn ⊆ linkDownFields s := by
  intro f hf
  simp only [linkDownOwn, linkDownFields, List.mem_append] at hf ⊢
  tauto

theorem guardFields_subset_linkDown (s : State) : guardFields s .a ++ guardFields s .b ⊆ linkDownFields s := by
  intro f hf
  simp only [linkDownFields, List.mem_append] at hf ⊢
  tauto

theorem linkDownFields_of_msq {s t : State} (a : t.msq .a = s.msq .a) (b : t.msq .b = s.msq .b) :
    linkDownFields t = linkDownFields s := by
  rw [linkDownFields, linkDownFields, guardFields_of_msq a, guardFields_of_msq b]

/-- The state of a link that is down, before the dies react to its loss. -/
def linkCut (s : State) : State := s.remapEnd.putb Fld.SYS_D2DSTAT_TRAINED false

theorem linkDown_eq (s : State) : s.linkDown = ((linkCut s).linkLoss.safeEnter).syncMode := rfl

/-- What the logic die does at link loss beside the trips: the fault, and FAULT_L (R40). -/
theorem linkFault_keeps (s : State) : Keeps [.rbk, .pins] (Fld.SYS_FLT_D2D :: recFields) (s.wgTripBoth trgD2d) s.linkLoss :=
  keeps_set_pins (by decide) (keeps_raise (by decide) (keeps_refl _ _ _))

theorem linkLoss_keeps (s : State) : Keeps linkDownParts (linkDownFields s) s s.linkLoss := by
  have trip : Keeps linkDownParts (linkDownFields s) s (s.wgTripBoth trgD2d) :=
    keeps_mono (wgTripBoth_keeps s trgD2d) (within_of_subset (by decide) (guardFields_subset_linkDown s))
  have fault : Keeps linkDownParts linkDownOwn (s.wgTripBoth trgD2d) s.linkLoss :=
    keeps_mono (linkFault_keeps s) (by decide)
  exact keeps_trans trip (keeps_mono fault (within_of_subset (List.Subset.refl _) (linkDownOwn_subset s)))

/-- What the power die and the mode do once the logic die has detected the loss (R39, R748). -/
theorem linkReaction_keeps (s : State) :
    Keeps [.lpe, .msq, .rbk, .spn, .sys, .vale, .wrp] (safeFields ++ modeFields) s s.safeEnter.syncMode :=
  keeps_via (syncMode_keeps _) (by decide) (keeps_mono (safeEnter_keeps s) (by decide))

theorem linkDown_keeps (s : State) : Keeps linkDownParts (linkDownFields s) s s.linkDown := by
  have own (a b : State) (k : Keeps linkDownParts linkDownOwn a b) : Keeps linkDownParts (linkDownFields s) a b :=
    keeps_mono k (within_of_subset (List.Subset.refl _) (linkDownOwn_subset s))
  have cut : Keeps linkDownParts linkDownOwn s (linkCut s) := keeps_putb (by decide) (keeps_set_d2d (by decide) (keeps_refl _ _ _))
  have loss : Keeps linkDownParts (linkDownFields s) (linkCut s) (linkCut s).linkLoss := linkLoss_keeps (linkCut s)
  have reaction : Keeps linkDownParts linkDownOwn (linkCut s).linkLoss s.linkDown := keeps_mono (linkReaction_keeps _) (by decide)
  exact keeps_trans (own _ _ cut) (keeps_trans loss (own _ _ reaction))

/-- The notes put back name no bit of TRAINED that is RW, and nothing of the loss sets it again (R40, R41). -/
theorem flag_trained_linkDown (s : State) : s.linkDown.flag Fld.SYS_D2DSTAT_TRAINED = false := by
  have cut : (linkCut s).flag Fld.SYS_D2DSTAT_TRAINED = false := flag_putb _ _ false (by decide) rfl
  have trip : ((linkCut s).wgTripBoth trgD2d).get Fld.SYS_D2DSTAT_TRAINED = (linkCut s).get Fld.SYS_D2DSTAT_TRAINED :=
    get_wgTripBoth _ _ _ (by decide) (by decide)
  rw [linkDown_eq, keeps_flag (linkReaction_keeps _) _ (by decide) (by decide),
    keeps_flag (linkFault_keeps _) _ (by decide) (by decide), State.flag, trip]
  exact cut

theorem flag_safe_linkDown (s : State) : s.linkDown.flag Fld.SYS_D2DSTAT_SAFE = true := by
  rw [linkDown_eq, keeps_flag (syncMode_keeps _) _ (by decide) (by decide)]
  exact flag_safe_safeEnter _

theorem flag_fltD2d_linkDown (s : State) : s.linkDown.flag Fld.SYS_FLT_D2D = true := by
  rw [linkDown_eq, keeps_flag (linkReaction_keeps _) _ (by decide) (by decide)]
  exact flag_raise _ Fld.SYS_FLT_D2D (by decide) rfl (by decide)

theorem faultL_linkDown (s : State) : s.linkDown.pins.faultL = true := by
  rw [linkDown_eq, keeps_pins (linkReaction_keeps _) (by decide)]
  rfl

/-- Of the link's own state the loss ends the remap, nothing else (R38). -/
theorem d2d_linkDown (s : State) : s.linkDown.d2d = s.remapEnd.d2d := by
  rw [linkDown_eq, keeps_d2d (linkReaction_keeps _) (by decide), keeps_d2d (linkFault_keeps _) (by decide),
    keeps_d2d (wgTripBoth_keeps _ _) (by decide)]
  rfl

/-! ### The release of the safe state (R41, R43) -/

/-- What follows SAFE at a release: the spindle goes on. -/
theorem safeLeave_keeps (s : State) (deferrable : Bool) :
    Keeps [.spn, .sys, .vale] startNowFields (s.putb Fld.SYS_D2DSTAT_SAFE false) (s.safeLeave deferrable) :=
  keeps_ite (keeps_refl _ _ _) (keeps_ite (startDecision_keeps _ deferrable)
    (keeps_ite (keeps_mono (spnEnter_keeps _ _) (by decide)) (keeps_refl _ _ _)))

/-- A release ends in the mode that its new state has (R748). -/
theorem release_keeps (s : State) :
    Keeps modeParts (startNowFields ++ modeFields) (s.putb Fld.SYS_D2DSTAT_SAFE false) (s.safeLeave false).syncMode :=
  keeps_via (syncMode_keeps _) (by decide) (keeps_mono (safeLeave_keeps s false) (by decide))

theorem exec_d2dRelease (s : State) (trained : s.flag Fld.SYS_D2DSTAT_TRAINED = true) (safe : s.flag Fld.SYS_D2DSTAT_SAFE = true) :
    exec .d2dRelease s = .next (s.safeLeave false).syncMode :=
  congrArg _ (if_pos (by rw [trained, safe]; rfl))

theorem exec_d2dRelease_untrained (s : State) (untrained : s.flag Fld.SYS_D2DSTAT_TRAINED = false) : exec .d2dRelease s = .next s :=
  congrArg _ (if_neg (by rw [untrained]; simp))

/-! ### Reads with side effects (R60, R62, R797) -/

/-- The parts that a read of a register touches. -/
def readParts : List Part := [.bus, .ccx, .dbg, .free]

/-- The fields that reads of registers write: the addresses of the data ports, and the causes that GEN7 clears. -/
def readFields : List Field :=
  [Fld.UCS_SAPADDR_ADDR .a, Fld.UCS_SAPADDR_ADDR .b, Fld.CH_EQADDR_ADDR 0, Fld.CH_EQADDR_ADDR 1, Fld.CH_EQADDR_ADDR 2,
    Fld.CH_EQADDR_ADDR 3, Fld.LPE_COEFADDR_WORD, Fld.CPH_LRADDR_ADDR, ⟨Reg.INTC_CAUSE0, 0, 32⟩, ⟨Reg.INTC_CAUSE1, 0, 32⟩]

theorem retWord_keeps (s : State) (off : Nat) : Keeps readParts readFields s (s.retWord off).2 := by
  unfold State.retWord
  split
  · exact keeps_refl _ _ _
  · exact keeps_set_freeCtr (by decide) (keeps_refl _ _ _)

theorem popRead_keeps (s : State) (q : Nat) : Keeps readParts readFields s (s.popRead q).2 :=
  keeps_ite (keeps_set_ccx (by decide) (keeps_refl _ _ _))
    (keeps_ite (keeps_set_ccx (by decide) (keeps_refl _ _ _)) (keeps_set_ccx (by decide) (keeps_refl _ _ _)))

theorem uartGet_keeps (s : State) : Keeps readParts readFields s s.uartGet.2 := keeps_set_dbg (by decide) (keeps_refl _ _ _)

theorem causeRead_keeps (s : State) (n : Nat) (w : within readParts readFields [] [⟨causeReg n, 0, 32⟩] = true) :
    Keeps readParts readFields s (s.causeRead n).2 :=
  keeps_ite (keeps_wr w (keeps_refl _ _ _)) (keeps_refl _ _ _)

theorem sapRead_keeps (s : State) (x : Act) : Keeps readParts readFields s (s.sapRead x).2 :=
  keeps_put (by cases x <;> decide) (keeps_refl _ _ _)

theorem eqRead_keeps (s : State) (n : Chan) (w : within readParts readFields [] [Fld.CH_EQADDR_ADDR n] = true) :
    Keeps readParts readFields s (s.eqRead n).2 :=
  keeps_put w (keeps_refl _ _ _)

theorem regRead_keeps (s : State) (i : Initiator) (a : Nat) : Keeps readParts readFields s (s.regRead i a).2 := by
  have same : Keeps readParts readFields s s := keeps_refl _ _ _
  unfold State.regRead
  refine keeps_ite_snd same (keeps_ite_snd (retWord_keeps s _) ?_)
  split
  · exact keeps_ite_snd (keeps_set_bus (by decide) same) same
  · exact keeps_ite_snd same <| keeps_ite_snd (sapRead_keeps s .a) <| keeps_ite_snd (sapRead_keeps s .b) <|
      keeps_ite_snd (eqRead_keeps s 0 (by decide)) <| keeps_ite_snd (eqRead_keeps s 1 (by decide)) <|
      keeps_ite_snd (eqRead_keeps s 2 (by decide)) <| keeps_ite_snd (eqRead_keeps s 3 (by decide)) <|
      keeps_ite_snd (keeps_put (by decide) same) <| keeps_ite_snd (keeps_put (by decide) same) <|
      keeps_ite_snd (popRead_keeps s 0) <| keeps_ite_snd (popRead_keeps s 1) <| keeps_ite_snd (popRead_keeps s 2) <|
      keeps_ite_snd (uartGet_keeps s) <| keeps_ite_snd (causeRead_keeps s 0 (by decide)) <|
      keeps_ite_snd (causeRead_keeps s 1 (by decide)) same

theorem keeps_setRead {P : List Part} {R : List Field} {s t : State} {i : Initiator} {v : BitVec 64}
    (w : within P R [.bus] [] = true) (h : Keeps P R s t) : Keeps P R s (t.setRead i v) :=
  keeps_set_bus w h

theorem readRegs_keeps (s : State) (i : Initiator) (n a : Nat) : Keeps readParts readFields s (s.readRegs i n a) :=
  keeps_setRead (by decide) (regRead_keeps s i _)

theorem readRegs64_keeps (s : State) (i : Initiator) (a : Nat) : Keeps readParts readFields s (s.readRegs64 i a) :=
  keeps_setRead (by decide) (keeps_trans (regRead_keeps s i a) (regRead_keeps _ i (a + 4)))

/-- The reads that waited change what a read changes, once none waits any more. -/
theorem readsDue_keeps (s : State) :
    Keeps readParts readFields { s with d2d := { s.d2d with reads := [] } } s.readsDue :=
  keeps_foldl (fun t _ => keeps_ite (readRegs64_keeps t _ _) (readRegs_keeps t _ _ _)) (keeps_refl _ _ _)

theorem d2d_readsDue (s : State) : s.readsDue.d2d = { s.d2d with reads := [] } :=
  keeps_d2d (readsDue_keeps s) (by decide)

theorem get_readsDue (s : State) (f : Field) (apart : readFields.all (fun g => Apart g f) = true) : s.readsDue.get f = s.get f :=
  keeps_get (readsDue_keeps s) f (by decide) apart

theorem flag_readsDue (s : State) (f : Field) (apart : readFields.all (fun g => Apart g f) = true) : s.readsDue.flag f = s.flag f :=
  keeps_flag (readsDue_keeps s) f (by decide) apart

/-! ### Training (R44, R797) -/

/-- The link once its training has ended, before its width is taken. -/
def linkTrained (passing : BitVec 9) (s : State) : State :=
  let s1 := if s.d2d.trainedOnce then s.bump Fld.SYS_D2DCNT_RETRAIN 1 else s
  ({ s1 with d2d := { s1.d2d with bad := 511 - passing.toNat, trainedOnce := true } }).putb Fld.SYS_D2DSTAT_TRAINED true

/-- The link takes the width that the lanes allow: half with fewer than eight, full otherwise, the spare in place of a failed data lane. -/
def takeWidth (passing : BitVec 9) (s : State) : State :=
  if popcount 9 passing.toNat < 8 then (s.putb Fld.SYS_D2DSTAT_HALF true).raise Fld.SYS_EV_D2DLANE
  else
    match failedData passing.toNat with
    | some k => (s.putb Fld.SYS_D2DSTAT_SPARE_USED true).put Fld.SYS_D2DSTAT_SPARE_LANE k
    | none => s

/-- The fields that the end of a training and its reads write. -/
def trainFields : List Field :=
  recFields ++ [Fld.SYS_EV_D2DLANE, Fld.SYS_D2DSTAT_HALF, Fld.SYS_D2DSTAT_TRAINED,
    Fld.SYS_D2DSTAT_SPARE_USED, Fld.SYS_D2DSTAT_SPARE_LANE, Fld.SYS_D2DCNT_RETRAIN] ++ readFields

theorem exec_linkTrainingComplete_bor (s : State) (passing : BitVec 9) (bor : s.pwr.bor = true) :
    exec (.linkTrainingComplete passing) s = .next s :=
  if_pos (by simp [bor])

section
variable {s : State} {passing : BitVec 9} (untrained : s.flag Fld.SYS_D2DSTAT_TRAINED = false) (noBor : s.pwr.bor = false)
  (noReset : s.pins.resetL = false)
include untrained noBor noReset

theorem exec_linkTrainingComplete_few (few : popcount 9 passing.toNat < 4) :
    exec (.linkTrainingComplete passing) s = .next { s with d2d := { s.d2d with bad := 511 - passing.toNat } } :=
  (if_neg (by simp [untrained, noBor, noReset])).trans (if_pos few)

theorem exec_linkTrainingComplete (enough : 4 ≤ popcount 9 passing.toNat) :
    exec (.linkTrainingComplete passing) s = .next (takeWidth passing (linkTrained passing s)).readsDue := by
  refine (if_neg (by simp [untrained, noBor, noReset])).trans ((if_neg (by omega)).trans ?_)
  by_cases few : popcount 9 passing.toNat < 8
  · rw [takeWidth, if_pos few, if_pos few]
    rfl
  · rw [takeWidth, if_neg few, if_neg few]
    cases failedData passing.toNat <;> rfl

end

theorem linkTrained_keeps (passing : BitVec 9) (s : State) :
    Keeps [.d2d] [Fld.SYS_D2DSTAT_TRAINED, Fld.SYS_D2DCNT_RETRAIN] s (linkTrained passing s) :=
  keeps_putb (by decide) (keeps_set_d2d (by decide) (keeps_ite (keeps_bump (by decide) (keeps_refl _ _ _)) (keeps_refl _ _ _)))

theorem flag_trained_linkTrained (passing : BitVec 9) (s : State) : (linkTrained passing s).flag Fld.SYS_D2DSTAT_TRAINED = true :=
  flag_putb _ _ true (by decide) rfl

/-- The first training after a reset is no retrain (R44). -/
theorem get_retrain_linkTrained (passing : BitVec 9) (s : State) :
    (linkTrained passing s).get Fld.SYS_D2DCNT_RETRAIN =
      if s.d2d.trainedOnce then satAdd 8 (s.get Fld.SYS_D2DCNT_RETRAIN) 1 else s.get Fld.SYS_D2DCNT_RETRAIN := by
  refine (get_putb_other _ Fld.SYS_D2DSTAT_TRAINED _ true (by decide) (by decide)).trans ((get_of_regs rfl _).trans ?_)
  split
  · exact get_bump s Fld.SYS_D2DCNT_RETRAIN 1 (by decide)
  · rfl

/-- The fields that taking the width writes. -/
def widthFields : List Field :=
  recFields ++ [Fld.SYS_EV_D2DLANE, Fld.SYS_D2DSTAT_HALF, Fld.SYS_D2DSTAT_SPARE_USED, Fld.SYS_D2DSTAT_SPARE_LANE]

theorem takeWidth_keeps (passing : BitVec 9) (s : State) : Keeps [.rbk] widthFields s (takeWidth passing s) := by
  refine keeps_ite (keeps_raise (by decide) (keeps_putb (by decide) (keeps_refl _ _ _))) ?_
  split
  · exact keeps_put (by decide) (keeps_putb (by decide) (keeps_refl _ _ _))
  · exact keeps_refl _ _ _

theorem takeWidth_half {passing : BitVec 9} (s : State) (few : popcount 9 passing.toNat < 8) :
    (takeWidth passing s).flag Fld.SYS_D2DSTAT_HALF = true ∧ (takeWidth passing s).flag Fld.SYS_EV_D2DLANE = true := by
  rw [takeWidth, if_pos few]
  exact ⟨(keeps_flag (raise_keeps _ _) _ (by decide) (by decide)).trans (flag_putb s _ true (by decide) rfl),
    flag_raise _ _ (by decide) rfl (by decide)⟩

theorem takeWidth_spare {passing : BitVec 9} {k : Nat} (s : State) (full : 8 ≤ popcount 9 passing.toNat)
    (failed : failedData passing.toNat = some k) :
    (takeWidth passing s).flag Fld.SYS_D2DSTAT_SPARE_USED = true ∧ (takeWidth passing s).get Fld.SYS_D2DSTAT_SPARE_LANE = k % 16 := by
  rw [takeWidth, if_neg (by omega), failed]
  exact ⟨(flag_put_other _ _ _ _ (by decide) (by decide)).trans (flag_putb s _ true (by decide) rfl), get_put _ _ _ (by decide)⟩

/-- The end of a training within its frame, the reads that waited included. -/
theorem training_keeps (passing : BitVec 9) (s : State) :
    Keeps [.bus, .ccx, .d2d, .dbg, .free, .rbk] trainFields s (takeWidth passing (linkTrained passing s)).readsDue :=
  keeps_via (readsDue_keeps _) (by decide) (keeps_set_d2d (by decide)
    (keeps_via (takeWidth_keeps passing _) (by decide) (keeps_mono (linkTrained_keeps passing s) (by decide))))

theorem flag_trained_training (passing : BitVec 9) (s : State) :
    (takeWidth passing (linkTrained passing s)).readsDue.flag Fld.SYS_D2DSTAT_TRAINED = true := by
  rw [flag_readsDue _ _ (by decide), keeps_flag (takeWidth_keeps passing _) _ (by decide) (by decide)]
  exact flag_trained_linkTrained passing s

theorem get_retrain_training (passing : BitVec 9) (s : State) :
    (takeWidth passing (linkTrained passing s)).readsDue.get Fld.SYS_D2DCNT_RETRAIN =
      if s.d2d.trainedOnce then satAdd 8 (s.get Fld.SYS_D2DCNT_RETRAIN) 1 else s.get Fld.SYS_D2DCNT_RETRAIN := by
  rw [get_readsDue _ _ (by decide), keeps_get (takeWidth_keeps passing _) _ (by decide) (by decide)]
  exact get_retrain_linkTrained passing s

/-- After a training no read waits, and the next one counts as a retrain. -/
theorem d2d_training (passing : BitVec 9) (s : State) :
    (takeWidth passing (linkTrained passing s)).readsDue.d2d = { (linkTrained passing s).d2d with reads := [] } := by
  rw [d2d_readsDue, keeps_d2d (takeWidth_keeps passing _) (by decide)]

/-! ### Lanes and remaps (R38) -/

theorem exec_laneFailure_remaps (s : State) (lane : Nat) (data : lane < 8) (trained : s.flag Fld.SYS_D2DSTAT_TRAINED = true)
    (spare : s.flag Fld.SYS_D2DSTAT_SPARE_USED = false) (full : s.flag Fld.SYS_D2DSTAT_HALF = false) (idle : s.d2d.remapSent = false)
    (good : s.d2d.bad.testBit 8 = false) :
    exec (.laneFailure lane) s =
      .next { s with d2d := { s.d2d with bad := s.d2d.bad ||| 2 ^ lane, remapSent := true, remapLane := lane } } :=
  (if_neg (by simp [trained, data.le])).trans ((if_neg (by simp [spare, full, idle])).trans ((if_neg (by omega)).trans
    (if_neg (by simp [good]))))

/-- The state with a lane marked as failed. -/
def laneFailed (s : State) (lane : Nat) : State := { s with d2d := { s.d2d with bad := s.d2d.bad ||| 2 ^ lane } }

theorem exec_laneFailure_spareUsed (s : State) (lane : Nat) (data : lane < 8) (trained : s.flag Fld.SYS_D2DSTAT_TRAINED = true)
    (spare : s.flag Fld.SYS_D2DSTAT_SPARE_USED = true) :
    exec (.laneFailure lane) s = .next (laneFailed s lane).linkDown :=
  (if_neg (by simp [trained, data.le])).trans (if_pos (by simp [spare]))

/-- The state once the link runs on its new map (R38). -/
def remapped (s : State) : State :=
  ((s.remapEnd.putb Fld.SYS_D2DSTAT_SPARE_USED true).put Fld.SYS_D2DSTAT_SPARE_LANE s.d2d.remapLane).raise Fld.SYS_EV_D2DLANE

theorem exec_laneRemapComplete (s : State) (acked : s.d2d.remapAcked = true) : exec .laneRemapComplete s = .next (remapped s) :=
  if_pos acked

theorem remapped_keeps (s : State) : Keeps [.rbk] (recFields ++
    [Fld.SYS_EV_D2DLANE, Fld.SYS_D2DSTAT_SPARE_USED, Fld.SYS_D2DSTAT_SPARE_LANE]) s.remapEnd (remapped s) :=
  keeps_raise (by decide) (keeps_put (by decide) (keeps_putb (by decide) (keeps_refl _ _ _)))

theorem flag_spareUsed_remapped (s : State) : (remapped s).flag Fld.SYS_D2DSTAT_SPARE_USED = true :=
  (keeps_flag (raise_keeps _ _) _ (by decide) (by decide)).trans
    ((flag_put_other _ _ _ _ (by decide) (by decide)).trans (flag_putb _ _ true (by decide) rfl))

theorem get_spareLane_remapped (s : State) : (remapped s).get Fld.SYS_D2DSTAT_SPARE_LANE = s.d2d.remapLane % 16 :=
  (keeps_get (raise_keeps _ _) _ (by decide) (by decide)).trans (get_put _ _ _ (by decide))

/-! ### The statements -/

/-- Settles O3: a data lane's first failure sends a remap, one with the spare in use is link loss, and a remap ends on the spare. -/
theorem linkLane : Obligations.LinkLane := by
  unfold Obligations.LinkLane
  refine ⟨?crc, ?failure, ?loss, ?ack, ?complete⟩
  case crc => exact fun s => ⟨_, rfl, get_bump s _ 1 (by decide), State_bump_keeps s _ 1⟩
  case failure =>
    intro s lane data trained spare full idle good
    exact ⟨_, exec_laneFailure_remaps s lane data trained spare full idle good, rfl, keeps_set_d2d (by decide) (keeps_refl _ _ _)⟩
  case loss =>
    intro s lane data trained spare
    have marked : Keeps linkDownParts (linkDownFields s) s (laneFailed s lane) :=
      keeps_set_d2d (within_nil rfl) (keeps_refl _ _ _)
    have down := linkDown_keeps (laneFailed s lane)
    rw [linkDownFields_of_msq (t := laneFailed s lane) (s := s) rfl rfl] at down
    exact ⟨_, exec_laneFailure_spareUsed s lane data trained spare, flag_trained_linkDown _, flag_safe_linkDown _, flag_fltD2d_linkDown _,
      keeps_trans marked down⟩
  case ack =>
    intro s sent
    exact ⟨_, if_pos sent, rfl, keeps_set_d2d (by decide) (keeps_refl _ _ _)⟩
  case complete =>
    intro s acked
    exact ⟨_, exec_laneRemapComplete s acked, keeps_d2d (remapped_keeps s) (by decide), flag_spareUsed_remapped s,
      get_spareLane_remapped s, flag_raise _ _ (by decide) rfl (by decide),
      keeps_via (remapped_keeps s) (by decide) (keeps_set_d2d (by decide) (keeps_refl _ _ _))⟩

/-- Settles O4: link loss by a late remap or by itself, training at every width, and the release of the safe state. -/
theorem linkLoss : Obligations.LinkLoss := by
  unfold Obligations.LinkLoss
  refine ⟨?timeout, ?loss, ?full, ?half, ?reads, ?bor, ?few, ?release, ?untrained⟩
  case timeout =>
    intro s acked late
    refine ⟨s.linkDown, if_pos (by simp [acked, late]), flag_trained_linkDown s, flag_safe_linkDown s, flag_fltD2d_linkDown s,
      faultL_linkDown s, ?_, linkDown_keeps s⟩
    rw [d2d_linkDown]
    rfl
  case loss =>
    exact fun s => ⟨_, rfl, flag_trained_linkDown s, flag_safe_linkDown s, flag_fltD2d_linkDown s, faultL_linkDown s, linkDown_keeps s⟩
  case full =>
    intro s passing untrained noBor noReset _ full
    refine ⟨_, exec_linkTrainingComplete untrained noBor noReset (by omega), flag_trained_training passing s,
      get_retrain_training passing s, fun k failed => ?_, training_keeps passing s⟩
    rw [flag_readsDue _ _ (by decide), get_readsDue _ _ (by decide)]
    exact takeWidth_spare _ full failed
  case half =>
    intro s passing untrained noBor noReset _ enough few
    obtain ⟨half, lane⟩ := takeWidth_half (linkTrained passing s) few
    exact ⟨_, exec_linkTrainingComplete untrained noBor noReset enough, flag_trained_training passing s,
      (flag_readsDue _ _ (by decide)).trans half, (flag_readsDue _ _ (by decide)).trans lane, training_keeps passing s⟩
  case reads =>
    intro s passing i a untrained noBor noReset enough _
    have link := d2d_training passing s
    exact ⟨_, exec_linkTrainingComplete untrained noBor noReset enough, congrArg D2dSt.reads link, congrArg D2dSt.trainedOnce link,
      training_keeps passing s⟩
  case bor => exact exec_linkTrainingComplete_bor
  case few =>
    intro s passing untrained noBor noReset few
    exact ⟨_, exec_linkTrainingComplete_few untrained noBor noReset few, rfl, keeps_set_d2d (by decide) (keeps_refl _ _ _)⟩
  case release =>
    intro s trained safe
    have left : Keeps modeParts [Fld.SYS_D2DSTAT_SAFE] s (s.putb Fld.SYS_D2DSTAT_SAFE false) :=
      keeps_putb (by decide) (keeps_refl _ _ _)
    exact ⟨_, exec_d2dRelease s trained safe,
      (keeps_flag (release_keeps s) _ (by decide) (by decide)).trans (flag_putb s _ false (by decide) rfl),
      keeps_via (release_keeps s) (by decide) (keeps_mono left (by decide))⟩
  case untrained => exact exec_d2dRelease_untrained

end Sys2Proof.Proofs
end

section
/-!
PROOFS. What every step keeps of the forms of the register table and of the memory (R79; R536 and R554). A command changes the table
only through `State.wr`, which keeps its canonical form, or maps it whole in a reset, which keeps it too; the SRAM and the DRAM change
only by writes and removals of cells. The claim is passed through each function of the model, in the order of the model's files.
-/
namespace Sys2Proof.Proofs

open Sys2Proof.Machine Sys2Proof.Safety Sys2Proof.Laws

/-! ### A map of a canonical table is canonical -/

theorem mrising_mmap {α : Type} [DecidableEq α] (d : Nat → α) (f : Nat → α → α) (m : List (Nat × α)) (b : Nat)
    (r : mrising b m = true) : mrising b (mmap d f m) = true := by
  induction m generalizing b with
  | nil => rfl
  | cons e m ih =>
    simp only [mrising, Bool.and_eq_true, decide_eq_true_eq] at r
    obtain ⟨hb, hm⟩ := r
    unfold mmap
    split
    · exact mrising_mono _ _ _ (by omega) (ih _ hm)
    · simp [mrising, hb, ih _ hm]

theorem mlean_mmap {α : Type} [DecidableEq α] (d : Nat → α) (f : Nat → α → α) (m : List (Nat × α)) :
    mlean d (mmap d f m) = true := by
  induction m with
  | nil => rfl
  | cons e m ih =>
    unfold mmap
    split
    · exact ih
    · simp [mlean, *]

theorem mwf_mmap {α : Type} [DecidableEq α] (d : Nat → α) (f : Nat → α → α) (m : List (Nat × α)) (h : mwf d m = true) :
    mwf d (mmap d f m) = true := by
  simp only [mwf, Bool.and_eq_true] at h ⊢
  exact ⟨mrising_mmap d f m 0 h.1, mlean_mmap d f m⟩

/-! ### The relations -/

/-- From `s` to `t` the register table and the memory keep their canonical forms. -/
structure KeepsForms (s t : State) : Prop where
  regs : mwf regReset s.regs = true → mwf regReset t.regs = true
  mem : Memory.wf s.mem = true → Memory.wf t.mem = true

/-- What a command does between two ticks: the forms stay, and neither the commands that wait nor the clock move. -/
structure Steady (s t : State) : Prop extends KeepsForms s t where
  queue : t.pending = s.pending
  clock : t.now = s.now

/-- The state that a command answers with, where it answers with one. -/
def SteadyOut (s : State) (o : Out) : Prop := ∀ t, o = .next t → Steady s t

/-- The state that an instruction's body gives, where it gives one and no error code. -/
def SteadyExc {ε : Type} (s : State) (r : Except ε State) : Prop := ∀ t, r = .ok t → Steady s t

/-- The state that a micro-op's body gives beside the next address. -/
def SteadyUop {ε α : Type} (s : State) (r : Except ε (State × α)) : Prop := ∀ p, r = .ok p → Steady s p.1

/-- The state that a positioning or media instruction's body gives beside its item. -/
def SteadyWork {ε α : Type} (s : State) (r : Except ε (α × State)) : Prop := ∀ p, r = .ok p → Steady s p.2

namespace Steady
variable {s t u : State}

/-! ### The relations pass through the shapes of the model's functions -/

theorem refl (s : State) : Steady s s := ⟨⟨id, id⟩, rfl, rfl⟩

theorem memory (h : Steady s t) {free bus pins d2d ang sys rbk msqA msqB romPar ch0 ch1 ch2 ch3 wrpA wrpB plkA plkB lpe spn pwr thm
    mem buf cph hwd ccx host apc xsp dbg vale} (w : Memory.wf t.mem = true → Memory.wf mem = true) :
    Steady s ⟨t.pending, free, t.now, t.regs, bus, pins, d2d, ang, sys, rbk, msqA, msqB, romPar, ch0, ch1, ch2, ch3, wrpA, wrpB, plkA,
      plkB, lpe, spn, pwr, thm, mem, buf, cph, hwd, ccx, host, apc, xsp, dbg, vale⟩ :=
  ⟨⟨h.regs, w ∘ h.mem⟩, h.queue, h.clock⟩

/-- A record update of any parts but the queue, the clock, the registers and the memory. -/
theorem rest (h : Steady s t) {free bus pins d2d ang sys rbk msqA msqB romPar ch0 ch1 ch2 ch3 wrpA wrpB plkA plkB lpe spn pwr thm
    buf cph hwd ccx host apc xsp dbg vale} :
    Steady s ⟨t.pending, free, t.now, t.regs, bus, pins, d2d, ang, sys, rbk, msqA, msqB, romPar, ch0, ch1, ch2, ch3, wrpA, wrpB, plkA,
      plkB, lpe, spn, pwr, thm, t.mem, buf, cph, hwd, ccx, host, apc, xsp, dbg, vale⟩ :=
  h.memory id

/-- An update of the memory's parts beside its cells. -/
theorem memRest (h : Steady s t) {queue cet cool retried trainAt} :
    Steady s { t with mem := ⟨t.mem.sram, t.mem.dram, queue, cet, cool, retried, trainAt⟩ } :=
  h.memory id

theorem foldl {α : Type} {g : State → α → State} {l : List α} (h : Steady s t) (k : ∀ {u a}, Steady s u → Steady s (g u a)) :
    Steady s (l.foldl g t) := by
  induction l generalizing t with
  | nil => exact h
  | cons a l ih => exact ih (k h)

theorem foldlSnd {α β : Type} {g : β × State → α → β × State} {l : List α} {p : β × State} (h : Steady s p.2)
    (k : ∀ {q r a}, Steady s q.2 → g q a = r → Steady s r.2) : Steady s (l.foldl g p).2 := by
  induction l generalizing p with
  | nil => exact h
  | cons a l ih => exact ih (k h rfl)

section ite
variable {c : Prop} [Decidable c]

theorem ite (h : Steady s t) (k : Steady s u) : Steady s (if c then t else u) := by
  split <;> assumption

theorem iteSnd {α : Type} {p q : α × State} (h : Steady s p.2) (k : Steady s q.2) : Steady s (if c then p else q).2 := by
  split <;> assumption

theorem iteFst {α : Type} {p q : State × α} (h : Steady s p.1) (k : Steady s q.1) : Steady s (if c then p else q).1 := by
  split <;> assumption

theorem outIte {o p : Out} (h : SteadyOut s o) (k : SteadyOut s p) : SteadyOut s (if c then o else p) := by
  split <;> assumption

theorem excIte {ε : Type} {o p : Except ε State} (h : SteadyExc s o) (k : SteadyExc s p) : SteadyExc s (if c then o else p) := by
  split <;> assumption

theorem uopIte {ε α : Type} {o p : Except ε (State × α)} (h : SteadyUop s o) (k : SteadyUop s p) :
    SteadyUop s (if c then o else p) := by
  split <;> assumption

theorem workIte {ε α : Type} {o p : Except ε (α × State)} (h : SteadyWork s o) (k : SteadyWork s p) :
    SteadyWork s (if c then o else p) := by
  split <;> assumption

end ite

theorem ofSnd {α : Type} {p : α × State} {a : α} (h : Steady s p.2) (e : p = (a, t)) : Steady s t := by
  subst e; exact h

theorem next (h : Steady s t) : SteadyOut s (.next t) := by
  rintro _ ⟨⟩; exact h

theorem ok {ε : Type} (h : Steady s t) : SteadyExc (ε := ε) s (.ok t) := by
  rintro _ ⟨⟩; exact h

theorem excError {ε : Type} {e : ε} : SteadyExc s (.error e) := by
  rintro _ ⟨⟩

theorem uopOk {ε α : Type} {a : α} (h : Steady s t) : SteadyUop (ε := ε) s (.ok (t, a)) := by
  rintro _ ⟨⟩; exact h

theorem uopError {ε α : Type} {e : ε} : SteadyUop (α := α) s (.error e) := by
  rintro _ ⟨⟩

theorem uopBind {ε α β : Type} {r : Except ε β} {g : β → Except ε (State × α)} (k : ∀ {b}, SteadyUop s (g b)) :
    SteadyUop s (r >>= g) := by
  cases r with
  | error e => exact uopError
  | ok b => exact k

theorem workOk {ε α : Type} {a : α} (h : Steady s t) : SteadyWork (ε := ε) s (.ok (a, t)) := by
  rintro _ ⟨⟩; exact h

theorem workError {ε α : Type} {e : ε} : SteadyWork (α := α) s (.error e) := by
  rintro _ ⟨⟩


/-! ### Sys2Proof/Machine/Ops.lean -/

theorem wr (h : Steady s t) {a : Nat} {v : Word} : Steady s (t.wr a v) :=
  ⟨⟨fun k => wr_wf t a v (h.regs k), h.mem⟩, h.queue, h.clock⟩

theorem put (h : Steady s t) {f : Field} {v : Nat} : Steady s (t.put f v) := h.wr

theorem putb (h : Steady s t) {f : Field} {b : Bool} : Steady s (t.putb f b) := h.put

theorem bump (h : Steady s t) {f : Field} {n : Nat} : Steady s (t.bump f n) := h.put

theorem busFault (h : Steady s t) {i : Initiator} {kind : Nat} : Steady s (t.busFault i kind) := h.rest

theorem free (h : Steady s t) : Steady s t.free.2 := h.rest

theorem setMsq (h : Steady s t) {x : Act} {m : Msq} : Steady s (t.setMsq x m) := by
  unfold State.setMsq
  split <;> exact h.rest

theorem setCmps (h : Steady s t) {x : Act} {c : List (Nat × Cmp)} : Steady s (t.setCmps x c) := by
  unfold State.setCmps
  split <;> exact h.rest

/-! ### Sys2Proof/Machine/Slots.lean -/

theorem setSlot (h : Steady s t) {x : Act} {y : Nat} {sl : Slot} : Steady s (t.setSlot x y sl) := h.setMsq

theorem selectKey (h : Steady s t) {x : Act} {n : Nat} : Steady s (t.selectKey x n) := h.setMsq

theorem setLoaded (h : Steady s t) {x : Act} {v : Bool} : Steady s (t.setLoaded x v) := by
  unfold State.setLoaded
  split <;> exact h.rest

theorem setFaulted (h : Steady s t) {x : Act} {v : Bool} : Steady s (t.setFaulted x v) := by
  unfold State.setFaulted
  split <;> exact h.rest

/-! ### Sys2Proof/Machine/Parts.lean -/

theorem setCh (h : Steady s t) {n : Chan} {c : ChanSt} : Steady s (t.setCh n c) := by
  unfold State.setCh
  split <;> exact h.rest

theorem setWrp (h : Steady s t) {x : Act} {w : WrpSt} : Steady s (t.setWrp x w) := by
  unfold State.setWrp
  split <;> exact h.rest

theorem setPlk (h : Steady s t) {x : Act} {p : PlkSt} : Steady s (t.setPlk x p) := by
  unfold State.setPlk
  split <;> exact h.rest

theorem setResv (h : Steady s t) {r : Resv} : Steady s (t.setResv r) := h.rest

/-- The sector is named by an opaque function, as in `tear_keeps`. -/
theorem latchSector (h : Steady s t) {n : Chan} : Steady s (t.latchSector n) := by
  unfold State.latchSector
  obtain ⟨place, hplace⟩ : ∃ p, t.placeNow (actOf n) (isSecond n) = p := ⟨_, rfl⟩
  rw [hplace]
  split
  · split
    · exact h.setCh
    · exact h
  · exact h

theorem setLa (h : Steady s t) {x : Act} {l : LpeAct} : Steady s (t.setLa x l) := by
  unfold State.setLa
  split <;> exact h.rest

/-! ### Sys2Proof/Machine/Ringbook.lean -/

theorem recordOcc (h : Steady s t) {o : Occ} : Steady s (t.recordOcc o) := by
  refine ite ?_ h.rest
  split
  · exact h.rest
  · exact h.rest.putb.rest

theorem beginFlush (h : Steady s t) {cause : Nat} : Steady s (t.beginFlush cause) := h.rest.putb

theorem startFlush (h : Steady s t) {cause : Nat} : Steady s (t.startFlush cause) := by
  unfold State.startFlush
  split
  · exact h.beginFlush
  · exact ite h.rest.beginFlush h.rest

theorem occur (h : Steady s t) {ty src code : Nat} : Steady s (t.occur ty src code) := ite h.recordOcc.startFlush h.recordOcc

theorem raise (h : Steady s t) {f : Field} : Steady s (t.raise f) := h.putb.occur

theorem count (h : Steady s t) {i n : Nat} : Steady s (t.count i n) := ite h.rest h.rest

theorem sample (h : Steady s t) {id bin : Nat} {v : Int} {ctx : Nat} : Steady s (t.sample id bin v ctx) := ite h.rest h.rest

theorem applyWaiting (h : Steady s t) : Steady s t.applyWaiting := h.rest

theorem fold (h : Steady s t) : Steady s t.fold := h.rest

/-! ### Sys2Proof/Machine/MemOps.lean -/

theorem sramUe (h : Steady s t) {region : Nat} : Steady s (t.sramUe region) := h.bump.put.raise

theorem sramRead (h : Steady s t) {addr : Nat} : Steady s (t.sramRead addr).2 := by
  unfold State.sramRead
  split
  · exact h
  · exact h.free.sramUe
  · exact iteSnd h.free.sramUe (ite h.free.bump h.free)

theorem sramBack (h : Steady s t) {addr : Nat} {old : Option (Option Word)} : Steady s (t.sramBack addr old) := by
  refine h.memory fun w => ?_
  simp only [Memory.wf, Bool.and_eq_true] at w ⊢
  cases old with
  | some c => exact ⟨mrising_mput _ _ _ _ (Nat.zero_le _) w.1, w.2⟩
  | none => exact ⟨mrising_mdel _ _ _ w.1, w.2⟩

theorem sramWord (h : Steady s t) {addr : Nat} : Steady s (t.sramWord addr).2 := iteSnd h.sramRead h.free

theorem sramPut (h : Steady s t) {addr : Nat} {v : Word} : Steady s (t.sramPut addr v) := by
  refine ite (h.memory fun w => ?_) h
  simp only [Memory.wf, Bool.and_eq_true] at w ⊢
  exact ⟨mrising_mput _ _ _ _ (Nat.zero_le _) w.1, w.2⟩

theorem track (h : Steady s t) {addr symb : Nat} : Steady s (t.track addr symb) := by
  unfold State.track
  extract_lets
  split
  · exact ite h.memRest.raise h.memRest
  · split
    · exact ite h.memRest.raise h.memRest
    · exact h.memRest.bump

theorem memCe (h : Steady s t) {addr symb : Nat} : Steady s (t.memCe addr symb) :=
  ite (h.bump.raise.memRest) h.bump.raise.bump

theorem memUe (h : Steady s t) {init addr : Nat} : Steady s (t.memUe init addr) := (ite h.bump.putb h.bump.wr.put.putb).raise

theorem dramCell (h : Steady s t) {addr : Nat} : Steady s (t.dramCell addr).2 := by
  unfold State.dramCell
  split
  · exact h
  · exact h.free.free

theorem dramRead (h : Steady s t) {init addr : Nat} : Steady s (t.dramRead init addr).2 := by
  unfold State.dramRead
  split
  · exact (h.dramCell.ofSnd ‹_›).memUe
  · split
    · exact (h.dramCell.ofSnd ‹_›)
    · exact (h.dramCell.ofSnd ‹_›).memCe
    · exact (h.dramCell.ofSnd ‹_›).memUe

theorem dramSet (h : Steady s t) {addr : Nat} {c : DramCell} : Steady s (t.dramSet addr c) :=
  h.memory fun w => dramSet_wf t addr c w

theorem dramPut (h : Steady s t) {addr : Nat} {d : BitVec 64} : Steady s (t.dramPut addr d) := h.dramSet

theorem dramMerge (h : Steady s t) {init addr : Nat} {d mask : BitVec 64} : Steady s (t.dramMerge init addr d mask) :=
  ite h.dramPut (ite h.dramRead.dramSet h.dramRead.dramPut)

theorem chunkAt (h : Steady s t) {init addr : Nat} {c : List Byte × Bool × Nat} (e : t.chunkAt init addr = some (c, u)) :
    Steady s u := by
  unfold State.chunkAt at e
  split at e
  · cases e; exact h.sramRead
  · split at e
    · cases e; exact h.dramRead
    · cases e

theorem bytesGo (h : Steady s t) {init f n a : Nat} : Steady s (State.bytesGo init f n a t).2 := by
  induction f generalizing t n a with
  | zero => exact h
  | succ f ih =>
    refine iteSnd h ?_
    split
    · exact h
    · rename_i e
      exact iteSnd (chunkAt h e) (ih (chunkAt h e))

theorem bytesAt (h : Steady s t) {init n a : Nat} : Steady s (State.bytesAt init n a t).2 := h.bytesGo

theorem sramMerge (h : Steady s t) {addr : Nat} {bytes : List Byte} : Steady s (t.sramMerge addr bytes) := by
  refine ite h.sramPut ?_
  have h1 : Steady s (t.sramRead (addr / 4 * 4)).2 := h.sramRead
  refine ite (h1.memory fun w => ?_) h1.sramPut
  simp only [Memory.wf, Bool.and_eq_true] at w ⊢
  exact ⟨mrising_mput _ _ _ _ (Nat.zero_le _) w.1, w.2⟩

theorem putGo (h : Steady s t) {init f : Nat} {l : List Byte} {a : Nat} : Steady s (State.putGo init f l a t) := by
  induction f generalizing t l a with
  | zero => exact h
  | succ f ih => exact ite h (ite (ih (sramMerge h)) (ih (ite h.dramMerge h)))

theorem bytesPut (h : Steady s t) {init : Nat} {l : List Byte} {a : Nat} : Steady s (State.bytesPut init l a t) := h.putGo

theorem bytePut (h : Steady s t) {init addr : Nat} {v : Byte} : Steady s (t.bytePut init addr v) := h.bytesPut

/-! ### Sys2Proof/Machine/MediaOps.lean -/

theorem setBpr (h : Steady s t) {n : Chan} {v : Word} : Steady s (t.setBpr n v) := ite h.wr.raise h.wr

theorem pushTorn (h : Steady s t) {x : Act} {r : Rec4} : Steady s (t.pushTorn x r) := ite h.bump.setWrp.raise h.bump.raise

/-- The sector is named by an opaque function, as in `tear_keeps`. -/
theorem tear (h : Steady s t) {x : Act} {cause : Nat} {neg : Bool} : Steady s (t.tear x cause neg) := by
  unfold State.tear
  extract_lets one
  have hone {second} {u} (j : Steady s u) : Steady s (one second u) := by
    refine ite ?_ j
    obtain ⟨place, hplace⟩ : ∃ p, u.placeNow x second = p := ⟨_, rfl⟩
    rw [hplace]
    split
    · split
      · exact j.pushTorn
      · exact j
    · exact j
  exact hone (hone h)

theorem gatesLow (h : Steady s t) {x : Act} : Steady s (t.gatesLow x) := h.setWrp

theorem hardStop (h : Steady s t) {x : Act} : Steady s (t.hardStop x) := h.tear.gatesLow

theorem abandonChannels (h : Steady s t) {x : Act} : Steady s (t.abandonChannels x) := h.setCh.setCh

theorem loadTaps (h : Steady s t) {n : Chan} {addr : Nat} : Steady s (t.loadTaps n addr) := ite h.setCh h

theorem waveform (h : Steady s t) {x : Act} {addr v : Nat} : Steady s (t.waveform x addr v) := ite h h.setPlk

theorem waveforms (h : Steady s t) {x : Act} {y : Nat} : Steady s (t.waveforms x y) := h.waveform.waveform.waveform

theorem channelBegin1 (h : Steady s t) {x : Act} {second : Bool} {r : MediaRun} {ready : Nat} : Steady s (t.channelBegin1 x
    second r ready) := by
  unfold State.channelBegin1
  extract_lets _ _ _ _ _ s3
  have h3 : Steady s s3 := (ite h.put h.put.put).wr.wr.setBpr
  split
  · exact h
  · exact (ite h3.wr.wr.loadTaps.waveforms h3.wr.wr.loadTaps).setCh

theorem channelBegin (h : Steady s t) {x : Act} {r : MediaRun} {ready : Nat} : Steady s (t.channelBegin x r ready) :=
  ite (ite h.channelBegin1 h).channelBegin1 (ite h.channelBegin1 h)

theorem markBad (h : Steady s t) {ctx p : Nat} : Steady s (t.markBad ctx p) := by
  unfold State.markBad
  split
  · exact h.setResv
  · exact h

theorem sectorFail (h : Steady s t) {n : Chan} {item : Nat} {sec : Sec} {reason swt iter : Nat} : Steady s (t.sectorFail n item
    sec reason swt iter) :=
  ite (ite h.bump.setCh.bump h.bump.setCh).markBad (ite h.bump.setCh.bump h.bump.setCh)

theorem bump64 (h : Steady s t) {lo hi : Nat} : Steady s (t.bump64 lo hi) := h.wr.wr

theorem sectorDeliver (h : Steady s t) {n : Chan} {item : Nat} {sec : Sec} {iter fl : Nat} : Steady s (t.sectorDeliver n item sec
    iter fl) :=
  h.setCh.bump64

theorem toRedet (h : Steady s t) {n : Chan} {item : Nat} {sec : Sec} {reason swt iter : Nat} : Steady s (t.toRedet n item sec
    reason swt iter) :=
  ite h.setCh h.sectorFail

theorem commitRec (h : Steady s t) {n : Chan} {r : Rec4} : Steady s (State.commitRec n t r) := ite h.setCh h.bump.raise

theorem applyContrib (h : Steady s t) {ctx : Nat} {x : Contrib} : Steady s (State.applyContrib ctx t x) := by
  unfold State.applyContrib
  split
  · exact ite h.sample h
  · exact h.count

theorem commitChannel (h : Steady s t) {n : Chan} : Steady s (t.commitChannel n) :=
  foldl (ite (foldl h.setCh fun j => j.commitRec) (foldl h.setCh fun j => j.commitRec).raise) fun j => j.applyContrib

theorem commitRecords (h : Steady s t) {x : Act} : Steady s (t.commitRecords x) := h.commitChannel.commitChannel

theorem channelEnd (h : Steady s t) {n : Chan} {ord : Nat} {r : MediaRun} : Steady s (t.channelEnd n ord r).2 := h.setCh

theorem restLasers (h : Steady s t) {x : Act} : Steady s (t.restLasers x) := by
  unfold State.restLasers
  extract_lets one
  have hone {second} {u} (j : Steady s u) : Steady s (one second u) := ite j j.setWrp
  exact hone (hone h)

theorem setHeaters (h : Steady s t) {x : Act} : Steady s (t.setHeaters x) := h.setWrp

/-! ### Sys2Proof/Machine/LoopOps.lean -/

theorem restartCounts (h : Steady s t) {x : Act} {mask : Nat} : Steady s (t.restartCounts x mask) := h.setLa

theorem lpeReturn (h : Steady s t) {x : Act} : Steady s (t.lpeReturn x) := by
  unfold State.lpeReturn
  split <;> exact h.setLa

theorem setRegion (h : Steady s t) {x : Act} {r : Nat} : Steady s (t.setRegion x r) := (ite h.setLa h).put

theorem seekNow (h : Steady s t) {x : Act} : Steady s (t.seekNow x) := h.lpeReturn.setLa.setRegion

theorem lpeSeek (h : Steady s t) {x : Act} {mask : Nat} : Steady s (t.lpeSeek x mask) :=
  ite h.restartCounts.setLa.setLa h.restartCounts.setLa.seekNow

theorem seekRelease (h : Steady s t) {x : Act} : Steady s (t.seekRelease x) := ite h.seekNow h

theorem lpeOffset (h : Steady s t) {x : Act} {mask : Nat} : Steady s (t.lpeOffset x mask) := h.restartCounts.lpeReturn.setRegion

theorem lpeLoad (h : Steady s t) {x : Act} : Steady s (t.lpeLoad x) := h.setLa

theorem notLoaded (h : Steady s t) {x : Act} : Steady s (t.notLoaded x) := h.setLoaded.put.putb.putb.setMsq

theorem lpeUnload (h : Steady s t) {x : Act} : Steady s (t.lpeUnload x) := h.notLoaded.setLa

theorem uaZero (h : Steady s t) {x : Act} : Steady s (t.uaZero x) := h.setLa.put

theorem uaDrop (h : Steady s t) : Steady s t.uaDrop := by
  unfold State.uaDrop
  extract_lets off
  have hoff {u} {n} (j : Steady s u) : Steady s (off u n) := ite j j.setLa.put
  exact hoff (hoff (hoff (hoff h)))

theorem uaCheck (h : Steady s t) : Steady s t.uaCheck := h.uaDrop.putb

theorem retract (h : Steady s t) {x : Act} : Steady s (t.retract x) :=
  ite h (ite h.notLoaded.uaZero.setLa h.notLoaded.uaZero.setLa.putb)

theorem positionDone (h : Steady s t) {x : Act} {y : WorkKind} : Steady s (t.positionDone x y) := by
  unfold State.positionDone
  split
  · exact h.setLa.setLoaded.putb.setRegion.count
  · exact h.setLa
  · exact h.sample
  · exact h.restartCounts
  · exact h

theorem enterFault (h : Steady s t) {x : Act} : Steady s (t.enterFault x) :=
  ite h (ite h.setFaulted.raise h.setFaulted.raise.putb)

theorem bridgeDown (h : Steady s t) {x : Act} : Steady s (t.bridgeDown x) := h.gatesLow.notLoaded.uaZero.setLa.putb.putb

theorem retReason (h : Steady s t) {x : Act} {r : Nat} : Steady s (t.retReason x r) := h.put

theorem headFrame (h : Steady s t) {x : Act} {second : Bool} {y : Nat} : Steady s (t.headFrame x second y) := h.setPlk

theorem headStrobe (h : Steady s t) {x : Act} : Steady s (t.headStrobe x) := by
  unfold State.headStrobe
  extract_lets p
  split
  · exact h
  · exact h.setPlk

theorem slotStarted (h : Steady s t) {x : Act} : Steady s (t.slotStarted x) := h.restLasers

theorem takeBand (h : Steady s t) {x : Act} : Steady s (t.takeBand x) := h.put

/-! ### Sys2Proof/Machine/SpnOps.lean -/

theorem spnEnter (h : Steady s t) {x : Nat} : Steady s (t.spnEnter x) := by
  unfold State.spnEnter
  extract_lets _ s2 s3 s4
  have h2 : Steady s s2 := ite h.put.putb h.put.putb.putb
  have h3 : Steady s s3 := ite h2 h2.putb
  have h4 : Steady s s4 := ite h3.putb (ite h3 h3.putb)
  exact (ite h4.putb h4).rest

theorem dropToken (h : Steady s t) : Steady s t.dropToken := h.putb

theorem startNow (h : Steady s t) : Steady s t.startNow := h.bump.putb.spnEnter.putb.rest

theorem startDecision (h : Steady s t) {deferrable : Bool} : Steady s (t.startDecision deferrable) :=
  ite h (ite h.rest h.startNow)

theorem deferRelease (h : Steady s t) : Steady s t.deferRelease := ite h.startNow h

theorem stopNow (h : Steady s t) : Steady s t.stopNow :=
  ite (ite h.spnEnter.rest h.spnEnter) (ite (ite h h.spnEnter) (ite (ite h h.spnEnter) (ite h.spnEnter h)))

theorem runClear (h : Steady s t) : Steady s t.runClear := ite h.putb.dropToken.rest h.putb.dropToken.rest.stopNow

theorem refDrop (h : Steady s t) : Steady s t.refDrop := ite h.putb.wr.putb.rest.raise h

theorem refCheck (h : Steady s t) : Steady s t.refCheck := ite h h.refDrop

theorem spnCheck (h : Steady s t) : Steady s t.spnCheck := ite (ite h.runClear h).refCheck.stopNow (ite h.runClear h).refCheck

theorem setSrc (h : Steady s t) {src : Nat} : Steady s (t.setSrc src) := ite h h.put.raise

theorem bemfSrcGone (h : Steady s t) : Steady s t.bemfSrcGone := ite h.setSrc h

theorem bemfLose (h : Steady s t) : Steady s t.bemfLose := by
  unfold State.bemfLose
  extract_lets s1
  have h1 : Steady s s1 := h.putb.raise.bump.bemfSrcGone
  exact ite h (ite (ite h1.rest.putb h1.rest.spnEnter.rest) (ite h1.rest.spnEnter.rest (ite h1.rest.spnEnter h1.rest)))

theorem levelCheck (h : Steady s t) {rpm4 : Nat} {revEnd : Bool} : Steady s (t.levelCheck rpm4 revEnd) :=
  ite h.spnEnter.raise (ite h.spnEnter.raise (ite h.putb.raise h))

theorem senseEnd (h : Steady s t) {amp : Nat} : Steady s (t.senseEnd amp) := by
  unfold State.senseEnd
  extract_lets _ _ _ _ brake
  have hbrake {u} (j : Steady s u) : Steady s (brake u) := j.spnEnter.rest
  exact ite (ite h.rest.spnEnter (ite h.rest.spnEnter.putb h.rest.spnEnter)) (ite (ite h.spnEnter.rest (ite h.spnEnter (hbrake
      h))) (ite h.spnEnter (hbrake h)))

/-! ### Sys2Proof/Machine/Modes.lean -/

theorem lasersOff (h : Steady s t) {x : Act} : Steady s (t.lasersOff x) := h.setWrp

theorem runWatch (h : Steady s t) : Steady s t.runWatch := by
  refine ite h.rest ?_
  split
  · exact h
  · exact h.rest

theorem syncMode (h : Steady s t) : Steady s t.syncMode := by
  unfold State.syncMode
  extract_lets s0 _ _ s1 s2
  have h0 : Steady s s0 := h.spnCheck.runWatch
  have h1 : Steady s s1 := h0.put.put.raise
  have h2 : Steady s s2 := ite h1.lasersOff.lasersOff h1
  exact ite h0 (ite h2.put h2)

/-! ### Sys2Proof/Machine/Squash.lean -/

theorem holdEvent (h : Steady s t) {x : Act} : Steady s (t.holdEvent x) := ite h.raise h

theorem setHold (h : Steady s t) {x : Act} : Steady s (t.setHold x) := h.putb.holdEvent

theorem putBack (h : Steady s t) {x : Staged} : Steady s (t.putBack x) := by
  unfold State.putBack
  split
  · exact h.sramBack
  · split
    · exact h.wr
    · exact h
  · exact h

theorem unstage (h : Steady s t) {x : Act} : Steady s (t.unstage x) := foldl h fun j => j.putBack

theorem trackEscalate (h : Steady s t) {x : Act} {y : Nat} : Steady s (t.trackEscalate x y) :=
  h.setMsq.put.putb.runWatch.setHold.takeBand

theorem trackCount (h : Steady s t) {x : Act} : Steady s (t.trackCount x) := h.setMsq

theorem sqRecord (h : Steady s t) {x : Act} {y causes : Nat} {join : Bool} : Steady s (t.sqRecord x y causes join) :=
  h.put.put.put

theorem sqJoin (h : Steady s t) {x : Act} {y causes : Nat} {counts : Bool} : Steady s (t.sqJoin x y causes counts) :=
  ite (ite h.setMsq.sqRecord.trackCount h.setMsq.sqRecord).setMsq.trackEscalate (ite h.setMsq.sqRecord.trackCount
    h.setMsq.sqRecord)

theorem dropUnsent (h : Steady s t) {x : Act} : Steady s (t.dropUnsent x) := h.rest

theorem undoHeads (h : Steady s t) {x : Act} : Steady s (t.undoHeads x) := h.setPlk

theorem squash (h : Steady s t) {x : Act} {causes : Nat} {counts : Bool} : Steady s (t.squash x causes counts) := by
  unfold State.squash
  split
  · exact h
  · refine ite h.sqJoin ?_
    extract_lets _ _ s2 _ _ _ s3 s4 s5 s6
    have h3 : Steady s s3 := h.hardStop.setCmps.abandonChannels.dropUnsent.unstage.setMsq.lpeReturn.selectKey.undoHeads
      |>.setHeaters.restLasers
    have h5 : Steady s s5 := h3.sqRecord.bump.count.raise
    have h6 : Steady s s6 := ite h5.trackCount h5
    exact ite h6.setMsq.trackEscalate h6

theorem squashBy (h : Steady s t) {x : Act} {causes : Nat} : Steady s (t.squashBy x causes) := h.squash

theorem squashBoth (h : Steady s t) {causes : Nat} : Steady s (t.squashBoth causes) := h.squashBy.squashBy

theorem leaveRun (h : Steady s t) {x : Act} {y : Nat} {st : SlotState} {fcode : Nat} : Steady s (t.leaveRun x y st fcode) :=
  h.setMsq.runWatch.holdEvent.takeBand

theorem progError (h : Steady s t) {x : Act} {pc code : Nat} : Steady s (t.progError x pc code) := by
  unfold State.progError
  split
  · exact h
  · exact h.squash.put.raise.leaveRun

theorem ctxEnd (h : Steady s t) {x : Act} {bit ctx : Nat} : Steady s (t.ctxEnd x bit ctx) := by
  unfold State.ctxEnd
  extract_lets _ s1
  have h1 : Steady s s1 := by
    unfold s1
    split
    · exact ite h.squash.raise.leaveRun h
    · exact h
  exact foldl h1 fun j => ite j.setSlot.raise j

theorem restart (h : Steady s t) {x : Act} : Steady s (t.restart x) := by
  unfold State.restart
  split
  · exact h
  · exact ite (ite h.setMsq.runWatch.setHold.takeBand h.setMsq) h

/-! ### Sys2Proof/Machine/Angle.lean -/

theorem moveSpeed (h : Steady s t) {measured : Nat} : Steady s (t.moveSpeed measured) := h.wr

theorem checkBclk (h : Steady s t) {old : Nat} : Steady s (t.checkBclk old) := foldl h fun j => ite j.raise j

theorem resync (h : Steady s t) {corrected : Nat} : Steady s (t.resync corrected) := h.rest.bump.raise.squashBoth

theorem wrapStep (h : Steady s t) : Steady s t.wrapStep := by
  unfold State.wrapStep
  extract_lets _ s1
  have h1 : Steady s s1 := by
    unfold s1
    split
    · exact h.rest.put
    · exact h
  exact h1.rest.count

theorem setLastErr (h : Steady s t) {e : Int} : Steady s (t.setLastErr e) := h.wr

theorem correct (h : Steady s t) {corrected lim : Nat} : Steady s (t.correct corrected lim) :=
  ite h.setLastErr.rest.putb.raise (ite h.setLastErr.resync (ite (ite (ite h.setLastErr.rest h.setLastErr.rest.wrapStep)
    h.setLastErr.rest) h.setLastErr.rest))

theorem measure (h : Steady s t) {last : Option (Nat × Nat)} {corrected : Nat} {sameSrc : Bool} :
    Steady s (t.measure last corrected sameSrc).1 := by
  obtain ⟨speed, hspeed⟩ : ∃ f, speedOf = f := ⟨_, rfl⟩
  unfold State.measure
  rw [hspeed]
  extract_lets here old
  split
  · refine iteFst ?_ h
    split
    · dsimp only
      exact h.moveSpeed.checkBclk
    · exact h
  · exact h

theorem exec_servoCorrection (h : Steady s t) {wedge : Nat} : SteadyOut s (execServoCorrection wedge t) := by
  unfold execServoCorrection
  extract_lets x
  split
  · exact h.next
  · extract_lets
    exact outIte h.next h.measure.correct.rest.put.setSrc.syncMode.next

theorem exec_bemfCorrection (h : Steady s t) {x angle : Nat} : SteadyOut s (execBemfCorrection x angle t) :=
  outIte h.next (outIte h.rest.next (outIte h.next (outIte h.next h.measure.correct.rest.setSrc.syncMode.next)))

theorem angleLoss (h : Steady s t) : Steady s t.angleLoss := h.rest.putb.setSrc.raise.squashBoth.syncMode

theorem checkSource (h : Steady s t) : Steady s t.checkSource := ite h (ite h.angleLoss (ite h.rest.setSrc h.setSrc))

theorem exec_servoSourceTimeout (h : Steady s t) : SteadyOut s (execServoSourceTimeout t) := h.checkSource.next

theorem exec_angleLoss (h : Steady s t) : SteadyOut s (execAngleLoss t) := (ite h.angleLoss h).next

theorem exec_masterSwitch (h : Steady s t) : SteadyOut s (execMasterSwitch t) := outIte h.next h.putb.putb.raise.next

/-! ### Sys2Proof/Machine/Guard.lean -/

theorem guardHold (h : Steady s t) {x : Act} {bits : Nat} {neg : Bool} : Steady s (t.guardHold x bits neg) :=
  ite h.tear.gatesLow.setWrp.put.bump.raise h.setWrp.put

theorem wgTripC (h : Steady s t) {x : Act} {bits : Nat} {neg counts : Bool} : Steady s (t.wgTripC x bits neg counts) :=
  ite h (ite h.guardHold h.guardHold.squash)

theorem wgTrip (h : Steady s t) {x : Act} {bits : Nat} {neg : Bool} : Steady s (t.wgTrip x bits neg) := h.wgTripC

theorem wgTripBoth (h : Steady s t) {bits : Nat} : Steady s (t.wgTripBoth bits) := h.wgTrip.wgTrip

theorem wgRelease (h : Steady s t) {x : Act} {bits : Nat} : Steady s (t.wgRelease x bits) := ite h.setWrp.raise h.setWrp

theorem wgReleaseBoth (h : Steady s t) {bits : Nat} : Steady s (t.wgReleaseBoth bits) := h.wgRelease.wgRelease

theorem clearTripped (h : Steady s t) {x : Act} : Steady s (t.clearTripped x) := h.setWrp

theorem pesTrip (h : Steady s t) {x : Act} : Steady s (t.pesTrip x) := ite h.wgTrip h

theorem shockTrip (h : Steady s t) {x : Act} {bits : Nat} {neg : Bool} : Steady s (t.shockTrip x bits neg) := h.rest.wgTrip.wgTrip

/-! ### Sys2Proof/Machine/ValeOps.lean -/

theorem announce (h : Steady s t) {x : Act} {c t1 t2 : Nat} : Steady s (t.announce x c t1 t2) := by
  unfold State.announce
  split
  · exact h
  · exact ite h h.rest

theorem annUsed (h : Steady s t) {x : Act} {c t1 t2 : Nat} : Steady s (t.annUsed x c t1 t2) := by
  unfold State.annUsed
  split
  · exact h
  · exact h.rest

/-! ### Sys2Proof/Machine/Issue.lean -/

theorem issue (h : Steady s t) {x : Act} {op : Nat} {g n : Bool} {p : BitVec 2} {legal : Bool}
    {body : Nat → Arch → State → Except Nat State} (k : ∀ {i a u}, Steady s u → SteadyExc s (body i a u)) :
    Steady s (t.issue x op g n p legal body) := by
  unfold State.issue
  extract_lets m
  split
  · exact h
  · refine ite h (ite h.progError (ite h.progError ?_))
    extract_lets _ _ s1
    have h1 : Steady s s1 := h.setMsq
    refine ite h1 (ite h.progError ?_)
    split
    case h_1 e => exact k h1 _ e
    case h_2 => exact h.progError

theorem issueR (h : Steady s t) {x : Act} {op : Nat} {f : FmtR} {legal : Bool} {body : Nat → Arch → State → Except Nat State} (k
    : ∀ {i a u}, Steady s u → SteadyExc s (body i a u)) : Steady s (t.issueR x op f legal body) :=
  h.issue k

theorem issueQ (h : Steady s t) {x : Act} {op : Nat} {f : FmtQ} {legal : Bool} {body : Nat → Arch → State → Except Nat State} (k
    : ∀ {i a u}, Steady s u → SteadyExc s (body i a u)) : Steady s (t.issueQ x op f legal body) :=
  h.issue (fun j => excIte (k j) excError)

theorem setSpec (h : Steady s t) {x : Act} {y : Nat} {a : Arch} : Steady s (t.setSpec x y a) := h.setMsq

theorem addWork (h : Steady s t) {x : Act} {w : Work} : Steady s (t.addWork x w) := h.setMsq

theorem armQual {x : Act} {ang k : Nat} (h : Steady s t) (e : t.armQual x ang = some (k, u)) : Steady s u := by
  unfold State.armQual at e
  split at e
  · cases e; exact h.setCmps
  · cases e

theorem zoneClocks (h : Steady s t) {x : Act} {c : Nat} : Steady s (t.zoneClocks x c) := by
  unfold State.zoneClocks
  extract_lets one
  have hone {second} {u} (j : Steady s u) : Steady s (one second u) := ite j.setBpr j
  exact hone (hone h)

theorem beginEffect (h : Steady s t) {x : Act} {w : Work} : Steady s (t.beginEffect x w) := by
  unfold State.beginEffect
  split
  · exact h.annUsed.setMsq.zoneClocks.lpeSeek
  · exact h
  · exact h.setMsq.lpeOffset
  · exact h.setMsq.headFrame.headStrobe
  · exact h.lpeLoad
  · exact h.lpeUnload
  · exact h
  · exact h
  · exact h.setMsq.channelBegin
  · exact h

theorem heldAgain (h : Steady s t) {x : Act} {w : Work} : Steady s (t.heldAgain x w) := by
  unfold State.heldAgain
  split
  · exact h.announce
  · exact h

theorem beginItems (h : Steady s t) {x : Act} {before l : List Work} : Steady s (State.beginItems x before l t) := by
  induction l generalizing t before with
  | nil => exact h
  | cons w l ih =>
    unfold State.beginItems
    refine ite (ih h) ?_
    split
    · exact h.progError
    · refine ite ?_ ?_
      · split
        · split
          · rename_i e
            exact ih (armQual h e).setMsq
          · exact ih h
        · exact ih h
      · refine ite (ih h.setMsq.heldAgain) ?_
        split
        · exact h.progError
        · exact ih h.setMsq.beginEffect

theorem beginReady (h : Steady s t) {x : Act} : Steady s (t.beginReady x) := h.beginItems

theorem endWait (h : Steady s t) {x : Act} : Steady s (t.endWait x) := h.setMsq

theorem registerCommit (h : Steady s t) {x : Act} {y kind : Nat} : Steady s (t.registerCommit x y kind) := h.setMsq

theorem waiteEnd (h : Steady s t) {x : Act} {y events pred : Nat} : Steady s (t.waiteEnd x y events pred) :=
  ite h.setMsq.endWait.put h.setMsq.endWait

theorem resolveWait (h : Steady s t) {x : Act} : Steady s (t.resolveWait x) := by
  unfold State.resolveWait
  extract_lets m
  split
  · split
    · exact ite h.setMsq.endWait h
    · exact ite h.endWait h
    · exact ite h.registerCommit h
    · exact ite h.registerCommit h
    · exact ite h.waiteEnd h
    · split
      · rename_i e
        exact (armQual h e).setMsq
      · exact h
    · exact h
  · exact h

theorem advance (h : Steady s t) {x : Act} : Steady s (t.advance x) := ite h h.beginReady.resolveWait

theorem msqCmpFired (h : Steady s t) {x : Act} {y : Nat} : Steady s (t.msqCmpFired x y) := h.setMsq.advance

/-! ### Sys2Proof/Machine/BufOps.lean -/

theorem ctxWord (h : Steady s t) {n i : Nat} : Steady s (t.ctxWord n i).2 := iteSnd (ite h.sramRead.raise h.sramRead) h.sramWord

theorem ctxPut (h : Steady s t) {n i : Nat} {w : Word} : Steady s (t.ctxPut n i w) := h.sramPut

theorem setCtx (h : Steady s t) {n : Nat} {c : Ctx} : Steady s (t.setCtx n c) := h.rest.ctxPut.ctxPut

theorem ccxCredit (h : Steady s t) {x : Act} {n st : Nat} {fin : Bool} : Steady s (t.ccxCredit x n st fin) := by
  unfold State.ccxCredit
  split
  · exact h.setSlot.setCtx
  · exact h

theorem freeResv (h : Steady s t) {n : Nat} : Steady s (t.freeResv n) := h.rest

theorem post (h : Steady s t) {port tag status : Nat} : Steady s (t.post port tag status) := h.rest

theorem setKs (h : Steady s t) {i : Nat} {x : KeySlot} : Steady s (t.setKs i x) := h.rest

theorem unuseSlot (h : Steady s t) {i : Nat} : Steady s (t.unuseSlot i) := h.setKs

theorem ctxFree (h : Steady s t) {n : Nat} {c : Ctx} : Steady s (t.ctxFree n c) := by
  unfold State.ctxFree
  extract_lets _ _ s2 s3
  have h2 : Steady s s2 := (ite h.rest (ite h h.post)).freeResv
  have h3 : Steady s s3 := by
    unfold s3
    split
    · exact h2.unuseSlot
    · exact h2
  exact h3.setCtx.rest

theorem endCtx (h : Steady s t) {n status bit : Nat} {silent : Bool} : Steady s (t.endCtx n status bit silent) := by
  unfold State.endCtx
  split
  · exact h
  · refine ite ?_ (ite h.ctxFree h.setCtx.rest.ctxEnd.ctxEnd)
    split
    · exact ite h.setCtx h
    · exact h

theorem endCtxs (h : Steady s t) {p : Ctx → Bool} {status bit : Nat} {silent : Bool} : Steady s (t.endCtxs p status bit silent) :=
  foldl h fun j => ite j.endCtx j

theorem withhold (h : Steady s t) {n : Nat} {second : Bool} : Steady s (t.withhold n second) := by
  unfold State.withhold
  split
  · exact h
  · exact ite h.setResv.rest.raise h

theorem release (h : Steady s t) {n : Nat} {second : Bool} : Steady s (t.release n second) := by
  unfold State.release
  split
  · exact h
  · exact ite h.setResv h

theorem bufMediaPos (h : Steady s t) {n p : Nat} : Steady s (t.bufMediaPos n p) := by
  unfold State.bufMediaPos
  split
  · exact h
  · exact ite h.setResv.release.release h.setResv.withhold.withhold

theorem fillPos (h : Steady s t) {n p : Nat} : Steady s (t.fillPos n p) := by
  unfold State.fillPos
  split
  · exact h
  · exact h.setResv

theorem tryGrant (h : Steady s t) {n : Nat} (e : t.tryGrant n = some u) : Steady s u := by
  unfold State.tryGrant at e
  split at e
  · cases e; exact h.rest
  · split at e
    · cases e
    · cases e; exact h.rest.bump.raise

/-! ### Sys2Proof/Machine/Memory.lean -/

theorem setRet (h : Steady s t) {c : Nat} {v : Int} : Steady s (t.setRet c v) := ite h.rest h.rest

theorem svcEnd (h : Steady s t) {kind : Nat} {v : Int} : Steady s (t.svcEnd kind v) := by
  unfold State.svcEnd
  split
  · exact ite h.rest.setRet h
  · exact h

theorem exec_dramTrainingDone (h : Steady s t) : SteadyOut s (execDramTrainingDone t) :=
  outIte h.next (outIte h.raise.next h.putb.put.next)

theorem exec_dramTrainingTimeout (h : Steady s t) : SteadyOut s (execDramTrainingTimeout t) :=
  outIte h.next (outIte h.next (outIte h.memRest.next h.raise.putb.syncMode.next))

theorem exec_rankRetrain (h : Steady s t) {rank : Nat} : SteadyOut s (execRankRetrain rank t) := h.put.next

theorem exec_rankRetrainDone (h : Steady s t) {rank : Nat} : SteadyOut s (execRankRetrainDone rank t) :=
  outIte h.put.raise.next h.next

theorem exec_dramTemperaturePoll (h : Steady s t) {hot : Bool} : SteadyOut s (execDramTemperaturePoll hot t) :=
  outIte h.next (outIte (ite h.memRest h.memRest.putb.raise).next (ite h.memRest.putb h.memRest).next)

theorem exec_refreshWatchdog (h : Steady s t) : SteadyOut s (execRefreshWatchdog t) := h.putb.raise.next

theorem zeroFill (h : Steady s t) : Steady s t.zeroFill := by
  refine ite h (h.putb.memory fun w => ?_)
  simp only [Memory.wf, Bool.and_eq_true] at w ⊢
  exact ⟨w.1, mrising_filter _ _ _ w.2⟩

theorem exec_zeroFill (h : Steady s t) : SteadyOut s (execZeroFill t) := h.zeroFill.next

theorem zeros (h : Steady s t) {n a : Nat} : Steady s (State.zeros n a t) := by
  induction n generalizing t a with
  | zero => exact h
  | succ n ih => exact ih h.dramPut

theorem exec_zeroFillDone (h : Steady s t) : SteadyOut s (execZeroFillDone t) := outIte h.next h.zeros.putb.raise.svcEnd.next

theorem exec_correctionTrack (h : Steady s t) : SteadyOut s (execCorrectionTrack t) := by
  unfold execCorrectionTrack
  split
  · exact h.memRest.track.next
  · exact h.next

theorem freeCet (h : Steady s t) : Steady s t.freeCet := h.memory id

theorem exec_trackerEntryFree (h : Steady s t) : SteadyOut s (execTrackerEntryFree t) := h.freeCet.next

theorem scrubWord (h : Steady s t) {a : Nat} : Steady s (t.scrubWord a) := by
  unfold State.scrubWord
  split
  · exact (h.dramCell.ofSnd ‹_›).memUe
  · split
    · exact (h.dramCell.ofSnd ‹_›)
    · exact ite (h.dramCell.ofSnd ‹_›).memCe.dramSet (h.dramCell.ofSnd ‹_›).memCe
    · exact (h.dramCell.ofSnd ‹_›).memUe

theorem exec_scrubGranule (h : Steady s t) {granule : Nat} : SteadyOut s (execScrubGranule granule t) :=
  outIte h.next (outIte (foldl h fun j => j.scrubWord).put.raise.next (foldl h fun j => j.scrubWord).put.next)

theorem activate (h : Steady s t) {n : Nat} : Steady s (t.activate n) := by
  unfold State.activate
  split
  · exact h
  · exact ite (ite h.setCtx.ctxPut.rest (ite h.setCtx.ctxPut.rest h.setCtx.ctxPut.rest)) h.setCtx.ctxPut

theorem wantBuf (h : Steady s t) {n : Nat} : Steady s (t.wantBuf n) := by
  unfold State.wantBuf
  extract_lets wait
  have hwait {u} (j : Steady s u) : Steady s (wait u) := j.rest.bump.raise
  refine ite ?_ (hwait h)
  split
  · rename_i e
    exact (tryGrant h e).activate
  · exact hwait h

theorem exec_bufferReservationGrant (h : Steady s t) : SteadyOut s (execBufferReservationGrant t) := by
  unfold execBufferReservationGrant
  split
  · exact h.next
  · split
    · rename_i e
      exact (tryGrant h e).rest.activate.next
    · exact h.next

theorem bufPool (h : Steady s t) {v : Word} : Steady s (t.bufPool v) := ite h.raise h.wr

theorem exec_bufPoolWrite (h : Steady s t) {v : Word} : SteadyOut s (execBufPoolWrite v t) := h.bufPool.next

theorem segRelease (h : Steady s t) {seg : Nat} : Steady s (t.segRelease seg) := ite h.rest h

theorem exec_segmentRelease (h : Steady s t) {seg : Nat} : SteadyOut s (execSegmentRelease seg t) := h.segRelease.next

/-! ### Sys2Proof/Machine/CphOps.lean -/

theorem useSlot (h : Steady s t) {i : Nat} : Steady s (t.useSlot i) := h.setKs

theorem admitWith (h : Steady s t) {n slot : Nat} : Steady s (t.admitWith n slot) := by
  unfold State.admitWith
  split
  · exact h
  · exact ite h.endCtx (ite h.setCtx.rest h.setCtx.useSlot.ctxPut.wantBuf)

theorem loadCounter (h : Steady s t) {key : BitVec 512} : Steady s (t.loadCounter key).2 := by
  unfold State.loadCounter
  extract_lets id
  cases mfind t.hwd.records id with
  | some l => exact h.rest
  | none => exact h.free.rest

theorem stagedCounter (h : Steady s t) {i : Nat} : Steady s (t.stagedCounter i).2 := iteSnd h.loadCounter h

theorem activateKey (h : Steady s t) {i : Nat} : Steady s (t.activateKey i) :=
  ite (foldl h.stagedCounter.setKs.raise.rest fun j => j.admitWith) h

theorem eraseSlot (h : Steady s t) {i : Nat} : Steady s (t.eraseSlot i) := ite (foldl h.setKs.endCtxs fun j => j.endCtx) h

theorem jobWords (h : Steady s t) : Steady s t.jobWords.2 := by
  refine foldlSnd h fun j e => ?_
  split at e
  cases e
  exact j.sramWord.ofSnd ‹_›

theorem jobEnd (h : Steady s t) {status : Nat} : Steady s (t.jobEnd status) := h.sramPut.put.raise

theorem untrust (h : Steady s t) {addr len : Nat} : Steady s (t.untrust addr len) := ite h.putb h.wr.put.put.putb

theorem authFail (h : Steady s t) : Steady s t.authFail := h.bump.raise

theorem gcmMove (h : Steady s t) {x : KeySlot} {o ctr src dst tag len aadlen tlen : Nat} : Steady s (t.gcmMove x o ctr src dst
    tag len aadlen tlen) := by
  exact ite h.bytesAt.bytesPut.jobEnd (ite (ite h.bytesAt h.bytesAt.bytesPut).bytesPut.jobEnd (ite (ite h.bytesAt
      h.bytesAt.bytesPut).bytesAt.jobEnd (ite (ite h.bytesAt h.bytesAt.bytesPut).bytesAt.jobEnd (ite (ite h.bytesAt
      h.bytesAt.bytesPut).bytesAt.authFail.untrust (ite h.bytesAt h.bytesAt.bytesPut).bytesAt.authFail).jobEnd)))

theorem gcmTake (h : Steady s t) {slot : Nat} {x : KeySlot} {ctr : Nat} : Steady s (t.gcmTake slot x ctr) :=
  h.setKs.sramPut.sramPut

theorem gcmRun (h : Steady s t) {ws : List Nat} {o : Nat} : Steady s (t.gcmRun ws o) := by
  refine ite h.jobEnd (ite h.jobEnd (ite ?_ h.gcmMove))
  split
  · exact h.gcmTake.gcmMove
  · exact ite h h.setKs.jobEnd

theorem gcmJob (h : Steady s t) {op : Nat} : Steady s (t.gcmJob op) := ite h (ite h h.jobWords.gcmRun)

theorem laneMasks (h : Steady s t) : Steady s t.laneMasks := h.rest

/-! ### Sys2Proof/Machine/Cph.lean -/

theorem exec_maskDrbgReseed (h : Steady s t) : SteadyOut s (execMaskDrbgReseed t) :=
  outIte h.next (outIte h.rest.putb.next h.putb.raise.next)

theorem exec_keyActivation (h : Steady s t) {sys : Bool} {index : Nat} : SteadyOut s (execKeyActivation sys index t) :=
  outIte h.next h.activateKey.next

theorem hwdAnswer (h : Steady s t) {status : Nat} {rsp : List Word} : Steady s (t.hwdAnswer status rsp) :=
  (foldl h fun j => j.wr).wr.put.putb.raise.svcEnd

theorem exec_eraseComplete (h : Steady s t) {sys : Bool} {index : Nat} : SteadyOut s (execEraseComplete sys index t) := by
  unfold execEraseComplete
  extract_lets _ _ _ s1
  have h1 : Steady s s1 := h.setKs.bump.raise
  refine outIte h.next ?_
  split
  · exact outIte h1.next (ite h1.rest.hwdAnswer h1.rest).next
  · exact h1.next

theorem lrNext (h : Steady s t) : Steady s t.lrNext := h.put

theorem lrRead (h : Steady s t) : Steady s t.lrRead.2 := h.lrNext

theorem lrWrite (h : Steady s t) {v : Word} : Steady s (t.lrWrite v) := h.rest.lrNext

theorem setRead (h : Steady s t) {i : Initiator} {v : BitVec 64} : Steady s (t.setRead i v) := h.rest

theorem exec_lrdataAccess (h : Steady s t) {i : Initiator} {write : Bool} {v : Word} : SteadyOut s (execLrdataAccess i write v t)
    :=
  outIte h.lrWrite.next h.lrRead.setRead.next

theorem exec_gcmEncrypt (h : Steady s t) : SteadyOut s (execGcmEncrypt t) := h.gcmJob.next

theorem exec_gcmDecrypt (h : Steady s t) : SteadyOut s (execGcmDecrypt t) := h.gcmJob.next

theorem exec_gmacGenerate (h : Steady s t) : SteadyOut s (execGmacGenerate t) := h.gcmJob.next

theorem exec_gmacVerify (h : Steady s t) : SteadyOut s (execGmacVerify t) := h.gcmJob.next

theorem exec_counterReservation (h : Steady s t) {index : Nat} {ok : Bool} : SteadyOut s (execCounterReservation index ok t) :=
  outIte h.next (outIte h.setKs.rest.next h.setKs.next)

/-! ### Sys2Proof/Machine/Heartwood.lean -/

theorem mailbox (h : Steady s t) {code : Nat} {body : State → State} (k : ∀ {u}, Steady s u → Steady s (body u)) : Steady s
    (t.mailbox code body) :=
  ite h (ite h.hwdAnswer (k h))

theorem freeWords (h : Steady s t) {n : Nat} : Steady s (State.freeWords n t).2 := by
  induction n generalizing t with
  | zero => exact h
  | succ n ih => exact ih h.free

theorem generate (h : Steady s t) {n : Nat} : Steady s (t.generate n).2 := h.freeWords.rest

theorem rewrite (h : Steady s t) {sys : Bool} {idx : Nat} {key : BitVec 512} {fixed : Word} : Steady s (t.rewrite sys idx key
    fixed) :=
  ite h.setKs (ite h.loadCounter.setKs h.setKs)

theorem exec_getinfo (h : Steady s t) : SteadyOut s (execGetinfo t) := (h.mailbox (fun j => j.hwdAnswer)).next

theorem exec_keygen (h : Steady s t) {flash : Bool} : SteadyOut s (execKeygen flash t) := by
  refine next (h.mailbox (fun j => ?_))
  split
  · exact j.hwdAnswer
  · exact j.hwdAnswer
  · exact ite j.hwdAnswer (ite j.generate.hwdAnswer (ite j.generate.hwdAnswer j.generate.rewrite.hwdAnswer))

theorem exec_keyload (h : Steady s t) {flash : Bool} : SteadyOut s (execKeyload flash t) := by
  refine next (h.mailbox (fun j => ?_))
  split
  · exact j.hwdAnswer
  · exact j.hwdAnswer
  · split
    · exact j.hwdAnswer
    · exact ite j.hwdAnswer (ite j.hwdAnswer (ite j.hwdAnswer j.rewrite.hwdAnswer))

theorem exec_keywrap (h : Steady s t) : SteadyOut s (execKeywrap t) := by
  refine next (h.mailbox (fun j => ?_))
  split
  · exact j.hwdAnswer
  · exact ite j.hwdAnswer (ite j.hwdAnswer j.hwdAnswer)

theorem exec_keyerase (h : Steady s t) : SteadyOut s (execKeyerase t) := by
  refine next (h.mailbox (fun j => ?_))
  split
  · exact j.hwdAnswer
  · exact ite j.hwdAnswer (ite (foldl j fun j => j.eraseSlot).rest.syncMode (foldl j fun j => j.eraseSlot).hwdAnswer)

theorem exec_random (h : Steady s t) : SteadyOut s (execRandom t) :=
  (h.mailbox (fun j => ite j.hwdAnswer (ite j.hwdAnswer j.generate.hwdAnswer))).next

theorem imgTake (h : Steady s t) {addr len : Nat} {patch : Option PatchImg} : Steady s (t.imgTake addr len patch) := h.rest

theorem imgJudge (h : Steady s t) {addr len : Nat} {x : List Byte} {ok sigs : Bool} {patch : Option PatchImg} : Steady s
    (t.imgJudge addr len x ok sigs patch) :=
  ite h.hwdAnswer (ite h.hwdAnswer h.imgTake.hwdAnswer)

theorem imgCheck (h : Steady s t) {sigs : Bool} {patch : Option PatchImg} : Steady s (t.imgCheck sigs patch) :=
  ite h.hwdAnswer h.bytesAt.imgJudge

theorem exec_imgverify (h : Steady s t) {sigs : Bool} {patch : Option PatchImg} : SteadyOut s (execImgverify sigs patch t) :=
  (h.mailbox (fun j => j.imgCheck)).next

theorem setMeas (h : Steady s t) {i : Nat} {d : List Word} : Steady s (t.setMeas i d) := h.rest

theorem exec_patchload (h : Steady s t) : SteadyOut s (execPatchload t) := by
  refine next (h.mailbox (fun j => ite j.hwdAnswer ?_))
  split
  · exact j.hwdAnswer
  · exact j.setMsq.put.put.raise.setMeas.hwdAnswer

theorem exec_rollback (h : Steady s t) {flash : Bool} : SteadyOut s (execRollback flash t) :=
  (h.mailbox (fun j => ite j.hwdAnswer (ite j.hwdAnswer (ite j.hwdAnswer j.rest.put.hwdAnswer)))).next

theorem exec_measure (h : Steady s t) : SteadyOut s (execMeasure t) := (h.mailbox (fun j => ite j.hwdAnswer j.hwdAnswer)).next

theorem exec_sign (h : Steady s t) : SteadyOut s (execSign t) :=
  (h.mailbox fun {u} j =>
    have hg : Steady s (u.generate 24).2 := j.generate
    ite j.hwdAnswer (ite j.hwdAnswer hg.hwdAnswer)).next

theorem sessSlot (h : Steady s t) {idx : Nat} : Steady s (t.sessSlot idx) := by
  unfold State.sessSlot
  have h1 : Steady s (t.generate 11).2 := h.generate
  exact h1.setKs

theorem exec_sesskey (h : Steady s t) : SteadyOut s (execSesskey t) :=
  (h.mailbox fun {u} j =>
    have hg : Steady s (u.generate 24).2 := j.generate
    ite j.hwdAnswer (ite j.hwdAnswer (ite j.hwdAnswer hg.sessSlot.sessSlot.hwdAnswer))).next

theorem exec_dbgchal (h : Steady s t) : SteadyOut s (execDbgchal t) :=
  (h.mailbox fun {u} j =>
    have hg : Steady s (u.generate 8).2 := j.generate
    ite j.hwdAnswer (ite j.hwdAnswer hg.rest.hwdAnswer)).next

theorem exec_dbgresp (h : Steady s t) {ok : Bool} : SteadyOut s (execDbgresp ok t) := by
  refine next (h.mailbox (fun j => ?_))
  split
  · exact j.hwdAnswer
  · exact ite j.rest.hwdAnswer (ite j.rest.hwdAnswer j.rest.rest.put.put.raise.hwdAnswer)

theorem exec_mailboxTimeout (h : Steady s t) : SteadyOut s (execMailboxTimeout t) := outIte h.next h.wr.put.putb.raise.svcEnd.next

theorem keyStart (h : Steady s t) {x : Nat} : Steady s (t.keyStart x) := ite h (ite h.setKs h.setKs.rest)

theorem hwdDrop (h : Steady s t) : Steady s t.hwdDrop := h.rest

theorem maskSeed (h : Steady s t) : Steady s t.maskSeed := h.rest.putb

theorem hwdStart (h : Steady s t) {root ent : Bool} : Steady s (t.hwdStart root ent) :=
  (ite (foldl h.putb.putb fun j => j.keyStart).hwdDrop.maskSeed (foldl h.putb.putb fun j => j.keyStart).hwdDrop.raise).putb

theorem exec_heartwoodReset (h : Steady s t) {root ent : Bool} : SteadyOut s (execHeartwoodReset root ent t) :=
  h.putb.hwdStart.putb.raise.next

theorem exec_debugNonceLapse (h : Steady s t) : SteadyOut s (execDebugNonceLapse t) := by
  unfold execDebugNonceLapse
  split
  · exact outIte h.rest.next h.next
  · exact h.next

theorem exec_entropyHealthFailure (h : Steady s t) : SteadyOut s (execEntropyHealthFailure t) := h.putb.raise.next

/-! ### Sys2Proof/Machine/Spindle.lean -/

theorem setSpn (h : Steady s t) {p : SpnSt} : Steady s (t.setSpn p) := h.rest

theorem crossTake (h : Steady s t) {place : Nat} : Steady s (t.crossTake place) := h.putb.setSpn

theorem bemfGain (h : Steady s t) : Steady s t.bemfGain := ite h.putb.putb.raise h

theorem speedUpdate (h : Steady s t) : Steady s t.speedUpdate := ite h.put.putb h

theorem crossAct (h : Steady s t) {place amp : Nat} : Steady s (t.crossAct place amp) :=
  ite (ite h.senseEnd h) (ite (ite h.startDecision h) (ite (ite h.spnEnter.setSpn h) (ite (ite h.spnEnter h.levelCheck)
    h.levelCheck)))

theorem crossBad (h : Steady s t) {place : Nat} : Steady s (t.crossBad place) := ite h.setSpn (ite h.setSpn.bemfLose h.setSpn)

theorem crossing (h : Steady s t) {place amp : Nat} : Steady s (t.crossing place amp) :=
  ite (ite h h.setSpn) (ite h.bemfLose (ite h.crossTake.bemfGain.speedUpdate.crossAct h.crossBad))

theorem exec_bemfCrossing (h : Steady s t) {place amp : Nat} {handoff : Bool} : SteadyOut s (execBemfCrossing place amp handoff
    t) :=
  outIte h.next (outIte (outIte h.spnEnter.setSpn.crossing.syncMode.next h.next) h.crossing.syncMode.next)

theorem exec_bemfLoss (h : Steady s t) : SteadyOut s (execBemfLoss t) := h.bemfLose.syncMode.next

theorem exec_bemfCoastTimeout (h : Steady s t) : SteadyOut s (execBemfCoastTimeout t) :=
  outIte h.setSpn.raise.runClear.syncMode.next h.next

theorem exec_startDecision (h : Steady s t) : SteadyOut s (execStartDecision t) := outIte h.startDecision.syncMode.next h.next

theorem exec_senseTimeout (h : Steady s t) {amp : Nat} : SteadyOut s (execSenseTimeout amp t) :=
  outIte h.senseEnd.syncMode.next h.next

theorem exec_probeComplete (h : Steady s t) {peaks : List Nat} : SteadyOut s (execProbeComplete peaks t) :=
  outIte h.next (outIte h.spnEnter.setSpn.syncMode.next (outIte h.setSpn.next h.raise.runClear.syncMode.next))

theorem exec_handoffTimeout (h : Steady s t) : SteadyOut s (execHandoffTimeout t) :=
  outIte h.setSpn.raise.runClear.syncMode.next h.next

theorem exec_keMeasurementStart (h : Steady s t) : SteadyOut s (execKeMeasurementStart t) :=
  outIte h.next (outIte (outIte h.setSpn.next h.next) (outIte h.setSpn.next h.next))

theorem keDev (h : Steady s t) {ke nom : Nat} : Steady s (t.keDev ke nom).2 := iteSnd h.free (iteSnd h (iteSnd h.free h.free))

theorem exec_keMeasurementDone (h : Steady s t) {ke : Nat} : SteadyOut s (execKeMeasurementDone ke t) := by
  exact outIte h.next (outIte (ite (ite h.keDev.put.put.putb.setSpn.raise
      h.keDev.put.put.putb.setSpn).raise.putb.runClear.syncMode (ite h.keDev.put.put.putb.setSpn.raise
      h.keDev.put.put.putb.setSpn).raise.putb).next (ite h.keDev.put.put.putb.setSpn.raise h.keDev.put.put.putb.setSpn).next)

theorem exec_kereq (h : Steady s t) : SteadyOut s (execKereq t) := h.putb.next

theorem kenom (h : Steady s t) {v : Word} : Steady s (t.kenom v) := h.wr.putb

theorem exec_kenomWrite (h : Steady s t) {v : Word} : SteadyOut s (execKenomWrite v t) := h.kenom.next

theorem runSet (h : Steady s t) : Steady s t.runSet := ite h (ite h.putb.syncMode h.putb.startDecision.syncMode)

theorem exec_runSet (h : Steady s t) : SteadyOut s (execRunSet t) := h.runSet.next

theorem exec_runClear (h : Steady s t) : SteadyOut s (execRunClear t) := h.runClear.syncMode.next

theorem exec_shortBrakeWindow (h : Steady s t) {amp : Nat} : SteadyOut s (execShortBrakeWindow amp t) :=
  outIte h.next (outIte h.setSpn.next (outIte h.setSpn.next (outIte h.spnEnter.setSpn.syncMode.next
    h.spnEnter.putb.raise.setSpn.syncMode.next)))

theorem exec_stopTimeout (h : Steady s t) : SteadyOut s (execStopTimeout t) := outIte h.setSpn.raise.next h.next

theorem exec_spindleOvercurrent (h : Steady s t) : SteadyOut s (execSpindleOvercurrent t) :=
  outIte h.next (outIte h.bump.setSpn.spnEnter.raise.runClear.syncMode.next h.bump.setSpn.putb.next)

theorem exec_spindleOcPauseEnd (h : Steady s t) : SteadyOut s (execSpindleOcPauseEnd t) :=
  outIte h.next (outIte h.setSpn.startDecision.syncMode.next h.setSpn.putb.syncMode.next)

theorem exec_ov2BrakeEnd (h : Steady s t) : SteadyOut s (execOv2BrakeEnd t) :=
  outIte h.next (outIte h.setSpn.spnEnter.syncMode.next (outIte h.setSpn.startDecision.syncMode.next (outIte
    h.setSpn.spnEnter.setSpn.syncMode.next h.setSpn.next)))

theorem exec_spdcmdInvalid (h : Steady s t) : SteadyOut s (execSpdcmdInvalid t) := outIte h.next h.putb.raise.next

/-! ### Sys2Proof/Machine/PowerOps.lean -/

theorem vin (h : Steady s t) {v : Nat} : Steady s (t.vin v) := h.put.put

theorem safeEnter (h : Steady s t) : Steady s t.safeEnter := h.putb.retract.retract.spnEnter

theorem linkLoss (h : Steady s t) : Steady s t.linkLoss := h.wgTripBoth.raise.rest

theorem safeLeave (h : Steady s t) {deferrable : Bool} : Steady s (t.safeLeave deferrable) :=
  ite h.putb (ite h.putb.startDecision (ite h.putb.spnEnter h.putb))

theorem parkPhase (h : Steady s t) : Steady s t.parkPhase := by
  unfold State.parkPhase
  extract_lets trip _ hold
  have htrip {x} {u} (j : Steady s u) : Steady s (trip x u) := ite j j.wgTrip
  have hhold {x} {u} (j : Steady s u) : Steady s (hold x u) := ite j.setHold.retract j
  exact ite h (hhold (hhold (htrip (htrip h.put.putb))))

theorem enterRetract (h : Steady s t) : Steady s t.enterRetract :=
  ite h (ite h.rest.put.putb.raise.bump.count.spnEnter.startFlush.parkPhase
    h.rest.put.putb.raise.bump.count.spnEnter.startFlush).syncMode

theorem resetTo (h : Steady s t) {r : Nat} : Steady s (t.resetTo r) :=
  ⟨⟨fun k => mwf_mmap _ _ _ (h.regs k), fun _ => reset_memory_wf⟩, h.queue, h.clock⟩

theorem resetCause (h : Steady s t) {f : Field} : Steady s (t.resetCause f) := h.putb

theorem sampleStraps (h : Steady s t) {p : Straps} : Steady s (t.sampleStraps p) := h.rest.putb.putb

theorem memSelfTest (h : Steady s t) {ok : Bool} : Steady s (t.memSelfTest ok) := ite h h.raise.putb

theorem xspInit (h : Steady s t) {f : FlashId} : Steady s (t.xspInit f) := ite h.putb.putb.put h.putb.putb.put.raise

theorem admitPairs (h : Steady s t) {pairs : Nat} : Steady s (t.admitPairs pairs) := by
  unfold State.admitPairs
  extract_lets one
  have hone {n} {u} (j : Steady s u) : Steady s (one n u) := ite j.putb.putb.putb.putb.rest j.putb.putb.putb.putb
  exact hone (hone h)

theorem startUp (h : Steady s t) {p : Straps} {memOk : Bool} : Steady s (t.startUp p memOk) := by
  unfold State.startUp
  extract_lets _ _ _ _ s2
  have h2 : Steady s s2 := h.rest.sampleStraps.xspInit.admitPairs.memSelfTest.putb
  exact (ite (ite h2.runClear h2.startDecision) h2.spnCheck).syncMode

theorem resetWaited (h : Steady s t) : Steady s t.resetWaited := ite h.rest.resetCause h

theorem borEnter (h : Steady s t) {brake : Bool} : Steady s (t.borEnter brake) := by
  unfold State.borEnter
  extract_lets _ _ _ s1 _ _ s3
  have h1 : Steady s s1 := h.gatesLow.gatesLow.resetTo.resetCause
  have h3 : Steady s s3 := ite h1.rest.put h1.rest
  exact (ite h3.spnEnter (ite h3.spnEnter h3)).put.resetWaited.syncMode

theorem brakePhase (h : Steady s t) : Steady s t.brakePhase := h.spnEnter.borEnter

theorem brakeCheck (h : Steady s t) {late : Bool} : Steady s (t.brakeCheck late) := ite h.brakePhase h

theorem countActReset (h : Steady s t) {x : Act} {svc : Bool} : Steady s (t.countActReset x svc) := by
  unfold State.countActReset
  extract_lets _ _ _ _ _ s1 s2
  have h1 : Steady s s1 := by
    unfold s1
    split <;> exact h.rest
  have h2 : Steady s s2 := h1.enterFault.putb.raise
  exact ite h (ite (ite h2 h2.putb) h1)

theorem driveHold (h : Steady s t) : Steady s t.driveHold := by
  unfold State.driveHold
  extract_lets act
  have hact {x} {u} (j : Steady s u) : Steady s (act x u) := ite j.retract.setHold j
  exact (hact (hact h)).rest.putb.putb.raise

theorem countWarm (h : Steady s t) : Steady s t.countWarm := ite h.rest.driveHold h.rest

/-! ### Sys2Proof/Machine/Supplies.lean -/

theorem exec_vinUvwFall (h : Steady s t) {vin : Nat} : SteadyOut s (execVinUvwFall vin t) :=
  outIte h.vin.next (outIte h.vin.putb.next h.vin.putb.putb.raise.bump.rest.wgTripBoth.next)

theorem exec_vinUvwRelease (h : Steady s t) {vin : Nat} : SteadyOut s (execVinUvwRelease vin t) := by
  unfold execVinUvwRelease
  extract_lets _ _ _ s2
  have h2 : Steady s s2 := h.vin.putb.putb
  exact outIte h.vin.next (outIte h2.rest.next (outIte h2.rest.rest.putb.raise.wgReleaseBoth.seekRelease.seekRelease.next (outIte
      h2.rest.wgReleaseBoth.next h2.rest.next)))

theorem exec_dipTimerExpiry (h : Steady s t) : SteadyOut s (execDipTimerExpiry t) := by
  unfold execDipTimerExpiry
  split
  · exact outIte h.enterRetract.next h.next
  · exact h.next

theorem exec_vinPldFall (h : Steady s t) {vin : Nat} : SteadyOut s (execVinPldFall vin t) :=
  outIte h.vin.next h.vin.putb.bump.enterRetract.next

theorem exec_lowvSet (h : Steady s t) {vin : Nat} : SteadyOut s (execLowvSet vin t) := outIte h.vin.next h.vin.putb.raise.next

theorem exec_lowvClear (h : Steady s t) {vin : Nat} : SteadyOut s (execLowvClear vin t) := outIte h.vin.next h.vin.putb.putb.next

theorem brkHigh (h : Steady s t) : Steady s t.brkHigh := h.putb.rest

theorem brkLow (h : Steady s t) : Steady s t.brkLow := ite h.rest h.putb.rest

theorem brkTick (h : Steady s t) : Steady s t.brkTick := ite h.brkLow h

theorem exec_ov1 (h : Steady s t) {vin : Nat} : SteadyOut s (execOv1 vin t) :=
  outIte h.vin.next (ite h.vin.putb.raise.brkHigh h.vin.putb.raise).next

theorem exec_ov2 (h : Steady s t) {vin : Nat} : SteadyOut s (execOv2 vin t) :=
  outIte h.vin.next h.vin.putb.raise.spnEnter.rest.syncMode.next

theorem ov3Limit (h : Steady s t) {x : Act} : Steady s (t.ov3Limit x) := ite h h.setLa.put.put

theorem exec_ov3 (h : Steady s t) {vin : Nat} : SteadyOut s (execOv3 vin t) :=
  outIte h.vin.next h.vin.putb.raise.uaDrop.putb.ov3Limit.ov3Limit.next

theorem exec_ovRelease (h : Steady s t) {level vin : Nat} : SteadyOut s (execOvRelease level vin t) :=
  outIte h.vin.putb.brkLow.next (outIte (ite h.vin.putb.rest h.vin).next (outIte (ite h.vin.putb.putb h.vin).next h.vin.next))

theorem chopBlock (h : Steady s t) {f : Field} : Steady s (t.chopBlock f) := h.raise.putb.putb

theorem exec_chopOpen (h : Steady s t) : SteadyOut s (execChopOpen t) := outIte h.chopBlock.next h.next

theorem exec_chopStuck (h : Steady s t) : SteadyOut s (execChopStuck t) := outIte h.chopBlock.next h.next

theorem chopRel (h : Steady s t) : Steady s t.chopRel := ite h.putb.brkHigh h.putb

theorem exec_choprel (h : Steady s t) : SteadyOut s (execChoprel t) := h.chopRel.next

theorem exec_prerailFault (h : Steady s t) : SteadyOut s (execPrerailFault t) :=
  outIte h.next h.putb.put.raise.retract.retract.enterFault.enterFault.syncMode.next

theorem preen (h : Steady s t) : Steady s t.preen := h.putb.put

theorem exec_preenWrite (h : Steady s t) : SteadyOut s (execPreenWrite t) := h.preen.next

theorem exec_vcorePhaseDrop (h : Steady s t) {phase : Nat} : SteadyOut s (execVcorePhaseDrop phase t) :=
  outIte h.next (outIte h.put.raise.borEnter.next h.put.raise.next)

theorem throt (h : Steady s t) : Steady s t.throt := h.putb

theorem exec_vcoreCurrentLimit (h : Steady s t) : SteadyOut s (execVcoreCurrentLimit t) := outIte h.next h.rest.raise.throt.next

theorem exec_vcoreCurrentLimitEnd (h : Steady s t) : SteadyOut s (execVcoreCurrentLimitEnd t) := h.rest.throt.next

theorem exec_retractEntry (h : Steady s t) : SteadyOut s (execRetractEntry t) := h.enterRetract.next

theorem retEnd (h : Steady s t) : Steady s t.retEnd := h.parkPhase.syncMode

theorem retDone (h : Steady s t) : Steady s t.retDone := ite h h.rest.brakeCheck

theorem exec_retractEndWrite (h : Steady s t) : SteadyOut s (execRetractEndWrite t) := h.retEnd.next

theorem exec_retractDoneWrite (h : Steady s t) : SteadyOut s (execRetractDoneWrite t) := h.retDone.next

theorem exec_mediaPhaseEnd (h : Steady s t) : SteadyOut s (execMediaPhaseEnd t) := outIte h.parkPhase.syncMode.next h.next

theorem exec_brakePhase (h : Steady s t) {late : Bool} : SteadyOut s (execBrakePhase late t) := h.brakeCheck.next

theorem exec_brakeBorExit (h : Steady s t) {straps : Straps} {memOk : Bool} {vin : Nat} : SteadyOut s (execBrakeBorExit straps
    memOk vin t) :=
  outIte h.next h.put.put.vin.startUp.next

theorem exec_mediaBusExcursion (h : Steady s t) {vin : Nat} : SteadyOut s (execMediaBusExcursion vin t) :=
  outIte h.vin.next h.vin.putb.wgTripBoth.next

theorem exec_mediaBusSettled (h : Steady s t) {vin : Nat} : SteadyOut s (execMediaBusSettled vin t) :=
  outIte h.vin.next h.vin.putb.wgReleaseBoth.seekRelease.seekRelease.next

/-! ### Sys2Proof/Machine/Thermal.lean -/

theorem setBand (h : Steady s t) {b : Nat} {event : Bool} : Steady s (t.setBand b event) := by
  unfold State.setBand
  extract_lets _ _ _ take s3
  have htake {x} {u} (j : Steady s u) : Steady s (take x u) := ite j.takeBand j
  have h3 : Steady s s3 := htake (htake h.put.rest)
  exact ite h3.raise h3

theorem bandStep (h : Steady s t) {v : Int} : Steady s (t.bandStep v) :=
  ite h.rest (ite h.rest.setBand (ite h.rest.setBand (ite h.rest.setBand h.rest.rest)))

theorem peak (h : Steady s t) {f : Field} {tj : Option Int} : Steady s (t.peak f tj) := by
  unfold State.peak
  split
  · exact ite h.put h
  · exact h

theorem warnRelease (h : Steady s t) {js : List (Option Int)} : Steady s (t.warnRelease js) :=
  ite h (ite h.rest.putb.throt.raise h.rest)

theorem coolStep (h : Steady s t) {tj : Option Int} : Steady s (t.coolStep tj) := by
  unfold State.coolStep
  split
  · exact h.rest
  · exact h

theorem thmStore (h : Steady s t) {js : List (Option Int)} {th pre : Option Int} : Steady s (t.thmStore js th pre) :=
  ite h.put.put.put.put.put.put.put.put.rest.raise h.put.put.put.put.put.put.put.put.rest

theorem thmWatch (h : Steady s t) {tj th : Option Int} : Steady s (t.thmWatch tj th) := by
  unfold State.thmWatch
  extract_lets _ s5 s6
  have h5 : Steady s s5 := ite h.peak.peak h.peak
  have h6 : Steady s s6 := by
    unfold s6
    split
    · exact ite h5.raise h5
    · exact h5
  split
  · exact h6.sample
  · exact h6

theorem thmBand (h : Steady s t) {src : Option Int} : Steady s (t.thmBand src) := by
  unfold State.thmBand
  extract_lets s8
  have h8 : Steady s s8 := by
    unfold s8
    split
    · exact h.bandStep
    · exact h
  exact h8.putb

theorem exec_thmSample (h : Steady s t) {ts : List (Option Int)} {therm pre : Option Int} : SteadyOut s (execThmSample ts therm
    pre t) :=
  h.thmStore.thmWatch.thmBand.warnRelease.coolStep.putb.next

theorem exec_tjWarn (h : Steady s t) : SteadyOut s (execTjWarn t) := outIte h.next h.rest.putb.putb.throt.raise.next

theorem coolCheck (h : Steady s t) : Steady s t.coolCheck := ite h.rest.put.syncMode h

theorem exec_tjShut (h : Steady s t) {sensor : Nat} {peak : Int} : SteadyOut s (execTjShut sensor peak t) :=
  outIte h.next h.hardStop.hardStop.resetTo.rest.safeEnter.put.putb.bump.put.count.syncMode.coolCheck.next

/-! ### Sys2Proof/Machine/Resets.lean -/

theorem exec_por (h : Steady s t) {p : Straps} {memOk : Bool} : SteadyOut s (execPor p memOk t) := h.resetTo.put.startUp.next

theorem exec_bor (h : Steady s t) : SteadyOut s (execBor t) := outIte h.next h.borEnter.next

theorem exec_borRelease (h : Steady s t) {p : Straps} {memOk : Bool} : SteadyOut s (execBorRelease p memOk t) :=
  outIte h.next h.put.startUp.next

theorem exec_pinReset (h : Steady s t) : SteadyOut s (execPinReset t) :=
  outIte h.rest.next (outIte h.rest.resetCause.next h.rest.hardStop.hardStop.resetTo.resetCause.safeEnter.syncMode.next)

theorem pinSense (h : Steady s t) : Steady s t.pinSense := h.spnEnter.putb.rest

theorem exec_pinResetRelease (h : Steady s t) {p : Straps} {memOk : Bool} : SteadyOut s (execPinResetRelease p memOk t) := by
  unfold execPinResetRelease
  extract_lets _ _ _ s2 _ s4
  have h2 : Steady s s2 := h.rest.sampleStraps.xspInit.admitPairs.memSelfTest
  have h4 : Steady s s4 := ite h2.putb.putb h2.putb
  exact outIte h.rest.next (outIte h.rest.next (outIte h2.next (ite h4.startDecision h4.pinSense).syncMode.next))

theorem resetOcc (h : Steady s t) {code : Nat} : Steady s (t.resetOcc code) := h.occur

theorem exec_thermalReset (h : Steady s t) {f : FlashId} {pairs : BitVec 4} : SteadyOut s (execThermalReset f pairs t) :=
  outIte h.next h.resetTo.resetCause.rest.put.xspInit.admitPairs.raise.resetOcc.startFlush.safeLeave.syncMode.next

theorem releaseCores (h : Steady s t) : Steady s t.releaseCores := by
  unfold State.releaseCores
  extract_lets _ one
  have hone {n} {u} (j : Steady s u) : Steady s (one n u) := ite j (ite j.rest.putb j.rest.putb)
  exact hone (hone h)

theorem sasLinkReset (h : Steady s t) {b : Bool} : Steady s (t.sasLinkReset b) := (ite h.rest h.rest).bump

theorem warmSlots (h : Steady s t) : Steady s t.warmSlots := foldl (foldl h fun j => j.ctxEnd) fun j => j.ctxEnd

theorem xspAbort (h : Steady s t) : Steady s t.xspAbort := ite h.rest h

theorem warmUses (h : Steady s t) : Steady s t.warmUses := by
  refine foldl h fun j => ?_
  split
  · exact j.unuseSlot
  · exact j

theorem warmClear (h : Steady s t) : Steady s t.warmClear :=
  ⟨⟨fun k => mwf_mmap _ _ _ (h.regs k), h.mem⟩, h.queue, h.clock⟩

theorem warmReset (h : Steady s t) {src : Nat} {core : Option Nat} {pairs : Nat} {verified : Bool} : Steady s (t.warmReset src
    core pairs verified) := by
  unfold State.warmReset
  extract_lets cause _ _ s3 _ _ s5
  have hcause {n} {u} (j : Steady s u) : Steady s (cause n u) := j.putb.putb
  have h3 : Steady s s3 := (hcause (hcause h.resetCause.put)).resetOcc.warmSlots.warmUses.xspAbort.warmClear
  have h5 : Steady s s5 := (ite h3.rest.raise h3.rest.sasLinkReset.sasLinkReset).raise.countWarm.admitPairs
  exact (ite h5.releaseCores h5).syncMode

theorem exec_warmReset (h : Steady s t) {src : Nat} {pairs : BitVec 4} {verified : Bool} : SteadyOut s (execWarmReset src pairs
    verified t) :=
  h.warmReset.next

theorem actuatorReset (h : Steady s t) {x : Act} {svc : Bool} : Steady s (t.actuatorReset x svc) := by
  unfold State.actuatorReset
  extract_lets s1 s2 m _ s3 _ s4 _ ch s5 _ s6 s7 _ s8
  have h3 : Steady s s3 := h.hardStop.squash.putb.retract.setMsq.setCmps
  have h4 : Steady s s4 := ⟨⟨fun k => mwf_mmap _ _ _ (h3.regs k), h3.mem⟩, h3.queue, h3.clock⟩
  have hch {n} {u} (j : Steady s u) : Steady s (ch n u) := j.setCh
  have h7 : Steady s s7 := (hch (hch h4)).setPlk.setFaulted.resetCause
  have h8 : Steady s s8 := by cases x <;> exact h7.rest
  exact ite h h8.resetOcc.countActReset.setHold.syncMode

theorem exec_actuatorReset (h : Steady s t) {x : Act} {svc : Bool} : SteadyOut s (execActuatorReset x svc t) :=
  h.actuatorReset.next

theorem loadSections (h : Steady s t) {base : Nat} : Steady s (t.loadSections base) :=
  foldl h fun j => ite j.bytesPut (ite j.bytesPut j)

theorem fillRegion (h : Steady s t) {base : Nat} : Steady s (t.fillRegion base) := h.zeros

theorem setProt (h : Steady s t) {w : List (Nat × Nat)} : Steady s (t.setProt w) := foldl h fun j => j.wr.wr

theorem setSlots (h : Steady s t) {a b : Nat × Nat} : Steady s (t.setSlots a b) := h.rest

theorem moveWindow3 (h : Steady s t) : Steady s t.moveWindow3 := h.wr.wr

theorem bootWith (h : Steady s t) {b : BootTry} {fb : Bool} {sasA sasB : BitVec 64} : Steady s (t.bootWith b fb sasA sasB) :=
  (ite h.fillRegion.loadSections.put.put.putb.putb.setMeas.rest.raise
    h.fillRegion.loadSections.put.put.putb.putb.setMeas.rest).wr.wr.wr.wr.putb.putb.releaseCores

theorem exec_secureBoot (h : Steady s t) {root ent : Bool} {first second : BootTry} {prot : List (Nat × Nat)}
    {sasA sasB : BitVec 64} : SteadyOut s (execSecureBoot root ent first second prot sasA sasB t) := by
  unfold execSecureBoot
  extract_lets pick needs s1
  have h1 : Steady s s1 := (ite h h.hwdStart).setSlots
  refine outIte h.next (outIte h.next ?_)
  cases pick with
  | none => exact h1.setProt.rest.syncMode.next
  | some p => exact h1.setProt.bootWith.syncMode.next

/-! ### Sys2Proof/Machine/FlashOps.lean -/

theorem flashSet (h : Steady s t) {off : Nat} {v : Byte} : Steady s (t.flashSet off v) := h.rest

theorem flashProgram (h : Steady s t) {l : List Byte} {off : Nat} : Steady s (State.flashProgram l off t) := by
  induction l generalizing t off with
  | nil => exact h
  | cons b l ih => exact ih h.flashSet

theorem flashErase (h : Steady s t) {n off : Nat} : Steady s (State.flashErase n off t) := by
  induction n generalizing t off with
  | zero => exact h
  | succ n ih => exact ih h.flashSet

theorem flashWrite (h : Steady s t) {l : List Byte} {off : Nat} : Steady s (t.flashWrite l off) := h.flashErase.flashProgram

theorem bootName (h : Steady s t) {base img : Nat} : Steady s (t.bootName base img) := by
  unfold State.bootName
  extract_lets a b put
  clear_value a b
  have hput {u} {off seq} (j : Steady s u) : Steady s (put u off seq) := j.flashErase.flashProgram
  split
  · exact ite (hput h) (hput h)
  · exact hput h
  · exact hput h
  · exact hput h

/-! ### Sys2Proof/Machine/Rbk.lean -/

theorem retWord (h : Steady s t) {off : Nat} : Steady s (t.retWord off).2 := by
  unfold State.retWord
  split
  · exact h
  · exact h.free

theorem winWrite (h : Steady s t) {addr : Nat} {v : Word} : Steady s (t.winWrite addr v) := ite h.rest h

theorem exec_rbkWindowWrite (h : Steady s t) {addr : Nat} {v : Word} : SteadyOut s (execRbkWindowWrite addr v t) :=
  h.winWrite.next

theorem foldNow (h : Steady s t) : Steady s t.foldNow := ite h.rest h.rest.fold

theorem exec_ringbookFold (h : Steady s t) : SteadyOut s (execRingbookFold t) := outIte h.foldNow.next h.next

theorem fwev (h : Steady s t) {v : Word} : Steady s (t.fwev v) := h.wr.recordOcc

theorem exec_fwevWrite (h : Steady s t) {v : Word} : SteadyOut s (execFwevWrite v t) := h.fwev.next

theorem copyRet (h : Steady s t) {n off a : Nat} : Steady s (State.copyRet n off a t) := by
  induction n generalizing t off a with
  | zero => exact h
  | succ n ih => exact ih h.retWord.sramPut

theorem snapGo (h : Steady s t) : Steady s t.snapGo := ite h h.rest.putb

theorem exec_rbkSnap (h : Steady s t) : SteadyOut s (execRbkSnap t) := h.snapGo.next

theorem exec_rbkSnapDone (h : Steady s t) : SteadyOut s (execRbkSnapDone t) := by
  unfold execRbkSnapDone
  split
  · exact h.next
  · exact (ite h.copyRet.rest.applyWaiting h.copyRet.rest.applyWaiting.fold).putb.raise.next

theorem flushGo (h : Steady s t) : Steady s t.flushGo := h.putb.startFlush

theorem exec_rbkFlush (h : Steady s t) {period : Bool} : SteadyOut s (execRbkFlush period t) :=
  outIte h.flushGo.next (outIte h.startFlush.next h.next)

theorem exec_rbkFlushDone (h : Steady s t) {ok : Bool} {regions : BitVec 6} : SteadyOut s (execRbkFlushDone ok regions t) := by
  unfold execRbkFlushDone
  split
  · exact h.next
  · extract_lets s0 f _ s1 _ s3 s2 again
    have h0 : Steady s s0 := ite h.foldNow h
    have h2 : Steady s s2 := ite h0.rest.rest.bump.bump.raise h0.rest.bump.raise
    clear_value again
    cases again with
    | some c => exact h2.rest.beginFlush.next
    | none => exact h2.rest.next

theorem exec_ringbookPeriodicSample (h : Steady s t) {second : Bool} : SteadyOut s (execRingbookPeriodicSample second t) :=
  outIte (ite h.sample.count h.sample).next h.sample.next

/-! ### Sys2Proof/Machine/Apc.lean -/

theorem rdmEnd (h : Steady s t) {n st : Nat} : Steady s (t.rdmEnd n st) := h.putb.put

theorem exec_pairDropout (h : Steady s t) {core p1 : Bool} {pairs : BitVec 4} {verified : Bool} : SteadyOut s (execPairDropout
    core p1 pairs verified t) :=
  outIte h.next (outIte h.putb.putb.raise.next (ite h.rdmEnd h).putb.raise.warmReset.next)

theorem rdm (h : Steady s t) {n : Nat} : Steady s (t.rdm n) := ite h.putb.put.rest h

theorem exec_pairReadmit (h : Steady s t) {core : Bool} : SteadyOut s (execPairReadmit core t) := h.rdm.next

theorem exec_pairReadmitDone (h : Steady s t) {core pass : Bool} : SteadyOut s (execPairReadmitDone core pass t) :=
  outIte h.next (outIte h.rdmEnd.putb.putb.putb.raise.next h.rdmEnd.next)

theorem setWd (h : Steady s t) {n : Nat} {w : Watchdog} : Steady s (t.setWd n w) := ite h.rest h.rest

theorem wdRestart (h : Steady s t) {n : Nat} : Steady s (t.wdRestart n) := h.setWd

theorem wdKick (h : Steady s t) {i : Initiator} {v : Word} : Steady s (t.wdKick i v) := by
  refine ite h ?_
  split
  · exact ite h.wdRestart h
  · exact ite h.wdRestart h
  · exact h

theorem exec_watchdogKick (h : Steady s t) {i : Initiator} {v : Word} : SteadyOut s (execWatchdogKick i v t) := h.wdKick.next

theorem wdEnable (h : Steady s t) {n : Nat} : Steady s (t.wdEnable n) := ite h h.putb.wdRestart

theorem exec_watchdogEnable (h : Steady s t) {core : Bool} : SteadyOut s (execWatchdogEnable core t) := h.wdEnable.next

theorem exec_watchdogExpiry (h : Steady s t) {core : Bool} {pairs : BitVec 4} {verified : Bool} : SteadyOut s (execWatchdogExpiry
    core pairs verified t) :=
  outIte h.raise.warmReset.next h.next

theorem latchCause (h : Steady s t) {n : Nat} : Steady s (t.latchCause n) := by
  refine ite h ?_
  split
  · exact h.wr
  · exact h

theorem exec_interruptCauseLatch (h : Steady s t) {core : Bool} : SteadyOut s (execInterruptCauseLatch core t) :=
  h.latchCause.next

theorem causeWrite (h : Steady s t) {n : Nat} {v : Word} : Steady s (t.causeWrite n v) := ite h.wr.latchCause h

theorem causeRead (h : Steady s t) {n : Nat} : Steady s (t.causeRead n).2 := ite h.wr h

theorem exec_causeReadClear (h : Steady s t) {i : Initiator} {core : Bool} : SteadyOut s (execCauseReadClear i core t) :=
  h.causeRead.setRead.next

theorem tmrStart (h : Steady s t) {n v : Nat} : Steady s (t.tmrStart n v) := ite h.rest.put h.rest.put

theorem exec_countdownTimerStart (h : Steady s t) {core : Bool} {v : BitVec 24} : SteadyOut s (execCountdownTimerStart core v t)
    :=
  h.tmrStart.next

theorem exec_countdownTimerExpiry (h : Steady s t) {core : Bool} : SteadyOut s (execCountdownTimerExpiry core t) :=
  outIte h.next h.put.raise.next

theorem exec_mcmo (h : Steady s t) {core : Bool} {v : BitVec 64} : SteadyOut s (execMcmo core v t) :=
  outIte h.busFault.next (foldl h fun j => j.bytePut).rest.next

theorem service (h : Steady s t) {core : Bool} {kind : Nat} {body : State → State} (k : ∀ {u}, Steady s u → Steady s (body u)) : Steady s (t.service core kind body) := ite h.setRet (k h.rest)

theorem exec_rominfo (h : Steady s t) {core : Bool} : SteadyOut s (execRominfo core t) := (h.service (fun j => j.svcEnd)).next

theorem xspGo (h : Steady s t) : Steady s t.xspGo := ite h.rest h.rest.putb

theorem exec_xspread (h : Steady s t) {core : Bool} {ofs dst n : Nat} : SteadyOut s (execXspread core ofs dst n t) :=
  (h.service (fun j => j.put.wr.put.put.put.xspGo)).next

theorem exec_zerofill (h : Steady s t) {core : Bool} {ofs granules : Nat} : SteadyOut s (execZerofill core ofs granules t) :=
  (h.service (fun j => j.put.put.zeroFill)).next

theorem mbGo (h : Steady s t) : Steady s t.mbGo := ite h h.rest.putb

theorem exec_mboxcall (h : Steady s t) {core : Bool} {code : Nat} {req : List Word} : SteadyOut s (execMboxcall core code req t)
    :=
  (h.service (fun j => (foldl j fun j => j.wr).put.put.mbGo)).next

theorem xspRes (h : Steady s t) {status done : Nat} : Steady s (t.xspRes status done) := h.rest

theorem xspRun (h : Steady s t) {op : Nat} {body : State → State} (k : ∀ {u}, Steady s u → Steady s (body u)) : Steady s
    (t.xspRun op body) :=
  ite h (k h)

theorem flashByte (h : Steady s t) {a : Nat} : Steady s (t.flashByte a).2 := by
  refine iteSnd ?_ h
  split
  · exact h
  · exact h.free

theorem flashBytes (h : Steady s t) {n a : Nat} : Steady s (State.flashBytes n a t).2 := by
  induction n generalizing t a with
  | zero => exact h
  | succ n ih => exact ih h.flashByte

theorem exec_xspRead (h : Steady s t) : SteadyOut s (execXspRead t) :=
  (h.xspRun (fun j => ite j.xspRes j.flashBytes.bytesPut.xspRes)).next

theorem flashLost (h : Steady s t) {n a : Nat} : Steady s (State.flashLost n a t) := by
  induction n generalizing t a with
  | zero => exact h
  | succ n ih => exact ih h.free.flashSet

theorem xspPages (h : Steady s t) {fail : Option Nat} : Steady s (t.xspPages fail) := by
  unfold State.xspPages
  extract_lets n a
  have h1 : Steady s (State.bytesAt 7 n t.maddr t).2 := h.bytesAt
  cases fail with
  | none => exact h1.flashProgram.xspRes
  | some p => exact ite h1.flashProgram.flashLost.xspRes h1.flashProgram.xspRes

theorem exec_xspProgram (h : Steady s t) {fail : Option Nat} : SteadyOut s (execXspProgram fail t) :=
  (h.xspRun (fun j => ite j.xspRes (ite j.xspRes j.xspPages))).next

theorem xspErase (h : Steady s t) {n : Nat} {fail : Bool} : Steady s (t.xspErase n fail) :=
  ite h.xspRes (ite h.xspRes (ite h.bump.flashLost.xspRes h.bump.flashErase.xspRes))

theorem exec_xspErase4k (h : Steady s t) {fail : Bool} : SteadyOut s (execXspErase4k fail t) :=
  (h.xspRun (fun j => j.xspErase)).next

theorem exec_xspErase64k (h : Steady s t) {fail : Bool} : SteadyOut s (execXspErase64k fail t) :=
  (h.xspRun (fun j => j.xspErase)).next

theorem exec_xspStatus (h : Steady s t) {dev : BitVec 8} : SteadyOut s (execXspStatus dev t) :=
  (h.xspRun (fun j => j.put.xspRes)).next

theorem exec_xspOperationEnd (h : Steady s t) : SteadyOut s (execXspOperationEnd t) := by
  unfold execXspOperationEnd
  extract_lets op res
  cases res with
  | none => exact h.next
  | some r =>
    exact outIte h.next (ite h.wr.raise (ite h.wr.bump.raise (ite h.wr.bump h.wr))).putb.raise.rest.svcEnd.next

theorem exec_xspTimeout (h : Steady s t) {units : Nat} {f : FlashId} : SteadyOut s (execXspTimeout units f t) :=
  outIte h.next (outIte (outIte h.next (outIte h.next h.bytesAt.flashProgram.flashLost.xspRes.xspInit.raise.next)) (outIte
    (outIte h.next h.bump.flashLost.xspRes.xspInit.raise.next) h.next))

theorem uartPut (h : Steady s t) {b : Byte} : Steady s (t.uartPut b) := ite h (ite h.rest h.bump)

theorem exec_uartTransmit (h : Steady s t) {v : BitVec 8} : SteadyOut s (execUartTransmit v t) := h.uartPut.next

theorem uartGet (h : Steady s t) : Steady s t.uartGet.2 := h.rest

theorem exec_uartReceiveRead (h : Steady s t) {i : Initiator} : SteadyOut s (execUartReceiveRead i t) := h.uartGet.setRead.next

theorem exec_uartByteReceived (h : Steady s t) {v : BitVec 8} {framing : Bool} : SteadyOut s (execUartByteReceived v framing t) :=
  outIte h.next (outIte h.bump.next (outIte h.rest.raise.next h.bump.raise.next))

theorem exec_uartByteSent (h : Steady s t) : SteadyOut s (execUartByteSent t) := by
  unfold execUartByteSent
  split
  · exact h.next
  · exact outIte h.next (ite h.rest.raise h.rest).next

theorem exec_traceRecord (h : Steady s t) {src : BitVec 2} {kind : BitVec 4} {info : BitVec 16} {a1 a2 : Word} {lost : Bool} :
    SteadyOut s (execTraceRecord src kind info a1 a2 lost t) :=
  outIte h.next (outIte h.bump.next (outIte h.sramPut.sramPut.sramPut.sramPut.put.next (outIte
    h.sramPut.sramPut.sramPut.sramPut.put.putb.next h.sramPut.sramPut.sramPut.sramPut.put.putb.raise.next)))

theorem exec_debugHalt (h : Steady s t) {core halt : Bool} : SteadyOut s (execDebugHalt core halt t) := by
  unfold execDebugHalt
  extract_lets _ _ setHalt
  have hsetHalt {u} {b} (j : Steady s u) : Steady s (setHalt u b) := ite j.rest j.rest
  exact outIte h.next (outIte (hsetHalt h).setWd.next (hsetHalt h).setWd.next)

/-! ### Sys2Proof/Machine/Arith.lean -/

theorem arith (h : Steady s t) {x : Act} {op : Nat} {f : FmtR} {g : Word → Word → Word} : Steady s (t.arith x op f g) :=
  (h.issueR (fun j => j.setSpec.ok)).advance

theorem exec_ldi (h : Steady s t) {x : Act} {f : FmtR} : SteadyOut s (execLdi x f t) :=
  (h.issueR (fun j => j.setSpec.ok)).advance.next

theorem exec_mov (h : Steady s t) {x : Act} {f : FmtR} : SteadyOut s (execMov x f t) :=
  (h.issueR (fun j => j.setSpec.ok)).advance.next

theorem exec_add (h : Steady s t) {x : Act} {f : FmtR} : SteadyOut s (execAdd x f t) := h.arith.next

theorem exec_sub (h : Steady s t) {x : Act} {f : FmtR} : SteadyOut s (execSub x f t) := h.arith.next

theorem exec_and (h : Steady s t) {x : Act} {f : FmtR} : SteadyOut s (execAnd x f t) := h.arith.next

theorem exec_or (h : Steady s t) {x : Act} {f : FmtR} : SteadyOut s (execOr x f t) := h.arith.next

theorem exec_xor (h : Steady s t) {x : Act} {f : FmtR} : SteadyOut s (execXor x f t) := h.arith.next

theorem exec_shl (h : Steady s t) {x : Act} {f : FmtR} : SteadyOut s (execShl x f t) := h.arith.next

theorem exec_shr (h : Steady s t) {x : Act} {f : FmtR} : SteadyOut s (execShr x f t) := h.arith.next

theorem exec_cmp (h : Steady s t) {x : Act} {f : FmtR} : SteadyOut s (execCmp x f t) := by
  refine next (advance (h.issueR (fun j => ?_)))
  split
  · exact j.setSpec.ok
  · exact excError

/-! ### Sys2Proof/Machine/Flow.lean -/

theorem exec_nop (h : Steady s t) {x : Act} {f : FmtR} : SteadyOut s (execNop x f t) := (h.issueR (fun j => j.ok)).advance.next

theorem exec_br (h : Steady s t) {x : Act} {f : FmtR} : SteadyOut s (execBr x f t) :=
  (h.issueR (fun j => j.setSpec.ok)).advance.next

theorem exec_brc (h : Steady s t) {x : Act} {f : FmtR} : SteadyOut s (execBrc x f t) :=
  (h.issueR (fun j => j.setMsq.ok)).advance.next

theorem exec_call (h : Steady s t) {x : Act} {f : FmtR} : SteadyOut s (execCall x f t) :=
  (h.issueR (fun j => excIte j.setSpec.ok excError)).advance.next

theorem exec_ret (h : Steady s t) {x : Act} {f : FmtR} : SteadyOut s (execRet x f t) := by
  refine next (advance (h.issueR (fun j => ?_)))
  split
  · exact j.setSpec.ok
  · exact excError

theorem exec_halt (h : Steady s t) {x : Act} {f : FmtR} : SteadyOut s (execHalt x f t) :=
  (h.issueR (fun j => j.setMsq.ok)).advance.next

theorem exec_waita (h : Steady s t) {x : Act} {f : FmtQ} : SteadyOut s (execWaita x f t) := by
  refine next (advance (h.issueQ (fun j => ?_)))
  split
  · exact j.setMsq.ok
  · exact j.ok

theorem exec_waite (h : Steady s t) {x : Act} {f : FmtR} : SteadyOut s (execWaite x f t) :=
  (h.issueR (fun j => j.setMsq.ok)).advance.next

theorem exec_yield (h : Steady s t) {x : Act} {f : FmtR} : SteadyOut s (execYield x f t) :=
  (h.issueR (fun j => excIte j.setMsq.ok j.ok)).advance.next

theorem exec_waiteTimeout (h : Steady s t) {x : Act} : SteadyOut s (execWaiteTimeout x t) := by
  unfold execWaiteTimeout
  split
  · exact outIte h.next h.setMsq.endWait.advance.next
  · exact h.next

theorem exec_waitaTimeout (h : Steady s t) {x : Act} : SteadyOut s (execWaitaTimeout x t) := by
  unfold execWaitaTimeout
  split
  · exact outIte h.next h.progError.next
  · exact h.next

theorem exec_slotTimeout (h : Steady s t) {x : Act} : SteadyOut s (execSlotTimeout x t) := by
  unfold execSlotTimeout
  split
  · exact outIte h.next h.progError.next
  · exact h.next

/-! ### Sys2Proof/Machine/CcxOps.lean -/

theorem allocCtx (h : Steady s t) {n : Nat} {c : Ctx} {ws : List (Nat × Word)} : Steady s (t.allocCtx n c ws) :=
  (foldl (foldl h.rest fun j => j.ctxPut) fun j => j.ctxPut).ctxPut.setCtx

theorem admitKeyed (h : Steady s t) {n : Nat} : Steady s (t.admitKeyed n) := by
  unfold State.admitKeyed
  split
  · exact h
  · split
    · exact h.admitWith
    · exact h.endCtx

theorem admission (h : Steady s t) {x : HostCmd} : Steady s (t.admission x) := by
  unfold State.admission
  split
  · exact (ite h h.post).raise
  · refine ite h.allocCtx.endCtx ?_
    split
    · exact h.allocCtx.endCtx
    · exact ite (ite h.allocCtx.endCtx h.allocCtx.admitKeyed) h.allocCtx.setCtx.ctxPut.rest

theorem copyWords (h : Steady s t) {k src dst : Nat} : Steady s (State.copyWords k src dst t).2 := by
  induction k generalizing t src dst with
  | zero => exact h
  | succ k ih =>
    have h1 : Steady s (t.dramRead 3 src).2 := h.dramRead
    exact ih (ite h1.dramSet h1.dramPut)

theorem cacheWin (h : Steady s t) {n : Nat} {second : Bool} : Steady s (t.cacheWin n second) := by
  unfold State.cacheWin
  split
  · refine ite h ?_
    split
    · exact h
    · exact h.copyWords.setResv.setCtx
  · exact h

theorem zeroWin (h : Steady s t) {n : Nat} {second : Bool} : Steady s (t.zeroWin n second) := by
  unfold State.zeroWin
  split
  · exact h
  · split
    · exact h
    · refine foldl h fun j => ite j ?_
      split
      · exact j.zeros.fillPos
      · exact j

theorem ctxRes (h : Steady s t) {ok : Bool} {n : Nat} : Steady s (t.ctxRes ok n) := h.wr

theorem raiseShares (h : Steady s t) {n : Nat} : Steady s (t.raiseShares n) := h.ctxWord.ctxPut

theorem ctxQueue (h : Steady s t) {n : Nat} {b : Bool} : Steady s (t.ctxQueue n b) := by
  unfold State.ctxQueue
  split
  · exact h.ctxRes
  · exact ite h.ctxRes (ite (ite h.raiseShares h).setCtx.rest (ite h.raiseShares h).setCtx.rest).ctxRes

theorem ctxOpen (h : Steady s t) : Steady s t.ctxOpen := by
  unfold State.ctxOpen
  split
  · exact h.ctxRes
  · exact h.allocCtx.ctxRes

theorem ctxWords (h : Steady s t) {n i k : Nat} : Steady s (t.ctxWords n i k).2 := by
  refine foldlSnd h fun j e => ?_
  split at e
  cases e
  exact j.ctxWord.ofSnd ‹_›

/-- The words read are named by an opaque pair: with them written out the kernel would read the memory. -/
theorem ctxAdmit (h : Steady s t) {n : Nat} : Steady s (t.ctxAdmit n) := by
  obtain ⟨words, hwords⟩ : ∃ p, t.ctxWords n 16 6 = p := ⟨_, rfl⟩
  have hp : Steady s words.2 := hwords ▸ h.ctxWords
  rw [State.ctxAdmit, hwords]
  split
  · exact h.ctxRes
  · extract_lets _ w _ s1
    have h1 : Steady s s1 := hp.setCtx
    exact ite h.ctxRes (ite h1.admitWith h1.admitKeyed).ctxRes

theorem ctxCache (h : Steady s t) {n : Nat} : Steady s (t.ctxCache n) := by
  unfold State.ctxCache
  split
  · exact h.ctxRes
  · exact ite h.ctxWord.ctxRes h.ctxWord.setCtx.cacheWin.cacheWin.ctxRes

/-- The word read is named by an opaque pair, as for `ctxAdmit`. -/
theorem ctxZero (h : Steady s t) {n : Nat} : Steady s (t.ctxZero n) := by
  obtain ⟨word, hword⟩ : ∃ p, t.ctxWord n 23 = p := ⟨_, rfl⟩
  have hp : Steady s word.2 := hword ▸ h.ctxWord
  rw [State.ctxZero, hword]
  split
  · extract_lets _ s2
    have h2 : Steady s s2 := hp.setResv
    exact ite h.ctxRes h2.zeroWin.zeroWin.withhold.withhold.ctxRes
  · exact h.ctxRes

theorem ctxEndCmd (h : Steady s t) {n status : Nat} : Steady s (t.ctxEndCmd n status) := by
  unfold State.ctxEndCmd
  split
  · exact h.ctxRes
  · exact ite h.endCtx.ctxRes h.ctxRes

theorem ctxCmd (h : Steady s t) {v : Word} : Steady s (t.ctxCmd v) :=
  ite h.ctxOpen (ite h.ctxAdmit (ite h.ctxQueue (ite h.ctxQueue (ite h.ctxCache (ite h.ctxZero (ite h.ctxEndCmd h))))))

theorem popRead (h : Steady s t) {q : Nat} : Steady s (t.popRead q).2 := ite h.rest (ite h.rest h.rest)

theorem readWords (h : Steady s t) {k a : Nat} : Steady s (State.readWords k a t).2 := by
  induction k generalizing t a with
  | zero => exact h
  | succ k ih => exact ih h.dramRead

theorem putWords (h : Steady s t) {l : List (BitVec 64)} {a : Nat} : Steady s (State.putWords l a t) := by
  induction l generalizing t a with
  | nil => exact h
  | cons d l ih => exact ih h.dramPut

theorem drain (h : Steady s t) {n : Nat} {second : Bool} {c : Ctx} {r : Resv} : Steady s (t.drain n second c r) := by
  unfold State.drain
  extract_lets w k
  split
  · exact h
  · split
    rename_i e
    have h1 := (iteSnd h.copyWords h.readWords).ofSnd e
    exact ite h1.endCtx (ite h1.setResv.setCtx h1.setResv).zeroWin.withhold

theorem fill (h : Steady s t) {n : Nat} {second : Bool} {c : Ctx} {r : Resv} {data pi : List (BitVec 64)} :
    Steady s (t.fill n second c r data pi) := by
  unfold State.fill
  extract_lets w k
  split
  · extract_lets s1
    have h1 : Steady s s1 := ite h.copyWords h.putWords.putWords
    exact (h1.foldl fun j => j.fillPos).cacheWin
  · exact h

/-! ### Sys2Proof/Machine/Host.lean -/

theorem exec_commandAdmission (h : Steady s t) {c : HostCmd} : SteadyOut s (execCommandAdmission c t) :=
  outIte h.next h.admission.next

theorem exec_ctxOpen (h : Steady s t) : SteadyOut s (execCtxOpen t) := h.ctxOpen.next

theorem exec_ctxAdmit (h : Steady s t) {n : Nat} : SteadyOut s (execCtxAdmit n t) := h.ctxAdmit.next

theorem exec_ctxQueuea (h : Steady s t) {n : Nat} : SteadyOut s (execCtxQueuea n t) := h.ctxQueue.next

theorem exec_ctxQueueb (h : Steady s t) {n : Nat} : SteadyOut s (execCtxQueueb n t) := h.ctxQueue.next

theorem exec_ctxCache (h : Steady s t) {n : Nat} : SteadyOut s (execCtxCache n t) := h.ctxCache.next

theorem exec_ctxZero (h : Steady s t) {n : Nat} : SteadyOut s (execCtxZero n t) := h.ctxZero.next

theorem exec_ctxEnd (h : Steady s t) {n : Nat} {status : BitVec 8} : SteadyOut s (execCtxEnd n status t) :=
  h.ctxEndCmd.syncMode.next

theorem exec_ccxPop (h : Steady s t) {i : Initiator} {q : Nat} : SteadyOut s (execCcxPop i q t) := h.popRead.setRead.next

theorem exec_contextComplete (h : Steady s t) {n : Nat} : SteadyOut s (execContextComplete n t) := by
  unfold execContextComplete
  split
  · exact h.next
  · exact outIte h.ctxFree.next h.next

theorem exec_contextTimeout (h : Steady s t) {n : Nat} : SteadyOut s (execContextTimeout n t) := by
  unfold execContextTimeout
  split
  · exact h.next
  · split
    · exact h.next
    · exact outIte h.next (outIte h.ctxFree.next h.endCtx.bump.raise.syncMode.next)

theorem exec_hostAbort (h : Steady s t) {port unit tag : Option Nat} {tmf : Bool} : SteadyOut s (execHostAbort port unit tag tmf
    t) :=
  (foldl (foldl (ite h.raise h) fun j => j.ctxFree) fun j => j.endCtx.bump.raise).syncMode.next

theorem abortPorts (h : Steady s t) {p : Nat → Bool} : Steady s (t.abortPorts p) := h.endCtxs

theorem exec_sasHardReset (h : Steady s t) {portB : Bool} : SteadyOut s (execSasHardReset portB t) :=
  outIte h.next h.resetCause.raise.raise.sasLinkReset.abortPorts.syncMode.next

theorem nvmeReset (h : Steady s t) : Steady s t.nvmeReset := h.putb.abortPorts.rest

theorem pcieDown (h : Steady s t) : Steady s t.pcieDown := ite h.put.put.put h.put.put.put.raise.raise

theorem exec_perst (h : Steady s t) : SteadyOut s (execPerst t) :=
  outIte h.next h.resetCause.wr.nvmeReset.rest.pcieDown.raise.raise.syncMode.next

theorem exec_functionLevelReset (h : Steady s t) {flr : Bool} : SteadyOut s (execFunctionLevelReset flr t) :=
  outIte h.next h.nvmeReset.raise.raise.syncMode.next

theorem exec_controllerEnable (h : Steady s t) : SteadyOut s (execControllerEnable t) := outIte h.next h.rest.raise.next

theorem exec_cstsRdy (h : Steady s t) : SteadyOut s (execCstsRdy t) := by
  unfold execCstsRdy
  split
  · exact h.next
  · exact outIte h.next h.putb.next

theorem exec_recoveryDownloadCommit (h : Steady s t) {n : Nat} {pass : Bool} {img : Download} {p : Straps} {memOk : Bool} :
    SteadyOut s (execRecoveryDownloadCommit n pass img p memOk t) := by
  refine outIte h.next (outIte h.flashWrite.bootName.hardStop.hardStop.resetTo.safeEnter.rest.exec_pinResetRelease ?_)
  split
  · exact h.next
  · exact h.ctxPut.endCtx.syncMode.next

theorem exec_mgtWrite (h : Steady s t) {ofs : BitVec 8} : SteadyOut s (execMgtWrite ofs t) := outIte h.rest.next h.next

theorem exec_mgtRead (h : Steady s t) {len : Nat} : SteadyOut s (execMgtRead len t) := outIte h.next h.rest.next

theorem exec_hostDataTransfer (h : Steady s t) {n : Nat} {second : Bool} {data pi : List (BitVec 64)} : SteadyOut s
    (execHostDataTransfer n second data pi t) := by
  unfold execHostDataTransfer
  split
  · exact outIte h.next (outIte (outIte h.next h.fill.advance.advance.syncMode.next) (outIte
      h.drain.advance.advance.syncMode.next h.next))
  · exact h.next

theorem exec_hostLinkChange (h : Steady s t) {link rate width : Nat} {reset : Bool} : SteadyOut s (execHostLinkChange link rate
    width reset t) :=
  outIte (outIte h.next h.put.put.put.raise.raise.next) (outIte h.next (ite h.put.putb.put.sasLinkReset
    h.put.putb.put).raise.raise.next)

theorem exec_phyPllLockLoss (h : Steady s t) : SteadyOut s (execPhyPllLockLoss t) := h.raise.next

/-! ### Sys2Proof/Machine/WritePath.lean -/

theorem lmonFault (h : Steady s t) {x : Act} {second : Bool} : Steady s (t.lmonFault x second) := h.wgTrip.raise.setWrp

theorem exec_laserGateLimit (h : Steady s t) {x : Act} {second : Bool} : SteadyOut s (execLaserGateLimit x second t) :=
  outIte h.next h.wgTrip.raise.syncMode.next

theorem stageContrib (h : Steady s t) {n : Chan} {c : Contrib} : Steady s (t.stageContrib n c) := h.setCh

theorem exec_monitorRead (h : Steady s t) {x : Act} {second : Bool} {reading : Option Nat} : SteadyOut s (execMonitorRead x
    second reading t) := by
  unfold execMonitorRead
  extract_lets _ _ _ _ _ s2
  have h2 : Steady s s2 := by
    unfold s2
    split
    · exact h.setWrp.stageContrib
    · exact h.setWrp
  exact outIte h.next (outIte h.setWrp.next (ite h2.lmonFault.syncMode h2).next)

theorem exec_lmrel (h : Steady s t) {x : Act} : SteadyOut s (execLmrel x t) := h.wgRelease.next

theorem exec_headContact (h : Steady s t) {x : Act} {head : Nat} : SteadyOut s (execHeadContact x head t) :=
  outIte h.next h.setWrp.raise.next

theorem exec_writeGuardTrip (h : Steady s t) {x : Act} {bits : BitVec 8} {neg : Bool} : SteadyOut s (execWriteGuardTrip x bits
    neg t) :=
  outIte h.next (outIte h.shockTrip.syncMode.next h.wgTrip.syncMode.next)

theorem exec_writeGuardRelease (h : Steady s t) {x : Act} {quiet : Bool} : SteadyOut s (execWriteGuardRelease x quiet t) :=
  (ite h.rest h).wgRelease.next

theorem tornPop (h : Steady s t) {x : Act} : Steady s (t.tornPop x) := h.setWrp

theorem exec_tornpop (h : Steady s t) {x : Act} : SteadyOut s (execTornpop x t) := h.tornPop.next

theorem plkWrite (h : Steady s t) {x : Act} {addr data : Nat} : Steady s (t.plkWrite x addr data) := h.setPlk

theorem preampFault (h : Steady s t) {x : Act} {pin : Bool} {status : Nat} : Steady s (t.preampFault x pin status) :=
  ite h h.setPlk.put.putb.raise.wgTrip

theorem plkFail (h : Steady s t) {x : Act} : Steady s (t.plkFail x) :=
  ite h (ite h.setPlk.bump.raise (ite h.setPlk.wr.putb.raise h.setPlk).bump.raise.wgTrip)

theorem exec_plkWriteFrame (h : Steady s t) {x : Act} {addr : BitVec 7} {data : BitVec 16} : SteadyOut s (execPlkWriteFrame x
    addr data t) :=
  h.plkWrite.next

theorem exec_plkReadFrame (h : Steady s t) {x : Act} {addr : BitVec 7} {data : BitVec 16} {crcOk : Bool} : SteadyOut s
    (execPlkReadFrame x addr data crcOk t) :=
  outIte h.next (outIte h.plkFail.syncMode.next (ite h.setPlk.preampFault.syncMode h.setPlk).next)

theorem exec_plkResponseTimeout (h : Steady s t) {x : Act} : SteadyOut s (execPlkResponseTimeout x t) := h.plkFail.syncMode.next

theorem exec_plkFirmwareFrame (h : Steady s t) {x : Act} {resp : BitVec 16} : SteadyOut s (execPlkFirmwareFrame x resp t) :=
  outIte h.next (ite (ite h.wr.setPlk h.wr.plkWrite).putb.raise.preampFault.syncMode (ite h.wr.setPlk
    h.wr.plkWrite).putb.raise.advance).next

theorem exec_preampFault (h : Steady s t) {x : Act} {pin : Bool} {status : BitVec 16} : SteadyOut s (execPreampFault x pin status
    t) :=
  outIte h.preampFault.syncMode.next h.next

theorem exec_preampFaultClear (h : Steady s t) {x : Act} : SteadyOut s (execPreampFaultClear x t) :=
  outIte h.next h.setPlk.advance.next

/-! ### Sys2Proof/Machine/Loop.lean -/

theorem swapAt (h : Steady s t) {g : Nat} : Steady s (t.swapAt g) := ite h (ite h.put.rest h.put.put)

theorem bankSwap (h : Steady s t) {bits : Nat} : Steady s (t.bankSwap bits) := h.put.rest

theorem exec_bankSwap (h : Steady s t) {g : Nat} : SteadyOut s (execBankSwap g t) := h.bankSwap.next

theorem coefNext (h : Steady s t) : Steady s t.coefNext := h.put

theorem coefRead (h : Steady s t) : Steady s t.coefRead.2 := h.coefNext

theorem coefWrite (h : Steady s t) {v : Word} : Steady s (t.coefWrite v) := by
  unfold State.coefWrite
  split
  · exact ite h.coefNext h.rest.coefNext
  · exact h.coefNext

theorem exec_coefdataAccess (h : Steady s t) {i : Initiator} {write : Bool} {v : Word} : SteadyOut s (execCoefdataAccess i write
    v t) :=
  outIte h.coefWrite.next h.coefRead.setRead.next

theorem rowChange (h : Steady s t) {x : Act} {f : State → State} (k : ∀ {u}, Steady s u → Steady s (f u)) : Steady s (t.rowChange
    x f) :=
  ite (k h) (k h).setLa

theorem regionStep (h : Steady s t) {x : Act} : Steady s (t.regionStep x) :=
  ite h (ite (ite h.setRegion h) (ite (ite h.setLa.sample.setRegion h.setLa) (ite (ite h.setRegion h) h)))

theorem free16 (h : Steady s t) : Steady s t.free16.2 := h.free

theorem notches (h : Steady s t) {x : Act} {base first n mask : Nat} {y : Rat} : Steady s (t.notches x base first n mask y).2 :=
  h.setLa

theorem rvTake (h : Steady s t) {x : Act} {sh0 sh1 : Int} : Steady s (t.rvTake x sh0 sh1) := h.setLa

theorem vcmDemand (h : Steady s t) {x : Act} : Steady s (t.vcmDemand x).2 := h.free.notches

theorem vcmOutput (h : Steady s t) {x : Act} {mv : Nat} : Steady s (t.vcmOutput x mv) := ite h h.vcmDemand.setLa.put.put.sample

theorem pesSample (h : Steady s t) {x : Act} {head : Nat} {pes : Int} : Steady s (t.pesSample x head pes) := h.sample

theorem dropTarget (h : Steady s t) {x : Act} {second : Bool} : Steady s (t.dropTarget x second) := h.setMsq

theorem searchStep (h : Steady s t) {x : Act} {y : Option Rat} {z : Rat} : Steady s (t.searchStep x y z) := by
  unfold State.searchStep
  extract_lets l
  split
  · exact h.setLa
  · split
    · exact ite h.setLa.putb.putb.setRegion h.setLa
    · exact h.setLa

theorem pesTake (h : Steady s t) {x : Act} {b : Option Nat} {ok : Bool} {pes : Int} : Steady s (t.pesTake x b ok pes) := by
  unfold State.pesTake
  split
  · exact h.pesSample
  · exact h

theorem coastStep (h : Steady s t) {x : Act} {lost : Bool} : Steady s (t.coastStep x lost) :=
  ite (ite (ite h h.putb.raise) (ite h h.putb.raise).wgTrip) (ite h.putb.setRegion h)

theorem feedback (h : Steady s t) {x : Act} {i0 i1 : HeadIn} {y : Rat} : Steady s (t.feedback x i0 i1 y) := by
  exact ite (ite (ite h.setLa.put.put.pesTake.pesTake.dropTarget h.setLa.put.put.pesTake.pesTake).dropTarget (ite
      h.setLa.put.put.pesTake.pesTake.dropTarget h.setLa.put.put.pesTake.pesTake)).searchStep (ite (ite (ite
      h.setLa.put.put.pesTake.pesTake.dropTarget h.setLa.put.put.pesTake.pesTake).dropTarget (ite
      h.setLa.put.put.pesTake.pesTake.dropTarget h.setLa.put.put.pesTake.pesTake)).coastStep.pesTrip (ite (ite
      h.setLa.put.put.pesTake.pesTake.dropTarget h.setLa.put.put.pesTake.pesTake).dropTarget (ite
      h.setLa.put.put.pesTake.pesTake.dropTarget h.setLa.put.put.pesTake.pesTake)))

theorem shockStep (h : Steady s t) {x : Act} {sh0 sh1 : Int} : Steady s (t.shockStep x sh0 sh1) := ite h (ite h.rest h.shockTrip)

theorem learn (h : Steady s t) {x : Act} : Steady s (t.learn x) := ite h (foldl h fun j => ite j.free16.put j)

theorem bandTake (h : Steady s t) {x : Act} : Steady s (t.bandTake x) :=
  ite (h.rowChange (fun j => j.setLa)) (h.rowChange (fun j => j.setLa)).setLa

theorem vcmTake (h : Steady s t) {x : Act} {normal : Bool} : Steady s (t.vcmTake x normal) :=
  (ite (h.rowChange (fun j => j.swapAt)) (h.rowChange (fun j => j.swapAt)).bandTake).setLa

theorem vcmFollow (h : Steady s t) {x : Act} {h0 h1 : HeadIn} {y : Rat} : Steady s (t.vcmFollow x h0 h1 y) :=
  ite ((ite h.feedback h.setLa).rowChange (fun j => j.regionStep)) (ite h.feedback h.setLa)

theorem vcmShow (h : Steady s t) {x : Act} {sh0 sh1 : Int} {iv : BitVec 16} : Steady s (t.vcmShow x sh0 sh1 iv) :=
  ite h.wr.put.sample h.wr.put

theorem exec_vcmSample (h : Steady s t) {x : Act} {h0 h1 : HeadIn} {sh0 sh1 : Int} {iv : BitVec 16} {mv : Nat} {normal : Bool} :
    SteadyOut s (execVcmSample x h0 h1 sh0 sh1 iv mv normal t) :=
  outIte h.next h.vcmTake.vcmFollow.rvTake.shockStep.vcmOutput.learn.vcmShow.seekRelease.advance.syncMode.next

theorem uaDemand (h : Steady s t) {x : Act} {second : Bool} {err : Rat} : Steady s (t.uaDemand x second err).2 := h.free16.notches

theorem exec_microactuatorSample (h : Steady s t) {n : Chan} : SteadyOut s (execMicroactuatorSample n t) := by
  unfold execMicroactuatorSample
  extract_lets _ _ _ _ _ _ _ mark
  have hmark {u} {b} (j : Steady s u) : Steady s (mark u b) := j.put
  refine outIte h.next ?_
  split
  · exact h.next
  · exact outIte h.next (outIte (hmark h.uaDemand.setLa).next (hmark h.setLa).next)

theorem pinStep (h : Steady s t) {a b : Nat} : Steady s (t.pinStep a b) := by
  refine ite h.rest ?_
  split
  · exact h
  · exact ite h.putb.put.put.rest (ite h.putb.put.put.rest (ite (ite h.putb.put.put.rest.startDecision h.putb.put.put.rest)
      h.putb.put.put))

theorem inregClear (h : Steady s t) : Steady s t.inregClear := h.putb.rest

theorem inregStep (h : Steady s t) : Steady s t.inregStep :=
  ite (ite h.rest.putb.raise.dropToken.rest h.rest) (ite h.inregClear h.rest)

theorem spnBand (h : Steady s t) : Steady s t.spnBand := ite h h.rest.rest

theorem spnDemand (h : Steady s t) : Steady s t.spnDemand.2 := h.free16

theorem windowStep (h : Steady s t) : Steady s t.windowStep := ite h.free h.free.bump

theorem applyTorque (h : Steady s t) {out : Int} : Steady s (t.applyTorque out) := h.rest

theorem spnOutput (h : Steady s t) {mv : Nat} : Steady s (t.spnOutput mv) :=
  ite h (ite h.put.put.rest.applyTorque.sample (ite h.spnDemand.rest.put.put.applyTorque.sample
    h.spnDemand.rest.put.put.applyTorque.sample.windowStep))

theorem exec_spindleSample (h : Steady s t) {pinA pinB mv : Nat} : SteadyOut s (execSpindleSample pinA pinB mv t) := by
  unfold execSpindleSample
  refine outIte h.next ?_
  extract_lets s1
  split
  extract_lets s2 _ s3
  have h2 : Steady s s2 := h.swapAt.spnBand.pinStep.putb
  have h3 : Steady s s3 := ite h2 h2.rest.inregClear
  exact h3.rest.inregStep.levelCheck.spnOutput.syncMode.next

theorem exec_busVoltageSample (h : Steady s t) {mv : Nat} : SteadyOut s (execBusVoltageSample mv t) :=
  outIte h.next h.free.rest.next

theorem exec_laserPowerSample (h : Steady s t) {n : Chan} {reading : Nat} : SteadyOut s (execLaserPowerSample n reading t) := by
  refine outIte h.next ?_
  split
  · exact h.next
  · exact outIte h.rest.next h.rest.free.setWrp.next

theorem exec_heaterSample (h : Steady s t) {n : Chan} {reported : Nat} : SteadyOut s (execHeaterSample n reported t) := by
  unfold execHeaterSample
  extract_lets x second p
  split
  · exact h.next
  · exact outIte h.next (ite h.rest h.rest.stageContrib).next

theorem exec_searchStart (h : Steady s t) {x : Act} : SteadyOut s (execSearchStart x t) :=
  outIte h.next h.setLa.putb.syncMode.next

theorem loadFail (h : Steady s t) {x : Act} : Steady s (t.loadFail x) := by
  unfold State.loadFail
  split
  · exact h.progError
  · exact h

theorem exec_searchExpiry (h : Steady s t) {x : Act} : SteadyOut s (execSearchExpiry x t) :=
  outIte h.next (ite h.raise.retReason.retract.loadFail h.raise.retReason.retract).syncMode.next

theorem exec_followingError (h : Steady s t) {loop : Nat} : SteadyOut s (execFollowingError loop t) := by
  unfold execFollowingError
  extract_lets set
  have hset {u} (j : Steady s u) : Steady s (set u) := j.wr.raise
  exact outIte (outIte h.next (hset h).setLa.put.next) (outIte (outIte h.next (hset h).next) (outIte (outIte h.next (hset
      h).setMsq.setHeaters.next) (outIte (outIte h.next (hset h).rest.next) h.next)))

theorem exec_outputSaturation (h : Steady s t) {loop : Nat} : SteadyOut s (execOutputSaturation loop t) := by
  unfold execOutputSaturation
  extract_lets x
  refine outIte ?_ ?_
  · split
    · exact h.next
    · exact outIte h.next h.raise.retReason.retract.setLa.enterFault.syncMode.next
  · split
    · exact h.next
    · exact outIte h.next h.raise.rest.next

theorem safeLaw (h : Steady s t) {x : Act} : Steady s (t.safeLaw x) := ite h (h.rowChange (fun j => j.putb)).raise

theorem overrunFault (h : Steady s t) {x : Act} : Steady s (t.overrunFault x) := h.raise.retReason.retract.enterFault

theorem exec_loopOverrun (h : Steady s t) {loop : Nat} : SteadyOut s (execLoopOverrun loop t) :=
  outIte (outIte h.next (ite (ite h.setLa.bump.wgTrip.safeLaw h.setLa.bump.wgTrip).overrunFault (ite h.setLa.bump.wgTrip.safeLaw
    h.setLa.bump.wgTrip)).syncMode.next) h.bump.next

theorem exec_safeLawExit (h : Steady s t) {x : Act} : SteadyOut s (execSafeLawExit x t) :=
  outIte (h.rowChange (fun j => j.putb)).setLa.next h.next

theorem exec_lpeCopyMismatch (h : Steady s t) {loop : Nat} {checkerBad : Bool} : SteadyOut s (execLpeCopyMismatch loop checkerBad
    t) :=
  outIte h.next (outIte h.putb.putb.bump.raise.setLa.wgTripC.syncMode.next h.putb.putb.bump.raise.wgTripC.wgTripC.syncMode.next)

theorem exec_simplexResidueFailure (h : Steady s t) : SteadyOut s (execSimplexResidueFailure t) :=
  outIte h.next h.rest.wgTripBoth.safeEnter.raise.retReason.retReason.syncMode.next

theorem readmit (h : Steady s t) : Steady s t.readmit := ite h h.putb.put.rest

theorem exec_readmit (h : Steady s t) : SteadyOut s (execReadmit t) := h.readmit.next

theorem exec_readmitTestDone (h : Steady s t) {pass : Bool} : SteadyOut s (execReadmitTestDone pass t) :=
  outIte h.next (ite h.putb.put.putb.raise h.putb.put).next

theorem exec_retractDone (h : Steady s t) {x : Act} : SteadyOut s (execRetractDone x t) := by
  unfold execRetractDone
  extract_lets s1 _ _ _ s2
  have h1 : Steady s s1 := h.putb.raise
  have h2 : Steady s s2 := by
    refine ite ?_ h1
    split <;> exact h1.raise.rest
  exact outIte h.next h2.brakeCheck.coolCheck.syncMode.next

theorem exec_vcmOvercurrent (h : Steady s t) {x : Act} : SteadyOut s (execVcmOvercurrent x t) :=
  outIte h.next (outIte h.bridgeDown.raise.enterFault.syncMode.next h.setLa.next)

theorem exec_vcmOcPauseEnd (h : Steady s t) {x : Act} : SteadyOut s (execVcmOcPauseEnd x t) :=
  outIte h.next h.setLa.retract.syncMode.next

theorem exec_vcmOpenCoil (h : Steady s t) {x : Act} : SteadyOut s (execVcmOpenCoil x t) :=
  outIte h.next h.bridgeDown.raise.enterFault.syncMode.next

theorem exec_uactOvercurrent (h : Steady s t) {x : Nat} : SteadyOut s (execUactOvercurrent x t) :=
  outIte h.next h.setLa.put.raise.next

theorem exec_boostOutOfRegulation (h : Steady s t) : SteadyOut s (execBoostOutOfRegulation t) := h.putb.raise.next

/-! ### Sys2Proof/Machine/Media.lean -/

theorem nextSearch (h : Steady s t) {n : Chan} {r : MediaRun} : Steady s (t.nextSearch n r) := h.setCh

theorem ringTake (h : Steady s t) {n : Chan} {sec : Sec} : Steady s (t.ringTake n sec) := h.setCh

theorem average (h : Steady s t) {n : Chan} {r : MediaRun} {sec : Sec} : Steady s (t.average n r sec) := ite h h.setCh

theorem exec_syncMarkSearch (h : Steady s t) {n : Chan} {cands : List (Int × Nat)} :
    SteadyOut s (execSyncMarkSearch n cands t) := by
  unfold execSyncMarkSearch
  extract_lets second c
  split
  · exact h.next
  · extract_lets sec s0
    have h0 : Steady s s0 := h.ringTake.nextSearch
    refine outIte h.next (outIte h0.sectorFail.next (outIte h0.sectorFail.next ?_))
    split
    · exact (ite h0.average.toRedet h0.average.sectorFail).next
    · exact h0.average.setCh.next

theorem loopsAfter (h : Steady s t) {n : Chan} {sec : Sec} {conv : Bool} {o : DecodeOut} : Steady s (t.loopsAfter n sec conv o) :=
  ite h.latchSector.wr.wr.setCh.raise h.latchSector.wr.wr.setCh

theorem decodeFailed (h : Steady s t) {n : Chan} {item : Nat} {sec : Sec} {reason swt iter : Nat} : Steady s (t.decodeFailed n
    item sec reason swt iter) :=
  ite h.toRedet h.sectorFail

theorem exec_sectorDecode (h : Steady s t) {n : Chan} {out : DecodeOut} : SteadyOut s (execSectorDecode n out t) := by
  unfold execSectorDecode
  extract_lets c
  split
  · exact h.next
  · extract_lets s0 s1 lim conv s2
    have h2 : Steady s s2 := (ite h.setCh.sramUe.raise h.setCh).loopsAfter
    refine outIte h2.sectorFail.next ?_
    clear_value conv
    cases conv with
    | none => exact h2.decodeFailed.next
    | some iter => exact outIte h2.decodeFailed.next (outIte h2.sectorFail.next h2.sectorDeliver.next)

theorem redetDone (h : Steady s t) {n : Chan} : Steady s (t.redetDone n) := h.setCh

theorem redetFail (h : Steady s t) {n : Chan} {r : Redet} {reason swt iter : Nat} : Steady s (t.redetFail n r reason swt iter) :=
  h.redetDone.sectorFail.bump.raise

theorem redetTry (h : Steady s t) {n : Chan} {r : Redet} {l : List RedetTry} {swt iter : Nat} :
    Steady s (t.redetTry n r l swt iter) := by
  induction l generalizing swt iter with
  | nil => exact h.redetFail
  | cons e l ih =>
    unfold State.redetTry
    refine ite h.redetFail (ite ih ?_)
    split
    · exact ih
    · exact ite ih (ite h.redetDone.sectorDeliver.bump.raise h.redetDone.sectorFail)

theorem exec_redetection (h : Steady s t) {n : Chan} {tries : List RedetTry} {sramBad : Bool} : SteadyOut s (execRedetection n
    tries sramBad t) := by
  unfold execRedetection
  split
  · exact h.next
  · exact outIte h.sramUe.raise.redetFail.next h.redetTry.next

theorem exec_redetectionDeadline (h : Steady s t) {n : Chan} : SteadyOut s (execRedetectionDeadline n t) := by
  unfold execRedetectionDeadline
  split
  · exact h.next
  · exact outIte h.redetFail.next h.next

theorem exec_defectFreeze (h : Steady s t) {n : Chan} {on : Bool} : SteadyOut s (execDefectFreeze n on t) := (ite h.setCh h).next

theorem exec_freezeLimit (h : Steady s t) {n : Chan} : SteadyOut s (execFreezeLimit n t) := by
  unfold execFreezeLimit
  split
  · exact h.next
  · refine outIte h.next ?_
    split
    · exact outIte h.next h.setCh.sectorFail.raise.next
    · exact outIte h.next h.nextSearch.sectorFail.raise.next

theorem frecPop (h : Steady s t) {n : Chan} : Steady s (t.frecPop n) := h.setCh

theorem exec_frecpop (h : Steady s t) {n : Chan} : SteadyOut s (execFrecpop n t) := h.frecPop.next

theorem eqNext (h : Steady s t) {n : Chan} : Steady s (t.eqNext n) := h.put

theorem eqRead (h : Steady s t) {n : Chan} : Steady s (t.eqRead n).2 := h.eqNext

theorem eqWrite (h : Steady s t) {n : Chan} {v : Word} : Steady s (t.eqWrite n v) := h.latchSector.setCh.eqNext

theorem exec_eqdataAccess (h : Steady s t) {i : Initiator} {n : Chan} {write : Bool} {v : Word} : SteadyOut s (execEqdataAccess i
    n write v t) :=
  outIte h.next (outIte h.eqWrite.next h.eqRead.setRead.next)

theorem rawWords (h : Steady s t) {n : Nat} : Steady s (State.rawWords n t).2 := by
  induction n generalizing t with
  | zero => exact h
  | succ n ih => exact ih h.free

theorem laneDeliver (h : Steady s t) {n : Chan} {e : RSec} : Steady s (t.laneDeliver n e) := by
  unfold State.laneDeliver
  split
  · exact h.rawWords.putWords.putWords.fillPos.withhold.withhold
  · exact h

theorem takeWords (h : Steady s t) {n a : Nat} : Steady s (State.takeWords n a t).2 := by
  induction n generalizing t a with
  | zero => exact h
  | succ n ih => exact ih h.dramRead

theorem laneWrite (h : Steady s t) {n : Chan} {r : MediaRun} : Steady s (t.laneWrite n r) := by
  unfold State.laneWrite
  extract_lets _ _ _ _ sec _ a q
  split
  rename_i e₁
  split
  rename_i e₂
  exact ((h.takeWords.ofSnd e₁).takeWords.ofSnd e₂).setMsq.setCh

theorem exec_xtsSector (h : Steady s t) {n : Chan} : SteadyOut s (execXtsSector n t) := by
  refine outIte h.next ?_
  split
  · exact h.setCh.laneDeliver.laneMasks.next
  · split
    · exact outIte h.laneWrite.laneMasks.next h.next
    · exact h.next

/-! ### Sys2Proof/Machine/Mode.lean -/

theorem modeTake (h : Steady s t) {req : Nat} : Steady s (t.modeTake req) :=
  ite h.putb.put (ite h.putb (ite h.putb.putb h.putb.putb.putb))

theorem modeReq (h : Steady s t) : Steady s t.modeReq := (ite h.syncMode.modeTake h.syncMode).putb.putb.putb.syncMode

theorem exec_modeReqSplit (h : Steady s t) {x : Act} : SteadyOut s (execModeReqSplit x t) := h.put.put.modeReq.next

theorem exec_modeReqSelfwrite (h : Steady s t) : SteadyOut s (execModeReqSelfwrite t) := h.put.modeReq.next

theorem exec_modeReqLeave (h : Steady s t) : SteadyOut s (execModeReqLeave t) := h.put.modeReq.next

theorem exec_activeIdleTimeout (h : Steady s t) : SteadyOut s (execActiveIdleTimeout t) := outIte h.rest.syncMode.next h.next

theorem copySections (h : Steady s t) {base : Nat} : Steady s (t.copySections base) :=
  foldl h fun j => ite j.bytesAt.bytesPut (ite j.bytesAt.bytesPut j.bytesAt)

theorem fwSwitch (h : Steady s t) {hash : Bool} : Steady s (t.fwSwitch hash) := by
  unfold State.fwSwitch
  extract_lets _ fin _ s1
  have hfin {u} {r} (j : Steady s u) : Steady s (fin u r) := j.put.putb
  have h1 : Steady s s1 := h.rest.syncMode
  exact ite (hfin h) (ite (hfin h1.rest).syncMode (hfin
      h1.copySections.put.setMeas.moveWindow3.rest.wr.wr.wdRestart.wdRestart).raise.rest.syncMode)

theorem exec_firmwareSwitch (h : Steady s t) {hash : Bool} : SteadyOut s (execFirmwareSwitch hash t) := h.fwSwitch.next

/-! ### Sys2Proof/Machine/Submit.lean -/

theorem subRes (h : Steady s t) {x : Act} {bit slot : Nat} : Steady s (t.subRes x bit slot) := h.wr.putb

theorem subDone (h : Steady s t) {x : Act} : Steady s (t.subDone x) := ite h.setMsq.putb h.setMsq

theorem takeSlot (h : Steady s t) {x : Act} {y : Nat} {a : Arch} : Steady s (t.takeSlot x y a) := h.setMsq.subRes.subDone

theorem sramWords (h : Steady s t) {l : List Nat} : Steady s (t.sramWords l).2 := by
  refine foldlSnd h fun j e => ?_
  split at e
  cases e
  exact j.sramWord.ofSnd ‹_›

theorem loadCkpt (h : Steady s t) {x : Act} {y : Nat} : Steady s (t.loadCkpt x y).2 := h.sramWords

theorem submit (h : Steady s t) {x : Act} : Steady s (t.submit x) := by
  unfold State.submit
  extract_lets m
  split
  · exact h.subRes.subDone.raise
  · refine ite ?_ (ite h.subRes.subDone.raise h.takeSlot)
    have hc : Steady s (t.loadCkpt x (t.get (Fld.MSQ_SUBCTL_RSLOT x))).2 := h.loadCkpt
    generalize t.loadCkpt x (t.get (Fld.MSQ_SUBCTL_RSLOT x)) = c at hc ⊢
    exact ite hc.subRes.subDone.raise (ite hc.takeSlot hc.setMsq)

theorem subGo (h : Steady s t) {x : Act} : Steady s (t.subGo x) := ite h (ite h.putb.setMsq h.putb.submit)

theorem startSlot (h : Steady s t) {x : Act} {y : Nat} : Steady s (t.startSlot x y) :=
  h.setMsq.selectKey.rest.syncMode.slotStarted

theorem exec_msqSubmit (h : Steady s t) {x : Act} : SteadyOut s (execMsqSubmit x t) := h.subGo.next

theorem exec_resumeContextAnswer (h : Steady s t) {x : Act} : SteadyOut s (execResumeContextAnswer x t) := by
  unfold execResumeContextAnswer
  extract_lets again
  have hagain {u} (j : Steady s u) : Steady s (again u) := ite j.submit j
  split
  · rename_i r _ _ _
    have hc : Steady s (t.loadCkpt x r).2 := h.loadCkpt
    generalize t.loadCkpt x r = c at hc ⊢
    exact outIte (hagain hc.takeSlot).next (hagain hc.subRes.subDone.raise).next
  · exact (hagain h.subRes.subDone.raise).next
  · exact h.next

theorem exec_slotStart (h : Steady s t) {x : Act} : SteadyOut s (execSlotStart x t) := by
  refine outIte h.next (outIte h.holdEvent.next (outIte h.next ?_))
  split
  · exact h.startSlot.next
  · exact h.next

theorem slotCmd (h : Steady s t) {x : Act} {cmd y : Nat} : Steady s (t.slotCmd x cmd y) :=
  ite h (ite (ite h.setSlot h) (ite (ite h.setSlot h) (ite (ite h.squash.leaveRun.setSlot (ite h.setSlot h)) h)))

theorem exec_slotResume (h : Steady s t) {x : Act} {y : Nat} : SteadyOut s (execSlotResume x y t) := h.slotCmd.next

theorem exec_slotDiscard (h : Steady s t) {x : Act} {y : Nat} : SteadyOut s (execSlotDiscard x y t) := h.slotCmd.next

theorem exec_slotAbort (h : Steady s t) {x : Act} {y : Nat} : SteadyOut s (execSlotAbort x y t) := h.slotCmd.syncMode.next

theorem slotDoneClear (h : Steady s t) {x : Act} {bits : Nat} : Steady s (t.slotDoneClear x bits) :=
  foldl h fun j => ite j.setSlot j

theorem exec_slotdoneClear (h : Steady s t) {x : Act} {y : Nat} : SteadyOut s (execSlotdoneClear x y t) := h.slotDoneClear.next

/-! ### Sys2Proof/Machine/Vale.lean -/

theorem setRole (h : Steady s t) {r : Nat} : Steady s (t.setRole r) := ite (ite h h.put.raise).rest (ite h h.put.raise)

theorem annDrop (h : Steady s t) : Steady s t.annDrop := h.rest

theorem becomeCanopy (h : Steady s t) : Steady s t.becomeCanopy := h.setRole.put.bump.rest.refCheck

theorem leaveGroup (h : Steady s t) {r : Nat} : Steady s (t.leaveGroup r) := h.setRole.annDrop.rest.refCheck

theorem valeSend (h : Steady s t) {i ctr body : Nat} : Steady s (t.valeSend i ctr body) := h.setKs.rest

theorem takeToken (h : Steady s t) : Steady s t.takeToken := ite h.putb.raise.rest.deferRelease h

theorem setBudget (h : Steady s t) {b : Nat} : Steady s (t.setBudget b) := ite h.put h

theorem sendBeacon (h : Steady s t) {i ctr : Nat} : Steady s (t.sendBeacon i ctr) := by
  unfold State.sendBeacon
  split
  · exact ite h.valeSend.setRole.put.rest h.valeSend.rest.setBudget
  · exact (ite h.valeSend.rest.takeToken h.valeSend.rest).setBudget

theorem exec_valeSlotTransmit (h : Steady s t) : SteadyOut s (execValeSlotTransmit t) := by
  unfold execValeSlotTransmit
  extract_lets _ s1 role silent i k0 k stop due
  have h1 : Steady s s1 := h.rest
  have hstop {u} (j : Steady s u) : Steady s (stop u) := j.rest.raise
  clear_value s1 stop due
  refine outIte h1.next (outIte (hstop h1).next ?_)
  split
  · exact h1.next
  · exact (hstop h1.setKs).next
  · refine outIte h1.valeSend.rest.next ?_
    cases due with
    | some a => exact h1.valeSend.rest.next
    | none => exact outIte h1.sendBeacon.syncMode.next h1.valeSend.next

theorem valeReject (h : Steady s t) {e : Nat} : Steady s (t.valeReject e) := ite h.bump.raise (ite h.bump h)

theorem valeTake (h : Steady s t) {slot sender c : Nat} : Steady s (t.valeTake slot sender c) := h.rest

theorem valeAccept (h : Steady s t) {sender : Nat} {sync : Option Nat} {seq : Nat} {macTx macAlt : Bool} :
    Steady s (t.valeAccept sender sync seq macTx macAlt).2 := by
  unfold State.valeAccept
  refine iteSnd h ?_
  extract_lets tx alt
  split
  · exact h.valeTake
  · refine iteSnd ?_ (show Steady s (false, t.valeReject _).2 from h.valeReject)
    split
    · exact h.valeTake
    · exact h.valeReject

theorem valeGet (h : Steady s t) {rx : ValeRx} : Steady s (t.valeGet rx).2 := h.valeAccept

theorem refBeacon (h : Steady s t) {ref cap : Nat} : Steady s (t.refBeacon ref cap) :=
  ite h.refDrop (ite h.putb.wr.wr.raise.rest (ite h.wr.wr.refDrop (ite (ite h.wr.wr.rest.putb h.wr.wr.rest) h.wr.wr.rest.putb)))

theorem exec_beacon (h : Steady s t) {rx : ValeRx} {ref : Word} {refOk hand : Bool} {slot : BitVec 6} {tokvalid : Bool} {budget :
    BitVec 9} {cap : Word} : SteadyOut s (execBeacon rx ref refOk hand slot tokvalid budget cap t) := by
  exact outIte h.valeGet.next (outIte h.valeGet.next (ite (ite h.valeGet.setRole.put.rest.refBeacon.takeToken
      h.valeGet.setRole.put.rest.refBeacon).setBudget.becomeCanopy (ite h.valeGet.setRole.put.rest.refBeacon.takeToken
      h.valeGet.setRole.put.rest.refBeacon).setBudget).syncMode.next)

theorem exec_status (h : Steady s t) {rx : ValeRx} {elig tokreq tokhold inreg retract : Bool} : SteadyOut s (execStatus rx elig
    tokreq tokhold inreg retract t) :=
  outIte h.valeGet.next h.valeGet.rest.next

theorem exec_seekAnnouncement (h : Steady s t) {rx : ValeRx} {start : Word} {cls : BitVec 2} {dir act : Bool} : SteadyOut s
    (execSeekAnnouncement rx start cls dir act t) :=
  outIte h.valeGet.next h.valeGet.rest.next

theorem exec_sync (h : Steady s t) {sender : BitVec 6} {high : BitVec 56} {macTx macAlt : Bool} : SteadyOut s (execSync sender
    high macTx macAlt t) :=
  h.valeAccept.next

theorem exec_canopyElection (h : Steady s t) : SteadyOut s (execCanopyElection t) := outIte h.becomeCanopy.syncMode.next h.next

theorem exec_beaconLoss (h : Steady s t) : SteadyOut s (execBeaconLoss t) := outIte h.leaveGroup.raise.syncMode.next h.next

theorem handOver (h : Steady s t) : Steady s t.handOver := by
  refine ite h ?_
  split
  · exact h.rest
  · exact h

theorem exec_canopyHandover (h : Steady s t) : SteadyOut s (execCanopyHandover t) := h.handOver.next

theorem exec_tokenTimeout (h : Steady s t) {slot : BitVec 6} : SteadyOut s (execTokenTimeout slot t) :=
  (ite h.dropToken h).rest.next

theorem exec_staggerExpiry (h : Steady s t) : SteadyOut s (execStaggerExpiry t) := outIte h.deferRelease.syncMode.next h.next

theorem valeKey (h : Steady s t) {v : Word} : Steady s (t.valeKey v) := h.wr.rest

theorem exec_valeKeyWrite (h : Steady s t) {v : Word} : SteadyOut s (execValeKeyWrite v t) := h.valeKey.next

theorem valeJoin (h : Steady s t) : Steady s t.valeJoin := h.putb

theorem exec_valeJoin (h : Steady s t) : SteadyOut s (execValeJoin t) := h.valeJoin.next

theorem valeClr (h : Steady s t) : Steady s t.valeClr := h.rest

theorem exec_valeClrctr (h : Steady s t) : SteadyOut s (execValeClrctr t) := h.valeClr.next

theorem valeEnable (h : Steady s t) {on : Bool} : Steady s (t.valeEnable on) := ite h.rest.setRole h.leaveGroup

/-! ### Sys2Proof/Machine/RegWrite.lean -/

theorem plain (h : Steady s t) {a : Nat} {v : Word} : Steady s (t.plain a v) := by
  unfold State.plain
  split
  · exact h
  · exact h.wr

theorem busError (h : Steady s t) {i : Initiator} {kind size a : Nat} {write : Bool} : Steady s (t.busError i kind size a write)
    :=
  ite h.putb h.wr.wr.raise

theorem setShadow (h : Steady s t) {i : Initiator} {lat : Nat} {v : Word} : Steady s (t.setShadow i lat v) := h.rest

theorem setHolding (h : Steady s t) {i : Initiator} {lat : Nat} {v : Word} : Steady s (t.setHolding i lat v) := h.rest

theorem sapNext (h : Steady s t) {x : Act} : Steady s (t.sapNext x) := h.put

theorem sapRead (h : Steady s t) {x : Act} : Steady s (t.sapRead x).2 := h.sapNext

theorem sapWrite (h : Steady s t) {x : Act} {v : Word} : Steady s (t.sapWrite x v) :=
  (ite h (ite h.setMsq (ite h.setMsq h))).sapNext

theorem sapLoad (h : Steady s t) {x : Act} {load : Bool} : Steady s (t.sapLoad x load) := ite h.putb (ite h.putb h.putb.raise)

theorem d2dRel (h : Steady s t) : Steady s t.d2dRel := ite h.safeLeave.syncMode h

theorem rstCtl (h : Steady s t) {i : Initiator} {v : Word} : Steady s (t.rstCtl i v) :=
  ite (ite (ite h.actuatorReset h).actuatorReset (ite h.actuatorReset h)).free.warmReset (ite (ite h.actuatorReset
    h).actuatorReset (ite h.actuatorReset h))

theorem wrSys (h : Steady s t) {i : Initiator} {a : Nat} {v : Word} : Steady s (t.wrSys i a v) :=
  ite (ite h.plain.modeReq h.plain) (ite (ite h.rstCtl h) (ite h.busError (ite (ite h.putb.free.fwSwitch h) (ite (ite h.d2dRel h)
    h.plain))))

theorem wrPwr (h : Steady s t) {a : Nat} {v : Word} : Steady s (t.wrPwr a v) :=
  ite (ite (ite h.retEnd h).retDone (ite h.retEnd h)) (ite (ite (ite h.preen h.putb.put).chopRel (ite h.preen h.putb.put))
    h.plain)

theorem wrThm (h : Steady s t) {a : Nat} {v : Word} : Steady s (t.wrThm a v) := ite h.plain.raise h.plain

theorem wrAng (h : Steady s t) {a : Nat} {v : Word} : Steady s (t.wrAng a v) :=
  ite (ite h.plain.put.rest.rest h.plain.put.rest) h.plain

theorem wrMsq (h : Steady s t) {x : Act} {a : Nat} {v : Word} : Steady s (t.wrMsq x a v) :=
  ite (ite h.plain.setHold h.plain.holdEvent) (ite (ite h.subGo h) (ite h.slotCmd.syncMode (ite h.slotDoneClear (ite
    h.plain.advance h.plain))))

theorem wrUcs (h : Steady s t) {a : Nat} {v : Word} : Steady s (t.wrUcs a v) :=
  ite (ite h h.sapLoad) (ite (ite h h.sapWrite) h.plain)

theorem wrCh (h : Steady s t) {n : Chan} {a : Nat} {v : Word} : Steady s (t.wrCh n a v) :=
  ite h.eqWrite (ite (ite h.frecPop h) (ite h.latchSector.plain.setCh (ite h.latchSector.plain h.plain)))

theorem wrWrp (h : Steady s t) {x : Act} {a : Nat} {v : Word} : Steady s (t.wrWrp x a v) :=
  ite (ite h.wgRelease h) (ite (ite h.tornPop h) h.plain)

theorem wrPlk (h : Steady s t) {x : Act} {a : Nat} {v : Word} : Steady s (t.wrPlk x a v) := ite h.plain.setPlk h.plain

theorem wrLpe (h : Steady s t) {a : Nat} {v : Word} : Steady s (t.wrLpe a v) :=
  ite (ite h.plain.readmit h.plain) (ite h.bankSwap (ite h.coefWrite h.plain))

theorem wrDrv (h : Steady s t) {a : Nat} {v : Word} : Steady s (t.wrDrv a v) := ite h.plain.uaCheck h.plain

theorem wrSpn (h : Steady s t) {a : Nat} {v : Word} : Steady s (t.wrSpn a v) :=
  ite (ite (ite h.runSet (ite h.runClear.syncMode h)).putb (ite h.runSet (ite h.runClear.syncMode h))) (ite h.kenom (ite h.plain
    h.plain))

theorem wrMem (h : Steady s t) {a : Nat} {v : Word} : Steady s (t.wrMem a v) := by
  refine ite (ite h h.plain) (ite (ite h.plain.zeroFill h.plain) (ite ?_ h.plain))
  dsimp only
  split
  · exact ite h.freeCet h.memRest
  · exact h

theorem wrHwd (h : Steady s t) {a : Nat} {v : Word} : Steady s (t.wrHwd a v) :=
  ite (ite h.mbGo h) (ite (ite h.plain.putb h) h.plain)

theorem wrVale (h : Steady s t) {a : Nat} {v : Word} : Steady s (t.wrVale a v) :=
  ite (ite h.plain h.plain.valeEnable).syncMode (ite h.valeKey (ite (ite (ite (ite h.valeClr h).valeJoin (ite h.valeClr
    h)).handOver (ite (ite h.valeClr h).valeJoin (ite h.valeClr h))) h.plain))

theorem wrRbk (h : Steady s t) {a : Nat} {v : Word} : Steady s (t.wrRbk a v) :=
  ite h.winWrite (ite (ite (ite h.plain.flushGo h.plain).snapGo (ite h.plain.flushGo h.plain)) (ite h.fwev h.plain))

theorem wrIntc (h : Steady s t) {i : Initiator} {a : Nat} {v : Word} : Steady s (t.wrIntc i a v) := by
  unfold State.wrIntc
  extract_lets s1 _ s2
  have h1 : Steady s s1 := ite h.rdm h
  have h2 : Steady s s2 := ite h.plain.wdEnable h.plain
  exact ite h.causeWrite (ite h.causeWrite (ite h.tmrStart (ite h.tmrStart (ite (ite h1.rdm h1) (ite (ite h2.wdEnable h2) (ite
      h.wdKick h.plain))))))

theorem wrXsp (h : Steady s t) {a : Nat} {v : Word} : Steady s (t.wrXsp a v) := ite (ite h.plain.xspGo h.plain) h.plain

theorem wrDbg (h : Steady s t) {a : Nat} {v : Word} : Steady s (t.wrDbg a v) :=
  ite h (ite h.uartPut (ite (ite h.plain (ite h.plain.putb (ite h.plain h.plain.put.putb))) h.plain))

theorem regWrite (h : Steady s t) {i : Initiator} {a : Nat} {v : Word} : Steady s (t.regWrite i a v) := by
  refine ite h ?_
  split
  · exact ite h (ite h.wr.wr h.setHolding)
  · split
    · exact h.wrSys
    · exact h.wrPwr
    · exact h.wrThm
    · exact h.wrAng
    · exact h.wrMsq
    · exact h.wrMsq
    · exact h.wrUcs
    · exact h.wrCh
    · exact h.wrCh
    · exact h.wrCh
    · exact h.wrCh
    · exact h.wrWrp
    · exact h.wrWrp
    · exact h.wrPlk
    · exact h.wrPlk
    · exact h.wrLpe
    · exact h.wrSpn
    · exact h.wrDrv
    · exact h.wrMem
    · exact ite h.bufPool (ite (ite h.segRelease h) h.plain)
    · exact ite h.lrWrite h.plain
    · exact h.wrHwd
    · exact ite h.ctxCmd h.plain
    · exact h.wrVale
    · exact h.wrRbk
    · exact h.wrIntc
    · exact h.wrXsp
    · exact h.wrDbg
    · exact h.plain

theorem regRead (h : Steady s t) {i : Initiator} {a : Nat} : Steady s (t.regRead i a).2 := by
  refine iteSnd h (iteSnd h.retWord ?_)
  split
  · exact iteSnd h.setShadow h
  · exact iteSnd h (iteSnd h.sapRead (iteSnd h.sapRead (iteSnd h.eqRead (iteSnd h.eqRead (iteSnd h.eqRead (iteSnd h.eqRead
      (iteSnd h.coefRead (iteSnd h.lrRead (iteSnd h.popRead (iteSnd h.popRead (iteSnd h.popRead (iteSnd h.uartGet (iteSnd
      h.causeRead (iteSnd h.causeRead h))))))))))))))

theorem exec_sapdataAccess (h : Steady s t) {i : Initiator} {x : Act} {write : Bool} {v : Word} : SteadyOut s (execSapdataAccess
    i x write v t) :=
  outIte (outIte h.next h.setRead.next) (outIte h.sapWrite.next h.sapRead.setRead.next)

theorem exec_sapwoodLoadOpen (h : Steady s t) {x : Act} {load : Bool} : SteadyOut s (execSapwoodLoadOpen x load t) :=
  outIte h.sapLoad.next h.next

/-! ### Sys2Proof/Machine/Link.lean -/

theorem remapEnd (h : Steady s t) : Steady s t.remapEnd := h.rest

theorem linkDown (h : Steady s t) : Steady s t.linkDown := h.remapEnd.putb.linkLoss.safeEnter.syncMode

theorem exec_frameCrcError (h : Steady s t) : SteadyOut s (execFrameCrcError t) := h.bump.next

theorem exec_laneFailure (h : Steady s t) {lane : Nat} : SteadyOut s (execLaneFailure lane t) :=
  outIte h.next (outIte h.rest.linkDown.next (outIte h.rest.next (outIte h.rest.linkDown.next h.rest.rest.next)))

theorem exec_laneRemapAck (h : Steady s t) : SteadyOut s (execLaneRemapAck t) := outIte h.rest.next h.next

theorem exec_laneRemapComplete (h : Steady s t) : SteadyOut s (execLaneRemapComplete t) :=
  outIte h.remapEnd.putb.put.raise.next h.next

theorem exec_laneRemapTimeout (h : Steady s t) : SteadyOut s (execLaneRemapTimeout t) := outIte h.linkDown.next h.next

theorem exec_linkLossSafeState (h : Steady s t) : SteadyOut s (execLinkLossSafeState t) := h.linkDown.next

theorem readRegs (h : Steady s t) {i : Initiator} {n a : Nat} : Steady s (t.readRegs i n a) := h.regRead.setRead

theorem regRead64 (h : Steady s t) {i : Initiator} {a : Nat} : Steady s (t.regRead64 i a).2 := h.regRead.regRead

theorem readRegs64 (h : Steady s t) {i : Initiator} {a : Nat} : Steady s (t.readRegs64 i a) := h.regRead64.setRead

theorem readSoon (h : Steady s t) {i : Initiator} {n a : Nat} : Steady s (t.readSoon i n a) := ite h.rest h.readRegs

theorem readsDue (h : Steady s t) : Steady s t.readsDue := foldl h.rest fun j => ite j.readRegs64 j.readRegs

theorem exec_linkTrainingComplete (h : Steady s t) {passing : BitVec 9} : SteadyOut s (execLinkTrainingComplete passing t) := by
  unfold execLinkTrainingComplete
  extract_lets _ _ _ _ s2
  have h2 : Steady s s2 := (ite h.bump h).rest.putb
  refine outIte h.next (outIte h.rest.next (outIte h2.putb.raise.readsDue.next ?_))
  split
  · exact h2.putb.put.readsDue.next
  · exact h2.readsDue.next

theorem exec_d2dRelease (h : Steady s t) : SteadyOut s (execD2dRelease t) := h.d2dRel.next

theorem faultLogged (h : Steady s t) {i : Initiator} {kind size a : Nat} {x : AccKind} : Steady s (t.faultLogged i kind size a x)
    :=
  h.busError.busFault

theorem storeBytes (h : Steady s t) {i : Initiator} {a : Nat} {l : List Byte} : Steady s (t.storeBytes i a l) :=
  ite h.bytesPut h.rest

theorem loadMem (h : Steady s t) {i : Initiator} {n a : Nat} : Steady s (t.loadMem i n a) :=
  ite h.free.setRead (ite h.bytesAt.setRead h.bytesAt.busFault)

theorem write32 (h : Steady s t) {i : Initiator} {a : Nat} {v : Word} : Steady s (t.write32 i a v) := by
  refine ite h ?_
  split
  · exact h.faultLogged
  · exact ite h.regWrite h.storeBytes

theorem exec_registerWrite (h : Steady s t) {i : Initiator} {addr : Nat} {v : Word} : SteadyOut s (execRegisterWrite i addr v t)
    :=
  h.write32.next

theorem exec_latRead (h : Steady s t) {i : Initiator} {addr : Nat} : SteadyOut s (execLatRead i addr t) := by
  refine outIte h.next ?_
  split
  · exact h.faultLogged.next
  · exact outIte h.readSoon.next h.loadMem.next

theorem exec_lathWrite (h : Steady s t) {i : Initiator} {addr : Nat} {v : Word} : SteadyOut s (execLathWrite i addr v t) :=
  h.write32.next

theorem exec_latWrite (h : Steady s t) {i : Initiator} {addr : Nat} {v : Word} : SteadyOut s (execLatWrite i addr v t) :=
  h.write32.next

theorem regWrite64 (h : Steady s t) {i : Initiator} {a : Nat} {v : BitVec 64} : Steady s (t.regWrite64 i a v) := by
  unfold State.regWrite64
  split <;> exact h.regWrite.regWrite

theorem exec_access64bit (h : Steady s t) {i : Initiator} {write : Bool} {addr : Nat} {v : BitVec 64} : SteadyOut s
    (execAccess64bit i write addr v t) := by
  refine outIte h.next ?_
  split
  · exact h.faultLogged.next
  · exact outIte (outIte h.regWrite64.next (ite h.rest h.readRegs64).next) (outIte h.storeBytes.next h.loadMem.next)

theorem exec_narrowWrite (h : Steady s t) {i : Initiator} {addr : Nat} {half : Bool} {v : BitVec 16} : SteadyOut s
    (execNarrowWrite i addr half v t) := by
  refine outIte h.next ?_
  split
  · exact h.faultLogged.next
  · exact outIte h.busError.next h.storeBytes.next

theorem exec_accessFault (h : Steady s t) {i : Initiator} {kind : AccKind} {size addr : Nat} : SteadyOut s (execAccessFault i
    kind size addr t) := by
  refine outIte h.next ?_
  split
  · exact h.faultLogged.next
  · exact outIte (outIte h.loadMem.next (outIte (ite h.rest h.readRegs64).next h.readSoon.next)) (outIte h.busFault.next (outIte
      h.busFault.next (outIte h.busError.next h.next)))

/-! ### Sys2Proof/Machine/Position.lean -/

theorem issueWork (h : Steady s t) {x : Act} {op : Nat} {f : FmtQ} {legal : Bool}
    {kind : Nat → Arch → State → Except Nat (WorkKind × State)}
    (k : ∀ {i a u}, Steady s u → SteadyWork s (kind i a u)) : Steady s (t.issueWork x op f legal kind) := by
  refine advance (h.issueQ fun j => ?_)
  split
  case h_1 e => exact (k j _ e).addWork.ok
  case h_2 => exact excError

theorem issuePos (h : Steady s t) {x : Act} {op : Nat} {f : FmtQ} {legal : Bool} {kind : Arch → State → (WorkKind × Bool) ×
    State} (k : ∀ {i u}, Steady s u → Steady s (kind i u).2) : Steady s (t.issuePos x op f legal kind) :=
  (h.issue (fun j => (k j).addWork.ok)).advance

theorem exec_seek (h : Steady s t) {x : Act} {f : FmtQ} : SteadyOut s (execSeek x f t) := (h.issuePos (fun j => j.announce)).next

theorem exec_follow (h : Steady s t) {x : Act} {f : FmtQ} : SteadyOut s (execFollow x f t) := (h.issuePos (fun j => j)).next

theorem exec_offset (h : Steady s t) {x : Act} {f : FmtQ} : SteadyOut s (execOffset x f t) := (h.issuePos (fun j => j)).next

theorem exec_headsel (h : Steady s t) {x : Act} {f : FmtQ} : SteadyOut s (execHeadsel x f t) :=
  (issueWork h fun j => workIte workError j.workOk).next

theorem exec_loadh (h : Steady s t) {x : Act} {f : FmtQ} : SteadyOut s (execLoadh x f t) :=
  (issueWork h fun j => workIte workError j.workOk).next

theorem exec_unloadh (h : Steady s t) {x : Act} {f : FmtQ} : SteadyOut s (execUnloadh x f t) :=
  (issueWork h fun j => workIte workError j.workOk).next

theorem issueMedia (h : Steady s t) {x : Act} {opc : Nat} {op : MediaOp} {f : FmtQ} : Steady s (t.issueMedia x opc op f) :=
  issueWork h fun j => workIte workError (workIte workError j.setSpec.workOk)

theorem exec_read (h : Steady s t) {x : Act} {f : FmtQ} : SteadyOut s (execRead x f t) := h.issueMedia.next

theorem exec_write (h : Steady s t) {x : Act} {f : FmtQ} : SteadyOut s (execWrite x f t) := h.issueMedia.next

theorem exec_verify (h : Steady s t) {x : Act} {f : FmtQ} : SteadyOut s (execVerify x f t) := h.issueMedia.next

theorem exec_scan (h : Steady s t) {x : Act} {f : FmtQ} : SteadyOut s (execScan x f t) := h.issueMedia.next

theorem exec_eraseb (h : Steady s t) {x : Act} {f : FmtQ} : SteadyOut s (execEraseb x f t) := h.issueMedia.next

theorem exec_assist (h : Steady s t) {x : Act} {f : FmtR} : SteadyOut s (execAssist x f t) :=
  (h.issueR (fun j => j.addWork.ok)).advance.next

theorem exec_heat (h : Steady s t) {x : Act} {f : FmtR} : SteadyOut s (execHeat x f t) :=
  (h.issueR (fun j => j.addWork.ok)).advance.next

theorem exec_preheat (h : Steady s t) {x : Act} {f : FmtR} : SteadyOut s (execPreheat x f t) :=
  (h.issueR (fun j => excIte excError (excIte j.ok j.setMsq.ok))).advance.next

theorem exec_bind (h : Steady s t) {x : Act} {f : FmtR} : SteadyOut s (execBind x f t) :=
  (h.issueR (fun j => j.setMsq.ok)).advance.next

theorem exec_badv (h : Steady s t) {x : Act} {f : FmtR} : SteadyOut s (execBadv x f t) :=
  (h.issueR (fun j => j.setMsq.ok)).advance.next

theorem exec_tag (h : Steady s t) {x : Act} {f : FmtR} : SteadyOut s (execTag x f t) :=
  (h.issueR (fun j => j.setSpec.ok)).advance.next

theorem exec_post (h : Steady s t) {x : Act} {f : FmtR} : SteadyOut s (execPost x f t) :=
  (h.issueR (fun j => j.setMsq.ok)).advance.next

theorem exec_commit (h : Steady s t) {x : Act} {f : FmtR} : SteadyOut s (execCommit x f t) :=
  (h.issueR (fun j => j.registerCommit.ok)).advance.next

theorem exec_fence (h : Steady s t) {x : Act} {f : FmtR} : SteadyOut s (execFence x f t) :=
  (h.issueR (fun j => j.setMsq.ok)).advance.next

theorem exec_chkpt (h : Steady s t) {x : Act} {f : FmtR} : SteadyOut s (execChkpt x f t) :=
  (h.issueR (fun j => excIte excError j.setMsq.ok)).advance.next

/-! ### Sys2Proof/Machine/Tick.lean -/

theorem exec_angleWrap (h : Steady s t) : SteadyOut s (execAngleWrap t) := outIte h.next h.rest.wrapStep.next

theorem dutyTick (h : Steady s t) {n : Chan} : Steady s (t.dutyTick n) := ite h.setCh h

theorem seekTick (h : Steady s t) {x : Act} : Steady s (t.seekTick x) := ite h.advance h

theorem gateTick (h : Steady s t) {x : Act} {old : Nat} : Steady s (t.gateTick x old) := ite h.advance h

/-! ### Sys2Proof/Machine/Window.lean -/

theorem exec_ext (h : Steady s t) {x : Act} {f : FmtR} : SteadyOut s (execExt x f t) :=
  (h.issueR (fun j => excIte excError j.setSpec.setMsq.ok)).advance.next

theorem exec_rdreg (h : Steady s t) {x : Act} {f : FmtR} : SteadyOut s (execRdreg x f t) := by
  refine next (advance (h.issueR (fun j => ?_)))
  split
  · exact excError
  · exact j.regRead.setSpec.ok

theorem exec_wrreg (h : Steady s t) {x : Act} {f : FmtR} : SteadyOut s (execWrreg x f t) := by
  refine next (advance (h.issueR (fun j => ?_)))
  split
  · exact excError
  · exact j.setMsq.ok

/-! ### Sys2Proof/Machine/UopOps.lean -/

theorem chSet (h : Steady s t) {n : Chan} {words : List Word} : Steady s (t.chSet n words) := h.setCh

theorem chGo (h : Steady s t) {n : Chan} {x : Nat} : Steady s (t.chGo n x) := h.setCh

theorem addGate (h : Steady s t) {x : Act} {g : Gate} : Steady s (t.addGate x g) := h.setWrp

theorem lpeCommand (h : Steady s t) {x : Act} {cmd : Nat} {a b : Word} : Steady s (t.lpeCommand x cmd a b) :=
  ite h.setMsq.lpeSeek (ite h.setMsq.lpeOffset (ite (ite h.lpeLoad h) (ite h.lpeUnload h)))

theorem headSelect (h : Steady s t) {x : Act} {second : Bool} {y : Nat} : Steady s (t.headSelect x second y) := h.setMsq.headFrame

theorem guardLimit (h : Steady s t) {x : Act} {a b : Nat} : Steady s (t.guardLimit x a b) := h.put

theorem zoneWord (h : Steady s t) {x : Act} {second : Bool} {w : Nat} : Steady s (t.zoneWord x second w).2 := by
  unfold State.zoneWord
  split
  · exact h.sramWord
  · exact h.free

theorem paramWord (h : Steady s t) {x : Act} {w : Nat} : Steady s (t.paramWord x w).2 := h.sramWord

theorem rbksApply (h : Steady s t) {x : Act} {id v : Nat} : Steady s (t.rbksApply x id v) := h.applyContrib

theorem gatesFired (h : Steady s t) {x : Act} {y : Nat} : Steady s (t.gatesFired x y) := h.setWrp

theorem channelFired (h : Steady s t) {n : Chan} {x : Nat} : Steady s (t.channelFired n x) := ite h.free.setCh h

theorem exec_comparatorFire (h : Steady s t) {x : Act} {y : Nat} : SteadyOut s (execComparatorFire x y t) := by
  unfold execComparatorFire
  split
  · exact h.next
  · exact outIte h.next (outIte h.setCmps.msqCmpFired.syncMode.next (outIte h.setCmps.channelFired.next (outIte
      h.setCmps.channelFired.next (outIte h.setCmps.gatesFired.next (outIte h.setCmps.headStrobe.next h.setCmps.next)))))

theorem exec_ccxBindConfirm (h : Steady s t) {x : Act} : SteadyOut s (execCcxBindConfirm x t) := by
  unfold execCcxBindConfirm
  extract_lets m
  split
  · exact outIte h.setMsq.selectKey.advance.next h.progError.syncMode.next
  · exact h.next

/-! ### Sys2Proof/Machine/Wedge.lean -/

theorem writeCkpt (h : Steady s t) {x : Act} {y : Nat} {a : Arch} : Steady s (t.writeCkpt x y a) :=
  foldl h.sramWord fun j => j.sramPut

theorem applyStaged (h : Steady s t) {x : Act} {y : Nat} {a : Arch} {z : Staged} : Steady s (State.applyStaged x y a t z) := by
  unfold State.applyStaged
  split
  · exact h.bufMediaPos
  · exact h.ccxCredit
  · exact h.regWrite
  · exact h.writeCkpt
  · exact h.rbksApply
  · exact h
  · exact h

theorem switchSlot (h : Steady s t) {x : Act} : Steady s (t.switchSlot x) := by
  refine ite h ?_
  split
  · exact h.startSlot
  · exact h

theorem commits (h : Steady s t) {x : Act} {k lim n : Nat} {l kept passed : List Work} :
    Steady s (State.commits x k lim n l kept passed t) := by
  induction n generalizing t l kept passed with
  | zero => exact h
  | succ n ih =>
    cases l with
    | nil => exact h
    | cons w l =>
      unfold State.commits
      extract_lets m sl cr final
      split
      · exact ite (ih h) h
      · extract_lets rest _ s1 s2
        have h1 : Steady s s1 := h.setMsq
        have h2 : Steady s s2 := commitRecords (foldl h1 fun j => j.applyStaged)
        exact ite h2.setMsq.raise.leaveRun (ite h2.setMsq.leaveRun.takeBand.switchSlot (ih h2))
      · exact ih h

theorem wedgeSettings (h : Steady s t) {x : Act} : Steady s (t.wedgeSettings x) := h.setWrp

theorem applyAssist (h : Steady s t) {x : Act} : Steady s (t.applyAssist x) := by
  refine foldl h fun j => ite j ?_
  split
  · exact j.setMsq
  · exact j.setMsq.setWrp
  · exact j

theorem heatSample (h : Steady s t) {x : Act} {second : Bool} : Steady s (t.heatSample x second) := by
  unfold State.heatSample
  extract_lets p
  split
  · exact ite h h.stageContrib
  · exact h

theorem wedgeWrite (h : Steady s t) {x : Act} : Steady s (t.wedgeWrite x) :=
  (ite h.wedgeSettings.applyAssist.setHeaters.restLasers h.wedgeSettings.applyAssist.setHeaters).heatSample.heatSample

theorem exec_wedgeCheck (h : Steady s t) {x : Act} {wedge : Nat} : SteadyOut s (execWedgeCheck x wedge t) := by
  unfold execWedgeCheck
  extract_lets _ _ _ _ s0
  have h0 : Steady s s0 := h.clearTripped.wedgeWrite
  refine outIte h.next (outIte (ite h0.setMsq h0.setMsq.squashBy).syncMode.next (outIte h0.setMsq.squashBy.syncMode.next (outIte
      (ite h0.setMsq.squashBy h0.setMsq).syncMode.next ?_)))
  split
  · exact outIte h0.setMsq.setMsq.syncMode.next h0.setMsq.setMsq.commits.advance.syncMode.next
  · exact h0.setMsq.setMsq.syncMode.next

theorem exec_positioningComplete (h : Steady s t) {x : Act} : SteadyOut s (execPositioningComplete x t) := by
  unfold execPositioningComplete
  extract_lets m
  split
  · exact h.next
  · exact outIte h.next h.setMsq.positionDone.advance.syncMode.next

theorem sampleFill (h : Steady s t) {k a : Nat} : Steady s (State.sampleFill k a t) := by
  induction k generalizing t a with
  | zero => exact h
  | succ k ih => exact ih h.free.dramPut

theorem samplePos (h : Steady s t) {ctx p : Nat} : Steady s (t.samplePos ctx p) := by
  unfold State.samplePos
  split
  · exact h.sampleFill.fillPos
  · exact h

theorem scanStore (h : Steady s t) {second : Bool} {r : MediaRun} : Steady s (t.scanStore second r) :=
  (foldl h fun j => j.samplePos).withhold.withhold

theorem clockFails (h : Steady s t) {n : Chan} {item : Nat} {r : MediaRun} : Steady s (t.clockFails n item r) :=
  ite h (foldl h fun j => j.sectorFail)

theorem exec_mediaInstructionComplete (h : Steady s t) {x : Act} {second : Bool} : SteadyOut s (execMediaInstructionComplete x
    second t) := by
  unfold execMediaInstructionComplete
  split
  · split
    · exact outIte h.next (ite h.clockFails.channelEnd.scanStore h.clockFails.channelEnd).setMsq.advance.syncMode.next
    · exact h.next
  · exact h.setCh.next

theorem exec_heaterSettled (h : Steady s t) {x : Act} {second : Bool} : SteadyOut s (execHeaterSettled x second t) :=
  h.setMsq.advance.syncMode.next

theorem exec_squashRestart (h : Steady s t) {x : Act} : SteadyOut s (execSquashRestart x t) := h.restart.advance.syncMode.next

theorem exec_wedgeWatchdog (h : Steady s t) {x : Act} : SteadyOut s (execWedgeWatchdog x t) :=
  outIte h.squashBy.syncMode.next h.next

/-! ### Sys2Proof/Machine/Microcode.lean -/

theorem capTrap (h : Steady s t) {x : Act} {reason upc pc : Nat} : Steady s (t.capTrap x reason upc pc) :=
  h.put.put.put.raise.progError

theorem uFail (h : Steady s t) {x : Act} {e : UErr} : Steady s (t.uFail x e) := by
  unfold State.uFail
  split
  · exact h.progError
  · exact h.capTrap

theorem startRoutine (h : Steady s t) {x : Act} : Steady s (t.startRoutine x) := by
  unfold State.startRoutine
  split
  · exact h
  · refine ite h.progError ?_
    split
    rename_i e₁
    split
    rename_i e₂
    have h2 := (h.sramRead.ofSnd e₁).sramRead.ofSnd e₂
    refine ite h2.progError (ite h2 ?_)
    extract_lets _ _ _ _ s3 _
    have h3 : Steady s s3 := h2.setMsq
    refine ite h3.progError ?_
    split
    · exact h3.setMsq
    · exact h3.uFail

theorem uop (h : Steady s t) {x : Act} {capReason : Option Nat} {body : Micro → Arch → State → Except UErr (State × Option Nat)}
    (k : ∀ {i a u}, Steady s u → SteadyUop s (body i a u)) : Steady s (t.uop x capReason body) := by
  unfold State.uop
  extract_lets m0 s1 m _ bad u1
  have h1 : Steady s s1 := ite h h.startRoutine
  clear_value bad
  refine ite h ?_
  split
  · exact h1
  · refine ite h1 ?_
    cases bad with
    | some e => exact h1.uFail
    | none =>
      dsimp only
      split
      · exact h1.uFail
      · rename_i e
        have h2 := k h1.setMsq _ e
        split
        · exact h2.setMsq
        · exact h1.uFail
      · rename_i e
        have h2 := k h1.setMsq _ e
        refine ite h2 ?_
        split
        · exact h2.setMsq
        · exact h1.uFail

theorem setMicro (h : Steady s t) {x : Act} {y : Micro} : Steady s (t.setMicro x y) := h.setMsq

theorem uAlu (h : Steady s t) {x : Act} {m : FmtM} {f : Micro → Word → Word → Word → Word} : Steady s (t.uAlu x m f) :=
  h.uop (fun j => uopBind (uopBind (uopBind j.setMicro.uopOk)))

theorem note (h : Steady s t) {x : Act} {e : Staged} : Steady s (t.note x e) := h.setMsq

theorem applyShadow (h : Steady s t) {x : Act} {y : Nat} {z : Shadow} : Steady s (State.applyShadow x y t z) := by
  unfold State.applyShadow
  split
  · exact ite h.setSpec h.setSpec
  · exact h.setSpec
  · exact h.setSpec
  · exact h.setSpec
  · exact (ite h.note h).sramPut
  · exact h.note.regWrite
  · exact h.setSpec
  · exact h.setMsq
  · exact h.setMsq
  · exact h.setMsq
  · exact h.registerCommit

theorem applyShadows (h : Steady s t) {x : Act} {y : Nat} : Steady s (t.applyShadows x y) :=
  foldl h.setMicro fun j => j.applyShadow

theorem uStall (h : Steady s t) {x : Act} {m : Micro} {w : Stall} : SteadyUop s (t.uStall x m w) := by
  unfold State.uStall
  split
  · split
    · exact h.setMicro.uopOk
    · exact uopError
  · exact h.setMicro.uopOk

/-! ### Sys2Proof/Machine/Uops.lean -/

theorem exec_uopNop (h : Steady s t) {x : Act} : SteadyOut s (execUopNop x t) := (h.uop (fun j => j.uopOk)).next

theorem exec_uopBr (h : Steady s t) {x : Act} {target : BitVec 15} : SteadyOut s (execUopBr x target t) :=
  (h.uop (fun j => j.uopOk)).next

theorem exec_uopBrc (h : Steady s t) {x : Act} {cond : BitVec 4} {target : BitVec 15} : SteadyOut s (execUopBrc x cond target t)
    := by
  refine next (h.uop (fun j => ?_))
  split
  · exact j.uopOk
  · exact j.uopOk
  · exact uopError

theorem exec_uopCall (h : Steady s t) {x : Act} {target : BitVec 15} : SteadyOut s (execUopCall x target t) :=
  (h.uop (fun j => uopIte j.setMicro.uopOk uopError)).next

theorem exec_uopRet (h : Steady s t) {x : Act} : SteadyOut s (execUopRet x t) := by
  refine next (h.uop (fun j => ?_))
  split
  · exact j.setMicro.uopOk
  · exact uopError

theorem exec_uopDisp (h : Steady s t) {x : Act} : SteadyOut s (execUopDisp x t) :=
  (h.uop (fun j => j.applyShadows.setSpec.setMicro.startRoutine.uopOk)).next

theorem exec_uopExtd (h : Steady s t) {x : Act} : SteadyOut s (execUopExtd x t) :=
  (h.uop (fun j => uopIte j.setMicro.uopOk uopError)).next

theorem exec_uopYield (h : Steady s t) {x : Act} : SteadyOut s (execUopYield x t) := (h.uop (fun j => j.setMicro.uopOk)).next

theorem exec_uopCommit (h : Steady s t) {x : Act} : SteadyOut s (execUopCommit x t) :=
  (h.uop (fun j => j.setMicro.applyShadows.uopOk)).next

theorem exec_uopTrap (h : Steady s t) {x : Act} {imm : BitVec 19} : SteadyOut s (execUopTrap x imm t) :=
  (h.uop fun _ => uopError).next

theorem exec_uopWait (h : Steady s t) {x : Act} {imm : BitVec 19} : SteadyOut s (execUopWait x imm t) :=
  (h.uop (fun j => j.uStall)).next

theorem exec_uopTestev (h : Steady s t) {x : Act} {imm : BitVec 19} : SteadyOut s (execUopTestev x imm t) :=
  (h.uop (fun j => j.setMicro.uopOk)).next

theorem exec_uopArm (h : Steady s t) {x : Act} {m : FmtM} : SteadyOut s (execUopArm x m t) :=
  (h.uop (fun j => uopBind (uopBind j.setCmps.uopOk))).next

theorem exec_uopDisarm (h : Steady s t) {x : Act} {m : FmtM} : SteadyOut s (execUopDisarm x m t) := by
  refine next (h.uop fun j => uopBind fun {b} => ?_)
  split
  · exact (ite j j.setCmps).uopOk
  · exact j.uopOk

theorem exec_uopSetflg (h : Steady s t) {x : Act} {imm : BitVec 19} : SteadyOut s (execUopSetflg x imm t) :=
  (h.uop (fun j => uopBind j.setMicro.uopOk)).next

theorem exec_uopClrflg (h : Steady s t) {x : Act} {imm : BitVec 19} : SteadyOut s (execUopClrflg x imm t) :=
  (h.uop (fun j => uopBind j.setMicro.uopOk)).next

theorem exec_uopAdd (h : Steady s t) {x : Act} {m : FmtM} : SteadyOut s (execUopAdd x m t) := h.uAlu.next

theorem exec_uopSub (h : Steady s t) {x : Act} {m : FmtM} : SteadyOut s (execUopSub x m t) := h.uAlu.next

theorem exec_uopAnd (h : Steady s t) {x : Act} {m : FmtM} : SteadyOut s (execUopAnd x m t) := h.uAlu.next

theorem exec_uopOr (h : Steady s t) {x : Act} {m : FmtM} : SteadyOut s (execUopOr x m t) := h.uAlu.next

theorem exec_uopXor (h : Steady s t) {x : Act} {m : FmtM} : SteadyOut s (execUopXor x m t) := h.uAlu.next

theorem exec_uopShl (h : Steady s t) {x : Act} {m : FmtM} : SteadyOut s (execUopShl x m t) := h.uAlu.next

theorem exec_uopShr (h : Steady s t) {x : Act} {m : FmtM} : SteadyOut s (execUopShr x m t) := h.uAlu.next

theorem exec_uopSar (h : Steady s t) {x : Act} {m : FmtM} : SteadyOut s (execUopSar x m t) := h.uAlu.next

theorem exec_uopAddi (h : Steady s t) {x : Act} {d : BitVec 7} {imm : BitVec 19} : SteadyOut s (execUopAddi x d imm t) :=
  (h.uop (fun j => uopBind (uopBind j.setMicro.uopOk))).next

theorem exec_uopLdi (h : Steady s t) {x : Act} {d : BitVec 7} {imm : BitVec 19} : SteadyOut s (execUopLdi x d imm t) :=
  (h.uop (fun j => uopBind j.setMicro.uopOk)).next

theorem exec_uopLui (h : Steady s t) {x : Act} {d : BitVec 7} {imm : BitVec 19} : SteadyOut s (execUopLui x d imm t) :=
  (h.uop (fun j => uopBind (uopBind j.setMicro.uopOk))).next

theorem exec_uopMov (h : Steady s t) {x : Act} {m : FmtM} : SteadyOut s (execUopMov x m t) :=
  (h.uop (fun j => uopBind (uopBind j.setMicro.uopOk))).next

theorem exec_uopCmp (h : Steady s t) {x : Act} {m : FmtM} : SteadyOut s (execUopCmp x m t) :=
  (h.uop (fun j => uopBind (uopBind j.setMicro.uopOk))).next

theorem exec_uopMin (h : Steady s t) {x : Act} {m : FmtM} : SteadyOut s (execUopMin x m t) := h.uAlu.next

theorem exec_uopMax (h : Steady s t) {x : Act} {m : FmtM} : SteadyOut s (execUopMax x m t) := h.uAlu.next

theorem exec_uopMul (h : Steady s t) {x : Act} {m : FmtM} : SteadyOut s (execUopMul x m t) := h.uAlu.next

theorem exec_uopLds (h : Steady s t) {x : Act} {m : FmtM} : SteadyOut s (execUopLds x m t) :=
  (h.uop (fun j => uopBind (uopIte uopError j.uStall))).next

theorem exec_uopSts (h : Steady s t) {x : Act} {m : FmtM} : SteadyOut s (execUopSts x m t) :=
  (h.uop (fun j => uopBind (uopBind (uopIte uopError (uopBind j.setMicro.uopOk))))).next

theorem exec_uopLdz (h : Steady s t) {x : Act} {m : FmtM} : SteadyOut s (execUopLdz x m t) :=
  (h.uop (fun j => uopBind (uopBind j.uStall))).next

theorem exec_uopLdpt (h : Steady s t) {x : Act} {m : FmtM} : SteadyOut s (execUopLdpt x m t) :=
  (h.uop (fun j => uopBind (uopIte uopError j.uStall))).next

theorem exec_uopRdr (h : Steady s t) {x : Act} {m : FmtM} : SteadyOut s (execUopRdr x m t) := by
  refine next (h.uop (fun j => uopBind (uopIte ?_ j.uStall)))
  split
  · exact j.uStall
  · exact uopError

theorem exec_uopWrr (h : Steady s t) {x : Act} {m : FmtM} : SteadyOut s (execUopWrr x m t) := by
  refine next (h.uop (fun j => uopBind (uopBind (uopIte ?_ (uopBind j.setMicro.uopOk)))))
  split
  · exact uopBind j.setMicro.uopOk
  · exact uopError

theorem exec_uopSel (h : Steady s t) {x : Act} {m : FmtM} : SteadyOut s (execUopSel x m t) := h.uAlu.next

theorem exec_uopBitx (h : Steady s t) {x : Act} {m : FmtM} : SteadyOut s (execUopBitx x m t) := h.uAlu.next

theorem exec_uopChset (h : Steady s t) {x : Act} {m : FmtM} : SteadyOut s (execUopChset x m t) :=
  (h.uop (fun j => j.chSet.uopOk)).next

theorem exec_uopChgo (h : Steady s t) {x : Act} {m : FmtM} : SteadyOut s (execUopChgo x m t) :=
  (h.uop (fun j => uopBind j.chGo.uopOk)).next

theorem exec_uopChwt (h : Steady s t) {x : Act} {m : FmtM} : SteadyOut s (execUopChwt x m t) :=
  (h.uop (fun j => uopBind j.uStall)).next

theorem uGate (h : Steady s t) {x : Act} {m : FmtM} {kind : Nat} : Steady s (t.uGate x m kind) :=
  h.uop (fun j => uopBind (uopBind j.addGate.uopOk))

theorem exec_uopGatew (h : Steady s t) {x : Act} {m : FmtM} : SteadyOut s (execUopGatew x m t) := h.uGate.next

theorem exec_uopGatel (h : Steady s t) {x : Act} {m : FmtM} : SteadyOut s (execUopGatel x m t) := h.uGate.next

theorem exec_uopGatee (h : Steady s t) {x : Act} {m : FmtM} : SteadyOut s (execUopGatee x m t) := h.uGate.next

theorem exec_uopTagld (h : Steady s t) {x : Act} {m : FmtM} : SteadyOut s (execUopTagld x m t) :=
  (h.uop (fun j => uopBind (uopBind (uopBind j.setMicro.uopOk)))).next

theorem exec_uopBufa (h : Steady s t) {x : Act} {m : FmtM} : SteadyOut s (execUopBufa x m t) :=
  (h.uop (fun j => uopBind (uopBind (uopIte (uopBind j.setMicro.uopOk) uopError)))).next

theorem exec_uopLpcmd (h : Steady s t) {x : Act} {m : FmtM} : SteadyOut s (execUopLpcmd x m t) :=
  (h.uop (fun j => uopBind (uopBind j.lpeCommand.uopOk))).next

theorem exec_uopLpwt (h : Steady s t) {x : Act} {m : FmtM} : SteadyOut s (execUopLpwt x m t) :=
  (h.uop (fun j => uopBind j.uStall)).next

theorem exec_uopHdsel (h : Steady s t) {x : Act} {m : FmtM} : SteadyOut s (execUopHdsel x m t) :=
  (h.uop (fun j => uopBind j.headSelect.uopOk)).next

theorem exec_uopPlkw (h : Steady s t) {x : Act} {m : FmtM} : SteadyOut s (execUopPlkw x m t) :=
  (h.uop (fun j => uopBind (uopBind j.plkWrite.uopOk))).next

theorem exec_uopPlkr (h : Steady s t) {x : Act} {m : FmtM} : SteadyOut s (execUopPlkr x m t) :=
  (h.uop (fun j => uopBind j.uStall)).next

theorem exec_uopHtr (h : Steady s t) {x : Act} {m : FmtM} : SteadyOut s (execUopHtr x m t) :=
  (h.uop (fun j => uopBind j.setMsq.setHeaters.uopOk)).next

theorem exec_uopAsst (h : Steady s t) {x : Act} {m : FmtM} : SteadyOut s (execUopAsst x m t) :=
  (h.uop (fun j => uopBind j.setMsq.restLasers.uopOk)).next

theorem exec_uopWglim (h : Steady s t) {x : Act} {m : FmtM} : SteadyOut s (execUopWglim x m t) :=
  (h.uop (fun j => uopBind (uopBind j.guardLimit.uopOk))).next

theorem exec_uopCtxb (h : Steady s t) {x : Act} {m : FmtM} : SteadyOut s (execUopCtxb x m t) :=
  (h.uop (fun j => uopBind j.uStall)).next

theorem exec_uopCtxp (h : Steady s t) {x : Act} {m : FmtM} : SteadyOut s (execUopCtxp x m t) :=
  (h.uop (fun j => uopBind (uopBind j.setMicro.uopOk))).next

theorem exec_uopKeysel (h : Steady s t) {x : Act} {m : FmtM} : SteadyOut s (execUopKeysel x m t) :=
  (h.uop (fun j => j.selectKey.uopOk)).next

theorem exec_uopBclk (h : Steady s t) {x : Act} {m : FmtM} : SteadyOut s (execUopBclk x m t) :=
  (h.uop (fun j => uopBind j.setBpr.uopOk)).next

theorem exec_uopCkwr (h : Steady s t) {x : Act} : SteadyOut s (execUopCkwr x t) :=
  (h.uop (fun j => uopBind j.setMicro.uopOk)).next

theorem exec_uopTick (h : Steady s t) {x : Act} {m : FmtM} : SteadyOut s (execUopTick x m t) :=
  (h.uop (fun j => uopBind j.setMicro.uopOk)).next

theorem exec_uopRbks (h : Steady s t) {x : Act} {m : FmtM} : SteadyOut s (execUopRbks x m t) :=
  (h.uop (fun j => uopBind (uopBind (uopBind j.setMicro.uopOk)))).next

theorem exec_uopHalts (h : Steady s t) {x : Act} : SteadyOut s (execUopHalts x t) :=
  (h.uop (fun j => uopBind j.setMicro.applyShadows.uopOk)).next

theorem stallValue (h : Steady s t) {x : Act} {reply : Word} {y : Stall} : Steady s (t.stallValue x reply y).2 := by
  unfold State.stallValue
  split
  · exact h
  · split
    · exact h
    · exact h.sramWord
  · exact h.zoneWord
  · exact h.paramWord
  · split
    · exact h
    · exact h.regRead
  · exact h
  · exact h
  · exact h
  · exact h

theorem exec_microStallEnd (h : Steady s t) {x : Act} {reply : Word} : SteadyOut s (execMicroStallEnd x reply t) := by
  unfold execMicroStallEnd
  extract_lets m
  split
  · refine outIte h.next ?_
    split
    rename_i e
    have h1 := h.stallValue.ofSnd e
    extract_lets _ u1
    split
    · exact h1.setMicro.next
    · split
      · exact h1.setMicro.next
      · exact h1.uFail.next
  · exact h.next

theorem exec_stepLimit (h : Steady s t) {x : Act} : SteadyOut s (execStepLimit x t) := outIte h.progError.next h.next

theorem exec_controlStoreParity (h : Steady s t) {x : Act} {uaddr : Nat} : SteadyOut s (execControlStoreParity x uaddr t) :=
  outIte h.next (outIte h.raise.squashBy.syncMode.next (ite (ite h.bump.rest h.bump).raise.raise (ite h.bump.rest
    h.bump).raise).raise.squashBy.syncMode.next)

/-! ### Sys2Proof/Machine/Exec.lean -/

theorem exec (h : Steady s t) : (c : Instr) → SteadyOut s (Machine.exec c t)
  | .frameCrcError => h.exec_frameCrcError
  | .laneFailure .. => h.exec_laneFailure
  | .laneRemapAck => h.exec_laneRemapAck
  | .laneRemapComplete => h.exec_laneRemapComplete
  | .laneRemapTimeout => h.exec_laneRemapTimeout
  | .linkLossSafeState => h.exec_linkLossSafeState
  | .linkTrainingComplete .. => h.exec_linkTrainingComplete
  | .d2dRelease => h.exec_d2dRelease
  | .registerWrite .. => h.exec_registerWrite
  | .latRead .. => h.exec_latRead
  | .lathWrite .. => h.exec_lathWrite
  | .latWrite .. => h.exec_latWrite
  | .access64bit .. => h.exec_access64bit
  | .narrowWrite .. => h.exec_narrowWrite
  | .accessFault .. => h.exec_accessFault
  | .servoCorrection .. => h.exec_servoCorrection
  | .bemfCorrection .. => h.exec_bemfCorrection
  | .servoSourceTimeout => h.exec_servoSourceTimeout
  | .angleLoss => h.exec_angleLoss
  | .masterSwitch => h.exec_masterSwitch
  | .comparatorFire .. => h.exec_comparatorFire
  | .msqSubmit .. => h.exec_msqSubmit
  | .resumeContextAnswer .. => h.exec_resumeContextAnswer
  | .slotStart .. => h.exec_slotStart
  | .slotResume .. => h.exec_slotResume
  | .slotDiscard .. => h.exec_slotDiscard
  | .slotAbort .. => h.exec_slotAbort
  | .slotdoneClear .. => h.exec_slotdoneClear
  | .nop .. => h.exec_nop
  | .br .. => h.exec_br
  | .brc .. => h.exec_brc
  | .call .. => h.exec_call
  | .ret .. => h.exec_ret
  | .halt .. => h.exec_halt
  | .waita .. => h.exec_waita
  | .waite .. => h.exec_waite
  | .yield .. => h.exec_yield
  | .ldi .. => h.exec_ldi
  | .mov .. => h.exec_mov
  | .add .. => h.exec_add
  | .sub .. => h.exec_sub
  | .and .. => h.exec_and
  | .or .. => h.exec_or
  | .xor .. => h.exec_xor
  | .shl .. => h.exec_shl
  | .shr .. => h.exec_shr
  | .cmp .. => h.exec_cmp
  | .seek .. => h.exec_seek
  | .follow .. => h.exec_follow
  | .offset .. => h.exec_offset
  | .headsel .. => h.exec_headsel
  | .loadh .. => h.exec_loadh
  | .unloadh .. => h.exec_unloadh
  | .read .. => h.exec_read
  | .write .. => h.exec_write
  | .verify .. => h.exec_verify
  | .scan .. => h.exec_scan
  | .eraseb .. => h.exec_eraseb
  | .assist .. => h.exec_assist
  | .heat .. => h.exec_heat
  | .preheat .. => h.exec_preheat
  | .bind .. => h.exec_bind
  | .badv .. => h.exec_badv
  | .tag .. => h.exec_tag
  | .post .. => h.exec_post
  | .commit .. => h.exec_commit
  | .fence .. => h.exec_fence
  | .chkpt .. => h.exec_chkpt
  | .ext .. => h.exec_ext
  | .rdreg .. => h.exec_rdreg
  | .wrreg .. => h.exec_wrreg
  | .positioningComplete .. => h.exec_positioningComplete
  | .mediaInstructionComplete .. => h.exec_mediaInstructionComplete
  | .heaterSettled .. => h.exec_heaterSettled
  | .ccxBindConfirm .. => h.exec_ccxBindConfirm
  | .waiteTimeout .. => h.exec_waiteTimeout
  | .waitaTimeout .. => h.exec_waitaTimeout
  | .slotTimeout .. => h.exec_slotTimeout
  | .wedgeCheck .. => h.exec_wedgeCheck
  | .squashRestart .. => h.exec_squashRestart
  | .wedgeWatchdog .. => h.exec_wedgeWatchdog
  | .controlStoreParity .. => h.exec_controlStoreParity
  | .stepLimit .. => h.exec_stepLimit
  | .uopNop .. => h.exec_uopNop
  | .uopBr .. => h.exec_uopBr
  | .uopBrc .. => h.exec_uopBrc
  | .uopCall .. => h.exec_uopCall
  | .uopRet .. => h.exec_uopRet
  | .uopDisp .. => h.exec_uopDisp
  | .uopExtd .. => h.exec_uopExtd
  | .uopYield .. => h.exec_uopYield
  | .uopCommit .. => h.exec_uopCommit
  | .uopTrap .. => h.exec_uopTrap
  | .uopWait .. => h.exec_uopWait
  | .uopTestev .. => h.exec_uopTestev
  | .uopArm .. => h.exec_uopArm
  | .uopDisarm .. => h.exec_uopDisarm
  | .uopSetflg .. => h.exec_uopSetflg
  | .uopClrflg .. => h.exec_uopClrflg
  | .uopAdd .. => h.exec_uopAdd
  | .uopSub .. => h.exec_uopSub
  | .uopAnd .. => h.exec_uopAnd
  | .uopOr .. => h.exec_uopOr
  | .uopXor .. => h.exec_uopXor
  | .uopShl .. => h.exec_uopShl
  | .uopShr .. => h.exec_uopShr
  | .uopSar .. => h.exec_uopSar
  | .uopAddi .. => h.exec_uopAddi
  | .uopLdi .. => h.exec_uopLdi
  | .uopLui .. => h.exec_uopLui
  | .uopMov .. => h.exec_uopMov
  | .uopCmp .. => h.exec_uopCmp
  | .uopMin .. => h.exec_uopMin
  | .uopMax .. => h.exec_uopMax
  | .uopMul .. => h.exec_uopMul
  | .uopLds .. => h.exec_uopLds
  | .uopSts .. => h.exec_uopSts
  | .uopLdz .. => h.exec_uopLdz
  | .uopLdpt .. => h.exec_uopLdpt
  | .uopRdr .. => h.exec_uopRdr
  | .uopWrr .. => h.exec_uopWrr
  | .uopSel .. => h.exec_uopSel
  | .uopBitx .. => h.exec_uopBitx
  | .uopChset .. => h.exec_uopChset
  | .uopChgo .. => h.exec_uopChgo
  | .uopChwt .. => h.exec_uopChwt
  | .uopGatew .. => h.exec_uopGatew
  | .uopGatel .. => h.exec_uopGatel
  | .uopGatee .. => h.exec_uopGatee
  | .uopTagld .. => h.exec_uopTagld
  | .uopBufa .. => h.exec_uopBufa
  | .uopLpcmd .. => h.exec_uopLpcmd
  | .uopLpwt .. => h.exec_uopLpwt
  | .uopHdsel .. => h.exec_uopHdsel
  | .uopPlkw .. => h.exec_uopPlkw
  | .uopPlkr .. => h.exec_uopPlkr
  | .uopHtr .. => h.exec_uopHtr
  | .uopAsst .. => h.exec_uopAsst
  | .uopWglim .. => h.exec_uopWglim
  | .uopCtxb .. => h.exec_uopCtxb
  | .uopCtxp .. => h.exec_uopCtxp
  | .uopKeysel _ m => h.exec_uopKeysel (m := m)
  | .uopBclk .. => h.exec_uopBclk
  | .uopCkwr .. => h.exec_uopCkwr
  | .uopTick .. => h.exec_uopTick
  | .uopRbks .. => h.exec_uopRbks
  | .uopHalts .. => h.exec_uopHalts
  | .microStallEnd .. => h.exec_microStallEnd
  | .sapwoodLoadOpen .. => h.exec_sapwoodLoadOpen
  | .sapdataAccess .. => h.exec_sapdataAccess
  | .syncMarkSearch .. => h.exec_syncMarkSearch
  | .sectorDecode .. => h.exec_sectorDecode
  | .redetection .. => h.exec_redetection
  | .redetectionDeadline .. => h.exec_redetectionDeadline
  | .defectFreeze .. => h.exec_defectFreeze
  | .freezeLimit .. => h.exec_freezeLimit
  | .frecpop .. => h.exec_frecpop
  | .eqdataAccess .. => h.exec_eqdataAccess
  | .xtsSector .. => h.exec_xtsSector
  | .laserGateLimit .. => h.exec_laserGateLimit
  | .monitorRead .. => h.exec_monitorRead
  | .lmrel .. => h.exec_lmrel
  | .headContact .. => h.exec_headContact
  | .writeGuardTrip .. => h.exec_writeGuardTrip
  | .writeGuardRelease .. => h.exec_writeGuardRelease
  | .tornpop .. => h.exec_tornpop
  | .plkWriteFrame .. => h.exec_plkWriteFrame
  | .plkReadFrame .. => h.exec_plkReadFrame
  | .plkResponseTimeout .. => h.exec_plkResponseTimeout
  | .plkFirmwareFrame .. => h.exec_plkFirmwareFrame
  | .preampFault .. => h.exec_preampFault
  | .vcmSample .. => h.exec_vcmSample
  | .microactuatorSample .. => h.exec_microactuatorSample
  | .spindleSample .. => h.exec_spindleSample
  | .busVoltageSample .. => h.exec_busVoltageSample
  | .laserPowerSample .. => h.exec_laserPowerSample
  | .heaterSample .. => h.exec_heaterSample
  | .searchStart .. => h.exec_searchStart
  | .searchExpiry .. => h.exec_searchExpiry
  | .followingError .. => h.exec_followingError
  | .outputSaturation .. => h.exec_outputSaturation
  | .loopOverrun .. => h.exec_loopOverrun
  | .safeLawExit .. => h.exec_safeLawExit
  | .lpeCopyMismatch .. => h.exec_lpeCopyMismatch
  | .simplexResidueFailure => h.exec_simplexResidueFailure
  | .readmit => h.exec_readmit
  | .readmitTestDone .. => h.exec_readmitTestDone
  | .bankSwap .. => h.exec_bankSwap
  | .coefdataAccess .. => h.exec_coefdataAccess
  | .retractDone .. => h.exec_retractDone
  | .vcmOvercurrent .. => h.exec_vcmOvercurrent
  | .vcmOpenCoil .. => h.exec_vcmOpenCoil
  | .uactOvercurrent .. => h.exec_uactOvercurrent
  | .bemfCrossing .. => h.exec_bemfCrossing
  | .bemfLoss => h.exec_bemfLoss
  | .bemfCoastTimeout => h.exec_bemfCoastTimeout
  | .startDecision => h.exec_startDecision
  | .senseTimeout .. => h.exec_senseTimeout
  | .probeComplete .. => h.exec_probeComplete
  | .handoffTimeout => h.exec_handoffTimeout
  | .keMeasurementStart => h.exec_keMeasurementStart
  | .keMeasurementDone .. => h.exec_keMeasurementDone
  | .kereq => h.exec_kereq
  | .kenomWrite .. => h.exec_kenomWrite
  | .runSet => h.exec_runSet
  | .runClear => h.exec_runClear
  | .shortBrakeWindow .. => h.exec_shortBrakeWindow
  | .stopTimeout => h.exec_stopTimeout
  | .spindleOvercurrent => h.exec_spindleOvercurrent
  | .spindleOcPauseEnd => h.exec_spindleOcPauseEnd
  | .ov2BrakeEnd => h.exec_ov2BrakeEnd
  | .spdcmdInvalid => h.exec_spdcmdInvalid
  | .vinUvwFall .. => h.exec_vinUvwFall
  | .vinUvwRelease .. => h.exec_vinUvwRelease
  | .dipTimerExpiry => h.exec_dipTimerExpiry
  | .vinPldFall .. => h.exec_vinPldFall
  | .lowvSet .. => h.exec_lowvSet
  | .lowvClear .. => h.exec_lowvClear
  | .ov1 .. => h.exec_ov1
  | .ov2 .. => h.exec_ov2
  | .ov3 .. => h.exec_ov3
  | .ovRelease .. => h.exec_ovRelease
  | .chopOpen => h.exec_chopOpen
  | .chopStuck => h.exec_chopStuck
  | .choprel => h.exec_choprel
  | .prerailFault => h.exec_prerailFault
  | .preenWrite => h.exec_preenWrite
  | .vcorePhaseDrop .. => h.exec_vcorePhaseDrop
  | .vcoreCurrentLimit => h.exec_vcoreCurrentLimit
  | .vcoreCurrentLimitEnd => h.exec_vcoreCurrentLimitEnd
  | .retractEntry => h.exec_retractEntry
  | .retractEndWrite => h.exec_retractEndWrite
  | .retractDoneWrite => h.exec_retractDoneWrite
  | .mediaPhaseEnd => h.exec_mediaPhaseEnd
  | .brakePhase .. => h.exec_brakePhase
  | .brakeBorExit .. => h.exec_brakeBorExit
  | .thmSample .. => h.exec_thmSample
  | .tjWarn => h.exec_tjWarn
  | .tjShut .. => h.exec_tjShut
  | .thermalReset .. => h.exec_thermalReset
  | .por .. => h.exec_por
  | .bor => h.exec_bor
  | .pinReset => h.exec_pinReset
  | .pinResetRelease .. => h.exec_pinResetRelease
  | .warmReset .. => h.exec_warmReset
  | .actuatorReset .. => h.exec_actuatorReset
  | .secureBoot .. => h.exec_secureBoot
  | .dramTrainingDone => h.exec_dramTrainingDone
  | .dramTrainingTimeout => h.exec_dramTrainingTimeout
  | .rankRetrain .. => h.exec_rankRetrain
  | .rankRetrainDone .. => h.exec_rankRetrainDone
  | .dramTemperaturePoll .. => h.exec_dramTemperaturePoll
  | .refreshWatchdog => h.exec_refreshWatchdog
  | .zeroFill => h.exec_zeroFill
  | .zeroFillDone => h.exec_zeroFillDone
  | .correctionTrack => h.exec_correctionTrack
  | .trackerEntryFree => h.exec_trackerEntryFree
  | .scrubGranule .. => h.exec_scrubGranule
  | .bufferReservationGrant => h.exec_bufferReservationGrant
  | .bufPoolWrite .. => h.exec_bufPoolWrite
  | .segmentRelease .. => h.exec_segmentRelease
  | .getinfo => h.exec_getinfo
  | .keygen .. => h.exec_keygen
  | .keyload .. => h.exec_keyload
  | .keywrap => h.exec_keywrap
  | .keyerase => h.exec_keyerase
  | .random => h.exec_random
  | .imgverify .. => h.exec_imgverify
  | .patchload => h.exec_patchload
  | .rollback .. => h.exec_rollback
  | .measure => h.exec_measure
  | .sign => h.exec_sign
  | .sesskey => h.exec_sesskey
  | .dbgchal => h.exec_dbgchal
  | .dbgresp .. => h.exec_dbgresp
  | .mailboxTimeout => h.exec_mailboxTimeout
  | .heartwoodReset .. => h.exec_heartwoodReset
  | .debugNonceLapse => h.exec_debugNonceLapse
  | .entropyHealthFailure => h.exec_entropyHealthFailure
  | .maskDrbgReseed => h.exec_maskDrbgReseed
  | .keyActivation .. => h.exec_keyActivation
  | .eraseComplete .. => h.exec_eraseComplete
  | .lrdataAccess .. => h.exec_lrdataAccess
  | .gcmEncrypt => h.exec_gcmEncrypt
  | .gcmDecrypt => h.exec_gcmDecrypt
  | .gmacGenerate => h.exec_gmacGenerate
  | .gmacVerify => h.exec_gmacVerify
  | .counterReservation .. => h.exec_counterReservation
  | .commandAdmission .. => h.exec_commandAdmission
  | .ctxOpen => h.exec_ctxOpen
  | .ctxAdmit .. => h.exec_ctxAdmit
  | .ctxQueuea .. => h.exec_ctxQueuea
  | .ctxQueueb .. => h.exec_ctxQueueb
  | .ctxCache .. => h.exec_ctxCache
  | .ctxZero .. => h.exec_ctxZero
  | .ctxEnd .. => h.exec_ctxEnd
  | .ccxPop .. => h.exec_ccxPop
  | .contextComplete .. => h.exec_contextComplete
  | .contextTimeout .. => h.exec_contextTimeout
  | .hostAbort .. => h.exec_hostAbort
  | .sasHardReset .. => h.exec_sasHardReset
  | .perst => h.exec_perst
  | .functionLevelReset .. => h.exec_functionLevelReset
  | .cstsRdy => h.exec_cstsRdy
  | .recoveryDownloadCommit .. => h.exec_recoveryDownloadCommit
  | .mgtWrite .. => h.exec_mgtWrite
  | .mgtRead .. => h.exec_mgtRead
  | .pairDropout .. => h.exec_pairDropout
  | .pairReadmit .. => h.exec_pairReadmit
  | .pairReadmitDone .. => h.exec_pairReadmitDone
  | .watchdogKick .. => h.exec_watchdogKick
  | .watchdogEnable .. => h.exec_watchdogEnable
  | .watchdogExpiry .. => h.exec_watchdogExpiry
  | .interruptCauseLatch .. => h.exec_interruptCauseLatch
  | .causeReadClear .. => h.exec_causeReadClear
  | .countdownTimerStart .. => h.exec_countdownTimerStart
  | .countdownTimerExpiry .. => h.exec_countdownTimerExpiry
  | .mcmo .. => h.exec_mcmo
  | .rominfo .. => h.exec_rominfo
  | .xspread .. => h.exec_xspread
  | .zerofill .. => h.exec_zerofill
  | .mboxcall .. => h.exec_mboxcall
  | .xspRead => h.exec_xspRead
  | .xspProgram .. => h.exec_xspProgram
  | .xspErase4k .. => h.exec_xspErase4k
  | .xspErase64k .. => h.exec_xspErase64k
  | .xspStatus .. => h.exec_xspStatus
  | .xspOperationEnd => h.exec_xspOperationEnd
  | .xspTimeout .. => h.exec_xspTimeout
  | .uartTransmit .. => h.exec_uartTransmit
  | .uartReceiveRead .. => h.exec_uartReceiveRead
  | .uartByteReceived .. => h.exec_uartByteReceived
  | .traceRecord .. => h.exec_traceRecord
  | .valeSlotTransmit => h.exec_valeSlotTransmit
  | .beacon .. => h.exec_beacon
  | .status .. => h.exec_status
  | .seekAnnouncement .. => h.exec_seekAnnouncement
  | .sync .. => h.exec_sync
  | .canopyElection => h.exec_canopyElection
  | .beaconLoss => h.exec_beaconLoss
  | .canopyHandover => h.exec_canopyHandover
  | .tokenTimeout .. => h.exec_tokenTimeout
  | .staggerExpiry => h.exec_staggerExpiry
  | .valeKeyWrite .. => h.exec_valeKeyWrite
  | .valeJoin => h.exec_valeJoin
  | .valeClrctr => h.exec_valeClrctr
  | .ringbookFold => h.exec_ringbookFold
  | .fwevWrite .. => h.exec_fwevWrite
  | .rbkSnap => h.exec_rbkSnap
  | .rbkSnapDone => h.exec_rbkSnapDone
  | .rbkFlush .. => h.exec_rbkFlush
  | .rbkFlushDone .. => h.exec_rbkFlushDone
  | .rbkWindowWrite .. => h.exec_rbkWindowWrite
  | .modeReqSplit .. => h.exec_modeReqSplit
  | .modeReqSelfwrite => h.exec_modeReqSelfwrite
  | .modeReqLeave => h.exec_modeReqLeave
  | .firmwareSwitch .. => h.exec_firmwareSwitch
  | .angleWrap => h.exec_angleWrap
  | .vcmOcPauseEnd .. => h.exec_vcmOcPauseEnd
  | .boostOutOfRegulation => h.exec_boostOutOfRegulation
  | .mediaBusExcursion .. => h.exec_mediaBusExcursion
  | .mediaBusSettled .. => h.exec_mediaBusSettled
  | .borRelease .. => h.exec_borRelease
  | .activeIdleTimeout => h.exec_activeIdleTimeout
  | .hostDataTransfer .. => h.exec_hostDataTransfer
  | .hostLinkChange .. => h.exec_hostLinkChange
  | .phyPllLockLoss => h.exec_phyPllLockLoss
  | .controllerEnable => h.exec_controllerEnable
  | .preampFaultClear .. => h.exec_preampFaultClear
  | .uartByteSent => h.exec_uartByteSent
  | .ringbookPeriodicSample .. => h.exec_ringbookPeriodicSample
  | .debugHalt .. => h.exec_debugHalt

end Steady

/-! ### The tick -/

namespace KeepsForms
variable {s t u : State}

theorem andThen (h : KeepsForms s t) (k : Steady t u) : KeepsForms s u := ⟨k.regs ∘ h.regs, k.mem ∘ h.mem⟩

/-- The firings of the comparators wait in the queue, which a command leaves as it is. -/
theorem fireCmps (h : KeepsForms s t) {x : Act} {old new : Nat} : KeepsForms s (t.fireCmps x old new) :=
  have hset {c} : KeepsForms s (t.setCmps x c) := h.andThen (Steady.refl t).setCmps
  ⟨hset.regs, hset.mem⟩

theorem angleTick (h : KeepsForms s t) : KeepsForms s t.angleTick := by
  unfold State.angleTick
  split
  · exact h
  · split
    extract_lets sum old new _ s1 s2
    have h1 : KeepsForms s s1 := h.andThen (Steady.refl t).rest
    have h2 : KeepsForms s s2 := h1.fireCmps.fireCmps
    split
    · exact h2
    · exact h2.andThen (Steady.refl s2).wrapStep

/-- What a tick does after the angle's part. -/
theorem restTick (t : State) (ats : Nat) : Steady t
    ((((((((t.gateTick .a ats).gateTick .b ats).dutyTick 0).dutyTick 1).dutyTick 2).dutyTick 3).seekTick .a).seekTick .b).brkTick :=
  (Steady.refl t).gateTick.gateTick.dutyTick.dutyTick.dutyTick.dutyTick.seekTick.seekTick.brkTick

theorem tick (s : State) : KeepsForms s s.tick := by
  have h0 : KeepsForms s s.checkSource := (Steady.refl s).checkSource.toKeepsForms
  have h1 : KeepsForms s { s.checkSource with now := s.checkSource.now + 1 } := ⟨h0.regs, h0.mem⟩
  exact h1.angleTick.andThen (restTick _ s.checkSource.ang.ats)

theorem step (e : Machine.step s = .next t) : KeepsForms s t := by
  unfold Machine.step at e
  split at e
  · rw [← Host.Outcome.next.inj e]
    exact tick s
  · rename_i c rest _
    have h : Steady { s with pending := rest } t := (Steady.refl _).exec c t e
    exact ⟨h.regs, h.mem⟩

end KeepsForms

/-- Settles O42: every command and the tick write the register table through `State.wr`, or map it whole in a reset, and both keep
its canonical form. -/
theorem registersStayCanonical : Obligations.RegistersStayCanonical := fun _ _ h e => (KeepsForms.step e).regs h

end Sys2Proof.Proofs
end

section
/-!
PROOFS. Accesses (R60 to R69). The statement has a write in DRV change the written register alone; a write of DRV_CFG also sets
DRV_STAT.BOOSTOK by the boost's enable (R431, log 99), as it stops the microactuator outputs that no longer drive.
-/
namespace Sys2Proof.Proofs

open Sys2Proof.Machine Sys2Proof.Safety Sys2Proof.Laws

/-- A REGISTER_WRITE always answers, with the write carried out. -/
theorem exec_registerWrite (s : State) (i : Initiator) (a : Nat) (v : Word) :
    exec (.registerWrite i a v) s = .next (s.write32 i a v) := rfl

/-- The description of DRV_CFG. -/
def drvCfgDesc : RegDesc := { off := 0x20, reset := 0x1403, clr := .pin, rw := 0xFF03 }

theorem regDesc_drvCfg : regDesc Reg.DRV_CFG = some (none, drvCfgDesc) := by decide +kernel

/-- From reset a core may write DRV_CFG, which every variant has. -/
theorem drvCfg_writable : State.reset.reaches .lc0 = true ∧ State.reset.accessKind 2 Reg.DRV_CFG .store = none ∧
    inRegs Reg.DRV_CFG = true ∧ State.reset.fusedOff Reg.DRV_CFG = false := by
  decide +kernel

theorem reset_boostok : State.reset.flag Fld.DRV_STAT_BOOSTOK = false := by decide +kernel

/-- DRV_CFG written with its Reset value, in which BOOSTEN is 1, puts the boost in regulation. -/
theorem reset_write32_drvCfg_boostok :
    (State.reset.write32 .lc0 Reg.DRV_CFG 0x1403#32).flag Fld.DRV_STAT_BOOSTOK = true := by
  decide +kernel

/-- Refutes O5: a write of DRV_CFG from reset with BOOSTEN 1 sets DRV_STAT.BOOSTOK, where the clause of register writes has a write in
DRV leave every register but the written one. -/
theorem not_registerAccess : ¬ Obligations.RegisterAccess := by
  unfold Obligations.RegisterAccess
  rintro ⟨writeClause, -⟩
  obtain ⟨reached, performed, register, present⟩ := drvCfg_writable
  obtain ⟨t, answer, -, others⟩ :=
    writeClause State.reset .lc0 Reg.DRV_CFG 0x1403#32 _ _ reached performed register present (by decide) regDesc_drvCfg rfl
  rw [exec_registerWrite, Host.Outcome.next.injEq] at answer
  have kept : t.flag Fld.DRV_STAT_BOOSTOK = State.reset.flag Fld.DRV_STAT_BOOSTOK :=
    keeps_flag others Fld.DRV_STAT_BOOSTOK (by decide) (by decide)
  rw [← answer, reset_write32_drvCfg_boostok, reset_boostok] at kept
  exact absurd kept (by decide)

end Sys2Proof.Proofs
end

section
/-!
PROOFS. Time (R81, R87; log 1): a command takes none, and a step with no command waiting is one tick.
-/
namespace Sys2Proof.Proofs

open Sys2Proof.Machine Sys2Proof.Safety Sys2Proof.Laws

/-- Settles O44: what every command keeps includes the clock. -/
theorem commandsTakeNoTime : Obligations.CommandsTakeNoTime := fun s c t e => ((Steady.refl s).exec c t e).clock

@[simp] theorem setCmps_now (s : State) (x : Act) (c : List (Nat × Cmp)) : (s.setCmps x c).now = s.now := by
  cases x <;> rfl

theorem fireCmps_now (s : State) (x : Act) (old new : Nat) : (s.fireCmps x old new).now = s.now :=
  setCmps_now s x _

theorem wrapStep_now (s : State) : s.wrapStep.now = s.now := (Steady.refl s).wrapStep.clock

theorem angleTick_now (s : State) : s.angleTick.now = s.now := by
  unfold State.angleTick
  split
  · rfl
  · split
    extract_lets sum old new s0 s1 s2
    have fired : s2.now = s.now := (fireCmps_now _ .b old new).trans (fireCmps_now s1 .a old new)
    split
    · exact fired
    · exact (wrapStep_now s2).trans fired

/-- A tick moves the clock on by one (R81): the check of the source and what follows the angle take no time. -/
theorem tick_now (s : State) : s.tick.now = s.now + 1 := by
  unfold State.tick
  rw [(KeepsForms.restTick _ _).clock, angleTick_now]
  exact congrArg (· + 1) (Steady.refl s).checkSource.clock

theorem step_idle (s : State) (idle : s.pending = []) : step s = .next s.tick := by
  rw [step, idle]

/-- Settles O2: with an empty queue a step is a tick, which moves the clock on by one. -/
theorem idleStepTicks : Obligations.IdleStepTicks := fun s idle => ⟨step_idle s idle, tick_now s⟩

end Sys2Proof.Proofs
end

section
/-!
PROOFS. Corrections of the angle (R92). The statement has ANG_STAT.WEDGE read a correction's wedge number in every state; the field has
10 bits, and a state may hold more than 1,024 wedges per revolution, which no write of ANG_CFG leaves there (R86).
-/
namespace Sys2Proof.Proofs

open Sys2Proof.Machine Sys2Proof.Safety Sys2Proof.Laws

theorem get_lt (s : State) (f : Field) : s.get f < 2 ^ f.len := Nat.mod_lt _ (Nat.two_pow_pos _)

/-- From reset with 1,025 wedges per revolution, and head 0 bound to the first channel of actuator A, the master. -/
def manyWedges : State :=
  (State.reset.setMsq .a { State.reset.msqA with pos0 := { State.reset.msqA.pos0 with head := some 0 } }).put Fld.ANG_CFG_WEDGES 1025

/-- A SERVO correction from wedge 1,024 is taken: SERVOEN is 1, the head is not frozen and the wedge exists. -/
theorem manyWedges_corrects : (manyWedges.msq manyWedges.master).pos0.head = some 0 ∧ manyWedges.flag Fld.ANG_CFG_SERVOEN = true ∧
    manyWedges.servoFrozen manyWedges.master = false ∧ manyWedges.get Fld.ANG_CFG_WEDGES = 1025 := by
  decide +kernel

/-- Refutes O6: of 1,025 wedges the correction of wedge 1,024 shows wedge 0, where the clause of SERVO corrections has ANG_STAT.WEDGE
read 1,024. -/
theorem not_angleSources : ¬ Obligations.AngleSources := by
  unfold Obligations.AngleSources
  rintro ⟨servoClause, -⟩
  obtain ⟨bound, enabled, running, wedges⟩ := manyWedges_corrects
  obtain ⟨t, -, -, -, wedge, -⟩ := servoClause manyWedges 0 1024 bound enabled running (by omega)
  have fits : t.get Fld.ANG_STAT_WEDGE < 1024 := get_lt t _
  omega

end Sys2Proof.Proofs
end

section
/-!
PROOFS. The firing of a comparator (R101 to R104, R239, R345).
-/
namespace Sys2Proof.Proofs

open Sys2Proof.Machine Sys2Proof.Safety Sys2Proof.Laws

theorem cmps_setCmps (s : State) (x : Act) (c : List (Nat × Cmp)) : (s.setCmps x c).cmps x = c := by
  cases x <;> rfl

theorem cmps_setWrp (s : State) (x y : Act) (w : WrpSt) : (s.setWrp x w).cmps y = s.cmps y := by
  cases x <;> rfl

theorem cmps_setPlk (s : State) (x y : Act) (p : PlkSt) : (s.setPlk x p).cmps y = s.cmps y := by
  cases x <;> rfl

theorem wrp_setCmps (s : State) (x y : Act) (c : List (Nat × Cmp)) : (s.setCmps x c).wrp y = s.wrp y := by
  cases x <;> rfl

theorem plk_setCmps (s : State) (x y : Act) (c : List (Nat × Cmp)) : (s.setCmps x c).plk y = s.plk y := by
  cases x <;> rfl

theorem ats_setCmps (s : State) (x : Act) (c : List (Nat × Cmp)) : (s.setCmps x c).ang.ats = s.ang.ats := by
  cases x <;> rfl

/-- The state with a comparator disarmed. -/
def disarmed (s : State) (x : Act) (k : Nat) : State := s.setCmps x (mdel (s.cmps x) k)

theorem disarmed_keeps (s : State) (x : Act) (k : Nat) : Keeps [.ang] [] s (disarmed s x k) :=
  keeps_setCmps (by decide) (keeps_refl _ _ _)

/-! ### What a firing does, by destination (R239) -/

theorem exec_comparatorFire_free {s : State} {x : Act} {k : Nat} (unarmed : mfind (s.cmps x) k = none) :
    exec (.comparatorFire x k) s = .next s := by
  simp only [exec, execComparatorFire, unarmed]

section
variable {s : State} {x : Act} {k : Nat} {d : Cmp} (armed : mfind (s.cmps x) k = some d)
include armed

theorem exec_comparatorFire_early (early : d.hit = false) : exec (.comparatorFire x k) s = .next s := by
  simp only [exec, execComparatorFire, armed, early, Bool.not_false, if_true]

variable (hit : d.hit = true)
include hit

theorem exec_comparatorFire_gates (wrp : d.dest = 3) :
    exec (.comparatorFire x k) s = .next ((disarmed s x k).gatesFired x k) := by
  simp [exec, execComparatorFire, armed, hit, wrp, disarmed]

theorem exec_comparatorFire_head (plk : d.dest = 4) :
    exec (.comparatorFire x k) s = .next ((disarmed s x k).headStrobe x) := by
  simp [exec, execComparatorFire, armed, hit, plk, disarmed]

theorem exec_comparatorFire_nowhere (nowhere : 5 ≤ d.dest) : exec (.comparatorFire x k) s = .next (disarmed s x k) := by
  have other (n : Nat) (small : n < 5) : d.dest ≠ n := by omega
  simp only [exec, execComparatorFire, armed, hit, Bool.not_true, Bool.false_eq_true, if_false, other 0 (by decide), other 1 (by decide),
    other 2 (by decide), other 3 (by decide), other 4 (by decide), disarmed]

end

/-- The preamplifier's link once the staged head select has been applied (R345). -/
def headTaken (p : PlkSt) (w : Word) : PlkSt :=
  if w.getLsbD 4 then { p with hsel := none, sel1 := some (wfield w 0 4) } else { p with hsel := none, sel0 := some (wfield w 0 4) }

theorem headStrobe_eq {s : State} {x : Act} {w : Word} (staged : (s.plk x).hsel = some w) :
    s.headStrobe x = s.setPlk x (headTaken (s.plk x) w) := by
  simp only [State.headStrobe, staged, headTaken]

theorem headTaken_hsel (p : PlkSt) (w : Word) : (headTaken p w).hsel = none := by
  unfold headTaken
  split <;> rfl

theorem headTaken_sel (p : PlkSt) (w : Word) :
    (if w.getLsbD 4 then (headTaken p w).sel1 else (headTaken p w).sel0) = some (wfield w 0 4) := by
  unfold headTaken
  split <;> rfl

/-- Settles O7: a firing disarms its comparator and turns its gates or strobes its head select; one that is free or early does
nothing. -/
theorem comparatorFires : Obligations.ComparatorFires := by
  unfold Obligations.ComparatorFires
  refine ⟨?gates, ?head, ?nowhere, ?free, ?early⟩
  case gates =>
    intro s x k d armed hit wrp
    refine ⟨_, exec_comparatorFire_gates armed hit wrp, ?_, ?_,
      keeps_setWrp (within_nil rfl) (keeps_mono (disarmed_keeps s x k) (within_nil rfl))⟩
    · exact (cmps_setWrp _ _ _ _).trans (cmps_setCmps s x _)
    · simp only [State.gatesFired, wrp_setWrp, disarmed, wrp_setCmps, ats_setCmps]
  case head =>
    intro s x k d w armed hit plk staged
    have strobed : (disarmed s x k).headStrobe x = (disarmed s x k).setPlk x (headTaken ((disarmed s x k).plk x) w) :=
      headStrobe_eq ((congrArg PlkSt.hsel (plk_setCmps s x x _)).trans staged)
    refine ⟨_, (exec_comparatorFire_head armed hit plk).trans (congrArg _ strobed), ?_, ?_, ?_,
      keeps_setPlk (within_nil rfl) (keeps_mono (disarmed_keeps s x k) (within_nil rfl))⟩
    · exact (cmps_setPlk _ _ _ _).trans (cmps_setCmps s x _)
    · rw [plk_setPlk, headTaken_hsel]
    · rw [plk_setPlk, headTaken_sel]
  case nowhere => exact fun s x k d armed hit nowhere => exec_comparatorFire_nowhere armed hit nowhere
  case free => exact fun s x k unarmed => exec_comparatorFire_free unarmed
  case early => exact fun s x k d armed early => exec_comparatorFire_early armed early

end Sys2Proof.Proofs
end

section
/-!
PROOFS. The mode as it follows its conditions (R748 to R753): what a change of MODE writes, and what a spindle that needs no stop leaves.
-/
namespace Sys2Proof.Proofs

open Sys2Proof.Machine Sys2Proof.Safety Sys2Proof.Laws

/-! ### The parts that a frame leaves out -/

section
variable {P : List Part} {R : List Field} {s t : State}

theorem keeps_sys (k : Keeps P R s t) (h : Part.sys ∉ P) : t.sys = s.sys := k.part .sys (by decide) h

theorem keeps_now (k : Keeps P R s t) (h : Part.now ∉ P) : t.now = s.now := k.part .now (by decide) h

theorem keeps_apc (k : Keeps P R s t) (h : Part.apc ∉ P) : t.apc = s.apc := k.part .apc (by decide) h

end

/-! ### The spindle's check (R465, R715, R750) -/

/-- The fields that dropping the group reference writes. -/
def refFields : List Field :=
  recFields ++ [Fld.ANG_STAT_CANLOCK, ⟨Reg.ANG_REFERR, 0, 32⟩, Fld.VALE_STAT_PHOK, Fld.VALE_EV_REFLOST]

theorem refCheck_own_keeps (s : State) : Keeps [.rbk, .vale] refFields s s.refCheck := by
  unfold State.refCheck State.refDrop
  exact keeps_ite (keeps_refl _ _ _) (keeps_ite (keeps_raise (by decide) (keeps_set_vale (by decide)
    (keeps_putb (by decide) (keeps_wr (by decide) (keeps_putb (by decide) (keeps_refl _ _ _)))))) (keeps_refl _ _ _))

theorem stopNow_sys (s : State) : s.stopNow.sys = s.sys := keeps_sys (stopNow_keeps s) (by decide)

theorem runClear_sys (s : State) : s.runClear.sys = s.sys := by
  unfold State.runClear
  extract_lets s1 spn s2
  split
  · rfl
  · exact stopNow_sys s2

theorem spnCheck_sys (s : State) : s.spnCheck.sys = s.sys := by
  have held : (if s.spnHold && s.flag Fld.SPN_CTL_RUN then s.runClear else s).sys = s.sys := by
    split
    · exact runClear_sys s
    · rfl
  have reference := (keeps_sys (refCheck_own_keeps _) (by decide)).trans held
  unfold State.spnCheck
  extract_lets s1
  split
  · exact (stopNow_sys s1).trans reference
  · exact reference

theorem stopNow_of_stopped (s : State) (stopped : s.spnState = spnStopped) : s.stopNow = s := by
  simp [State.stopNow, stopped, spnStopped, spnL1, spnL2, spnCoast, spnSense, spnProbe, spnStep, spnRev]

/-- A stopped spindle has nothing to stop. -/
theorem spnCheck_of_stopped (s : State) (off : s.flag Fld.SPN_CTL_RUN = false) (stopped : s.spnState = spnStopped) :
    s.spnCheck = s.refCheck := by
  have still : s.refCheck.spnState = spnStopped := (keeps_get (refCheck_own_keeps s) _ (by decide) (by decide)).trans stopped
  simp only [State.spnCheck, off, Bool.and_false, Bool.false_eq_true, if_false, stopNow_of_stopped _ still, ite_self]

/-- A spindle that may run goes on while its heads are loaded. -/
theorem spnCheck_of_loaded (s : State) (free : s.spnHold = false) (loaded : s.loaded .a = true) : s.spnCheck = s.refCheck := by
  have still : s.refCheck.loaded .a = true := (congrArg SysSt.loadedA (keeps_sys (refCheck_own_keeps s) (by decide))).trans loaded
  simp only [State.spnCheck, free, Bool.false_and, Bool.false_eq_true, if_false, still, Bool.not_true, Bool.and_false]

/-! ### The watch of the slots in RUN (R749) -/

theorem runWatch_keeps (s : State) : Keeps [.sys] [] s s.runWatch := keeps_runWatch (by decide) (keeps_refl _ _ _)

theorem runWatch_sys (s : State) : ∃ active idle, s.runWatch.sys = { s.sys with active := active, idleAt := idle } := by
  unfold State.runWatch
  split
  · exact ⟨_, _, rfl⟩
  · split <;> exact ⟨_, _, rfl⟩

/-- With no slot in RUN, and the time since then known, nothing is noted. -/
theorem runWatch_of_idle (s : State) {a : Nat} (idle : s.sys.idleAt = some a) (noA : s.msqA.running = none)
    (noB : s.msqB.running = none) : s.runWatch = s := by
  simp only [State.runWatch, noA, noB, idle, Option.isSome_none, Bool.or_false, Bool.false_eq_true, if_false]

/-! ### A change of mode -/

/-- The state whose conditions give the mode. -/
def modeBase (s : State) : State := s.spnCheck.runWatch

/-- The fields that a change of mode writes. -/
def changeFields : List Field :=
  recFields ++ [Fld.SYS_EV_MODE, Fld.SYS_MODE_MODE, Fld.SYS_MODE_PREV, Fld.SPN_CMDSRC_SRC]

theorem modeChanged_keeps (s : State) (old new : Nat) :
    Keeps [.rbk] changeFields s (((s.put Fld.SYS_MODE_PREV old).put Fld.SYS_MODE_MODE new).raise Fld.SYS_EV_MODE) :=
  keeps_raise (by decide) (keeps_put (by decide) (keeps_put (by decide) (keeps_refl _ _ _)))

/-- What follows the event of a change of mode. -/
theorem modeEntered_keeps (s : State) (old new : Nat) :
    Keeps [.wrp] [Fld.SPN_CMDSRC_SRC] s
      (if old = 0xC then (if new = 4 then (s.lasersOff .a).lasersOff .b else s).put Fld.SPN_CMDSRC_SRC 0
        else if new = 4 then (s.lasersOff .a).lasersOff .b else s) := by
  have lasers : Keeps [.wrp] [Fld.SPN_CMDSRC_SRC] s (if new = 4 then (s.lasersOff .a).lasersOff .b else s) :=
    keeps_ite (keeps_lasersOff (by decide) (keeps_lasersOff (by decide) (keeps_refl _ _ _))) (keeps_refl _ _ _)
  exact keeps_ite (keeps_put (by decide) lasers) lasers

theorem syncMode_change_keeps (s : State) : Keeps [.rbk, .wrp] changeFields (modeBase s) s.syncMode :=
  keeps_ite (keeps_refl _ _ _) (keeps_via (modeEntered_keeps _ _ _) (by decide) (keeps_mono (modeChanged_keeps _ _ _) (by decide)))

/-- Where the conditions give another mode, MODE and PREV follow and the change is an event (R748, R753). -/
theorem syncMode_of_change (s : State) (change : (modeBase s).modeNow ≠ (modeBase s).get Fld.SYS_MODE_MODE) :
    s.syncMode.get Fld.SYS_MODE_MODE = (modeBase s).modeNow % 16 ∧
    s.syncMode.get Fld.SYS_MODE_PREV = (modeBase s).get Fld.SYS_MODE_MODE % 16 ∧ s.syncMode.flag Fld.SYS_EV_MODE = true := by
  have entered : s.syncMode = _ := if_neg change
  rw [entered]
  refine ⟨(keeps_get (modeEntered_keeps _ _ _) _ (by decide) (by decide)).trans ?_,
    (keeps_get (modeEntered_keeps _ _ _) _ (by decide) (by decide)).trans ?_,
    (keeps_flag (modeEntered_keeps _ _ _) _ (by decide) (by decide)).trans (flag_raise _ _ (by decide) rfl (by decide))⟩
  · exact (keeps_get (raise_keeps _ _) _ (by decide) (by decide)).trans (get_put _ _ _ (by decide))
  · exact (keeps_get (raise_keeps _ _) _ (by decide) (by decide)).trans
      ((get_put_other _ _ _ _ (by decide) (by decide)).trans (get_put _ _ _ (by decide)))

/-! ### What a change of mode leaves -/

/-- Of SYS itself only the watch of R749 moves. -/
theorem syncMode_sys (s : State) : ∃ active idle, s.syncMode.sys = { s.sys with active := active, idleAt := idle } := by
  rw [keeps_sys (syncMode_change_keeps s) (by decide), ← spnCheck_sys s]
  exact runWatch_sys s.spnCheck

theorem syncMode_faultA (s : State) : s.syncMode.sys.faultA = s.sys.faultA := by
  obtain ⟨_, _, h⟩ := syncMode_sys s
  rw [h]

theorem syncMode_faultB (s : State) : s.syncMode.sys.faultB = s.sys.faultB := by
  obtain ⟨_, _, h⟩ := syncMode_sys s
  rw [h]

theorem syncMode_switching (s : State) : s.syncMode.sys.switching = s.sys.switching := by
  obtain ⟨_, _, h⟩ := syncMode_sys s
  rw [h]

theorem syncMode_isSN (s : State) : s.syncMode.isSN = s.isSN :=
  congrArg (fun p : PinSt => p.variant == 3) (keeps_pins (syncMode_keeps s) (by decide))

theorem syncMode_get (s : State) (f : Field) (apart : modeFields.all (fun g => Apart g f) = true) : s.syncMode.get f = s.get f :=
  keeps_get (syncMode_keeps s) f (by decide) apart

theorem syncMode_flag (s : State) (f : Field) (apart : modeFields.all (fun g => Apart g f) = true) : s.syncMode.flag f = s.flag f :=
  keeps_flag (syncMode_keeps s) f (by decide) apart

/-- A spindle that needs no stop is as it was: only the reference, the watch and the mode move. -/
theorem syncMode_keeps_running (s : State) (quiet : s.spnCheck = s.refCheck) :
    Keeps [.rbk, .sys, .vale, .wrp] (refFields ++ changeFields) s s.syncMode := by
  have watched : Keeps [.rbk, .sys, .vale, .wrp] (refFields ++ changeFields) s (modeBase s) := by
    rw [modeBase, quiet]
    exact keeps_via (runWatch_keeps _) (by decide) (keeps_mono (refCheck_own_keeps s) (by decide))
  exact keeps_via (syncMode_change_keeps s) (by decide) watched

end Sys2Proof.Proofs
end

section
/-!
PROOFS. Requests of a mode (R754, R755).
-/
namespace Sys2Proof.Proofs

open Sys2Proof.Machine Sys2Proof.Safety Sys2Proof.Laws

/-- The verdict of a request as SYS_MODEREQ shows it, and GO cleared (R755). -/
def judged (s : State) (ok : Bool) : State :=
  ((s.putb Fld.SYS_MODEREQ_DONE ok).putb Fld.SYS_MODEREQ_REFUSED (!ok)).putb Fld.SYS_MODEREQ_GO false

/-- The fields of the verdict. -/
def judgedFields : List Field := [Fld.SYS_MODEREQ_DONE, Fld.SYS_MODEREQ_REFUSED, Fld.SYS_MODEREQ_GO]

theorem judged_keeps (s : State) (ok : Bool) : Keeps [] judgedFields s (judged s ok) :=
  keeps_putb (by decide) (keeps_putb (by decide) (keeps_putb (by decide) (keeps_refl _ _ _)))

/-- The fields of the latches that requests set and clear (R754). -/
def latchFields : List Field :=
  [Fld.SYS_MODE_SPLITACT, Fld.SYS_MODE_SPLITLAT, Fld.SYS_MODE_DEGLAT, Fld.SYS_MODE_SWLAT]

theorem modeTake_keeps (s : State) (req : Nat) : Keeps [] latchFields s (s.modeTake req) := by
  have left : Keeps [] latchFields s ((s.putb Fld.SYS_MODE_SPLITLAT false).putb Fld.SYS_MODE_SWLAT false) :=
    keeps_putb (by decide) (keeps_putb (by decide) (keeps_refl _ _ _))
  exact keeps_ite (keeps_put (by decide) (keeps_putb (by decide) (keeps_refl _ _ _)))
    (keeps_ite (keeps_putb (by decide) (keeps_refl _ _ _)) (keeps_ite left (keeps_putb (by decide) left)))

theorem modeReq_keeps (s : State) : Keeps modeParts (modeFields ++ latchFields ++ judgedFields) s s.modeReq := by
  have synced : Keeps modeParts (modeFields ++ latchFields ++ judgedFields) s s.syncMode := keeps_mono (syncMode_keeps s) (by decide)
  exact keeps_via (syncMode_keeps _) (by decide) (keeps_via (judged_keeps _ _) (by decide)
    (keeps_ite (keeps_via (modeTake_keeps _ _) (by decide) synced) synced))

theorem judged_verdict (s : State) (ok : Bool) : (judged s ok).syncMode.flag Fld.SYS_MODEREQ_DONE = ok ∧
    (judged s ok).syncMode.flag Fld.SYS_MODEREQ_REFUSED = !ok ∧ (judged s ok).syncMode.flag Fld.SYS_MODEREQ_GO = false := by
  rw [syncMode_flag _ _ (by decide), syncMode_flag _ _ (by decide), syncMode_flag _ _ (by decide)]
  refine ⟨?_, ?_, flag_putb _ _ _ (by decide) rfl⟩
  · exact (flag_putb_other _ _ _ _ (by decide) (by decide)).trans
      ((flag_putb_other _ _ _ _ (by decide) (by decide)).trans (flag_putb _ _ _ (by decide) rfl))
  · exact (flag_putb_other _ _ _ _ (by decide) (by decide)).trans (flag_putb _ _ _ (by decide) rfl)

/-- A field that neither the verdict nor the mode writes. -/
theorem judged_get (s : State) (ok : Bool) (f : Field) (verdict : judgedFields.all (fun g => Apart g f) = true)
    (mode : modeFields.all (fun g => Apart g f) = true) : (judged s ok).syncMode.get f = s.get f :=
  (syncMode_get _ f mode).trans (keeps_get (judged_keeps s ok) f (by decide) verdict)

theorem judged_flag (s : State) (ok : Bool) (f : Field) (verdict : judgedFields.all (fun g => Apart g f) = true)
    (mode : modeFields.all (fun g => Apart g f) = true) : (judged s ok).syncMode.flag f = s.flag f :=
  (syncMode_flag _ f mode).trans (keeps_flag (judged_keeps s ok) f (by decide) verdict)

section
variable {s : State} {req : Nat} (asked : s.get Fld.SYS_MODEREQ_REQ = req)
include asked

theorem modeReq_granted (grant : s.syncMode.modeGrant req = true) : s.modeReq = (judged (s.syncMode.modeTake req) true).syncMode := by
  have code : s.syncMode.get Fld.SYS_MODEREQ_REQ = req := (syncMode_get s _ (by decide)).trans asked
  simp only [State.modeReq, code, grant, if_true, judged]

theorem modeReq_refused (refuse : s.syncMode.modeGrant req = false) : s.modeReq = (judged s.syncMode false).syncMode := by
  have code : s.syncMode.get Fld.SYS_MODEREQ_REQ = req := (syncMode_get s _ (by decide)).trans asked
  simp only [State.modeReq, code, refuse, Bool.false_eq_true, if_false, judged]

end

/-! ### SPLIT -/

/-- The request of SPLIT for an actuator. -/
def askSplit (s : State) (x : Act) : State := (s.put Fld.SYS_MODEREQ_REQ 0x6).put Fld.SYS_MODEREQ_ACT x.idx

theorem askSplit_keeps (s : State) (x : Act) : Keeps [] [Fld.SYS_MODEREQ_REQ, Fld.SYS_MODEREQ_ACT] s (askSplit s x) :=
  keeps_put (by decide) (keeps_put (by decide) (keeps_refl _ _ _))

theorem askSplit_req (s : State) (x : Act) : (askSplit s x).get Fld.SYS_MODEREQ_REQ = 6 :=
  (get_put_other _ _ _ _ (by decide) (by decide)).trans (get_put _ _ _ (by decide))

theorem askSplit_act (s : State) (x : Act) : (askSplit s x).get Fld.SYS_MODEREQ_ACT = x.idx :=
  (get_put _ _ _ (by decide)).trans (by cases x <;> rfl)

/-- SPLIT needs both actuators, neither in FAULT (R754). -/
theorem modeGrant_split_faulted (s : State) (bad : s.sys.faultA = true ∨ s.sys.faultB = true ∨ s.isSN = true) :
    s.modeGrant 6 = false := by
  rcases bad with h | h | h <;> simp [State.modeGrant, h]

theorem modeTake_split_flag (s : State) : (s.modeTake 6).flag Fld.SYS_MODE_SPLITLAT = true :=
  (flag_put_other _ _ _ _ (by decide) (by decide)).trans (flag_putb _ _ _ (by decide) rfl)

theorem modeTake_split_act (s : State) : (s.modeTake 6).get Fld.SYS_MODE_SPLITACT = s.get Fld.SYS_MODEREQ_ACT :=
  (get_put _ _ _ (by decide)).trans (Nat.mod_eq_of_lt (Nat.mod_lt _ (by decide)))

/-! ### SELFWRITE -/

/-- The request of SELFWRITE. -/
def askSelfwrite (s : State) : State := s.put Fld.SYS_MODEREQ_REQ 0xC

theorem askSelfwrite_keeps (s : State) : Keeps [] [Fld.SYS_MODEREQ_REQ] s (askSelfwrite s) := State_put_keeps s _ _

theorem askSelfwrite_req (s : State) : (askSelfwrite s).get Fld.SYS_MODEREQ_REQ = 0xC := get_put _ _ _ (by decide)

theorem baseMode_of_stopped (s : State) (off : s.flag Fld.SPN_CTL_RUN = false) (stopped : s.spnState = spnStopped) :
    s.baseMode = 1 := by
  simp only [State.baseMode, off, stopped, Bool.not_false, if_true]

theorem modeGrant_selfwrite_of_stopped (s : State) (off : s.flag Fld.SPN_CTL_RUN = false) (stopped : s.spnState = spnStopped)
    (unlocked : s.flag Fld.SYS_LOCK_LOCK = false) (calm : s.sys.switching = false) : s.modeGrant 0xC = true := by
  simp [State.modeGrant, baseMode_of_stopped s off stopped, unlocked, calm]

theorem modeGrant_selfwrite_barred (s : State) (bar : s.flag Fld.SYS_LOCK_LOCK = true ∨ s.sys.switching = true) :
    s.modeGrant 0xC = false := by
  rcases bar with h | h <;> simp [State.modeGrant, h]

/-- A change of mode leaves a stopped spindle stopped. -/
theorem syncMode_of_stopped (s : State) (off : s.flag Fld.SPN_CTL_RUN = false) (stopped : s.spnState = spnStopped) :
    s.syncMode.flag Fld.SPN_CTL_RUN = false ∧ s.syncMode.spnState = spnStopped := by
  have frame := syncMode_keeps_running s (spnCheck_of_stopped s off stopped)
  exact ⟨(keeps_flag frame _ (by decide) (by decide)).trans off, (keeps_get frame _ (by decide) (by decide)).trans stopped⟩

/-! ### Leaving SPLIT, SELFWRITE and DEGRADED -/

/-- The request to leave. -/
def askLeave (s : State) : State := s.put Fld.SYS_MODEREQ_REQ 0x4

theorem askLeave_keeps (s : State) : Keeps [] [Fld.SYS_MODEREQ_REQ] s (askLeave s) := State_put_keeps s _ _

theorem askLeave_req (s : State) : (askLeave s).get Fld.SYS_MODEREQ_REQ = 4 := get_put _ _ _ (by decide)

/-- A request to leave needs a latch to leave (R754). -/
theorem modeGrant_leave (s : State) : s.modeGrant 4 =
    (s.flag Fld.SYS_MODE_SPLITLAT || s.flag Fld.SYS_MODE_SWLAT || s.flag Fld.SYS_MODE_DEGLAT) := rfl

/-- The latches after the request: DEGRADED stands while an actuator is in FAULT (R754). -/
theorem modeTake_leave (s : State) : (s.modeTake 4).flag Fld.SYS_MODE_SPLITLAT = false ∧ (s.modeTake 4).flag Fld.SYS_MODE_SWLAT = false ∧
    (s.modeTake 4).flag Fld.SYS_MODE_DEGLAT = (s.flag Fld.SYS_MODE_DEGLAT && (s.sys.faultA || s.sys.faultB)) := by
  have split_ : ((s.putb Fld.SYS_MODE_SPLITLAT false).putb Fld.SYS_MODE_SWLAT false).flag Fld.SYS_MODE_SPLITLAT = false :=
    (flag_putb_other _ _ _ _ (by decide) (by decide)).trans (flag_putb _ _ _ (by decide) rfl)
  have selfwrite : ((s.putb Fld.SYS_MODE_SPLITLAT false).putb Fld.SYS_MODE_SWLAT false).flag Fld.SYS_MODE_SWLAT = false :=
    flag_putb _ _ _ (by decide) rfl
  by_cases fault : (s.sys.faultA || s.sys.faultB) = true
  · have taken : s.modeTake 4 = (s.putb Fld.SYS_MODE_SPLITLAT false).putb Fld.SYS_MODE_SWLAT false := if_pos fault
    rw [taken, fault, Bool.and_true]
    exact ⟨split_, selfwrite, (flag_putb_other _ _ _ _ (by decide) (by decide)).trans
      (flag_putb_other _ _ _ _ (by decide) (by decide))⟩
  · have taken : s.modeTake 4 = ((s.putb Fld.SYS_MODE_SPLITLAT false).putb Fld.SYS_MODE_SWLAT false).putb Fld.SYS_MODE_DEGLAT false :=
      if_neg fault
    rw [taken, Bool.eq_false_of_not_eq_true fault, Bool.and_false]
    exact ⟨(flag_putb_other _ _ _ _ (by decide) (by decide)).trans split_,
      (flag_putb_other _ _ _ _ (by decide) (by decide)).trans selfwrite, flag_putb _ _ _ (by decide) rfl⟩

end Sys2Proof.Proofs
end

section
/-!
PROOFS. Memory as a unit reads and writes it (R541 to R543, R554): within memory's own parts and error fields.
-/
namespace Sys2Proof.Proofs

open Sys2Proof.Machine Sys2Proof.Safety Sys2Proof.Laws

/-- The parts that an access of memory touches. -/
def memParts : List Part := [.free, .mem, .rbk]

/-- The fields in which memory reports what an access found (R543, R547, R554). -/
def memFields : List Field :=
  recFields ++ [Fld.MEM_EV_CE, Fld.MEM_EV_UE, Fld.MEM_FLT_SRAMUE, Fld.MEM_UEADDR_ADDR, Fld.MEM_UEINFO_INIT, Fld.MEM_UEINFO_OVF,
    Fld.MEM_UEINFO_VALID, Fld.MEM_CETCTL_CET_OVF, Fld.MEM_SRAMERR_REGION, Fld.MEM_SRAMERR_CE, Fld.MEM_SRAMERR_UE, Fld.MEM_CNT_UE,
    Fld.MEM_CNT_CE]

/-- From s to t memory was accessed, and nothing else happened. -/
abbrev MemOnly (s t : State) : Prop := Keeps memParts memFields s t

theorem free_memOnly (s : State) : MemOnly s s.free.2 := keeps_set_freeCtr (by decide) (keeps_refl _ _ _)

theorem sramUe_memOnly (s : State) (region : Nat) : MemOnly s (s.sramUe region) :=
  keeps_raise (by decide) (keeps_put (by decide) (keeps_bump (by decide) (keeps_refl _ _ _)))

theorem sramRead_memOnly (s : State) (addr : Nat) : MemOnly s (s.sramRead addr).2 := by
  unfold State.sramRead
  split
  · exact keeps_refl _ _ _
  · exact keeps_trans (free_memOnly s) (sramUe_memOnly _ 0)
  · exact keeps_ite_snd (keeps_trans (free_memOnly s) (sramUe_memOnly _ 0))
      (keeps_ite (keeps_bump (by decide) (free_memOnly s)) (free_memOnly s))

theorem sramPut_memOnly (s : State) (addr : Nat) (v : Word) : MemOnly s (s.sramPut addr v) :=
  keeps_ite (keeps_set_mem (by decide) (keeps_refl _ _ _)) (keeps_refl _ _ _)

theorem sramMerge_memOnly (s : State) (addr : Nat) (bytes : List Byte) : MemOnly s (s.sramMerge addr bytes) :=
  keeps_ite (sramPut_memOnly s _ _) (keeps_ite (keeps_set_mem (by decide) (sramRead_memOnly s _))
    (keeps_trans (sramRead_memOnly s _) (sramPut_memOnly _ _ _)))

theorem memCe_memOnly (s : State) (addr symb : Nat) : MemOnly s (s.memCe addr symb) := by
  have counted : MemOnly s ((s.bump Fld.MEM_CNT_CE 1).raise Fld.MEM_EV_CE) :=
    keeps_raise (by decide) (keeps_bump (by decide) (keeps_refl _ _ _))
  exact keeps_ite (keeps_set_mem (by decide) counted) (keeps_bump (by decide) counted)

theorem memUe_memOnly (s : State) (init addr : Nat) : MemOnly s (s.memUe init addr) := by
  have counted : MemOnly s (s.bump Fld.MEM_CNT_UE 1) := keeps_bump (by decide) (keeps_refl _ _ _)
  exact keeps_raise (by decide) (keeps_ite (keeps_putb (by decide) counted)
    (keeps_putb (by decide) (keeps_put (by decide) (keeps_wr (by decide) counted))))

theorem dramCell_memOnly (s : State) (addr : Nat) : MemOnly s (s.dramCell addr).2 := by
  unfold State.dramCell
  split
  · exact keeps_refl _ _ _
  · exact keeps_trans (free_memOnly s) (free_memOnly _)

theorem dramRead_memOnly (s : State) (init addr : Nat) : MemOnly s (s.dramRead init addr).2 := by
  unfold State.dramRead
  split
  · exact keeps_trans (keeps_snd (dramCell_memOnly s addr) ‹_› (by decide) (keeps_refl _ _ _)) (memUe_memOnly _ _ _)
  · have cell := keeps_snd (dramCell_memOnly s addr) ‹_› (by decide) (keeps_refl memParts memFields s)
    split
    · exact cell
    · exact keeps_trans cell (memCe_memOnly _ _ _)
    · exact keeps_trans cell (memUe_memOnly _ _ _)

theorem dramSet_memOnly (s : State) (addr : Nat) (c : DramCell) : MemOnly s (s.dramSet addr c) :=
  keeps_set_mem (by decide) (keeps_refl _ _ _)

theorem dramMerge_memOnly (s : State) (init addr : Nat) (d mask : BitVec 64) : MemOnly s (s.dramMerge init addr d mask) :=
  keeps_ite (dramSet_memOnly s _ _) (keeps_ite (keeps_trans (dramRead_memOnly s init addr) (dramSet_memOnly _ _ _))
    (keeps_trans (dramRead_memOnly s init addr) (dramSet_memOnly _ _ _)))

theorem chunkAt_memOnly {s t : State} {init addr : Nat} {c : List Byte × Bool × Nat} (e : s.chunkAt init addr = some (c, t)) :
    MemOnly s t := by
  unfold State.chunkAt at e
  split at e
  · cases e
    exact sramRead_memOnly s _
  · split at e
    · cases e
      exact dramRead_memOnly s _ _
    · cases e

theorem bytesGo_memOnly (s : State) (init f n a : Nat) : MemOnly s (State.bytesGo init f n a s).2 := by
  induction f generalizing s n a with
  | zero => exact keeps_refl _ _ _
  | succ f ih =>
    refine keeps_ite_snd (keeps_refl _ _ _) ?_
    split
    · exact keeps_refl _ _ _
    · exact keeps_ite_snd (chunkAt_memOnly ‹_›) (keeps_trans (chunkAt_memOnly ‹_›) (ih _ _ _))

theorem putGo_memOnly (s : State) (init f : Nat) (l : List Byte) (a : Nat) : MemOnly s (State.putGo init f l a s) := by
  induction f generalizing s l a with
  | zero => exact keeps_refl _ _ _
  | succ f ih =>
    exact keeps_ite (keeps_refl _ _ _) (keeps_ite (keeps_trans (sramMerge_memOnly s _ _) (ih _ _ _))
      (keeps_trans (keeps_ite (dramMerge_memOnly s _ _ _ _) (keeps_refl _ _ _)) (ih _ _ _)))

theorem bytesAt_memOnly (s : State) (init n a : Nat) : MemOnly s (State.bytesAt init n a s).2 := bytesGo_memOnly s init n n a

theorem bytesPut_memOnly (s : State) (init : Nat) (l : List Byte) (a : Nat) : MemOnly s (State.bytesPut init l a s) :=
  putGo_memOnly s init _ l a

/-- The sections of an image are copied through memory (R770). -/
theorem copySections_memOnly (s : State) (base : Nat) : MemOnly s (s.copySections base) :=
  keeps_foldl (fun t _ =>
    have read := bytesAt_memOnly t 7 _ _
    keeps_ite (keeps_trans read (bytesPut_memOnly _ _ _ _)) (keeps_ite (keeps_trans read (bytesPut_memOnly _ _ _ _)) read))
    (keeps_refl _ _ _)

end Sys2Proof.Proofs
end

section
/-!
PROOFS. The firmware switch (R769 to R773).
-/
namespace Sys2Proof.Proofs

open Sys2Proof.Machine Sys2Proof.Safety Sys2Proof.Laws

/-! ### Its stages -/

/-- The mode that follows when a switch begins or ends. -/
def switchMode (s : State) (on : Bool) : State := ({ s with sys := { s.sys with switching := on } }).syncMode

/-- SYS_UPDCTL as a switch answers: its RESULT, and SWITCH cleared. -/
def switchResult (s : State) (r : Nat) : State := (s.put Fld.SYS_UPDCTL_RESULT r).putb Fld.SYS_UPDCTL_SWITCH false

/-- The accepted image in place, its version and its measurement taken (R616, R770). -/
def imageTaken (s : State) : State :=
  let t := s.copySections s.hwd.image.1
  (t.put Fld.HWD_BOOT_SVN (t.imgWord (s.hwd.image.1 + 8))).setMeas 2
    (digest 0x07 [BitVec.ofNat 32 s.hwd.image.1, BitVec.ofNat 32 (s.hwd.image.1 / 2 ^ 32), BitVec.ofNat 32 s.hwd.image.2,
      BitVec.ofNat 32 t.freeCtr])

/-- The image as the running one: window 3 moved, the cores at their first instruction with nothing in their caches. -/
def imageRuns (s : State) : State :=
  { s.moveWindow3 with apc := { s.apc with dirty := [], svc := none, csr0 := LcCsr.at s.now, csr1 := LcCsr.at s.now } }

/-- No interrupt cause latched. -/
def noCauses (s : State) : State := (s.wr Reg.INTC_CAUSE0 0).wr Reg.INTC_CAUSE1 0

/-- The cores started again: no cause latched, both watchdogs from the start. -/
def coresRestarted (s : State) : State := ((noCauses (imageRuns s)).wdRestart 0).wdRestart 1

/-- The image in place and the cores started again, before the switch answers. -/
def switched (s : State) : State := coresRestarted (imageTaken (switchMode s true))

/-- The answer of a switch that is done: RESULT 1, the event, and the mode (R770, R773). -/
def switchAnswered (s : State) : State := switchMode ((switchResult s 1).raise Fld.SYS_EV_UPD) false

/-- The state that a switch ends in. -/
def switchDone (s : State) : State := switchAnswered (switched s)

/-- The state that a switch ends in whose image no longer matches: as it began, save for its answer (R772). -/
def switchMismatch (s : State) : State :=
  (switchResult { switchMode s true with sys := { (switchMode s true).sys with switching := false } } 3).syncMode

theorem exec_firmwareSwitch (s : State) (hash : Bool) : exec (.firmwareSwitch hash) s = .next (s.fwSwitch hash) := rfl

theorem fwSwitch_unverified (s : State) (hash : Bool) (none_ : s.sys.imageVerified = false) : s.fwSwitch hash = switchResult s 2 :=
  if_pos (by simp [none_])

section
variable {s : State} (verified : s.sys.imageVerified = true) (calm : s.sys.switching = false)
  (notSelfwrite : s.get Fld.SYS_MODE_MODE ≠ 0xC) (notRetract : s.get Fld.SYS_MODE_MODE ≠ 9) (notCooldown : s.get Fld.SYS_MODE_MODE ≠ 0xA)
include verified calm notSelfwrite notRetract notCooldown

theorem fwSwitch_mismatch :
    s.fwSwitch false = switchMismatch s :=
  (if_neg (by simp [verified, calm, notSelfwrite, notRetract, notCooldown])).trans (if_pos (c := (!false) = true) rfl)

theorem fwSwitch_match :
    s.fwSwitch true = switchDone s := by
  unfold State.fwSwitch
  extract_lets mode fin sys begun
  rw [if_neg (by simp [mode, verified, calm, notSelfwrite, notRetract, notCooldown]), if_neg (by simp)]
  change _ = switchAnswered (coresRestarted (imageTaken begun))
  clear_value begun
  rfl

end

/-! ### What each stage keeps -/

theorem switchMode_keeps (s : State) (on : Bool) : Keeps modeParts modeFields s (switchMode s on) :=
  keeps_trans (keeps_set_sys (by decide) (keeps_refl _ _ _)) (syncMode_keeps _)

theorem switchMode_switching (s : State) (on : Bool) : (switchMode s on).sys.switching = on := syncMode_switching _

/-- The fields of SYS_UPDCTL that a switch writes. -/
def resultFields : List Field := [Fld.SYS_UPDCTL_RESULT, Fld.SYS_UPDCTL_SWITCH]

theorem switchResult_keeps (s : State) (r : Nat) : Keeps [] resultFields s (switchResult s r) :=
  keeps_putb (by decide) (keeps_put (by decide) (keeps_refl _ _ _))

theorem switchResult_result (s : State) (r : Nat) : (switchResult s r).get Fld.SYS_UPDCTL_RESULT = r % 4 :=
  (get_putb_other _ _ _ _ (by decide) (by decide)).trans (get_put _ _ _ (by decide))

theorem switchResult_switch (s : State) (r : Nat) : (switchResult s r).flag Fld.SYS_UPDCTL_SWITCH = false :=
  flag_putb _ _ _ (by decide) rfl

theorem imageTaken_keeps (s : State) : Keeps (.hwd :: memParts) (Fld.HWD_BOOT_SVN :: memFields) s (imageTaken s) :=
  keeps_set_hwd (by decide) (keeps_put (by decide) (keeps_mono (copySections_memOnly s _) (by decide)))

/-- The registers that the restart of the cores writes. -/
def restartFields : List Field :=
  [⟨Reg.INTC_CAUSE0, 0, 32⟩, ⟨Reg.INTC_CAUSE1, 0, 32⟩, ⟨Reg.XSP_PROTB 3, 0, 32⟩, ⟨Reg.XSP_PROTL 3, 0, 32⟩]

theorem moveWindow3_keeps (s : State) : Keeps [] restartFields s s.moveWindow3 :=
  keeps_wr (by decide) (keeps_wr (by decide) (keeps_refl _ _ _))

theorem wdRestart_keeps (s : State) (n : Nat) : Keeps [.apc] [] s (s.wdRestart n) :=
  keeps_ite (keeps_set_apc (by decide) (keeps_refl _ _ _)) (keeps_set_apc (by decide) (keeps_refl _ _ _))

theorem imageRuns_keeps (s : State) : Keeps [.apc] restartFields s (imageRuns s) :=
  keeps_set_apc (by decide) (keeps_mono (moveWindow3_keeps s) (by decide))

theorem noCauses_keeps (s : State) : Keeps [] restartFields s (noCauses s) :=
  keeps_wr (by decide) (keeps_wr (by decide) (keeps_refl _ _ _))

theorem noCauses_cause0 (s : State) : (noCauses s).rd Reg.INTC_CAUSE0 = 0#32 :=
  (rd_wr_ne _ _ _ _ (by decide)).trans (rd_wr _ _ _)

theorem noCauses_cause1 (s : State) : (noCauses s).rd Reg.INTC_CAUSE1 = 0#32 := rd_wr _ _ _

theorem coresRestarted_watch_keeps (s : State) : Keeps [.apc] [] (noCauses (imageRuns s)) (coresRestarted s) :=
  keeps_trans (wdRestart_keeps _ 0) (wdRestart_keeps _ 1)

theorem coresRestarted_keeps (s : State) : Keeps [.apc] restartFields s (coresRestarted s) :=
  keeps_via (coresRestarted_watch_keeps s) (by decide) (keeps_via (noCauses_keeps _) (by decide) (imageRuns_keeps s))

theorem coresRestarted_cause0 (s : State) : (coresRestarted s).rd Reg.INTC_CAUSE0 = 0#32 :=
  (keeps_rd (coresRestarted_watch_keeps s) _ (by decide) rfl).trans (noCauses_cause0 _)

theorem coresRestarted_cause1 (s : State) : (coresRestarted s).rd Reg.INTC_CAUSE1 = 0#32 :=
  (keeps_rd (coresRestarted_watch_keeps s) _ (by decide) rfl).trans (noCauses_cause1 _)

theorem coresRestarted_dirty (s : State) : (coresRestarted s).apc.dirty = [] := rfl

/-- A field acts with its own register's value (R19). -/
theorem eff_of_rd {s t : State} {f : Field} (h : t.rd f.addr = s.rd f.addr) : t.eff f = s.eff f := by
  unfold State.eff State.get
  rw [h]

/-- The watchdog of core 0 starts with the PERIOD in force (R672). -/
theorem coresRestarted_wd0 (s : State) : (coresRestarted s).apc.wd0 =
    { at_ := s.now, period := s.eff Fld.INTC_WDCFG_PERIOD * 800000, paused := none } := by
  have cleared : Keeps [.apc] restartFields s (noCauses (imageRuns s)) := keeps_via (noCauses_keeps _) (by decide) (imageRuns_keeps s)
  rw [← eff_of_rd (f := Fld.INTC_WDCFG_PERIOD) (keeps_rd cleared _ (by decide) (by decide))]
  rfl

/-! ### A switch as a whole -/

/-- The fields that a switch writes. -/
def switchFields : List Field :=
  modeFields ++ Fld.SYS_EV_UPD :: resultFields ++ memFields ++ Fld.HWD_BOOT_SVN :: restartFields

/-- The parts that a switch touches. -/
def switchParts : List Part := [.apc, .free, .hwd, .mem, .rbk, .spn, .sys, .vale, .wrp]

theorem switched_keeps (s : State) : Keeps switchParts switchFields s (switched s) :=
  keeps_via (coresRestarted_keeps _) (by decide) (keeps_via (imageTaken_keeps _) (by decide)
    (keeps_mono (switchMode_keeps s true) (by decide)))

theorem switched_wd0 (s : State) : (switched s).apc.wd0 =
    { at_ := s.now, period := s.eff Fld.INTC_WDCFG_PERIOD * 800000, paused := none } := by
  have begun : Keeps switchParts switchFields s (imageTaken (switchMode s true)) :=
    keeps_via (imageTaken_keeps _) (by decide) (keeps_mono (switchMode_keeps s true) (by decide))
  rw [switched, coresRestarted_wd0, keeps_now begun (by decide),
    eff_of_rd (f := Fld.INTC_WDCFG_PERIOD) (keeps_rd begun _ (by decide) (by decide))]

/-- What follows the answer in SYS_UPDCTL: the event, and the mode. -/
theorem switchAnswered_result_keeps (s : State) :
    Keeps modeParts (Fld.SYS_EV_UPD :: modeFields) (switchResult s 1) (switchAnswered s) :=
  keeps_via (switchMode_keeps _ false) (by decide) (keeps_raise (by decide) (keeps_refl _ _ _))

theorem switchAnswered_keeps (s : State) : Keeps modeParts (Fld.SYS_EV_UPD :: modeFields ++ resultFields) s (switchAnswered s) :=
  keeps_via (switchAnswered_result_keeps s) (by decide) (keeps_mono (switchResult_keeps s 1) (by decide))

theorem switchAnswered_result (s : State) : (switchAnswered s).get Fld.SYS_UPDCTL_RESULT = 1 :=
  (keeps_get (switchAnswered_result_keeps s) _ (by decide) (by decide)).trans (switchResult_result s 1)

theorem switchAnswered_switch (s : State) : (switchAnswered s).flag Fld.SYS_UPDCTL_SWITCH = false :=
  (keeps_flag (switchAnswered_result_keeps s) _ (by decide) (by decide)).trans (switchResult_switch s 1)

theorem switchAnswered_event (s : State) : (switchAnswered s).flag Fld.SYS_EV_UPD = true :=
  (keeps_flag (switchMode_keeps _ false) _ (by decide) (by decide)).trans (flag_raise _ _ (by decide) rfl (by decide))

theorem switchAnswered_rd (s : State) (a : Nat)
    (apart : (Fld.SYS_EV_UPD :: modeFields ++ resultFields).all (fun f => decide (f.addr ≠ a)) = true) :
    (switchAnswered s).rd a = s.rd a :=
  keeps_rd (switchAnswered_keeps s) a (by decide) apart

theorem switchAnswered_apc (s : State) : (switchAnswered s).apc = s.apc := keeps_apc (switchAnswered_keeps s) (by decide)

theorem switchDone_keeps (s : State) : Keeps switchParts switchFields s (switchDone s) :=
  keeps_via (switchAnswered_keeps _) (by decide) (switched_keeps s)

theorem switchMismatch_keeps (s : State) : Keeps modeParts (modeFields ++ resultFields) s (switchMismatch s) :=
  keeps_via (syncMode_keeps _) (by decide) (keeps_via (switchResult_keeps _ _) (by decide) (keeps_set_sys (by decide)
    (keeps_mono (switchMode_keeps s true) (by decide))))

theorem switchMismatch_result (s : State) : (switchMismatch s).get Fld.SYS_UPDCTL_RESULT = 3 :=
  (syncMode_get _ _ (by decide)).trans (switchResult_result _ 3)

theorem switchMismatch_switch (s : State) : (switchMismatch s).flag Fld.SYS_UPDCTL_SWITCH = false :=
  (syncMode_flag _ _ (by decide)).trans (switchResult_switch _ 3)

theorem switchMismatch_switching (s : State) : (switchMismatch s).sys.switching = false := syncMode_switching _

end Sys2Proof.Proofs
end

section
/-!
PROOFS. The wrap of the angle (R82, R86, R518), and the end of ACTIVE (R749, R752).
-/
namespace Sys2Proof.Proofs

open Sys2Proof.Machine Sys2Proof.Safety Sys2Proof.Laws

/-! ### The wrap -/

/-- A WEDGES change that waited applies (R86). -/
def wedgesTaken (s : State) : State :=
  match s.ang.pendWedges with
  | some w => ({ s with ang := { s.ang with pendWedges := none } }).put Fld.ANG_CFG_WEDGES w
  | none => s

/-- The duty counts of the channels start again (R518). -/
def dutiesRestarted (s : State) : State :=
  { s with ch0 := { s.ch0 with duty := 0 }, ch1 := { s.ch1 with duty := 0 }, ch2 := { s.ch2 with duty := 0 },
           ch3 := { s.ch3 with duty := 0 } }

theorem wrapStep_eq (s : State) : s.wrapStep = (dutiesRestarted (wedgesTaken s)).count 1 1 := rfl

theorem wedgesTaken_ang (s : State) : (wedgesTaken s).ang = { s.ang with pendWedges := none } := by
  unfold wedgesTaken
  split
  · rfl
  · rw [← ‹s.ang.pendWedges = none›]

theorem wedgesTaken_keeps (s : State) : Keeps [.ang] [Fld.ANG_CFG_WEDGES] s (wedgesTaken s) := by
  unfold wedgesTaken
  split
  · exact keeps_put (by decide) (keeps_set_ang (by decide) (keeps_refl _ _ _))
  · exact keeps_refl _ _ _

theorem wedgesTaken_wedges (s : State) {w : Nat} (waits : s.ang.pendWedges = some w) :
    (wedgesTaken s).get Fld.ANG_CFG_WEDGES = w % 2 ^ Fld.ANG_CFG_WEDGES.len := by
  simp only [wedgesTaken, waits]
  exact get_put _ _ _ (by decide)

theorem count_keeps (s : State) (i n : Nat) : Keeps [.rbk] [] s (s.count i n) := keeps_count (by decide) (keeps_refl _ _ _)

theorem wrapStep_keeps (s : State) : Keeps [.ang, .ch, .rbk] [Fld.ANG_CFG_WEDGES] s s.wrapStep :=
  keeps_via (count_keeps _ 1 1) (by decide) (keeps_set_ch0_ch1_ch2_ch3 (by decide) (keeps_mono (wedgesTaken_keeps s) (by decide)))

/-- Of the angle a wrap changes the waiting WEDGES alone. -/
theorem wrapStep_ang (s : State) : s.wrapStep.ang = { s.ang with pendWedges := none } := by
  rw [wrapStep_eq, (count_keeps _ 1 1).part .ang (by decide) (by decide)]
  exact wedgesTaken_ang s

theorem wrapStep_duty (s : State) : (s.wrapStep.ch 0).duty = 0 ∧ (s.wrapStep.ch 3).duty = 0 := by
  obtain ⟨first, -, -, last⟩ := (count_keeps (dutiesRestarted (wedgesTaken s)) 1 1).part .ch (by decide) (by decide)
  exact ⟨congrArg ChanSt.duty first, congrArg ChanSt.duty last⟩

theorem wrapStep_wedges (s : State) {w : Nat} (waits : s.ang.pendWedges = some w) :
    s.wrapStep.get Fld.ANG_CFG_WEDGES = w % 2 ^ Fld.ANG_CFG_WEDGES.len :=
  (keeps_get (count_keeps _ 1 1) _ (by decide) rfl).trans (wedgesTaken_wedges s waits)

/-- The angle set forward to an ATS, the ATS of the last tick noted (R102). -/
def angAt (a : AngSt) (ats : Nat) : AngSt := { a with ats := ats, frac := 0, prev := some (a.prev.getD a.ats) }

theorem angAt_pendWedges (a : AngSt) (ats : Nat) : (angAt a ats).pendWedges = a.pendWedges := rfl

/-- The angle at 0 of the next revolution (R82). -/
def revolved (s : State) : State := { s with ang := angAt s.ang ((s.ang.ats / 2 ^ 32 + 1) * 2 ^ 32 % 2 ^ 48) }

theorem revolved_pendWedges (s : State) : (revolved s).ang.pendWedges = s.ang.pendWedges := angAt_pendWedges s.ang _

theorem exec_angleWrap (s : State) (valid : s.flag Fld.ANG_STAT_VALID = true) : exec .angleWrap s = .next (revolved s).wrapStep :=
  if_neg (by simp [valid])

theorem exec_angleWrap_invalid (s : State) (invalid : s.flag Fld.ANG_STAT_VALID = false) : exec .angleWrap s = .next s :=
  if_pos (by simp [invalid])

theorem revolved_wrap_keeps (s : State) : Keeps [.ang, .ch, .rbk] [Fld.ANG_CFG_WEDGES] s (revolved s).wrapStep :=
  keeps_trans (keeps_set_ang (by decide) (keeps_refl _ _ _)) (wrapStep_keeps _)

/-- The revolution count rises and wraps at 2^16 (R82). -/
theorem revolved_wrap_ats (s : State) : (revolved s).wrapStep.ang.ats = (s.ang.ats / 2 ^ 32 + 1) % 2 ^ 16 * 2 ^ 32 := by
  rw [wrapStep_ang]
  exact Nat.mul_mod_mul_right (2 ^ 32) (s.ang.ats / 2 ^ 32 + 1) (2 ^ 16)

/-! ### The end of ACTIVE -/

/-- The ticks of 2 revolutions at the target speed (R749). -/
def twoRevolutions (s : State) : Nat := 120 * 800000000 / max 1 (s.eff Fld.SPN_TARGET_RPM)

/-- ACTIVE is over, before the mode follows. -/
def activeOver (s : State) : State := { s with sys := { s.sys with active := false } }

theorem activeOver_keeps (s : State) : Keeps [.sys] [] s (activeOver s) := keeps_set_sys (by decide) (keeps_refl _ _ _)

theorem exec_activeIdleTimeout_early (s : State) {a : Nat} (idle : s.sys.idleAt = some a) (early : s.now < a + twoRevolutions s) :
    exec .activeIdleTimeout s = .next s := by
  have notDue : ¬ a + 120 * 800000000 / max 1 (s.eff Fld.SPN_TARGET_RPM) ≤ s.now := Nat.not_le.2 early
  simp [-Nat.reduceMul, exec, execActiveIdleTimeout, idle, notDue]

section
variable {s : State} {a : Nat} (active : s.sys.active = true) (idle : s.sys.idleAt = some a) (due : a + twoRevolutions s ≤ s.now)
  (noA : s.msqA.running = none) (noB : s.msqB.running = none)

include active idle due noA noB in
theorem exec_activeIdleTimeout : exec .activeIdleTimeout s = .next (activeOver s).syncMode := by
  have late : a + 120 * 800000000 / max 1 (s.eff Fld.SPN_TARGET_RPM) ≤ s.now := due
  simp [-Nat.reduceMul, exec, execActiveIdleTimeout, active, idle, late, noA, noB, activeOver]

include idle noA noB

/-- With no slot in RUN the watch notes nothing new. -/
theorem modeBase_activeOver : modeBase (activeOver s) = (activeOver s).spnCheck := by
  have frame := spnCheck_keeps (activeOver s)
  have unchanged (x : Act) : (activeOver s).spnCheck.msq x = s.msq x := keeps_msq frame (by decide) x
  refine runWatch_of_idle _ (a := a) ?_ ((congrArg Msq.running (unchanged .a)).trans noA) ((congrArg Msq.running (unchanged .b)).trans noB)
  rw [spnCheck_sys]
  exact idle

theorem activeOver_syncMode_active : (activeOver s).syncMode.sys.active = false := by
  rw [keeps_sys (syncMode_change_keeps _) (by decide), modeBase_activeOver idle noA noB, spnCheck_sys]
  rfl

end

/-- The mode of a drive at speed with its heads loaded and nothing of a higher rank: FLYING, once ACTIVE is over (R748, R749). -/
structure AtSpeed (s : State) : Prop where
  run : s.flag Fld.SPN_CTL_RUN = true
  inreg : s.sys.inregSince = true
  loaded : s.loaded .a = true
  cooldown : s.sys.cooldown = false
  retract : s.sys.retract = false
  switching : s.sys.switching = false
  selfwrite : s.flag Fld.SYS_MODE_SWLAT = false
  degraded : s.flag Fld.SYS_MODE_DEGLAT = false
  split : s.flag Fld.SYS_MODE_SPLITLAT = false

theorem AtSpeed.modeNow {s : State} (h : AtSpeed s) (ended : s.sys.active = false) : s.modeNow = 4 := by
  simp [State.modeNow, State.baseMode, h.run, h.inreg, h.loaded, h.cooldown, h.retract, h.switching, h.selfwrite, h.degraded, h.split,
    ended]

/-- What leaves SYS, RUN and the latches as they were keeps a drive at speed. -/
theorem AtSpeed.of_keeps {P : List Part} {R : List Field} {s t : State} (h : AtSpeed s) (k : Keeps P R s t) (noRegs : Part.regs ∉ P)
    (noSys : Part.sys ∉ P) (apart : ∀ g ∈ [Fld.SPN_CTL_RUN, Fld.SYS_MODE_SWLAT, Fld.SYS_MODE_DEGLAT, Fld.SYS_MODE_SPLITLAT],
      R.all (fun f => Apart f g) = true) : AtSpeed t := by
  have sys := keeps_sys k noSys
  have same (g : Field) (hg : g ∈ [Fld.SPN_CTL_RUN, Fld.SYS_MODE_SWLAT, Fld.SYS_MODE_DEGLAT, Fld.SYS_MODE_SPLITLAT]) :
      t.flag g = s.flag g := keeps_flag k g noRegs (apart g hg)
  exact {
    run := (same _ (by simp)).trans h.run
    inreg := (congrArg SysSt.inregSince sys).trans h.inreg
    loaded := (congrArg SysSt.loadedA sys).trans h.loaded
    cooldown := (congrArg SysSt.cooldown sys).trans h.cooldown
    retract := (congrArg SysSt.retract sys).trans h.retract
    switching := (congrArg SysSt.switching sys).trans h.switching
    selfwrite := (same _ (by simp)).trans h.selfwrite
    degraded := (same _ (by simp)).trans h.degraded
    split := (same _ (by simp)).trans h.split }

theorem AtSpeed.activeOver {s : State} (h : AtSpeed s) : AtSpeed (activeOver s) := { h with }

/-- The end of ACTIVE at speed is a change to FLYING (R749, R753). -/
theorem activeOver_flying {s : State} {a : Nat} (idle : s.sys.idleAt = some a) (noA : s.msqA.running = none)
    (noB : s.msqB.running = none) (held : s.spnHold = false) (h : AtSpeed s) (mode : s.get Fld.SYS_MODE_MODE = 5) :
    (activeOver s).syncMode.get Fld.SYS_MODE_MODE = 4 ∧ (activeOver s).syncMode.get Fld.SYS_MODE_PREV = 5 ∧
    (activeOver s).syncMode.flag Fld.SYS_EV_MODE = true := by
  have base : modeBase (activeOver s) = (activeOver s).refCheck :=
    (modeBase_activeOver idle noA noB).trans (spnCheck_of_loaded _ held h.activeOver.loaded)
  have frame : Keeps [.rbk, .vale] refFields (activeOver s) (activeOver s).refCheck := refCheck_own_keeps _
  have old : (activeOver s).refCheck.get Fld.SYS_MODE_MODE = 5 := (keeps_get frame _ (by decide) (by decide)).trans mode
  have new : (activeOver s).refCheck.modeNow = 4 :=
    (h.activeOver.of_keeps frame (by decide) (by decide) (by decide)).modeNow
      (congrArg SysSt.active (keeps_sys frame (by decide)))
  have change := syncMode_of_change (activeOver s)
  rw [base, old, new] at change
  exact change (by decide)

end Sys2Proof.Proofs
end

section
/-!
PROOFS. The statement about modes, the firmware switch, the wrap and the end of ACTIVE.
-/
namespace Sys2Proof.Proofs

open Sys2Proof.Machine Sys2Proof.Safety Sys2Proof.Laws

/-! ### Each request -/

theorem exec_modeReqSplit (s : State) (x : Act) : exec (.modeReqSplit x) s = .next (askSplit s x).modeReq := rfl

theorem exec_modeReqSelfwrite (s : State) : exec .modeReqSelfwrite s = .next (askSelfwrite s).modeReq := rfl

theorem exec_modeReqLeave (s : State) : exec .modeReqLeave s = .next (askLeave s).modeReq := rfl

theorem split_granted (s : State) (x : Act) (grant : (askSplit s x).syncMode.modeGrant 6 = true) :
    (askSplit s x).modeReq.flag Fld.SYS_MODE_SPLITLAT = true ∧ (askSplit s x).modeReq.get Fld.SYS_MODE_SPLITACT = x.idx := by
  rw [modeReq_granted (askSplit_req s x) grant, judged_flag _ _ _ (by decide) (by decide), judged_get _ _ _ (by decide) (by decide),
    modeTake_split_act, syncMode_get _ _ (by decide)]
  exact ⟨modeTake_split_flag _, askSplit_act s x⟩

theorem split_refused (s : State) (x : Act) (bad : s.sys.faultA = true ∨ s.sys.faultB = true ∨ s.isSN = true) :
    (askSplit s x).syncMode.modeGrant 6 = false := by
  refine modeGrant_split_faulted _ ?_
  rw [syncMode_faultA, syncMode_faultB, syncMode_isSN]
  exact bad

theorem selfwrite_granted (s : State) (off : s.flag Fld.SPN_CTL_RUN = false) (stopped : s.spnState = spnStopped)
    (unlocked : s.flag Fld.SYS_LOCK_LOCK = false) (calm : s.sys.switching = false) :
    (askSelfwrite s).syncMode.modeGrant 0xC = true := by
  have ask := askSelfwrite_keeps s
  obtain ⟨stillOff, stillStopped⟩ := syncMode_of_stopped (askSelfwrite s)
    ((keeps_flag ask _ (by decide) (by decide)).trans off) ((keeps_get ask _ (by decide) (by decide)).trans stopped)
  exact modeGrant_selfwrite_of_stopped _ stillOff stillStopped
    ((syncMode_flag _ _ (by decide)).trans ((keeps_flag ask _ (by decide) (by decide)).trans unlocked))
    ((syncMode_switching _).trans calm)

theorem selfwrite_refused (s : State) (bar : s.flag Fld.SYS_LOCK_LOCK = true ∨ s.sys.switching = true) :
    (askSelfwrite s).syncMode.modeGrant 0xC = false := by
  refine modeGrant_selfwrite_barred _ ?_
  rw [syncMode_flag _ _ (by decide), syncMode_switching, keeps_flag (askSelfwrite_keeps s) _ (by decide) (by decide)]
  exact bar

/-- A latch reads at a request to leave as it did before. -/
theorem askLeave_latch (s : State) (f : Field) (apart : Apart Fld.SYS_MODEREQ_REQ f = true)
    (mode : modeFields.all (fun g => Apart g f) = true) : (askLeave s).syncMode.flag f = s.flag f :=
  (syncMode_flag _ f mode).trans (flag_put_other _ _ _ _ (by decide) apart)

theorem askLeave_grant (s : State) : (askLeave s).syncMode.modeGrant 4 =
    (s.flag Fld.SYS_MODE_SPLITLAT || s.flag Fld.SYS_MODE_SWLAT || s.flag Fld.SYS_MODE_DEGLAT) := by
  rw [modeGrant_leave, askLeave_latch s _ (by decide) (by decide), askLeave_latch s _ (by decide) (by decide),
    askLeave_latch s _ (by decide) (by decide)]

theorem leave_granted (s : State) (grant : (askLeave s).syncMode.modeGrant 4 = true) :
    (askLeave s).modeReq.flag Fld.SYS_MODE_SPLITLAT = false ∧ (askLeave s).modeReq.flag Fld.SYS_MODE_SWLAT = false ∧
    (askLeave s).modeReq.flag Fld.SYS_MODE_DEGLAT = (s.flag Fld.SYS_MODE_DEGLAT && (s.sys.faultA || s.sys.faultB)) := by
  have left := modeTake_leave (askLeave s).syncMode
  rw [askLeave_latch s _ (by decide) (by decide), syncMode_faultA, syncMode_faultB] at left
  rw [modeReq_granted (askLeave_req s) grant, judged_flag _ _ _ (by decide) (by decide), judged_flag _ _ _ (by decide) (by decide),
    judged_flag _ _ _ (by decide) (by decide)]
  exact left

/-! ### The verdict -/

theorem modeReq_granted_verdict {s : State} {req : Nat} (asked : s.get Fld.SYS_MODEREQ_REQ = req)
    (grant : s.syncMode.modeGrant req = true) : s.modeReq.flag Fld.SYS_MODEREQ_DONE = true ∧
      s.modeReq.flag Fld.SYS_MODEREQ_REFUSED = false ∧ s.modeReq.flag Fld.SYS_MODEREQ_GO = false := by
  rw [modeReq_granted asked grant]
  exact judged_verdict _ true

theorem modeReq_refused_verdict {s : State} {req : Nat} (asked : s.get Fld.SYS_MODEREQ_REQ = req)
    (refuse : s.syncMode.modeGrant req = false) : s.modeReq.flag Fld.SYS_MODEREQ_DONE = false ∧
      s.modeReq.flag Fld.SYS_MODEREQ_REFUSED = true ∧ s.modeReq.flag Fld.SYS_MODEREQ_GO = false := by
  rw [modeReq_refused asked refuse]
  exact judged_verdict _ false

/-- A refused request leaves the latches as they were. -/
theorem modeReq_refused_latch {s : State} {req : Nat} (asked : s.get Fld.SYS_MODEREQ_REQ = req)
    (refuse : s.syncMode.modeGrant req = false) (f : Field) (verdict : judgedFields.all (fun g => Apart g f) = true)
    (mode : modeFields.all (fun g => Apart g f) = true) : s.modeReq.flag f = s.flag f := by
  rw [modeReq_refused asked refuse, judged_flag _ _ _ verdict mode, syncMode_flag _ _ mode]

/-- Settles O58: requests of a mode, the firmware switch, the wrap of the angle (whose ANGLE_WRAP moves it to 0, the model's choice of
log 16) and the end of ACTIVE. -/
theorem modesAndSwitch : Obligations.ModesAndSwitch := by
  unfold Obligations.ModesAndSwitch
  refine ⟨?split, ?splitRefused, ?selfwrite, ?selfwriteRefused, ?leave, ?leaveRefused, ?unverified, ?mismatch, ?done, ?wrap, ?wedges,
    ?invalid, ?ended, ?flying, ?early⟩
  case split =>
    intro s x grant
    obtain ⟨latch, act⟩ := split_granted s x grant
    obtain ⟨done, refused, go⟩ := modeReq_granted_verdict (askSplit_req s x) grant
    exact ⟨_, exec_modeReqSplit s x, latch, act, done, refused, go,
      keeps_via (modeReq_keeps _) (by decide) (keeps_mono (askSplit_keeps s x) (by decide))⟩
  case splitRefused =>
    intro s x bad
    have refuse := split_refused s x bad
    obtain ⟨done, refused, go⟩ := modeReq_refused_verdict (askSplit_req s x) refuse
    exact ⟨_, exec_modeReqSplit s x,
      (modeReq_refused_latch (askSplit_req s x) refuse _ (by decide) (by decide)).trans
        (keeps_flag (askSplit_keeps s x) _ (by decide) (by decide)),
      done, refused, go, keeps_via (modeReq_keeps _) (by decide) (keeps_mono (askSplit_keeps s x) (by decide))⟩
  case selfwrite =>
    intro s off stopped unlocked calm
    have grant := selfwrite_granted s off stopped unlocked calm
    obtain ⟨done, refused, go⟩ := modeReq_granted_verdict (askSelfwrite_req s) grant
    refine ⟨_, exec_modeReqSelfwrite s, ?_, done, refused, go,
      keeps_via (modeReq_keeps _) (by decide) (keeps_mono (askSelfwrite_keeps s) (by decide))⟩
    rw [modeReq_granted (askSelfwrite_req s) grant, judged_flag _ _ _ (by decide) (by decide)]
    exact flag_putb _ _ _ (by decide) rfl
  case selfwriteRefused =>
    intro s bar
    have refuse := selfwrite_refused s bar
    obtain ⟨done, refused, go⟩ := modeReq_refused_verdict (askSelfwrite_req s) refuse
    exact ⟨_, exec_modeReqSelfwrite s,
      (modeReq_refused_latch (askSelfwrite_req s) refuse _ (by decide) (by decide)).trans
        (keeps_flag (askSelfwrite_keeps s) _ (by decide) (by decide)),
      done, refused, go, keeps_via (modeReq_keeps _) (by decide) (keeps_mono (askSelfwrite_keeps s) (by decide))⟩
  case leave =>
    intro s latched
    have grant : (askLeave s).syncMode.modeGrant 4 = true := by
      rw [askLeave_grant]
      simpa [or_assoc] using latched
    obtain ⟨split_, selfwrite, degraded⟩ := leave_granted s grant
    obtain ⟨done, refused, go⟩ := modeReq_granted_verdict (askLeave_req s) grant
    exact ⟨_, exec_modeReqLeave s, split_, selfwrite, degraded, done, refused, go,
      keeps_via (modeReq_keeps _) (by decide) (keeps_mono (askLeave_keeps s) (by decide))⟩
  case leaveRefused =>
    intro s noSplit noSelfwrite noDegraded
    have refuse : (askLeave s).syncMode.modeGrant 4 = false := by
      rw [askLeave_grant, noSplit, noSelfwrite, noDegraded]
      rfl
    obtain ⟨done, refused, go⟩ := modeReq_refused_verdict (askLeave_req s) refuse
    exact ⟨_, exec_modeReqLeave s, done, refused, go,
      keeps_via (modeReq_keeps _) (by decide) (keeps_mono (askLeave_keeps s) (by decide))⟩
  case unverified =>
    intro s hash unverified
    exact ⟨switchResult s 2, (exec_firmwareSwitch s hash).trans (congrArg _ (fwSwitch_unverified s hash unverified)),
      switchResult_result s 2, switchResult_switch s 2, switchResult_keeps s 2⟩
  case mismatch =>
    intro s verified calm notSelfwrite notRetract notCooldown
    exact ⟨switchMismatch s,
      (exec_firmwareSwitch s false).trans (congrArg _ (fwSwitch_mismatch verified calm notSelfwrite notRetract notCooldown)),
      switchMismatch_result s, switchMismatch_switch s, switchMismatch_switching s,
      keeps_rd (switchMismatch_keeps s) _ (by decide) (by decide), keeps_mono (switchMismatch_keeps s) (by decide)⟩
  case done =>
    intro s verified calm notSelfwrite notRetract notCooldown
    exact ⟨switchDone s,
      (exec_firmwareSwitch s true).trans (congrArg _ (fwSwitch_match verified calm notSelfwrite notRetract notCooldown)),
      switchAnswered_result _, switchAnswered_switch _, switchMode_switching _ false, switchAnswered_event _,
      (switchAnswered_rd _ _ (by decide)).trans (coresRestarted_cause0 _),
      (switchAnswered_rd _ _ (by decide)).trans (coresRestarted_cause1 _),
      (congrArg ApcSt.dirty (switchAnswered_apc _)).trans (coresRestarted_dirty _),
      (congrArg ApcSt.wd0 (switchAnswered_apc _)).trans (switched_wd0 s), keeps_mono (switchDone_keeps s) (by decide)⟩
  case wrap =>
    intro s valid
    obtain ⟨first, last⟩ := wrapStep_duty (revolved s)
    exact ⟨_, exec_angleWrap s valid, revolved_wrap_ats s, congrArg AngSt.pendWedges (wrapStep_ang _), first, last,
      revolved_wrap_keeps s⟩
  case wedges =>
    intro s w valid waits
    exact ⟨_, exec_angleWrap s valid, wrapStep_wedges (revolved s) ((revolved_pendWedges s).trans waits), revolved_wrap_keeps s⟩
  case invalid => exact exec_angleWrap_invalid
  case ended =>
    intro s a active idle due noA noB
    exact ⟨_, exec_activeIdleTimeout active idle due noA noB, activeOver_syncMode_active idle noA noB,
      keeps_via (syncMode_keeps _) (by decide) (keeps_mono (activeOver_keeps s) (by decide))⟩
  case flying =>
    intro s a active idle due noA noB run held _ inreg loaded cooldown retract switching selfwrite degraded split_ mode
    obtain ⟨flying, prev, event⟩ := activeOver_flying idle noA noB held
      ⟨run, inreg, loaded, cooldown, retract, switching, selfwrite, degraded, split_⟩ mode
    exact ⟨_, exec_activeIdleTimeout active idle due noA noB, flying, prev, event,
      keeps_via (syncMode_keeps _) (by decide) (keeps_mono (activeOver_keeps s) (by decide))⟩
  case early => exact fun s a idle early => exec_activeIdleTimeout_early s idle early

end Sys2Proof.Proofs
end

section
/-!
PROOFS. The issue of an instruction (R130, R133, R137, R188): what it answers when its body runs, when its guard is false, when its form is
illegal and when its body refuses it; what the state holds right after the issue; and when nothing follows an issue.
-/
namespace Sys2Proof.Proofs

open Sys2Proof.Machine Sys2Proof.Safety Sys2Proof.Laws

/-! ### The outcomes of an issue -/

section
variable {s t : State} {x : Act} {op k c : Nat} {g n : Bool} {p : BitVec 2} {legal : Bool}
  {body : Nat → Arch → State → Except Nat State}

theorem issue_ok (h : Issues s x op k g n p) (form : legal = true)
    (ran : body k (past ((s.msq x).slot k).spec) (issued s x op k) = .ok t) : s.issue x op g n p legal body = t := by
  obtain ⟨act, run, can, pc, disp, guards, guard⟩ := h
  simp only [State.issue, act, run, can, pc, disp, guards, guard, form, Bool.not_true, Bool.or_false, Bool.false_eq_true, if_false,
    Bool.and_true]
  change (match body k (past _) (issued s x op k) with | .ok u => u | .error e => _) = t
  rw [ran]

theorem issue_error (h : Issues s x op k g n p) (form : legal = true)
    (refused : body k (past ((s.msq x).slot k).spec) (issued s x op k) = .error c) :
    s.issue x op g n p legal body = s.progError x ((s.msq x).slot k).spec.pc c := by
  obtain ⟨act, run, can, pc, disp, guards, guard⟩ := h
  simp only [State.issue, act, run, can, pc, disp, guards, guard, form, Bool.not_true, Bool.or_false, Bool.false_eq_true, if_false,
    Bool.and_true]
  change (match body k (past _) (issued s x op k) with | .ok u => u | .error e => s.progError x _ e) = _
  rw [refused]

theorem issue_illegal (h : Issues s x op k g n p) (form : legal = false) :
    s.issue x op g n p legal body = s.progError x ((s.msq x).slot k).spec.pc errIllegal := by
  obtain ⟨act, run, can, pc, disp, guards, guard⟩ := h
  simp [State.issue, act, run, can, pc, disp, guards, guard, form]

theorem issue_guardFalse (act : s.actOk x = true) (run : (s.msq x).running = some k) (can : (s.msq x).canIssue op = true)
    (pc : pcInSram ((s.msq x).slot k).spec.pc = true) (disp : (s.msq x).dispatchValid op = true) (guards : guardLegal g n p = true)
    (guard : guardFalse ((s.msq x).slot k).spec g n p = true) : s.issue x op g n p legal body = issued s x op k := by
  simp [State.issue, act, run, can, pc, disp, guards, guard, issued, past]
end

section
variable {s t : State} {x : Act} {op k c : Nat} {f : FmtR} {legal : Bool} {body : Nat → Arch → State → Except Nat State}

theorem issueR_ok (h : Issues s x op k f.g f.n f.p) (z : f.z = false) (form : legal = true)
    (ran : body k (past ((s.msq x).slot k).spec) (issued s x op k) = .ok t) : s.issueR x op f legal body = t :=
  issue_ok h (by rw [form, z]; rfl) ran

theorem issueR_error (h : Issues s x op k f.g f.n f.p) (z : f.z = false) (form : legal = true)
    (refused : body k (past ((s.msq x).slot k).spec) (issued s x op k) = .error c) :
    s.issueR x op f legal body = s.progError x ((s.msq x).slot k).spec.pc c :=
  issue_error h (by rw [form, z]; rfl) refused

theorem issueR_illegal (h : Issues s x op k f.g f.n f.p) (form : legal = false) :
    s.issueR x op f legal body = s.progError x ((s.msq x).slot k).spec.pc errIllegal :=
  issue_illegal h (by rw [form]; rfl)
end

section
variable {s t : State} {x : Act} {op k c : Nat} {f : FmtQ} {legal : Bool} {body : Nat → Arch → State → Except Nat State}

/-- The wedge number of a qualifier is in range before the issue and after it alike. -/
theorem wedgeOk_issued (s : State) (x : Act) (op k : Nat) (f : FmtQ) : f.wedgeOk (issued s x op k) = f.wedgeOk s := by
  cases x <;> rfl

theorem issueQ_ok (h : Issues s x op k f.g f.n f.p) (aq : f.aqLegal = true) (wedge : f.wedgeOk s = true) (form : legal = true)
    (ran : body k (past ((s.msq x).slot k).spec) (issued s x op k) = .ok t) : s.issueQ x op f legal body = t :=
  issue_ok h (by rw [form, aq]; rfl) (by rw [wedgeOk_issued, if_pos wedge, ran])

theorem issueQ_error (h : Issues s x op k f.g f.n f.p) (aq : f.aqLegal = true) (wedge : f.wedgeOk s = true) (form : legal = true)
    (refused : body k (past ((s.msq x).slot k).spec) (issued s x op k) = .error c) :
    s.issueQ x op f legal body = s.progError x ((s.msq x).slot k).spec.pc c :=
  issue_error h (by rw [form, aq]; rfl) (by rw [wedgeOk_issued, if_pos wedge, refused])
end

/-! ### The state right after the issue -/

section
variable (s : State) (x : Act) (op k : Nat)

@[simp] theorem slot_setSlot (m : Msq) (k : Nat) (sl : Slot) : (m.setSlot k sl).slot k = sl :=
  mget_mset _ _ _ _

theorem slot_setSlot_ne (m : Msq) {j k : Nat} (sl : Slot) (h : j ≠ k) : (m.setSlot k sl).slot j = m.slot j :=
  mget_mset_ne _ _ _ _ _ h

@[simp] theorem setMsq_setMsq (m m' : Msq) : (s.setMsq x m).setMsq x m' = s.setMsq x m' := by
  cases x <;> rfl

@[simp] theorem setMsq_msq : s.setMsq x (s.msq x) = s := by
  cases x <;> rfl

theorem msq_issued : (issued s x op k).msq x = { (s.msq x).setSpec k (past ((s.msq x).slot k).spec) with
    dist := if countsDist op && !(s.msq x).micro.fresh then (s.msq x).dist + 1 else (s.msq x).dist
    micro := { Micro.idle with events := (s.msq x).micro.events } } := msq_setMsq _ _ _

@[simp] theorem work_issued : ((issued s x op k).msq x).work = (s.msq x).work := by rw [msq_issued]; rfl

@[simp] theorem staged_issued : ((issued s x op k).msq x).staged = (s.msq x).staged := by rw [msq_issued]; rfl

@[simp] theorem wait_issued : ((issued s x op k).msq x).wait = (s.msq x).wait := by rw [msq_issued]; rfl

@[simp] theorem sqWait_issued : ((issued s x op k).msq x).sqWait = (s.msq x).sqWait := by rw [msq_issued]; rfl

@[simp] theorem pos0_issued : ((issued s x op k).msq x).pos0 = (s.msq x).pos0 := by rw [msq_issued]; rfl

@[simp] theorem pos1_issued : ((issued s x op k).msq x).pos1 = (s.msq x).pos1 := by rw [msq_issued]; rfl

@[simp] theorem ucs_issued : ((issued s x op k).msq x).ucs = (s.msq x).ucs := by rw [msq_issued]; rfl

@[simp] theorem spec_issued : (((issued s x op k).msq x).slot k).spec = past ((s.msq x).slot k).spec := by
  rw [msq_issued]
  exact congrArg Slot.spec (slot_setSlot (s.msq x) k _)
end

/-! ### What depends on a sequencer only through its heads, or not at all -/

section
variable (s : State) (x : Act) (op k : Nat)

@[simp] theorem ang_issued : (issued s x op k).ang = s.ang := setMsq_ang _ _ _

@[simp] theorem now_issued : (issued s x op k).now = s.now := setMsq_now _ _ _

@[simp] theorem get_issued (f : Field) : (issued s x op k).get f = s.get f := by cases x <;> rfl

@[simp] theorem cmps_issued (y : Act) : (issued s x op k).cmps y = s.cmps y := by cases x <;> rfl

@[simp] theorem boundariesTo_issued (ang : Nat) : (issued s x op k).boundariesTo x ang = s.boundariesTo x ang := by cases x <;> rfl

@[simp] theorem ptAll_issued (m : Nat) : (issued s x op k).ptAll x m = s.ptAll x m := by cases x <;> rfl

@[simp] theorem canLoad_issued : (issued s x op k).canLoad x = s.canLoad x := by cases x <;> rfl

@[simp] theorem loaded_issued : (issued s x op k).loaded x = s.loaded x := by cases x <;> rfl

@[simp] theorem windowWrite_issued (off : Nat) (v : Word) : (issued s x op k).windowWrite x off v = s.windowWrite x off v := by
  cases x <;> rfl

@[simp] theorem waiteHolds_issued (j e : Nat) : (issued s x op k).waiteHolds x j e = s.waiteHolds x j e := by cases x <;> rfl

@[simp] theorem angle_issued (f : FmtQ) (a : Arch) : f.angle (issued s x op k) x (past a) = f.angle s x a := by cases x <;> rfl

theorem slot_setSpec (m : Msq) (k : Nat) (a : Arch) : (m.setSpec k a).slot k = { m.slot k with spec := a } := slot_setSlot _ _ _

@[simp] theorem st_setSpec (m : Msq) (k j : Nat) (a : Arch) : ((m.setSpec k a).slot j).st = (m.slot j).st := by
  by_cases here : j = k
  · rw [here, slot_setSpec]
  · rw [Msq.setSpec, slot_setSlot_ne _ _ here]

@[simp] theorem prio_setSpec (m : Msq) (k j : Nat) (a : Arch) : ((m.setSpec k a).slot j).prio = (m.slot j).prio := by
  by_cases here : j = k
  · rw [here, slot_setSpec]
  · rw [Msq.setSpec, slot_setSlot_ne _ _ here]

@[simp] theorem running_setSpec (m : Msq) (k : Nat) (a : Arch) : (m.setSpec k a).running = m.running := by
  simp only [Msq.running, st_setSpec]

@[simp] theorem msq_setSpec (a : Arch) : (s.setSpec x k a).msq x = (s.msq x).setSpec k a := msq_setMsq _ _ _

@[simp] theorem running_issued : ((issued s x op k).msq x).running = (s.msq x).running := by
  rw [msq_issued]
  exact running_setSpec _ _ _

@[simp] theorem higherReady_issued : ((issued s x op k).msq x).higherReady k = (s.msq x).higherReady k := by
  rw [msq_issued]
  change ((s.msq x).setSpec k _).higherReady k = _
  simp only [Msq.higherReady, st_setSpec, prio_setSpec]

@[simp] theorem reg_past (a : Arch) (r : Nat) : (past a).reg r = a.reg r := rfl
end

/-- An instruction's address once its PC is past it (R184): the PC lies in SRAM. -/
theorem pc_of_past {a : Arch} (inside : pcInSram a.pc = true) : ((past a).pc + 2 ^ 32 - 8) % 2 ^ 32 = a.pc := by
  simp only [pcInSram, decide_eq_true_eq] at inside
  simp only [past]
  omega

/-! ### When nothing follows an issue -/

section
variable {s : State} {x : Act}

theorem wait_of_canIssue {m : Msq} {op : Nat} (can : m.canIssue op = true) : m.wait = none := by
  simp only [Msq.canIssue, Bool.and_eq_true, Option.isNone_iff_eq_none] at can
  exact can.1.1.1.2

theorem sqWait_of_canIssue {m : Msq} {op : Nat} (can : m.canIssue op = true) : m.sqWait = false := by
  simp only [Msq.canIssue, Bool.and_eq_true, Bool.not_eq_true'] at can
  exact can.1.1.2

theorem beginItems_of_begun (before l : List Work) (begun : ∀ w ∈ l, w.begun = true) : s.beginItems x before l = s := by
  induction l generalizing before with
  | nil => rfl
  | cons w l ih =>
    simp only [State.beginItems, begun w List.mem_cons_self, Bool.true_or, if_true]
    exact ih _ fun v hv => begun v (List.mem_cons_of_mem w hv)

theorem resolveWait_of_none (free : (s.msq x).wait = none) : s.resolveWait x = s := by
  simp only [State.resolveWait, free]
  cases (s.msq x).running <;> rfl

/-- With every item begun, only a wait may end. -/
theorem advance_of_begun (begun : ∀ w ∈ (s.msq x).work, w.begun = true) (go : (s.msq x).sqWait = false) :
    s.advance x = s.resolveWait x := by
  simp only [State.advance, go, Bool.false_eq_true, if_false, State.beginReady, beginItems_of_begun _ _ begun]

theorem next_advance {t u : State} (same : t = u) : (.next (t.advance x) : Out) = .next (u.advance x) := same ▸ rfl

/-- Nothing may go on: every item has begun, and nothing holds issue. -/
structure Quiet (s : State) (x : Act) : Prop where
  begun : ∀ w ∈ (s.msq x).work, w.begun = true
  free : (s.msq x).wait = none

theorem Quiet.advance (h : Quiet s x) : s.advance x = s := by
  cases go : (s.msq x).sqWait with
  | true => exact if_pos go
  | false => rw [advance_of_begun h.begun go, resolveWait_of_none h.free]

theorem quiet_of_empty (idle : (s.msq x).work = []) (free : (s.msq x).wait = none) : Quiet s x :=
  ⟨by simp [idle], free⟩

/-- Quiet depends on the work list and the wait alone. -/
theorem Quiet.of_same {t : State} (h : Quiet s x) (work : (t.msq x).work = (s.msq x).work) (wait : (t.msq x).wait = (s.msq x).wait) :
    Quiet t x :=
  ⟨by rw [work]; exact h.begun, wait.trans h.free⟩

theorem quiet_issued {op k : Nat} {g n : Bool} {p : BitVec 2} (h : Issues s x op k g n p) (idle : (s.msq x).work = []) :
    Quiet (issued s x op k) x :=
  quiet_of_empty ((work_issued s x op k).trans idle) ((wait_issued s x op k).trans (wait_of_canIssue h.can))

theorem Quiet.setSpec (h : Quiet s x) (k : Nat) (a : Arch) : Quiet (s.setSpec x k a) x :=
  h.of_same (by rw [msq_setSpec]; rfl) (by rw [msq_setSpec]; rfl)
end

end Sys2Proof.Proofs
end

section
/-!
PROOFS. LDI to CMP (R150, R151).
-/
namespace Sys2Proof.Proofs

open Sys2Proof.Machine Sys2Proof.Safety Sys2Proof.Laws

section
variable {s : State} {x : Act} {op k : Nat} {f : FmtR}

/-- An instruction that only sets the speculative registers, with no earlier one in progress. -/
theorem issueR_setSpec (h : Issues s x op k f.g f.n f.p) (idle : (s.msq x).work = []) (z : f.z = false) {legal : Bool}
    (form : legal = true) {body : Nat → Arch → State → Except Nat State} {a : Arch}
    (ran : body k (past ((s.msq x).slot k).spec) (issued s x op k) = .ok ((issued s x op k).setSpec x k a)) :
    (s.issueR x op f legal body).advance x = (issued s x op k).setSpec x k a := by
  rw [issueR_ok h z form ran, ((quiet_issued h idle).setSpec k a).advance]

/-- RD takes the result of RS1 and operand B (R150). -/
theorem arith_eq (h : Issues s x op k f.g f.n f.p) (idle : (s.msq x).work = []) (z : f.z = false) (rd : writable f.rd = true)
    (rs1 : readable f.rs1 = true) (b : f.opBLegal = true) (g : Word → Word → Word) :
    s.arith x op f g = (issued s x op k).setSpec x k ((past ((s.msq x).slot k).spec).setReg f.rd.toNat
      (g (((s.msq x).slot k).spec.reg f.rs1.toNat) (f.opB ((s.msq x).slot k).spec))) :=
  issueR_setSpec h idle z (by rw [rd, rs1, b]; rfl) rfl
end

theorem cmpCond_le {code : Nat} {a b : Word} {c : Bool} (known : cmpCond code a b = some c) : code ≤ 9 := by
  by_contra beyond
  have other (i : Nat) (small : i ≤ 9) : code ≠ i := by omega
  simp [cmpCond, other] at known

/-- The conditions of CMP as the rule words them (R151): 6 and 7 look at bit 31 of the difference. -/
theorem cmpCond_eq (v b : Word) : cmpCond 0 v b = some (decide (v = b)) ∧ cmpCond 1 v b = some (decide (v ≠ b)) ∧
    cmpCond 2 v b = some (v.ult b) ∧ cmpCond 3 v b = some (b.ule v) ∧ cmpCond 4 v b = some (v.slt b) ∧
    cmpCond 5 v b = some (b.sle v) ∧ cmpCond 6 v b = some (decide (2 ^ 31 ≤ (v - b).toNat)) ∧
    cmpCond 7 v b = some (decide ((v - b).toNat < 2 ^ 31)) ∧ cmpCond 8 v b = some (decide (v &&& b ≠ 0#32)) ∧
    cmpCond 9 v b = some (decide (v &&& b = 0#32)) := by
  have sign : (v - b).msb = decide (2 ^ 31 ≤ (v - b).toNat) := BitVec.msb_eq_decide _
  refine ⟨rfl, ?_, rfl, rfl, rfl, rfl, congrArg some sign, ?_, ?_, rfl⟩
  · simp [cmpCond, bne, BEq.beq]
  · exact congrArg some (by rw [sign, ← decide_not]; simp only [Nat.not_le])
  · simp [cmpCond, bne, BEq.beq]

/-- The result of an issue touches the sequencer's slot alone. -/
theorem issued_setSpec_frame (s : State) (x : Act) (op k : Nat) (a : Arch) :
    Keeps [.msq] [] s ((issued s x op k).setSpec x k a) ∧ ((issued s x op k).setSpec x k a).msq x.other = s.msq x.other ∧
      ∀ j, j ≠ k → (((issued s x op k).setSpec x k a).msq x).slot j = (s.msq x).slot j := by
  refine ⟨keeps_setMsq (by decide) (keeps_setMsq (by decide) (keeps_refl _ _ _)),
    (msq_setMsq_other _ _ _).trans (msq_setMsq_other _ _ _), fun j apart => ?_⟩
  rw [msq_setSpec, Msq.setSpec, slot_setSlot_ne _ _ apart, msq_issued]
  exact slot_setSlot_ne _ _ apart

/-- Settles O10: each instruction's issue writes its result into the speculative registers, and no item or wait follows it. -/
theorem arithmetic : Obligations.Arithmetic := by
  unfold Obligations.Arithmetic
  refine ⟨?add, ?sub, ?and, ?or, ?xor, ?shl, ?shr, ?ldi, ?mov, ?cmp, issued_setSpec_frame, fun _ _ _ => rfl, fun _ => cmpCond_eq,
    ?cmpCode, ?addReg⟩
  case add => exact fun s x f k h idle z rd rs1 b => congrArg _ (arith_eq h idle z rd rs1 b _)
  case sub => exact fun s x f k h idle z rd rs1 b => congrArg _ (arith_eq h idle z rd rs1 b _)
  case and => exact fun s x f k h idle z rd rs1 b => congrArg _ (arith_eq h idle z rd rs1 b _)
  case or => exact fun s x f k h idle z rd rs1 b => congrArg _ (arith_eq h idle z rd rs1 b _)
  case xor => exact fun s x f k h idle z rd rs1 b => congrArg _ (arith_eq h idle z rd rs1 b _)
  case shl => exact fun s x f k h idle z rd rs1 b => congrArg _ (arith_eq h idle z rd rs1 b _)
  case shr => exact fun s x f k h idle z rd rs1 b => congrArg _ (arith_eq h idle z rd rs1 b _)
  case ldi =>
    exact fun s x f k h idle z imm rd rs1 rs2 => congrArg _ (issueR_setSpec h idle z (by rw [imm, rd, rs1, rs2]; rfl) rfl)
  case mov =>
    exact fun s x f k h idle z reg rd rs1 rs2 imm => congrArg _ (issueR_setSpec h idle z (by rw [reg, rd, rs1, rs2, imm]; rfl) rfl)
  case cmp =>
    intro s x f k c h idle z rs1 b known
    refine congrArg _ (issueR_setSpec h idle z (by rw [rs1, b, decide_eq_true (cmpCond_le known)]; rfl) ?_)
    have same : cmpCond (nbits f.rd.toNat 2 4) ((past ((s.msq x).slot k).spec).reg f.rs1.toNat) (f.opB (past ((s.msq x).slot k).spec))
      = some c := known
    rw [same]
  case cmpCode =>
    intro s x f k h beyond
    have form : (readable f.rs1 && f.opBLegal && decide (nbits f.rd.toNat 2 4 ≤ 9)) = false := by
      rw [decide_eq_false (by omega), Bool.and_false]
    exact next_advance (issueR_illegal h form)
  case addReg =>
    intro s x f k h hidden
    have form : (writable f.rd && readable f.rs1 && f.opBLegal) = false := by rw [hidden, Bool.and_false, Bool.false_and]
    exact next_advance (issueR_illegal h form)

end Sys2Proof.Proofs
end

section
/-!
PROOFS. What holds issue and what ends it (R141, R144 to R149, R172, R177), and the flow instructions NOP to YIELD (R142 to R149), with no
earlier instruction in progress.
-/
namespace Sys2Proof.Proofs

open Sys2Proof.Machine Sys2Proof.Safety Sys2Proof.Laws

/-! ### A wait that holds issue -/

/-- Issue held by a wait. -/
def waiting (s : State) (x : Act) (w : IssueWait) : State := s.setMsq x { s.msq x with wait := some w }

/-- A slot is in RUN with nothing in progress, and nothing holds issue. -/
structure Ready (s : State) (x : Act) (k : Nat) : Prop where
  run : (s.msq x).running = some k
  idle : (s.msq x).work = []
  go : (s.msq x).sqWait = false
  free : (s.msq x).wait = none

theorem ready_issued {s : State} {x : Act} {op k : Nat} {g n : Bool} {p : BitVec 2} (h : Issues s x op k g n p)
    (idle : (s.msq x).work = []) : Ready (issued s x op k) x k :=
  ⟨(running_issued s x op k).trans h.run, (work_issued s x op k).trans idle,
    (sqWait_issued s x op k).trans (sqWait_of_canIssue h.can), (wait_issued s x op k).trans (wait_of_canIssue h.can)⟩

section
variable (s : State) (x : Act) (w : IssueWait)

@[simp] theorem msq_waiting : (waiting s x w).msq x = { s.msq x with wait := some w } := msq_setMsq _ _ _

theorem wait_waiting : ((waiting s x w).msq x).wait = some w := by
  rw [msq_waiting]

theorem slot_waiting (k : Nat) : ((waiting s x w).msq x).slot k = (s.msq x).slot k := by
  rw [msq_waiting]
  rfl

@[simp] theorem boundariesTo_waiting (ang : Nat) : (waiting s x w).boundariesTo x ang = s.boundariesTo x ang := by
  cases x <;> rfl

@[simp] theorem cmps_waiting (y : Act) : (waiting s x w).cmps y = s.cmps y := by
  cases x <;> rfl

@[simp] theorem waiteHolds_waiting (k events : Nat) : (waiting s x w).waiteHolds x k events = s.waiteHolds x k events := by
  cases x <;> rfl

theorem waiting_keeps : Keeps [.msq] [] s (waiting s x w) := keeps_setMsq (by decide) (keeps_refl _ _ _)

theorem endWait_waiting (free : (s.msq x).wait = none) : (waiting s x w).endWait x = s := by
  have same : { s.msq x with wait := none } = s.msq x := by rw [← free]
  simp only [State.endWait, msq_waiting, same]
  simp only [waiting, setMsq_setMsq, setMsq_msq]
end

namespace Ready

variable {s : State} {x : Act} {k : Nat} (h : Ready s x k)
include h

theorem advance (w : IssueWait) : (waiting s x w).advance x = (waiting s x w).resolveWait x :=
  advance_of_begun (by simp [h.idle]) (by simpa using h.go)

theorem running (w : IssueWait) : ((waiting s x w).msq x).running = some k := by
  rw [msq_waiting]
  exact h.run

theorem allDone (w : IssueWait) : ((waiting s x w).msq x).allDone = true := by
  simp [Msq.allDone, h.idle]

theorem mediaDone (w : IssueWait) : ((waiting s x w).msq x).mediaDone = true := by
  simp [Msq.mediaDone, h.idle]

/-- HALT registers its commit at once (R145). -/
theorem halt : (waiting s x .halt).advance x = (waiting s x .halt).registerCommit x k 1 := by
  simp only [h.advance, State.resolveWait, h.running, wait_waiting, h.allDone, if_true]

/-- A switching YIELD registers its commit at once (R149). -/
theorem yield : (waiting s x .yield).advance x = (waiting s x .yield).registerCommit x k 2 := by
  simp only [h.advance, State.resolveWait, h.running, wait_waiting, h.allDone, if_true]

/-- FENCE holds nothing (R177). -/
theorem fence : (waiting s x .fence).advance x = s := by
  simp only [h.advance, State.resolveWait, h.running, wait_waiting, h.allDone, if_true, endWait_waiting _ _ _ h.free]

/-- BIND holds issue until CCX answers (R172). -/
theorem bind (n : Nat) : (waiting s x (.bind n)).advance x = waiting s x (.bind n) := by
  simp only [h.advance, State.resolveWait, h.running, wait_waiting]

/-- BRC branches at once (R144). -/
theorem brc (mask : Nat) (sense clr : Bool) (imm : Int) : (waiting s x (.brc mask sense clr imm)).advance x =
    ((waiting s x (.brc mask sense clr imm)).setSpec x k (brcApply ((s.msq x).slot k).spec mask sense clr imm)).endWait x := by
  simp only [h.advance, State.resolveWait, h.running, wait_waiting, h.mediaDone, if_true]
  rw [slot_waiting]
  rfl

/-- WAITE holds issue while none of its events holds (R147). -/
theorem waite {ev p tmo at_ : Nat} (none_ : s.waiteHolds x k ev = false) :
    (waiting s x (.waite ev p tmo at_)).advance x = waiting s x (.waite ev p tmo at_) := by
  simp only [h.advance, State.resolveWait, h.running, wait_waiting, waiteHolds_waiting, none_, Bool.false_eq_true, if_false]

/-- WAITE ends at once by an event that holds (R147, R148). -/
theorem waite_holds {ev p tmo at_ : Nat} (holds : s.waiteHolds x k ev = true) :
    (waiting s x (.waite ev p tmo at_)).advance x = (waiting s x (.waite ev p tmo at_)).waiteEnd x k ev p := by
  simp only [h.advance, State.resolveWait, h.running, wait_waiting, waiteHolds_waiting, holds, if_true]

/-- WAITA for an angle more than 8 boundaries ahead arms nothing yet (R136, R191). -/
theorem waita_far {ang at_ : Nat} (far : 8 < s.boundariesTo x ang) :
    (waiting s x (.waita ang none at_)).advance x = waiting s x (.waita ang none at_) := by
  simp only [h.advance, State.resolveWait, h.running, wait_waiting, State.armQual, boundariesTo_waiting, Nat.not_le.2 far, if_false]

/-- WAITA for an angle within 8 boundaries arms the lowest free comparator (R136, R191, log 20). -/
theorem waita_near {ang at_ : Nat} (near : s.boundariesTo x ang ≤ 8) :
    (waiting s x (.waita ang none at_)).advance x =
      waiting (s.setCmps x (mput (s.cmps x) (freeCmp (s.cmps x)) { target := ang, dest := 0, hit := false })) x
        (.waita ang (some (freeCmp (s.cmps x))) at_) := by
  simp only [h.advance, State.resolveWait, h.running, wait_waiting, State.armQual, boundariesTo_waiting, near, if_true, cmps_waiting]
  cases x <;> rfl

end Ready

/-! ### The ends of BRC and WAITE -/

theorem brcApply_pc (a : Arch) (mask : Nat) (sense clr : Bool) (imm : Int) : (brcApply a mask sense clr imm).pc =
    if (a.flags &&& mask != 0) != sense then branchTo ((a.pc + 2 ^ 32 - 8) % 2 ^ 32) imm else a.pc := by
  have moved : (brcApply a mask sense clr imm).pc =
      (if (a.flags &&& mask != 0) != sense then { a with pc := branchTo ((a.pc + 2 ^ 32 - 8) % 2 ^ 32) imm } else a).pc := by
    cases clr <;> rfl
  exact moved.trans (apply_ite Arch.pc _ _ _)

theorem brcApply_flags (a : Arch) (mask : Nat) (sense clr : Bool) (imm : Int) :
    (brcApply a mask sense clr imm).flags = if clr then a.flags &&& (15 - mask) else a.flags := by
  cases clr
  · exact (apply_ite Arch.flags _ _ _).trans (ite_self _)
  · rfl

theorem msq_endWait (s : State) (x : Act) : (s.endWait x).msq x = { s.msq x with wait := none } := msq_setMsq _ _ _

theorem endWait_keeps (s : State) (x : Act) : Keeps [.msq] [] s (s.endWait x) := keeps_setMsq (by decide) (keeps_refl _ _ _)

theorem setSpec_keeps (s : State) (x : Act) (k : Nat) (a : Arch) : Keeps [.msq] [] s (s.setSpec x k a) :=
  keeps_setMsq (by decide) (keeps_refl _ _ _)

theorem issued_keeps (s : State) (x : Act) (op k : Nat) : Keeps [.msq] [] s (issued s x op k) :=
  keeps_setMsq (by decide) (keeps_refl _ _ _)

/-- The state in which a WAITE has ended, its doorbell apart. -/
def waiteEnded (s : State) (x : Act) (k p : Nat) : State :=
  (s.setSpec x k (((s.msq x).slot k).spec.setReg p 1#32)).endWait x

/-- The end of a WAITE leaves everything else but the doorbell (R147, R148). -/
theorem waiteEnd_keeps_ended (s : State) (x : Act) (k ev p : Nat) :
    Keeps [] [Fld.MSQ_DOORBELL_RING x] (waiteEnded s x k p) (s.waiteEnd x k ev p) :=
  keeps_ite (State_put_keeps _ _ _) (keeps_refl _ _ _)

theorem waiteEnd_keeps (s : State) (x : Act) (k ev p : Nat) : Keeps [.msq] [Fld.MSQ_DOORBELL_RING x] s (s.waiteEnd x k ev p) :=
  keeps_via (waiteEnd_keeps_ended s x k ev p) (within_of_subset (by decide) (by simp))
    (keeps_via (endWait_keeps _ x) (within_nil rfl) (keeps_mono (setSpec_keeps s x k _) (within_nil rfl)))

theorem msq_waiteEnd (s : State) (x : Act) (k ev p : Nat) : (s.waiteEnd x k ev p).msq x =
    { (s.msq x).setSpec k (((s.msq x).slot k).spec.setReg p 1#32) with wait := none } := by
  rw [keeps_msq (waiteEnd_keeps_ended s x k ev p) (by decide), waiteEnded, msq_endWait, msq_setSpec]

/-! ### The issue of BRC, WAITA and WAITE -/

theorem exec_brc {s : State} {x : Act} {f : FmtR} {k : Nat} (h : Issues s x 0x02 k f.g f.n f.p) (z : f.z = false) (rs1 : f.rs1 = 0)
    (rs2 : f.rs2 = 0) (reg : f.i = false) (mask : nbits f.rd.toNat 0 4 ≠ 0) : exec (.brc x f) s =
      .next ((waiting (issued s x 0x02 k) x (.brc (nbits f.rd.toNat 0 4) (f.rd.getLsbD 5) (f.rd.getLsbD 4) f.simm)).advance x) :=
  next_advance (issueR_ok h z (by rw [rs1, rs2, reg, bne_iff_ne.2 mask]; rfl) rfl)

theorem exec_waita {s : State} {x : Act} {f : FmtQ} {k ang : Nat} (h : Issues s x 0x06 k f.g f.n f.p) (ops : f.ops = 0) (aq : f.aq ≠ 0)
    (legal : f.aqLegal = true) (wedge : f.wedgeOk s = true) (target : f.angle s x ((s.msq x).slot k).spec = some ang) :
    exec (.waita x f) s = .next ((waiting (issued s x 0x06 k) x (.waita ang none s.ang.ats)).advance x) := by
  refine next_advance (issueQ_ok h legal wedge (by rw [ops, bne_iff_ne.2 aq]; rfl) ?_)
  rw [angle_issued, target, ang_issued]
  rfl

theorem exec_waite {s : State} {x : Act} {f : FmtR} {k : Nat} (h : Issues s x 0x07 k f.g f.n f.p) (z : f.z = false)
    (pred : isP f.rd = true) (rs1 : f.rs1 = 0) (rs2 : f.rs2 = 0) (reg : f.i = false) (high : f.ib 20 12 = 0) (events : f.ib 16 4 ≠ 0) :
    exec (.waite x f) s =
      .next ((waiting (issued s x 0x07 k) x (.waite (f.ib 16 4) f.rd.toNat (f.ib 0 16) s.now)).advance x) := by
  refine next_advance (issueR_ok h z (by rw [pred, rs1, rs2, reg, high, bne_iff_ne.2 events]; rfl) ?_)
  rw [now_issued]
  rfl

/-! ### The statement -/

/-- Settles O11: each issue leaves the PC, the call stack, a registered commit or a wait, and the wait ends at once where its condition
holds already. That WAITA arms the lowest free comparator is the model's choice (log 20). -/
theorem controlFlow : Obligations.ControlFlow := by
  unfold Obligations.ControlFlow
  refine ⟨?nop, ?br, ?brc, ?call, ?callFull, ?ret, ?retEmpty, ?halt, ?waitaFar, ?waitaNear, ?waite, ?waiteHolds, ?yield, ?yieldSwitch,
    ?guard⟩
  case nop =>
    exact fun s x f k h idle z bare => congrArg _ ((congrArg (State.advance · x) (issueR_ok h z bare rfl)).trans
      (quiet_issued h idle).advance)
  case br =>
    intro s x f k h idle z only
    refine congrArg _ (issueR_setSpec h idle z only ?_)
    rw [pc_of_past h.pc]
  case brc =>
    intro s x f k h idle z rs1 rs2 reg mask
    refine ⟨_, (exec_brc h z rs1 rs2 reg mask).trans (congrArg _ ((ready_issued h idle).brc _ _ _ _)), ?_, ?_, ?_, ?_⟩
    · rw [msq_endWait, msq_setSpec]
      refine (congrArg (fun sl => Arch.pc (Slot.spec sl)) (slot_setSpec _ k _)).trans ?_
      rw [brcApply_pc, spec_issued, pc_of_past h.pc]
      rfl
    · rw [msq_endWait, msq_setSpec]
      refine (congrArg (fun sl => Arch.flags (Slot.spec sl)) (slot_setSpec _ k _)).trans ?_
      rw [brcApply_flags, spec_issued]
      rfl
    · rw [msq_endWait]
    · exact keeps_trans (keeps_trans (issued_keeps s x _ k) (waiting_keeps _ x _))
        (keeps_trans (setSpec_keeps _ x k _) (endWait_keeps _ x))
  case call =>
    intro s x f k h idle z only room
    refine congrArg _ (issueR_setSpec h idle z only ?_)
    refine (if_pos room).trans ?_
    rw [pc_of_past h.pc]
    rfl
  case callFull =>
    intro s x f k h z only full
    exact next_advance (issueR_error h z only (if_neg (Nat.not_lt.2 full)))
  case ret =>
    intro s x f k r l h idle z bare top
    refine congrArg _ (issueR_setSpec h idle z bare ?_)
    have stack : (past ((s.msq x).slot k).spec).stack = r :: l := top
    rw [stack]
  case retEmpty =>
    intro s x f k h z bare empty
    refine next_advance (issueR_error h z bare ?_)
    have stack : (past ((s.msq x).slot k).spec).stack = [] := empty
    rw [stack]
  case halt =>
    exact fun s x f k h idle z bare => congrArg _ ((congrArg (State.advance · x) (issueR_ok h z bare rfl)).trans
      (ready_issued h idle).halt)
  case waitaFar =>
    exact fun s x f k ang h idle ops aq legal wedge target far => (exec_waita h ops aq legal wedge target).trans
      (congrArg _ ((ready_issued h idle).waita_far ((boundariesTo_issued s x _ k _).symm ▸ far)))
  case waitaNear =>
    intro s x f k ang h idle ops aq legal wedge target near
    refine ⟨_, (exec_waita h ops aq legal wedge target).trans (congrArg _
      ((ready_issued h idle).waita_near ((boundariesTo_issued s x _ k _).symm ▸ near))), ?_, ?_, ?_⟩
    · rw [wait_waiting, cmps_issued]
    · rw [cmps_waiting, cmps_setCmps, cmps_issued]
    · exact keeps_via (waiting_keeps _ x _) (within_nil rfl)
        (keeps_setCmps (within_nil rfl) (keeps_mono (issued_keeps s x _ k) (within_nil rfl)))
  case waite =>
    intro s x f k h idle z pred rs1 rs2 reg high events none_
    exact (exec_waite h z pred rs1 rs2 reg high events).trans (congrArg _
      ((ready_issued h idle).waite ((waiteHolds_issued s x _ k k _).trans none_)))
  case waiteHolds =>
    intro s x f k h idle z pred rs1 rs2 reg high events holds
    refine ⟨_, (exec_waite h z pred rs1 rs2 reg high events).trans (congrArg _
      ((ready_issued h idle).waite_holds ((waiteHolds_issued s x _ k k _).trans holds))), ?_, ?_, ?_⟩
    · rw [msq_waiteEnd, slot_waiting, spec_issued]
      exact congrArg Slot.spec (slot_setSpec _ k _)
    · rw [msq_waiteEnd]
    · exact keeps_trans (keeps_mono (keeps_trans (issued_keeps s x _ k) (waiting_keeps _ x _)) (within_nil rfl))
        (waiteEnd_keeps _ x k _ _)
  case yield =>
    intro s x f k h idle z bare lower
    refine congrArg _ ((congrArg (State.advance · x) (issueR_ok h z bare ?_)).trans (quiet_issued h idle).advance)
    rw [higherReady_issued, lower]
    rfl
  case yieldSwitch =>
    intro s x f k h idle z bare higher
    refine congrArg _ ((congrArg (State.advance · x) (issueR_ok h z bare ?_)).trans (ready_issued h idle).yield)
    rw [higherReady_issued, higher]
    rfl
  case guard =>
    intro s x f k act run can pc disp guards guard idle
    have quiet : Quiet (issued s x 0x00 k) x :=
      quiet_of_empty ((work_issued s x _ k).trans idle) ((wait_issued s x _ k).trans (wait_of_canIssue can))
    exact congrArg _ ((congrArg (State.advance · x) (issue_guardFalse act run can pc disp guards guard)).trans quiet.advance)

end Sys2Proof.Proofs
end

section
/-!
PROOFS. Instructions that enter the work list (R138): positioning (R153 to R159, R801) and media instructions (R160 to R166).
-/
namespace Sys2Proof.Proofs

open Sys2Proof.Machine Sys2Proof.Safety Sys2Proof.Laws

/-! ### An item added at issue -/

section
variable {s t : State} {x : Act} {op k c : Nat} {f : FmtQ} {legal : Bool} {wk : WorkKind}

/-- A SEEK, FOLLOW or OFFSET enters the work list with what its operand and wedge number are judged by later (R801). -/
theorem issuePos_eq (h : Issues s x op k f.g f.n f.p) (aq : f.aqLegal = true) (form : legal = true) {bad : Bool}
    {kind : Arch → State → (WorkKind × Bool) × State} (ran : kind (past ((s.msq x).slot k).spec) (issued s x op k) = ((wk, bad), t)) :
    s.issuePos x op f legal kind = (t.addWork x { mkWork wk ((s.msq x).slot k).spec.pc
      (if f.wedgeOk s then f.angle s x ((s.msq x).slot k).spec else none) with opErr := bad || !f.wedgeOk s }).advance x := by
  refine congrArg (State.advance · x) (issue_ok h (by rw [form, aq]; rfl) ?_)
  rw [ran, pc_of_past h.pc, angle_issued, wedgeOk_issued]

theorem issueWork_eq (h : Issues s x op k f.g f.n f.p) (aq : f.aqLegal = true) (wedge : f.wedgeOk s = true) (form : legal = true)
    {kind : Nat → Arch → State → Except Nat (WorkKind × State)}
    (ran : kind k (past ((s.msq x).slot k).spec) (issued s x op k) = .ok (wk, t)) : s.issueWork x op f legal kind =
      (t.addWork x (mkWork wk ((s.msq x).slot k).spec.pc (f.angle s x ((s.msq x).slot k).spec))).advance x := by
  refine congrArg (State.advance · x) (issueQ_ok h aq wedge form ?_)
  rw [ran, pc_of_past h.pc, angle_issued]

theorem issueWork_error (h : Issues s x op k f.g f.n f.p) (aq : f.aqLegal = true) (wedge : f.wedgeOk s = true) (form : legal = true)
    {kind : Nat → Arch → State → Except Nat (WorkKind × State)}
    (refused : kind k (past ((s.msq x).slot k).spec) (issued s x op k) = .error c) :
    s.issueWork x op f legal kind = (s.progError x ((s.msq x).slot k).spec.pc c).advance x := by
  refine congrArg (State.advance · x) (issueQ_error h aq wedge form ?_)
  rw [refused]
end

/-! ### An item that is stopped as it is ready to begin -/

section
variable (s : State) (x : Act) (w : Work)

@[simp] theorem msq_addWork : (s.addWork x w).msq x = { s.msq x with work := (s.msq x).work ++ [w] } := msq_setMsq _ _ _

@[simp] theorem loaded_addWork : (s.addWork x w).loaded x = s.loaded x := by
  cases x <;> rfl
end

/-- A positioning item, the only one of the list, that its rule refuses stops the slot (R801). -/
theorem advance_of_refused {s : State} {x : Act} {w : Work} {c : Nat} (only : (s.msq x).work = [w]) (go : (s.msq x).sqWait = false)
    (fresh : w.begun = false) (open_ : w.done = false) (pos : w.kind.isPos = true) (refused : s.beginError x w = some c) :
    s.advance x = (s.progError x w.pc c).resolveWait x := by
  have noCommit : w.kind.isCommit = false := by
    cases kind : w.kind <;> simp_all [WorkKind.isPos, WorkKind.isCommit]
  have turn : orderReady s.atsPast [] w = true := by simp [orderReady, pos]
  simp [State.advance, go, State.beginReady, only, State.beginItems, fresh, open_, noCommit, turn, pos, refused]

section
variable {s : State} {x : Act} {w : Work} {c : Nat}

/-- FOLLOW needs loaded heads (R155, R801). -/
theorem beginError_follow {wr : Bool} (kind : w.kind = .follow c wr) (parked : s.loaded x = false) :
    s.beginError x w = some errState := by
  simp [State.beginError, kind, parked]

/-- An offset that its rule refuses, with heads bound and targets set (R156, R801). -/
theorem beginError_offset {o : Int} (kind : w.kind = .offset c o) (loaded : s.loaded x = true) (bound : (s.msq x).boundAll c = true)
    (target : (s.msq x).targetAll c = true) (bad : w.opErr = true) : s.beginError x w = some errOperand := by
  simp [State.beginError, kind, loaded, bound, target, bad]

/-- HEADSEL of a head that is bound to the other channel (R157). -/
theorem beginError_headsel {n : Nat} (kind : w.kind = .headsel c n) (taken : ((s.msq x).pos (c == 0)).head = some n) :
    s.beginError x w = some errOperand := by
  simp [State.beginError, kind, taken]
end

/-- An item issued with no earlier one in progress is stopped at once when its rule refuses it. -/
theorem issued_refused {s : State} {x : Act} {op k c : Nat} {g n : Bool} {p : BitVec 2} {w : Work} (h : Issues s x op k g n p)
    (idle : (s.msq x).work = []) (fresh : w.begun = false) (open_ : w.done = false) (pos : w.kind.isPos = true)
    (refused : ((issued s x op k).addWork x w).beginError x w = some c) :
    ((issued s x op k).addWork x w).advance x = (((issued s x op k).addWork x w).progError x w.pc c).resolveWait x :=
  advance_of_refused (by simp [idle]) (by simpa using sqWait_of_canIssue h.can) fresh open_ pos refused

/-! ### Positioning instructions -/

theorem exec_follow {s : State} {x : Act} {f : FmtQ} {k : Nat} (h : Issues s x 0x41 k f.g f.n f.p) (aq : f.aqLegal = true)
    (chs : f.ob 22 2 ≠ 3) (unused : f.ob 0 21 = 0) : exec (.follow x f) s =
      .next (((issued s x 0x41 k).addWork x { mkWork (.follow (chsMask (f.ob 22 2)) (f.ob 21 1 == 1)) ((s.msq x).slot k).spec.pc
        (if f.wedgeOk s then f.angle s x ((s.msq x).slot k).spec else none) with opErr := !f.wedgeOk s }).advance x) := by
  refine congrArg _ (issuePos_eq (bad := false) h aq ?_ rfl)
  rw [bne_iff_ne.2 chs, unused]
  rfl

theorem exec_offset {s : State} {x : Act} {f : FmtQ} {k : Nat} (h : Issues s x 0x42 k f.g f.n f.p) (aq : f.aqLegal = true)
    (chs : f.ob 22 2 ≠ 3) (unused : f.ob 0 13 = 0) : exec (.offset x f) s =
      .next (((issued s x 0x42 k).addWork x { mkWork (.offset (chsMask (f.ob 22 2)) (sgn 9 (f.ob 13 9))) ((s.msq x).slot k).spec.pc
        (if f.wedgeOk s then f.angle s x ((s.msq x).slot k).spec else none) with
        opErr := decide (128 < sgn 9 (f.ob 13 9) ∨ sgn 9 (f.ob 13 9) < -128) || !f.wedgeOk s }).advance x) := by
  refine congrArg _ (issuePos_eq h aq ?_ rfl)
  rw [bne_iff_ne.2 chs, unused]
  rfl

theorem exec_headsel {s : State} {x : Act} {f : FmtQ} {k : Nat} (h : Issues s x 0x43 k f.g f.n f.p) (aq : f.aqLegal = true)
    (wedge : f.wedgeOk s = true) (unused : f.ob 0 19 = 0) (small : f.ob 19 4 ≤ 11)
    (enabled : (s.get (Fld.MSQ_HEADS_EN x)).testBit (f.ob 19 4) = true) : exec (.headsel x f) s =
      .next (((issued s x 0x43 k).addWork x (mkWork (.headsel (f.ob 23 1) (f.ob 19 4)) ((s.msq x).slot k).spec.pc
        (f.angle s x ((s.msq x).slot k).spec))).advance x) := by
  refine congrArg _ (issueWork_eq h aq wedge (by rw [unused]; rfl) (if_neg ?_))
  rw [get_issued, enabled]
  simpa using small

/-- Settles O12: each instruction enters the end of the work list, or is a program error at its issue; an item that its rule refuses stops
the slot once it is ready to begin. -/
theorem positioning : Obligations.Positioning := by
  unfold Obligations.Positioning
  refine ⟨?seek, ?follow, ?followParked, ?offset, ?offsetFar, ?headsel, ?headselTaken, ?headselBeyond, ?loadh, ?loadhBarred, ?unloadh⟩
  case seek =>
    intro s x f k h aq chs unused first second
    refine congrArg _ (issuePos_eq h aq ?_ rfl)
    rw [bne_iff_ne.2 chs, unused]
    have one (b : Bool) (n : Nat) (off : b = false → n = 0) : (b || n == 0) = true := by
      cases b
      · rw [off rfl]; rfl
      · rfl
    rw [one _ _ first, one _ _ second]
    rfl
  case follow => exact fun s x f k h aq chs unused => exec_follow h aq chs unused
  case followParked =>
    intro s x f k h aq chs unused idle parked
    refine (exec_follow h aq chs unused).trans (congrArg _ (issued_refused h idle rfl rfl rfl (beginError_follow rfl ?_)))
    rw [loaded_addWork, loaded_issued, parked]
  case offset => exact fun s x f k h aq chs unused => exec_offset h aq chs unused
  case offsetFar =>
    intro s x f k h aq chs unused idle loaded bound target far
    refine (exec_offset h aq chs unused).trans (congrArg _ (issued_refused h idle rfl rfl rfl (beginError_offset rfl ?_ ?_ ?_ ?_)))
    · rw [loaded_addWork, loaded_issued, loaded]
    · rw [msq_addWork, msq_issued]
      exact bound
    · rw [msq_addWork, msq_issued]
      exact target
    · simp [far]
  case headsel => exact fun s x f k h aq wedge unused small enabled => exec_headsel h aq wedge unused small enabled
  case headselTaken =>
    intro s x f k h aq wedge unused small enabled idle taken
    refine (exec_headsel h aq wedge unused small enabled).trans
      (congrArg _ (issued_refused h idle rfl rfl rfl (beginError_headsel rfl ?_)))
    rw [msq_addWork, msq_issued]
    exact taken
  case headselBeyond =>
    exact fun s x f k h aq wedge unused beyond =>
      congrArg _ (issueWork_error h aq wedge (by rw [unused]; rfl) (if_pos (.inl beyond)))
  case loadh =>
    intro s x f k h aq wedge ops can
    refine congrArg _ (issueWork_eq h aq wedge (by rw [ops]; rfl) ?_)
    rw [canLoad_issued, can]
    rfl
  case loadhBarred =>
    intro s x f k h aq wedge ops barred
    refine congrArg _ (issueWork_error h aq wedge (by rw [ops]; rfl) ?_)
    rw [canLoad_issued, barred]
    rfl
  case unloadh =>
    intro s x f k h aq wedge ops loaded
    refine congrArg _ (issueWork_eq h aq wedge (by rw [ops]; rfl) ?_)
    rw [loaded_issued, loaded]
    rfl

/-! ### Media instructions -/

/-- The unused operand fields of a media instruction's word are 0 (R160, R163). -/
def mediaForm (op : MediaOp) (f : FmtQ) : Bool :=
  (match op with
    | .verify => f.ob 11 3 == 0
    | .eraseb => f.ob 11 3 == 0 && f.ob 1 5 == 0 && !(f.ob 0 1 == 1)
    | .scan => f.ob 1 5 == 0 && !(f.ob 0 1 == 1)
    | _ => true) && (f.ob 0 1 == 1 || f.ob 1 5 == 0)

/-- The instructions that take a buffer register (R160). -/
def usesBuf : MediaOp → Bool
  | .verify => false
  | .eraseb => false
  | _ => true

/-- The skip mask that a media instruction takes from a register (R163). -/
def skipMask (f : FmtQ) (a : Arch) (r : Nat) : Nat := if f.ob 0 1 = 1 then (a.reg r).toNat else 0

/-- The run that a media instruction adds to the work list (R160 to R164), from the architectural state at issue and the leads of the
channels. -/
def mediaRun (op : MediaOp) (f : FmtQ) (a : Arch) (lead0 lead1 : Nat) : MediaRun :=
  { op := op, chs := chsMask (f.ob 22 2), count := f.ob 14 8, sec0 := (a.reg (f.ob 6 5)).toNat % 2 ^ 12
    sec1 := (a.reg (f.ob 6 5 + second1 (f.ob 22 2 == 2))).toNat % 2 ^ 12, skip0 := skipMask f a (f.ob 1 5)
    skip1 := skipMask f a (f.ob 1 5 + second1 (f.ob 22 2 == 2)), buf0 := (a.reg (0x20 + f.ob 11 3)).toNat
    buf1 := (a.reg (0x20 + f.ob 11 3 + second1 (f.ob 22 2 == 2))).toNat, seed0 := a.seed0, seed1 := a.seed1, ctx := a.ctx
    lead0 := lead0, lead1 := lead1 }

/-- The architectural state after a media instruction's issue (R165, log 21): `a` is the one before it. -/
def mediaArch (op : MediaOp) (f : FmtQ) (a : Arch) : Arch :=
  let n0 := f.ob 14 8 - skipped (f.ob 14 8) (skipMask f a (f.ob 1 5))
  let n1 := f.ob 14 8 - skipped (f.ob 14 8) (skipMask f a (f.ob 1 5 + second1 (f.ob 22 2 == 2)))
  if f.ob 22 2 = 2 then mediaAdvance op (mediaAdvance op (past a) false (f.ob 11 3) n0) true (f.ob 11 3 + 1) n1
  else mediaAdvance op (past a) (f.ob 22 2 == 1) (f.ob 11 3) n0

/-- What a media instruction's operands must satisfy (R160, R163, R164, log 21). -/
structure MediaOperands (op : MediaOp) (f : FmtQ) : Prop where
  count : f.ob 14 8 ≠ 0
  mask : f.ob 0 1 = 1 → f.ob 14 8 ≤ 32
  pair : f.ob 22 2 = 2 → f.ob 6 5 ≠ 31 ∧ f.ob 1 5 ≠ 31 ∧ (usesBuf op = true → f.ob 11 3 % 2 = 0)

section
variable (a : Arch)

@[simp] theorem seed0_past : (past a).seed0 = a.seed0 := rfl

@[simp] theorem seed1_past : (past a).seed1 = a.seed1 := rfl

@[simp] theorem ctx_past : (past a).ctx = a.ctx := rfl
end

section
variable {s : State} {x : Act} {op : Nat} {m : MediaOp} {f : FmtQ} {k : Nat}

theorem MediaOperands.withBuf (count : f.ob 14 8 ≠ 0) (mask : f.ob 0 1 = 1 → f.ob 14 8 ≤ 32)
    (pair : f.ob 22 2 = 2 → f.ob 6 5 ≠ 31 ∧ f.ob 1 5 ≠ 31 ∧ f.ob 11 3 % 2 = 0) : MediaOperands m f where
  count := count
  mask := mask
  pair both := ⟨(pair both).1, (pair both).2.1, fun _ => (pair both).2.2⟩

theorem MediaOperands.withoutBuf (none : usesBuf m = false) (count : f.ob 14 8 ≠ 0) (mask : f.ob 0 1 = 1 → f.ob 14 8 ≤ 32)
    (pair : f.ob 22 2 = 2 → f.ob 6 5 ≠ 31 ∧ f.ob 1 5 ≠ 31) : MediaOperands m f where
  count := count
  mask := mask
  pair both := ⟨(pair both).1, (pair both).2, fun used => absurd used (Bool.eq_false_iff.1 none)⟩

theorem MediaOperands.accepted (o : MediaOperands m f) : (f.ob 14 8 == 0 || (f.ob 0 1 == 1 && decide (32 < f.ob 14 8)) ||
    (f.ob 22 2 == 2 && (f.ob 6 5 == 31 || f.ob 1 5 == 31 || (usesBuf m && f.ob 11 3 % 2 == 1)))) = false := by
  obtain ⟨count, mask, pair⟩ := o
  have few : (f.ob 0 1 == 1 && decide (32 < f.ob 14 8)) = false := by simpa using mask
  have rest : (f.ob 22 2 == 2 && (f.ob 6 5 == 31 || f.ob 1 5 == 31 || (usesBuf m && f.ob 11 3 % 2 == 1))) = false := by
    simpa [and_assoc] using pair
  rw [few, rest, beq_false_of_ne count]
  rfl

/-- A media instruction whose form and operands are in order adds its run to the work list and advances the buffer registers and tag
seeds. -/
theorem issueMedia_eq (h : Issues s x op k f.g f.n f.p) (aq : f.aqLegal = true) (wedge : f.wedgeOk s = true) (chs : f.ob 22 2 ≠ 3)
    (form : mediaForm m f = true) (ctx : m.needsCtx = true → ((s.msq x).slot k).spec.ctx ≠ 0x400) (operands : MediaOperands m f) :
    s.issueMedia x op m f = (((issued s x op k).setSpec x k (mediaArch m f ((s.msq x).slot k).spec)).addWork x
      (mkWork (.media (mediaRun m f ((s.msq x).slot k).spec (s.msq x).pos0.lead (s.msq x).pos1.lead)) ((s.msq x).slot k).spec.pc
        (f.angle s x ((s.msq x).slot k).spec))).advance x := by
  refine issueWork_eq h aq wedge ?_ ?_
  · rw [bne_iff_ne.2 chs]
    exact form
  · have bound : (m.needsCtx && (past ((s.msq x).slot k).spec).ctx == 0x400) = false := by simpa using ctx
    rw [if_neg (by rw [bound]; exact Bool.false_ne_true)]
    refine (if_neg (Bool.eq_false_iff.1 operands.accepted)).trans ?_
    by_cases both : f.ob 22 2 = 2 <;> simp [mediaRun, mediaArch, skipMask, both, second1]
end

/-- A skip register is named only with a skip mask (R163). -/
theorem skip_form {f : FmtQ} (unused : f.ob 0 1 = 0 → f.ob 1 5 = 0) : (f.ob 0 1 == 1 || f.ob 1 5 == 0) = true := by
  have bit : f.ob 0 1 < 2 := Nat.mod_lt _ (by decide)
  rcases Nat.lt_succ_iff_lt_or_eq.1 bit with zero | one
  · simp [unused (by omega)]
  · simp [one]

/-- Settles O13: the five media instructions are one issue rule each; a READ without a bound context is a program error. -/
theorem mediaInstructions : Obligations.MediaInstructions := by
  unfold Obligations.MediaInstructions
  refine ⟨?read, ?write, ?verify, ?scan, ?eraseb, ?unbound⟩
  case read =>
    rintro s x f k _ _ h aq wedge chs unused ctx count mask pair rfl rfl
    exact congrArg _ (issueMedia_eq (m := .read) h aq wedge chs (skip_form unused) (fun _ => ctx) (.withBuf count mask pair))
  case write =>
    rintro s x f k _ _ h aq wedge chs unused ctx count mask pair rfl rfl
    exact congrArg _ (issueMedia_eq (m := .write) h aq wedge chs (skip_form unused) (fun _ => ctx) (.withBuf count mask pair))
  case verify =>
    rintro s x f k _ _ h aq wedge chs ⟨buf, unused⟩ count mask pair rfl rfl
    refine congrArg _ (issueMedia_eq (m := .verify) h aq wedge chs ?_ nofun (.withoutBuf rfl count mask pair))
    rw [mediaForm, skip_form unused, buf]
    rfl
  case scan =>
    rintro s x f k _ _ h aq wedge chs ⟨skr, unmasked⟩ ctx count mask pair rfl rfl
    refine congrArg _ (issueMedia_eq (m := .scan) h aq wedge chs ?_ (fun _ => ctx) (.withBuf count mask pair))
    rw [mediaForm, skr, unmasked]
    rfl
  case eraseb =>
    rintro s x f k _ _ h aq wedge chs ⟨buf, skr, unmasked⟩ count mask pair rfl rfl
    refine congrArg _ (issueMedia_eq (m := .eraseb) h aq wedge chs ?_ nofun (.withoutBuf rfl count mask pair))
    rw [mediaForm, buf, skr, unmasked]
    rfl
  case unbound =>
    intro s x f k h aq wedge chs unused ctx
    refine congrArg _ (issueWork_error h aq wedge ?_ (if_pos ?_))
    · rw [bne_iff_ne.2 chs]
      exact skip_form unused
    · rw [ctx_past, ctx]
      rfl

end Sys2Proof.Proofs
end

section
/-!
PROOFS. The instructions of heat and assist (R171), of context, commit and checkpoint (R172 to R178), and of the register window (R179 to
R181).
-/
namespace Sys2Proof.Proofs

open Sys2Proof.Machine Sys2Proof.Safety Sys2Proof.Laws

section
variable {s t : State} {x : Act} {op k c : Nat} {f : FmtR} {legal : Bool} {body : Nat → Arch → State → Except Nat State}

/-- An instruction after whose issue nothing goes on. -/
theorem issueR_quiet (h : Issues s x op k f.g f.n f.p) (z : f.z = false) (form : legal = true)
    (ran : body k (past ((s.msq x).slot k).spec) (issued s x op k) = .ok t) (quiet : Quiet t x) :
    (s.issueR x op f legal body).advance x = t := by
  rw [issueR_ok h z form ran, quiet.advance]

/-- An effect staged for the next commit (R174, R175, R178, R180), with no earlier instruction in progress. -/
theorem issueR_staged (h : Issues s x op k f.g f.n f.p) (idle : (s.msq x).work = []) (z : f.z = false) (form : legal = true) {e : Staged}
    (ran : body k (past ((s.msq x).slot k).spec) (issued s x op k) = .ok ((issued s x op k).setMsq x
      { (issued s x op k).msq x with staged := ((issued s x op k).msq x).staged ++ [e] })) :
    (s.issueR x op f legal body).advance x = (issued s x op k).setMsq x
      { (issued s x op k).msq x with staged := (s.msq x).staged ++ [e] } := by
  rw [staged_issued] at ran
  exact issueR_quiet h z form ran ((quiet_issued h idle).of_same (by rw [msq_setMsq]) (by rw [msq_setMsq]))

/-- The operand that OVR takes from RS1 (R171). -/
theorem ovr_form {ovr : Nat} {r : BitVec 6} (form : if ovr = 1 then readable r = true else r = 0) :
    (if ovr == 1 then readable r else r == 0) = true := by
  by_cases taken : ovr = 1
  · simpa [taken] using form
  · simpa [taken] using form
end

/-! ### HEAT, ASSIST and PREHEAT -/

/-- A sequencer with the lead of the channels of a mask set (R171). -/
def withLead (m : Msq) (mask lead : Nat) : Msq :=
  let m1 := if inMask mask false then m.setPos false { m.pos0 with lead := lead } else m
  if inMask mask true then m1.setPos true { m1.pos1 with lead := lead } else m1

section
variable (m : Msq) (mask lead : Nat)

theorem pos0_withLead : (withLead m mask lead).pos0 = if inMask mask false then { m.pos0 with lead := lead } else m.pos0 := by
  cases first : inMask mask false <;> cases second : inMask mask true <;> simp [withLead, first, second, Msq.setPos]

theorem pos1_withLead : (withLead m mask lead).pos1 = if inMask mask true then { m.pos1 with lead := lead } else m.pos1 := by
  cases first : inMask mask false <;> cases second : inMask mask true <;> simp [withLead, first, second, Msq.setPos]

theorem work_withLead : (withLead m mask lead).work = m.work := by
  cases first : inMask mask false <;> cases second : inMask mask true <;> simp [withLead, first, second, Msq.setPos]

theorem wait_withLead : (withLead m mask lead).wait = m.wait := by
  cases first : inMask mask false <;> cases second : inMask mask true <;> simp [withLead, first, second, Msq.setPos]
end

/-- A LEAD of 0 needs the channels' pilots locked (R171). -/
theorem held_form {lead : Nat} {locked : Bool} (held : lead = 0 → locked = true) : ¬(lead == 0 && !locked) = true := by
  simpa using held

/-- Settles O14: ASSIST and HEAT are items of the work list, PREHEAT acts at issue. -/
theorem assistInstructions : Obligations.AssistInstructions := by
  unfold Obligations.AssistInstructions
  refine ⟨?assist, ?heat, ?preheat, ?preheatOff⟩
  case assist =>
    intro s x f k h z rd rs2 reg chs high rs1
    refine next_advance (issueR_ok h z (by rw [rd, rs2, reg, high, bne_iff_ne.2 chs, ovr_form rs1]; rfl) ?_)
    rw [pc_of_past h.pc]
    simp only [beq_iff_eq]
    rfl
  case heat =>
    intro s x f k h z rd rs2 reg chs high gap mode rs1
    refine next_advance (issueR_ok h z (by rw [rd, rs2, reg, high, gap, bne_iff_ne.2 chs, bne_iff_ne.2 mode, ovr_form rs1]; rfl) ?_)
    rw [pc_of_past h.pc]
    simp only [beq_iff_eq]
    rfl
  case preheat =>
    intro s x f k h idle z only high gap chs held mode
    refine ⟨(issued s x 0x82 k).setMsq x (withLead ((issued s x 0x82 k).msq x) (chsMask (f.ib 0 2)) (f.ib 4 16)),
      congrArg _ (issueR_quiet h z (by rw [only, high, gap, bne_iff_ne.2 chs]; rfl) ?_ ?_), ?_, ?_, ?_⟩
    · refine (if_neg ?_).trans (if_neg ?_)
      · exact ptAll_issued s x _ k _ ▸ held_form held
      · rw [get_issued]
        simpa using mode
    · exact (quiet_issued h idle).of_same (by rw [msq_setMsq, work_withLead]) (by rw [msq_setMsq, wait_withLead])
    · rw [msq_setMsq, pos0_withLead, pos0_issued]
    · rw [msq_setMsq, pos1_withLead, pos1_issued]
    · exact keeps_setMsq (by decide) (issued_keeps s x _ k)
  case preheatOff =>
    intro s x f k h idle z only high gap chs held mode
    refine congrArg _ (issueR_quiet h z (by rw [only, high, gap, bne_iff_ne.2 chs]; rfl) ?_ (quiet_issued h idle))
    refine (if_neg ?_).trans (if_pos ?_)
    · exact ptAll_issued s x _ k _ ▸ held_form held
    · rw [get_issued]
      simpa using mode

/-! ### BIND to CHKPT -/

/-- The tag seeds of the channels of a mask set (R173). -/
def tagged (a : Arch) (mask : Nat) (sd : Seed) : Arch :=
  let a1 := if inMask mask false then a.setSeed false sd else a
  if inMask mask true then a1.setSeed true sd else a1

section
variable (a : Arch) (mask : Nat) (sd : Seed)

theorem seed0_tagged : (tagged a mask sd).seed0 = if inMask mask false then sd else a.seed0 := by
  cases first : inMask mask false <;> cases second : inMask mask true <;> simp [tagged, first, second, Arch.setSeed]

theorem seed1_tagged : (tagged a mask sd).seed1 = if inMask mask true then sd else a.seed1 := by
  cases first : inMask mask false <;> cases second : inMask mask true <;> simp [tagged, first, second, Arch.setSeed]

theorem pc_tagged : (tagged a mask sd).pc = a.pc := by
  cases first : inMask mask false <;> cases second : inMask mask true <;> simp [tagged, first, second, Arch.setSeed]
end

/-- Settles O15: BIND holds issue, TAG acts at issue, BADV, POST and CHKPT stage their effect. -/
theorem hostInstructions : Obligations.HostInstructions := by
  unfold Obligations.HostInstructions
  refine ⟨?bind, ?badv, ?tag, ?post, ?commit, ?fence, ?chkpt, ?chkptStack⟩
  case bind =>
    exact fun s x f k h idle z rd rs1 rs2 reg imm =>
      (next_advance (issueR_ok h z (by rw [rd, rs1, rs2, reg, imm]; rfl) rfl)).trans (congrArg _ ((ready_issued h idle).bind _))
  case badv =>
    exact fun s x f k h idle z rd rs1 rs2 reg imm => congrArg _ (issueR_staged h idle z (by rw [rd, rs1, rs2, reg, imm]; rfl) rfl)
  case tag =>
    rintro s x f k _ h idle z rd rs1 rs2 reg high chs rfl
    refine ⟨(issued s x 0xA2 k).setSpec x k (tagged (past ((s.msq x).slot k).spec) (chsMask (f.ib 0 2)) _),
      congrArg _ (issueR_setSpec h idle z (by rw [rd, rs1, rs2, reg, high, bne_iff_ne.2 chs]; rfl) rfl), ?_, ?_, ?_,
      (issued_setSpec_frame s x _ k _).1⟩
    · rw [msq_setSpec, slot_setSpec, seed0_tagged, seed0_past]
      rfl
    · rw [msq_setSpec, slot_setSpec, seed1_tagged, seed1_past]
      rfl
    · rw [msq_setSpec, slot_setSpec, pc_tagged]
  case post =>
    exact fun s x f k h idle z only high => congrArg _ (issueR_staged h idle z (by rw [only, high]; rfl) rfl)
  case commit =>
    exact fun s x f k h z bare => next_advance (issueR_ok h z bare rfl)
  case fence =>
    exact fun s x f k h idle z bare => (next_advance (issueR_ok h z bare rfl)).trans (congrArg _ (ready_issued h idle).fence)
  case chkpt =>
    intro s x f k h idle z bare stack low high
    refine congrArg _ (issueR_staged h idle z bare (if_neg ?_))
    rw [get_issued]
    exact not_or.2 ⟨not_not.2 stack, not_or.2 ⟨Nat.not_lt.2 low, Nat.not_lt.2 high⟩⟩
  case chkptStack =>
    exact fun s x f k h z bare stack => next_advance (issueR_error h z bare (if_pos (.inl stack)))

/-! ### EXT, RDREG and WRREG -/

/-- Settles O16: EXT leaves its routine, with the slot's PC back at the instruction; RDREG reads and WRREG stages. -/
theorem windowInstructions : Obligations.WindowInstructions := by
  unfold Obligations.WindowInstructions
  refine ⟨?ext, ?extEmpty, ?rdreg, ?rdregNone, ?wrreg, ?wrregNone⟩
  case ext =>
    intro s x f k h idle z rd rs1 rs2 reg high valid
    refine ⟨_, congrArg Host.Outcome.next (issueR_quiet h z (by rw [rd, rs1, rs2, reg, high]; rfl) (if_neg ?_) ?_), ?_⟩
    · rw [ucs_issued, valid]
      exact Bool.false_ne_true
    · exact ((quiet_issued h idle).setSpec k _).of_same (by rw [msq_setMsq]) (by rw [msq_setMsq])
    · rw [msq_setMsq, ucs_issued, pc_of_past h.pc]
      exact ⟨rfl, rfl, rfl, rfl, rfl, rfl, rfl, keeps_setMsq (by decide) (issued_setSpec_frame s x _ k _).1⟩
  case extEmpty =>
    intro s x f k h z rd rs1 rs2 reg high invalid
    refine next_advance (issueR_error h z (by rw [rd, rs1, rs2, reg, high]; rfl) (if_pos ?_))
    rw [ucs_issued, invalid]
    rfl
  case rdreg =>
    intro s x f k a h z rd rs1 rs2 reg high named
    refine next_advance (issueR_ok h z (by rw [rd, rs1, rs2, reg, high]; rfl) ?_)
    rw [named]
  case rdregNone =>
    intro s x f k h z rd rs1 rs2 reg high unnamed
    refine next_advance (issueR_error h z (by rw [rd, rs1, rs2, reg, high]; rfl) ?_)
    rw [unnamed]
  case wrreg =>
    intro s x f k a h idle z rd rs1 rs2 reg high named
    refine congrArg _ (issueR_staged h idle z (by rw [rd, rs1, rs2, reg, high]; rfl) ?_)
    rw [windowWrite_issued, reg_past, named]
  case wrregNone =>
    intro s x f k h z rd rs1 rs2 reg high unnamed
    refine next_advance (issueR_error h z (by rw [rd, rs1, rs2, reg, high]; rfl) ?_)
    rw [windowWrite_issued, reg_past, unnamed]

end Sys2Proof.Proofs
end

section
/-!
PROOFS. Submission (R117 to R125). The statement has a refused submission leave MSQx_SUBGO.GO at 0 whenever no checkpoint record waits for
CCX; a submission requested meanwhile sets GO again when the refused one is handled (R71, R119).
-/
namespace Sys2Proof.Proofs

open Sys2Proof.Machine

/-- MSQ_SUBMIT always answers, with the submission handled. -/
theorem exec_msqSubmit (s : State) (x : Act) : exec (.msqSubmit x) s = .next (s.subGo x) := rfl

/-- The drive at reset with no FREE slot on actuator A and one more submission requested there. -/
def fullAgain : State :=
  State.reset.setMsq .a { State.reset.msq .a with
    slots := (List.range 16).map fun k => (k, { Slot.empty with st := .ready })
    subAgain := true }

/-- No checkpoint record waits, and no slot is FREE. -/
theorem fullAgain_full : (fullAgain.msq .a).subWait = none ∧ (fullAgain.msq .a).lowestFree = none := by
  decide +kernel

/-- The refused submission leaves GO at 1, for the one that was requested meanwhile (R119). -/
theorem fullAgain_subGo_go : (fullAgain.subGo .a).flag (Fld.MSQ_SUBGO_GO .a) = true := by
  decide +kernel

/-- Refutes O8: with 16 slots READY, no checkpoint record waiting and a further submission requested, a submission is refused with FULL and
leaves MSQx_SUBGO.GO at 1 (R119), where the clause of FULL has it at 0. -/
theorem not_submission : ¬ Obligations.Submission := by
  unfold Obligations.Submission
  rintro ⟨fullClause, -⟩
  obtain ⟨noWait, noFree⟩ := fullAgain_full
  obtain ⟨t, answer, -, -, noGo, -⟩ := fullClause fullAgain .a (actOk_a _) noWait noFree
  rw [exec_msqSubmit, Host.Outcome.next.injEq] at answer
  rw [← answer, fullAgain_subGo_go] at noGo
  exact absurd noGo (by decide)

end Sys2Proof.Proofs
end

section
/-!
PROOFS. The frames of a squash (R213, R214, R228), of a slot that leaves RUN (R124) and of a program error (R183), to their own fields.
-/
namespace Sys2Proof.Proofs

open Sys2Proof.Machine Sys2Proof.Safety Sys2Proof.Laws

/-! ### The track-level escalation and a slot that leaves RUN (R124, R228) -/

/-- The fields that the track-level escalation of an actuator writes (R228). -/
def escFields (x : Act) : List Field :=
  recFields ++ [Fld.MSQ_ESC_SLOT x, Fld.MSQ_ESC_PEND x, Fld.MSQ_CTL_HOLD x, Fld.MSQ_EV_HOLD x, Fld.THM_STAT_BANDA, Fld.THM_STAT_BANDB]

section
variable (s : State) (x : Act) (k : Nat)

theorem trackEscalate_keeps : Keeps [.msq, .rbk, .sys] (escFields x) s (s.trackEscalate x k) := by
  refine keeps_via (takeBand_keeps _ x) (by cases x <;> decide) (keeps_holdEvent (by cases x <;> decide) ?_)
  exact keeps_putb (by cases x <;> decide) (keeps_runWatch (within_nil rfl) (keeps_putb (by cases x <;> decide)
    (keeps_put (by cases x <;> decide) (keeps_setMsq (within_nil rfl) (keeps_refl _ _ _)))))

/-- The end of a squash: the escalation that is due is carried out (R225). -/
def sqEnd : State :=
  if (s.msq x).escDue then (s.setMsq x { s.msq x with escDue := false }).trackEscalate x k else s

theorem sqEnd_keeps : Keeps [.msq, .rbk, .sys] (escFields x) s (sqEnd s x k) :=
  keeps_ite (keeps_trans (keeps_setMsq (within_nil rfl) (keeps_refl _ _ _)) (trackEscalate_keeps _ x k)) (keeps_refl _ _ _)

theorem leaveRun_keeps (st : SlotState) (code : Nat) : Keeps [.msq, .rbk, .sys] (escFields x) s (s.leaveRun x k st code) :=
  keeps_via (takeBand_keeps _ x) (by cases x <;> decide) (keeps_holdEvent (by cases x <;> decide)
    (keeps_runWatch (within_nil rfl) (keeps_setMsq (within_nil rfl) (keeps_refl _ _ _))))

theorem msq_leaveRun (st : SlotState) (code : Nat) : (s.leaveRun x k st code).msq x =
    { (s.msq x).setSlot k { (s.msq x).slot k with st := st, fcode := code } with sqWait := false, sqCauses := 0 } := by
  have rest (t : State) : Keeps [.rbk, .sys] (escFields x) t ((t.runWatch.holdEvent x).takeBand x) :=
    keeps_via (takeBand_keeps _ x) (by cases x <;> decide) (keeps_holdEvent (by cases x <;> decide)
      (keeps_runWatch (within_nil rfl) (keeps_refl _ _ _)))
  exact (keeps_msq (rest _) (by decide) x).trans (msq_setMsq _ _ _)

theorem slot_leaveRun (st : SlotState) (code : Nat) :
    ((s.leaveRun x k st code).msq x).slot k = { (s.msq x).slot k with st := st, fcode := code } := by
  rw [msq_leaveRun]
  exact slot_setSlot _ _ _
end

/-! ### A squash (R213, R214) -/

/-- The fields that a squash of an actuator's sequencer writes of its own, beside those that notes put back. -/
def squashOwn (x : Act) : List Field :=
  tornFields x ++ escFields x ++ [Fld.MSQ_EV_SQUASH x, Fld.MSQ_SQCAUSE_CAUSE x, Fld.MSQ_SQCNT_SQUASH x, Fld.MSQ_SQLAST_CAUSE x,
    Fld.MSQ_SQLAST_SLOT x]

theorem squashOwn_subset (s : State) (x : Act) : squashOwn x ⊆ squashFields s x := by
  simp [squashOwn, tornFields, escFields, squashFields]

section
variable (s : State) (x : Act) (k causes : Nat) (counts : Bool)

theorem sqRecord_own (join : Bool) : Keeps [] (squashOwn x) s (s.sqRecord x k causes join) :=
  keeps_put (by cases x <;> decide) (keeps_put (by cases x <;> decide) (keeps_put (by cases x <;> decide) (keeps_refl _ _ _)))

theorem sqJoin_keeps : Keeps tripParts (squashOwn x) s (s.sqJoin x k causes counts) := by
  unfold State.sqJoin
  extract_lets m s1 s2
  have h1 : Keeps tripParts (squashOwn x) s s1 :=
    keeps_via (sqRecord_own _ x k causes true) (by cases x <;> decide) (keeps_setMsq (within_nil rfl) (keeps_refl _ _ _))
  have h2 : Keeps tripParts (squashOwn x) s s2 := keeps_ite (keeps_setMsq (within_nil rfl) h1) h1
  exact keeps_trans h2 (keeps_mono (sqEnd_keeps s2 x k) (by cases x <;> decide))

/-- The sequencer of a squash that has undone the slot's uncommitted work (R203, R213). -/
def undone (m : Msq) : Msq :=
  { m.undo k with
    sqCauses := causes, sqWait := true, gate218 := true, wgPassed := false, sqCounted := false, escDue := false, unloaded := false }

/-- What a squash does once the notes are back, before it counts (R213): from `s`, the state with the notes back. -/
def squashed : State :=
  let s3 := (s.setMsq x (undone k causes (s.msq x))).lpeReturn x
  let s4 := (((s3.selectKey x (((s.msq x).slot k).comm.ctx)).undoHeads x).setHeaters x).restLasers x
  (((s4.sqRecord x k causes false).bump (Fld.MSQ_SQCNT_SQUASH x) 1).count 6 1).raise (Fld.MSQ_EV_SQUASH x)

theorem squashed_keeps : Keeps tripParts (squashOwn x) s (squashed s x k causes) := by
  have back : Keeps tripParts (squashOwn x) s ((s.setMsq x (undone k causes (s.msq x))).lpeReturn x) :=
    keeps_lpeReturn (within_nil rfl) (keeps_setMsq (within_nil rfl) (keeps_refl _ _ _))
  refine keeps_raise (by cases x <;> decide) (keeps_count (within_nil rfl) (keeps_bump (by cases x <;> decide)
    (keeps_via (sqRecord_own _ x k causes false) (by cases x <;> decide) ?_)))
  exact keeps_restLasers (within_nil rfl) (keeps_setWrp (within_nil rfl) (keeps_setPlk (within_nil rfl)
    (keeps_setMsq (within_nil rfl) back)))

theorem flag_squashed : (squashed s x k causes).flag (Fld.MSQ_EV_SQUASH x) = true :=
  flag_raise _ _ (by cases x <;> decide) rfl (by cases x <;> decide)
end

section
variable {s : State} {x : Act} {k : Nat}

/-- A squash of a slot that no squash holds (R213). -/
theorem squash_eq (run : (s.msq x).running = some k) (go : (s.msq x).sqWait = false) (causes : Nat) (counts : Bool) :
    s.squash x causes counts = (let t := squashed ((squashStop s x).unstage x) x k causes
      sqEnd (if counts then t.trackCount x else t) x k) := by
  simp only [State.squash, run, go, Bool.false_eq_true, if_false]
  rfl

/-- The notes of the sequencer go back, which stopping leaves as they are. -/
theorem unstage_squashStop_keeps (s : State) (x : Act) :
    Keeps [.mem] (notedFields s x) (squashStop s x) ((squashStop s x).unstage x) := by
  have same : notedFields (squashStop s x) x = notedFields s x := by
    simp only [notedFields, keeps_msq (squashStop_keeps s x) (by decide) x]
  exact same ▸ unstage_keeps (squashStop s x) x

/-- A counted squash is counted and its escalation, where one is due, carried out. -/
theorem countEnd_keeps (s : State) (x : Act) (k : Nat) (counts : Bool) :
    Keeps [.msq, .rbk, .sys] (escFields x) s (sqEnd (if counts then s.trackCount x else s) x k) :=
  keeps_trans (keeps_ite (keeps_setMsq (within_nil rfl) (keeps_refl _ _ _)) (keeps_refl _ _ _)) (sqEnd_keeps _ x k)

theorem squash_keeps (s : State) (x : Act) (causes : Nat) (counts : Bool) :
    Keeps tripParts (squashFields s x) s (s.squash x causes counts) := by
  have own {a b : State} (kept : Keeps tripParts (squashOwn x) a b) : Keeps tripParts (squashFields s x) a b :=
    keeps_mono kept (within_of_subset (List.Subset.refl _) (squashOwn_subset s x))
  cases run : (s.msq x).running with
  | none =>
    simp only [State.squash, run]
    exact keeps_refl _ _ _
  | some k =>
    cases go : (s.msq x).sqWait with
    | true =>
      simp only [State.squash, run, go, if_true]
      exact own (sqJoin_keeps s x k causes counts)
    | false =>
      rw [squash_eq run go]
      refine keeps_trans (own (keeps_mono (squashStop_keeps s x) (by cases x <;> decide))) ?_
      refine keeps_trans (keeps_mono (unstage_squashStop_keeps s x) (within_of_subset (by decide) ?_)) ?_
      · intro f noted
        simp [squashFields, noted]
      · exact own (keeps_trans (squashed_keeps _ x k causes) (keeps_mono (countEnd_keeps _ x k counts) (by cases x <;> decide)))

/-- A squash raises MSQx_EV_SQUASH (R213), and no escalation takes it back. -/
theorem flag_squash (run : (s.msq x).running = some k) (go : (s.msq x).sqWait = false) (causes : Nat) (counts : Bool) :
    (s.squash x causes counts).flag (Fld.MSQ_EV_SQUASH x) = true := by
  rw [squash_eq run go, keeps_flag (countEnd_keeps _ x k counts) _ (by decide) (by cases x <;> decide), flag_squashed]
end

/-! ### A program error (R183) -/

section
variable (s : State) (x : Act) (pc code : Nat)

/-- The fields of a program error's fault bit and of the slot that leaves RUN (R183). -/
def faultFields (x : Act) : List Field :=
  escFields x ++ [Fld.MSQ_FLT_PROG x, Fld.MSQ_FLT_SAPCAP x, Fld.MSQ_FLT_STEP x]

theorem raiseFault_keeps : Keeps [.rbk] (faultFields x) s (s.raise (progFault x code)) := by
  refine keeps_raise (within_of_subset (by simp) (List.cons_subset.2 ⟨?_, by simp [faultFields, escFields]⟩)) (keeps_refl _ _ _)
  unfold progFault
  split
  · simp [faultFields]
  · split <;> simp [faultFields]

/-- The fault of a slot, once its squash is done and MSQx_FLTPC is written (R183). -/
theorem faultRun_keeps (k : Nat) :
    Keeps [.msq, .rbk, .sys] (faultFields x) s ((s.raise (progFault x code)).leaveRun x k .fault code) :=
  keeps_via (leaveRun_keeps _ x k .fault code) (within_of_subset (List.Subset.refl _) (List.subset_append_left _ _))
    (keeps_mono (raiseFault_keeps s x code) (within_of_subset (by decide) (List.Subset.refl _)))

theorem progError_none (stopped : (s.msq x).running = none) : s.progError x pc code = s := by
  simp only [State.progError, stopped]

theorem progError_some {k : Nat} (run : (s.msq x).running = some k) : s.progError x pc code =
    (((s.squash x (2 ^ 12) false).put (Fld.MSQ_FLTPC_PC x) pc).raise (progFault x code)).leaveRun x k .fault code := by
  simp only [State.progError, run]

theorem progError_keeps : Keeps tripParts (errFields s x) s (s.progError x pc code) := by
  cases run : (s.msq x).running with
  | none =>
    rw [progError_none s x pc code run]
    exact keeps_refl _ _ _
  | some k =>
    rw [progError_some s x pc code run]
    refine keeps_via (faultRun_keeps _ x code k) (within_of_subset (by decide) ?_)
      (keeps_put (within_of_subset (by simp) (by simp [errFields]))
        (keeps_mono (squash_keeps s x _ _) (within_of_subset (List.Subset.refl _) (List.subset_append_left _ _))))
    simp [faultFields, escFields, errFields, squashFields]

end

section
variable {s : State} {x : Act} {k : Nat} (pc code : Nat)

theorem slot_progError (run : (s.msq x).running = some k) : ((s.progError x pc code).msq x).slot k =
    { ((s.squash x (2 ^ 12) false).msq x).slot k with st := .fault, fcode := code } := by
  rw [progError_some s x pc code run, slot_leaveRun, keeps_msq (raiseFault_keeps _ x code) (by decide) x]
  rfl

/-- A field that is a whole register reads back what is written to it. -/
theorem rd_put_whole (s : State) (a v : Nat) : (s.put ⟨a, 0, 32⟩ v).rd a = BitVec.ofNat 32 v := by
  refine (rd_wr s a _).trans (BitVec.eq_of_toNat_eq ?_)
  simp only [wput, nput, nbits, BitVec.toNat_ofNat]
  have := (s.rd a).isLt
  omega

theorem rd_progError (run : (s.msq x).running = some k) :
    (s.progError x pc code).rd (Reg.MSQ_FLTPC x) = BitVec.ofNat 32 pc := by
  rw [progError_some s x pc code run, keeps_rd (faultRun_keeps _ x code k) _ (by decide) (by cases x <;> decide)]
  exact rd_put_whole _ _ pc
end

end Sys2Proof.Proofs
end

section
/-!
PROOFS. The slot commands (R127) and the clearing of MSQx_SLOTDONE (R126).
-/
namespace Sys2Proof.Proofs

open Sys2Proof.Machine Sys2Proof.Safety Sys2Proof.Laws

/-! ### One slot rewritten -/

section
variable (s : State) (x : Act) (k : Nat) (sl : Slot)

theorem slot_setSlotOf : ((s.setSlot x k sl).msq x).slot k = sl := by
  rw [State.setSlot, msq_setMsq, slot_setSlot]

theorem setSlot_keeps {P : List Part} (F : List Field) (msq : within P F [.msq] [] = true) : Keeps P F s (s.setSlot x k sl) :=
  keeps_setMsq msq (keeps_refl _ _ _)
end

/-! ### What each command does -/

/-- An ABORT of a slot in RUN (R127), the mode apart. -/
def abortRun (s : State) (x : Act) (k : Nat) : State :=
  ((s.squash x (2 ^ 11) false).leaveRun x k .free 0).setSlot x k Slot.empty

section
variable {s : State} {x : Act} {k : Nat}

theorem slotCmd_resume (act : s.actOk x = true) (fault : ((s.msq x).slot k).st = .fault) : s.slotCmd x 1 k =
    s.setSlot x k { (s.msq x).slot k with st := .ready, fcode := 0, spec := ((s.msq x).slot k).comm } := by
  simp [State.slotCmd, act, fault]

theorem slotCmd_resume_ignored (other : ((s.msq x).slot k).st ≠ .fault) : s.slotCmd x 1 k = s := by
  simp [State.slotCmd, other]

theorem slotCmd_discard (act : s.actOk x = true) (held : ((s.msq x).slot k).st = .fault ∨ ((s.msq x).slot k).st = .ready) :
    s.slotCmd x 2 k = s.setSlot x k Slot.empty := by
  simp [State.slotCmd, act, held]

theorem slotCmd_discard_ignored (notFault : ((s.msq x).slot k).st ≠ .fault) (notReady : ((s.msq x).slot k).st ≠ .ready) :
    s.slotCmd x 2 k = s := by
  simp [State.slotCmd, notFault, notReady]

theorem slotCmd_abort (act : s.actOk x = true) (held : ((s.msq x).slot k).st = .ready ∨ ((s.msq x).slot k).st = .fault) :
    s.slotCmd x 3 k = s.setSlot x k Slot.empty := by
  rcases held with held | held <;> simp [State.slotCmd, act, held]

theorem slotCmd_abort_run (act : s.actOk x = true) (run : ((s.msq x).slot k).st = .run) : s.slotCmd x 3 k = abortRun s x k := by
  simp [State.slotCmd, act, run, abortRun]

theorem slotCmd_abort_ignored (idle : ((s.msq x).slot k).st = .free ∨ ((s.msq x).slot k).st = .done) : s.slotCmd x 3 k = s := by
  rcases idle with idle | idle <;> simp [State.slotCmd, idle]

/-- A command names its slot by its low four bits. -/
theorem exec_slotResume (slot : k < 16) : exec (.slotResume x k) s = .next (s.slotCmd x 1 k) :=
  congrArg (fun j => Host.Outcome.next (s.slotCmd x 1 j)) (Nat.mod_eq_of_lt slot)

theorem exec_slotDiscard (slot : k < 16) : exec (.slotDiscard x k) s = .next (s.slotCmd x 2 k) :=
  congrArg (fun j => Host.Outcome.next (s.slotCmd x 2 j)) (Nat.mod_eq_of_lt slot)

theorem exec_slotAbort (slot : k < 16) : exec (.slotAbort x k) s = .next (s.slotCmd x 3 k).syncMode :=
  congrArg (fun j => Host.Outcome.next (s.slotCmd x 3 j).syncMode) (Nat.mod_eq_of_lt slot)

theorem exec_slotdoneClear (slot : k < 16) : exec (.slotdoneClear x k) s = .next (s.slotDoneClear x (2 ^ k)) :=
  congrArg (fun j => Host.Outcome.next (s.slotDoneClear x (2 ^ j))) (Nat.mod_eq_of_lt slot)
end

/-! ### ABORT -/

/-- The parts that an ABORT may touch. -/
def abortParts : List Part := [.ang, .ch, .free, .lpe, .mem, .msq, .plk, .rbk, .spn, .sys, .vale, .wrp]

section
variable (s : State) (x : Act) (k : Nat)

theorem abortRun_keeps : Keeps tripParts (squashFields s x) s (abortRun s x k) := by
  have left : Keeps tripParts (squashFields s x) s ((s.squash x (2 ^ 11) false).leaveRun x k .free 0) :=
    keeps_via (leaveRun_keeps _ x k .free 0) (within_of_subset (by decide) (by simp [escFields, squashFields])) (squash_keeps s x _ _)
  exact keeps_setMsq (within_nil rfl) left

/-- The mode follows an ABORT (R748). -/
theorem abort_keeps {t : State} (kept : Keeps tripParts (squashFields s x) s t) :
    Keeps abortParts (modeFields ++ squashFields s x) s t.syncMode :=
  keeps_via (syncMode_keeps t) (within_of_subset (by decide) (List.subset_append_left _ _))
    (keeps_mono kept (within_of_subset (by decide) (List.subset_append_right _ _)))

theorem slot_syncMode : (s.syncMode.msq x).slot k = (s.msq x).slot k := by
  rw [keeps_msq (syncMode_keeps s) (by decide) x]

/-- An ABORT that only rewrites its slot (R127). -/
theorem abort_setSlot : ((s.setSlot x k Slot.empty).syncMode.msq x).slot k = Slot.empty ∧
    Keeps abortParts (modeFields ++ squashFields s x) s (s.setSlot x k Slot.empty).syncMode :=
  ⟨(slot_syncMode _ x k).trans (slot_setSlotOf s x k _), abort_keeps s x (setSlot_keeps s x k _ _ (within_nil rfl))⟩

/-- An ABORT of a slot in RUN (R127). -/
theorem abort_run : ((abortRun s x k).syncMode.msq x).slot k = Slot.empty ∧
    Keeps abortParts (modeFields ++ squashFields s x) s (abortRun s x k).syncMode :=
  ⟨(slot_syncMode _ x k).trans (slot_setSlotOf _ x k _), abort_keeps s x (abortRun_keeps s x k)⟩
end

section
variable {s : State} {x : Act} {k : Nat}

/-- The squash of the slot in RUN stays on record in MSQx_EV_SQUASH. -/
theorem flag_abortRun (run : (s.msq x).running = some k) (go : (s.msq x).sqWait = false) :
    (abortRun s x k).flag (Fld.MSQ_EV_SQUASH x) = true := by
  have left : Keeps [.msq, .rbk, .sys] (escFields x) (s.squash x (2 ^ 11) false) (abortRun s x k) :=
    keeps_setMsq (within_nil rfl) (leaveRun_keeps _ x k .free 0)
  rw [keeps_flag left _ (by decide) (by cases x <;> decide), flag_squash run go]
end

/-! ### MSQx_SLOTDONE (R126) -/

/-- A slot in DONE that is named once in the list is FREE at its end. -/
theorem slot_foldl_clear {s : State} {x : Act} {k : Nat} {l : List Nat}
    (named : k ∈ l ∧ ((s.msq x).slot k).st = .done ∨ (s.msq x).slot k = Slot.empty) :
    ((l.foldl (fun t i => if (2 ^ k).testBit i && ((t.msq x).slot i).st == .done then t.setSlot x i Slot.empty else t) s).msq x).slot k =
      Slot.empty := by
  induction l generalizing s with
  | nil => simpa using named
  | cons i l ih =>
    refine ih ?_
    by_cases here : i = k
    · subst here
      right
      beta_reduce
      split
      case isTrue => exact slot_setSlotOf s x i _
      case isFalse kept =>
        rcases named with ⟨-, done⟩ | empty
        · simp [done] at kept
        · exact empty
    · have other : (2 ^ k).testBit i = false := Nat.testBit_two_pow_of_ne (Ne.symm here)
      simp only [other, Bool.false_and, Bool.false_eq_true, if_false]
      exact named.imp_left fun ⟨mem, done⟩ => ⟨(List.mem_cons.1 mem).resolve_left (Ne.symm here), done⟩

theorem slotDoneClear_keeps (s : State) (x : Act) (bits : Nat) : Keeps [.msq] [] s (s.slotDoneClear x bits) :=
  keeps_foldl (fun t i => keeps_ite (setSlot_keeps t x i _ _ (within_nil rfl)) (keeps_refl _ _ _)) (keeps_refl _ _ _)

/-- Settles O9: a command rewrites its slot where its state is one that the command acts on, and leaves the state alone otherwise; an
ABORT of a slot in RUN is a squash and the slot's leaving. -/
theorem slotCommands : Obligations.SlotCommands := by
  unfold Obligations.SlotCommands
  refine ⟨?resume, ?resumeOther, ?discardFault, ?discardReady, ?abortReady, ?discardOther, ?abortFault, ?abortOther, ?abortRunning,
    ?abortRun, ?clear⟩
  case resume =>
    exact fun s x k act slot fault => ⟨_, (exec_slotResume slot).trans (congrArg _ (slotCmd_resume act fault)), slot_setSlotOf s x k _,
      setSlot_keeps s x k _ _ (within_nil rfl)⟩
  case resumeOther => exact fun s x k slot other => (exec_slotResume slot).trans (congrArg _ (slotCmd_resume_ignored other))
  case discardFault =>
    exact fun s x k act slot fault => ⟨_, (exec_slotDiscard slot).trans (congrArg _ (slotCmd_discard act (.inl fault))),
      slot_setSlotOf s x k _, setSlot_keeps s x k _ _ (within_nil rfl)⟩
  case discardReady =>
    exact fun s x k act slot ready => ⟨_, (exec_slotDiscard slot).trans (congrArg _ (slotCmd_discard act (.inr ready))),
      slot_setSlotOf s x k _, setSlot_keeps s x k _ _ (within_nil rfl)⟩
  case discardOther =>
    exact fun s x k slot notFault notReady => (exec_slotDiscard slot).trans (congrArg _ (slotCmd_discard_ignored notFault notReady))
  case abortReady =>
    intro s x k act slot ready
    rw [exec_slotAbort slot, slotCmd_abort act (.inl ready)]
    exact ⟨_, rfl, abort_setSlot s x k⟩
  case abortFault =>
    intro s x k act slot fault
    rw [exec_slotAbort slot, slotCmd_abort act (.inr fault)]
    exact ⟨_, rfl, abort_setSlot s x k⟩
  case abortOther =>
    intro s x k slot idle
    rw [exec_slotAbort slot, slotCmd_abort_ignored idle]
    exact ⟨_, rfl, slot_syncMode s x k, abort_keeps s x (keeps_refl _ _ _)⟩
  case abortRunning =>
    intro s x k act slot run go st
    rw [exec_slotAbort slot, slotCmd_abort_run act st]
    obtain ⟨empty, kept⟩ := abort_run s x k
    refine ⟨_, rfl, empty, ?_, kept⟩
    rw [keeps_flag (syncMode_keeps _) _ (by decide) (by cases x <;> decide), flag_abortRun run go]
  case abortRun =>
    intro s x k act slot st
    rw [exec_slotAbort slot, slotCmd_abort_run act st]
    exact ⟨_, rfl, abort_run s x k⟩
  case clear =>
    intro s x k slot done
    exact ⟨_, exec_slotdoneClear slot, slot_foldl_clear (.inl ⟨List.mem_range.2 slot, done⟩), slotDoneClear_keeps s x _⟩

end Sys2Proof.Proofs
end

section
/-!
PROOFS. What ends the instructions in progress (R142 to R147, R159, R171, R172, R184), with no other in the work list.
-/
namespace Sys2Proof.Proofs

open Sys2Proof.Machine Sys2Proof.Safety Sys2Proof.Laws

/-! ### Frames -/

section
variable {P : List Part} {F : List Field} {s t : State} {x : Act}

/-- The loops of an actuator are as they were where the frame leaves LPE alone. -/
theorem keeps_la (k : Keeps P F s t) (h : Part.lpe ∉ P) (x : Act) : t.la x = s.la x := by
  have same : t.lpe = s.lpe := k.part .lpe (by decide) h
  cases x
  · exact congrArg LpeSt.a same
  · exact congrArg LpeSt.b same

theorem loaded_setLoaded (s : State) (x : Act) (v : Bool) : (s.setLoaded x v).loaded x = v := by
  cases x <;> rfl

/-- Whether heads are loaded is as it was where the frame leaves the drive's own state alone. -/
theorem keeps_loaded (k : Keeps P F s t) (h : Part.sys ∉ P) (x : Act) : t.loaded x = s.loaded x := by
  have same : t.sys = s.sys := keeps_sys k h
  cases x
  · exact congrArg SysSt.loadedA same
  · exact congrArg SysSt.loadedB same

theorem loaded_syncMode (s : State) (x : Act) : s.syncMode.loaded x = s.loaded x := by
  obtain ⟨active, idle, same⟩ := syncMode_sys s
  cases x
  · exact (congrArg SysSt.loadedA same).trans rfl
  · exact (congrArg SysSt.loadedB same).trans rfl

theorem ch_setCh (s : State) (n : Chan) (c : ChanSt) : (s.setCh n c).ch n = c := by
  induction n using chan_cases <;> rfl

theorem keeps_sample {i b c : Nat} {v : Int} (w : within P F [.rbk] [] = true) (h : Keeps P F s t) : Keeps P F s (t.sample i b v c) := by
  unfold State.sample
  exact keeps_ite (keeps_set_rbk w h) (keeps_set_rbk w h)

/-- The parts that the end of an instruction may touch. -/
def doneParts : List Part := [.ang, .ch, .lpe, .mem, .msq, .plk, .rbk, .spn, .sys, .vale, .wrp]

/-- The mode follows the end of an instruction (R748). -/
theorem done_keeps (kept : Keeps P F s t) (parts : P ⊆ doneParts) (fields : F ⊆ advFields s x) :
    Keeps doneParts (advFields s x ++ modeFields) s t.syncMode :=
  keeps_via (syncMode_keeps t) (within_of_subset (by decide) (List.subset_append_right _ _))
    (keeps_mono kept (within_of_subset parts (List.Subset.trans fields (List.subset_append_left _ _))))

theorem errFields_subset_adv (s : State) (x : Act) : errFields s x ⊆ advFields s x := by
  intro f err
  simp [advFields, err]

theorem loopFields_subset_adv (s : State) (x : Act) : loopFields ⊆ advFields s x := by
  intro f loop
  simp [advFields, loop]
end

/-! ### Positioning (R142, R159) -/

/-- The state with the one item of the work list done. -/
def finished (s : State) (x : Act) (w : Work) : State :=
  s.setMsq x { s.msq x with work := [{ w with done := true, doneAt := s.ang.ats }] }

section
variable {s : State} {x : Act} {w : Work}

theorem work_finished (s : State) (x : Act) (w : Work) :
    ((finished s x w).msq x).work = [{ w with done := true, doneAt := s.ang.ats }] := by
  rw [finished, msq_setMsq]

theorem quiet_finished (begun : w.begun = true) (free : (s.msq x).wait = none) : Quiet (finished s x w) x :=
  ⟨by simp [work_finished, begun], by rw [finished, msq_setMsq]; exact free⟩

theorem finished_keeps (s : State) (x : Act) (w : Work) : Keeps [.msq] [] s (finished s x w) := keeps_setMsq (by decide) (keeps_refl _ _ _)

theorem exec_positioningComplete {wk : WorkKind} (only : (s.msq x).work = [w]) (kind : w.kind = wk) (pos : wk.isPos = true)
    (begun : w.begun = true) (open_ : w.done = false) (met : s.posSettled x wk = true) : exec (.positioningComplete x) s =
      .next (((finished s x w).positionDone x wk).advance x).syncMode := by
  change execPositioningComplete x s = _
  simp [execPositioningComplete, only, kind, pos, begun, open_, met, updFirst, finished]

theorem exec_positioningComplete_unsettled {wk : WorkKind} (only : (s.msq x).work = [w]) (kind : w.kind = wk) (pos : wk.isPos = true)
    (begun : w.begun = true) (open_ : w.done = false) (unmet : s.posSettled x wk = false) :
    exec (.positioningComplete x) s = .next s := by
  change execPositioningComplete x s = _
  simp [execPositioningComplete, only, kind, pos, begun, open_, unmet]

/-- The end of an instruction that leaves the sequencers to themselves: the item is done, and nothing follows. -/
theorem advance_positionDone {P : List Part} {F : List Field} {t : State} (kept : Keeps P F (finished s x w) t) (others : Part.msq ∉ P)
    (begun : w.begun = true) (free : (s.msq x).wait = none) : t.advance x = t :=
  ((quiet_finished begun free).of_same (by rw [keeps_msq kept others]) (by rw [keeps_msq kept others])).advance

theorem positionDone_seek_keeps (s : State) (x : Act) (c u v : Nat) : Keeps [.rbk] [] s (s.positionDone x (.seek c u v)) :=
  keeps_sample (within_nil rfl) (keeps_refl _ _ _)

theorem setRegion_keeps (s : State) (x : Act) (r : Nat) : Keeps [.lpe] loopFields s (s.setRegion x r) :=
  keeps_put (by cases x <;> decide) (keeps_ite (keeps_setLa (within_nil rfl) (keeps_refl _ _ _)) (keeps_refl _ _ _))

theorem loading_setRegion (s : State) (x : Act) (r : Nat) : ((s.setRegion x r).la x).loading = (s.la x).loading := by
  have region (t : State) : Keeps [] loopFields t (t.put (lpeRegion x) r) := keeps_put (by cases x <;> decide) (keeps_refl _ _ _)
  rw [State.setRegion, keeps_la (region _) (by decide)]
  split
  · rw [la_setLa]
  · rfl

theorem positionDone_loadh_keeps (s : State) (x : Act) : Keeps [.lpe, .rbk, .sys] loopFields s (s.positionDone x .loadh) :=
  keeps_count (within_nil rfl) (keeps_via (setRegion_keeps _ x 2) (by decide) (keeps_putb (by cases x <;> decide)
    (keeps_setLoaded (within_nil rfl) (keeps_setLa (within_nil rfl) (keeps_refl _ _ _)))))

/-- A LOADH leaves the heads loaded and nothing loading (R159, R195). -/
theorem positionDone_loadh (s : State) (x : Act) :
    (s.positionDone x .loadh).loaded x = true ∧ ((s.positionDone x .loadh).la x).loading = false := by
  have counted (t : State) : Keeps [.rbk] [] t (t.count (2 + x.idx) 1) := keeps_count (by decide) (keeps_refl _ _ _)
  have searched (t : State) : Keeps [] loopFields t (t.putb (lpeSearch x) false) := keeps_putb (by cases x <;> decide) (keeps_refl _ _ _)
  constructor
  · exact (keeps_loaded (counted _) (by decide) x).trans ((keeps_loaded (setRegion_keeps _ x 2) (by decide) x).trans
      ((keeps_loaded (searched _) (by decide) x).trans (loaded_setLoaded _ x true)))
  · have loads (t : State) : (t.setLoaded x true).la x = t.la x := by cases x <;> rfl
    refine (congrArg LpeAct.loading (keeps_la (counted _) (by decide) x)).trans ((loading_setRegion _ x 2).trans ?_)
    rw [keeps_la (searched _) (by decide), loads, la_setLa]

/-- A LOADH or SEEK that is over is done in the work list, and the mode follows. -/
theorem positioned {t : State} (kept : Keeps [.lpe, .rbk, .sys] loopFields (finished s x w) t) :
    (t.syncMode.msq x).work = [{ w with done := true, doneAt := s.ang.ats }] ∧
      Keeps doneParts (advFields s x ++ modeFields) s t.syncMode := by
  constructor
  · rw [keeps_msq (syncMode_keeps t) (by decide), keeps_msq kept (by decide), work_finished]
  · exact done_keeps (P := [.lpe, .msq, .rbk, .sys]) (keeps_trans (keeps_mono (finished_keeps s x w) (within_nil rfl))
      (keeps_mono kept (within_of_subset (by decide) (List.Subset.refl _)))) (by decide) (loopFields_subset_adv s x)
end

/-! ### Media instructions and heaters (R113, R142, R324) -/

section
variable {s : State} {x : Act} {second : Bool} {ord k : Nat} {w : Work} {r : MediaRun}

/-- The oldest instruction of a channel has begun. -/
theorem begun_of_oldestOn (only : (s.msq x).work = [w]) (oldest : s.oldestOn x second = some (0, ord)) : w.begun = true := by
  cases begun : w.begun with
  | true => rfl
  | false => simp [State.oldestOn, only, Work.onChan, begun] at oldest

theorem clockFails_of_bclkOk {n : Chan} (clock : s.bclkOk n = true) : s.clockFails n ord r = s := by
  simp [State.clockFails, clock]

theorem msq_channelEnd (s : State) (n : Chan) (ord : Nat) (r : MediaRun) : (s.channelEnd n ord r).2.msq x = s.msq x :=
  keeps_msq (P := [.ch]) (R := []) (keeps_setCh (by decide) (keeps_refl _ _ _)) (by decide) x

/-- The one media instruction of the work list, ended on a channel (R113, R142): its flags are in the slot, and it is done with its last
channel. -/
def mediaEnded (s : State) (x : Act) (second : Bool) (k ord : Nat) (r : MediaRun) (w : Work) : State :=
  let t := (s.channelEnd (chanOf x second) ord r).2
  let a := ((s.msq x).slot k).spec
  t.setMsq x (Msq.setSpec { s.msq x with
    work := [{ w with done := w.done || t.endedOn x 0 false && t.endedOn x 0 true, doneAt := s.ang.ats }]
    micro := { (s.msq x).micro with events := (s.msq x).micro.events ||| (if second then 4 else 2) } } k
    { a with flags := a.flags ||| (s.channelEnd (chanOf x second) ord r).1 })

theorem exec_mediaComplete (run : (s.msq x).running = some k) (oldest : s.oldestOn x second = some (0, ord)) (only : (s.msq x).work = [w])
    (media : w.kind = .media r) (op : r.op ≠ .scan) (clock : s.bclkOk (chanOf x second) = true)
    (quiet : s.channelQuiet (chanOf x second) ord r = true) : exec (.mediaInstructionComplete x second) s =
      .next ((mediaEnded s x second k ord r w).advance x).syncMode := by
  change execMediaInstructionComplete x second s = _
  obtain ⟨kind⟩ := w
  subst media
  simp [execMediaInstructionComplete, run, oldest, only, quiet, clockFails_of_bclkOk clock, op, mediaEnded, msq_channelEnd, endAt,
    Msq.slot]

theorem exec_mediaComplete_busy (run : (s.msq x).running = some k) (oldest : s.oldestOn x second = some (0, ord))
    (only : (s.msq x).work = [w]) (media : w.kind = .media r) (busy : s.channelQuiet (chanOf x second) ord r = false) :
    exec (.mediaInstructionComplete x second) s = .next s := by
  change execMediaInstructionComplete x second s = _
  obtain ⟨kind⟩ := w
  subst media
  simp [execMediaInstructionComplete, run, oldest, only, busy]

/-- What CHGO started ends with no slot in RUN. -/
theorem exec_mediaComplete_stopped (stopped : (s.msq x).running = none) : exec (.mediaInstructionComplete x second) s =
    .next (s.setCh (chanOf x second) { s.ch (chanOf x second) with op := 0 }) := by
  change execMediaInstructionComplete x second s = _
  simp [execMediaInstructionComplete, stopped]

theorem quiet_mediaEnded (begun : w.begun = true) (free : (s.msq x).wait = none) : Quiet (mediaEnded s x second k ord r w) x := by
  constructor
  · simp [mediaEnded, Msq.setSpec, Msq.setSlot, begun]
  · rw [mediaEnded, msq_setMsq]
    exact free

theorem mediaEnded_keeps (s : State) (x : Act) (second : Bool) (k ord : Nat) (r : MediaRun) (w : Work) :
    Keeps [.ch, .msq] [] s (mediaEnded s x second k ord r w) :=
  keeps_setMsq (by decide) (keeps_setCh (by decide) (keeps_refl _ _ _))

theorem flags_mediaEnded (s : State) (x : Act) (second : Bool) (k ord : Nat) (r : MediaRun) (w : Work) :
    (((mediaEnded s x second k ord r w).msq x).slot k).spec.flags =
      ((s.msq x).slot k).spec.flags ||| (s.channelEnd (chanOf x second) ord r).1 := by
  rw [mediaEnded, msq_setMsq, slot_setSpec]

/-- The end of a channel's operation is an event of the microroutines (R239). -/
theorem events_mediaEnded (s : State) (x : Act) (second : Bool) (k ord : Nat) (r : MediaRun) (w : Work) :
    ((mediaEnded s x second k ord r w).msq x).micro.events.testBit (if second then 2 else 1) = true := by
  rw [mediaEnded, msq_setMsq]
  change ((s.msq x).micro.events ||| (if second then 4 else 2)).testBit (if second then 2 else 1) = true
  have set : (if second then 4 else 2).testBit (if second then 2 else 1) = true := by cases second <;> rfl
  rw [Nat.testBit_or, set, Bool.or_true]

/-- A settled heater ends its HEAT, the one item of the work list (R324). -/
theorem exec_heaterSettled {q : Nat} {p : Option Nat} (only : (s.msq x).work = [w]) (kind : w.kind = .heat (2 ^ b2n second) q p)
    (begun : w.begun = true) (open_ : w.done = false) (applied : w.qmet = false) : exec (.heaterSettled x second) s =
      .next ((finished s x w).advance x).syncMode := by
  have own : inMask (WorkKind.heat (2 ^ b2n second) q p).chs second = true := by simp [WorkKind.chs, inMask]
  change execHeaterSettled x second s = _
  simp [execHeaterSettled, only, updFirst, kind, begun, open_, applied, own, Work.heaterDone, finished]
end

/-! ### BIND and the timeouts (R146, R147, R172, R184, R250) -/

section
variable {s : State} {x : Act} {k pc code : Nat}

/-- The state with a confirmed BIND (R172). -/
def bound (s : State) (x : Act) (k n : Nat) : State :=
  (s.setMsq x { (s.msq x).setSpec k { ((s.msq x).slot k).spec with ctx := n } with
    wait := none, micro := { (s.msq x).micro with events := (s.msq x).micro.events ||| 64 } }).selectKey x n

theorem msq_bound (s : State) (x : Act) (k n : Nat) : (bound s x k n).msq x =
    { (s.msq x).setSpec k { ((s.msq x).slot k).spec with ctx := n } with
      wait := none, micro := { (s.msq x).micro with events := (s.msq x).micro.events ||| 64 }, keySlot := s.keyOf n } := by
  rw [bound, State.selectKey, msq_setMsq, msq_setMsq]
  cases x <;> rfl

theorem exec_ccxBindConfirm {n : Nat} (run : (s.msq x).running = some k) (held : (s.msq x).wait = some (.bind n))
    (confirmed : s.bindOk x n = true) : exec (.ccxBindConfirm x) s = .next ((bound s x k n).advance x) := by
  change execCcxBindConfirm x s = _
  simp only [execCcxBindConfirm, run, held, confirmed, if_true, bound]

theorem exec_ccxBindConfirm_refused {n : Nat} (run : (s.msq x).running = some k) (held : (s.msq x).wait = some (.bind n))
    (refused : s.bindOk x n = false) : exec (.ccxBindConfirm x) s =
      .next (s.progError x ((((s.msq x).slot k).spec.pc + 2 ^ 32 - 8) % 2 ^ 32) errCtx).syncMode := by
  change execCcxBindConfirm x s = _
  simp only [execCcxBindConfirm, run, held, refused, Bool.false_eq_true, if_false]

/-- The state with a WAITE whose timeout has passed (R147). -/
def timedOut (s : State) (x : Act) (k p : Nat) : State :=
  (s.setSpec x k (((s.msq x).slot k).spec.setReg p 0#32)).endWait x

theorem msq_timedOut (s : State) (x : Act) (k p : Nat) : (timedOut s x k p).msq x =
    { (s.msq x).setSpec k (((s.msq x).slot k).spec.setReg p 0#32) with wait := none } := by
  rw [timedOut, msq_endWait, msq_setSpec]

theorem exec_waiteTimeout {ev p tmo at_ : Nat} (run : (s.msq x).running = some k) (held : (s.msq x).wait = some (.waite ev p tmo at_))
    (limited : tmo ≠ 0) (turning : s.wedgePeriod ≠ 0) (expired : at_ + tmo * s.wedgePeriod ≤ s.now) :
    exec (.waiteTimeout x) s = .next ((timedOut s x k p).advance x) := by
  change execWaiteTimeout x s = _
  simp only [execWaiteTimeout, run, held, limited, turning, Nat.not_lt.2 expired, or_self, if_false, timedOut, State.setSpec]

theorem exec_waiteTimeout_early {ev p tmo at_ : Nat} (run : (s.msq x).running = some k)
    (held : (s.msq x).wait = some (.waite ev p tmo at_)) (early : s.now < at_ + tmo * s.wedgePeriod) :
    exec (.waiteTimeout x) s = .next s := by
  change execWaiteTimeout x s = _
  simp only [execWaiteTimeout, run, held, early, or_true, if_true]

theorem exec_waitaTimeout {ang ats : Nat} {cmp : Option Nat} (run : (s.msq x).running = some k)
    (held : (s.msq x).wait = some (.waita ang cmp ats)) (expired : s.get (Fld.MSQ_TMO_WAITA_REV x) * 2 ^ 32 ≤ s.atsSince ats) :
    exec (.waitaTimeout x) s = .next (s.progError x ((((s.msq x).slot k).spec.pc + 2 ^ 32 - 8) % 2 ^ 32) errWaita) := by
  change execWaitaTimeout x s = _
  simp only [execWaitaTimeout, run, held, Nat.not_lt.2 expired, if_false]

theorem exec_waitaTimeout_early {ang ats : Nat} {cmp : Option Nat} (run : (s.msq x).running = some k)
    (held : (s.msq x).wait = some (.waita ang cmp ats)) (early : s.atsSince ats < s.get (Fld.MSQ_TMO_WAITA_REV x) * 2 ^ 32) :
    exec (.waitaTimeout x) s = .next s := by
  change execWaitaTimeout x s = _
  simp only [execWaitaTimeout, run, held, early, if_true]

theorem exec_slotTimeout (run : (s.msq x).running = some k)
    (expired : s.get (Fld.MSQ_TMO_SLOT_REV x) * 2 ^ 32 ≤ s.atsSince (s.msq x).lastCommitAts) :
    exec (.slotTimeout x) s = .next (s.progError x ((s.msq x).slot k).spec.pc errSlotTmo) := by
  change execSlotTimeout x s = _
  simp only [execSlotTimeout, run, Nat.not_lt.2 expired, if_false]

theorem exec_stepLimit (run : (s.msq x).running = some k) (on : (s.msq x).micro.on = true)
    (expired : s.eff (byAct x Fld.UCS_USTEP_MAXA Fld.UCS_USTEP_MAXB) ≤ (s.msq x).micro.steps) :
    exec (.stepLimit x) s = .next (s.progError x (s.msq x).micro.tpc errStep) := by
  change execStepLimit x s = _
  simp [execStepLimit, run, on, expired]

/-- A program error of the slot in RUN leaves it in FAULT with its code and address (R183). -/
theorem progError_faulted (run : (s.msq x).running = some k) : (((s.progError x pc code).msq x).slot k).st = .fault ∧
    (((s.progError x pc code).msq x).slot k).fcode = code ∧ (s.progError x pc code).rd (Reg.MSQ_FLTPC x) = BitVec.ofNat 32 pc ∧
    Keeps tripParts (errFields s x) s (s.progError x pc code) := by
  rw [slot_progError _ _ run]
  exact ⟨rfl, rfl, rd_progError _ _ run, progError_keeps s x pc code⟩
end

/-- Settles O22: each end marks its item done or ends its wait, after which nothing goes on; a limit that is exceeded, and a BIND that CCX
refuses, is a program error. -/
theorem workCompletes : Obligations.WorkCompletes := by
  unfold Obligations.WorkCompletes
  refine ⟨?loadh, ?seek, ?unsettled, ?media, ?mediaHeld, ?mediaIdle, ?heat, ?bind, ?bindRefused, ?waite, ?waiteEarly, ?waita, ?waitaEarly,
    ?slot, ?step⟩
  case loadh =>
    intro s x w only free _ kind begun open_
    have kept := positionDone_loadh_keeps (finished s x w) x
    obtain ⟨loaded, still⟩ := positionDone_loadh (finished s x w) x
    obtain ⟨work, frame⟩ := positioned kept
    rw [exec_positioningComplete only kind rfl begun open_ rfl, advance_positionDone kept (by decide) begun free]
    refine ⟨_, rfl, ?_, ?_, work, frame⟩
    · rw [loaded_syncMode, loaded]
    · rw [keeps_la (syncMode_keeps _) (by decide), still]
  case seek =>
    intro s x w c u v only free kind begun open_ settled
    have kept := positionDone_seek_keeps (finished s x w) x c u v
    rw [exec_positioningComplete only kind rfl begun open_ settled, advance_positionDone kept (by decide) begun free]
    exact ⟨_, rfl, positioned (keeps_mono kept (within_nil rfl))⟩
  case unsettled =>
    exact fun s x w c wr only kind begun open_ unsettled => exec_positioningComplete_unsettled only kind rfl begun open_ unsettled
  case media =>
    intro s x second k ord r w run oldest only media op clock free quiet
    have settled := (quiet_mediaEnded (second := second) (k := k) (ord := ord) (r := r) (begun_of_oldestOn only oldest) free).advance
    rw [exec_mediaComplete run oldest only media op clock quiet, settled]
    refine ⟨_, rfl, ?_, ?_, ?_⟩
    · rw [keeps_msq (syncMode_keeps _) (by decide), flags_mediaEnded]
    · rw [keeps_msq (syncMode_keeps _) (by decide), events_mediaEnded]
    · exact keeps_via (syncMode_keeps _) (within_of_subset (by decide) (by intro f mode; simp [mode]))
        (keeps_mono (mediaEnded_keeps s x second k ord r w) (within_nil rfl))
  case mediaHeld => exact fun s x second k ord r w run oldest only media busy => exec_mediaComplete_busy run oldest only media busy
  case mediaIdle =>
    exact fun s x second stopped => ⟨_, exec_mediaComplete_stopped stopped, by rw [ch_setCh],
      keeps_setCh (within_nil rfl) (keeps_refl _ _ _)⟩
  case heat =>
    rintro s x second w _ q p only free kind rfl begun open_ applied
    rw [exec_heaterSettled only kind begun open_ applied, (quiet_finished begun free).advance]
    exact ⟨_, rfl, positioned (keeps_refl _ _ _)⟩
  case bind =>
    intro s x k n run held confirmed idle
    have quiet : Quiet (bound s x k n) x := quiet_of_empty (by rw [msq_bound]; exact idle) (by rw [msq_bound])
    rw [exec_ccxBindConfirm run held confirmed, quiet.advance]
    refine ⟨_, rfl, ?_, ?_, ?_, ?_, keeps_setMsq (within_nil rfl) (keeps_setMsq (within_nil rfl) (keeps_refl _ _ _))⟩
    · rw [msq_bound]
      exact congrArg Slot.spec (slot_setSpec _ k _)
    all_goals rw [msq_bound]
  case bindRefused =>
    intro s x k n run held refused
    obtain ⟨st, fcode, -, kept⟩ := progError_faulted (pc := (((s.msq x).slot k).spec.pc + 2 ^ 32 - 8) % 2 ^ 32) (code := errCtx) run
    refine ⟨_, exec_ccxBindConfirm_refused run held refused, ?_, ?_, done_keeps kept (by decide) (errFields_subset_adv s x)⟩
    · rw [slot_syncMode, st]
    · rw [slot_syncMode, fcode]
  case waite =>
    intro s x k ev p tmo at_ run held limited turning expired idle
    have quiet : Quiet (timedOut s x k p) x := quiet_of_empty (by rw [msq_timedOut]; exact idle) (by rw [msq_timedOut])
    rw [exec_waiteTimeout run held limited turning expired, quiet.advance]
    refine ⟨_, rfl, ?_, ?_, keeps_setMsq (within_nil rfl) (keeps_setMsq (within_nil rfl) (keeps_refl _ _ _))⟩
    · rw [msq_timedOut]
      exact congrArg Slot.spec (slot_setSpec _ k _)
    · rw [msq_timedOut]
  case waiteEarly => exact fun s x k ev p tmo at_ run held early => exec_waiteTimeout_early run held early
  case waita =>
    exact fun s x k ang cmp ats run held expired => ⟨_, exec_waitaTimeout run held expired, progError_faulted run⟩
  case waitaEarly => exact fun s x k ang cmp ats run held early => exec_waitaTimeout_early run held early
  case slot => exact fun s x k run expired => ⟨_, exec_slotTimeout run expired, progError_faulted run⟩
  case step => exact fun s x k run on expired => ⟨_, exec_stepLimit run on expired, progError_faulted run⟩

end Sys2Proof.Proofs
end

section
/-!
PROOFS. The wedge check (R193 to R200): the settings of a wedge boundary, a check that passes with its commits, and one that fails.
-/
namespace Sys2Proof.Proofs

open Sys2Proof.Machine Sys2Proof.Safety Sys2Proof.Laws

/-! ### The settings of a wedge boundary (R171, R325, R733) -/

@[simp] theorem slots_setPos (m : Msq) (second : Bool) (p : ChPos) : (m.setPos second p).slots = m.slots := by
  cases second <;> rfl

@[simp] theorem sqWait_setPos (m : Msq) (second : Bool) (p : ChPos) : (m.setPos second p).sqWait = m.sqWait := by
  cases second <;> rfl

section
variable (s : State) (x : Act)

/-- HEAT and ASSIST settings leave a sequencer's slots and the hold of a squash as they are. -/
theorem applyAssist_slots :
    ((s.applyAssist x).msq x).slots = (s.msq x).slots ∧ ((s.applyAssist x).msq x).sqWait = (s.msq x).sqWait := by
  refine List.foldlRecOn (motive := fun t : State => (t.msq x).slots = (s.msq x).slots ∧ (t.msq x).sqWait = (s.msq x).sqWait)
    _ _ ⟨rfl, rfl⟩ ?_
  intro t same w _
  have msqOf (u : State) (v : WrpSt) : (u.setWrp x v).msq x = u.msq x := by cases x <;> rfl
  dsimp only
  split
  · exact same
  · split
    case h_1 | h_2 =>
      simp only [msqOf, msq_setMsq, apply_ite Msq.slots, apply_ite Msq.sqWait, slots_setPos, sqWait_setPos, ite_self, same, and_self]
    case h_3 => exact same

/-- A boundary makes no setting where the work list holds media instructions and commits alone. -/
theorem applyAssist_none (only : ∀ w ∈ (s.msq x).work, w.kind.isMedia = true ∨ w.kind.isCommit = true) : s.applyAssist x = s := by
  refine List.foldlRecOn (motive := fun t : State => t = s) _ _ rfl ?_
  intro t same w mem
  dsimp only
  split
  · exact same
  · split
    case h_1 kind | h_2 kind => simpa [kind, WorkKind.isMedia, WorkKind.isCommit] using only w mem
    case h_3 => exact same

theorem heatSample_keeps (second : Bool) : Keeps [.ch] [] s (s.heatSample x second) := by
  unfold State.heatSample
  extract_lets p
  split
  · exact keeps_ite (keeps_refl _ _ _) (keeps_setCh (by decide) (keeps_refl _ _ _))
  · exact keeps_refl _ _ _

theorem wedgeSettings_keeps : Keeps [.wrp] [] s (s.wedgeSettings x) := keeps_setWrp (by decide) (keeps_refl _ _ _)

theorem wedgeWrite_keeps : Keeps [.ch, .wrp] [] ((s.wedgeSettings x).applyAssist x) (s.wedgeWrite x) := by
  have heated : Keeps [.ch, .wrp] [] ((s.wedgeSettings x).applyAssist x) (((s.wedgeSettings x).applyAssist x).setHeaters x) :=
    keeps_setWrp (by decide) (keeps_refl _ _ _)
  exact keeps_via (heatSample_keeps _ x true) (by decide) (keeps_via (heatSample_keeps _ x false) (by decide)
    (keeps_ite (keeps_restLasers (by decide) heated) heated))

/-- What every wedge check does before its outcome (R195, R226): the boundary's settings and the moment of the check. -/
def wedgeChecked : State :=
  let t := (s.clearTripped x).wedgeWrite x
  t.setMsq x { t.msq x with checkAt := s.now }

/-- The sequencer just before the settings of the boundary. -/
theorem msq_clearTripped_wedgeSettings : ((s.clearTripped x).wedgeSettings x).msq x = s.msq x :=
  (keeps_msq (wedgeSettings_keeps _ x) (by decide) x).trans
    (keeps_msq (P := [.wrp]) (R := []) (keeps_setWrp (by decide) (keeps_refl _ _ _)) (by decide) x)

theorem running_wedgeChecked : ((wedgeChecked s x).msq x).running = (s.msq x).running := by
  have slots : ((wedgeChecked s x).msq x).slots = (s.msq x).slots := by
    rw [wedgeChecked, msq_setMsq]
    refine (congrArg Msq.slots (keeps_msq (wedgeWrite_keeps _ x) (by decide) x)).trans ?_
    rw [(applyAssist_slots _ x).1, msq_clearTripped_wedgeSettings]
  simp only [Msq.running, Msq.slot, slots]

theorem sqWait_wedgeChecked : ((wedgeChecked s x).msq x).sqWait = (s.msq x).sqWait := by
  rw [wedgeChecked, msq_setMsq]
  refine (congrArg Msq.sqWait (keeps_msq (wedgeWrite_keeps _ x) (by decide) x)).trans ?_
  rw [(applyAssist_slots _ x).2, msq_clearTripped_wedgeSettings]

theorem msq_wedgeChecked (only : ∀ w ∈ (s.msq x).work, w.kind.isMedia = true ∨ w.kind.isCommit = true) :
    (wedgeChecked s x).msq x = { s.msq x with checkAt := s.now } := by
  have settled : ((s.clearTripped x).wedgeWrite x).msq x = s.msq x := by
    rw [keeps_msq (wedgeWrite_keeps _ x) (by decide) x, applyAssist_none _ x (by rw [msq_clearTripped_wedgeSettings]; exact only),
      msq_clearTripped_wedgeSettings]
  rw [wedgeChecked, msq_setMsq, settled]

/-- A check that passes moves the angular commit point (R191). -/
def wedgePassed (wedge : Nat) : State :=
  (wedgeChecked s x).setMsq x { (wedgeChecked s x).msq x with acp := some wedge, wgPassed := true }

theorem msq_wedgePassed (wedge : Nat) (only : ∀ w ∈ (s.msq x).work, w.kind.isMedia = true ∨ w.kind.isCommit = true) :
    (wedgePassed s x wedge).msq x = { s.msq x with checkAt := s.now, acp := some wedge, wgPassed := true } := by
  rw [wedgePassed, msq_setMsq, msq_wedgeChecked s x only]

/-- The ATS of a wedge boundary that has just passed (R198). -/
def boundaryAts (wedge : Nat) : Nat :=
  (s.ang.ats + 2 ^ 48 - (s.angle + 2 ^ 32 - s.wedgeAngle (s.refSurface x) wedge) % 2 ^ 32) % 2 ^ 48
end

/-! ### The outcomes of a check -/

/-- A check is due at a wedge (R193, R196). -/
structure CheckDue (s : State) (x : Act) (wedge : Nat) : Prop where
  act : s.actOk x = true
  valid : s.flag Fld.ANG_STAT_VALID = true
  inTurn : ¬ s.get Fld.ANG_CFG_WEDGES ≤ wedge

/-- Every part of the state beside the queue. -/
def wholeState : List Part :=
  [.ang, .apc, .buf, .bus, .ccx, .ch, .cph, .d2d, .dbg, .free, .host, .hwd, .lpe, .mem, .msq, .now, .pins, .plk, .pwr, .rbk, .regs,
    .romPar, .spn, .sys, .thm, .vale, .wrp, .xsp]

theorem mem_wholeState (p : Part) : p ∈ wholeState := by
  cases p <;> decide

/-- Of a steady step every frame holds that leaves out no part: the queue is as it was. -/
theorem keeps_of_steady {s t : State} (h : Steady s t) : Keeps wholeState [] s t :=
  ⟨h.queue, fun p _ out => absurd (mem_wholeState p) out, fun out => absurd (mem_wholeState .regs) out⟩

section
variable {s t : State} {x : Act} {wedge k : Nat}

theorem wedgeCheck_keeps (answer : exec (.wedgeCheck x wedge) s = .next t) : Keeps wholeState [] s t :=
  keeps_of_steady ((Steady.refl s).exec_wedgeCheck t answer)

/-- A loaded head without valid PES squashes with cause COAST, whatever is pending (R194, R214). -/
theorem exec_wedgeCheck_noPes (due : CheckDue s x wedge) (loaded : s.loaded x = true) (noPes : s.pesValid x = false) :
    exec (.wedgeCheck x wedge) s = .next ((wedgeChecked s x).squashBy x (2 ^ 2)).syncMode := by
  change execWedgeCheck x wedge s = _
  simp only [execWedgeCheck, due.act, due.valid, due.inTurn, loaded, noPes, Bool.not_true, Bool.or_self, decide_false,
    Bool.false_eq_true, if_false, Bool.not_false, if_true, ite_self]
  rfl

/-- With no head loaded, no cause pending and no slot in RUN a check passes (R195). -/
theorem exec_wedgeCheck_stopped (due : CheckDue s x wedge) (noCause : (s.msq x).sqCauses = 0) (parked : s.loaded x = false)
    (stopped : (s.msq x).running = none) : exec (.wedgeCheck x wedge) s = .next (wedgePassed s x wedge).syncMode := by
  change execWedgeCheck x wedge s = _
  simp [execWedgeCheck, due.act, due.valid, due.inTurn, noCause, parked, stopped, wedgePassed, wedgeChecked]

/-- A check that passes lets the commits of the slot in RUN take effect (R198). -/
theorem exec_wedgeCheck_commits {l : List Work} (due : CheckDue s x wedge) (noCause : (s.msq x).sqCauses = 0)
    (parked : s.loaded x = false) (run : (s.msq x).running = some k) (go : (s.msq x).sqWait = false) (items : (s.msq x).work = l)
    (plain : ∀ w ∈ l, w.kind.isMedia = true ∨ w.kind.isCommit = true) : exec (.wedgeCheck x wedge) s =
      .next ((State.commits x k (boundaryAts s x wedge) l.length l [] [] (wedgePassed s x wedge)).advance x).syncMode := by
  have passed : ((wedgePassed s x wedge).msq x).work = l := by rw [msq_wedgePassed s x wedge (items ▸ plain)]; exact items
  rw [← passed]
  change execWedgeCheck x wedge s = _
  simp [execWedgeCheck, due.act, due.valid, due.inTurn, noCause, parked, run, go, wedgePassed, wedgeChecked, boundaryAts]
end

/-! ### Commits (R198, R303) -/

section
variable {s : State} {x : Act} {k lim : Nat}

/-- The channels' part of a commit is in the channels, Ringbook and their registers. -/
theorem commitChannel_keeps (s : State) (n : Chan) : Keeps [.ch, .rbk, .regs] [] s (s.commitChannel n) := by
  have record (t : State) (r : StagedRec) : Keeps [.ch, .rbk, .regs] [] t (t.commitRec n r.r) :=
    keeps_ite (keeps_setCh rfl (keeps_refl _ _ _)) (keeps_raise rfl (keeps_bump rfl (keeps_refl _ _ _)))
  have contribute (ctx : Nat) (t : State) (c : Contrib) : Keeps [.ch, .rbk, .regs] [] t (t.applyContrib ctx c) := by
    cases c with
    | hist id v => exact keeps_ite (keeps_sample rfl (keeps_refl _ _ _)) (keeps_refl _ _ _)
    | ctr i n => exact keeps_count rfl (keeps_refl _ _ _)
  unfold State.commitChannel
  extract_lets x c upto now_ con s1 s2 s3
  have h2 : Keeps [.ch, .rbk, .regs] [] s s2 := keeps_foldl record (keeps_setCh rfl (keeps_refl _ _ _))
  have h3 : Keeps [.ch, .rbk, .regs] [] s s3 := keeps_ite h2 (keeps_raise rfl h2)
  exact keeps_foldl (fun t e => contribute _ t e.2) h3

theorem msq_commitRecords (s : State) (x y : Act) : (s.commitRecords x).msq y = s.msq y :=
  (keeps_msq (commitChannel_keeps _ _) (by decide) y).trans (keeps_msq (commitChannel_keeps s _) (by decide) y)

/-- The sequencer after the commit of slot k's one item has taken effect (R198). -/
def committed (m : Msq) (k : Nat) (a : Arch) (p q : ChPos) (d ats : Nat) : Msq :=
  { m.setSlot k { m.slot k with comm := a } with cpos0 := p, cpos1 := q, work := [], dist := m.dist - d, lastCommitAts := ats }

/-- A COMMIT alone in the work list, with nothing staged, takes effect at once (R198). -/
theorem commits_alone {w : Work} {a : Arch} {p q : ChPos} {d : Nat} (kind : w.kind = .commit 0 a p q [] d) :
    State.commits x k lim 1 [w] [] [] s = (s.setMsq x (committed (s.msq x) k a p q d s.ang.ats)).commitRecords x := by
  simp only [State.commits, kind]
  rfl

theorem msq_committed {m : Msq} : ((s.setMsq x m).commitRecords x).msq x = m := by
  rw [msq_commitRecords, msq_setMsq]

/-- The commit is in the slot's committed state (R203). -/
theorem comm_committed {m : Msq} {a : Arch} {p q : ChPos} {d ats : Nat} : ((committed m k a p q d ats).slot k).comm = a :=
  congrArg Slot.comm (slot_setSlot m k _)

theorem quiet_committed {m : Msq} {a : Arch} {p q : ChPos} {d ats : Nat} (free : m.wait = none) :
    Quiet ((s.setMsq x (committed m k a p q d ats)).commitRecords x) x :=
  quiet_of_empty (by rw [msq_committed]; rfl) (by rw [msq_committed]; exact free)

/-- A media instruction that has not completed holds back the commits behind it (R198). -/
theorem commits_held {n : Nat} {w : Work} {l : List Work} {r : MediaRun} (kind : w.kind = .media r) (open_ : w.done = false) :
    State.commits x k lim (n + 1) (w :: l) [] [] s = s := by
  simp only [State.commits, kind, Work.before, open_, Bool.false_and, Bool.false_eq_true, if_false]
end

/-! ### What a squash records (R213, R214) -/

section
variable {s : State} {x : Act} {k causes : Nat} {counts : Bool}

/-- MSQx_SQLAST names the slot of a squash (R213 step 6). -/
theorem get_squash_slot (run : (s.msq x).running = some k) (go : (s.msq x).sqWait = false) :
    (s.squash x causes counts).get (Fld.MSQ_SQLAST_SLOT x) = k % 16 := by
  rw [squash_eq run go, keeps_get (countEnd_keeps _ x k counts) _ (by decide) (by cases x <;> decide), squashed]
  have rest (t : State) (last : Nat) : Keeps [.rbk] (recFields ++ [Fld.MSQ_SQLAST_CAUSE x, Fld.MSQ_SQCNT_SQUASH x, Fld.MSQ_EV_SQUASH x])
      t ((((t.put (Fld.MSQ_SQLAST_CAUSE x) last).bump (Fld.MSQ_SQCNT_SQUASH x) 1).count 6 1).raise (Fld.MSQ_EV_SQUASH x)) :=
    keeps_raise (by cases x <;> decide) (keeps_count (within_nil rfl) (keeps_bump (by cases x <;> decide)
      (keeps_put (by cases x <;> decide) (keeps_refl _ _ _))))
  exact (keeps_get (rest _ _) _ (by decide) (by cases x <;> decide)).trans (get_put _ _ _ (by cases x <;> decide))

/-- A squash that a cause joins, before the cause counts (R214). -/
def joined (s : State) (x : Act) (k causes : Nat) : State :=
  (s.setMsq x { s.msq x with sqCauses := (s.msq x).sqCauses ||| causes }).sqRecord x k causes true

/-- A squash of a slot that a squash holds joins it (R214). -/
theorem squash_joined (run : (s.msq x).running = some k) (held : (s.msq x).sqWait = true) : s.squash x causes counts =
    (let t := joined s x k causes
     sqEnd (if counts && !(s.msq x).sqCounted then t.trackCount x else t) x k) := by
  simp only [State.squash, run, held, if_true]
  rfl

/-- A cause that joins a squash is in MSQx_SQCAUSE with those before it (R214). -/
theorem get_squash_joined (run : (s.msq x).running = some k) (held : (s.msq x).sqWait = true) :
    (s.squash x causes counts).get (Fld.MSQ_SQCAUSE_CAUSE x) = (s.get (Fld.MSQ_SQCAUSE_CAUSE x) ||| causes) % 2 ^ 15 := by
  have rest (t : State) (last : Nat) : Keeps [] [Fld.MSQ_SQLAST_SLOT x, Fld.MSQ_SQLAST_CAUSE x] t
      ((t.put (Fld.MSQ_SQLAST_SLOT x) k).put (Fld.MSQ_SQLAST_CAUSE x) last) :=
    keeps_put (by cases x <;> decide) (keeps_put (by cases x <;> decide) (keeps_refl _ _ _))
  have before (m : Msq) : (s.setMsq x m).get (Fld.MSQ_SQCAUSE_CAUSE x) = s.get (Fld.MSQ_SQCAUSE_CAUSE x) := by cases x <;> rfl
  rw [squash_joined run held, keeps_get (countEnd_keeps _ x k _) _ (by decide) (by cases x <;> decide), joined, State.sqRecord,
    keeps_get (rest _ _) _ (by decide) (by cases x <;> decide), get_put _ _ _ (by cases x <;> decide), before]
  rfl
end

end Sys2Proof.Proofs
end

section
/-!
PROOFS. The restart after a squash (R217, R219), the watchdogs that squash (R226, R234) and the statement of the wedge check.
-/
namespace Sys2Proof.Proofs

open Sys2Proof.Machine Sys2Proof.Safety Sys2Proof.Laws

/-! ### The restart (R217, R219) -/

/-- The sequencer released from a squash whose causes have cleared, at the last commit (R217). -/
def restarted (s : State) (x : Act) : State := s.setMsq x { s.msq x with sqWait := false, sqCauses := 0 }

section
variable {s : State} {x : Act} {k wedge : Nat}

theorem exec_squashRestart (run : (s.msq x).running = some k) (held : (s.msq x).sqWait = true) (cleared : s.causesCleared x = true)
    (onDisk : (s.msq x).unloaded = false) (idle : (s.msq x).work = []) (free : (s.msq x).wait = none) :
    exec (.squashRestart x) s = .next (restarted s x).syncMode := by
  have restart : s.restart x = restarted s x := by
    simp only [State.restart, run, held, cleared, onDisk, Bool.and_self, if_true, Bool.false_eq_true, if_false, restarted]
  have quiet : Quiet (restarted s x) x :=
    quiet_of_empty (by rw [restarted, msq_setMsq]; exact idle) (by rw [restarted, msq_setMsq]; exact free)
  change (.next ((s.restart x).advance x).syncMode : Out) = _
  rw [restart, quiet.advance]

/-! ### The wedge watchdog (R226) -/

theorem exec_wedgeWatchdog (loaded : s.loaded x = true) (valid : s.flag Fld.ANG_STAT_VALID = true) (turning : s.wedgePeriod ≠ 0)
    (late : 3 * s.wedgePeriod ≤ 2 * (s.now - (s.msq x).checkAt)) :
    exec (.wedgeWatchdog x) s = .next (s.squashBy x (2 ^ 2)).syncMode := by
  change execWedgeWatchdog x s = _
  simp [execWedgeWatchdog, loaded, valid, turning, late]

theorem exec_wedgeWatchdog_early (early : 2 * (s.now - (s.msq x).checkAt) < 3 * s.wedgePeriod) :
    exec (.wedgeWatchdog x) s = .next s := by
  change execWedgeWatchdog x s = _
  simp [execWedgeWatchdog, Nat.not_le.2 early]

/-- The parts that a squash and the change of mode after it may touch. -/
def squashParts : List Part := [.ang, .ch, .lpe, .mem, .msq, .plk, .rbk, .spn, .sys, .vale, .wrp]

theorem squashBy_syncMode_keeps (s : State) (x : Act) (causes : Nat) :
    Keeps squashParts (modeFields ++ squashFields s x) s (s.squashBy x causes).syncMode :=
  keeps_via (syncMode_keeps _) (within_of_subset (by decide) (List.subset_append_left _ _))
    (keeps_mono (squash_keeps s x _ _) (within_of_subset (by decide) (List.subset_append_right _ _)))

/-- MSQx_EV_SQUASH stays over the change of mode. -/
theorem flag_squashBy_syncMode (run : (s.msq x).running = some k) (go : (s.msq x).sqWait = false) (causes : Nat) :
    (s.squashBy x causes).syncMode.flag (Fld.MSQ_EV_SQUASH x) = true := by
  rw [syncMode_flag _ _ (by cases x <;> decide)]
  exact flag_squash run go _ _
end

/-! ### Control store parity (R52, R234) -/

/-- The fields of a parity error's own (R52). -/
def parityFields (x : Act) : List Field :=
  [Fld.UCS_EV_PARITY, Fld.UCS_FLT_ROMPAR, Fld.UCS_PARCNT_ROM, Fld.UCS_PARCNT_RAM, Fld.MSQ_EV_PARITY x]

/-- The end of every parity error (R234): MSQx_EV_PARITY, and the squash with cause PARITY. -/
def parityStop (s : State) (x : Act) : State := ((s.raise (Fld.MSQ_EV_PARITY x)).squashBy x (2 ^ 8)).syncMode

/-- ROM has had an error at the address within ESC_WIN (R234). -/
def romAgain (s : State) (uaddr : Nat) : Bool :=
  match mfind s.romPar uaddr with
  | some t => decide (s.now < t + s.escTicks)
  | none => false

/-- ROM's note of the moment of an error at an address (R234). -/
def romNoted (s : State) (uaddr : Nat) : State := { s with romPar := mput s.romPar uaddr s.now }

/-- A parity error of the control store, counted in its field (R52); `again`: ROM has had one at the address within ESC_WIN. -/
def parityCounted (s : State) (cnt : Field) (again : Bool) : State :=
  let t := (s.bump cnt 1).raise Fld.UCS_EV_PARITY
  if again then t.raise Fld.UCS_FLT_ROMPAR else t

section
variable {s t : State} {x : Act} {uaddr : Nat}

theorem exec_parity_rom (act : s.actOk x = true) (rom : uaddr < 0x4000) : exec (.controlStoreParity x uaddr) s =
    .next (parityStop (parityCounted (romNoted s uaddr) Fld.UCS_PARCNT_ROM (romAgain s uaddr)) x) := by
  change execControlStoreParity x uaddr s = _
  simp only [execControlStoreParity, act, Bool.not_true, Bool.false_eq_true, if_false, show ¬ 0x5000 ≤ uaddr by omega, rom, decide_true,
    if_true, Bool.true_and]
  rfl

theorem exec_parity_ram (act : s.actOk x = true) (above : 0x4000 ≤ uaddr) (store : uaddr < 0x5000) :
    exec (.controlStoreParity x uaddr) s = .next (parityStop (parityCounted s Fld.UCS_PARCNT_RAM false) x) := by
  change execControlStoreParity x uaddr s = _
  simp only [execControlStoreParity, act, Bool.not_true, Bool.false_eq_true, if_false, Nat.not_le.2 store, Nat.not_lt.2 above,
    decide_false, Bool.false_and]
  rfl

/-- A register's parity error is not the control store's: it is not counted there. -/
theorem exec_parity_register (act : s.actOk x = true) (register : 0x5000 ≤ uaddr) :
    exec (.controlStoreParity x uaddr) s = .next (parityStop s x) := by
  change execControlStoreParity x uaddr s = _
  simp only [execControlStoreParity, act, Bool.not_true, Bool.false_eq_true, if_false, register, if_true]
  rfl

/-! ### What a parity error leaves -/

/-- Notes depend on the sequencers alone. -/
theorem notedFields_of_keeps {P : List Part} {F : List Field} (kept : Keeps P F s t) (others : Part.msq ∉ P) (x : Act) :
    notedFields t x = notedFields s x := by
  simp only [notedFields, keeps_msq kept others x]

theorem parityStop_own (s : State) (x : Act) :
    Keeps squashParts (modeFields ++ squashFields s x ++ [Fld.MSQ_EV_PARITY x]) s (parityStop s x) := by
  have raised : Keeps [.rbk] (Fld.MSQ_EV_PARITY x :: recFields) s (s.raise (Fld.MSQ_EV_PARITY x)) := raise_keeps _ _
  have stopped := squashBy_syncMode_keeps (s.raise (Fld.MSQ_EV_PARITY x)) x (2 ^ 8)
  rw [squashFields, notedFields_of_keeps raised (by decide), ← squashFields] at stopped
  refine keeps_via stopped (within_of_subset (List.Subset.refl _) (List.subset_append_left _ _)) (keeps_mono raised
    (within_of_subset (by decide) ?_))
  simp [squashFields, recFields]

/-- The parts that a parity error may touch. -/
def parityParts : List Part := [.ang, .ch, .lpe, .mem, .msq, .plk, .rbk, .romPar, .spn, .sys, .vale, .wrp]

theorem parityStop_keeps (kept : Keeps [.rbk, .romPar] (recFields ++ parityFields x) s t) :
    Keeps parityParts (modeFields ++ squashFields s x ++ parityFields x) s (parityStop t x) := by
  have stopped := parityStop_own t x
  rw [squashFields, notedFields_of_keeps kept (by decide), ← squashFields] at stopped
  refine keeps_via stopped (within_of_subset (by decide) ?_) (keeps_mono kept (within_of_subset (by decide) ?_))
  · exact List.append_subset.2 ⟨List.subset_append_left _ _, by simp [parityFields]⟩
  · simp [squashFields, recFields, parityFields]

theorem unnoted_of_both (unnoted : (notedFields s .a ++ notedFields s .b).all (fun f => f.addr != Reg.UCS_PARCNT) = true) (x : Act) :
    (notedFields s x).all (fun f => f.addr != Reg.UCS_PARCNT) = true := by
  rw [List.all_append, Bool.and_eq_true] at unnoted
  obtain ⟨ofA, ofB⟩ := unnoted
  cases x
  · exact ofA
  · exact ofB

/-- A squash writes back no note of UCS_PARCNT where there is none. -/
theorem rd_parityStop (unnoted : (notedFields s x).all (fun f => f.addr != Reg.UCS_PARCNT) = true) :
    (parityStop s x).rd Reg.UCS_PARCNT = s.rd Reg.UCS_PARCNT := by
  refine keeps_rd (parityStop_own s x) _ (by decide) ?_
  have noted : (notedFields s x).all (fun f => decide (f.addr ≠ Reg.UCS_PARCNT)) = true := by simpa [bne] using unnoted
  rw [squashFields]
  simp only [List.all_append, noted, Bool.and_true]
  cases x <;> decide

theorem flag_parityStop (s : State) (x : Act) : (parityStop s x).flag (Fld.MSQ_EV_PARITY x) = true := by
  rw [parityStop, syncMode_flag _ _ (by cases x <;> decide), State.flag, State.squashBy,
    (squash_trip _ x _ _).get _ (by cases x <;> decide) (by cases x <;> decide)]
  exact flag_raise s _ (by cases x <;> decide) rfl (by cases x <;> decide)

theorem flag_parityStop_ucs (s : State) (x : Act) : (parityStop s x).flag Fld.UCS_EV_PARITY = s.flag Fld.UCS_EV_PARITY := by
  rw [parityStop, syncMode_flag _ _ (by decide), State.flag, State.squashBy,
    (squash_trip _ x _ _).get _ (by decide) (by cases x <;> decide)]
  exact keeps_flag (raise_keeps s _) _ (by decide) (by cases x <;> decide)

section
variable {cnt : Field} (s : State) (again : Bool)

theorem parityCounted_keeps (own : cnt ∈ parityFields x) :
    Keeps [.rbk] (recFields ++ parityFields x) s (parityCounted s cnt again) := by
  have counted : Keeps [.rbk] (recFields ++ parityFields x) s ((s.bump cnt 1).raise Fld.UCS_EV_PARITY) :=
    keeps_raise (by cases x <;> decide) (keeps_bump (within_of_subset (by simp) (by simp [own])) (keeps_refl _ _ _))
  exact keeps_ite (keeps_raise (by cases x <;> decide) counted) counted

/-- The count, which the events leave alone. -/
theorem get_parityCounted (fits : Fits cnt = true)
    (apart : (Fld.UCS_FLT_ROMPAR :: Fld.UCS_EV_PARITY :: recFields).all (fun f => Apart f cnt) = true) :
    (parityCounted s cnt again).get cnt = satAdd cnt.len (s.get cnt) 1 := by
  have events : Keeps [.rbk] (Fld.UCS_FLT_ROMPAR :: Fld.UCS_EV_PARITY :: recFields) (s.bump cnt 1) (parityCounted s cnt again) := by
    have raised : Keeps [.rbk] (Fld.UCS_FLT_ROMPAR :: Fld.UCS_EV_PARITY :: recFields) (s.bump cnt 1)
        ((s.bump cnt 1).raise Fld.UCS_EV_PARITY) := keeps_raise (by decide) (keeps_refl _ _ _)
    exact keeps_ite (keeps_raise (by decide) raised) raised
  rw [keeps_get events _ (by decide) apart, get_bump _ _ _ fits]

theorem flag_parityCounted : (parityCounted s cnt again).flag Fld.UCS_EV_PARITY = true := by
  unfold parityCounted
  extract_lets t
  have raised : t.flag Fld.UCS_EV_PARITY = true := flag_raise _ _ (by decide) rfl (by decide)
  split
  · exact (keeps_flag (raise_keeps t _) _ (by decide) (by decide)).trans raised
  · exact raised
end

/-- A counted error as a whole: its count and both events stand, and the notes of ROM are those at the count. -/
theorem parity_counted {cnt : Field} {again : Bool} (noted : Keeps [.romPar] [] s t) (own : cnt ∈ parityFields x)
    (addr : cnt.addr = Reg.UCS_PARCNT) (fits : Fits cnt = true)
    (apart : (Fld.UCS_FLT_ROMPAR :: Fld.UCS_EV_PARITY :: recFields).all (fun f => Apart f cnt) = true)
    (unnoted : (notedFields s .a ++ notedFields s .b).all (fun f => f.addr != Reg.UCS_PARCNT) = true) :
    let u := parityStop (parityCounted t cnt again) x
    u.get cnt = satAdd cnt.len (s.get cnt) 1 ∧ u.flag Fld.UCS_EV_PARITY = true ∧ u.flag (Fld.MSQ_EV_PARITY x) = true ∧
      u.romPar = t.romPar ∧ Keeps parityParts (modeFields ++ squashFields s x ++ parityFields x) s u := by
  have counted := parityCounted_keeps t again own
  have both : Keeps [.rbk, .romPar] (recFields ++ parityFields x) s (parityCounted t cnt again) :=
    keeps_via counted (within_of_subset (by decide) (List.Subset.refl _)) (keeps_mono noted (within_nil rfl))
  have unnoted_x : (notedFields (parityCounted t cnt again) x).all (fun f => f.addr != Reg.UCS_PARCNT) = true := by
    rw [notedFields_of_keeps both (by decide)]
    exact unnoted_of_both unnoted x
  refine ⟨?_, ?_, flag_parityStop _ x, ?_, parityStop_keeps both⟩
  · rw [State.get, addr, rd_parityStop unnoted_x, ← addr, ← State.get, get_parityCounted t again fits apart,
      keeps_get noted _ (by decide) rfl]
  · rw [flag_parityStop_ucs, flag_parityCounted]
  · exact ((parityStop_own _ x).part .romPar (by decide) (by decide)).trans (counted.part .romPar (by decide) (by decide))
end

/-! ### The statement -/

/-- Settles O23: a due check squashes for a loaded head without valid PES and otherwise passes, where the commits in front of every open
media instruction take effect; a restart releases the slot; the watchdog and a parity error squash. -/
theorem wedgeChecks : Obligations.WedgeChecks := by
  unfold Obligations.WedgeChecks
  refine ⟨?passed, ?commit, ?failed, ?held, ?joins, ?restart, ?watchdog, ?watchdogEarly, ?parityRom, ?parityRam, ?parityRegister⟩
  case passed =>
    intro s x wedge act valid inTurn noCause parked stopped
    have answer := exec_wedgeCheck_stopped ⟨act, valid, inTurn⟩ noCause parked stopped
    refine ⟨_, answer, ?_, ?_, wedgeCheck_keeps answer⟩ <;> rw [keeps_msq (syncMode_keeps _) (by decide), wedgePassed, msq_setMsq]
  case commit =>
    intro s x wedge k a p q d act valid inTurn noCause parked run go free only
    have plain : ∀ w ∈ [{ mkWork (.commit 0 a p q [] d) a.pc none with begun := true }],
        w.kind.isMedia = true ∨ w.kind.isCommit = true := by simp [mkWork, WorkKind.isCommit]
    have answer := exec_wedgeCheck_commits ⟨act, valid, inTurn⟩ noCause parked run go only plain
    rw [List.length_singleton, commits_alone rfl, msq_wedgePassed s x wedge (only ▸ plain), (quiet_committed (by exact free)).advance]
      at answer
    refine ⟨_, answer, ?_, ?_, ?_, ?_, ?_, wedgeCheck_keeps answer⟩ <;> rw [keeps_msq (syncMode_keeps _) (by decide), msq_committed]
    · exact comm_committed
    all_goals rfl
  case failed =>
    intro s x wedge k act valid inTurn _ loaded noPes run go
    have answer := exec_wedgeCheck_noPes ⟨act, valid, inTurn⟩ loaded noPes
    have run' := (running_wedgeChecked s x).trans run
    have go' := (sqWait_wedgeChecked s x).trans go
    refine ⟨_, answer, flag_squashBy_syncMode run' go' _, ?_, wedgeCheck_keeps answer⟩
    rw [syncMode_get _ _ (by cases x <;> decide)]
    exact get_squash_slot run' go'
  case held =>
    intro s x wedge k r w v act valid inTurn noCause parked run go free only media begun open_ commit begun'
    have plain : ∀ u ∈ [w, v], u.kind.isMedia = true ∨ u.kind.isCommit = true := by simp [media, commit, WorkKind.isMedia]
    have passed := msq_wedgePassed s x wedge (only ▸ plain)
    have quiet : Quiet (wedgePassed s x wedge) x := ⟨by simp [passed, only, begun, begun'], by rw [passed]; exact free⟩
    have answer := exec_wedgeCheck_commits ⟨act, valid, inTurn⟩ noCause parked run go only plain
    rw [List.length_cons, commits_held media open_, quiet.advance] at answer
    refine ⟨_, answer, ?_, ?_, wedgeCheck_keeps answer⟩ <;> rw [keeps_msq (syncMode_keeps _) (by decide), passed]
    · exact only
    · rfl
  case joins =>
    intro s x wedge k act valid inTurn run held _ loaded noPes
    have answer := exec_wedgeCheck_noPes ⟨act, valid, inTurn⟩ loaded noPes
    refine ⟨_, answer, ?_, wedgeCheck_keeps answer⟩
    rw [syncMode_get _ _ (by cases x <;> decide), State.squashBy, get_squash_joined ((running_wedgeChecked s x).trans run)
      ((sqWait_wedgeChecked s x).trans held)]
    rw [Nat.testBit_mod_two_pow, Nat.testBit_or, Nat.testBit_two_pow_self, Bool.or_true]
    rfl
  case restart =>
    intro s x k run held cleared onDisk idle free
    refine ⟨_, exec_squashRestart run held cleared onDisk idle free, ?_, ?_, ?_, ?_⟩
    · rw [keeps_msq (syncMode_keeps _) (by decide), restarted, msq_setMsq]
    · rw [keeps_msq (syncMode_keeps _) (by decide), restarted, msq_setMsq]
    · rw [slot_syncMode, restarted, msq_setMsq]
      rfl
    · exact keeps_via (syncMode_keeps _) (within_of_subset (by decide) (List.subset_append_right _ _))
        (keeps_setMsq (within_nil rfl) (keeps_refl _ _ _))
  case watchdog =>
    exact fun s x k loaded valid turning late run go => ⟨_, exec_wedgeWatchdog loaded valid turning late,
      flag_squashBy_syncMode run go _, squashBy_syncMode_keeps s x _⟩
  case watchdogEarly => exact fun s x early => exec_wedgeWatchdog_early early
  case parityRom =>
    intro s x uaddr act rom unnoted
    have noted : Keeps [.romPar] [] s (romNoted s uaddr) := keeps_set_romPar (by decide) (keeps_refl _ _ _)
    exact ⟨_, exec_parity_rom act rom, parity_counted noted (by simp [parityFields]) rfl (by decide) (by decide) unnoted⟩
  case parityRam =>
    intro s x uaddr act above store unnoted
    exact ⟨_, exec_parity_ram act above store,
      parity_counted (keeps_refl _ _ _) (by simp [parityFields]) rfl (by decide) (by decide) unnoted⟩
  case parityRegister =>
    intro s x uaddr act register unnoted
    refine ⟨_, exec_parity_register act register, flag_parityStop s x, rd_parityStop ?_, ?_, parityStop_keeps (keeps_refl _ _ _)⟩
    · exact unnoted_of_both unnoted x
    · exact (parityStop_own s x).part .romPar (by decide) (by decide)

end Sys2Proof.Proofs
end

section
/-!
PROOFS. The issue of a micro-op (R236 to R254): where the routine goes on, and when the micro-op fails or traps.
-/
namespace Sys2Proof.Proofs

open Sys2Proof.Machine Sys2Proof.Safety Sys2Proof.Laws

/-! ### The engine replaced -/

section
variable (s : State) (x : Act) (u v : Micro)

@[simp] theorem msq_setMicro : (s.setMicro x u).msq x = { s.msq x with micro := u } := msq_setMsq _ _ _

@[simp] theorem setMicro_setMicro : (s.setMicro x u).setMicro x v = s.setMicro x v := by
  cases x <;> rfl

/-- The next micro-address depends on a sequencer's control store alone (R246, R249). -/
theorem uNext_of_ucs {m m' : Msq} (same : m'.ucs = m.ucs) (cap inc : Bool) (a : Nat) : uNext m' cap inc a = uNext m cap inc a := by
  simp only [uNext, same]

theorem uNext_setMicro (cap inc : Bool) (a : Nat) : uNext ((s.setMicro x u).msq x) cap inc a = uNext (s.msq x) cap inc a :=
  uNext_of_ucs (by rw [msq_setMicro]) cap inc a

theorem runK_setMicro {k : Nat} (run : (s.msq x).running = some k) : (s.setMicro x u).runK x = k := by
  rw [State.runK, msq_setMicro]
  exact congrArg (Option.getD · 0) run
end

/-! ### The outcomes of a micro-op -/

/-- What a micro-op's body can answer, as the engine carries it out: a failure; a next micro-address; or none, and the incrementer gives
one, save after a dispatch or the routine's end. -/
def uopEnd (s : State) (x : Act) : Except UErr (State × Option Nat) → State
  | .error e => s.uFail x e
  | .ok (t, some a) =>
    match uNext (t.msq x) (t.msq x).micro.cap false a with
    | .ok n => t.setMicro x { (t.msq x).micro with upc := n }
    | .error e => s.uFail x e
  | .ok (t, none) =>
    if !(t.msq x).micro.on || (t.msq x).micro.fresh then t
    else
      match uNext (t.msq x) (t.msq x).micro.cap true ((t.msq x).micro.upc + 1) with
      | .ok n => t.setMicro x { (t.msq x).micro with upc := n }
      | .error e => s.uFail x e

section
variable {s t : State} {x : Act} {k n a : Nat} {u v : Micro} {reason : Option Nat} {e : UErr}
  {body : Micro → Arch → State → Except UErr (State × Option Nat)}

/-- A micro-op runs its body with its step counted (R250), unless capability mode forbids it (R259). -/
theorem uop_eq (h : Runs s x k u) (may : reason = none ∨ u.cap = false) : s.uop x reason body =
    uopEnd s x (body (counted u) ((s.msq x).slot k).spec (s.setMicro x (counted u))) := by
  obtain ⟨act, run, squash, wait, on, stall, rfl⟩ := h
  have enters : (!s.actOk x || (s.msq x).running.isNone || (s.msq x).sqWait || (s.msq x).wait.isSome) = false := by
    simp [act, run, squash, wait]
  have goes : (!(s.msq x).micro.on || (s.msq x).micro.stall.isSome) = false := by simp [on, stall]
  simp only [State.uop, enters, goes, if_pos on, Bool.false_eq_true, if_false]
  rw [run]
  rcases may with rfl | cap
  · rfl
  · cases reason with
    | none => rfl
    | some r =>
      simp only [show (s.msq x).micro.cap = false from cap, Bool.false_eq_true, if_false]
      rfl

/-- Capability mode forbids the micro-op: it traps and has no effect (R259, R260). -/
theorem uop_forbidden (h : Runs s x k u) (cap : u.cap = true) (r : Nat) : s.uop x (some r) body = s.uFail x (.trap r) := by
  obtain ⟨act, run, squash, wait, on, stall, rfl⟩ := h
  simp [State.uop, act, run, squash, wait, on, stall, show (s.msq x).micro.cap = true from cap]

theorem uop_fails (h : Runs s x k u) (may : reason = none ∨ u.cap = false)
    (ran : body (counted u) ((s.msq x).slot k).spec (s.setMicro x (counted u)) = .error e) : s.uop x reason body = s.uFail x e := by
  rw [uop_eq h may, ran]
  rfl

/-- The body names the next micro-address (R243). -/
theorem uop_jumps (h : Runs s x k u) (may : reason = none ∨ u.cap = false)
    (ran : body (counted u) ((s.msq x).slot k).spec (s.setMicro x (counted u)) = .ok (t, some a))
    (next : uNext (t.msq x) (t.msq x).micro.cap false a = .ok n) :
    s.uop x reason body = t.setMicro x { (t.msq x).micro with upc := n } := by
  rw [uop_eq h may, ran]
  simp only [uopEnd, next]

/-- The incrementer gives the next micro-address (R243). -/
theorem uop_steps (h : Runs s x k u) (may : reason = none ∨ u.cap = false)
    (ran : body (counted u) ((s.msq x).slot k).spec (s.setMicro x (counted u)) = .ok (t, none))
    (on : (t.msq x).micro.on = true) (issued : (t.msq x).micro.fresh = false)
    (next : uNext (t.msq x) (t.msq x).micro.cap true ((t.msq x).micro.upc + 1) = .ok n) :
    s.uop x reason body = t.setMicro x { (t.msq x).micro with upc := n } := by
  rw [uop_eq h may, ran]
  simp only [uopEnd, on, issued, next, Bool.not_true, Bool.or_false, Bool.false_eq_true, if_false]

/-- A routine that the micro-op has dispatched stands at the address of its dispatch (R248). -/
theorem uop_dispatches (h : Runs s x k u) (may : reason = none ∨ u.cap = false)
    (ran : body (counted u) ((s.msq x).slot k).spec (s.setMicro x (counted u)) = .ok (t, none))
    (fresh : (t.msq x).micro.fresh = true) : s.uop x reason body = t := by
  rw [uop_eq h may, ran]
  simp only [uopEnd, fresh, Bool.or_true, if_true]
end

/-! ### A micro-op that changes the routine alone -/

/-- Two states of a routine at one micro-address, in one mode. -/
structure SameFlow (u v : Micro) : Prop where
  on : v.on = u.on
  fresh : v.fresh = u.fresh
  cap : v.cap = u.cap
  upc : v.upc = u.upc

section
variable {s : State} {x : Act} {k n a : Nat} {u v : Micro} {reason : Option Nat}
  {body : Micro → Arch → State → Except UErr (State × Option Nat)}

theorem runs_on (h : Runs s x k u) : u.on = true := by
  rw [h.routine]
  exact h.on

theorem runs_fresh (h : Runs s x k u) : u.fresh = false := by
  rw [h.routine]

/-- It goes on to the incremented micro-address. -/
theorem uop_routine_steps (h : Runs s x k u) (may : reason = none ∨ u.cap = false)
    (ran : body (counted u) ((s.msq x).slot k).spec (s.setMicro x (counted u)) = .ok (s.setMicro x v, none)) (same : SameFlow u v)
    (next : uNext (s.msq x) u.cap true (u.upc + 1) = .ok n) : s.uop x reason body = s.setMicro x { v with upc := n } := by
  obtain ⟨on, fresh, cap, upc⟩ := same
  rw [uop_steps h may ran, msq_setMicro, setMicro_setMicro]
  · rw [msq_setMicro]
    exact on.trans (runs_on h)
  · rw [msq_setMicro]
    exact fresh.trans (runs_fresh h)
  · rw [uNext_setMicro, msq_setMicro]
    simp only [cap, upc, next]

/-- It goes on to the incremented micro-address, its step counted (R250). -/
theorem uop_routine (h : Runs s x k u) (may : reason = none ∨ u.cap = false)
    (ran : body (counted u) ((s.msq x).slot k).spec (s.setMicro x (counted u)) = .ok (s.setMicro x (counted v), none))
    (same : SameFlow u v) (next : uNext (s.msq x) u.cap true (u.upc + 1) = .ok n) :
    s.uop x reason body = s.setMicro x (stepped v n) :=
  uop_routine_steps h may ran ⟨same.on, same.fresh, same.cap, same.upc⟩ next

/-- It goes on to the micro-address that it names. -/
theorem uop_routine_jumps (h : Runs s x k u) (may : reason = none ∨ u.cap = false)
    (ran : body (counted u) ((s.msq x).slot k).spec (s.setMicro x (counted u)) = .ok (s.setMicro x (counted v), some a))
    (next : uNext (s.msq x) v.cap false a = .ok n) : s.uop x reason body = s.setMicro x (stepped v n) := by
  rw [uop_jumps h may ran, msq_setMicro, setMicro_setMicro]
  · rfl
  · rw [uNext_setMicro, msq_setMicro]
    exact next
end

end Sys2Proof.Proofs
end

section
/-!
PROOFS. The micro-ops that move the micro-address (R239, R243, R244, R248, R250, R257).
-/
namespace Sys2Proof.Proofs

open Sys2Proof.Machine Sys2Proof.Safety Sys2Proof.Laws

theorem exec_uopNop (s : State) (x : Act) : exec (.uopNop x) s = .next (s.uop x none fun _ _ t => .ok (t, none)) := rfl

/-- A routine that none runs starts first (R238). -/
theorem uop_starts {s : State} {x : Act} {k : Nat} {body : Micro → Arch → State → Except UErr (State × Option Nat)}
    (act : s.actOk x = true) (run : (s.msq x).running = some k) (go : (s.msq x).sqWait = false) (free : (s.msq x).wait = none)
    (off : (s.msq x).micro.on = false) {u : Micro} (h : Runs (s.startRoutine x) x k u) :
    s.uop x none body = (s.startRoutine x).uop x none body := by
  obtain ⟨act', run', go', free', on', _, _⟩ := h
  simp only [State.uop, act, run, go, free, off, act', run', go', free', on', Option.isNone_some, Option.isSome_none, Bool.not_true,
    Bool.or_false, Bool.false_eq_true, if_false, if_true]

section
variable {s : State} {x : Act} {k n : Nat} {u : Micro}

theorem uop_nop (h : Runs s x k u) (next : uNext (s.msq x) u.cap true (u.upc + 1) = .ok n) :
    s.uop x none (fun _ _ t => .ok (t, none)) = s.setMicro x (stepped u n) :=
  uop_routine h (.inl rfl) rfl ⟨rfl, rfl, rfl, rfl⟩ next
end

/-- Settles O17: the routine goes on to the micro-address that the micro-op or the incrementer gives, or the micro-op fails. -/
theorem microFlow : Obligations.MicroFlow := by
  unfold Obligations.MicroFlow
  refine ⟨?nop, ?br, ?brcTaken, ?brcNot, ?brcIllegal, ?call, ?callDeep, ?ret, ?retEmpty, ?extd, ?extdEmpty, ?yield, ?trap, ?starts⟩
  case nop => exact fun s x k u n h next => congrArg _ (uop_nop h next)
  case br => exact fun s x target k u n h next => congrArg _ (uop_routine_jumps h (.inl rfl) rfl next)
  case brcTaken =>
    intro s x cond target k u n h holds next
    refine congrArg _ (uop_routine_jumps h (.inl rfl) ?_ next)
    simp only [counted, Micro.guardTrue] at holds ⊢
    rw [holds]
  case brcNot =>
    intro s x cond target k u n h fails next
    refine congrArg _ (uop_routine h (.inl rfl) ?_ ⟨rfl, rfl, rfl, rfl⟩ next)
    simp only [counted, Micro.guardTrue] at fails ⊢
    rw [fails]
  case brcIllegal =>
    intro s x cond target k u h illegal
    refine congrArg _ (uop_fails (e := .err errIllegal) h (.inl rfl) ?_)
    simp only [counted, Micro.guardTrue] at illegal ⊢
    rw [illegal]
  case call =>
    intro s x target k u n h room next
    refine congrArg _ (uop_routine_jumps (v := { u with ustack := (u.upc + 1) :: u.ustack }) h (.inl rfl) ?_ next)
    rw [setMicro_setMicro]
    exact if_pos room
  case callDeep =>
    exact fun s x target k u h full => congrArg _ (uop_fails (e := .err errStack) h (.inl rfl) (if_neg (Nat.not_lt.2 full)))
  case ret =>
    intro s x k u r l n h top next
    refine congrArg _ (uop_routine_jumps (v := { u with ustack := l }) h (.inl rfl) ?_ next)
    simp only [counted, top, setMicro_setMicro]
  case retEmpty =>
    intro s x k u h empty
    refine congrArg _ (uop_fails (e := .err errStack) h (.inl rfl) ?_)
    simp only [counted, empty]
  case extd =>
    intro s x k u n h valid next
    refine congrArg _ (uop_routine_jumps (v := { u with cap := true }) h (.inl rfl) ?_ next)
    simp only [msq_setMicro, setMicro_setMicro]
    exact if_pos valid
  case extdEmpty =>
    intro s x k u h empty
    refine congrArg _ (uop_fails (e := .err errIllegal) h (.inl rfl) ?_)
    simp only [msq_setMicro]
    exact if_neg (Bool.eq_false_iff.1 empty)
  case yield =>
    intro s x k u n h next
    refine congrArg _ (uop_routine_steps (v := { u with steps := 0 }) h (.inl rfl) ?_ ⟨rfl, rfl, rfl, rfl⟩ next)
    rw [setMicro_setMicro]
    rfl
  case trap => exact fun s x imm k u h => congrArg _ (uop_fails (e := .err (imm.toNat % 2 ^ 8)) h (.inl rfl) rfl)
  case starts =>
    intro s x k u n act run go free off h next
    rw [exec_uopNop, uop_starts act run go free off h, uop_nop h next]

end Sys2Proof.Proofs
end

section
/-!
PROOFS. Micro-registers and shadows as a routine reads and writes them (R237, R251, R253), and the micro-ops that compute (R239).
-/
namespace Sys2Proof.Proofs

open Sys2Proof.Machine Sys2Proof.Safety Sys2Proof.Laws

/-! ### Micro-registers and shadows -/

/-- The micro-registers do not depend on the step count. -/
@[simp] theorem uRead_counted (u : Micro) (a : Arch) (r : Nat) : uRead (counted u) a r = uRead u a r := rfl

theorem uWriteSlot_counted (u : Micro) (r : Nat) (w : Word) : uWriteSlot (counted u) r w = (uWriteSlot u r w).map counted := by
  simp only [uWriteSlot, apply_ite (Except.map counted)]
  rfl

@[simp] theorem uWrite_counted (u : Micro) (r : Nat) (w : Word) : uWrite (counted u) r w = (uWrite u r w).map counted := by
  simp only [uWrite, uWriteSlot_counted, apply_ite (Except.map counted)]
  rfl

@[simp] theorem uShadow_counted (u : Micro) (e : Shadow) : uShadow (counted u) e = (uShadow u e).map counted := by
  simp only [uShadow, apply_ite (Except.map counted)]
  rfl

theorem sameFlow_uWriteSlot {u v : Micro} {r : Nat} {w : Word} (written : uWriteSlot u r w = .ok v) : SameFlow u v := by
  unfold uWriteSlot at written
  split at written
  · cases written
  · split at written
    · cases written
    · cases written
      exact ⟨rfl, rfl, rfl, rfl⟩

theorem sameFlow_uWrite {u v : Micro} {r : Nat} {w : Word} (written : uWrite u r w = .ok v) : SameFlow u v := by
  unfold uWrite at written
  split at written
  · exact sameFlow_uWriteSlot written
  · split at written
    · cases written
      exact ⟨rfl, rfl, rfl, rfl⟩
    · split at written
      · cases written
        exact ⟨rfl, rfl, rfl, rfl⟩
      · split at written
        · exact sameFlow_uWriteSlot written
        · cases written

theorem sameFlow_uShadow {u v : Micro} {e : Shadow} (added : uShadow u e = .ok v) : SameFlow u v := by
  simp only [uShadow] at added
  split at added
  · cases added
  · cases added
    exact ⟨rfl, rfl, rfl, rfl⟩

/-! ### D takes a value -/

section
variable {s : State} {x : Act} {k n : Nat} {u v : Micro} {reason : Option Nat} {a b : Word}

/-- A micro-op writes one micro-register and goes on. -/
theorem uop_writes {body : Micro → Arch → State → Except UErr (State × Option Nat)} {r : Nat} {w : Word} (h : Runs s x k u)
    (ran : body (counted u) ((s.msq x).slot k).spec (s.setMicro x (counted u)) =
      (do let v ← uWrite (counted u) r w; .ok ((s.setMicro x (counted u)).setMicro x v, none)))
    (written : uWrite u r w = .ok v) (next : uNext (s.msq x) u.cap true (u.upc + 1) = .ok n) :
    s.uop x none body = s.setMicro x (stepped v n) := by
  refine uop_routine h (.inl rfl) (ran.trans ?_) (sameFlow_uWrite written) next
  rw [uWrite_counted, written]
  exact congrArg (fun t => Except.ok (t, none)) (setMicro_setMicro _ _ _ _)

/-- D takes a value of A and B (R239). -/
theorem exec_alu {i : Instr} {m : FmtM} {f : Micro → Word → Word → Word → Word} (op : exec i s = .next (s.uAlu x m f)) (h : Runs s x k u)
    (ra : uRead u ((s.msq x).slot k).spec m.a.toNat = .ok a) (rb : uRead u ((s.msq x).slot k).spec m.b.toNat = .ok b)
    (written : uWrite u m.d.toNat (f (counted u) 0 a b) = .ok v) (next : uNext (s.msq x) u.cap true (u.upc + 1) = .ok n) :
    exec i s = .next (s.setMicro x (stepped v n)) := by
  rw [op]
  refine congrArg _ (uop_writes h ?_ written next)
  simp only [uRead_counted, ra, rb]
  rfl

/-- A reserved specifier of A fails the micro-op (R237). -/
theorem uAlu_fails {m : FmtM} {f : Micro → Word → Word → Word → Word} {e : UErr} (h : Runs s x k u)
    (ra : uRead u ((s.msq x).slot k).spec m.a.toNat = .error e) : s.uAlu x m f = s.uFail x e := by
  refine uop_fails h (.inl rfl) ?_
  simp only [uRead_counted, ra]
  rfl
end

section
variable (s : State) (x : Act) (u : Micro)

@[simp] theorem chIdle_setMicro (n : Chan) : (s.setMicro x u).chIdle n = s.chIdle n := by
  cases x <;> rfl

@[simp] theorem settled_setMicro (y : Act) (c : Nat) (w : Bool) : (s.setMicro x u).settled y c w = s.settled y c w := by
  cases x <;> cases y <;> rfl

@[simp] theorem plkReady_setMicro (y : Act) : (s.setMicro x u).plkReady y = s.plkReady y := by
  cases x <;> rfl

@[simp] theorem get_setMicro (f : Field) : (s.setMicro x u).get f = s.get f := by
  cases x <;> rfl

/-- The events a routine sees do not depend on its step count (R239). -/
theorem uEvents_counted : (s.setMicro x (counted u)).uEvents x = (s.setMicro x u).uEvents x := by
  simp only [State.uEvents, msq_setMicro, chIdle_setMicro, settled_setMicro, plkReady_setMicro, get_setMicro, counted]
  rfl

@[simp] theorem angle_setMicro : (s.setMicro x u).angle = s.angle := by
  cases x <;> rfl
end

/-- Settles O18: each micro-op reads its operands, computes, and writes D or the flags of the routine. -/
theorem microArithmetic : Obligations.MicroArithmetic := by
  unfold Obligations.MicroArithmetic
  refine ⟨?add, ?sub, ?and, ?or, ?xor, ?shl, ?shr, ?sar, ?min, ?max, ?mul, ?sel, ?bitx, ?reserved, ?addi, ?ldi, ?lui, ?mov, ?cmp, ?tick,
    ?testev⟩
  case add => exact fun s x m k u v a b n h ra rb written next => exec_alu rfl h ra rb written next
  case sub => exact fun s x m k u v a b n h ra rb written next => exec_alu rfl h ra rb written next
  case and => exact fun s x m k u v a b n h ra rb written next => exec_alu rfl h ra rb written next
  case or => exact fun s x m k u v a b n h ra rb written next => exec_alu rfl h ra rb written next
  case xor => exact fun s x m k u v a b n h ra rb written next => exec_alu rfl h ra rb written next
  case shl => exact fun s x m k u v a b n h ra rb written next => exec_alu rfl h ra rb written next
  case shr => exact fun s x m k u v a b n h ra rb written next => exec_alu rfl h ra rb written next
  case sar => exact fun s x m k u v a b n h ra rb written next => exec_alu rfl h ra rb written next
  case min => exact fun s x m k u v a b n h ra rb written next => exec_alu rfl h ra rb written next
  case max => exact fun s x m k u v a b n h ra rb written next => exec_alu rfl h ra rb written next
  case mul => exact fun s x m k u v a b n h ra rb written next => exec_alu rfl h ra rb written next
  case sel => exact fun s x m k u v a b n h ra rb written next => exec_alu rfl h ra rb written next
  case bitx => exact fun s x m k u v a b n h ra rb written next => exec_alu rfl h ra rb written next
  case reserved => exact fun s x m k u e h ra => congrArg _ (uAlu_fails h ra)
  case addi =>
    intro s x d imm k u v a n h rd written next
    refine congrArg _ (uop_writes h ?_ written next)
    simp only [uRead_counted, rd]
    rfl
  case ldi => exact fun s x d imm k u v n h written next => congrArg _ (uop_writes h rfl written next)
  case lui =>
    intro s x d imm k u v a n h rd written next
    refine congrArg _ (uop_writes h ?_ written next)
    simp only [uRead_counted, rd]
    rfl
  case mov =>
    intro s x m k u v a n h ra written next
    refine congrArg _ (uop_writes h ?_ written next)
    simp only [uRead_counted, ra]
    rfl
  case cmp =>
    intro s x m k u a b n h ra rb next
    refine congrArg _ (uop_routine (v := { u with z := a == b, n := (a - b).msb, c := decide (a.toNat < b.toNat) }) h (.inl rfl) ?_
      ⟨rfl, rfl, rfl, rfl⟩ next)
    simp only [uRead_counted, ra, rb]
    exact congrArg (fun t => Except.ok (t, none)) (setMicro_setMicro _ _ _ _)
  case tick =>
    intro s x m k u v n h written next
    refine congrArg _ (uop_writes h ?_ written next)
    simp only [angle_setMicro]
  case testev =>
    intro s x imm k u n h next
    refine congrArg _ (uop_routine (v := { u with e := (s.setMicro x u).uEvents x &&& imm.toNat != 0 }) h (.inl rfl) ?_
      ⟨rfl, rfl, rfl, rfl⟩ next)
    simp only [uEvents_counted, setMicro_setMicro]
    rfl

end Sys2Proof.Proofs
end

section
/-!
PROOFS. The shadowed micro-ops, what applies the shadows, and what capability mode forbids (R239, R248, R251 to R253, R255, R257 to R260).
-/
namespace Sys2Proof.Proofs

open Sys2Proof.Machine Sys2Proof.Safety Sys2Proof.Laws

section
variable {s t : State} {x : Act} {k n : Nat} {u v : Micro} {reason : Option Nat}
  {body : Micro → Arch → State → Except UErr (State × Option Nat)}

/-- A shadowed effect waits with those before it, and the routine goes on (R251). -/
theorem uop_shadows {e : Shadow} (h : Runs s x k u) (may : reason = none ∨ u.cap = false)
    (ran : body (counted u) ((s.msq x).slot k).spec (s.setMicro x (counted u)) =
      (do let v ← uShadow (counted u) e; .ok ((s.setMicro x (counted u)).setMicro x v, none)))
    (added : uShadow u e = .ok v) (next : uNext (s.msq x) u.cap true (u.upc + 1) = .ok n) :
    s.uop x reason body = s.setMicro x (stepped v n) := by
  refine uop_routine h may (ran.trans ?_) (sameFlow_uShadow added) next
  rw [uShadow_counted, added]
  exact congrArg (fun t => Except.ok (t, none)) (setMicro_setMicro _ _ _ _)

/-- The shadows are applied to the state in which the routine stands, and the routine goes on from there (R251). -/
theorem uop_applies (h : Runs s x k u) (may : reason = none ∨ u.cap = false)
    (ran : body (counted u) ((s.msq x).slot k).spec (s.setMicro x (counted u)) =
      .ok (((s.setMicro x (counted u)).setMicro x v).applyShadows x ((s.setMicro x (counted u)).runK x), none))
    (applied : t = (s.setMicro x v).applyShadows x k) (on : (t.msq x).micro.on = true) (issued : (t.msq x).micro.fresh = false)
    (next : uNext (t.msq x) (t.msq x).micro.cap true ((t.msq x).micro.upc + 1) = .ok n) :
    s.uop x reason body = t.setMicro x { (t.msq x).micro with upc := n } := by
  rw [setMicro_setMicro, runK_setMicro _ _ _ h.run, ← applied] at ran
  exact uop_steps h may ran on issued next
end

theorem inSapWin_setMicro (s : State) (x : Act) (u : Micro) (a : Nat) : (s.setMicro x u).inSapWin x a = s.inSapWin x a := by
  simp only [State.inSapWin, get_setMicro]

/-- Settles O19: a shadowed micro-op adds its effect to the shadows; DISP, COMMIT and HALTS apply them. -/
theorem microShadows : Obligations.MicroShadows := by
  unfold Obligations.MicroShadows
  refine ⟨?setflg, ?clrflg, ?sts, ?wrr, ?tagld, ?bufa, ?ctxp, ?ckwr, ?rbks, ?commit, ?halts, ?disp, ?forbidden⟩
  case setflg => exact fun s x imm k u v n h added next => congrArg _ (uop_shadows h (.inl rfl) rfl added next)
  case clrflg => exact fun s x imm k u v n h added next => congrArg _ (uop_shadows h (.inl rfl) rfl added next)
  case sts =>
    intro s x m k u a b v n h ra rb inside added next
    refine congrArg _ (uop_shadows h (.inl rfl) ?_ added next)
    simp only [uRead_counted, ra, rb, inSapWin_setMicro]
    exact if_neg (Bool.eq_false_iff.1 inside)
  case wrr =>
    intro s x m k u a b v n h cap ra rb added next
    refine congrArg _ (uop_shadows h (.inl rfl) ?_ added next)
    simp only [uRead_counted, ra, rb]
    exact if_neg (Bool.eq_false_iff.1 cap)
  case tagld =>
    intro s x m k u a b v n h cap ra rb added next
    refine congrArg _ (uop_shadows h (.inr cap) ?_ added next)
    simp only [uRead_counted, ra, rb]
    rfl
  case bufa =>
    intro s x m k u a d v n h cap ra rd low high added next
    refine congrArg _ (uop_shadows h (.inr cap) ?_ added next)
    simp only [uRead_counted, ra, rd]
    exact if_pos ⟨low, high⟩
  case ctxp =>
    intro s x m k u a v n h cap ra added next
    refine congrArg _ (uop_shadows h (.inr cap) ?_ added next)
    simp only [uRead_counted, ra]
    rfl
  case ckwr => exact fun s x k u v n h cap added next => congrArg _ (uop_shadows h (.inr cap) rfl added next)
  case rbks =>
    intro s x m k u a b v n h ra rb added next
    refine congrArg _ (uop_shadows h (.inl rfl) ?_ added next)
    simp only [uRead_counted, ra, rb]
    rfl
  case commit =>
    exact fun s x k u t0 n h applied on issued next =>
      congrArg _ (uop_applies (v := { u with steps := 0 }) h (.inl rfl) rfl applied on issued next)
  case halts =>
    intro s x k u v t0 n h cap added applied on issued next
    refine congrArg _ (uop_applies (v := counted v) h (.inr cap) ?_ applied on issued next)
    simp only [uShadow_counted, added]
    rfl
  case disp =>
    intro s x k u t0 t1 h applied dispatched _ fresh
    refine congrArg _ (uop_dispatches h (.inl rfl) ?_ fresh)
    simp only [runK_setMicro _ _ _ h.run, ← applied, ← dispatched]
  case forbidden =>
    intro s x m k u h cap
    exact congrArg _ (uop_forbidden h cap 7)

end Sys2Proof.Proofs
end

section
/-!
PROOFS. The micro-ops that stall, and the end of a stall (R239, R241).
-/
namespace Sys2Proof.Proofs

open Sys2Proof.Machine Sys2Proof.Safety Sys2Proof.Laws

section
variable {s : State} {x : Act} {k n d : Nat} {u v : Micro} {w : Stall} {reason : Option Nat}
  {body : Micro → Arch → State → Except UErr (State × Option Nat)}

/-- A stall whose destination, where it has one, the micro-op may write (R237, R258, R260). -/
def Writable (u : Micro) (w : Stall) : Prop := ∀ d, w.dest = some d → ∃ v, uWrite u d 0 = .ok v

theorem writable_of_dest (dest : w.dest = some d) (may : uWrite u d 0 = .ok v) : Writable u w := by
  intro d' dest'
  rw [dest, Option.some.injEq] at dest'
  exact ⟨v, dest' ▸ may⟩

theorem writable_wait {m : Nat} : Writable u (.wait m) := by
  intro d dest
  cases dest

/-- A stall holds the routine in its micro-op (R239). -/
theorem uStall_eq (may : Writable u w) : s.uStall x u w = .ok (s.setMicro x { u with stall := some w }, none) := by
  unfold State.uStall
  cases dest : w.dest with
  | none => rfl
  | some d =>
    obtain ⟨v, written⟩ := may d dest
    simp only [written]

/-- A micro-op stalls, and the routine waits at the micro-address after it. -/
theorem uop_stalls (h : Runs s x k u) (may : reason = none ∨ u.cap = false)
    (ran : body (counted u) ((s.msq x).slot k).spec (s.setMicro x (counted u)) = (s.setMicro x (counted u)).uStall x (counted u) w)
    (writable : Writable (counted u) w) (next : uNext (s.msq x) u.cap true (u.upc + 1) = .ok n) :
    s.uop x reason body = s.setMicro x (stepped { u with stall := some w } n) := by
  refine uop_routine (v := { u with stall := some w }) h may (ran.trans ?_) ⟨rfl, rfl, rfl, rfl⟩ next
  rw [uStall_eq writable, setMicro_setMicro]
  rfl
end

theorem ptOk_setMicro (s : State) (x : Act) (u : Micro) (a : Nat) : (s.setMicro x u).ptOk x a = s.ptOk x a := by
  cases x <;> rfl

section
variable {s : State} {x : Act} {k r : Nat} {w : Stall} {reply v : Word}

/-- A temporary takes any value (R237). -/
theorem uWrite_temporary (u : Micro) (low : 0x40 ≤ r) (high : r ≤ 0x4F) (v : Word) :
    uWrite u r v = .ok { u with t := mset (fun _ => (0 : Word)) u.t (r - 0x40) v } :=
  (if_neg (Nat.not_lt.2 low)).trans (if_pos high)

/-- A stall ends with a value for a temporary: the routine goes on, its events as they were. -/
theorem exec_microStallEnd_temporary (run : (s.msq x).running = some k) (stall : (s.msq x).micro.stall = some w)
    (met : s.stallMet x w = true) (value : s.stallValue x reply w = (some (r, v), s)) (noBind : ∀ d c, w ≠ .ctxb d c)
    (noWait : ∀ m, w ≠ .wait m) (low : 0x40 ≤ r) (high : r ≤ 0x4F) : exec (.microStallEnd x reply) s = .next (s.setMicro x
      { (s.msq x).micro with stall := none, t := mset (fun _ => (0 : Word)) (s.msq x).micro.t (r - 0x40) v }) := by
  change execMicroStallEnd x reply s = _
  simp only [execMicroStallEnd, run, stall, met, value, Bool.not_true, Bool.false_eq_true, if_false]
  cases w with
  | wait m => exact absurd rfl (noWait m)
  | ctxb d c => exact absurd rfl (noBind d c)
  | _ => simp only [uWrite_temporary _ low high]

theorem exec_microStallEnd_unmet (run : (s.msq x).running = some k) (stall : (s.msq x).micro.stall = some w)
    (unmet : s.stallMet x w = false) : exec (.microStallEnd x reply) s = .next s := by
  change execMicroStallEnd x reply s = _
  simp only [execMicroStallEnd, run, stall, unmet, Bool.not_false, if_true]
end

/-- Settles O20: a micro-op stalls with its destination; the end of a stall brings D its value, and WAIT takes the events it waited for
(log 28). -/
theorem microStalls : Obligations.MicroStalls := by
  unfold Obligations.MicroStalls
  refine ⟨?wait, ?lds, ?ldz, ?ldpt, ?rdr, ?chwt, ?lpwt, ?plkr, ?ctxb, ?plkrEnd, ?ldsEnd, ?waitEnd, ?waitOn⟩
  case wait =>
    exact fun s x imm k u n h next => congrArg _ (uop_stalls h (.inl rfl) rfl writable_wait next)
  case lds =>
    intro s x m k u a v n h ra inside written next
    refine congrArg _ (uop_stalls h (.inl rfl) ?_ (writable_of_dest rfl written) next)
    simp only [uRead_counted, ra, inSapWin_setMicro]
    exact if_neg (Bool.eq_false_iff.1 inside)
  case ldz =>
    intro s x m k u a b v n h ra rb written next
    refine congrArg _ (uop_stalls h (.inl rfl) ?_ (writable_of_dest rfl written) next)
    simp only [uRead_counted, ra, rb]
    rfl
  case ldpt =>
    intro s x m k u a v n h ra table written next
    refine congrArg _ (uop_stalls h (.inl rfl) ?_ (writable_of_dest rfl written) next)
    simp only [uRead_counted, ra, ptOk_setMicro]
    exact if_neg (by rw [table]; decide)
  case rdr =>
    intro s x m k u a v n h cap ra written next
    refine congrArg _ (uop_stalls h (.inl rfl) ?_ (writable_of_dest rfl written) next)
    simp only [uRead_counted, ra]
    exact if_neg (Bool.eq_false_iff.1 cap)
  case chwt =>
    intro s x m k u a v n h ra written next
    refine congrArg _ (uop_stalls h (.inl rfl) ?_ (writable_of_dest rfl written) next)
    simp only [uRead_counted, ra]
    rfl
  case lpwt =>
    intro s x m k u a v n h ra written next
    refine congrArg _ (uop_stalls h (.inl rfl) ?_ (writable_of_dest rfl written) next)
    simp only [uRead_counted, ra]
    rfl
  case plkr =>
    intro s x m k u a v n h ra written next
    refine congrArg _ (uop_stalls h (.inl rfl) ?_ (writable_of_dest rfl written) next)
    simp only [uRead_counted, ra]
    rfl
  case ctxb =>
    intro s x m k u a v n h cap ra written next
    refine congrArg _ (uop_stalls h (.inr cap) ?_ (writable_of_dest rfl written) next)
    simp only [uRead_counted, ra]
    rfl
  case plkrEnd =>
    intro s x reply k q r run stall idle low high
    exact exec_microStallEnd_temporary run stall (by simp only [State.stallMet, idle]; rfl) rfl (by simp) (by simp) low high
  case ldsEnd =>
    intro s x reply k q r v run stall shadow low high
    exact exec_microStallEnd_temporary run stall rfl (by simp only [State.stallValue, shadow]) (by simp) (by simp) low high
  case waitEnd =>
    intro s x reply k mask run stall pending
    change execMicroStallEnd x reply s = _
    simp only [execMicroStallEnd, run, stall, State.stallMet, bne_iff_ne.2 pending, State.stallValue, Bool.not_true,
      Bool.false_eq_true, if_false]
  case waitOn =>
    intro s x reply k mask run stall none_
    exact exec_microStallEnd_unmet run stall (by simp only [State.stallMet, none_]; rfl)

end Sys2Proof.Proofs
end

section
/-!
PROOFS. KEYSEL (R239). The statement has it select the key slot of the context in the slot's CTX; the routine may have written CTX before,
and what it reads then is the shadow (R251).
-/
namespace Sys2Proof.Proofs

open Sys2Proof.Machine Sys2Proof.Safety

/-- A context whose media key is in key slot 7. -/
def keyedCtx : Ctx :=
  { st := 2, kind := 0, port := 0, unit := 0, tag := 0, sq := 0, write := false, lba := 0, len := 4, slot := some 7, status := 0,
    credited := 0, finals := 0, xferDone := false, cached := 0, queues := 3, at_ := 0, ordered := false, silent := false, hoq := false,
    keytag := none, caching := false, ended := none }

/-- A routine that has written 5 to CTX, and has not applied it. -/
def ctxShadowed : Micro := { Micro.idle with on := true, upc := 16, shadows := [.reg 0x34 5#32] }

/-- That routine runs for slot 0 of actuator A, which has no context bound; context 5 is in use, with its key. -/
def ctxShadowedRun : State :=
  ({ State.reset with ccx := { State.reset.ccx with ctxs := [(5, keyedCtx)] } }).setMsq .a
    { State.reset.msq .a with slots := [(0, { Slot.empty with st := .run })], micro := ctxShadowed }

theorem ctxShadowedRun_runs : Runs ctxShadowedRun .a 0 ctxShadowed :=
  ⟨by decide +kernel, by decide +kernel, by decide +kernel, by decide +kernel, rfl, rfl, rfl⟩

/-- The state in which the statement has KEYSEL end, its next micro-address apart. -/
def ctxSelected : State :=
  (ctxShadowedRun.setMicro .a (counted ctxShadowed)).selectKey .a ((ctxShadowedRun.msq .a).slot 0).spec.ctx

theorem ctxSelected_next : uNext (ctxSelected.msq .a) ctxShadowed.cap true (ctxShadowed.upc + 1) = .ok 17 := by
  decide +kernel

/-- Without a context bound the statement selects no key slot. -/
theorem ctxSelected_keySlot : (ctxSelected.msq .a).keySlot = none := by
  decide +kernel

/-- The key slot that actuator A's XTS traffic uses after a command, none where the command does not answer. -/
def keySlotAfter : Out → Option Nat
  | .next t => (t.msq .a).keySlot
  | _ => none

/-- KEYSEL selects the key slot of the context that the routine wrote to CTX. -/
theorem keysel_ctxShadowedRun : keySlotAfter (exec (.uopKeysel .a { d := 0, a := 0, b := 0 }) ctxShadowedRun) = some 7 := by
  decide +kernel

/-- Refutes O21: a routine writes 5 to CTX and then runs KEYSEL. The model selects context 5's key slot (R251); the clause has it select that
of the CTX in the slot, which is none. -/
theorem not_microUnits : ¬ Obligations.MicroUnits := by
  unfold Obligations.MicroUnits
  rintro ⟨-, -, -, -, -, -, -, -, -, -, -, -, -, keyselClause, -⟩
  have answer := keyselClause ctxShadowedRun .a { d := 0, a := 0, b := 0 } 0 ctxShadowed ctxSelected 17 ctxShadowedRun_runs rfl rfl
    ctxSelected_next
  have selected := keysel_ctxShadowedRun
  rw [answer] at selected
  exact absurd (selected.symm.trans ctxSelected_keySlot) (by decide)

end Sys2Proof.Proofs
end

section
/-!
PROOFS. The loading of Sapwood through UCS_SAPCTLx, UCS_SAPADDRx and UCS_SAPDATAx (R256, R261, R262).
-/
namespace Sys2Proof.Proofs

open Sys2Proof.Machine Sys2Proof.Safety Sys2Proof.Laws

section
variable {s : State} {x : Act} {i : Initiator} {v : Word}

theorem exec_sapwoodLoadOpen (act : s.actOk x = true) (load : Bool) : exec (.sapwoodLoadOpen x load) s = .next (s.sapLoad x load) :=
  if_pos act

theorem exec_sapdataAccess_write (act : s.actOk x = true) : exec (.sapdataAccess i x true v) s = .next (s.sapWrite x v) :=
  if_neg (by simp [act])

theorem exec_sapdataAccess_read (act : s.actOk x = true) :
    exec (.sapdataAccess i x false v) s = .next ((s.sapRead x).2.setRead i ((s.sapRead x).1.zeroExtend 64)) :=
  if_neg (by simp [act])

/-! ### LOAD -/

theorem sapLoad_held (held : s.see (Fld.MSQ_STAT_HELD x) = 1) : s.sapLoad x true = s.putb (Fld.UCS_SAPCTL_LOAD x) true := by
  simp only [State.sapLoad, held, Bool.not_true, Bool.false_eq_true, if_false, if_true]

theorem sapLoad_free (free : s.see (Fld.MSQ_STAT_HELD x) ≠ 1) :
    s.sapLoad x true = (s.putb (Fld.UCS_SAPCTL_LOAD x) false).raise Fld.UCS_EV_LOADREJ := by
  simp only [State.sapLoad, free, Bool.not_true, Bool.false_eq_true, if_false]

/-! ### The address -/

theorem sapNext_keeps (s : State) (x : Act) : Keeps [] [Fld.UCS_SAPADDR_ADDR x] s (s.sapNext x) := State_put_keeps _ _ _

/-- Below the end of the table the address does not wrap. -/
theorem get_sapNext (inside : s.get (Fld.UCS_SAPADDR_ADDR x) < 0x840) :
    (s.sapNext x).get (Fld.UCS_SAPADDR_ADDR x) = s.get (Fld.UCS_SAPADDR_ADDR x) + 1 := by
  have put : (s.sapNext x).get (Fld.UCS_SAPADDR_ADDR x) = (s.get (Fld.UCS_SAPADDR_ADDR x) + 1) % 2 ^ 12 :=
    get_put _ _ _ (by cases x <;> decide)
  omega

theorem msq_sapNext (s : State) (x : Act) : (s.sapNext x).msq x = s.msq x := keeps_msq (sapNext_keeps s x) (by decide) x

/-! ### What a write stores -/

/-- A write while Sapwood is not open changes the address alone. -/
theorem sapWrite_shut (shut : s.flag (Fld.UCS_SAPCTL_LOAD x) = false) : s.sapWrite x v = s.sapNext x := by
  simp only [State.sapWrite, shut, Bool.not_false, if_true]

/-- The sequencer with a word of Sapwood stored where the address points. -/
def withWord (s : State) (x : Act) (v : Word) : Msq :=
  { s.msq x with ucs := { (s.msq x).ucs with
    sap := mset (fun _ => (0 : Word)) (s.msq x).ucs.sap (0x4800 + s.get (Fld.UCS_SAPADDR_ADDR x)) v } }

theorem sap_withWord (s : State) (x : Act) (v : Word) :
    mget (fun _ => (0 : Word)) (withWord s x v).ucs.sap (0x4800 + s.get (Fld.UCS_SAPADDR_ADDR x)) = v :=
  mget_mset _ _ _ _

/-- The sequencer with an entry of the Sapwood table stored where the address points. -/
def withEntry (s : State) (x : Act) (v : Word) : Msq :=
  { s.msq x with ucs := { (s.msq x).ucs with
    sapTab := mset (fun _ => 0) (s.msq x).ucs.sapTab (s.get (Fld.UCS_SAPADDR_ADDR x) - 0x800) (sapEntry v.toNat) } }

theorem sapTab_withEntry (s : State) (x : Act) (v : Word) :
    mget (fun _ => 0) (withEntry s x v).ucs.sapTab (s.get (Fld.UCS_SAPADDR_ADDR x) - 0x800) = sapEntry v.toNat :=
  mget_mset _ _ _ _

theorem sapWrite_word (opened : s.flag (Fld.UCS_SAPCTL_LOAD x) = true) (word : s.get (Fld.UCS_SAPADDR_ADDR x) < 0x800) :
    s.sapWrite x v = (s.setMsq x (withWord s x v)).sapNext x := by
  simp only [State.sapWrite, opened, word, Bool.not_true, Bool.false_eq_true, if_false, if_true, withWord]

theorem sapWrite_entry (opened : s.flag (Fld.UCS_SAPCTL_LOAD x) = true) (above : 0x800 ≤ s.get (Fld.UCS_SAPADDR_ADDR x))
    (entry : s.get (Fld.UCS_SAPADDR_ADDR x) < 0x840) : s.sapWrite x v = (s.setMsq x (withEntry s x v)).sapNext x := by
  simp only [State.sapWrite, opened, Nat.not_lt.2 above, entry, Bool.not_true, Bool.false_eq_true, if_false, if_true, withEntry]

/-- What a write that stores leaves: the sequencer as stored, the address moved on, everything else as it was. -/
theorem sapNext_stored (m : Msq) (inside : s.get (Fld.UCS_SAPADDR_ADDR x) < 0x840) :
    ((s.setMsq x m).sapNext x).msq x = m ∧
      ((s.setMsq x m).sapNext x).get (Fld.UCS_SAPADDR_ADDR x) = s.get (Fld.UCS_SAPADDR_ADDR x) + 1 ∧
      Keeps [.msq] [Fld.UCS_SAPADDR_ADDR x] s ((s.setMsq x m).sapNext x) := by
  have same : (s.setMsq x m).get (Fld.UCS_SAPADDR_ADDR x) = s.get (Fld.UCS_SAPADDR_ADDR x) := by cases x <;> rfl
  refine ⟨(msq_sapNext _ x).trans (msq_setMsq s x m), ?_, keeps_put (by cases x <;> decide)
    (keeps_setMsq (within_nil rfl) (keeps_refl _ _ _))⟩
  rw [get_sapNext (same ▸ inside), same]
end

/-- Settles O24: LOAD opens in a held sequencer alone; a write of SAPDATA stores while it is open, and a read shows what is stored. -/
theorem sapwoodLoading : Obligations.SapwoodLoading := by
  unfold Obligations.SapwoodLoading
  refine ⟨?opens, ?rejected, ?shuts, ?word, ?entry, ?ignored, ?read⟩
  case opens =>
    intro s x act held
    rw [exec_sapwoodLoadOpen act, sapLoad_held held]
    exact ⟨_, rfl, flag_putb _ _ _ (by cases x <;> decide) rfl, State_putb_keeps _ _ _⟩
  case rejected =>
    intro s x act notHeld
    rw [exec_sapwoodLoadOpen act, sapLoad_free notHeld]
    refine ⟨_, rfl, ?_, flag_raise _ _ (by decide) rfl (by decide),
      keeps_raise (by cases x <;> decide) (keeps_putb (by cases x <;> decide) (keeps_refl _ _ _))⟩
    rw [keeps_flag (raise_keeps _ _) _ (by decide) (by cases x <;> decide)]
    exact flag_putb _ _ _ (by cases x <;> decide) rfl
  case shuts =>
    intro s x act
    exact ⟨_, exec_sapwoodLoadOpen act false, flag_putb _ _ _ (by cases x <;> decide) rfl, State_putb_keeps _ _ _⟩
  case word =>
    intro s i x v act opened word
    obtain ⟨stored, kept⟩ := sapNext_stored (s := s) (x := x) (withWord s x v) (Nat.lt_trans word (by decide))
    rw [exec_sapdataAccess_write act, sapWrite_word opened word]
    exact ⟨_, rfl, by rw [stored, sap_withWord], kept⟩
  case entry =>
    intro s i x v act opened above entry
    obtain ⟨stored, kept⟩ := sapNext_stored (s := s) (x := x) (withEntry s x v) entry
    rw [exec_sapdataAccess_write act, sapWrite_entry opened above entry]
    exact ⟨_, rfl, by rw [stored, sapTab_withEntry, sapEntry], kept⟩
  case ignored =>
    intro s i x v act shut
    exact ⟨_, (exec_sapdataAccess_write act).trans (congrArg _ (sapWrite_shut shut)), msq_sapNext s x, sapNext_keeps s x⟩
  case read =>
    intro s i x v act
    refine ⟨_, exec_sapdataAccess_read act, ?_, keeps_setRead (by cases x <;> decide)
      (keeps_mono (sapNext_keeps s x) (by cases x <;> decide))⟩
    refine (mget_mset _ _ _ _).trans (congrArg (BitVec.zeroExtend 64) ?_)
    cases opened : s.flag (Fld.UCS_SAPCTL_LOAD x) <;> simp [State.sapRead, opened]

end Sys2Proof.Proofs
end

section
/-!
PROOFS. A mailbox request and its answer (R609, R613, R614), and the words of the generator (R572).
-/
namespace Sys2Proof.Proofs

open Sys2Proof.Machine Sys2Proof.Safety Sys2Proof.Laws

/-! ### A request in hand -/

section
variable {s : State} {code : Nat}

theorem code_of_asked (h : Asked s code) : s.get Fld.HWD_MBCMD_CODE = code := by
  obtain ⟨_, _, same, _, _⟩ := h
  exact same

/-- A request in hand with its own LEN is served by its command's body. -/
theorem mailbox_asked (h : Asked s code) (body : State → State) : s.mailbox code body = body s := by
  obtain ⟨go, ready, rfl, erase, len⟩ := h
  simp [State.mailbox, go, ready, erase, len]

/-- Without GO there is no request. -/
theorem mailbox_idle (idle : s.flag Fld.HWD_MBCTL_GO = false) (body : State → State) : s.mailbox code body = s := by
  simp [State.mailbox, idle]
end

/-! ### The response words -/

/-- The response words written from HWD_MBRSP0 on (R609). -/
def responded (s : State) (rsp : List Word) : State := (rsp.zipIdx).foldl (fun t e => t.wr (Reg.HWD_MBRSP (e.2 % 64)) e.1) s

theorem response_mem (k : Nat) : (⟨Reg.HWD_MBRSP (k % 64), 0, 32⟩ : Field) ∈ responseFields :=
  List.mem_map.2 ⟨k % 64, List.mem_range.2 (Nat.mod_lt _ (by decide)), rfl⟩

theorem responded_keeps (s : State) (rsp : List Word) : Keeps [] responseFields s (responded s rsp) :=
  keeps_foldl (fun t e => keeps_wr (within_of_subset (List.Subset.refl _) (List.cons_subset.2 ⟨response_mem e.2, List.nil_subset _⟩))
    (keeps_refl _ _ t)) (keeps_refl _ _ s)

/-- Words written from one place on leave the registers before it. -/
theorem rd_responses_before (rsp : List Word) (n : Nat) (s : State) {k : Nat} (before : k < n) (room : n + rsp.length ≤ 64) :
    ((rsp.zipIdx n).foldl (fun t e => t.wr (Reg.HWD_MBRSP (e.2 % 64)) e.1) s).rd (Reg.HWD_MBRSP k) = s.rd (Reg.HWD_MBRSP k) := by
  induction rsp generalizing n s with
  | nil => rfl
  | cons w rsp ih =>
    rw [List.length_cons] at room
    rw [List.zipIdx_cons, List.foldl_cons, ih (n + 1) _ (by omega) (by omega)]
    refine rd_wr_ne _ _ _ _ ?_
    simp only [Reg.HWD_MBRSP]
    omega

theorem rd_responses (rsp : List Word) (n : Nat) (s : State) {k : Nat} (inside : k < rsp.length) (room : n + rsp.length ≤ 64) :
    ((rsp.zipIdx n).foldl (fun t e => t.wr (Reg.HWD_MBRSP (e.2 % 64)) e.1) s).rd (Reg.HWD_MBRSP (n + k)) = rsp[k] := by
  induction rsp generalizing n s k with
  | nil => exact absurd inside (Nat.not_lt_zero k)
  | cons w rsp ih =>
    rw [List.length_cons] at inside room
    rw [List.zipIdx_cons, List.foldl_cons]
    cases k with
    | zero =>
      rw [Nat.mod_eq_of_lt (by omega), Nat.add_zero, rd_responses_before rsp (n + 1) _ (by omega) (by omega)]
      exact rd_wr _ _ _
    | succ k =>
      rw [show n + (k + 1) = n + 1 + k by omega]
      exact ih (n + 1) _ (by omega) (by omega)

/-- Response word k of at most 64. -/
theorem rd_responded (s : State) {rsp : List Word} {k : Nat} (inside : k < rsp.length) (room : rsp.length ≤ 64) :
    (responded s rsp).rd (Reg.HWD_MBRSP k) = rsp[k] := by
  have word := rd_responses rsp 0 s inside (by omega)
  rwa [Nat.zero_add] at word

/-! ### The answer -/

theorem svcEnd_keeps (s : State) (kind : Nat) (v : Int) : Keeps [.apc] [] s (s.svcEnd kind v) := by
  have ret (t : State) (c : Nat) : Keeps [.apc] [] t (t.setRet c v) :=
    keeps_ite (keeps_set_apc (by decide) (keeps_refl _ _ _)) (keeps_set_apc (by decide) (keeps_refl _ _ _))
  unfold State.svcEnd
  split
  · exact keeps_ite (keeps_trans (keeps_set_apc (by decide) (keeps_refl _ _ _)) (ret _ _)) (keeps_refl _ _ _)
  · exact keeps_refl _ _ _

/-- The end of a request (R609, R681): the time it took, GO cleared, an event, and the core's service that waited for it. -/
def requestEnd (s : State) (elapsed : Nat) (event : Field) (status : Int) : State :=
  (((s.put Fld.HWD_MBTMO_ELAPSED elapsed).putb Fld.HWD_MBCTL_GO false).raise event).svcEnd 3 status

/-- The fields that the end of a request writes beside its event. -/
def endFields : List Field := recFields ++ [Fld.HWD_MBCTL_GO, Fld.HWD_MBTMO_ELAPSED]

section
variable {s : State} {elapsed : Nat} {event : Field} {status : Int}

theorem requestEnd_keeps : Keeps [.apc, .rbk] (event :: endFields) s (requestEnd s elapsed event status) :=
  keeps_via (svcEnd_keeps _ _ _) (within_nil rfl) (keeps_raise (within_cons_cons (R := endFields) (R1 := recFields) (by decide))
    (keeps_putb (within_cons (by decide)) (keeps_put (within_cons (by decide)) (keeps_refl _ _ _))))

/-- What the service's end and the event leave of a field. -/
theorem get_requestEnd (f : Field) (apart : (event :: recFields).all (fun g => Apart g f) = true) :
    (requestEnd s elapsed event status).get f =
      ((s.put Fld.HWD_MBTMO_ELAPSED elapsed).putb Fld.HWD_MBCTL_GO false).get f :=
  (keeps_get (svcEnd_keeps _ _ _) f (by decide) rfl).trans (keeps_get (raise_keeps _ event) f (by decide) apart)

theorem flag_go_requestEnd (apart : (event :: recFields).all (fun g => Apart g Fld.HWD_MBCTL_GO) = true) :
    (requestEnd s elapsed event status).flag Fld.HWD_MBCTL_GO = false := by
  rw [State.flag, get_requestEnd _ apart]
  exact flag_putb _ _ _ (by decide) rfl

theorem elapsed_requestEnd (apart : (event :: recFields).all (fun g => Apart g Fld.HWD_MBTMO_ELAPSED) = true) :
    (requestEnd s elapsed event status).get Fld.HWD_MBTMO_ELAPSED = elapsed % 2 ^ 16 := by
  rw [get_requestEnd _ apart, get_putb_other _ _ _ _ (by decide) (by decide)]
  exact get_put _ _ _ (by decide)

theorem flag_event_requestEnd (fits : Fits event = true) (one : event.len = 1) (apart : recFields.all (fun g => Apart g event) = true) :
    (requestEnd s elapsed event status).flag event = true :=
  (keeps_flag (svcEnd_keeps _ _ _) event (by decide) rfl).trans (flag_raise _ event fits one apart)
end

section
variable {s t : State} {status code : Nat} {rsp : List Word}

/-- An answer is its words, MBRES, and the end of the request (R609). -/
theorem hwdAnswer_eq (s : State) (status : Nat) (rsp : List Word) : s.hwdAnswer status rsp =
    requestEnd ((responded s rsp).wr Reg.HWD_MBRES
      (BitVec.ofNat 32 (status * 2 ^ 24 + s.get Fld.HWD_MBCMD_CODE * 2 ^ 16 + rsp.length)))
      (min 0xFFFF ((s.now - s.hwd.goAt) / 800000)) Fld.HWD_EV_DONE status := rfl

theorem hwdAnswer_keeps (s : State) (status : Nat) (rsp : List Word) : Keeps [.apc, .rbk] mailFields s (s.hwdAnswer status rsp) := by
  rw [hwdAnswer_eq]
  refine keeps_via requestEnd_keeps (within_of_subset (List.Subset.refl _) ?_) (keeps_wr (within_of_subset (by decide) ?_)
    (keeps_mono (responded_keeps s rsp) (within_of_subset (by decide) ?_)))
  · simp [endFields, mailFields]
  · simp [mailFields]
  · simp [mailFields]

/-- A request's answer: MBRES, GO and HWD_EV_DONE. -/
theorem hwdAnswer_answered (same : s.get Fld.HWD_MBCMD_CODE = code) {n : Nat} (length : rsp.length = n) :
    Answered (s.hwdAnswer status rsp) code status n := by
  rw [hwdAnswer_eq, same, length]
  refine ⟨?_, flag_go_requestEnd (by decide), flag_event_requestEnd (by decide) rfl (by decide)⟩
  exact (keeps_rd requestEnd_keeps _ (by decide) (by decide)).trans (rd_wr _ _ _)

/-- Its response word k. -/
theorem rd_hwdAnswer (room : rsp.length ≤ 64) {k : Nat} (inside : k < rsp.length) :
    (s.hwdAnswer status rsp).rd (Reg.HWD_MBRSP k) = rsp[k] := by
  have apart (a : Nat) (low : a < 0x80170200) : Reg.HWD_MBRSP k ≠ a := by
    simp only [Reg.HWD_MBRSP]
    omega
  have high (a : Nat) (far : 0x80170300 ≤ a) : Reg.HWD_MBRSP k ≠ a := by
    simp only [Reg.HWD_MBRSP]
    omega
  rw [hwdAnswer_eq, keeps_rd requestEnd_keeps _ (by decide), rd_wr_ne _ _ _ _ (apart _ (by decide)), rd_responded s inside room]
  simp only [endFields, recFields, List.cons_append, List.nil_append, List.all_cons, List.all_nil, Bool.and_true, Bool.and_eq_true,
    decide_eq_true_eq, ne_eq]
  exact ⟨(apart _ (by decide)).symm, (high _ (by decide)).symm, (high _ (by decide)).symm, (apart _ (by decide)).symm,
    (apart _ (by decide)).symm⟩

/-- A field that no answer writes. -/
theorem get_hwdAnswer (f : Field) (apart : mailFields.all (fun g => Apart g f) = true) : (s.hwdAnswer status rsp).get f = s.get f :=
  keeps_get (hwdAnswer_keeps s status rsp) f (by decide) apart

theorem flag_hwdAnswer (f : Field) (apart : mailFields.all (fun g => Apart g f) = true) :
    (s.hwdAnswer status rsp).flag f = s.flag f :=
  keeps_flag (hwdAnswer_keeps s status rsp) f (by decide) apart

@[simp] theorem hwd_hwdAnswer : (s.hwdAnswer status rsp).hwd = s.hwd := (hwdAnswer_keeps s status rsp).part .hwd (by decide) (by decide)

@[simp] theorem sys_hwdAnswer : (s.hwdAnswer status rsp).sys = s.sys := keeps_sys (hwdAnswer_keeps s status rsp) (by decide)

theorem msq_hwdAnswer (x : Act) : (s.hwdAnswer status rsp).msq x = s.msq x := keeps_msq (hwdAnswer_keeps s status rsp) (by decide) x

/-- An answer given in a state that a frame reaches from the request's. -/
theorem answer_keeps {P : List Part} {F : List Field} (kept : Keeps P F s t) (parts : [.apc, .rbk] ⊆ P) (fields : mailFields ⊆ F) :
    Keeps P F s (t.hwdAnswer status rsp) :=
  keeps_via (hwdAnswer_keeps t status rsp) (within_of_subset parts fields) kept
end

/-- The floor is kept with Heartwood's own state (R620). -/
theorem floor_of_hwd {s t : State} (same : t.hwd = s.hwd) : t.floor = s.floor := by
  simp only [State.floor, same]

/-! ### The generator (R572) -/

theorem freeWords_keeps (n : Nat) (s : State) : Keeps [.free] [] s (State.freeWords n s).2 := by
  induction n generalizing s with
  | zero => exact keeps_refl _ _ _
  | succ n ih => exact keeps_trans (keeps_set_freeCtr (by decide) (keeps_refl _ _ _)) (ih _)

theorem length_freeWords (n : Nat) (s : State) : (State.freeWords n s).1.length = n := by
  induction n generalizing s with
  | zero => rfl
  | succ n ih => exact congrArg (· + 1) (ih _)

theorem generate_keeps (s : State) (n : Nat) : Keeps [.free, .hwd] [] s (s.generate n).2 :=
  keeps_set_hwd (by decide) (keeps_mono (freeWords_keeps n s) (by decide))

theorem length_generate (s : State) (n : Nat) : (s.generate n).1.length = n := length_freeWords n s

/-- The request's code is as it was after a generate request. -/
theorem code_generate {s : State} {code : Nat} (h : Asked s code) (n : Nat) : (s.generate n).2.get Fld.HWD_MBCMD_CODE = code :=
  (keeps_get (generate_keeps s n) _ (by decide) rfl).trans (code_of_asked h)

end Sys2Proof.Proofs
end

section
/-!
PROOFS. The other mailbox commands, request by request (R264, R609 to R626): what each answers, and in which state.
-/
namespace Sys2Proof.Proofs

open Sys2Proof.Machine Sys2Proof.Safety Sys2Proof.Laws

section
variable {s t : State} {c : Instr} {code status : Nat}

/-- The request's code in a state that a frame reaches from the request's. -/
theorem code_after {P : List Part} {F : List Field} (h : Asked s code) (kept : Keeps P F s t) (noRegs : Part.regs ∉ P)
    (apart : F.all (fun f => Apart f Fld.HWD_MBCMD_CODE) = true) : t.get Fld.HWD_MBCMD_CODE = code :=
  (keeps_get kept _ noRegs apart).trans (code_of_asked h)

/-- An answer without words, given in the request's own state: what every refusal is (R614). -/
theorem refusal (h : Asked s code) (answer : exec c s = .next (s.hwdAnswer status [])) :
    ∃ t, exec c s = .next t ∧ Answered t code status 0 ∧ Keeps [.apc, .rbk] mailFields s t :=
  ⟨_, answer, hwdAnswer_answered (code_of_asked h) rfl, hwdAnswer_keeps _ _ _⟩

/-- An answer of n words after a generate request (R572). -/
theorem generated {n m : Nat} {rsp : List Word} (h : Asked s code) (length : rsp.length = m)
    (answer : exec c s = .next ((s.generate n).2.hwdAnswer status rsp)) :
    ∃ t, exec c s = .next t ∧ Answered t code status m ∧ Keeps [.apc, .free, .hwd, .rbk] mailFields s t :=
  ⟨_, answer, hwdAnswer_answered (code_generate h n) length,
    answer_keeps (keeps_mono (generate_keeps s n) (within_nil rfl)) (by decide) (List.Subset.refl _)⟩

theorem length_digest (code : Nat) (ws : List Word) : (digest code ws).length = 12 := by
  simp [digest]

/-! ### GETINFO, RANDOM, SIGN -/

/-- The words of GETINFO's answer (R613). -/
def infoWords (s : State) : List Word :=
  [BitVec.ofNat 32 s.hwd.devId.toNat, BitVec.ofNat 32 (s.hwd.devId.toNat / 2 ^ 32), Config.bootRomRelease,
    BitVec.ofNat 32 (s.pins.variant + s.get Fld.HWD_STAT_DBGLVL * 2 ^ 8 + s.get Fld.HWD_STAT_ROOTOK * 2 ^ 16)]

theorem exec_getinfo (h : Asked s 1) : exec .getinfo s = .next (s.hwdAnswer 0 (infoWords s)) := congrArg Host.Outcome.next (mailbox_asked h _)

/-- The words of RANDOM's answer: the last one carries the bytes that are left (R613). -/
def randomWords (n : Nat) (ws : List Word) : List Word :=
  ws.zipIdx.map (fun e => if 4 * e.2 + 4 ≤ n then e.1 else BitVec.ofNat 32 (nbits e.1.toNat 0 (8 * (n % 4))))

theorem length_randomWords (n : Nat) (ws : List Word) : (randomWords n ws).length = ws.length := by
  simp [randomWords]

theorem exec_random (h : Asked s 6) (some_ : 1 ≤ (s.req 0).toNat) (few : (s.req 0).toNat ≤ 256) (ent : s.flag Fld.HWD_STAT_ENTOK = true) :
    exec .random s = .next ((s.generate (((s.req 0).toNat + 3) / 4)).2.hwdAnswer 0
      (randomWords (s.req 0).toNat (s.generate (((s.req 0).toNat + 3) / 4)).1)) := by
  have inRange : ¬ ((s.req 0).toNat = 0 ∨ 256 < (s.req 0).toNat) := by omega
  refine congrArg Host.Outcome.next ((mailbox_asked h _).trans ?_)
  simp only [inRange, ent, Bool.not_true, Bool.false_eq_true, if_false]
  rfl

theorem exec_random_tooMany (h : Asked s 6) (many : 256 < (s.req 0).toNat) : exec .random s = .next (s.hwdAnswer 2 []) := by
  refine congrArg Host.Outcome.next ((mailbox_asked h _).trans ?_)
  simp only [many, or_true, if_true]

theorem exec_sign (h : Asked s 11) (root : s.flag Fld.HWD_STAT_ROOTOK = true) (ent : s.flag Fld.HWD_STAT_ENTOK = true) :
    exec .sign s = .next ((s.generate 24).2.hwdAnswer 0 (s.generate 24).1) := by
  refine congrArg Host.Outcome.next ((mailbox_asked h _).trans ?_)
  simp only [root, ent, Bool.not_true, Bool.false_eq_true, if_false]

theorem exec_sign_noRoot (h : Asked s 11) (root : s.flag Fld.HWD_STAT_ROOTOK = false) : exec .sign s = .next (s.hwdAnswer 7 []) := by
  refine congrArg Host.Outcome.next ((mailbox_asked h _).trans ?_)
  simp only [root, Bool.not_false, if_true]

/-! ### IMGVERIFY (R617, R621) -/

/-- The address that a request's first two words spell. -/
def reqAddr (s : State) : Nat := (s.req 0).toNat + (s.req 1).toNat * 2 ^ 32

/-- The answer to an accepted image (R613). -/
def imgWords (s : State) (svn : Nat) : List Word :=
  BitVec.ofNat 32 svn :: digest 0x07 [s.req 0, s.req 1, s.req 2, BitVec.ofNat 32 s.freeCtr]

theorem length_imgWords (s : State) (svn : Nat) : (imgWords s svn).length = 13 := congrArg (· + 1) (length_digest _ _)

theorem imgJudge_accepted {addr len svn : Nat} {b : List Byte} {patch : Option PatchImg} (version : leNat ((b.drop 8).take 4) = svn)
    (magic : b.take 4 = [0x47#8, 0x52#8, 0x4C#8, 0x4E#8]) (format : leNat ((b.drop 4).take 4) = 0x10000) (high : svn ≤ 4095)
    (floor : s.floor ≤ svn) : s.imgJudge addr len b true true patch = (s.imgTake addr len patch).hwdAnswer 0 (imgWords s svn) := by
  simp only [State.imgJudge, version, magic, format, high, Nat.not_lt.2 floor, decide_true, Bool.true_and, Bool.and_true, if_false]
  rfl

theorem imgJudge_unsigned {addr len : Nat} {b : List Byte} {ok : Bool} {patch : Option PatchImg} :
    s.imgJudge addr len b ok false patch = s.hwdAnswer 4 [] := by
  simp only [State.imgJudge, Bool.and_false, Bool.not_false, if_true]

theorem imgTake_keeps (s : State) (addr len : Nat) (patch : Option PatchImg) : Keeps [.hwd, .sys] [] s (s.imgTake addr len patch) :=
  keeps_set_hwd_sys (by decide) (keeps_refl _ _ _)

theorem exec_imgverify {sigs : Bool} {patch : Option PatchImg} (h : Asked s 7) (long : 0x100 ≤ (s.req 2).toNat)
    (inside : s.inMem (reqAddr s) (s.req 2).toNat = true) {b : List Byte} {ok : Bool}
    (read : State.bytesAt 7 16 (reqAddr s) s = ((b, ok), t)) :
    exec (.imgverify sigs patch) s = .next (t.imgJudge (reqAddr s) (s.req 2).toNat b ok sigs patch) := by
  refine congrArg Host.Outcome.next ((mailbox_asked h _).trans ?_)
  rw [reqAddr] at inside read
  simp only [State.imgCheck, Nat.not_lt.2 long, inside, read, Bool.true_eq_false, or_self, if_false, reqAddr]

theorem exec_imgverify_unsigned {patch : Option PatchImg} (h : Asked s 7) (long : 0x100 ≤ (s.req 2).toNat)
    (inside : s.inMem (reqAddr s) (s.req 2).toNat = true) :
    exec (.imgverify false patch) s = .next ((State.bytesAt 7 16 (reqAddr s) s).2.hwdAnswer 4 []) := by
  refine congrArg Host.Outcome.next ((mailbox_asked h _).trans ?_)
  rw [reqAddr] at inside
  simp only [State.imgCheck, Nat.not_lt.2 long, inside, Bool.true_eq_false, or_self, if_false, imgJudge_unsigned, reqAddr]

theorem exec_imgverify_short {sigs : Bool} {patch : Option PatchImg} (h : Asked s 7) (short : (s.req 2).toNat < 0x100) :
    exec (.imgverify sigs patch) s = .next (s.hwdAnswer 2 []) := by
  refine congrArg Host.Outcome.next ((mailbox_asked h _).trans ?_)
  simp only [State.imgCheck, short, true_or, if_true]

/-! ### PATCHLOAD (R264, R621) -/

/-- The comparators that a patch leaves of a sequencer's. -/
def patchComps (m : Msq) (p : PatchImg) : List (Nat × Nat × Nat) :=
  p.comps.foldl (fun q e => match e.2 with
    | some c => mput q e.1 c
    | none => mdel q e.1) m.ucs.comps

/-- A sequencer with a patch in its store, comparators and dispatch entries. -/
def patchedMsq (m : Msq) (p : PatchImg) : Msq :=
  { m with ucs := { m.ucs with
    patch := p.words.foldl (fun q e => mput q e.1 e.2) m.ucs.patch
    comps := patchComps m p
    disp := p.disp.foldl (fun q e => mput q e.1 e.2) m.ucs.disp } }

/-- A patch loaded into an actuator's sequencer. -/
def patchLoaded (s : State) (x : Act) (p : PatchImg) : State :=
  ((((s.setMsq x (patchedMsq (s.msq x) p)).put (Fld.UCS_PATCH_VER x) p.release).put (Fld.UCS_PATCH_NCMP x)
    (patchComps (s.msq x) p).length).raise (byAct x Fld.UCS_EV_PATCHA Fld.UCS_EV_PATCHB)).setMeas (3 + x.idx)
    (digest 0x08 [BitVec.ofNat 32 p.release])

theorem exec_patchload {x : Act} {p : PatchImg} (h : Asked s 8) (named : x = (if (s.req 0).getLsbD 0 = true then Act.b else Act.a))
    (act : s.actOk x = true) (hold : s.flag (Fld.MSQ_CTL_HOLD x) = true) (idle : (s.msq x).running = none)
    (kept : s.hwd.patch = some p) : exec .patchload s = .next ((patchLoaded s x p).hwdAnswer 0 [BitVec.ofNat 32 p.release]) := by
  refine congrArg Host.Outcome.next ((mailbox_asked h _).trans ?_)
  simp only [← named, act, hold, idle, kept, Option.isNone_none, Bool.and_true, Bool.not_true, Bool.or_false, Bool.false_eq_true,
    if_false]
  rfl

theorem exec_patchload_notHeld (h : Asked s 8) (named : (s.req 0).getLsbD 0 = false) (free : s.flag (Fld.MSQ_CTL_HOLD .a) = false) :
    exec .patchload s = .next (s.hwdAnswer 3 []) := by
  refine congrArg Host.Outcome.next ((mailbox_asked h _).trans ?_)
  simp only [named, free, Bool.false_eq_true, if_false, Bool.false_and, Bool.not_false, Bool.or_true, if_true]

/-- The fields that a patch in actuator x's sequencer writes. -/
def patchFields (x : Act) : List Field :=
  [byAct x Fld.UCS_EV_PATCHA Fld.UCS_EV_PATCHB, Fld.RBK_EV_DROP, Fld.RBK_CTL_FLUSH, Fld.UCS_PATCH_NCMP x, Fld.UCS_PATCH_VER x]

theorem patchLoaded_keeps (s : State) (x : Act) (p : PatchImg) : Keeps [.hwd, .msq, .rbk] (patchFields x) s (patchLoaded s x p) :=
  keeps_set_hwd (within_nil rfl) (keeps_raise (by cases x <;> decide) (keeps_put (by cases x <;> decide) (keeps_put (by cases x <;> decide)
    (keeps_setMsq (within_nil rfl) (keeps_refl _ _ _)))))

theorem msq_patchLoaded (s : State) (x : Act) (p : PatchImg) : (patchLoaded s x p).msq x = patchedMsq (s.msq x) p := by
  have kept : Keeps [.hwd, .rbk] (patchFields x) (s.setMsq x (patchedMsq (s.msq x) p)) (patchLoaded s x p) :=
    keeps_set_hwd (within_nil rfl) (keeps_raise (by cases x <;> decide) (keeps_put (by cases x <;> decide) (keeps_put (by cases x <;> decide)
      (keeps_refl _ _ _))))
  rw [keeps_msq kept (by decide), msq_setMsq]

theorem flag_patchLoaded (s : State) (x : Act) (p : PatchImg) :
    (patchLoaded s x p).flag (byAct x Fld.UCS_EV_PATCHA Fld.UCS_EV_PATCHB) = true :=
  flag_raise _ _ (by cases x <;> decide) (by cases x <;> rfl) (by cases x <;> decide)

theorem get_patchVer_patchLoaded (s : State) (x : Act) (p : PatchImg) :
    (patchLoaded s x p).get (Fld.UCS_PATCH_VER x) = p.release % 2 ^ (Fld.UCS_PATCH_VER x).len :=
  calc (patchLoaded s x p).get (Fld.UCS_PATCH_VER x)
      = (((s.setMsq x (patchedMsq (s.msq x) p)).put (Fld.UCS_PATCH_VER x) p.release).put (Fld.UCS_PATCH_NCMP x)
          (patchComps (s.msq x) p).length).get (Fld.UCS_PATCH_VER x) :=
        keeps_get (raise_keeps _ _) _ (by decide) (by cases x <;> decide)
    _ = ((s.setMsq x (patchedMsq (s.msq x) p)).put (Fld.UCS_PATCH_VER x) p.release).get (Fld.UCS_PATCH_VER x) :=
        get_put_other _ _ _ _ (by cases x <;> decide) (by cases x <;> decide)
    _ = p.release % 2 ^ (Fld.UCS_PATCH_VER x).len := get_put _ _ _ (by cases x <;> decide)

/-! ### ROLLBACK (R620) -/

/-- The floor and the thermometer fuse moved to a security version. -/
def floorMoved (s : State) (n : Nat) : State :=
  { s with hwd := { s.hwd with flashFloor := n, thermo := max s.hwd.thermo (min 255 (n / 16)) } }

/-- A floor raised, and shown. -/
def rolledBack (s : State) (n : Nat) : State := (floorMoved s n).put Fld.HWD_BOOT_FLOOR (floorMoved s n).floor

theorem exec_rollback (h : Asked s 9) (floor : s.floor ≤ (s.req 0).toNat) (svn : (s.req 0).toNat ≤ s.get Fld.HWD_BOOT_SVN)
    (root : s.flag Fld.HWD_STAT_ROOTOK = true) : exec (.rollback true) s =
    .next ((rolledBack s (s.req 0).toNat).hwdAnswer 0 [BitVec.ofNat 32 (floorMoved s (s.req 0).toNat).floor]) := by
  refine congrArg Host.Outcome.next ((mailbox_asked h _).trans ?_)
  simp only [Nat.not_lt.2 floor, Nat.not_lt.2 svn, root, or_self, Bool.not_true, Bool.false_eq_true, if_false]
  rfl

theorem exec_rollback_aboveSvn {flash : Bool} (h : Asked s 9) (above : s.get Fld.HWD_BOOT_SVN < (s.req 0).toNat) :
    exec (.rollback flash) s = .next (s.hwdAnswer 2 []) := by
  refine congrArg Host.Outcome.next ((mailbox_asked h _).trans ?_)
  simp only [above, true_or, if_true]

theorem rolledBack_keeps (s : State) (n : Nat) : Keeps [.hwd] [Fld.HWD_BOOT_FLOOR] s (rolledBack s n) :=
  keeps_put (by decide) (keeps_set_hwd (by decide) (keeps_refl _ _ _))

/-- A floor from a 12-bit version fits the field that shows it. -/
theorem floor_floorMoved_lt {n : Nat} (version : n ≤ 4095) (thermo : s.hwd.thermo ≤ 255) : (floorMoved s n).floor < 2 ^ 12 := by
  simp only [State.floor, floorMoved]
  omega

/-! ### MEASURE (R623) -/

/-- Measurement i. -/
def measurement (s : State) (i : Nat) : List Word :=
  if i = 5 then digest 0x05 [BitVec.ofNat 32 s.pins.variant, BitVec.ofNat 32 s.floor, s.rd Reg.SYS_COMPAT, s.rd Reg.SYS_LOCK]
  else if i = 6 then digest 0x06 [BitVec.ofNat 32 (s.get Fld.HWD_STAT_DBGLVL), BitVec.ofNat 32 s.hwd.unlocks]
  else match mfind s.hwd.meas i with
    | some l => l
    | none => if i = 1 then digest 0x01 [Config.bootRomRelease] else List.replicate 12 0

theorem length_measurement {i : Nat} (kept : ∀ l, mfind s.hwd.meas i = some l → l.length = 12) : (measurement s i).length = 12 := by
  unfold measurement
  split
  · exact length_digest _ _
  · split
    · exact length_digest _ _
    · split
      case h_1 l found => exact kept l found
      case h_2 =>
        split
        · exact length_digest _ _
        · exact List.length_replicate

theorem exec_measure (h : Asked s 10) (low : 1 ≤ (s.req 0).toNat) (high : (s.req 0).toNat ≤ 6) :
    exec .measure s = .next (s.hwdAnswer 0 (measurement s (s.req 0).toNat)) := by
  have inRange : ¬ ((s.req 0).toNat = 0 ∨ 6 < (s.req 0).toNat) := by omega
  refine congrArg Host.Outcome.next ((mailbox_asked h _).trans ?_)
  simp only [inRange, if_false]
  rfl

theorem exec_measure_none (h : Asked s 10) (high : 6 < (s.req 0).toNat) : exec .measure s = .next (s.hwdAnswer 2 []) := by
  refine congrArg Host.Outcome.next ((mailbox_asked h _).trans ?_)
  simp only [high, or_true, if_true]

/-! ### DBGCHAL and DBGRESP (R626) -/

/-- A nonce for a debug level is out. -/
def challenged (s : State) (lv : Nat) : State :=
  { (s.generate 8).2 with hwd := { (s.generate 8).2.hwd with nonce := some (lv, (s.generate 8).2.now) } }

theorem challenged_keeps (s : State) (lv : Nat) : Keeps [.free, .hwd] [] s (challenged s lv) :=
  keeps_set_hwd (by decide) (generate_keeps s 8)

theorem exec_dbgchal (h : Asked s 13) (level : (s.req 0).toNat = 1 ∨ (s.req 0).toNat = 2) (ent : s.flag Fld.HWD_STAT_ENTOK = true) :
    exec .dbgchal s = .next ((challenged s (s.req 0).toNat).hwdAnswer 0 (s.generate 8).1) := by
  have inRange : ¬ ((s.req 0).toNat ≠ 1 ∧ (s.req 0).toNat ≠ 2) := by omega
  refine congrArg Host.Outcome.next ((mailbox_asked h _).trans ?_)
  simp only [inRange, ent, Bool.not_true, Bool.false_eq_true, if_false]
  rfl

/-- The nonce is spent. -/
def nonceSpent (s : State) : State := { s with hwd := { s.hwd with nonce := none } }

theorem nonceSpent_keeps (s : State) : Keeps [.hwd] [] s (nonceSpent s) := keeps_set_hwd (by decide) (keeps_refl _ _ _)

/-- One more unlock is counted. -/
def unlockCounted (s : State) : State := { s with hwd := { s.hwd with nonce := none, unlocks := s.hwd.unlocks + 1 } }

theorem unlockCounted_keeps (s : State) : Keeps [.hwd] [] s (unlockCounted s) := keeps_set_hwd (by decide) (keeps_refl _ _ _)

/-- A debug level is open. -/
def unlocked (s : State) (lv : Nat) : State :=
  (((unlockCounted s).put Fld.HWD_STAT_DBGLVL lv).put Fld.DBG_STAT_LEVEL lv).raise Fld.HWD_EV_DBGUNLOCK

/-- The fields of a debug level that opens. -/
def unlockFields : List Field := recFields ++ [Fld.HWD_EV_DBGUNLOCK, Fld.HWD_STAT_DBGLVL, Fld.DBG_STAT_LEVEL]

theorem unlocked_keeps (s : State) (lv : Nat) : Keeps [.hwd, .rbk] unlockFields s (unlocked s lv) :=
  keeps_raise (by decide) (keeps_put (by decide) (keeps_put (by decide) (keeps_mono (unlockCounted_keeps s) (by decide))))

theorem hwd_unlocked (s : State) (lv : Nat) : (unlocked s lv).hwd = { s.hwd with nonce := none, unlocks := s.hwd.unlocks + 1 } :=
  (raise_keeps _ _).part .hwd (by decide) (by decide)

theorem get_level_unlocked {lv : Nat} (known : lv ≤ 2) : (unlocked s lv).get Fld.DBG_STAT_LEVEL = lv :=
  calc (unlocked s lv).get Fld.DBG_STAT_LEVEL
      = (((unlockCounted s).put Fld.HWD_STAT_DBGLVL lv).put Fld.DBG_STAT_LEVEL lv).get Fld.DBG_STAT_LEVEL :=
        keeps_get (raise_keeps _ _) _ (by decide) (by decide)
    _ = lv % 2 ^ 2 := get_put _ _ _ (by decide)
    _ = lv := Nat.mod_eq_of_lt (by omega)

theorem get_dbglvl_unlocked {lv : Nat} (known : lv ≤ 2) : (unlocked s lv).get Fld.HWD_STAT_DBGLVL = lv :=
  calc (unlocked s lv).get Fld.HWD_STAT_DBGLVL
      = (((unlockCounted s).put Fld.HWD_STAT_DBGLVL lv).put Fld.DBG_STAT_LEVEL lv).get Fld.HWD_STAT_DBGLVL :=
        keeps_get (raise_keeps _ _) _ (by decide) (by decide)
    _ = ((unlockCounted s).put Fld.HWD_STAT_DBGLVL lv).get Fld.HWD_STAT_DBGLVL := get_put_other _ _ _ _ (by decide) (by decide)
    _ = lv % 2 ^ 2 := get_put _ _ _ (by decide)
    _ = lv := Nat.mod_eq_of_lt (by omega)

theorem exec_dbgresp {lv at_ : Nat} (h : Asked s 14) (nonce : s.hwd.nonce = some (lv, at_))
    (inside : s.inMem (reqAddr s) (s.req 2).toNat = true) : exec (.dbgresp true) s = .next ((unlocked s lv).hwdAnswer 0 []) := by
  refine congrArg Host.Outcome.next ((mailbox_asked h _).trans ?_)
  rw [reqAddr] at inside
  simp only [nonce, inside, Bool.true_eq_false, Bool.not_true, Bool.false_eq_true, if_false]
  rfl

theorem exec_dbgresp_unsigned {lv at_ : Nat} (h : Asked s 14) (nonce : s.hwd.nonce = some (lv, at_))
    (inside : s.inMem (reqAddr s) (s.req 2).toNat = true) : exec (.dbgresp false) s = .next ((nonceSpent s).hwdAnswer 4 []) := by
  refine congrArg Host.Outcome.next ((mailbox_asked h _).trans ?_)
  rw [reqAddr] at inside
  simp only [nonce, inside, Bool.true_eq_false, Bool.not_false, if_false, if_true]
  rfl

theorem exec_dbgresp_noNonce {ok : Bool} (h : Asked s 14) (nonce : s.hwd.nonce = none) :
    exec (.dbgresp ok) s = .next (s.hwdAnswer 3 []) := by
  refine congrArg Host.Outcome.next ((mailbox_asked h _).trans ?_)
  simp only [nonce]

theorem exec_debugNonceLapse {lv at_ : Nat} (nonce : s.hwd.nonce = some (lv, at_)) (old : at_ + 60 * 800000000 ≤ s.now) :
    exec .debugNonceLapse s = .next (nonceSpent s) := by
  change execDebugNonceLapse s = _
  simp only [execDebugNonceLapse, nonce, old, if_true]
  rfl

theorem exec_debugNonceLapse_noNonce (nonce : s.hwd.nonce = none) : exec .debugNonceLapse s = .next s := by
  change execDebugNonceLapse s = _
  simp only [execDebugNonceLapse, nonce]
end

end Sys2Proof.Proofs
end

section
/-!
PROOFS. The mailbox's timeout, the entropy source, and a reset of Heartwood (R573, R611, R612).
-/
namespace Sys2Proof.Proofs

open Sys2Proof.Machine Sys2Proof.Safety Sys2Proof.Laws

section
variable {s : State}

/-! ### The timeout -/

theorem fieldRange_limit : fieldRange Fld.HWD_MBTMO_LIMIT = some (10, 1000) := by decide +kernel

/-- The limit in force is between 10 and 1000 milliseconds (R611). -/
theorem eff_limit_le (s : State) : s.eff Fld.HWD_MBTMO_LIMIT ≤ 1000 := by
  simp only [State.eff, fieldRange_limit, clampN]
  split
  · omega
  · split <;> omega

/-- A request that has timed out (R611). -/
def requestExpired (s : State) : State :=
  requestEnd (s.wr Reg.HWD_MBRES (BitVec.ofNat 32 (0x0A * 2 ^ 24 + s.get Fld.HWD_MBCMD_CODE * 2 ^ 16))) (s.eff Fld.HWD_MBTMO_LIMIT)
    Fld.HWD_EV_TMO 0x0A

theorem exec_mailboxTimeout (go : s.flag Fld.HWD_MBCTL_GO = true)
    (due : s.hwd.goAt + s.eff Fld.HWD_MBTMO_LIMIT * 800000 ≤ s.now) : exec .mailboxTimeout s = .next (requestExpired s) := by
  change execMailboxTimeout s = _
  simp only [execMailboxTimeout, go, Nat.not_lt.2 due, Bool.not_true, decide_false, Bool.or_false, Bool.false_eq_true, if_false]
  rfl

theorem exec_mailboxTimeout_early (early : s.now < s.hwd.goAt + s.eff Fld.HWD_MBTMO_LIMIT * 800000) :
    exec .mailboxTimeout s = .next s := by
  change execMailboxTimeout s = _
  simp only [execMailboxTimeout, early, decide_true, Bool.or_true, if_true]

theorem requestExpired_keeps (s : State) : Keeps [.apc, .rbk] (recFields ++ [Fld.HWD_EV_TMO, Fld.HWD_MBCTL_GO, ⟨Reg.HWD_MBRES, 0, 32⟩,
    Fld.HWD_MBTMO_ELAPSED]) s (requestExpired s) :=
  keeps_via requestEnd_keeps (by decide) (keeps_wr (by decide) (keeps_refl _ _ _))

theorem rd_requestExpired (s : State) :
    (requestExpired s).rd Reg.HWD_MBRES = BitVec.ofNat 32 (0x0A * 2 ^ 24 + s.get Fld.HWD_MBCMD_CODE * 2 ^ 16) :=
  (keeps_rd requestEnd_keeps _ (by decide) (by decide)).trans (rd_wr _ _ _)

theorem elapsed_requestExpired (s : State) : (requestExpired s).get Fld.HWD_MBTMO_ELAPSED = s.eff Fld.HWD_MBTMO_LIMIT := by
  have range := eff_limit_le s
  rw [requestExpired, elapsed_requestEnd (by decide), Nat.mod_eq_of_lt (by omega)]

/-! ### The start of Heartwood (R570, R571, R601, R603) -/

theorem setKs_keeps (s : State) (i : Nat) (k : KeySlot) : Keeps [.cph] [] s (s.setKs i k) :=
  keeps_set_cph (by decide) (keeps_refl _ _ _)

theorem keyStart_keeps (s : State) (j : Nat) : Keeps [.cph, .hwd] [] s (s.keyStart j) := by
  have slot (k : KeySlot) : Keeps [.cph, .hwd] [] s (s.setKs (slotIx true j) k) := keeps_mono (setKs_keeps _ _ _) (within_nil rfl)
  exact keeps_ite (keeps_refl _ _ _) (keeps_ite (slot _) (keeps_set_hwd (within_nil rfl) (slot _)))

/-- The system keys at a start, and what is dropped with them. -/
def keysStarted (s : State) : State := ((List.range 64).foldl (fun t j => t.keyStart j) s).hwdDrop

theorem keysStarted_keeps (s : State) : Keeps [.cph, .hwd] [] s (keysStarted s) :=
  keeps_set_hwd (by decide) (keeps_foldl keyStart_keeps (keeps_refl _ _ _))

/-- The start's tests: the root key's and the entropy source's outcome, and the keys. -/
def started (s : State) (root ent : Bool) : State :=
  keysStarted (((s.putb Fld.HWD_MBCTL_GO false).putb Fld.HWD_STAT_ROOTOK root).putb Fld.HWD_STAT_ENTOK ent)

/-- What a reset writes last: READY and the end of the reset. -/
def resetEnd (s : State) : State :=
  ((s.putb Fld.HWD_STAT_READY true).putb Fld.HWD_CTL_RESET false).raise Fld.HWD_EV_HRESET

theorem exec_heartwoodReset (s : State) (root : Bool) :
    exec (.heartwoodReset root true) s = .next (resetEnd (started s root true).maskSeed) := by
  change execHeartwoodReset root true s = _
  simp only [execHeartwoodReset, State.hwdStart, if_true]
  rfl

theorem exec_heartwoodReset_noEntropy (s : State) (root : Bool) :
    exec (.heartwoodReset root false) s = .next (resetEnd ((started s root false).raise Fld.HWD_FLT_ENTROPY)) := by
  change execHeartwoodReset root false s = _
  simp only [execHeartwoodReset, State.hwdStart, Bool.false_eq_true, if_false]
  rfl

/-- The fields that the end of a reset writes. -/
def resetEndFields : List Field := recFields ++ [Fld.HWD_EV_HRESET, Fld.HWD_STAT_READY, Fld.HWD_CTL_RESET]

theorem resetEnd_keeps (s : State) : Keeps [.rbk] resetEndFields s (resetEnd s) :=
  keeps_raise (by decide) (keeps_putb (by decide) (keeps_putb (by decide) (keeps_refl _ _ _)))

theorem maskSeed_keeps (s : State) : Keeps [.cph] [Fld.CPH_STAT_MASKOK] s s.maskSeed :=
  keeps_putb (by decide) (keeps_set_cph (by decide) (keeps_refl _ _ _))

theorem started_keeps (s : State) (root ent : Bool) :
    Keeps [.cph, .hwd] [Fld.HWD_STAT_ENTOK, Fld.HWD_STAT_ROOTOK, Fld.HWD_MBCTL_GO] s (started s root ent) :=
  keeps_via (keysStarted_keeps _) (within_nil rfl) (keeps_putb (by decide) (keeps_putb (by decide) (keeps_putb (by decide)
    (keeps_refl _ _ _))))

theorem flag_hreset_resetEnd (s : State) : (resetEnd s).flag Fld.HWD_EV_HRESET = true := flag_raise _ _ (by decide) rfl (by decide)

theorem flag_ready_resetEnd (s : State) : (resetEnd s).flag Fld.HWD_STAT_READY = true :=
  calc (resetEnd s).flag Fld.HWD_STAT_READY
      = ((s.putb Fld.HWD_STAT_READY true).putb Fld.HWD_CTL_RESET false).flag Fld.HWD_STAT_READY :=
        keeps_flag (raise_keeps _ _) _ (by decide) (by decide)
    _ = (s.putb Fld.HWD_STAT_READY true).flag Fld.HWD_STAT_READY := flag_putb_other _ _ _ _ (by decide) (by decide)
    _ = true := flag_putb _ _ _ (by decide) rfl

theorem flag_go_started (s : State) (root ent : Bool) : (started s root ent).flag Fld.HWD_MBCTL_GO = false := by
  rw [started, keeps_flag (keysStarted_keeps _) _ (by decide) rfl, flag_putb_other _ _ _ _ (by decide) (by decide),
    flag_putb_other _ _ _ _ (by decide) (by decide), flag_putb _ _ _ (by decide) rfl]

theorem flag_rootok_started (s : State) (root ent : Bool) : (started s root ent).flag Fld.HWD_STAT_ROOTOK = root := by
  rw [started, keeps_flag (keysStarted_keeps _) _ (by decide) rfl, flag_putb_other _ _ _ _ (by decide) (by decide),
    flag_putb _ _ _ (by decide) rfl]

theorem flag_entok_started (s : State) (root ent : Bool) : (started s root ent).flag Fld.HWD_STAT_ENTOK = ent := by
  rw [started, keeps_flag (keysStarted_keeps _) _ (by decide) rfl, flag_putb _ _ _ (by decide) rfl]

/-- From the tests to the end of a reset that finds entropy. -/
theorem seeded_keeps (s : State) : Keeps [.cph, .rbk] (Fld.CPH_STAT_MASKOK :: resetEndFields) s (resetEnd s.maskSeed) :=
  keeps_via (resetEnd_keeps _) (by decide) (keeps_mono (maskSeed_keeps s) (by decide))

/-- From the tests to the end of a reset that finds none. -/
theorem unseeded_keeps (s : State) :
    Keeps [.rbk] (Fld.HWD_FLT_ENTROPY :: resetEndFields) s (resetEnd (s.raise Fld.HWD_FLT_ENTROPY)) :=
  keeps_via (resetEnd_keeps _) (by decide) (keeps_raise (by decide) (keeps_refl _ _ _))

theorem flag_entropy_unseeded (s : State) :
    (resetEnd (s.raise Fld.HWD_FLT_ENTROPY)).flag Fld.HWD_FLT_ENTROPY = true :=
  (keeps_flag (resetEnd_keeps _) _ (by decide) (by decide)).trans (flag_raise _ _ (by decide) rfl (by decide))

/-- No nonce and no erase outlive a start. -/
theorem hwd_seeded (s : State) (root ent : Bool) :
    (resetEnd (started s root ent).maskSeed).hwd.nonce = none ∧ (resetEnd (started s root ent).maskSeed).hwd.erase = none := by
  have same : (resetEnd (started s root ent).maskSeed).hwd = (started s root ent).hwd :=
    (seeded_keeps _).part .hwd (by decide) (by decide)
  rw [same]
  exact ⟨rfl, rfl⟩

end

end Sys2Proof.Proofs
end

section
/-!
PROOFS. What the answered request leaves, for the commands whose answer changes Heartwood's own state, and the services together.
-/
namespace Sys2Proof.Proofs

open Sys2Proof.Machine Sys2Proof.Safety Sys2Proof.Laws

section
variable {s t : State}

/-- GETINFO's answer, word by word (R613). -/
theorem rd_getinfo {k : Nat} (inside : k < (infoWords s).length) :
    (s.hwdAnswer 0 (infoWords s)).rd (Reg.HWD_MBRSP k) = (infoWords s)[k] :=
  rd_hwdAnswer (by simp [infoWords]) inside

/-! ### IMGVERIFY -/

/-- The fields of an IMGVERIFY that has read memory. -/
def imgFields : List Field :=
  mailFields ++ [Fld.MEM_EV_CE, Fld.MEM_EV_UE, Fld.MEM_FLT_SRAMUE, Fld.MEM_UEADDR_ADDR, Fld.MEM_UEINFO_INIT, Fld.MEM_UEINFO_OVF,
    Fld.MEM_UEINFO_VALID, Fld.MEM_CETCTL_CET_OVF, Fld.MEM_SRAMERR_REGION, Fld.MEM_SRAMERR_CE, Fld.MEM_SRAMERR_UE, Fld.MEM_CNT_UE,
    Fld.MEM_CNT_CE]

theorem memFields_within_imgFields : within [.apc, .free, .hwd, .mem, .rbk, .sys] imgFields memParts memFields = true := by decide

/-- The answer that accepts an image whose header was read in the state t. -/
def imgAccepted (s t : State) (svn : Nat) (patch : Option PatchImg) : State :=
  (t.imgTake (reqAddr s) (s.req 2).toNat patch).hwdAnswer 0 (imgWords t svn)

theorem imgAccepted_answered {svn : Nat} {patch : Option PatchImg} (h : Asked s 7) (read : MemOnly s t) :
    Answered (imgAccepted s t svn patch) 7 0 13 :=
  hwdAnswer_answered ((keeps_get (imgTake_keeps _ _ _ _) _ (by decide) rfl).trans (code_after h read (by decide) (by decide)))
    (length_imgWords _ _)

theorem rd_imgAccepted (s t : State) (svn : Nat) (patch : Option PatchImg) :
    (imgAccepted s t svn patch).rd (Reg.HWD_MBRSP 0) = BitVec.ofNat 32 svn :=
  rd_hwdAnswer (by simp [length_imgWords]) (by simp [length_imgWords])

theorem imgAccepted_keeps (svn : Nat) (patch : Option PatchImg) (read : MemOnly s t) :
    Keeps [.apc, .free, .hwd, .mem, .rbk, .sys] imgFields s (imgAccepted s t svn patch) :=
  answer_keeps (keeps_via (imgTake_keeps _ _ _ _) (within_nil rfl) (keeps_mono read memFields_within_imgFields)) (by decide)
    (List.subset_append_left _ _)

/-! ### PATCHLOAD -/

/-- The fields of a PATCHLOAD, for either actuator. -/
def patchloadFields : List Field :=
  mailFields ++ [Fld.UCS_EV_PATCHA, Fld.UCS_EV_PATCHB, Fld.UCS_PATCH_NCMP .a, Fld.UCS_PATCH_VER .a, Fld.UCS_PATCH_NCMP .b,
    Fld.UCS_PATCH_VER .b]

theorem patchFields_within (x : Act) : within [.apc, .hwd, .msq, .rbk] patchloadFields [.hwd, .msq, .rbk] (patchFields x) = true := by
  cases x <;> decide

/-- The answer to a PATCHLOAD that loaded a patch. -/
def patchAnswered (s : State) (x : Act) (p : PatchImg) : State := (patchLoaded s x p).hwdAnswer 0 [BitVec.ofNat 32 p.release]

section
variable (x : Act) (p : PatchImg)

theorem patchAnswered_answered (h : Asked s 8) : Answered (patchAnswered s x p) 8 0 1 :=
  hwdAnswer_answered (code_after h (patchLoaded_keeps s x p) (by decide) (by cases x <;> decide)) rfl

theorem rd_patchAnswered : (patchAnswered s x p).rd (Reg.HWD_MBRSP 0) = BitVec.ofNat 32 p.release :=
  rd_hwdAnswer (by simp) (by simp)

theorem flag_patchAnswered : (patchAnswered s x p).flag (byAct x Fld.UCS_EV_PATCHA Fld.UCS_EV_PATCHB) = true :=
  (flag_hwdAnswer _ (by cases x <;> decide)).trans (flag_patchLoaded s x p)

theorem get_patchVer_patchAnswered :
    (patchAnswered s x p).get (Fld.UCS_PATCH_VER x) = p.release % 2 ^ (Fld.UCS_PATCH_VER x).len :=
  (get_hwdAnswer _ (by cases x <;> decide)).trans (get_patchVer_patchLoaded s x p)

theorem msq_patchAnswered : (patchAnswered s x p).msq x = patchedMsq (s.msq x) p := (msq_hwdAnswer x).trans (msq_patchLoaded s x p)

theorem patchAnswered_keeps : Keeps [.apc, .hwd, .msq, .rbk] patchloadFields s (patchAnswered s x p) :=
  answer_keeps (keeps_mono (patchLoaded_keeps s x p) (patchFields_within x)) (by decide) (List.subset_append_left _ _)
end

/-! ### ROLLBACK -/

/-- The answer to a ROLLBACK that moved the floor. -/
def rollbackAnswered (s : State) (n : Nat) : State := (rolledBack s n).hwdAnswer 0 [BitVec.ofNat 32 (floorMoved s n).floor]

theorem hwd_rollbackAnswered (n : Nat) : (rollbackAnswered s n).hwd = (floorMoved s n).hwd := hwd_hwdAnswer

theorem floor_rollbackAnswered (n : Nat) : (rollbackAnswered s n).floor = (floorMoved s n).floor :=
  floor_of_hwd (hwd_rollbackAnswered n)

theorem thermo_floorMoved {n : Nat} (version : n ≤ 4095) : (floorMoved s n).hwd.thermo = max s.hwd.thermo (n / 16) :=
  congrArg (max s.hwd.thermo) (Nat.min_eq_right (by omega))

theorem rollbackAnswered_answered {n : Nat} (h : Asked s 9) : Answered (rollbackAnswered s n) 9 0 1 :=
  hwdAnswer_answered (code_after h (rolledBack_keeps s n) (by decide) (by decide)) rfl

theorem get_floor_rollbackAnswered {n : Nat} (version : n ≤ 4095) (thermo : s.hwd.thermo ≤ 255) :
    (rollbackAnswered s n).get Fld.HWD_BOOT_FLOOR = (rollbackAnswered s n).floor :=
  calc (rollbackAnswered s n).get Fld.HWD_BOOT_FLOOR
      = (rolledBack s n).get Fld.HWD_BOOT_FLOOR := get_hwdAnswer _ (by decide)
    _ = (floorMoved s n).floor % 2 ^ 12 := get_put _ _ _ (by decide)
    _ = (floorMoved s n).floor := Nat.mod_eq_of_lt (floor_floorMoved_lt version thermo)
    _ = (rollbackAnswered s n).floor := (floor_rollbackAnswered n).symm

theorem rd_rollbackAnswered (n : Nat) :
    (rollbackAnswered s n).rd (Reg.HWD_MBRSP 0) = BitVec.ofNat 32 (rollbackAnswered s n).floor := by
  rw [floor_rollbackAnswered]
  exact rd_hwdAnswer (by simp) (by simp)

theorem rollbackAnswered_keeps (n : Nat) : Keeps [.apc, .hwd, .rbk] (mailFields ++ [Fld.HWD_BOOT_FLOOR]) s (rollbackAnswered s n) :=
  answer_keeps (keeps_mono (rolledBack_keeps s n) (within_of_subset (by decide) (List.subset_append_right _ _))) (by decide)
    (List.subset_append_left _ _)

/-! ### DBGCHAL and DBGRESP -/

theorem nonce_challenged (lv : Nat) : (challenged s lv).hwd.nonce = some (lv, s.now) :=
  congrArg (fun now => some (lv, now)) (keeps_now (generate_keeps s 8) (by decide))

theorem challenged_answered {lv : Nat} (h : Asked s 13) : Answered ((challenged s lv).hwdAnswer 0 (s.generate 8).1) 13 0 8 :=
  hwdAnswer_answered (code_after h (challenged_keeps s lv) (by decide) rfl) (length_generate _ _)

/-- The fields of a DBGRESP. -/
def dbgrespFields : List Field := mailFields ++ [Fld.HWD_EV_DBGUNLOCK, Fld.HWD_STAT_DBGLVL, Fld.DBG_STAT_LEVEL]

/-- A DBGRESP answered in a state that a frame of its own reaches. -/
theorem dbgresp_keeps {status : Nat} {rsp : List Word} (kept : Keeps [.apc, .hwd, .rbk] dbgrespFields s t) :
    Keeps [.apc, .hwd, .rbk] dbgrespFields s (t.hwdAnswer status rsp) :=
  answer_keeps kept (by decide) (List.subset_append_left _ _)

theorem unlockFields_within : within [.apc, .hwd, .rbk] dbgrespFields [.hwd, .rbk] unlockFields = true := by decide

theorem unlocked_answered {lv : Nat} (h : Asked s 14) : Answered ((unlocked s lv).hwdAnswer 0 []) 14 0 0 :=
  hwdAnswer_answered (code_after h (unlocked_keeps s lv) (by decide) (by decide)) rfl

theorem flag_dbgunlock_unlocked (lv : Nat) : (unlocked s lv).flag Fld.HWD_EV_DBGUNLOCK = true :=
  flag_raise _ _ (by decide) rfl (by decide)

theorem nonceSpent_answered (h : Asked s 14) : Answered ((nonceSpent s).hwdAnswer 4 []) 14 4 0 :=
  hwdAnswer_answered (code_after h (nonceSpent_keeps s) (by decide) rfl) rfl

theorem mailFields_apart_dbglvl : mailFields.all (fun g => Apart g Fld.HWD_STAT_DBGLVL) = true := by decide
end

/-- Settles O47: each mailbox command's answer, the timeout, and the reset of Heartwood. -/
theorem heartwoodServices : Obligations.HeartwoodServices := by
  unfold Obligations.HeartwoodServices
  refine ⟨?getinfo, ?getinfoIdle, ?random, ?randomMany, ?imgverify, ?imgShort, ?imgUnsigned, ?patchload, ?patchNotHeld, ?rollback,
    ?rollbackAbove, ?measure, ?measureNone, ?sign, ?signNoRoot, ?dbgchal, ?dbgresp, ?dbgrespNoNonce, ?dbgrespUnsigned, ?timeout,
    ?timeoutEarly, ?reset, ?resetNoEntropy, ?lapse, ?lapseNone, ?entropy⟩
  case getinfo =>
    intro s h
    exact ⟨_, exec_getinfo h, hwdAnswer_answered (code_of_asked h) rfl, rd_getinfo (k := 0) (by simp [infoWords]),
      rd_getinfo (k := 1) (by simp [infoWords]), rd_getinfo (k := 3) (by simp [infoWords]), hwdAnswer_keeps _ _ _⟩
  case getinfoIdle => exact fun s idle => congrArg Host.Outcome.next (mailbox_idle idle _)
  case random =>
    intro s h some_ few ent
    exact generated h ((length_randomWords _ _).trans (length_generate _ _)) (exec_random h some_ few ent)
  case randomMany => exact fun s h many => refusal h (exec_random_tooMany h many)
  case imgverify =>
    intro s patch b t2 h long inside read magic format high floor
    have kept : MemOnly s t2 := keeps_snd (bytesAt_memOnly s 7 16 _) read (by decide) (keeps_refl _ _ _)
    have sameFloor : t2.floor = s.floor := floor_of_hwd (kept.part .hwd (by decide) (by decide))
    have judged := imgJudge_accepted (addr := reqAddr s) (len := (s.req 2).toNat) (patch := patch) rfl magic format high
      (sameFloor ▸ floor)
    exact ⟨_, (exec_imgverify h long inside read).trans (congrArg Host.Outcome.next judged), imgAccepted_answered h kept,
      rd_imgAccepted _ _ _ _, congrArg HwdSt.patch hwd_hwdAnswer, congrArg HwdSt.image hwd_hwdAnswer,
      congrArg SysSt.imageVerified sys_hwdAnswer, imgAccepted_keeps _ _ kept⟩
  case imgShort => exact fun s sigs patch h short => refusal h (exec_imgverify_short h short)
  case imgUnsigned =>
    intro s patch h long inside
    have kept := bytesAt_memOnly s 7 16 (reqAddr s)
    have sameHwd := kept.part .hwd (by decide) (by decide)
    exact ⟨_, exec_imgverify_unsigned h long inside,
      hwdAnswer_answered (code_after h kept (by decide) (by decide)) rfl, congrArg HwdSt.patch (hwd_hwdAnswer.trans sameHwd),
      answer_keeps (keeps_mono kept memFields_within_imgFields) (by decide) (List.subset_append_left _ _)⟩
  case patchload =>
    intro s x p h named act hold idle patch
    have kept : patchloadFields ⊆ mailFields ++ advFields s .a ++ advFields s .b ++ _ := List.append_subset.2
      ⟨fun f mem => List.mem_append_left _ (List.mem_append_left _ (List.mem_append_left _ mem)), List.subset_append_right _ _⟩
    exact ⟨_, exec_patchload h named act hold idle patch, patchAnswered_answered x p h, rd_patchAnswered x p, flag_patchAnswered x p,
      get_patchVer_patchAnswered x p, congrArg (fun m => m.ucs.patch) (msq_patchAnswered x p),
      keeps_mono (patchAnswered_keeps x p) (within_of_subset (by decide) kept)⟩
  case patchNotHeld => exact fun s h named free => refusal h (exec_patchload_notHeld h named free)
  case rollback =>
    intro s h floor svn root version thermo
    exact ⟨_, exec_rollback h floor svn root, rollbackAnswered_answered h, congrArg HwdSt.flashFloor (hwd_rollbackAnswered _),
      (congrArg HwdSt.thermo (hwd_rollbackAnswered _)).trans (thermo_floorMoved version), get_floor_rollbackAnswered version thermo,
      rd_rollbackAnswered _, rollbackAnswered_keeps _⟩
  case rollbackAbove =>
    intro s flash h above
    exact ⟨_, exec_rollback_aboveSvn h above, hwdAnswer_answered (code_of_asked h) rfl, hwd_hwdAnswer, hwdAnswer_keeps _ _ _⟩
  case measure =>
    intro s h low high kept
    exact ⟨_, exec_measure h low high, hwdAnswer_answered (code_of_asked h) (length_measurement kept), hwdAnswer_keeps _ _ _⟩
  case measureNone => exact fun s h high => refusal h (exec_measure_none h high)
  case sign => exact fun s h root ent => generated h (length_generate _ _) (exec_sign h root ent)
  case signNoRoot => exact fun s h root => refusal h (exec_sign_noRoot h root)
  case dbgchal =>
    intro s h level ent
    exact ⟨_, exec_dbgchal h (level.imp_right And.right) ent, challenged_answered h,
      (congrArg HwdSt.nonce hwd_hwdAnswer).trans (nonce_challenged _),
      answer_keeps (keeps_mono (challenged_keeps s _) (within_nil rfl)) (by decide) (List.Subset.refl _)⟩
  case dbgresp =>
    intro s lv at_ h nonce known inside
    have sameHwd := (hwd_hwdAnswer (status := 0) (rsp := [])).trans (hwd_unlocked s lv)
    exact ⟨_, exec_dbgresp h nonce inside, unlocked_answered h, (get_hwdAnswer _ mailFields_apart_dbglvl).trans (get_dbglvl_unlocked known),
      (get_hwdAnswer _ (by decide)).trans (get_level_unlocked known), (flag_hwdAnswer _ (by decide)).trans (flag_dbgunlock_unlocked lv),
      congrArg HwdSt.nonce sameHwd, congrArg HwdSt.unlocks sameHwd,
      dbgresp_keeps (keeps_mono (unlocked_keeps s lv) unlockFields_within)⟩
  case dbgrespNoNonce =>
    intro s ok h nonce
    exact ⟨_, exec_dbgresp_noNonce h nonce, hwdAnswer_answered (code_of_asked h) rfl, get_hwdAnswer _ mailFields_apart_dbglvl,
      dbgresp_keeps (keeps_refl _ _ _)⟩
  case dbgrespUnsigned =>
    intro s lv at_ h nonce inside
    exact ⟨_, exec_dbgresp_unsigned h nonce inside, nonceSpent_answered h, get_hwdAnswer _ mailFields_apart_dbglvl,
      congrArg HwdSt.nonce hwd_hwdAnswer, dbgresp_keeps (keeps_mono (nonceSpent_keeps s) (within_nil rfl))⟩
  case timeout =>
    intro s go due
    exact ⟨_, exec_mailboxTimeout go due, rd_requestExpired s, flag_go_requestEnd (by decide),
      flag_event_requestEnd (by decide) rfl (by decide), elapsed_requestExpired s, requestExpired_keeps s⟩
  case timeoutEarly => exact fun s early => exec_mailboxTimeout_early early
  case reset =>
    intro s root
    have kept := seeded_keeps (started s root true)
    obtain ⟨nonce, erase⟩ := hwd_seeded s root true
    exact ⟨_, exec_heartwoodReset s root, (keeps_flag kept _ (by decide) (by decide)).trans (flag_go_started _ _ _),
      flag_hreset_resetEnd _, flag_ready_resetEnd _, (keeps_flag kept _ (by decide) (by decide)).trans (flag_entok_started _ _ _),
      (keeps_flag kept _ (by decide) (by decide)).trans (flag_rootok_started _ _ _), nonce, erase,
      (keeps_get kept _ (by decide) (by decide)).trans (keeps_get (started_keeps _ _ _) _ (by decide) (by decide)),
      keeps_via kept (by decide) (keeps_mono (started_keeps _ _ _) (by decide))⟩
  case resetNoEntropy =>
    intro s root
    have kept := unseeded_keeps (started s root false)
    exact ⟨_, exec_heartwoodReset_noEntropy s root, (keeps_flag kept _ (by decide) (by decide)).trans (flag_go_started _ _ _),
      flag_hreset_resetEnd _, (keeps_flag kept _ (by decide) (by decide)).trans (flag_entok_started _ _ _), flag_entropy_unseeded _,
      keeps_via kept (by decide) (keeps_mono (started_keeps _ _ _) (by decide))⟩
  case lapse =>
    intro s at_ lv nonce old
    exact ⟨_, exec_debugNonceLapse nonce old, rfl, nonceSpent_keeps s⟩
  case lapseNone => exact fun s nonce => exec_debugNonceLapse_noNonce nonce
  case entropy =>
    intro s
    exact ⟨_, rfl, (keeps_flag (raise_keeps _ _) _ (by decide) (by decide)).trans (flag_putb _ _ _ (by decide) rfl),
      flag_raise _ _ (by decide) rfl (by decide), keeps_raise (by decide) (keeps_putb (by decide) (keeps_refl _ _ _))⟩

end Sys2Proof.Proofs
end

section
/-!
PROOFS. What the shared operations of a channel do to it: a sector failed (R168, R303), passed on (R289, R290) or sent to re-detection
(R285, R286), and the settings kept for the sector under the head (R271). Each has its frame, and a lemma that gives the channel after.
-/
namespace Sys2Proof.Proofs

open Sys2Proof.Machine Sys2Proof.Safety Sys2Proof.Laws

/-! ### A channel and the other parts -/

section
variable {P : List Part} {R : List Field} {s t : State}

/-- A channel is as it was where the frame leaves the channels alone. -/
theorem keeps_ch (k : Keeps P R s t) (h : Part.ch ∉ P) (n : Chan) : t.ch n = s.ch n := by
  obtain ⟨h0, h1, h2, h3⟩ := k.part .ch (by decide) h
  induction n using chan_cases with
  | h0 => exact h0
  | h1 => exact h1
  | h2 => exact h2
  | h3 => exact h3

theorem keeps_cph (k : Keeps P R s t) (h : Part.cph ∉ P) : t.cph = s.cph := k.part .cph (by decide) h

end

theorem setCh_keeps (s : State) (n : Chan) (c : ChanSt) : Keeps [.ch] [] s (s.setCh n c) := keeps_setCh (by decide) (keeps_refl _ _ _)

/-! ### The settings kept for the sector under the head (R271) -/

/-- Settings are kept for the sector under the head, if there is one; the place under the head is an opaque value here, so that the kernel
does not evaluate its arithmetic. -/
theorem latchSector_cases (s : State) (n : Chan) :
    s.latchSector n = s ∨ ∃ lat, s.latchSector n = s.setCh n { s.ch n with lat := lat } := by
  unfold State.latchSector
  obtain ⟨place, named⟩ : ∃ p, s.placeNow (actOf n) (isSecond n) = p := ⟨_, rfl⟩
  rw [named]
  split
  · split
    · exact .inr ⟨_, rfl⟩
    · exact .inl rfl
  · exact .inl rfl

theorem latchSector_keeps (s : State) (n : Chan) : Keeps [.ch] [] s (s.latchSector n) := by
  obtain same | ⟨lat, kept⟩ := latchSector_cases s n
  · exact keeps_of_eq same.symm (keeps_refl _ _ _)
  · exact keeps_of_eq kept.symm (setCh_keeps s n _)

theorem latchSector_ch (s : State) (n : Chan) : ∃ lat, (s.latchSector n).ch n = { s.ch n with lat := lat } := by
  obtain same | ⟨lat, kept⟩ := latchSector_cases s n
  · exact ⟨(s.ch n).lat, congrArg (State.ch · n) same⟩
  · exact ⟨lat, (congrArg (State.ch · n) kept).trans (ch_setCh _ _ _)⟩

/-! ### A sector fails (R168, R303, R306) -/

/-- The fields that count a channel's failed sectors. -/
def failFields (n : Chan) : List Field := [Fld.CH_CNTF_BUSY n, Fld.CH_CNTF_FAIL n]

theorem markBad_keeps (s : State) (ctx p : Nat) : Keeps [.buf] [] s (s.markBad ctx p) := by
  unfold State.markBad
  split
  · exact keeps_set_buf (by decide) (keeps_refl _ _ _)
  · exact keeps_refl _ _ _

section
variable (s : State) (n : Chan) (item : Nat) (sec : Sec) (reason swt iter : Nat)

/-- A failed sector is counted and recorded; what follows is the count of BUSY and the position marked. -/
theorem sectorFail_split : ∃ c : ChanSt,
    (∃ flags staged contrib, c = { s.ch n with flags := flags, staged := staged, contrib := contrib }) ∧
    Keeps [.buf] [Fld.CH_CNTF_BUSY n] ((s.bump (Fld.CH_CNTF_FAIL n) 1).setCh n c) (s.sectorFail n item sec reason swt iter) := by
  unfold State.sectorFail
  extract_lets c m slot head fl rec4 flagged c1 s1 s2
  have busy : Keeps [.buf] [Fld.CH_CNTF_BUSY n] s1 s2 := keeps_ite (keeps_bump (within_of_subset (by decide) (by simp)) (keeps_refl _ _ _))
    (keeps_refl _ _ _)
  exact ⟨c1, ⟨_, _, _, rfl⟩, keeps_ite (keeps_via (markBad_keeps s2 _ _) (within_nil rfl) busy) busy⟩

theorem sectorFail_keeps : Keeps [.buf, .ch] (failFields n) s (s.sectorFail n item sec reason swt iter) := by
  obtain ⟨c, -, rest⟩ := sectorFail_split s n item sec reason swt iter
  exact keeps_via rest (within_of_subset (by decide) (by simp [failFields])) (keeps_setCh (within_nil rfl)
    (keeps_bump (within_of_subset (by decide) (by simp [failFields])) (keeps_refl _ _ _)))

/-- Of its channel a failed sector changes the media flags and what is staged. -/
theorem sectorFail_ch : ∃ flags staged contrib, (s.sectorFail n item sec reason swt iter).ch n =
    { s.ch n with flags := flags, staged := staged, contrib := contrib } := by
  obtain ⟨_, ⟨flags, staged, contrib, rfl⟩, rest⟩ := sectorFail_split s n item sec reason swt iter
  exact ⟨flags, staged, contrib, (keeps_ch rest (by decide) n).trans (ch_setCh _ _ _)⟩

/-- Every failed sector adds 1 to FAIL (R303). -/
theorem sectorFail_get_fail : (s.sectorFail n item sec reason swt iter).get (Fld.CH_CNTF_FAIL n) =
    satAdd 16 (s.get (Fld.CH_CNTF_FAIL n)) 1 := by
  obtain ⟨c, -, rest⟩ := sectorFail_split s n item sec reason swt iter
  rw [keeps_get rest _ (by decide) (by simp [Apart, Fld.CH_CNTF_BUSY, Fld.CH_CNTF_FAIL]), get_of_regs (setCh_regs _ _ _)]
  exact get_bump s (Fld.CH_CNTF_FAIL n) 1 rfl

/-! ### A sector is passed on (R289, R290) -/

/-- The counter of a channel's decoded sectors. -/
def sectorsFields (n : Chan) : List Field := [Fld.CH_SECTORS_COUNT n, Fld.CH_SECTORSH_COUNT n]

theorem bump64_keeps (lo hi : Nat) : Keeps [] [⟨lo, 0, 32⟩, ⟨hi, 0, 32⟩] s (s.bump64 lo hi) :=
  keeps_wr (by simp [within, covers]) (keeps_wr (by simp [within, covers]) (keeps_refl _ _ _))

theorem sectorDeliver_keeps (fl : Nat) : Keeps [.ch] (sectorsFields n) s (s.sectorDeliver n item sec iter fl) :=
  keeps_via (bump64_keeps _ _ _) (by revert n; decide) (keeps_setCh (within_nil rfl) (keeps_refl _ _ _))

/-- What CPH gets of a sector that a READ has decoded (R290). -/
def readSector (item : Nat) (sec : Sec) : RSec :=
  { item := item, ctx := sec.ctx, spos := sec.spos, lba := sec.lba, pi := wfield sec.set.cfg 28 2 }

/-- A sector of a READ waits for a lane; besides it the media flags and the contributions change. -/
theorem sectorDeliver_ch (fl : Nat) : ∃ flags contrib, (s.sectorDeliver n item sec iter fl).ch n =
    { s.ch n with flags := flags, contrib := contrib, out := if sec.read then (s.ch n).out ++ [readSector item sec] else (s.ch n).out } :=
  ⟨_, _, (keeps_ch (bump64_keeps _ _ _) (by decide) n).trans (ch_setCh _ _ _)⟩

/-! ### A sector goes to re-detection (R285, R286) -/

variable {s n} in
/-- With fewer than three sectors in the engine, one more is queued. -/
theorem toRedet_room (room : (s.ch n).redet.length < 3) : s.toRedet n item sec reason swt iter =
    s.setCh n { s.ch n with redet := (s.ch n).redet ++ [{ sec := sec, reason := reason, item := item }] } := if_pos room

end

end Sys2Proof.Proofs
end

section
/-!
PROOFS. The sync search (R277 to R285) and the on-the-fly decode (R269, R289, R290, R292): the outcomes of each command, and what its
capture or its loops leave of the channel.
-/
namespace Sys2Proof.Proofs

open Sys2Proof.Machine Sys2Proof.Safety Sys2Proof.Laws

/-! ### The sync search -/

/-- The channel's state once a sector's window has closed: the sample ring has the sector, the search goes on, the accumulator has the
pass (R282, R301). -/
def searched (s : State) (n : Chan) (r : MediaRun) (e : Sec) : State := ((s.ringTake n e).nextSearch n r).average n r e

theorem ringNext_keeps (s : State) (n : Chan) (r : MediaRun) (e : Sec) : Keeps [.ch] [] s ((s.ringTake n e).nextSearch n r) :=
  keeps_setCh (by decide) (setCh_keeps s n _)

theorem searched_keeps (s : State) (n : Chan) (r : MediaRun) (e : Sec) : Keeps [.ch] [] s (searched s n r e) :=
  keeps_ite (ringNext_keeps s n r e) (keeps_setCh (by decide) (ringNext_keeps s n r e))

/-- The averaging accumulator takes a pass and nothing else of the channel changes (R301). -/
theorem average_ch (s : State) (n : Chan) (r : MediaRun) (e : Sec) : ∃ acc, (s.average n r e).ch n = { s.ch n with acc := acc } := by
  unfold State.average
  extract_lets k second c
  split
  · exact ⟨c.acc, rfl⟩
  · exact ⟨_, ch_setCh _ _ _⟩

/-- The search ends with the sector last in the ring; the sectors before their decode and in the engine are as they were. -/
theorem searched_ch (s : State) (n : Chan) (r : MediaRun) (e : Sec) :
    ((searched s n r e).ch n).cur = (s.ch n).cur ∧ ((searched s n r e).ch n).redet = (s.ch n).redet ∧
      ((searched s n r e).ch n).ring.getLast?.map (fun p => (p.item, p.place, p.len)) = some (e.item, e.place, e.set.span) := by
  obtain ⟨acc, averaged⟩ := average_ch ((s.ringTake n e).nextSearch n r) n r e
  rw [searched, averaged, State.nextSearch, ch_setCh, State.ringTake, ch_setCh]
  exact ⟨rfl, rfl, by simp⟩

section
variable {s : State} {n : Chan} {cands : List (Int × Nat)} {r : MediaRun} {e : Sec}
  (run : (s.msq (actOf n)).mediaOn (isSecond n) = some r) (reads : (s.ch n).op = 1) (left : (s.ch n).place < r.count)
  (sector : e = s.sectorAt n (s.ch n).items r (s.ch n).place)
include run reads left sector

/-- Without a bit clock in range the sector fails (R108). -/
theorem exec_syncMarkSearch_noClock (clock : e.clk = false) : exec (.syncMarkSearch n cands) s =
    .next (((s.ringTake n e).nextSearch n r).sectorFail n (s.ch n).items e 8 0 0) := by
  subst sector
  change execSyncMarkSearch n cands s = _
  simp only [execSyncMarkSearch, run, reads, Nat.not_le.2 left, clock, ne_eq, not_true_eq_false, false_or, Bool.not_false,
    if_true, if_false]

variable (clock : e.clk = true) (fast : slowDec e.set.recc = false)
include clock fast

/-- The best candidate becomes the sync, up to three more stay (R279). -/
theorem exec_syncMarkSearch_found {best : Int × Nat} {rest : List (Int × Nat)} (found : s.candidates n cands = best :: rest) :
    exec (.syncMarkSearch n cands) s = .next ((searched s n r e).setCh n { (searched s n r e).ch n with
      cur := ((searched s n r e).ch n).cur ++ [{ e with sync := some best, others := rest.take 3 }] }) := by
  subst sector
  change execSyncMarkSearch n cands s = _
  simp only [execSyncMarkSearch, run, reads, Nat.not_le.2 left, clock, fast, found, ne_eq, not_true_eq_false, false_or, Bool.not_true,
    Bool.false_and, Bool.false_eq_true, if_false, searched]

/-- Without a candidate the sector goes to re-detection where MISSED is 1, and fails otherwise (R280, R285). -/
theorem exec_syncMarkSearch_missed (missed : s.candidates n cands = []) : exec (.syncMarkSearch n cands) s =
    .next (if s.flag (Fld.CH_REDET_MISSED n) then (searched s n r e).toRedet n (s.ch n).items e 1 0 0
      else (searched s n r e).sectorFail n (s.ch n).items e 1 0 0) := by
  subst sector
  change execSyncMarkSearch n cands s = _
  simp only [execSyncMarkSearch, run, reads, Nat.not_le.2 left, clock, fast, missed, ne_eq, not_true_eq_false, false_or, Bool.not_true,
    Bool.false_and, Bool.false_eq_true, if_false, searched]
end

/-! ### The on-the-fly decode -/

/-- The fields of a channel's loops and their limit event (R292, R294). -/
def trackFields (n : Chan) : List Field := recFields ++ [⟨Reg.CH_AGC n, 0, 32⟩, ⟨Reg.CH_TLOOP n, 0, 32⟩, Fld.CH_EV_TLIM n]

/-- The loops after a decode: the gain and timing registers and the taps, and then perhaps the event of the timing limit. -/
theorem loopsAfter_split (s : State) (n : Chan) (e : Sec) (conv : Bool) (out : DecodeOut) : ∃ agc tloop taps,
    Keeps [.rbk] (Fld.CH_EV_TLIM n :: recFields) ((((s.latchSector n).wr (Reg.CH_AGC n) agc).wr (Reg.CH_TLOOP n) tloop).setCh n
      { (s.latchSector n).ch n with taps := taps }) (s.loopsAfter n e conv out) := by
  unfold State.loopsAfter
  extract_lets src t c on_ agc a1 a2 fofs freq t1 t2 taps s1
  exact ⟨a2, t2, taps, keeps_ite (raise_keeps s1 _) (keeps_refl _ _ _)⟩

theorem loopsAfter_keeps (s : State) (n : Chan) (e : Sec) (conv : Bool) (out : DecodeOut) :
    Keeps [.ch, .rbk] (trackFields n) s (s.loopsAfter n e conv out) := by
  obtain ⟨agc, tloop, taps, event⟩ := loopsAfter_split s n e conv out
  refine keeps_via event (within_of_subset (by decide) (by simp [trackFields])) (keeps_setCh (within_nil rfl) ?_)
  exact keeps_wr (within_of_subset (by decide) (by simp [trackFields])) (keeps_wr (within_of_subset (by decide) (by simp [trackFields]))
    (keeps_mono (latchSector_keeps s n) (within_nil rfl)))

theorem loopsAfter_ch (s : State) (n : Chan) (e : Sec) (conv : Bool) (out : DecodeOut) :
    ∃ lat taps, (s.loopsAfter n e conv out).ch n = { s.ch n with lat := lat, taps := taps } := by
  obtain ⟨agc, tloop, taps, event⟩ := loopsAfter_split s n e conv out
  obtain ⟨lat, latched⟩ := latchSector_ch s n
  exact ⟨lat, taps, by rw [keeps_ch event (by decide) n, ch_setCh, latched]⟩

/-- The state in which the outcome of the decode of a channel's oldest sector is judged. -/
def decoded (s : State) (n : Chan) (e : Sec) (more : List Sec) (out : DecodeOut) : State :=
  (s.setCh n { s.ch n with cur := more }).loopsAfter n e (converged (iterLimit e.set.cfg e.set.recc) out.weights).isSome out

theorem decoded_keeps (s : State) (n : Chan) (e : Sec) (more : List Sec) (out : DecodeOut) :
    Keeps [.ch, .rbk] (trackFields n) s (decoded s n e more out) :=
  keeps_trans (keeps_setCh (within_nil rfl) (keeps_refl _ _ _)) (loopsAfter_keeps _ n e _ out)

theorem decoded_ch (s : State) (n : Chan) (e : Sec) (more : List Sec) (out : DecodeOut) :
    ∃ lat taps, (decoded s n e more out).ch n = { s.ch n with cur := more, lat := lat, taps := taps } := by
  obtain ⟨lat, taps, same⟩ := loopsAfter_ch (s.setCh n { s.ch n with cur := more }) n e
    (converged (iterLimit e.set.cfg e.set.recc) out.weights).isSome out
  exact ⟨lat, taps, same.trans (by rw [ch_setCh])⟩

section
variable {s : State} {n : Chan} {e : Sec} {more : List Sec} {out : DecodeOut} (oldest : (s.ch n).cur = e :: more)
  (good : out.sramBad = false)
include oldest good

/-- With the bit clock out of range the sector fails (R108). -/
theorem exec_sectorDecode_noClock (clock : s.bclkOk n = false) : exec (.sectorDecode n out) s =
    .next ((decoded s n e more out).sectorFail n e.item e 8 0 0) := by
  change execSectorDecode n out s = _
  simp only [execSectorDecode, oldest, good, clock, Bool.not_false, Bool.false_eq_true, if_true, if_false, decoded]

variable (clock : s.bclkOk n = true)
include clock

theorem exec_sectorDecode_stays (stays : converged (iterLimit e.set.cfg e.set.recc) out.weights = none) :
    exec (.sectorDecode n out) s = .next ((decoded s n e more out).decodeFailed n e.item e 2
      (lastWeight (iterLimit e.set.cfg e.set.recc) out.weights) (min out.weights.length (iterLimit e.set.cfg e.set.recc))) := by
  change execSectorDecode n out s = _
  simp only [execSectorDecode, oldest, good, clock, stays, Bool.not_true, Bool.false_eq_true, if_false, decoded]

variable {it : Nat} (conv : converged (iterLimit e.set.cfg e.set.recc) out.weights = some it) (crc : out.crc = true)
include conv crc

/-- A sector that converges with the right CRC and tag is passed on (R289, R290). -/
theorem exec_sectorDecode_passed (tag : e.tagOk out.tag = true) :
    exec (.sectorDecode n out) s = .next ((decoded s n e more out).sectorDeliver n e.item e it 0) := by
  change execSectorDecode n out s = _
  simp only [execSectorDecode, oldest, good, clock, conv, crc, tag, Bool.not_true, Bool.false_eq_true, if_false, decoded]

/-- The tag of another sector fails it (R273). -/
theorem exec_sectorDecode_otherTag (tag : e.tagOk out.tag = false) :
    exec (.sectorDecode n out) s = .next ((decoded s n e more out).sectorFail n e.item e 4 0 it) := by
  change execSectorDecode n out s = _
  simp only [execSectorDecode, oldest, good, clock, conv, crc, tag, Bool.not_true, Bool.not_false, Bool.false_eq_true, if_true, if_false,
    decoded]
end

section
variable {s : State} {n : Chan} {item reason swt iter k : Nat} {e : Sec} {d : Int} (sync : e.sync = some (d, k))
include sync

/-- A failed decode whose sync came in time is not tried again while ANYSYNC is 0 (R285). -/
theorem decodeFailed_fails (inTime : 0 ≤ d) (off : s.flag (Fld.CH_REDET_ANYSYNC n) = false) :
    s.decodeFailed n item e reason swt iter = s.sectorFail n item e reason swt iter := by
  simp only [State.decodeFailed, sync, Int.not_lt.2 inTime, decide_false, Bool.false_eq_true, if_false, off]

/-- A failed decode whose sync came early is tried again with EARLY at 1 (R285). -/
theorem decodeFailed_early (early : d < 0) (on : s.flag (Fld.CH_REDET_EARLY n) = true) :
    s.decodeFailed n item e reason swt iter = s.toRedet n item e reason swt iter := by
  simp only [State.decodeFailed, sync, early, decide_true, if_true, on]
end

end Sys2Proof.Proofs
end

section
/-!
PROOFS. What a channel does with a sector that it reads (R277 to R305): the outcomes of search and decode with their frames, the freeze
limit (R298), the failure records (R305) and the tap port (R292).
-/
namespace Sys2Proof.Proofs

open Sys2Proof.Machine Sys2Proof.Safety Sys2Proof.Laws

/-! ### The outcomes of a search -/

section
variable (s : State) (n : Chan) (item : Nat) (e : Sec) (reason swt iter : Nat)

/-- A sector that fails after an update of its channel alone. -/
theorem sectorFail_after {t : State} (kept : Keeps [.ch] [] s t) :
    (t.sectorFail n item e reason swt iter).get (Fld.CH_CNTF_FAIL n) = satAdd 16 (s.get (Fld.CH_CNTF_FAIL n)) 1 ∧
      Keeps [.buf, .ch, .rbk] (failFields n) s (t.sectorFail n item e reason swt iter) := by
  refine ⟨?_, keeps_via (sectorFail_keeps t n item e reason swt iter) (within_of_subset (by decide) (List.Subset.refl _))
    (keeps_mono kept (within_nil rfl))⟩
  rw [sectorFail_get_fail, keeps_get kept _ (by decide) rfl]

/-! ### The outcomes of a decode -/

/-- The fields of the on-the-fly decode: the loops, the counters of sectors and of failures, the events of a channel, and the report of
an SRAM error. -/
def decodeFields (n : Chan) : List Field :=
  recFields ++ [⟨Reg.CH_AGC 0, 0, 32⟩, ⟨Reg.CH_TLOOP 0, 0, 32⟩, Fld.CH_SECTORS_COUNT 0, Fld.CH_SECTORSH_COUNT 0,
    ⟨Reg.CH_AGC 1, 0, 32⟩, ⟨Reg.CH_TLOOP 1, 0, 32⟩, Fld.CH_SECTORS_COUNT 1, Fld.CH_SECTORSH_COUNT 1,
    ⟨Reg.CH_AGC 2, 0, 32⟩, ⟨Reg.CH_TLOOP 2, 0, 32⟩, Fld.CH_SECTORS_COUNT 2, Fld.CH_SECTORSH_COUNT 2,
    ⟨Reg.CH_AGC 3, 0, 32⟩, ⟨Reg.CH_TLOOP 3, 0, 32⟩, Fld.CH_SECTORS_COUNT 3, Fld.CH_SECTORSH_COUNT 3,
    Fld.MEM_FLT_SRAMUE, Fld.MEM_SRAMERR_REGION, Fld.MEM_SRAMERR_UE, Fld.CH_CNTF_BUSY n, Fld.CH_CNTF_FAIL n, Fld.CH_EV_TLIM n,
    Fld.CH_FLT_SRAM n]

theorem decoded_within (more : List Sec) (out : DecodeOut) : Keeps [.buf, .ch, .rbk] (decodeFields n) s (decoded s n e more out) :=
  keeps_mono (decoded_keeps s n e more out) (by revert n; decide)

/-- A decode leaves the enables of re-detection (R285). -/
theorem flag_decoded {f : Field} (more : List Sec) (out : DecodeOut) (apart : (trackFields n).all (fun g => Apart g f) = true) :
    (decoded s n e more out).flag f = s.flag f := keeps_flag (decoded_keeps s n e more out) f (by decide) apart

/-- A sector that fails at its decode leaves the search's queue, does not go to re-detection, and is counted. -/
theorem decoded_fails (more : List Sec) (out : DecodeOut) :
    (((decoded s n e more out).sectorFail n item e reason swt iter).ch n).cur = more ∧
      (((decoded s n e more out).sectorFail n item e reason swt iter).ch n).redet = (s.ch n).redet ∧
      ((decoded s n e more out).sectorFail n item e reason swt iter).get (Fld.CH_CNTF_FAIL n) = satAdd 16 (s.get (Fld.CH_CNTF_FAIL n)) 1 ∧
      Keeps [.buf, .ch, .rbk] (decodeFields n) s ((decoded s n e more out).sectorFail n item e reason swt iter) := by
  have untouched : (decoded s n e more out).get (Fld.CH_CNTF_FAIL n) = s.get (Fld.CH_CNTF_FAIL n) :=
    keeps_get (decoded_keeps s n e more out) _ (by decide) (by revert n; decide)
  have kept : Keeps [.buf, .ch, .rbk] (decodeFields n) s ((decoded s n e more out).sectorFail n item e reason swt iter) :=
    keeps_via (sectorFail_keeps _ n item e reason swt iter) (within_of_subset (by decide) (by simp [failFields, decodeFields]))
      (decoded_within s n e more out)
  obtain ⟨lat, taps, taken⟩ := decoded_ch s n e more out
  obtain ⟨flags, staged, contrib, failed⟩ := sectorFail_ch (decoded s n e more out) n item e reason swt iter
  rw [failed, taken, sectorFail_get_fail, untouched]
  exact ⟨rfl, rfl, rfl, kept⟩

/-- A sector of a READ that passes its decode leaves the search's queue and waits for a lane. -/
theorem decoded_passes (more : List Sec) (out : DecodeOut) (read : e.read = true) :
    (((decoded s n e more out).sectorDeliver n item e iter 0).ch n).cur = more ∧
      (((decoded s n e more out).sectorDeliver n item e iter 0).ch n).out = (s.ch n).out ++ [readSector item e] ∧
      Keeps [.buf, .ch, .rbk] (decodeFields n) s ((decoded s n e more out).sectorDeliver n item e iter 0) := by
  have kept : Keeps [.buf, .ch, .rbk] (decodeFields n) s ((decoded s n e more out).sectorDeliver n item e iter 0) :=
    keeps_via (sectorDeliver_keeps _ n item e iter 0) (by revert n; decide) (decoded_within s n e more out)
  obtain ⟨lat, taps, taken⟩ := decoded_ch s n e more out
  obtain ⟨flags, contrib, passed⟩ := sectorDeliver_ch (decoded s n e more out) n item e iter 0
  rw [passed, taken, if_pos read]
  exact ⟨rfl, rfl, kept⟩

/-- A sector that fails at its decode and qualifies waits for the engine. -/
theorem decoded_redetects (more : List Sec) (out : DecodeOut) (room : (s.ch n).redet.length < 3) :
    (((decoded s n e more out).toRedet n item e reason swt iter).ch n).cur = more ∧
      (((decoded s n e more out).toRedet n item e reason swt iter).ch n).redet =
        (s.ch n).redet ++ [{ sec := e, reason := reason, item := item }] ∧
      Keeps [.buf, .ch, .rbk] (decodeFields n) s ((decoded s n e more out).toRedet n item e reason swt iter) := by
  obtain ⟨lat, taps, taken⟩ := decoded_ch s n e more out
  have still : ((decoded s n e more out).ch n).redet.length < 3 := by rw [taken]; exact room
  rw [toRedet_room _ _ _ _ _ still, ch_setCh, taken]
  exact ⟨rfl, rfl, keeps_setCh (within_nil rfl) (decoded_within s n e more out)⟩
end

/-! ### The freeze limit (R298) -/

/-- A sector fails for its freeze, and the event of the freeze is raised. -/
def freezeFailed (s : State) (n : Chan) (e : Sec) : State :=
  ((s.setCh n { s.ch n with cur := (s.ch n).cur.dropLast }).sectorFail n e.item e 5 0 0).raise (Fld.CH_EV_FREEZE n)

/-- The last sector between search and decode fails when the freeze inside its span is too long. -/
theorem exec_freezeLimit {s : State} {n : Chan} {r : MediaRun} {e : Sec} (run : (s.msq (actOf n)).mediaOn (isSecond n) = some r)
    (reads : (s.ch n).op = 1) (last : (s.ch n).cur.getLast? = some e) (exceeds : s.freezeOver n e.place = true) :
    exec (.freezeLimit n) s = .next (freezeFailed s n e) := by
  change execFreezeLimit n s = _
  simp only [execFreezeLimit, run, reads, last, exceeds, ne_eq, not_true_eq_false, Bool.not_true, Bool.false_eq_true, if_false,
    freezeFailed]

theorem freezeFailed_keeps (s : State) (n : Chan) (e : Sec) : Keeps [.buf, .ch, .rbk]
    (recFields ++ [Fld.CH_CNTF_BUSY n, Fld.CH_CNTF_FAIL n, Fld.CH_EV_FREEZE n]) s (freezeFailed s n e) :=
  keeps_raise (by revert n; decide) (keeps_via (sectorFail_keeps _ n e.item e 5 0 0) (by revert n; decide)
    (keeps_setCh (within_nil rfl) (keeps_refl _ _ _)))

theorem freezeFailed_cur (s : State) (n : Chan) (e : Sec) : ((freezeFailed s n e).ch n).cur = (s.ch n).cur.dropLast := by
  obtain ⟨flags, staged, contrib, failed⟩ :=
    sectorFail_ch (s.setCh n { s.ch n with cur := (s.ch n).cur.dropLast }) n e.item e 5 0 0
  rw [freezeFailed, keeps_ch (raise_keeps _ _) (by decide) n, failed, ch_setCh]

theorem freezeFailed_event (s : State) (n : Chan) (e : Sec) : (freezeFailed s n e).flag (Fld.CH_EV_FREEZE n) = true :=
  flag_raise _ _ rfl rfl (by revert n; decide)

theorem freezeFailed_fail (s : State) (n : Chan) (e : Sec) :
    (freezeFailed s n e).get (Fld.CH_CNTF_FAIL n) = satAdd 16 (s.get (Fld.CH_CNTF_FAIL n)) 1 :=
  (keeps_get (raise_keeps _ _) _ (by decide) (by revert n; decide)).trans
    ((sectorFail_after s n e.item e 5 0 0 (setCh_keeps s n _)).1)

/-! ### The tap port (R292) -/

/-- CHn_EQADDR wraps at 0x7F. -/
theorem get_eqNext (s : State) (n : Chan) :
    (s.eqNext n).get (Fld.CH_EQADDR_ADDR n) = (s.get (Fld.CH_EQADDR_ADDR n) + 1) % 128 := get_put _ _ _ rfl

theorem eqNext_keeps (s : State) (n : Chan) : Keeps [] [Fld.CH_EQADDR_ADDR n] s (s.eqNext n) := State_put_keeps _ _ _

section
variable {s : State} {i : Initiator} {n : Chan} {v : Word} (chan : s.chanOk n = true)
include chan

theorem exec_eqdataAccess_write : exec (.eqdataAccess i n true v) s = .next (s.eqWrite n v) := by
  change execEqdataAccess i n true v s = _
  simp only [execEqdataAccess, chan, Bool.not_true, Bool.false_eq_true, if_false, if_true]

theorem exec_eqdataAccess_read :
    exec (.eqdataAccess i n false v) s = .next ((s.eqNext n).setRead i ((s.eqTap n).zeroExtend 64)) := by
  change execEqdataAccess i n false v s = _
  simp only [execEqdataAccess, chan, Bool.not_true, Bool.false_eq_true, if_false]
  rfl
end

theorem eqWrite_keeps (s : State) (n : Chan) (v : Word) : Keeps [.ch] [Fld.CH_EQADDR_ADDR n] s (s.eqWrite n v) :=
  keeps_via (eqNext_keeps _ n) (within_of_subset (by decide) (List.Subset.refl _))
    (keeps_setCh (within_nil rfl) (keeps_mono (latchSector_keeps s n) (within_nil rfl)))

/-- Keeping the settings of the sector under the head leaves the port's address. -/
theorem get_latchSector (s : State) (n : Chan) (f : Field) : (s.latchSector n).get f = s.get f :=
  keeps_get (latchSector_keeps s n) f (by decide) rfl

theorem eqWrite_tap (s : State) (n : Chan) (v : Word) :
    mget (fun _ => (0 : Word)) ((s.eqWrite n v).ch n).taps (s.get (Fld.CH_EQADDR_ADDR n)) = (v &&& 0x3FF#32) := by
  rw [State.eqWrite, keeps_ch (eqNext_keeps _ n) (by decide) n, ch_setCh, get_latchSector]
  exact mget_mset _ _ _ _

theorem eqWrite_addr (s : State) (n : Chan) (v : Word) :
    (s.eqWrite n v).get (Fld.CH_EQADDR_ADDR n) = (s.get (Fld.CH_EQADDR_ADDR n) + 1) % 128 := by
  rw [State.eqWrite, get_eqNext, get_of_regs (setCh_regs _ _ _), get_latchSector]

/-- Settles O25: each outcome of the search, the decode, the freeze limit and the ports of a channel follows from the lemma for that
outcome. -/
theorem syncAndDecode : Obligations.SyncAndDecode := by
  unfold Obligations.SyncAndDecode
  refine ⟨?found, ?redetected, ?missed, ?noClock, ?passed, ?otherTag, ?inTime, ?early, ?decodeNoClock, ?freeze, ?freezeLimit, ?pop,
    ?tapWrite, ?tapRead⟩
  case found =>
    intro s n cands r e best rest run reads left sector clock fast found
    obtain ⟨cur, -, ring⟩ := searched_ch s n r e
    refine ⟨_, exec_syncMarkSearch_found run reads left sector clock fast found, ?_, ?_,
      keeps_setCh (by decide) (searched_keeps s n r e)⟩
    · rw [ch_setCh, cur]
    · rw [ch_setCh]
      exact ring
  case redetected =>
    intro s n cands r e run reads left sector clock fast missed on room
    obtain ⟨-, redet, -⟩ := searched_ch s n r e
    have still : ((searched s n r e).ch n).redet.length < 3 := by rw [redet]; exact room
    have answer := exec_syncMarkSearch_missed run reads left sector clock fast missed
    rw [if_pos on, toRedet_room _ _ _ _ _ still] at answer
    refine ⟨_, answer, ?_, keeps_setCh (within_nil rfl) (keeps_mono (searched_keeps s n r e) (within_nil rfl))⟩
    rw [ch_setCh, redet, sector]
    rfl
  case missed =>
    intro s n cands r e run reads left sector clock fast missed off
    have answer := exec_syncMarkSearch_missed run reads left sector clock fast missed
    rw [if_neg (by simp [off])] at answer
    exact ⟨_, answer, sectorFail_after s n _ e 1 0 0 (searched_keeps s n r e)⟩
  case noClock =>
    intro s n cands r e run reads left sector clock
    exact ⟨_, exec_syncMarkSearch_noClock run reads left sector clock, sectorFail_after s n _ e 8 0 0 (ringNext_keeps s n r e)⟩
  case passed =>
    intro s n out e more it oldest good clock conv crc tag read
    exact ⟨_, exec_sectorDecode_passed oldest good clock conv crc tag, decoded_passes s n e.item e it more out read⟩
  case otherTag =>
    intro s n out e more it oldest good clock conv crc tag
    exact ⟨_, exec_sectorDecode_otherTag oldest good clock conv crc tag, decoded_fails s n e.item e 4 0 it more out⟩
  case inTime =>
    intro s n out e more d k oldest good clock stays sync inTime off
    have still := (flag_decoded s n e more out (f := Fld.CH_REDET_ANYSYNC n) (by clear * -; revert n; decide)).trans off
    obtain ⟨cur, -, fail, kept⟩ := decoded_fails s n e.item e 2 (lastWeight (iterLimit e.set.cfg e.set.recc) out.weights)
      (min out.weights.length (iterLimit e.set.cfg e.set.recc)) more out
    have answer := exec_sectorDecode_stays oldest good clock stays
    rw [decodeFailed_fails sync inTime still] at answer
    exact ⟨_, answer, cur, fail, kept⟩
  case early =>
    intro s n out e more d k oldest good clock stays sync early on room
    have still := (flag_decoded s n e more out (f := Fld.CH_REDET_EARLY n) (by clear * -; revert n; decide)).trans on
    have answer := exec_sectorDecode_stays oldest good clock stays
    rw [decodeFailed_early sync early still] at answer
    exact ⟨_, answer, decoded_redetects s n e.item e 2 _ _ more out room⟩
  case decodeNoClock =>
    intro s n out e more oldest good clock
    obtain ⟨cur, -, fail, kept⟩ := decoded_fails s n e.item e 8 0 0 more out
    exact ⟨_, exec_sectorDecode_noClock oldest good clock, cur, fail, kept⟩
  case freeze =>
    intro s n on chan
    exact ⟨_, congrArg Host.Outcome.next (if_pos chan), ch_setCh _ _ _, setCh_keeps s n _⟩
  case freezeLimit =>
    intro s n r e run reads last exceeds
    exact ⟨_, exec_freezeLimit run reads last exceeds, freezeFailed_cur s n e, freezeFailed_event s n e, freezeFailed_fail s n e,
      freezeFailed_keeps s n e⟩
  case pop => exact fun s n => ⟨_, rfl, ch_setCh _ _ _, setCh_keeps s n _⟩
  case tapWrite =>
    exact fun s i n v chan => ⟨_, exec_eqdataAccess_write chan, eqWrite_tap s n v, eqWrite_addr s n v, eqWrite_keeps s n v⟩
  case tapRead =>
    intro s i n v chan
    exact ⟨_, exec_eqdataAccess_read chan, mget_mset _ _ _ _, get_eqNext s n,
      keeps_setRead (within_nil rfl) (keeps_mono (eqNext_keeps s n) (within_of_subset (by decide) (List.Subset.refl _)))⟩

end Sys2Proof.Proofs
end

section
/-!
PROOFS. The re-detection engine (R284, R287 to R290): how it ends its first sector.
-/
namespace Sys2Proof.Proofs

open Sys2Proof.Machine Sys2Proof.Safety Sys2Proof.Laws

/-- The fields of every end of a re-detection: the counters, the events of a channel, and the report of an SRAM error. -/
def redetFields (n : Chan) : List Field :=
  recFields ++ [Fld.CH_SECTORS_COUNT 0, Fld.CH_SECTORSH_COUNT 0, Fld.CH_SECTORS_COUNT 1, Fld.CH_SECTORSH_COUNT 1,
    Fld.CH_SECTORS_COUNT 2, Fld.CH_SECTORSH_COUNT 2, Fld.CH_SECTORS_COUNT 3, Fld.CH_SECTORSH_COUNT 3,
    Fld.MEM_FLT_SRAMUE, Fld.MEM_SRAMERR_REGION, Fld.MEM_SRAMERR_UE, Fld.CH_CNTF_BUSY n, Fld.CH_CNTF_FAIL n,
    Fld.CH_CNTR_REDET_FAIL n, Fld.CH_CNTR_REDET_OK n, Fld.CH_EV_REDETFAIL n, Fld.CH_EV_REDETOK n, Fld.CH_FLT_SRAM n]

theorem redetDone_keeps (s : State) (n : Chan) : Keeps [.ch] [] s (s.redetDone n) := setCh_keeps s n _

theorem redetDone_ch (s : State) (n : Chan) : (s.redetDone n).ch n = { s.ch n with redet := (s.ch n).redet.drop 1 } := ch_setCh _ _ _

/-! ### A re-detection that fails (R287, R288) -/

/-- The fields of a re-detection that ends without a decode. -/
def redetFailFields (n : Chan) : List Field :=
  recFields ++ [Fld.CH_CNTF_BUSY n, Fld.CH_CNTF_FAIL n, Fld.CH_CNTR_REDET_FAIL n, Fld.CH_EV_REDETFAIL n]

section
variable (s : State) (n : Chan) (r : Redet) (reason swt iter : Nat)

theorem redetFail_keeps : Keeps [.buf, .ch, .rbk] (redetFailFields n) s (s.redetFail n r reason swt iter) :=
  keeps_raise (by revert n; decide) (keeps_bump (by revert n; decide) (keeps_via (sectorFail_keeps _ n r.item r.sec reason swt iter)
    (by revert n; decide) (keeps_mono (redetDone_keeps s n) (within_nil rfl))))

/-- What follows the failed sector leaves the channel and its FAIL count. -/
theorem redetFail_counted : Keeps [.rbk] (recFields ++ [Fld.CH_CNTR_REDET_FAIL n, Fld.CH_EV_REDETFAIL n])
    ((s.redetDone n).sectorFail n r.item r.sec reason swt iter) (s.redetFail n r reason swt iter) :=
  keeps_raise (by revert n; decide) (keeps_bump (by revert n; decide) (keeps_refl _ _ _))

theorem redetFail_redet : ((s.redetFail n r reason swt iter).ch n).redet = (s.ch n).redet.drop 1 := by
  obtain ⟨flags, staged, contrib, failed⟩ := sectorFail_ch (s.redetDone n) n r.item r.sec reason swt iter
  rw [keeps_ch (redetFail_counted s n r reason swt iter) (by decide) n, failed, redetDone_ch]

theorem redetFail_fail : (s.redetFail n r reason swt iter).get (Fld.CH_CNTF_FAIL n) = satAdd 16 (s.get (Fld.CH_CNTF_FAIL n)) 1 :=
  (keeps_get (redetFail_counted s n r reason swt iter) _ (by decide) (by revert n; decide)).trans
    (sectorFail_after s n r.item r.sec reason swt iter (redetDone_keeps s n)).1

theorem redetFail_count :
    (s.redetFail n r reason swt iter).get (Fld.CH_CNTR_REDET_FAIL n) = satAdd 16 (s.get (Fld.CH_CNTR_REDET_FAIL n)) 1 :=
  ((keeps_get (raise_keeps _ _) _ (by decide) (by revert n; decide)).trans (get_bump _ (Fld.CH_CNTR_REDET_FAIL n) 1 rfl)).trans
    (congrArg (satAdd 16 · 1) ((keeps_get (sectorFail_keeps _ n r.item r.sec reason swt iter) _ (by decide) (by revert n; decide)).trans
      (keeps_get (redetDone_keeps s n) _ (by decide) rfl)))

theorem redetFail_event : (s.redetFail n r reason swt iter).flag (Fld.CH_EV_REDETFAIL n) = true :=
  flag_raise _ _ rfl rfl (by revert n; decide)

theorem redetFailFields_within : within [.buf, .ch, .rbk] (redetFields n) [.buf, .ch, .rbk] (redetFailFields n) = true := by
  revert n
  decide
end

/-! ### An uncorrectable word among the samples (R284, R554) -/

/-- The error is reported for the channels' SRAM and for the channel. -/
def samplesBad (s : State) (n : Chan) : State := (s.sramUe 1).raise (Fld.CH_FLT_SRAM n)

/-- The fields of the report. -/
def samplesFields (n : Chan) : List Field :=
  recFields ++ [Fld.MEM_FLT_SRAMUE, Fld.MEM_SRAMERR_REGION, Fld.MEM_SRAMERR_UE, Fld.CH_FLT_SRAM n]

theorem samplesBad_keeps (s : State) (n : Chan) : Keeps [.rbk] (samplesFields n) s (samplesBad s n) :=
  keeps_raise (by revert n; decide) (keeps_raise (by revert n; decide) (keeps_put (by revert n; decide)
    (keeps_bump (by revert n; decide) (keeps_refl _ _ _))))

theorem samplesBad_memory (s : State) (n : Chan) : (samplesBad s n).flag Fld.MEM_FLT_SRAMUE = true :=
  (keeps_flag (raise_keeps _ _) _ (by decide) (by revert n; decide)).trans (flag_raise _ _ (by decide) rfl (by decide))

theorem samplesBad_channel (s : State) (n : Chan) : (samplesBad s n).flag (Fld.CH_FLT_SRAM n) = true :=
  flag_raise _ _ rfl rfl (by revert n; decide)

/-! ### A re-detection that succeeds (R289, R290) -/

/-- The sector leaves the engine and is passed on with REDET set, and the success is counted. -/
def redetected (s : State) (n : Chan) (r : Redet) (k : Nat) : State :=
  (((s.redetDone n).sectorDeliver n r.item r.sec k flagRedet).bump (Fld.CH_CNTR_REDET_OK n) 1).raise (Fld.CH_EV_REDETOK n)

section
variable (s : State) (n : Chan) (r : Redet) (k : Nat)

theorem redetected_keeps : Keeps [.buf, .ch, .rbk] (redetFields n) s (redetected s n r k) :=
  keeps_raise (by revert n; decide) (keeps_bump (by revert n; decide) (keeps_via (sectorDeliver_keeps _ n r.item r.sec k flagRedet)
    (by revert n; decide) (keeps_mono (redetDone_keeps s n) (within_nil rfl))))

theorem redetected_redet : ((redetected s n r k).ch n).redet = (s.ch n).redet.drop 1 := by
  obtain ⟨flags, contrib, passed⟩ := sectorDeliver_ch (s.redetDone n) n r.item r.sec k flagRedet
  rw [redetected, keeps_ch (raise_keeps _ _) (by decide) n, keeps_ch (State_bump_keeps _ _ _) (by decide) n, passed, redetDone_ch]

theorem redetected_count :
    (redetected s n r k).get (Fld.CH_CNTR_REDET_OK n) = satAdd 16 (s.get (Fld.CH_CNTR_REDET_OK n)) 1 :=
  ((keeps_get (raise_keeps _ _) _ (by decide) (by revert n; decide)).trans (get_bump _ (Fld.CH_CNTR_REDET_OK n) 1 rfl)).trans
    (congrArg (satAdd 16 · 1) ((keeps_get (sectorDeliver_keeps _ n r.item r.sec k flagRedet) _ (by decide) (by revert n; decide)).trans
      (keeps_get (redetDone_keeps s n) _ (by decide) rfl)))

theorem redetected_event : (redetected s n r k).flag (Fld.CH_EV_REDETOK n) = true := flag_raise _ _ rfl rfl (by revert n; decide)
end

/-! ### The offsets in order (R287) -/

section
variable {s : State} {n : Chan} {r : Redet} {e : RedetTry} {rest : List RedetTry} {swt iter : Nat}

/-- Samples that the ring no longer holds fail the sector with reason RING. -/
theorem redetTry_lost (lost : s.ringHolds n r.item r.sec.place = false) :
    s.redetTry n r (e :: rest) swt iter = s.redetFail n r 6 swt iter := by
  simp only [State.redetTry, lost, Bool.not_false, Bool.or_true, if_true]

/-- The first offset that converges, not given up after its second iteration, with the CRC and the tag of the sector, delivers it. -/
theorem redetTry_found {it : Nat} (inRing : e.inRing = true) (holds : s.ringHolds n r.item r.sec.place = true)
    (conv : converged (max 1 (s.get (Fld.CH_REDET_ITER n))) e.weights = some it)
    (goesOn : (converged (min 2 (max 1 (s.get (Fld.CH_REDET_ITER n)))) e.weights).isSome = true ∨
      (e.weights[1]?).getD 0 ≤ s.get (Fld.CH_REDET_SWMAX n))
    (crc : e.crc = true) (tag : r.sec.tagOk e.tag = true) : s.redetTry n r (e :: rest) swt iter = redetected s n r it := by
  cases second : converged (min 2 (max 1 (s.get (Fld.CH_REDET_ITER n)))) e.weights with
  | none =>
    have low : (e.weights[1]?).getD 0 ≤ s.get (Fld.CH_REDET_SWMAX n) := by simpa [second] using goesOn
    simp only [State.redetTry, inRing, holds, second, conv, crc, tag, Nat.not_lt.2 low, decide_false, Bool.and_false, Bool.not_true,
      Bool.or_false, Bool.false_eq_true, if_true, if_false, redetected]
  | some _ =>
    simp only [State.redetTry, inRing, holds, second, conv, crc, tag, Bool.not_true, Bool.or_false, Bool.false_eq_true, if_true, if_false,
      redetected]

variable {more : List Redet} (queue : (s.ch n).redet = r :: more)
include queue

/-- The engine tries at most MAXHYP offsets, and at least one. -/
theorem exec_redetection (tries : List RedetTry) : exec (.redetection n tries false) s =
    .next (s.redetTry n r (tries.take (max 1 (s.get (Fld.CH_REDET_MAXHYP n)))) 0 0) := by
  change execRedetection n tries false s = _
  simp only [execRedetection, queue, Bool.false_eq_true, if_false]

/-- The best offset is tried first. -/
theorem exec_redetection_cons : ∃ others, exec (.redetection n (e :: rest) false) s = .next (s.redetTry n r (e :: others) 0 0) := by
  obtain ⟨m, atLeastOne⟩ : ∃ m, max 1 (s.get (Fld.CH_REDET_MAXHYP n)) = m + 1 :=
    ⟨_, (Nat.sub_add_cancel (Nat.le_max_left 1 _)).symm⟩
  exact ⟨rest.take m, by rw [exec_redetection queue, atLeastOne, List.take_succ_cons]⟩

theorem exec_redetection_sramBad (tries : List RedetTry) :
    exec (.redetection n tries true) s = .next ((samplesBad s n).redetFail n r 10 0 0) := by
  change execRedetection n tries true s = _
  simp only [execRedetection, queue, if_true, samplesBad]

theorem exec_redetectionDeadline : exec (.redetectionDeadline n) s =
    if s.ringFull n r.item r.sec.place then .next (s.redetFail n r 6 0 0) else .next s := by
  change execRedetectionDeadline n s = _
  simp only [execRedetectionDeadline, queue]

/-- A sector that the engine ends leaves it. -/
theorem redetFail_more (reason swt iter : Nat) : ((s.redetFail n r reason swt iter).ch n).redet = more := by
  rw [redetFail_redet, queue, List.drop_one, List.tail_cons]
end

end Sys2Proof.Proofs
end

section
/-!
PROOFS. The XTS lanes of CPH (R46, R290, R574, R592 to R596): a read position that leaves its lane, and a position of a WRITE that passes
one. A lane reads the DRAM alone, so its frame is narrower than that of memory as a whole: nothing of the SRAM's error report is in it.
-/
namespace Sys2Proof.Proofs

open Sys2Proof.Machine Sys2Proof.Safety Sys2Proof.Laws

/-! ### Words of the DRAM (R537, R540 to R543) -/

/-- The fields in which memory reports what a read of the DRAM found. -/
def dramFields : List Field :=
  recFields ++ [Fld.MEM_EV_CE, Fld.MEM_EV_UE, Fld.MEM_UEADDR_ADDR, Fld.MEM_UEINFO_INIT, Fld.MEM_UEINFO_OVF, Fld.MEM_UEINFO_VALID,
    Fld.MEM_CETCTL_CET_OVF, Fld.MEM_CNT_UE, Fld.MEM_CNT_CE]

theorem free_keeps (s : State) : Keeps [.free] [] s s.free.2 := keeps_set_freeCtr (by decide) (keeps_refl _ _ _)

theorem dramCell_keeps (s : State) (addr : Nat) : Keeps [.free] [] s (s.dramCell addr).2 := by
  unfold State.dramCell
  split
  · exact keeps_refl _ _ _
  · exact keeps_trans (free_keeps s) (free_keeps _)

theorem memCe_keeps (s : State) (addr symb : Nat) : Keeps [.mem, .rbk] dramFields s (s.memCe addr symb) := by
  have counted : Keeps [.mem, .rbk] dramFields s ((s.bump Fld.MEM_CNT_CE 1).raise Fld.MEM_EV_CE) :=
    keeps_raise (by decide) (keeps_bump (by decide) (keeps_refl _ _ _))
  exact keeps_ite (keeps_set_mem (by decide) counted) (keeps_bump (by decide) counted)

theorem memUe_keeps (s : State) (init addr : Nat) : Keeps [.mem, .rbk] dramFields s (s.memUe init addr) := by
  have counted : Keeps [.mem, .rbk] dramFields s (s.bump Fld.MEM_CNT_UE 1) := keeps_bump (by decide) (keeps_refl _ _ _)
  exact keeps_raise (by decide) (keeps_ite (keeps_putb (by decide) counted)
    (keeps_putb (by decide) (keeps_put (by decide) (keeps_wr (by decide) counted))))

theorem dramRead_keeps (s : State) (init addr : Nat) : Keeps memParts dramFields s (s.dramRead init addr).2 := by
  have cell {c : DramCell} {t : State} (e : s.dramCell addr = (c, t)) : Keeps memParts dramFields s t :=
    keeps_snd (dramCell_keeps s addr) e (by decide) (keeps_refl _ _ _)
  unfold State.dramRead
  split
  · exact keeps_via (memUe_keeps _ _ _) (by decide) (cell ‹_›)
  · split
    · exact cell ‹_›
    · exact keeps_via (memCe_keeps _ _ _) (by decide) (cell ‹_›)
    · exact keeps_via (memUe_keeps _ _ _) (by decide) (cell ‹_›)

theorem takeWords_keeps (k a : Nat) (s : State) : Keeps memParts dramFields s (State.takeWords k a s).2 := by
  induction k generalizing a s with
  | zero => exact keeps_refl _ _ _
  | succ k ih => exact keeps_trans (dramRead_keeps s 3 a) (ih _ _)

theorem rawWords_keeps (k : Nat) (s : State) : Keeps [.free] [] s (State.rawWords k s).2 := by
  induction k generalizing s with
  | zero => exact keeps_refl _ _ _
  | succ k ih => exact keeps_trans (free_keeps s) (ih _)

theorem putWords_keeps (l : List (BitVec 64)) (a : Nat) (s : State) : Keeps [.mem] [] s (State.putWords l a s) := by
  induction l generalizing a s with
  | nil => exact keeps_refl _ _ _
  | cons d l ih => exact keeps_trans (keeps_set_mem (by decide) (keeps_refl _ _ _)) (ih _ _)

/-! ### Positions filled and windows withheld (R557, R562) -/

theorem fillPos_keeps (s : State) (ctx p : Nat) : Keeps [.buf] [] s (s.fillPos ctx p) := by
  unfold State.fillPos
  split
  · exact keeps_refl _ _ _
  · exact keeps_set_buf (by decide) (keeps_refl _ _ _)

theorem withhold_keeps (s : State) (ctx : Nat) (second : Bool) :
    Keeps [.buf, .rbk] (recFields ++ [Fld.BUF_EV_SEGFAIL]) s (s.withhold ctx second) := by
  unfold State.withhold
  split
  · exact keeps_refl _ _ _
  · exact keeps_ite (keeps_raise (by decide) (keeps_set_buf (by decide) (keeps_set_buf (by decide) (keeps_refl _ _ _)))) (keeps_refl _ _ _)

/-! ### A lane passes a sector -/

/-- The parts that a lane touches. -/
def laneParts : List Part := [.buf, .ch, .cph, .free, .mem, .msq, .rbk]

/-- The fields that a lane writes. -/
def laneFields : List Field :=
  recFields ++ [Fld.MEM_EV_CE, Fld.MEM_EV_UE, Fld.MEM_UEADDR_ADDR, Fld.MEM_UEINFO_INIT, Fld.MEM_UEINFO_OVF, Fld.MEM_UEINFO_VALID,
    Fld.MEM_CETCTL_CET_OVF, Fld.MEM_CNT_UE, Fld.MEM_CNT_CE, Fld.BUF_EV_SEGFAIL]

theorem laneMasks_keeps (s : State) : Keeps [.cph] [] s s.laneMasks := keeps_set_cph (by decide) (keeps_refl _ _ _)

/-- A read position reaches BUF: its words are stored, it is filled, and a full window may be withheld. -/
theorem laneDeliver_keeps (s : State) (n : Chan) (e : RSec) :
    Keeps [.buf, .free, .mem, .rbk] (recFields ++ [Fld.BUF_EV_SEGFAIL]) s (s.laneDeliver n e) := by
  unfold State.laneDeliver
  split
  · extract_lets k
    have drawn : Keeps [.buf, .free, .mem, .rbk] (recFields ++ [Fld.BUF_EV_SEGFAIL]) s (State.rawWords k s).2 :=
      keeps_mono (rawWords_keeps k s) (within_nil rfl)
    exact keeps_via (withhold_keeps _ _ true) (by decide) (keeps_via (withhold_keeps _ _ false) (by decide)
      (keeps_via (fillPos_keeps _ _ _) (by decide) (keeps_via (putWords_keeps _ _ _) (by decide)
        (keeps_via (putWords_keeps _ _ _) (by decide) drawn))))
  · exact keeps_refl _ _ _

/-- A position of a WRITE passes its lane: after the words are read, the work list counts it and the channel has one more sector for the
media. -/
theorem laneWrite_split (s : State) (n : Chan) (r : MediaRun) : ∃ t m w, Keeps memParts dramFields s t ∧
    s.laneWrite n r = (t.setMsq (actOf n) m).setCh n
      { (t.setMsq (actOf n) m).ch n with wsecs := ((t.setMsq (actOf n) m).ch n).wsecs ++ [w] } := by
  unfold State.laneWrite
  extract_lets x second j place sec k a q
  obtain ⟨⟨⟨l, bad⟩, s1⟩, dataRead⟩ : ∃ p, State.takeWords 512 a s = p := ⟨_, rfl⟩
  obtain ⟨⟨⟨l2, bad2⟩, s2⟩, piRead⟩ : ∃ p, State.takeWords k q s1 = p := ⟨_, rfl⟩
  simp only [dataRead, piRead]
  exact ⟨s2, _, _, keeps_snd (takeWords_keeps k q s1) piRead (by decide)
    (keeps_snd (takeWords_keeps 512 a s) dataRead (by decide) (keeps_refl _ _ _)), rfl⟩

section
variable {s : State} {n : Chan}

/-- The lanes take nothing while the mask DRBG is not seeded or due for a reseed (R574). -/
theorem exec_xtsSector_closed (closed : s.lanesOpen = false) : exec (.xtsSector n) s = .next s := by
  change execXtsSector n s = _
  simp only [execXtsSector, closed, Bool.not_false, if_true]

variable (opened : s.lanesOpen = true)
include opened

/-- The oldest decoded sector goes first (R290). -/
theorem exec_xtsSector_read {e : RSec} {more : List RSec} (waits : (s.ch n).out = e :: more) :
    exec (.xtsSector n) s = .next (((s.setCh n { s.ch n with out := more }).laneDeliver n e).laneMasks) := by
  change execXtsSector n s = _
  simp only [execXtsSector, opened, waits, Bool.not_true, Bool.false_eq_true, if_false]

theorem exec_xtsSector_write {r : MediaRun} (none_ : (s.ch n).out = []) (run : (s.msq (actOf n)).mediaOn (isSecond n) = some r)
    (writes : r.op = .write) (left : (if isSecond n then r.lane1 else r.lane0) < r.active (isSecond n)) :
    exec (.xtsSector n) s = .next (s.laneWrite n r).laneMasks := by
  change execXtsSector n s = _
  simp only [execXtsSector, opened, none_, run, writes, left, Bool.not_true, Bool.false_eq_true, if_false, beq_self_eq_true, Bool.true_and,
    decide_true, if_true]
end

end Sys2Proof.Proofs
end

section
/-!
PROOFS. The re-detection engine and the lanes of CPH (R287 to R290, R574, R592 to R595): the statement, from the ends of a re-detection and
what a lane does with one sector.
-/
namespace Sys2Proof.Proofs

open Sys2Proof.Machine Sys2Proof.Safety Sys2Proof.Laws

/-! ### A decoded sector passes a lane -/

/-- The oldest decoded sector has left the channel, reached BUF and used up its masks. -/
def laneRead (s : State) (n : Chan) (e : RSec) (more : List RSec) : State :=
  ((s.setCh n { s.ch n with out := more }).laneDeliver n e).laneMasks

section
variable (s : State) (n : Chan) (e : RSec) (more : List RSec)

theorem laneRead_keeps : Keeps laneParts laneFields s (laneRead s n e more) :=
  keeps_via (laneMasks_keeps _) (by decide) (keeps_via (laneDeliver_keeps _ n e) (by decide)
    (keeps_setCh (by decide) (keeps_refl _ _ _)))

theorem laneRead_out : ((laneRead s n e more).ch n).out = more := by
  rw [laneRead, keeps_ch (laneMasks_keeps _) (by decide) n, keeps_ch (laneDeliver_keeps _ n e) (by decide) n, ch_setCh]

theorem laneRead_masks : (laneRead s n e more).cph.masks = s.cph.masks + 257 := by
  have same : ((s.setCh n { s.ch n with out := more }).laneDeliver n e).cph = s.cph :=
    (keeps_cph (laneDeliver_keeps _ n e) (by decide)).trans (setCh_cph _ _ _)
  rw [laneRead, State.laneMasks, same]
end

/-! ### A position of a WRITE passes a lane -/

theorem ch_setMsq (s : State) (x : Act) (m : Msq) (n : Chan) : (s.setMsq x m).ch n = s.ch n := by cases x <;> rfl

section
variable (s : State) (n : Chan) (r : MediaRun)

theorem laneWrite_keeps : Keeps laneParts laneFields s (s.laneWrite n r).laneMasks := by
  obtain ⟨t, m, w, words, written⟩ := laneWrite_split s n r
  rw [written]
  exact keeps_via (laneMasks_keeps _) (by decide) (keeps_setCh (by decide) (keeps_setMsq (by decide) (keeps_mono words (by decide))))

theorem laneWrite_wsecs : ((s.laneWrite n r).laneMasks.ch n).wsecs.length = (s.ch n).wsecs.length + 1 := by
  obtain ⟨t, m, w, words, written⟩ := laneWrite_split s n r
  rw [keeps_ch (laneMasks_keeps _) (by decide) n, written, ch_setCh, ch_setMsq, keeps_ch words (by decide) n, List.length_append,
    List.length_singleton]

theorem laneWrite_masks : (s.laneWrite n r).laneMasks.cph.masks = s.cph.masks + 257 := by
  obtain ⟨t, m, w, words, written⟩ := laneWrite_split s n r
  have same : (s.laneWrite n r).cph = s.cph := by rw [written, setCh_cph, setMsq_cph, keeps_cph words (by decide)]
  rw [State.laneMasks, same]
end

/-- Settles O26: each end of the first sector in the engine by the lemmas of that end, each sector that a lane takes by those of the
lane. -/
theorem redetectionAndLanes : Obligations.RedetectionAndLanes := by
  unfold Obligations.RedetectionAndLanes
  refine ⟨?found, ?lost, ?sramBad, ?noneLeft, ?deadline, ?early, ?read, ?write, ?closed⟩
  case found =>
    intro s n e rest r more it queue inRing holds conv goesOn crc tag
    obtain ⟨others, answer⟩ := exec_redetection_cons (e := e) (rest := rest) queue
    rw [redetTry_found inRing holds conv goesOn crc tag] at answer
    refine ⟨_, answer, ?_, redetected_count s n r it, redetected_event s n r it, redetected_keeps s n r it⟩
    rw [redetected_redet, queue, List.drop_one, List.tail_cons]
  case lost =>
    intro s n e rest r more queue lost
    obtain ⟨others, answer⟩ := exec_redetection_cons (e := e) (rest := rest) queue
    rw [redetTry_lost lost] at answer
    exact ⟨_, answer, redetFail_more queue 6 0 0, redetFail_count s n r 6 0 0, redetFail_event s n r 6 0 0,
      keeps_mono (redetFail_keeps s n r 6 0 0) (redetFailFields_within n)⟩
  case sramBad =>
    intro s n tries r more queue
    have reported := samplesBad_keeps s n
    have failed := redetFail_keeps (samplesBad s n) n r 10 0 0
    have still : ((samplesBad s n).ch n).redet = r :: more := by rw [keeps_ch reported (by decide) n]; exact queue
    refine ⟨_, exec_redetection_sramBad queue tries, redetFail_more still 10 0 0, ?_, ?_, ?_, redetFail_event _ n r 10 0 0, ?_⟩
    · exact (keeps_flag failed _ (by decide) (by clear * -; revert n; decide)).trans (samplesBad_memory s n)
    · exact (keeps_flag failed _ (by decide) (by clear * -; revert n; decide)).trans (samplesBad_channel s n)
    · rw [redetFail_count, keeps_get reported _ (by decide) (by clear * -; revert n; decide)]
    · exact keeps_via failed (redetFailFields_within n) (keeps_mono reported (by clear * -; revert n; decide))
  case noneLeft =>
    intro s n r more queue
    have answer := exec_redetection queue []
    rw [List.take_nil] at answer
    exact ⟨_, answer, redetFail_more queue r.reason 0 0, redetFail_count s n r r.reason 0 0, redetFail_fail s n r r.reason 0 0,
      keeps_mono (redetFail_keeps s n r r.reason 0 0) (redetFailFields_within n)⟩
  case deadline =>
    intro s n r more queue full
    exact ⟨_, (exec_redetectionDeadline queue).trans (if_pos full), redetFail_more queue 6 0 0, redetFail_count s n r 6 0 0,
      redetFail_event s n r 6 0 0, redetFail_keeps s n r 6 0 0⟩
  case early =>
    intro s n r more queue room
    exact (exec_redetectionDeadline queue).trans (if_neg (by simp [room]))
  case read =>
    exact fun s n e more opened waits => ⟨_, exec_xtsSector_read opened waits, laneRead_out s n e more, laneRead_masks s n e more,
      laneRead_keeps s n e more⟩
  case write =>
    exact fun s n r opened none_ run writes left => ⟨_, exec_xtsSector_write opened none_ run writes left, laneWrite_wsecs s n r,
      laneWrite_masks s n r, laneWrite_keeps s n r⟩
  case closed => exact fun s n closed => exec_xtsSector_closed closed

end Sys2Proof.Proofs
end

section
/-!
PROOFS. What squashes, trips and changes of mode leave of the Write Guards and of the failures of the preamplifier links (R213, R329,
R335, R343, R346), and the fields that a trip leaves as its hold wrote them.
-/
namespace Sys2Proof.Proofs

open Sys2Proof.Machine Sys2Proof.Safety Sys2Proof.Laws

/-! ### The write paths and the preamplifier links of a frame -/

section
variable {P : List Part} {R : List Field} {s t : State}

theorem keeps_wrp (k : Keeps P R s t) (h : Part.wrp ∉ P) (x : Act) : t.wrp x = s.wrp x := by
  obtain ⟨ha, hb⟩ := k.part .wrp (by decide) h
  cases x
  · exact ha
  · exact hb

theorem keeps_plk (k : Keeps P R s t) (h : Part.plk ∉ P) (x : Act) : t.plk x = s.plk x := by
  obtain ⟨ha, hb⟩ := k.part .plk (by decide) h
  cases x
  · exact ha
  · exact hb

theorem wrp_setWrp_ite (s : State) (x y : Act) (w : WrpSt) : (s.setWrp x w).wrp y = if y = x then w else s.wrp y := by
  cases x <;> cases y <;> rfl

theorem plk_setPlk_ite (s : State) (x y : Act) (p : PlkSt) : (s.setPlk x p).plk y = if y = x then p else s.plk y := by
  cases x <;> cases y <;> rfl

end

/-! ### What holds each Write Guard, and how each link fares -/

/-- From s to t the triggers that hold each Write Guard, the shock's hold, and the failures of each preamplifier link are as they were. -/
structure SameGuards (s t : State) : Prop where
  holding : ∀ y, (t.wrp y).holding = (s.wrp y).holding
  shock : ∀ y, (t.wrp y).shockHold = (s.wrp y).shockHold
  faulted : ∀ y, (t.plk y).faulted = (s.plk y).faulted
  repeated : ∀ y, (t.plk y).repeated = (s.plk y).repeated

namespace SameGuards

variable {s t u : State} {x : Act}

theorem refl (s : State) : SameGuards s s := ⟨fun _ => rfl, fun _ => rfl, fun _ => rfl, fun _ => rfl⟩

theorem trans (h : SameGuards s t) (k : SameGuards t u) : SameGuards s u where
  holding y := (k.holding y).trans (h.holding y)
  shock y := (k.shock y).trans (h.shock y)
  faulted y := (k.faulted y).trans (h.faulted y)
  repeated y := (k.repeated y).trans (h.repeated y)

/-- What leaves both write paths and both links alone. -/
theorem of_keeps {P : List Part} {R : List Field} (k : Keeps P R s t) (wrp : Part.wrp ∉ P) (plk : Part.plk ∉ P) : SameGuards s t where
  holding y := by rw [keeps_wrp k wrp]
  shock y := by rw [keeps_wrp k wrp]
  faulted y := by rw [keeps_plk k plk]
  repeated y := by rw [keeps_plk k plk]

theorem setWrp {w : WrpSt} (hold : w.holding = (s.wrp x).holding) (shock : w.shockHold = (s.wrp x).shockHold) :
    SameGuards s (s.setWrp x w) := by
  refine ⟨fun y => ?_, fun y => ?_, fun y => ?_, fun y => ?_⟩
  · rw [wrp_setWrp_ite]
    split
    · rw [hold, ‹y = x›]
    · rfl
  · rw [wrp_setWrp_ite]
    split
    · rw [shock, ‹y = x›]
    · rfl
  · cases x <;> cases y <;> rfl
  · cases x <;> cases y <;> rfl

theorem setPlk {p : PlkSt} (faulted : p.faulted = (s.plk x).faulted) (repeated : p.repeated = (s.plk x).repeated) :
    SameGuards s (s.setPlk x p) := by
  refine ⟨fun y => ?_, fun y => ?_, fun y => ?_, fun y => ?_⟩
  · cases x <;> cases y <;> rfl
  · cases x <;> cases y <;> rfl
  · rw [plk_setPlk_ite]
    split
    · rw [faulted, ‹y = x›]
    · rfl
  · rw [plk_setPlk_ite]
    split
    · rw [repeated, ‹y = x›]
    · rfl

theorem ite {c : Prop} [Decidable c] (h : SameGuards s t) (k : SameGuards s u) : SameGuards s (if c then t else u) := by
  split <;> assumption

theorem setMsq (s : State) (x : Act) (m : Msq) : SameGuards s (s.setMsq x m) :=
  of_keeps (P := [.msq]) (R := []) (keeps_setMsq (by decide) (keeps_refl _ _ _)) (by decide) (by decide)

theorem raise (s : State) (f : Field) : SameGuards s (s.raise f) := of_keeps (raise_keeps s f) (by decide) (by decide)

/-! ### A squash (R213, R214) -/

theorem pushTorn (s : State) (x : Act) (r : Rec4) : SameGuards s (s.pushTorn x r) := by
  have counted : SameGuards s (s.bump (Fld.MSQ_SQCNT_TORN x) 1) := of_keeps (State_bump_keeps _ _ _) (by decide) (by decide)
  have queued : SameGuards s _ := counted.trans
    (setWrp (x := x) (w := { (s.bump (Fld.MSQ_SQCNT_TORN x) 1).wrp x with torn := ((s.bump (Fld.MSQ_SQCNT_TORN x) 1).wrp x).torn ++ [r] })
      rfl rfl)
  exact ite (queued.trans (raise _ _)) (counted.trans (raise _ _))

/-- The sector of each channel is named by an opaque function, as in its frame. -/
theorem tear (s : State) (x : Act) (cause : Nat) (neg : Bool) : SameGuards s (s.tear x cause neg) := by
  unfold State.tear
  extract_lets one
  have onChannel (second : Bool) (t : State) : SameGuards t (one second t) := by
    refine ite ?_ (refl t)
    obtain ⟨place, hplace⟩ : ∃ p, t.placeNow x second = p := ⟨_, rfl⟩
    rw [hplace]
    split
    · split
      · exact pushTorn t x _
      · exact refl t
    · exact refl t
  exact (onChannel false s).trans (onChannel true _)

theorem gatesLow (s : State) (x : Act) : SameGuards s (s.gatesLow x) := setWrp rfl rfl

theorem squashStop (s : State) (x : Act) : SameGuards s (squashStop s x) := by
  have cut : SameGuards s (s.hardStop x) := (tear s x 0 false).trans (gatesLow _ x)
  have others (t : State) : Keeps [.ang, .ch, .vale] [] t
      (((t.setCmps x ((s.cmps x).filter (fun e => e.2.hit))).abandonChannels x).dropUnsent x) :=
    keeps_set_vale (by decide) (keeps_abandonChannels (by decide) (keeps_setCmps (by decide) (keeps_refl _ _ _)))
  exact cut.trans (of_keeps (others _) (by decide) (by decide))

theorem restLasers (s : State) (x : Act) : SameGuards s (s.restLasers x) := by
  unfold State.restLasers
  extract_lets one
  have onChannel (second : Bool) (t : State) : SameGuards t (one second t) :=
    ite (refl t) (setWrp (by cases second <;> rfl) (by cases second <;> rfl))
  exact (onChannel false s).trans (onChannel true _)

theorem squashed (s : State) (x : Act) (k causes : Nat) : SameGuards s (squashed s x k causes) := by
  have undone : SameGuards s ((s.setMsq x (undone k causes (s.msq x))).lpeReturn x) :=
    (setMsq s x _).trans (of_keeps (P := [.lpe]) (R := []) (keeps_lpeReturn (by decide) (keeps_refl _ _ _)) (by decide) (by decide))
  have heads (t : State) : SameGuards t (t.undoHeads x) := setPlk rfl rfl
  have heaters (t : State) : SameGuards t (t.setHeaters x) := setWrp rfl rfl
  have recorded (t : State) : Keeps [.rbk] (squashOwn x) t
      ((((t.sqRecord x k causes false).bump (Fld.MSQ_SQCNT_SQUASH x) 1).count 6 1).raise (Fld.MSQ_EV_SQUASH x)) :=
    keeps_raise (by cases x <;> decide) (keeps_count (within_nil rfl) (keeps_bump (by cases x <;> decide)
      (keeps_mono (sqRecord_own t x k causes false) (by cases x <;> decide))))
  exact undone.trans ((setMsq _ x _).trans ((heads _).trans ((heaters _).trans ((restLasers _ x).trans
    (of_keeps (recorded _) (by decide) (by decide))))))

theorem sqJoin (s : State) (x : Act) (k causes : Nat) (counts : Bool) : SameGuards s (s.sqJoin x k causes counts) := by
  unfold State.sqJoin
  extract_lets m s1 s2
  have h1 : SameGuards s s1 := (setMsq s x _).trans (of_keeps (sqRecord_own _ x k causes true) (by decide) (by decide))
  have h2 : SameGuards s s2 := ite (h1.trans (setMsq s1 x _)) h1
  exact h2.trans (of_keeps (sqEnd_keeps s2 x k) (by decide) (by decide))

theorem squash (s : State) (x : Act) (causes : Nat) (counts : Bool) : SameGuards s (s.squash x causes counts) := by
  cases run : (s.msq x).running with
  | none =>
    simp only [State.squash, run]
    exact refl s
  | some k =>
    cases go : (s.msq x).sqWait with
    | true =>
      simp only [State.squash, run, go, if_true]
      exact sqJoin s x k causes counts
    | false =>
      rw [squash_eq run go]
      have notes := of_keeps (unstage_squashStop_keeps s x) (by decide) (by decide)
      have ends (t : State) := of_keeps (countEnd_keeps t x k counts) (by decide) (by decide)
      exact (squashStop s x).trans (notes.trans ((squashed _ x k causes).trans (ends _)))

end SameGuards

/-! ### A change of mode (R748, R752) -/

/-- The spindle's check touches no write path. -/
theorem spnCheck_own_keeps (s : State) : Keeps [.rbk, .spn, .vale] spnFields s s.spnCheck := by
  have clear (t : State) : Keeps [.rbk, .spn, .vale] spnFields t t.runClear := by
    unfold State.runClear
    extract_lets s1 spn s2
    have h2 : Keeps [.rbk, .spn, .vale] spnFields t s2 :=
      keeps_set_spn (by decide) (keeps_putb (by decide) (keeps_putb (by decide) (keeps_refl _ _ _)))
    exact keeps_ite h2 (keeps_via (stopNow_keeps s2) (by decide) h2)
  unfold State.spnCheck
  extract_lets s1
  have h1 : Keeps [.rbk, .spn, .vale] spnFields s s1 :=
    keeps_via (refCheck_own_keeps _) (by decide) (keeps_ite (clear s) (keeps_refl _ _ _))
  exact keeps_ite (keeps_via (stopNow_keeps s1) (by decide) h1) h1

theorem modeBase_keeps (s : State) : Keeps [.rbk, .spn, .sys, .vale] spnFields s (modeBase s) :=
  keeps_via (runWatch_keeps _) (by decide) (keeps_mono (spnCheck_own_keeps s) (by decide))

/-- Of a write path a change of mode moves the laser commands alone. -/
theorem syncMode_wrp (s : State) (x : Act) : ∃ c0 c1, s.syncMode.wrp x =
    { s.wrp x with las0 := { (s.wrp x).las0 with cmd := c0 }, las1 := { (s.wrp x).las1 with cmd := c1 } } := by
  unfold State.syncMode
  extract_lets s0 old new s1 s2
  have h0 : s0.wrp x = s.wrp x := keeps_wrp (modeBase_keeps s) (by decide) x
  have h1 : s1.wrp x = s.wrp x := (keeps_wrp (modeChanged_keeps s0 old new) (by decide) x).trans h0
  have off : ((s1.lasersOff .a).lasersOff .b).wrp x =
      { s1.wrp x with las0 := { (s1.wrp x).las0 with cmd := 0 }, las1 := { (s1.wrp x).las1 with cmd := 0 } } := by cases x <;> rfl
  have h2 : ∃ c0 c1, s2.wrp x =
      { s.wrp x with las0 := { (s.wrp x).las0 with cmd := c0 }, las1 := { (s.wrp x).las1 with cmd := c1 } } := by
    by_cases flying : new = 4
    · exact ⟨0, 0, (congrArg (State.wrp · x) (if_pos flying)).trans (off.trans (by rw [h1]))⟩
    · exact ⟨_, _, (congrArg (State.wrp · x) (if_neg flying)).trans h1⟩
  split
  · exact ⟨_, _, h0⟩
  · split
    · exact h2.imp fun _ => .imp fun _ same => (keeps_wrp (State_put_keeps s2 _ _) (by decide) x).trans same
    · exact h2

theorem SameGuards.syncMode (s : State) : SameGuards s s.syncMode where
  holding y := by obtain ⟨_, _, same⟩ := syncMode_wrp s y; rw [same]
  shock y := by obtain ⟨_, _, same⟩ := syncMode_wrp s y; rw [same]
  faulted y := by rw [keeps_plk (syncMode_keeps s) (by decide)]
  repeated y := by rw [keeps_plk (syncMode_keeps s) (by decide)]

end Sys2Proof.Proofs
end

section
/-!
PROOFS. The Write Guard's own operations (R329, R330, R335): what a trip begins or joins, what a release takes off, and the fields that a
trip leaves as its hold wrote them.
-/
namespace Sys2Proof.Proofs

open Sys2Proof.Machine Sys2Proof.Safety Sys2Proof.Laws

/-! ### A trip begins or joins (R335) -/

section
variable (s : State) (x : Act) (bits : Nat) (neg : Bool)

/-- The Write Guard of an actuator with a trip's triggers, before they are recorded. -/
def guardTaken : State :=
  let s1 := (s.tear x bits neg).gatesLow x
  s1.setWrp x { s1.wrp x with holding := bits, tripped := true }

/-- The Write Guard of an actuator with triggers that join, before they are recorded. -/
def guardJoined : State := s.setWrp x { s.wrp x with holding := (s.wrp x).holding ||| bits, tripped := true }

theorem guardHold_begins (free : (s.wrp x).holding = 0) : s.guardHold x bits neg =
    (((guardTaken s x bits neg).put (Fld.WRP_WGLAST_CAUSE x) bits).bump (Fld.WRP_WGLAST_TRIPS x) 1).raise (Fld.WRP_EV_WGTRIP x) :=
  if_pos free

theorem guardHold_joins (held : (s.wrp x).holding ≠ 0) : s.guardHold x bits neg =
    (guardJoined s x bits).put (Fld.WRP_WGLAST_CAUSE x) (s.get (Fld.WRP_WGLAST_CAUSE x) ||| bits) :=
  if_neg held

theorem guardTaken_keeps : Keeps [.rbk, .wrp] (tornFields x) s (guardTaken s x bits neg) :=
  keeps_setWrp (within_nil rfl) (keeps_gatesLow (within_nil rfl) (tear_keeps s x bits neg))

/-- Triggers are added to those that hold: a trip begins with none. -/
theorem holding_guardHold (y : Act) : ((s.guardHold x bits neg).wrp y).holding =
    if y = x then (s.wrp x).holding ||| bits else (s.wrp y).holding := by
  by_cases free : (s.wrp x).holding = 0
  · have marks (t : State) : SameGuards t
        (((t.put (Fld.WRP_WGLAST_CAUSE x) bits).bump (Fld.WRP_WGLAST_TRIPS x) 1).raise (Fld.WRP_EV_WGTRIP x)) :=
      SameGuards.trans (.of_keeps (State_put_keeps _ _ _) (by decide) (by decide))
        (.trans (.of_keeps (State_bump_keeps _ _ _) (by decide) (by decide)) (.raise _ _))
    have torn : SameGuards s ((s.tear x bits neg).gatesLow x) := (SameGuards.tear s x bits neg).trans (.gatesLow _ x)
    rw [guardHold_begins s x bits neg free, (marks _).holding, guardTaken, wrp_setWrp_ite]
    split
    · rw [free, Nat.zero_or]
    · exact torn.holding y
  · rw [guardHold_joins s x bits neg free, keeps_wrp (State_put_keeps _ _ _) (by decide), guardJoined, wrp_setWrp_ite]
    exact apply_ite WrpSt.holding _ _ _

theorem shock_guardHold (y : Act) : ((s.guardHold x bits neg).wrp y).shockHold = (s.wrp y).shockHold := by
  by_cases free : (s.wrp x).holding = 0
  · have torn : SameGuards s ((s.tear x bits neg).gatesLow x) := (SameGuards.tear s x bits neg).trans (.gatesLow _ x)
    rw [guardHold_begins s x bits neg free, (SameGuards.raise _ _).shock, keeps_wrp (State_bump_keeps _ _ _) (by decide),
      keeps_wrp (State_put_keeps _ _ _) (by decide), guardTaken, wrp_setWrp_ite, ← torn.shock y]
    split
    · rw [‹y = x›]
    · rfl
  · rw [guardHold_joins s x bits neg free, keeps_wrp (State_put_keeps _ _ _) (by decide), guardJoined, wrp_setWrp_ite]
    split
    · rw [‹y = x›]
    · rfl

theorem plk_guardHold (y : Act) : (s.guardHold x bits neg).plk y = s.plk y := keeps_plk (guardHold_keeps s x bits neg) (by decide) y

/-- The record of a trip that begins (R335). -/
theorem guardHold_record (free : (s.wrp x).holding = 0) :
    (s.guardHold x bits neg).get (Fld.WRP_WGLAST_CAUSE x) = bits % 256 ∧
    (s.guardHold x bits neg).get (Fld.WRP_WGLAST_TRIPS x) = satAdd 16 (s.get (Fld.WRP_WGLAST_TRIPS x)) 1 ∧
    (s.guardHold x bits neg).flag (Fld.WRP_EV_WGTRIP x) = true := by
  rw [guardHold_begins s x bits neg free]
  refine ⟨?_, ?_, flag_raise _ _ (by cases x <;> rfl) rfl (by cases x <;> decide)⟩
  · rw [keeps_get (raise_keeps _ _) _ (by decide) (by cases x <;> decide),
      get_bump_other _ _ _ _ (by cases x <;> rfl) (by cases x <;> rfl),
      get_put _ _ _ (by cases x <;> rfl)]
    rfl
  · rw [keeps_get (raise_keeps _ _) _ (by decide) (by cases x <;> decide), get_bump _ _ _ (by cases x <;> rfl),
      get_put_other _ _ _ _ (by cases x <;> rfl) (by cases x <;> rfl),
      keeps_get (guardTaken_keeps s x bits neg) _ (by decide) (by cases x <;> decide)]
    rfl

/-- The record of triggers that join a trip (R335). -/
theorem guardHold_joined_record (held : (s.wrp x).holding ≠ 0) :
    (s.guardHold x bits neg).get (Fld.WRP_WGLAST_CAUSE x) = (s.get (Fld.WRP_WGLAST_CAUSE x) ||| bits) % 256 ∧
    (s.guardHold x bits neg).get (Fld.WRP_WGLAST_TRIPS x) = s.get (Fld.WRP_WGLAST_TRIPS x) := by
  have joined : Keeps [.wrp] [] s (guardJoined s x bits) := keeps_setWrp (by decide) (keeps_refl _ _ _)
  rw [guardHold_joins s x bits neg held]
  exact ⟨get_put _ _ _ (by cases x <;> rfl), (get_put_other _ _ _ _ (by cases x <;> rfl) (by cases x <;> rfl)).trans
    (keeps_get joined _ (by decide) rfl)⟩
end

/-! ### The squash of a trip (R213, R329) -/

/-- The notes of an actuator's sequencer that go back leave a field alone: no firmware write reaches it, or no note names it (R221). -/
def NotesSpare (s : State) (x : Act) (f : Field) : Prop :=
  hardwareOwned f = true ∨ (notedFields s x).all (fun g => Apart g f) = true

section
variable {s : State} {x : Act} {f : Field}

theorem NotesSpare.of_msq {t : State} (h : NotesSpare s x f) (same : t.msq x = s.msq x) : NotesSpare t x f := by
  rw [NotesSpare, notedFields, same]
  exact h

theorem NotesSpare.of_addr {a : Nat} (h : (notedFields s .a ++ notedFields s .b).all (fun g => g.addr != a) = true) (here : f.addr = a) :
    NotesSpare s x f := by
  rw [List.all_append, Bool.and_eq_true] at h
  have mine : (notedFields s x).all (fun g => g.addr != a) = true := by
    cases x
    · exact h.1
    · exact h.2
  refine .inr (List.all_eq_true.2 fun g noted => ?_)
  have other := List.all_eq_true.1 mine g noted
  simp only [bne_iff_ne, ne_eq] at other
  simp [Apart, here, other]

/-- A field that no squash writes and no note puts back is as it was. -/
theorem get_squash (spared : NotesSpare s x f) (apart : (squashOwn x).all (fun g => Apart g f) = true) (causes : Nat) (counts : Bool) :
    (s.squash x causes counts).get f = s.get f := by
  cases run : (s.msq x).running with
  | none => simp only [State.squash, run]
  | some k =>
    cases go : (s.msq x).sqWait with
    | true =>
      simp only [State.squash, run, go, if_true]
      exact keeps_get (sqJoin_keeps s x k causes counts) f (by decide) apart
    | false =>
      have stop : Keeps tripParts (squashOwn x) s (squashStop s x) := keeps_mono (squashStop_keeps s x) (by cases x <;> decide)
      have notes : ((squashStop s x).unstage x).get f = (squashStop s x).get f :=
        spared.elim (get_unstage _ x f) (keeps_get (unstage_squashStop_keeps s x) f (by decide))
      have rest (t : State) : Keeps tripParts (squashOwn x) t _ := keeps_trans (squashed_keeps t x k causes)
        (keeps_mono (countEnd_keeps _ x k counts) (by cases x <;> decide))
      rw [squash_eq run go]
      exact (keeps_get (rest _) f (by decide) apart).trans (notes.trans (keeps_get stop f (by decide) apart))

/-- A trip is its hold, and a squash where a trigger is a cause of one (R207, R329). -/
theorem wgTrip_cases (ok : s.actOk x = true) (bits : Nat) (neg : Bool) : s.wgTrip x bits neg = s.guardHold x bits neg ∨
    ∃ causes counts, s.wgTrip x bits neg = (s.guardHold x bits neg).squash x causes counts := by
  unfold State.wgTrip State.wgTripC
  extract_lets causes s1
  rw [if_neg (by simp [ok])]
  split
  · exact .inl rfl
  · exact .inr ⟨_, _, rfl⟩

theorem SameGuards.wgTrip (ok : s.actOk x = true) (bits : Nat) (neg : Bool) :
    SameGuards (s.guardHold x bits neg) (s.wgTrip x bits neg) := by
  obtain hold | ⟨causes, counts, squashed⟩ := wgTrip_cases ok bits neg
  · exact hold ▸ .refl _
  · exact squashed ▸ .squash _ x causes counts

/-- A trip leaves a field as its hold wrote it. -/
theorem get_wgTrip (ok : s.actOk x = true) (spared : NotesSpare s x f) (apart : (squashOwn x).all (fun g => Apart g f) = true)
    (bits : Nat) (neg : Bool) : (s.wgTrip x bits neg).get f = (s.guardHold x bits neg).get f := by
  obtain hold | ⟨causes, counts, squashed⟩ := wgTrip_cases ok bits neg
  · rw [hold]
  · rw [squashed]
    exact get_squash (spared.of_msq (keeps_msq (guardHold_keeps s x bits neg) (by decide) x)) apart causes counts

theorem holding_wgTrip (ok : s.actOk x = true) (bits : Nat) (neg : Bool) (y : Act) : ((s.wgTrip x bits neg).wrp y).holding =
    if y = x then (s.wrp x).holding ||| bits else (s.wrp y).holding := by
  rw [(SameGuards.wgTrip ok bits neg).holding, holding_guardHold]

theorem shock_wgTrip (ok : s.actOk x = true) (bits : Nat) (neg : Bool) (y : Act) :
    ((s.wgTrip x bits neg).wrp y).shockHold = (s.wrp y).shockHold := by
  rw [(SameGuards.wgTrip ok bits neg).shock, shock_guardHold]

theorem faulted_wgTrip (ok : s.actOk x = true) (bits : Nat) (neg : Bool) (y : Act) :
    ((s.wgTrip x bits neg).plk y).faulted = (s.plk y).faulted := by
  rw [(SameGuards.wgTrip ok bits neg).faulted, plk_guardHold]

theorem repeated_wgTrip (ok : s.actOk x = true) (bits : Nat) (neg : Bool) (y : Act) :
    ((s.wgTrip x bits neg).plk y).repeated = (s.plk y).repeated := by
  rw [(SameGuards.wgTrip ok bits neg).repeated, plk_guardHold]

/-- A trigger that trips a Write Guard holds it (R335). -/
theorem testBit_wgTrip (ok : s.actOk x = true) {bits i : Nat} (trigger : bits.testBit i = true) (neg : Bool) :
    ((s.wgTrip x bits neg).wrp x).holding.testBit i = true := by
  rw [holding_wgTrip ok, if_pos rfl, Nat.testBit_or, trigger, Bool.or_true]

/-- A trigger that holds a Write Guard goes on holding it when others come. -/
theorem testBit_wgTrip_held (ok : s.actOk x = true) {y : Act} {i : Nat} (holds : (s.wrp y).holding.testBit i = true) (bits : Nat)
    (neg : Bool) : ((s.wgTrip x bits neg).wrp y).holding.testBit i = true := by
  rw [holding_wgTrip ok]
  split
  · rw [Nat.testBit_or, ← ‹y = x›, holds, Bool.true_or]
  · exact holds
end

/-- The mode follows a trip (R748). -/
theorem trip_mode_keeps {F : List Field} {s t : State} (kept : Keeps doneParts F s t) (mode : modeFields ⊆ F) :
    Keeps doneParts F s t.syncMode :=
  keeps_via (syncMode_keeps t) (within_of_subset (by decide) mode) kept

/-- A trip with fields of the fault that caused it, within its frame. -/
theorem wgTrip_keeps {F : List Field} {s t : State} {x : Act} (kept : Keeps doneParts F s t) (same : t.msq x = s.msq x)
    (fields : guardFields s x ⊆ F) (bits : Nat) (neg : Bool) : Keeps doneParts F s (t.wgTrip x bits neg) := by
  have trip := (wgTrip_trip t x bits neg).keeps
  rw [guardFields_of_msq same] at trip
  exact keeps_via trip (within_of_subset (by decide) fields) kept

/-! ### A release (R330) -/

section
variable (s : State) (x : Act) (bits : Nat)

theorem wgRelease_keeps : Keeps [.rbk, .wrp] (recFields ++ [Fld.WRP_EV_WGREL x]) s (s.wgRelease x bits) := by
  have released {w : WrpSt} : Keeps [.rbk, .wrp] (recFields ++ [Fld.WRP_EV_WGREL x]) s (s.setWrp x w) :=
    keeps_setWrp (within_nil rfl) (keeps_refl _ _ _)
  exact keeps_ite (keeps_raise (by cases x <;> decide) released) released

theorem wrp_wgRelease (y : Act) : (s.wgRelease x bits).wrp y =
    if y = x then { s.wrp x with holding := (s.wrp x).holding &&& (255 - bits % 256) } else s.wrp y := by
  refine Eq.trans ?_ (wrp_setWrp_ite s x y _)
  unfold State.wgRelease
  extract_lets w h s1
  split
  · exact keeps_wrp (raise_keeps _ _) (by decide) y
  · rfl

/-- The last trigger that releases raises the event (R330). -/
theorem flag_wgRelease (held : (s.wrp x).holding ≠ 0) (last : (s.wrp x).holding &&& (255 - bits % 256) = 0) :
    (s.wgRelease x bits).flag (Fld.WRP_EV_WGREL x) = true := by
  have raised : s.wgRelease x bits = _ := if_pos ⟨held, last⟩
  rw [raised]
  exact flag_raise _ _ (by cases x <;> rfl) rfl (by cases x <;> decide)
end

end Sys2Proof.Proofs
end

section
/-!
PROOFS. What trips and releases the Write Guard (R318 to R338): the laser gate limit, the laser monitor, contact, triggers, releases and
torn records.
-/
namespace Sys2Proof.Proofs

open Sys2Proof.Machine Sys2Proof.Safety Sys2Proof.Laws

/-! ### A trip with LMON (R318, R322) -/

section
variable {s : State} {x : Act} {second : Bool}

/-- A laser gate is high only while nothing holds the Write Guard (R335). -/
theorem holding_of_lgOpen (gate : s.lgOpen x second = true) : (s.wrp x).holding = 0 := by
  by_contra held
  simp [State.lgOpen, bne_iff_ne.2 held] at gate

theorem lgOpen_of_laserOver (tooLong : s.laserOver x second = true) : s.lgOpen x second = true := by
  simp only [State.laserOver, Bool.and_eq_true] at tooLong
  exact tooLong.1

/-- The laser gate limit (R318), the mode apart. -/
def gateLimited (s : State) (x : Act) : State := (s.wgTrip x trgLmon false).raise (Fld.WRP_FLT_LGMAX x)

theorem exec_laserGateLimit (tooLong : s.laserOver x second = true) :
    exec (.laserGateLimit x second) s = .next (gateLimited s x).syncMode :=
  if_neg (by simp [tooLong])

/-- A field of a trip's record is as the hold wrote it once the fault and the mode have followed. -/
theorem get_gateLimited {f : Field} (ok : s.actOk x = true) (spared : NotesSpare s x f)
    (apart : (squashOwn x ++ modeFields ++ [Fld.WRP_FLT_LGMAX x]).all (fun g => Apart g f) = true) :
    (gateLimited s x).syncMode.get f = (s.guardHold x trgLmon false).get f := by
  simp only [List.all_append, Bool.and_eq_true] at apart
  obtain ⟨⟨squash, mode⟩, fault⟩ := apart
  have records : recFields.all (fun g => Apart g f) = true := by
    simp only [modeFields, spnFields, List.all_append, Bool.and_eq_true] at mode
    exact mode.1.1
  rw [syncMode_get _ f mode, gateLimited, keeps_get (raise_keeps _ _) f (by decide) (by simpa [records] using fault),
    get_wgTrip ok spared squash]

/-- The laser takes its bias once the monitor has found a fault (R322). -/
def lmonCleared (s : State) (x : Act) (second : Bool) : State :=
  s.setWrp x ((s.wrp x).setLas second { (s.wrp x).las second with cmd := s.laserBias x second, misses := 0, same := 0 })

theorem lmonFault_eq (s : State) (x : Act) (second : Bool) :
    s.lmonFault x second = lmonCleared ((s.wgTrip x trgLmon false).raise (Fld.WRP_FLT_LMON x)) x second := rfl

theorem lmonCleared_keeps (s : State) (x : Act) (second : Bool) : Keeps [.wrp] [] s (lmonCleared s x second) :=
  keeps_setWrp (by decide) (keeps_refl _ _ _)

theorem holding_setLas (w : WrpSt) (second : Bool) (l : LaserSt) : (w.setLas second l).holding = w.holding := by
  cases second <;> rfl

theorem las_setLas (w : WrpSt) (second : Bool) (l : LaserSt) : (w.setLas second l).las second = l := by
  cases second <;> rfl

/-- A change of mode leaves the counts of the laser monitor. -/
theorem misses_syncMode (s : State) (x : Act) (second : Bool) :
    ((s.syncMode.wrp x).las second).misses = ((s.wrp x).las second).misses := by
  obtain ⟨_, _, same⟩ := syncMode_wrp s x
  rw [same]
  cases second <;> rfl
end

/-! ### A reading of the laser monitor (R319, R321) -/

section
variable {s : State} {x : Act} {second : Bool}

/-- A missed reading taken: it counts, and the command goes to the histogram at the commit of the sector (R734). -/
def readingMissed (s : State) (x : Act) (second : Bool) : State :=
  let l := ((s.wrp x).las second).read none
  let s1 := s.setWrp x ((s.wrp x).setLas second l)
  match ((s1.msq x).pos second).head with
  | some h => s1.stageContrib (chanOf x second) (.hist (32 + 12 * x.idx + h) l.cmd)
  | none => s1

theorem exec_monitorRead_missed (mode : s.get (Fld.WRP_CFG_AMODE x) = 1) (gate : s.lgOpen x second = true) :
    exec (.monitorRead x second none) s =
      .next (if (readingMissed s x second).lmonBad x (((s.wrp x).las second).read none) none
        then ((readingMissed s x second).lmonFault x second).syncMode else readingMissed s x second) :=
  (if_neg (by simp [mode])).trans (if_neg (by simp [gate]))

theorem readingMissed_contrib (s : State) (x : Act) (second : Bool) :
    Keeps [.ch] [] (s.setWrp x ((s.wrp x).setLas second (((s.wrp x).las second).read none))) (readingMissed s x second) := by
  unfold readingMissed
  extract_lets l s1
  split
  · exact keeps_setCh (by decide) (keeps_refl _ _ _)
  · exact keeps_refl _ _ _

theorem readingMissed_keeps (s : State) (x : Act) (second : Bool) : Keeps [.wrp, .ch] [] s (readingMissed s x second) :=
  keeps_via (readingMissed_contrib s x second) (by decide) (keeps_setWrp (by decide) (keeps_refl _ _ _))

theorem wrp_readingMissed (s : State) (x : Act) (second : Bool) :
    (readingMissed s x second).wrp x = (s.wrp x).setLas second (((s.wrp x).las second).read none) :=
  (keeps_wrp (readingMissed_contrib s x second) (by decide) x).trans (wrp_setWrp _ _ _)

theorem actOk_readingMissed (s : State) (x : Act) (second : Bool) : (readingMissed s x second).actOk x = s.actOk x :=
  congrArg (fun p : PinSt => !(p.variant == 3 && x == .b)) (keeps_pins (readingMissed_keeps s x second) (by decide))

theorem eff_readingMissed (s : State) (x : Act) (second : Bool) (f : Field) : (readingMissed s x second).eff f = s.eff f :=
  eff_of_rd (keeps_rd (readingMissed_keeps s x second) _ (by decide) rfl)

/-- With the last allowed reading missed the monitor is at fault (R321). -/
theorem lmonBad_readingMissed (lost : s.eff (Fld.WRP_LMON_LM_MISS x) ≤ ((s.wrp x).las second).misses + 1) :
    (readingMissed s x second).lmonBad x (((s.wrp x).las second).read none) none = true := by
  simp [State.lmonBad, eff_readingMissed, LaserSt.read, lost]

/-- A missed reading within the allowed ones, with readings that still vary, is no fault (R321). -/
theorem lmonBad_readingMissed_within (more : ((s.wrp x).las second).misses + 1 < s.eff (Fld.WRP_LMON_LM_MISS x))
    (varies : ((s.wrp x).las second).same < s.eff (Fld.WRP_LMON_LM_FRZ x)) :
    (readingMissed s x second).lmonBad x (((s.wrp x).las second).read none) none = false := by
  simp [State.lmonBad, eff_readingMissed, LaserSt.read, more, varies]
end

/-! ### Triggers (R329, R332, R335) -/

section
variable {s : State} {x : Act} {bits : BitVec 8} {neg : Bool}

theorem noShock_iff : bits.toNat &&& trgShock = 0 ↔ bits.getLsbD 1 = false := by
  rw [show trgShock = 2 ^ 1 from rfl, Nat.and_two_pow, BitVec.getLsbD]
  cases bits.toNat.testBit 1 <;> decide

theorem exec_writeGuardTrip (some_ : bits ≠ 0) (noShock : bits.getLsbD 1 = false) :
    exec (.writeGuardTrip x bits neg) s = .next (s.wgTrip x bits.toNat neg).syncMode :=
  (if_neg (fun none_ => some_ (BitVec.eq_of_toNat_eq none_))).trans (if_neg (not_not.2 (noShock_iff.2 noShock)))

theorem exec_writeGuardTrip_shock (shock : bits.getLsbD 1 = true) :
    exec (.writeGuardTrip x bits neg) s = .next (s.shockTrip x bits.toNat neg).syncMode := by
  refine (if_neg fun none_ => ?_).trans (if_pos fun none_ => ?_)
  · rw [BitVec.getLsbD, none_] at shock
    exact absurd shock (by decide)
  · exact absurd (noShock_iff.1 none_) (by simp [shock])

/-- A trip of an actuator, with the fields of both that a shock could write. -/
theorem writeGuardTrip_keeps (s : State) (x : Act) (bits : Nat) (neg : Bool) :
    Keeps doneParts (guardFields s .a ++ guardFields s .b ++ modeFields) s (s.wgTrip x bits neg).syncMode :=
  trip_mode_keeps (wgTrip_keeps (keeps_refl _ _ _) rfl (by cases x <;> simp) bits neg) (List.subset_append_right _ _)

/-- A field of the record of a trip by triggers, as the hold wrote it. -/
theorem get_writeGuardTrip {f : Field} (ok : s.actOk x = true) (spared : NotesSpare s x f)
    (apart : (squashOwn x ++ modeFields).all (fun g => Apart g f) = true) :
    (s.wgTrip x bits.toNat neg).syncMode.get f = (s.guardHold x bits.toNat neg).get f := by
  simp only [List.all_append, Bool.and_eq_true] at apart
  rw [syncMode_get _ f apart.2, get_wgTrip ok spared apart.1]

theorem holding_writeGuardTrip (ok : s.actOk x = true) :
    ((s.wgTrip x bits.toNat neg).syncMode.wrp x).holding = (s.wrp x).holding ||| bits.toNat := by
  rw [(SameGuards.syncMode _).holding, holding_wgTrip ok, if_pos rfl]

/-- A shock noted at both actuators (R332). -/
def shocked (s : State) : State :=
  { s with wrpA := { s.wrpA with shockHold := true, shockAt := s.now }, wrpB := { s.wrpB with shockHold := true, shockAt := s.now } }

theorem shockTrip_eq (s : State) (x : Act) (bits : Nat) (neg : Bool) :
    s.shockTrip x bits neg = ((shocked s).wgTrip x bits neg).wgTrip x.other trgShock false := rfl

theorem shockTrip_keeps (s : State) (x : Act) (bits : Nat) (neg : Bool) :
    Keeps doneParts (guardFields s .a ++ guardFields s .b ++ modeFields) s (s.shockTrip x bits neg) := by
  have noted : Keeps doneParts (guardFields s .a ++ guardFields s .b ++ modeFields) s (shocked s) :=
    keeps_set_wrpA_wrpB (within_nil rfl) (keeps_refl _ _ _)
  have first := wgTrip_keeps (x := x) noted (by cases x <;> rfl) (by cases x <;> simp) bits neg
  have other : ((shocked s).wgTrip x bits neg).msq x.other = s.msq x.other :=
    (wgTrip_trip _ x bits neg).other.trans (by cases x <;> rfl)
  exact wgTrip_keeps first other (by cases x <;> simp [Act.other]) _ _

theorem actOk_both (okA : s.actOk .a = true) (okB : s.actOk .b = true) (y : Act) : s.actOk y = true := by
  cases y
  · exact okA
  · exact okB

theorem actOk_wgTrip (s : State) (x y : Act) (bits : Nat) (neg : Bool) : (s.wgTrip x bits neg).actOk y = s.actOk y :=
  congrArg (fun p : PinSt => !(p.variant == 3 && y == .b)) (keeps_pins (wgTrip_trip s x bits neg).keeps (by decide))

section
variable (ok : ∀ y, s.actOk y = true) (shock : bits.getLsbD 1 = true)
include ok

theorem shock_shockTrip (y : Act) : ((s.shockTrip x bits.toNat neg).wrp y).shockHold = true := by
  have okX (y : Act) : ((shocked s).wgTrip x bits.toNat neg).actOk y = true := (actOk_wgTrip _ _ _ _ _).trans (ok y)
  rw [shockTrip_eq, shock_wgTrip (okX _), shock_wgTrip (s := shocked s) (ok _)]
  cases y <;> rfl

include shock in
/-- The shock trigger holds both Write Guards (R332). -/
theorem testBit_shockTrip (y : Act) : ((s.shockTrip x bits.toNat neg).wrp y).holding.testBit 1 = true := by
  have okX (y : Act) : ((shocked s).wgTrip x bits.toNat neg).actOk y = true := (actOk_wgTrip _ _ _ _ _).trans (ok y)
  rw [shockTrip_eq]
  by_cases first : y = x
  · subst first
    exact testBit_wgTrip_held (okX _) (testBit_wgTrip (s := shocked s) (ok _) shock neg) _ _
  · have second : y = x.other := by cases x <;> cases y <;> simp_all [Act.other]
    exact second ▸ testBit_wgTrip (okX _) (by decide) _
end
end

/-! ### Releases (R330, R332) -/

/-- The shock's hold ended at both actuators (R332). -/
def shockEnded (s : State) : State :=
  { s with wrpA := { s.wrpA with shockHold := false }, wrpB := { s.wrpB with shockHold := false } }

theorem exec_writeGuardRelease (s : State) (x : Act) :
    exec (.writeGuardRelease x false) s = .next (s.wgRelease x (s.releasedTriggers x)) := rfl

theorem exec_writeGuardRelease_quiet {s : State} {x : Act} (ended : s.wrpA.shockAt + s.get Fld.WRPA_SHOCK_HOLD * 12800 ≤ s.now) :
    exec (.writeGuardRelease x true) s = .next ((shockEnded s).wgRelease x ((shockEnded s).releasedTriggers x)) := by
  change execWriteGuardRelease x true s = _
  simp only [execWriteGuardRelease, ended, decide_true, Bool.and_self, if_true]
  rfl

theorem shock_wgRelease (s : State) (x y : Act) (bits : Nat) : ((s.wgRelease x bits).wrp y).shockHold = (s.wrp y).shockHold := by
  rw [wrp_wgRelease]
  split
  · rw [‹y = x›]
  · rfl

theorem exec_headContact {s : State} {x : Act} {head : Nat} (notCal : s.actState x ≠ 6) (small : head < 16) :
    exec (.headContact x head) s =
      .next ((s.setWrp x { s.wrp x with contactDue := (s.wrp x).contactDue ||| 2 ^ head }).raise (Fld.WRP_EV_CONTACT x)) :=
  if_neg (by omega)

/-! ### The statement -/

/-- Settles O27: trips by what the hold writes and the squash leaves, releases by what they take off. -/
theorem writeGuardTrips : Obligations.WriteGuardTrips := by
  unfold Obligations.WriteGuardTrips
  refine ⟨?limit, ?lost, ?missed, ?closed, ?lmrel, ?contact, ?begins, ?joins, ?shock, ?release, ?quiet, ?pop⟩
  case limit =>
    intro s x second tooLong ok noted
    have free := holding_of_lgOpen (lgOpen_of_laserOver tooLong)
    obtain ⟨cause, trips, event⟩ := guardHold_record s x trgLmon false free
    refine ⟨_, exec_laserGateLimit tooLong, ?_, ?_, ?_, ?_, ?_, ?_⟩
    · rw [(SameGuards.syncMode _).holding, gateLimited, (SameGuards.raise _ _).holding, holding_wgTrip ok, if_pos rfl, free]
      rfl
    · rw [syncMode_flag _ _ (by cases x <;> decide)]
      exact flag_raise _ _ (by cases x <;> rfl) rfl (by cases x <;> decide)
    · rw [State.flag, get_gateLimited ok (.inl (by cases x <;> decide)) (by cases x <;> decide)]
      exact event
    · exact (get_gateLimited ok (.of_addr noted rfl) (by cases x <;> decide)).trans cause
    · exact (get_gateLimited ok (.of_addr noted rfl) (by cases x <;> decide)).trans trips
    · refine trip_mode_keeps (keeps_raise ?_ (wgTrip_keeps (keeps_refl _ _ _) rfl ?_ _ _)) ?_
      · exact within_of_subset (by decide) (by simp [guardFields, squashFields])
      · simp
      · simp
  case lost =>
    intro s x second mode gate ok lost
    have taken := readingMissed_keeps s x second
    have ok' : (readingMissed s x second).actOk x = true := (actOk_readingMissed s x second).trans ok
    have free : ((readingMissed s x second).wrp x).holding = 0 := by
      rw [wrp_readingMissed, holding_setLas, holding_of_lgOpen gate]
    refine ⟨_, (exec_monitorRead_missed mode gate).trans (congrArg _ (if_pos (lmonBad_readingMissed lost))), ?_, ?_, ?_, ?_⟩
    · rw [(SameGuards.syncMode _).holding, lmonFault_eq, lmonCleared, wrp_setWrp, holding_setLas, (SameGuards.raise _ _).holding,
        holding_wgTrip ok', if_pos rfl, free]
      rfl
    · rw [syncMode_flag _ _ (by cases x <;> decide), lmonFault_eq, keeps_flag (lmonCleared_keeps _ x second) _ (by decide) rfl]
      exact flag_raise _ _ (by cases x <;> rfl) rfl (by cases x <;> decide)
    · rw [misses_syncMode, lmonFault_eq, lmonCleared, wrp_setWrp, las_setLas]
    · refine trip_mode_keeps (keeps_via (lmonCleared_keeps _ x second) (within_nil rfl) (keeps_raise ?_
        (wgTrip_keeps (keeps_mono taken (within_nil rfl)) (keeps_msq taken (by decide) x) ?_ _ _))) ?_
      · exact within_of_subset (by decide) (by simp [guardFields, squashFields])
      · simp
      · simp
  case missed =>
    intro s x second mode gate more varies
    refine ⟨_, (exec_monitorRead_missed mode gate).trans (congrArg _ (if_neg ?_)), ?_, ?_, readingMissed_keeps s x second⟩
    · simp [lmonBad_readingMissed_within more varies]
    · rw [wrp_readingMissed, las_setLas]
      rfl
    · rw [wrp_readingMissed, holding_setLas]
  case closed =>
    exact fun s x second reading mode gate => (if_neg (by simp [mode])).trans (if_pos (by simp [gate]))
  case lmrel =>
    intro s x held
    refine ⟨_, rfl, ?_, flag_wgRelease s x trgLmon (by rw [held]; decide) (by rw [held]; decide), wgRelease_keeps s x trgLmon⟩
    rw [wrp_wgRelease, if_pos rfl, held]
    rfl
  case contact =>
    intro s x head notCal small
    refine ⟨_, exec_headContact notCal small, ?_, flag_raise _ _ (by cases x <;> rfl) rfl (by cases x <;> decide), ?_⟩
    · rw [keeps_wrp (raise_keeps _ _) (by decide), wrp_setWrp]
    · exact keeps_raise (by cases x <;> decide) (keeps_setWrp (within_nil rfl) (keeps_refl _ _ _))
  case begins =>
    intro s x bits neg some_ noShock ok free noted
    obtain ⟨cause, trips, event⟩ := guardHold_record s x bits.toNat neg free
    refine ⟨_, exec_writeGuardTrip some_ noShock, ?_, ?_, ?_, ?_, writeGuardTrip_keeps s x _ _⟩
    · rw [holding_writeGuardTrip ok, free, Nat.zero_or]
    · rw [State.flag, get_writeGuardTrip ok (.inl (by cases x <;> decide)) (by cases x <;> decide)]
      exact event
    · rw [get_writeGuardTrip ok (.of_addr noted rfl) (by cases x <;> decide), cause, Nat.mod_eq_of_lt bits.isLt]
    · exact (get_writeGuardTrip ok (.of_addr noted rfl) (by cases x <;> decide)).trans trips
  case joins =>
    intro s x bits neg some_ noShock ok held noted
    obtain ⟨cause, trips⟩ := guardHold_joined_record s x bits.toNat neg held
    have small : s.get (Fld.WRP_WGLAST_CAUSE x) < 2 ^ 8 := Nat.mod_lt _ (Nat.two_pow_pos _)
    refine ⟨_, exec_writeGuardTrip some_ noShock, holding_writeGuardTrip ok, ?_, ?_, writeGuardTrip_keeps s x _ _⟩
    · rw [get_writeGuardTrip ok (.of_addr noted rfl) (by cases x <;> decide), cause,
        Nat.mod_eq_of_lt (Nat.or_lt_two_pow small bits.isLt)]
    · exact (get_writeGuardTrip ok (.of_addr noted rfl) (by cases x <;> decide)).trans trips
  case shock =>
    intro s x bits neg shock okA okB
    have ok := actOk_both okA okB
    have guards := SameGuards.syncMode (s.shockTrip x bits.toNat neg)
    refine ⟨_, exec_writeGuardTrip_shock shock,
      (guards.shock _).trans (shock_shockTrip ok _), (guards.shock _).trans (shock_shockTrip ok _),
      ?_, ?_, trip_mode_keeps (shockTrip_keeps s x _ _) (List.subset_append_right _ _)⟩
    · rw [guards.holding, testBit_shockTrip ok shock]
    · rw [guards.holding, testBit_shockTrip ok shock]
  case release =>
    intro s x
    refine ⟨_, exec_writeGuardRelease s x, ?_, wgRelease_keeps s x _⟩
    rw [wrp_wgRelease, if_pos rfl]
  case quiet =>
    intro s x passed
    have ended : Keeps [.rbk, .wrp] (recFields ++ [Fld.WRP_EV_WGREL x]) s (shockEnded s) :=
      keeps_set_wrpA_wrpB (within_nil rfl) (keeps_refl _ _ _)
    exact ⟨_, exec_writeGuardRelease_quiet passed, shock_wgRelease _ x .a _, shock_wgRelease _ x .b _,
      keeps_trans ended (wgRelease_keeps _ x _)⟩
  case pop => exact fun s x => ⟨_, rfl, wrp_setWrp _ _ _, keeps_setWrp (by decide) (keeps_refl _ _ _)⟩

end Sys2Proof.Proofs
end

section
/-!
PROOFS. The preamplifier links (R342 to R347): write frames, failed responses and their repeat, preamplifier faults, and the frames of
PLKx_REQ.
-/
namespace Sys2Proof.Proofs

open Sys2Proof.Machine Sys2Proof.Safety Sys2Proof.Laws

/-! ### Fields that no part of a trip writes -/

section
variable {s : State} {x : Act} {f : Field}

/-- A field that neither the hold nor the squash of a trip writes is as it was. -/
theorem get_wgTrip_other (ok : s.actOk x = true) (spared : NotesSpare s x f)
    (apart : (guardOwn x ++ squashOwn x).all (fun g => Apart g f) = true) (bits : Nat) (neg : Bool) :
    (s.wgTrip x bits neg).get f = s.get f := by
  rw [List.all_append, Bool.and_eq_true] at apart
  rw [get_wgTrip ok spared apart.2, keeps_get (guardHold_keeps s x bits neg) f (by decide) apart.1]

theorem flag_wgTrip_other (ok : s.actOk x = true) (spared : NotesSpare s x f)
    (apart : (guardOwn x ++ squashOwn x).all (fun g => Apart g f) = true) (bits : Nat) (neg : Bool) :
    (s.wgTrip x bits neg).flag f = s.flag f := by
  rw [State.flag, get_wgTrip_other ok spared apart, State.flag]

/-- A Write Guard exists with its actuator, which no step changes. -/
theorem keeps_actOk {P : List Part} {R : List Field} {t : State} (k : Keeps P R s t) (h : Part.pins ∉ P) (y : Act) :
    t.actOk y = s.actOk y :=
  congrArg (fun p : PinSt => !(p.variant == 3 && y == .b)) (keeps_pins k h)
end

/-! ### A wait that may end with nothing in progress (R141, R147) -/

section
variable (s : State) (x : Act)

theorem resolveWait_keeps : Keeps [.ang, .msq] [Fld.MSQ_DOORBELL_RING x] s (s.resolveWait x) := by
  have same : Keeps [.ang, .msq] [Fld.MSQ_DOORBELL_RING x] s s := keeps_refl _ _ _
  have rewritten (t : State) (m : Msq) : Keeps [.ang, .msq] [Fld.MSQ_DOORBELL_RING x] t (t.setMsq x m) :=
    keeps_setMsq (within_nil rfl) (keeps_refl _ _ _)
  unfold State.resolveWait
  extract_lets m
  split
  case h_2 => exact same
  case h_1 =>
    split
    · exact keeps_ite (keeps_trans (rewritten s _) (rewritten _ _)) same
    · exact keeps_ite (rewritten s _) same
    · exact keeps_ite (rewritten s _) same
    · exact keeps_ite (rewritten s _) same
    · exact keeps_ite (keeps_mono (waiteEnd_keeps s x _ _ _) (within_of_subset (by decide) (List.Subset.refl _))) same
    · split
      case h_1 armed =>
        unfold State.armQual at armed
        split at armed
        · cases armed
          exact keeps_trans (keeps_setCmps (within_nil rfl) same) (rewritten _ _)
        · cases armed
      case h_2 => exact same
    · exact same

/-- With nothing in progress only a wait may end. -/
theorem advance_idle_keeps (idle : (s.msq x).work = []) : Keeps [.ang, .msq] [Fld.MSQ_DOORBELL_RING x] s (s.advance x) := by
  cases go : (s.msq x).sqWait with
  | true =>
    have held : s.advance x = s := if_pos go
    rw [held]
    exact keeps_refl _ _ _
  | false =>
    rw [advance_of_begun (by simp [idle]) go]
    exact resolveWait_keeps s x
end

/-! ### A write frame (R342, R345) -/

theorem plk_plkWrite (s : State) (x : Act) (addr data : Nat) : (s.plkWrite x addr data).plk x =
    { s.plk x with repeated := false, wf := mput (s.plk x).wf addr data, hsel :=
        if addr = s.get (Fld.PLK_ADDR_HSADDR x) then some (BitVec.ofNat 32 data) else (s.plk x).hsel } := by
  refine (plk_setPlk _ _ _).trans ?_
  split <;> rfl

theorem plkWrite_keeps (s : State) (x : Act) (addr data : Nat) : Keeps [.plk] [] s (s.plkWrite x addr data) :=
  keeps_setPlk (by decide) (keeps_refl _ _ _)

/-! ### A preamplifier fault (R346) -/

section
variable (s : State) (x : Act) (pin : Bool) (status : Nat)

/-- A preamplifier fault noted: its status word and its pin kept, its fault raised. -/
def preampNoted : State :=
  let s1 := s.setPlk x { s.plk x with faulted := true, fltPin := (s.plk x).fltPin || pin }
  ((s1.put (Fld.PLK_FLTCODE_STATUS x) status).putb (Fld.PLK_FLTCODE_PIN x) pin).raise (Fld.PLK_FLT_PREAMP x)

/-- The fields of a preamplifier fault. -/
def preampFields (x : Act) : List Field :=
  recFields ++ [Fld.PLK_FLTCODE_PIN x, Fld.PLK_FLTCODE_STATUS x, Fld.PLK_FLT_PREAMP x]

theorem preampNoted_keeps : Keeps [.plk, .rbk] (preampFields x) s (preampNoted s x pin status) :=
  keeps_raise (by cases x <;> decide) (keeps_putb (by cases x <;> decide) (keeps_put (by cases x <;> decide)
    (keeps_setPlk (within_nil rfl) (keeps_refl _ _ _))))

theorem faulted_preampNoted : ((preampNoted s x pin status).plk x).faulted = true := by
  have marks (t : State) : Keeps [.rbk] (preampFields x) t
      (((t.put (Fld.PLK_FLTCODE_STATUS x) status).putb (Fld.PLK_FLTCODE_PIN x) pin).raise (Fld.PLK_FLT_PREAMP x)) :=
    keeps_raise (by cases x <;> decide) (keeps_putb (by cases x <;> decide) (keeps_put (by cases x <;> decide) (keeps_refl _ _ _)))
  rw [preampNoted, keeps_plk (marks _) (by decide), plk_setPlk]

theorem status_preampNoted : (preampNoted s x pin status).get (Fld.PLK_FLTCODE_STATUS x) = status % 2 ^ 16 := by
  rw [preampNoted, keeps_get (raise_keeps _ _) _ (by decide) (by cases x <;> decide),
    get_putb_other _ _ _ _ (by cases x <;> rfl) (by cases x <;> rfl), get_put _ _ _ (by cases x <;> rfl)]
  rfl

theorem pin_preampNoted : (preampNoted s x pin status).flag (Fld.PLK_FLTCODE_PIN x) = pin := by
  rw [preampNoted, keeps_flag (raise_keeps _ _) _ (by decide) (by cases x <;> decide), flag_putb _ _ _ (by cases x <;> rfl) rfl]

theorem fault_preampNoted : (preampNoted s x pin status).flag (Fld.PLK_FLT_PREAMP x) = true :=
  flag_raise _ _ (by cases x <;> rfl) rfl (by cases x <;> decide)
end

section
variable {s : State} {x : Act} (ok : s.actOk x = true) (pin : Bool) (status : Nat)
include ok

theorem preampFault_eq : s.preampFault x pin status = (preampNoted s x pin status).wgTrip x trgPreamp false :=
  if_neg (by simp [ok])

theorem actOk_preampNoted : (preampNoted s x pin status).actOk x = true :=
  (keeps_actOk (preampNoted_keeps s x pin status) (by decide) x).trans ok

/-- A field of the fault's record that no firmware write reaches is as it was noted, once the trip and the mode have followed. -/
theorem get_preampFault {f : Field} (owned : hardwareOwned f = true)
    (apart : (guardOwn x ++ squashOwn x ++ modeFields).all (fun g => Apart g f) = true) :
    (s.preampFault x pin status).syncMode.get f = (preampNoted s x pin status).get f := by
  rw [List.all_append, Bool.and_eq_true] at apart
  rw [syncMode_get _ f apart.2, preampFault_eq ok, get_wgTrip_other (actOk_preampNoted ok pin status) (.inl owned) apart.1]

theorem flag_preampFault : (s.preampFault x pin status).syncMode.flag (Fld.PLK_FLT_PREAMP x) = true := by
  rw [State.flag, get_preampFault ok pin status (by cases x <;> decide) (by cases x <;> decide)]
  exact fault_preampNoted s x pin status

theorem status_preampFault (small : status < 2 ^ 16) :
    (s.preampFault x pin status).syncMode.get (Fld.PLK_FLTCODE_STATUS x) = status := by
  rw [get_preampFault ok pin status (by cases x <;> decide) (by cases x <;> decide), status_preampNoted, Nat.mod_eq_of_lt small]

theorem pin_preampFault : (s.preampFault x pin status).syncMode.flag (Fld.PLK_FLTCODE_PIN x) = pin := by
  rw [State.flag, get_preampFault ok pin status (by cases x <;> decide) (by cases x <;> decide)]
  exact pin_preampNoted s x pin status

theorem faulted_preampFault : ((s.preampFault x pin status).syncMode.plk x).faulted = true := by
  rw [(SameGuards.syncMode _).faulted, preampFault_eq ok, faulted_wgTrip (actOk_preampNoted ok pin status), faulted_preampNoted]

theorem testBit_preampFault : ((s.preampFault x pin status).syncMode.wrp x).holding.testBit 5 = true := by
  rw [(SameGuards.syncMode _).holding, preampFault_eq ok, testBit_wgTrip (actOk_preampNoted ok pin status) (by decide)]

theorem preampFault_keeps {F : List Field} (guard : guardFields s x ⊆ F) (mode : modeFields ⊆ F) (fault : preampFields x ⊆ F) :
    Keeps doneParts F s (s.preampFault x pin status).syncMode := by
  have noted := preampNoted_keeps s x pin status
  rw [preampFault_eq ok]
  exact trip_mode_keeps
    (wgTrip_keeps (keeps_mono noted (within_of_subset (by decide) fault)) (keeps_msq noted (by decide) x) guard _ _) mode
end

/-! ### A response that fails (R343) -/

section
variable (s : State) (x : Act)

/-- The first failure of a response: the frame is repeated. -/
def frameRepeated : State :=
  ((s.setPlk x { s.plk x with repeated := true }).bump (Fld.PLK_CNT_RETRY x) 1).raise (Fld.PLK_EV_RETRY x)

/-- A frame of firmware ends with the error of a response timeout in PLKx_RSP; one of the microcode has none to show. -/
def requestFailed : State :=
  let s1 := s.setPlk x { s.plk x with repeated := false }
  if s1.flag (Fld.PLK_REQ_GO x) then
    ((s1.wr (Reg.PLK_RSP x) 0xC0000000#32).putb (Fld.PLK_REQ_GO x) false).raise (Fld.PLK_EV_REQDONE x)
  else s1

/-- The second failure: a response timeout, the trip apart. -/
def frameTimedOut : State := ((requestFailed s x).bump (Fld.PLK_CNT_TMO x) 1).raise (Fld.PLK_EV_TMO x)

/-- The fields of a response that fails. -/
def plkFailFields (x : Act) : List Field :=
  recFields ++ [⟨Reg.PLK_RSP x, 0, 32⟩, Fld.PLK_CNT_RETRY x, Fld.PLK_CNT_TMO x, Fld.PLK_EV_REQDONE x, Fld.PLK_EV_RETRY x,
    Fld.PLK_EV_TMO x, Fld.PLK_REQ_GO x]

theorem frameRepeated_keeps : Keeps [.plk, .rbk] (plkFailFields x) s (frameRepeated s x) :=
  keeps_raise (by cases x <;> decide) (keeps_bump (by cases x <;> decide) (keeps_setPlk (within_nil rfl) (keeps_refl _ _ _)))

theorem repeated_frameRepeated : ((frameRepeated s x).plk x).repeated = true := by
  rw [frameRepeated, keeps_plk (raise_keeps _ _) (by decide), keeps_plk (State_bump_keeps _ _ _) (by decide), plk_setPlk]

theorem retry_frameRepeated : (frameRepeated s x).get (Fld.PLK_CNT_RETRY x) = satAdd 16 (s.get (Fld.PLK_CNT_RETRY x)) 1 := by
  rw [frameRepeated, keeps_get (raise_keeps _ _) _ (by decide) (by cases x <;> decide), get_bump _ _ _ (by cases x <;> rfl),
    get_of_regs (setPlk_regs _ _ _)]
  rfl

theorem flag_frameRepeated : (frameRepeated s x).flag (Fld.PLK_EV_RETRY x) = true :=
  flag_raise _ _ (by cases x <;> rfl) rfl (by cases x <;> decide)

/-- The fields of the answer that PLKx_RSP gives. -/
def answerFields (x : Act) : List Field := recFields ++ [⟨Reg.PLK_RSP x, 0, 32⟩, Fld.PLK_EV_REQDONE x, Fld.PLK_REQ_GO x]

theorem requestFailed_keeps : Keeps [.plk, .rbk] (answerFields x) s (requestFailed s x) := by
  have cleared : Keeps [.plk, .rbk] (answerFields x) s (s.setPlk x { s.plk x with repeated := false }) :=
    keeps_setPlk (within_nil rfl) (keeps_refl _ _ _)
  exact keeps_ite
    (keeps_raise (by cases x <;> decide) (keeps_putb (by cases x <;> decide) (keeps_wr (by cases x <;> decide) cleared))) cleared

theorem repeated_requestFailed : ((requestFailed s x).plk x).repeated = false := by
  have answered (t : State) : Keeps [.rbk] (answerFields x) t
      (((t.wr (Reg.PLK_RSP x) 0xC0000000#32).putb (Fld.PLK_REQ_GO x) false).raise (Fld.PLK_EV_REQDONE x)) :=
    keeps_raise (by cases x <;> decide) (keeps_putb (by cases x <;> decide) (keeps_wr (by cases x <;> decide) (keeps_refl _ _ _)))
  unfold requestFailed
  extract_lets p s1
  have cleared : (s1.plk x).repeated = false := congrArg PlkSt.repeated (plk_setPlk s x _)
  split
  · rw [keeps_plk (answered s1) (by decide), cleared]
  · exact cleared

theorem frameTimedOut_keeps : Keeps [.plk, .rbk] (plkFailFields x) s (frameTimedOut s x) :=
  keeps_raise (by cases x <;> decide) (keeps_bump (by cases x <;> decide) (keeps_mono (requestFailed_keeps s x) (by cases x <;> decide)))

theorem repeated_frameTimedOut : ((frameTimedOut s x).plk x).repeated = false := by
  rw [frameTimedOut, keeps_plk (raise_keeps _ _) (by decide), keeps_plk (State_bump_keeps _ _ _) (by decide), repeated_requestFailed]

theorem timeouts_frameTimedOut : (frameTimedOut s x).get (Fld.PLK_CNT_TMO x) = satAdd 16 (s.get (Fld.PLK_CNT_TMO x)) 1 := by
  rw [frameTimedOut, keeps_get (raise_keeps _ _) _ (by decide) (by cases x <;> decide), get_bump _ _ _ (by cases x <;> rfl),
    keeps_get (requestFailed_keeps s x) _ (by decide) (by cases x <;> decide)]
  rfl

theorem flag_frameTimedOut : (frameTimedOut s x).flag (Fld.PLK_EV_TMO x) = true :=
  flag_raise _ _ (by cases x <;> rfl) rfl (by cases x <;> decide)
end

section
variable {s : State} {x : Act} (ok : s.actOk x = true)
include ok

theorem plkFail_first (first : (s.plk x).repeated = false) : s.plkFail x = frameRepeated s x :=
  (if_neg (by simp [ok])).trans (if_pos (by simp [first]))

theorem plkFail_second (second : (s.plk x).repeated = true) : s.plkFail x = (frameTimedOut s x).wgTrip x trgPreamp false :=
  (if_neg (by simp [ok])).trans (if_neg (by simp [second]))

/-- The first failure of a response (R343): the frame is repeated, which is counted and is an event. -/
theorem plkFail_repeats (first : (s.plk x).repeated = false) : ((s.plkFail x).syncMode.plk x).repeated = true ∧
    (s.plkFail x).syncMode.get (Fld.PLK_CNT_RETRY x) = satAdd 16 (s.get (Fld.PLK_CNT_RETRY x)) 1 ∧
    (s.plkFail x).syncMode.flag (Fld.PLK_EV_RETRY x) = true := by
  rw [plkFail_first ok first]
  refine ⟨?_, ?_, ?_⟩
  · rw [(SameGuards.syncMode _).repeated, repeated_frameRepeated]
  · rw [syncMode_get _ _ (by cases x <;> decide), retry_frameRepeated]
  · rw [syncMode_flag _ _ (by cases x <;> decide), flag_frameRepeated]

theorem plkFail_keeps {F : List Field} (guard : guardFields s x ⊆ F) (mode : modeFields ⊆ F) (fail : plkFailFields x ⊆ F) :
    Keeps doneParts F s (s.plkFail x).syncMode := by
  refine trip_mode_keeps ?_ mode
  cases tries : (s.plk x).repeated with
  | false =>
    rw [plkFail_first ok tries]
    exact keeps_mono (frameRepeated_keeps s x) (within_of_subset (by decide) fail)
  | true =>
    have timedOut := frameTimedOut_keeps s x
    rw [plkFail_second ok tries]
    exact wgTrip_keeps (keeps_mono timedOut (within_of_subset (by decide) fail)) (keeps_msq timedOut (by decide) x) guard _ _

/-- The second failure (R343): a response timeout, counted and an event, that trips the Write Guard with PREAMP. -/
theorem plkFail_times_out (second : (s.plk x).repeated = true)
    (noted : (notedFields s .a ++ notedFields s .b).all (fun f => f.addr != Reg.PLK_CNT x) = true) :
    ((s.plkFail x).syncMode.plk x).repeated = false ∧
    (s.plkFail x).syncMode.get (Fld.PLK_CNT_TMO x) = satAdd 16 (s.get (Fld.PLK_CNT_TMO x)) 1 ∧
    (s.plkFail x).syncMode.flag (Fld.PLK_EV_TMO x) = true ∧ ((s.plkFail x).syncMode.wrp x).holding.testBit 5 = true := by
  have timedOut := frameTimedOut_keeps s x
  have ok' : (frameTimedOut s x).actOk x = true := (keeps_actOk timedOut (by decide) x).trans ok
  have spared : NotesSpare (frameTimedOut s x) x (Fld.PLK_CNT_TMO x) :=
    (NotesSpare.of_addr noted rfl).of_msq (keeps_msq timedOut (by decide) x)
  rw [plkFail_second ok second]
  refine ⟨?_, ?_, ?_, ?_⟩
  · rw [(SameGuards.syncMode _).repeated, repeated_wgTrip ok', repeated_frameTimedOut]
  · rw [syncMode_get _ _ (by cases x <;> decide), get_wgTrip_other ok' spared (by cases x <;> decide), timeouts_frameTimedOut]
  · rw [syncMode_flag _ _ (by cases x <;> decide), flag_wgTrip_other ok' (.inl (by cases x <;> decide)) (by cases x <;> decide),
      flag_frameTimedOut]
  · rw [(SameGuards.syncMode _).holding, testBit_wgTrip ok' (by decide)]
end

/-! ### The frame of PLKx_REQ (R344, R347) -/

section
variable (s : State) (x : Act) (resp : BitVec 16)

/-- PLKx_RSP with the answer to a frame of firmware. -/
def rspTaken (v : Nat) : State := s.wr (Reg.PLK_RSP x) (BitVec.ofNat 32 (b2n (s.plk x).repeated * 2 ^ 30 + v))

/-- The data of a read, or the word of a write at the preamplifier, with the answer in PLKx_RSP. -/
def firmwareRead : State :=
  (rspTaken s x resp.toNat).setPlk x { (rspTaken s x resp.toNat).plk x with repeated := false }
def firmwareWritten : State :=
  (rspTaken s x (resp.toNat % 256 * 2 ^ 16)).plkWrite x (s.get (Fld.PLK_REQ_ADDR x)) (s.get (Fld.PLK_REQ_DATA x))

/-- The request is over. -/
def requestDone : State := (s.putb (Fld.PLK_REQ_GO x) false).raise (Fld.PLK_EV_REQDONE x)

theorem rspTaken_keeps (v : Nat) : Keeps [] [⟨Reg.PLK_RSP x, 0, 32⟩] s (rspTaken s x v) := State_wr_keeps _ _ _

/-- The fields that the end of a request writes. -/
def requestDoneFields (x : Act) : List Field := recFields ++ [Fld.PLK_EV_REQDONE x, Fld.PLK_REQ_GO x]

theorem requestDone_keeps : Keeps [.rbk] (requestDoneFields x) s (requestDone s x) :=
  keeps_raise (by cases x <;> decide) (keeps_putb (by cases x <;> decide) (keeps_refl _ _ _))

theorem go_requestDone : (requestDone s x).flag (Fld.PLK_REQ_GO x) = false := by
  rw [requestDone, keeps_flag (raise_keeps _ _) _ (by decide) (by cases x <;> decide), flag_putb _ _ _ (by cases x <;> rfl) rfl]

theorem flag_requestDone : (requestDone s x).flag (Fld.PLK_EV_REQDONE x) = true :=
  flag_raise _ _ (by cases x <;> rfl) rfl (by cases x <;> decide)

/-- A request that ends with nothing in progress: GO is clear, the event is raised, and the link and the answer are as they were. -/
theorem requestDone_advance (idle : (s.msq x).work = []) : ((requestDone s x).advance x).flag (Fld.PLK_REQ_GO x) = false ∧
    ((requestDone s x).advance x).flag (Fld.PLK_EV_REQDONE x) = true ∧ ((requestDone s x).advance x).plk x = s.plk x ∧
    ((requestDone s x).advance x).rd (Reg.PLK_RSP x) = s.rd (Reg.PLK_RSP x) := by
  have ended := requestDone_keeps s x
  have goesOn := advance_idle_keeps (requestDone s x) x (by rw [keeps_msq ended (by decide), idle])
  refine ⟨?_, ?_, ?_, ?_⟩
  · rw [keeps_flag goesOn _ (by decide) (by cases x <;> decide), go_requestDone]
  · rw [keeps_flag goesOn _ (by decide) (by cases x <;> decide), flag_requestDone]
  · rw [keeps_plk goesOn (by decide), keeps_plk ended (by decide)]
  · rw [keeps_rd goesOn _ (by decide) (by cases x <;> decide), keeps_rd ended _ (by decide) (by cases x <;> decide)]

/-- The fields of a frame of firmware that no fault ends. -/
def firmwareFields (x : Act) : List Field := answerFields x ++ [Fld.MSQ_DOORBELL_RING x]

theorem requestDone_advance_keeps {t : State} (idle : (s.msq x).work = []) (taken : Keeps [.plk] [⟨Reg.PLK_RSP x, 0, 32⟩] s t) :
    Keeps [.ang, .msq, .plk, .rbk] (firmwareFields x) s ((requestDone t x).advance x) := by
  have ended := requestDone_keeps t x
  have same : ((requestDone t x).msq x).work = [] := by rw [keeps_msq ended (by decide), keeps_msq taken (by decide), idle]
  exact keeps_via (advance_idle_keeps _ x same) (by cases x <;> decide) (keeps_via ended (by cases x <;> decide)
    (keeps_mono taken (by cases x <;> decide)))

theorem firmwareRead_keeps : Keeps [.plk] [⟨Reg.PLK_RSP x, 0, 32⟩] s (firmwareRead s x resp) :=
  keeps_setPlk (within_nil rfl) (keeps_mono (rspTaken_keeps s x _) (within_of_subset (by decide) (List.Subset.refl _)))

theorem firmwareWritten_keeps : Keeps [.plk] [⟨Reg.PLK_RSP x, 0, 32⟩] s (firmwareWritten s x resp) :=
  keeps_via (plkWrite_keeps _ x _ _) (within_nil rfl)
    (keeps_mono (rspTaken_keeps s x _) (within_of_subset (by decide) (List.Subset.refl _)))
end

section
variable {s : State} {x : Act} {resp : BitVec 16}

theorem exec_plkFirmwareFrame_read (ok : s.actOk x = true) (free : ((s.plk x).fwWaits && s.plkReading x) = false)
    (read : s.flag (Fld.PLK_REQ_RD x) = true)
    (sound : ¬ (s.get (Fld.PLK_REQ_ADDR x) = s.get (Fld.PLK_CFG_STATADDR x) ∧ resp.msb = true)) :
    exec (.plkFirmwareFrame x resp) s = .next ((requestDone (firmwareRead s x resp) x).advance x) := by
  change execPlkFirmwareFrame x resp s = _
  have quiet : (decide (s.get (Fld.PLK_REQ_ADDR x) = s.get (Fld.PLK_CFG_STATADDR x)) && resp.msb) = false := by
    simpa using sound
  simp only [execPlkFirmwareFrame, ok, free, read, quiet, Bool.not_true, Bool.or_false, Bool.true_and, Bool.false_eq_true,
    if_false, if_true]
  rfl

theorem exec_plkFirmwareFrame_write (ok : s.actOk x = true) (free : ((s.plk x).fwWaits && s.plkReading x) = false)
    (write : s.flag (Fld.PLK_REQ_RD x) = false) :
    exec (.plkFirmwareFrame x resp) s = .next ((requestDone (firmwareWritten s x resp) x).advance x) := by
  change execPlkFirmwareFrame x resp s = _
  simp only [execPlkFirmwareFrame, ok, free, write, Bool.not_true, Bool.or_false, Bool.false_and, Bool.false_eq_true, if_false]
  rfl

theorem exec_plkReadFrame_ok {addr : BitVec 7} {data : BitVec 16} (ok : s.actOk x = true) :
    exec (.plkReadFrame x addr data true) s = .next (if addr.toNat = s.get (Fld.PLK_CFG_STATADDR x) ∧ data.msb = true
      then ((s.setPlk x { s.plk x with repeated := false }).preampFault x false data.toNat).syncMode
      else s.setPlk x { s.plk x with repeated := false }) := by
  change execPlkReadFrame x addr data true s = _
  simp only [execPlkReadFrame, ok, Bool.not_true, Bool.false_eq_true, if_false, get_of_regs (setPlk_regs _ _ _)]

theorem exec_plkReadFrame_failed {addr : BitVec 7} {data : BitVec 16} (ok : s.actOk x = true) :
    exec (.plkReadFrame x addr data false) s = .next (s.plkFail x).syncMode :=
  (if_neg (by simp [ok])).trans (if_pos rfl)
end

end Sys2Proof.Proofs
end

section
/-!
PROOFS. The statement about the preamplifier links (R342 to R347).
-/
namespace Sys2Proof.Proofs

open Sys2Proof.Machine Sys2Proof.Safety Sys2Proof.Laws

section
variable {s : State} {x : Act}

/-- A link that has taken a good response, before its status word is judged. -/
def responseTaken (s : State) (x : Act) : State := s.setPlk x { s.plk x with repeated := false }

theorem responseTaken_keeps (s : State) (x : Act) : Keeps [.plk] [] s (responseTaken s x) :=
  keeps_setPlk (by decide) (keeps_refl _ _ _)

theorem actOk_responseTaken (ok : s.actOk x = true) : (responseTaken s x).actOk x = true :=
  (keeps_actOk (responseTaken_keeps s x) (by decide) x).trans ok

/-- A preamplifier fault that a good response reports, within the frame of a fault. -/
theorem responseFault_keeps {F : List Field} (ok : s.actOk x = true) (status : Nat) (guard : guardFields s x ⊆ F)
    (mode : modeFields ⊆ F) (fault : preampFields x ⊆ F) :
    Keeps doneParts F s ((responseTaken s x).preampFault x false status).syncMode := by
  have taken := responseTaken_keeps s x
  rw [← guardFields_of_msq (keeps_msq taken (by decide) x)] at guard
  exact keeps_trans (keeps_mono taken (within_nil rfl)) (preampFault_keeps (actOk_responseTaken ok) false status guard mode fault)

/-- The answer to a read of firmware, as the end of its request leaves it. -/
theorem rd_firmwareRead (s : State) (x : Act) (resp : BitVec 16) : (firmwareRead s x resp).rd (Reg.PLK_RSP x) =
    BitVec.ofNat 32 (b2n (s.plk x).repeated * 2 ^ 30 + resp.toNat) :=
  (keeps_rd (P := [.plk]) (F := []) (keeps_setPlk (by decide) (keeps_refl _ _ _)) _ (by decide) rfl).trans (rd_wr _ _ _)

theorem rd_firmwareWritten (s : State) (x : Act) (resp : BitVec 16) : (firmwareWritten s x resp).rd (Reg.PLK_RSP x) =
    BitVec.ofNat 32 (b2n (s.plk x).repeated * 2 ^ 30 + resp.toNat % 256 * 2 ^ 16) :=
  (keeps_rd (plkWrite_keeps _ x _ _) _ (by decide) rfl).trans (rd_wr _ _ _)

theorem wf_firmwareWritten (s : State) (x : Act) (resp : BitVec 16) :
    mfind ((firmwareWritten s x resp).plk x).wf (s.get (Fld.PLK_REQ_ADDR x)) = some (s.get (Fld.PLK_REQ_DATA x) : Nat) := by
  rw [firmwareWritten, plk_plkWrite]
  exact mfind_mput _ _ _
/-- The fields of a request's end are of any frame that holds the guard's, the answer's and the doorbell's. -/
theorem firmwareFields_subset {F : List Field} (guard : guardFields s x ⊆ F) (ring : Fld.MSQ_DOORBELL_RING x ∈ F)
    (answer : [⟨Reg.PLK_RSP x, 0, 32⟩, Fld.PLK_EV_REQDONE x, Fld.PLK_REQ_GO x] ⊆ F) : firmwareFields x ⊆ F := by
  have record : recFields ⊆ F := fun f rec => guard (by simp [guardFields, squashFields, rec])
  exact List.append_subset.2 ⟨List.append_subset.2 ⟨record, answer⟩, List.cons_subset.2 ⟨ring, List.nil_subset _⟩⟩
end

/-- Settles O28: what each frame writes, what the first and the second failure of a response do, and what a fault's trip leaves of its
record. -/
theorem preampLink : Obligations.PreampLink := by
  unfold Obligations.PreampLink
  refine ⟨?write, ?read, ?statusFault, ?readFailed, ?timeout, ?repeat_, ?fwRead, ?fwWrite, ?fwWaits, ?fault, ?noFault⟩
  case write =>
    intro s x addr data
    refine ⟨_, rfl, ?_, ?_, ?_, plkWrite_keeps s x _ _⟩
    · rw [plk_plkWrite]
      exact mfind_mput _ _ _
    · rw [plk_plkWrite]
    · rw [plk_plkWrite]
  case read =>
    exact fun s x addr data ok sound => (exec_plkReadFrame_ok ok).trans (congrArg _ (if_neg sound))
  case statusFault =>
    intro s x addr data status bad ok
    have ok' := actOk_responseTaken ok
    refine ⟨_, (exec_plkReadFrame_ok ok).trans (congrArg _ (if_pos ⟨status, bad⟩)), flag_preampFault ok' _ _,
      status_preampFault ok' _ _ data.isLt, faulted_preampFault ok' _ _, testBit_preampFault ok' _ _, responseFault_keeps ok _ ?_ ?_ ?_⟩
    · simp
    · simp
    · simp [preampFields, guardFields, squashFields]
  case readFailed =>
    intro s x addr data first ok
    obtain ⟨again, counted, event⟩ := plkFail_repeats ok first
    refine ⟨_, exec_plkReadFrame_failed ok, again, counted, event, plkFail_keeps ok ?_ ?_ ?_⟩
    · simp
    · simp
    · cases x <;> simp [plkFailFields, guardFields, squashFields]
  case timeout =>
    intro s x second ok noted
    obtain ⟨over_, counted, event, trip⟩ := plkFail_times_out ok second noted
    refine ⟨_, rfl, over_, counted, event, trip, plkFail_keeps ok ?_ ?_ ?_⟩
    · simp
    · simp
    · cases x <;> simp [plkFailFields, guardFields, squashFields]
  case repeat_ =>
    intro s x first ok
    obtain ⟨again, counted, event⟩ := plkFail_repeats ok first
    refine ⟨_, rfl, again, counted, event, plkFail_keeps ok ?_ ?_ ?_⟩
    · simp
    · simp
    · cases x <;> simp [plkFailFields, guardFields, squashFields]
  case fwRead =>
    intro s x resp ok free idle read sound
    have taken := firmwareRead_keeps s x resp
    obtain ⟨go, event, -, answer⟩ := requestDone_advance (firmwareRead s x resp) x (by rw [keeps_msq taken (by decide), idle])
    refine ⟨_, exec_plkFirmwareFrame_read ok free read sound, answer.trans (rd_firmwareRead s x resp), go, event,
      keeps_mono (requestDone_advance_keeps s x idle taken) (within_of_subset (by decide) (firmwareFields_subset (s := s) ?_ ?_ ?_))⟩
    · simp
    · simp [advFields]
    · cases x <;> simp
  case fwWrite =>
    intro s x resp ok free idle write
    have taken := firmwareWritten_keeps s x resp
    obtain ⟨go, event, link, answer⟩ := requestDone_advance (firmwareWritten s x resp) x (by rw [keeps_msq taken (by decide), idle])
    refine ⟨_, exec_plkFirmwareFrame_write ok free write, answer.trans (rd_firmwareWritten s x resp), go, event, ?_,
      keeps_mono (requestDone_advance_keeps s x idle taken) (within_of_subset (by decide) (firmwareFields_subset (s := s) ?_ ?_ ?_))⟩
    · rw [link, wf_firmwareWritten]
    · simp
    · simp [advFields]
    · cases x <;> simp
  case fwWaits => exact fun s x resp waits => if_pos (by simp [waits])
  case fault =>
    intro s x pin status bad ok
    refine ⟨_, if_pos bad, flag_preampFault ok _ _, status_preampFault ok _ _ status.isLt, pin_preampFault ok _ _,
      faulted_preampFault ok _ _, testBit_preampFault ok _ _, preampFault_keeps ok _ _ ?_ ?_ ?_⟩
    · simp
    · simp
    · simp [preampFields, guardFields, squashFields]
  case noFault => exact fun s x status sound => if_neg (by simp [sound])

end Sys2Proof.Proofs
end

section
/-!
PROOFS. The ends of an overcurrent pause, of the boost's regulation and of an excursion of the MEDIA bus (R329, R432, R434, R495).
-/
namespace Sys2Proof.Proofs

open Sys2Proof.Machine Sys2Proof.Safety Sys2Proof.Laws

section
variable {s : State} {x : Act}

/-! ### The retract after an overcurrent pause (R432) -/

theorem notLoaded_keeps (s : State) (x : Act) : Keeps [.msq, .sys] loopFields s (s.notLoaded x) :=
  keeps_setMsq (by decide) (keeps_putb (by cases x <;> decide) (keeps_putb (by cases x <;> decide)
    (keeps_put (by cases x <;> decide) (keeps_setLoaded (by decide) (keeps_refl _ _ _)))))

theorem loaded_notLoaded (s : State) (x : Act) : (s.notLoaded x).loaded x = false := by
  have rest : Keeps [.msq] loopFields (s.setLoaded x false) (s.notLoaded x) :=
    keeps_setMsq (by decide) (keeps_putb (by cases x <;> decide) (keeps_putb (by cases x <;> decide)
      (keeps_put (by cases x <;> decide) (keeps_refl _ _ _))))
  rw [keeps_loaded rest (by decide), loaded_setLoaded]

theorem uaZero_keeps (s : State) (x : Act) : Keeps [.lpe] [Fld.DRV_STAT_UAON] s (s.uaZero x) :=
  keeps_put (by decide) (keeps_setLa (by decide) (keeps_refl _ _ _))

theorem ocPause_uaZero (s : State) (x : Act) : ((s.uaZero x).la x).ocPause = (s.la x).ocPause := by
  have shown (t : State) (v : Nat) : Keeps [] [Fld.DRV_STAT_UAON] t (t.put Fld.DRV_STAT_UAON v) :=
    keeps_put (by decide) (keeps_refl _ _ _)
  rw [State.uaZero, keeps_la (shown _ _) (by decide), la_setLa]

/-- A retract's actuator before its driver is told: the heads off the media, the microactuators at 0 V, no move under way. -/
def moveEnded (s : State) (x : Act) : State :=
  let s1 := (s.notLoaded x).uaZero x
  s1.setLa x { s1.la x with loading := false, unloading := false, seekWait := false }

theorem retract_driven (ok : s.actOk x = true) (driven : s.flag (drvOff x) = false) :
    s.retract x = (moveEnded s x).putb (drvRet x) true := by
  simp [State.retract, moveEnded, ok, driven]

theorem ocPause_moveEnded (s : State) (x : Act) : ((moveEnded s x).la x).ocPause = (s.la x).ocPause := by
  rw [moveEnded, la_setLa, ocPause_uaZero, keeps_la (notLoaded_keeps s x) (by decide)]

theorem loaded_moveEnded (s : State) (x : Act) : (moveEnded s x).loaded x = false := by
  have ended : Keeps [.lpe] [] ((s.notLoaded x).uaZero x) (moveEnded s x) := keeps_setLa (by decide) (keeps_refl _ _ _)
  rw [keeps_loaded ended (by decide), keeps_loaded (uaZero_keeps _ x) (by decide), loaded_notLoaded]

/-- What a retract leaves of an actuator whose driver is on, after the mode has followed. -/
theorem retract_result (ok : s.actOk x = true) (driven : s.flag (drvOff x) = false) :
    ((s.retract x).syncMode.la x).ocPause = (s.la x).ocPause ∧ (s.retract x).syncMode.flag (drvRet x) = true ∧
    (s.retract x).syncMode.loaded x = false := by
  have told (t : State) : Keeps [] [drvRet x] t (t.putb (drvRet x) true) := keeps_putb (by cases x <;> decide) (keeps_refl _ _ _)
  rw [keeps_la (syncMode_keeps _) (by decide), syncMode_flag _ _ (by cases x <;> decide), loaded_syncMode, retract_driven ok driven]
  refine ⟨?_, flag_putb _ _ _ (by cases x <;> rfl) (by cases x <;> rfl), ?_⟩
  · rw [keeps_la (told _) (by decide), ocPause_moveEnded]
  · rw [keeps_loaded (told _) (by decide), loaded_moveEnded]

/-! ### A reading of VIN -/

def vinFields : List Field := [Fld.PWR_VIN_VIN, Fld.PWR_VIN_VMIN]

theorem vin_keeps (s : State) (v : Nat) : Keeps [] vinFields s (s.vin v) :=
  keeps_put (by decide) (keeps_put (by decide) (keeps_refl _ _ _))

theorem retph_vin (s : State) (v : Nat) : (s.vin v).retph = s.retph := keeps_get (vin_keeps s v) _ (by decide) (by decide)

theorem uvhold_vin (s : State) (v : Nat) : (s.vin v).flag Fld.PWR_STAT_UVHOLD = s.flag Fld.PWR_STAT_UVHOLD :=
  keeps_flag (vin_keeps s v) _ (by decide) (by decide)

theorem vbus_vin (s : State) (v : Nat) : (s.vin v).vbus = s.vbus :=
  congrArg (10 * ·) (eff_of_rd (keeps_rd (vin_keeps s v) _ (by decide) (by decide)))

theorem get_vin (s : State) (v : Nat) : (s.vin v).get Fld.PWR_VIN_VIN = min v 0xFFFF := by
  rw [State.vin, get_put_other _ _ _ _ rfl rfl, get_put _ _ _ rfl]
  exact Nat.mod_eq_of_lt (Nat.lt_of_le_of_lt (Nat.min_le_right _ _) (by decide))

/-- The state of an excursion of the bus in MEDIA, before the Write Guards trip. -/
def busOut (s : State) (v : Nat) : State := (s.vin v).putb Fld.PWR_STAT_UVHOLD true

theorem busOut_keeps (s : State) (v : Nat) : Keeps [] (Fld.PWR_STAT_UVHOLD :: vinFields) s (busOut s v) :=
  keeps_putb (by decide) (keeps_mono (vin_keeps s v) (by decide))

theorem exec_mediaBusExcursion_out {v : Nat} (media : s.retph = 1) (free : s.flag Fld.PWR_STAT_UVHOLD = false)
    (low : 100 * v < 90 * s.vbus) : exec (.mediaBusExcursion v) s = .next ((busOut s v).wgTripBoth trgUvw) :=
  if_neg (by rw [retph_vin, uvhold_vin, vbus_vin, media, free]; simp; omega)

theorem exec_mediaBusExcursion_within {v : Nat} (still : s.retph ≠ 1 ∨ s.flag Fld.PWR_STAT_UVHOLD = true ∨
    (90 * s.vbus ≤ 100 * v ∧ 100 * v ≤ 110 * s.vbus)) : exec (.mediaBusExcursion v) s = .next (s.vin v) :=
  if_pos (by rwa [retph_vin, uvhold_vin, vbus_vin])

/-! ### Held seeks -/

/-- LPE's regions, as a seek that begins writes them. -/
def regionFields : List Field := [Fld.LPE_STAT_REGION, ⟨Reg.LPE_STAT, 8, 2⟩]

theorem seekNow_keeps (s : State) (x : Act) : Keeps [.lpe] regionFields s (s.seekNow x) :=
  keeps_put (by cases x <;> decide) (keeps_ite (keeps_setLa (by decide) (keeps_setLa (by decide) (keeps_lpeReturn (by decide)
    (keeps_refl _ _ _)))) (keeps_setLa (by decide) (keeps_lpeReturn (by decide) (keeps_refl _ _ _))))

theorem seekRelease_keeps (s : State) (x : Act) : Keeps [.lpe] regionFields s (s.seekRelease x) :=
  keeps_ite (seekNow_keeps s x) (keeps_refl _ _ _)

/-- The fields of a bus that has settled in MEDIA. -/
def settledFields : List Field :=
  recFields ++ [Fld.PWR_STAT_UVHOLD, Fld.PWR_VIN_VIN, Fld.PWR_VIN_VMIN, Fld.WRP_EV_WGREL .a, Fld.WRP_EV_WGREL .b] ++ regionFields

/-- A bus that has settled in MEDIA: the undervoltage hold is over. -/
def busBack (s : State) (v : Nat) : State := (s.vin v).putb Fld.PWR_STAT_UVHOLD false

theorem busBack_keeps (s : State) (v : Nat) : Keeps [] (Fld.PWR_STAT_UVHOLD :: vinFields) s (busBack s v) :=
  keeps_putb (by decide) (keeps_mono (vin_keeps s v) (by decide))

/-- Held seeks begin once the Write Guards have released UVW. -/
def busSettled (s : State) (v : Nat) : State := (((busBack s v).wgReleaseBoth trgUvw).seekRelease .a).seekRelease .b

theorem exec_mediaBusSettled_back {v : Nat} (media : s.retph = 1) (held : s.flag Fld.PWR_STAT_UVHOLD = true)
    (low : 95 * s.vbus ≤ 100 * v) (high : 100 * v ≤ 105 * s.vbus) : exec (.mediaBusSettled v) s = .next (busSettled s v) :=
  if_neg (by rw [retph_vin, uvhold_vin, vbus_vin, media, held]; simp; omega)

theorem exec_mediaBusSettled_still {v : Nat} (still : s.retph ≠ 1 ∨ s.flag Fld.PWR_STAT_UVHOLD = false) :
    exec (.mediaBusSettled v) s = .next (s.vin v) :=
  if_pos (by rw [retph_vin, uvhold_vin]; tauto)

theorem seeksReleased_keeps (s : State) : Keeps [.lpe] regionFields s ((s.seekRelease .a).seekRelease .b) :=
  keeps_trans (seekRelease_keeps s .a) (seekRelease_keeps _ .b)

theorem wgReleaseBoth_keeps (s : State) (bits : Nat) :
    Keeps [.rbk, .wrp] (recFields ++ [Fld.WRP_EV_WGREL .a, Fld.WRP_EV_WGREL .b]) s (s.wgReleaseBoth bits) :=
  keeps_trans (keeps_mono (wgRelease_keeps s .a bits) (by decide)) (keeps_mono (wgRelease_keeps _ .b bits) (by decide))

theorem holding_wgReleaseBoth (s : State) (bits : Nat) (x : Act) :
    ((s.wgReleaseBoth bits).wrp x).holding = (s.wrp x).holding &&& (255 - bits % 256) := by
  rw [State.wgReleaseBoth, wrp_wgRelease]
  cases x <;> simp [wrp_wgRelease]

theorem busSettled_keeps (s : State) (v : Nat) : Keeps [.lpe, .rbk, .wrp] settledFields s (busSettled s v) :=
  keeps_via (seeksReleased_keeps _) (by decide) (keeps_via (wgReleaseBoth_keeps _ _) (by decide)
    (keeps_mono (busBack_keeps s v) (by decide)))

theorem uvhold_busSettled (s : State) (v : Nat) : (busSettled s v).flag Fld.PWR_STAT_UVHOLD = false := by
  rw [busSettled, keeps_flag (seeksReleased_keeps _) _ (by decide) (by decide),
    keeps_flag (wgReleaseBoth_keeps _ _) _ (by decide) (by decide), busBack, flag_putb _ _ _ rfl rfl]

theorem holding_busSettled (s : State) (v : Nat) (x : Act) : ((busSettled s v).wrp x).holding = (s.wrp x).holding &&& 251 := by
  rw [busSettled, keeps_wrp (seeksReleased_keeps _) (by decide), holding_wgReleaseBoth, keeps_wrp (busBack_keeps s v) (by decide)]
  rfl

/-! ### The trip of an excursion -/

theorem testBit_wgTripBoth {bits i : Nat} (okA : s.actOk .a = true) (okB : s.actOk .b = true) (trigger : bits.testBit i = true) (x : Act) :
    ((s.wgTripBoth bits).wrp x).holding.testBit i = true := by
  have okB' : (s.wgTrip .a bits false).actOk .b = true := (actOk_wgTrip s .a .b bits false).trans okB
  cases x
  · exact testBit_wgTrip_held okB' (testBit_wgTrip okA trigger false) bits false
  · exact testBit_wgTrip okB' trigger false

theorem uvhold_tripped (s : State) (v : Nat) : ((busOut s v).wgTripBoth trgUvw).flag Fld.PWR_STAT_UVHOLD = true := by
  rw [State.flag, get_wgTripBoth _ _ _ (by decide) (by decide)]
  exact flag_putb _ _ _ rfl rfl

theorem vin_tripped (s : State) (v : Nat) : ((busOut s v).wgTripBoth trgUvw).get Fld.PWR_VIN_VIN = min v 0xFFFF := by
  rw [get_wgTripBoth _ _ _ (by decide) (by decide), busOut, get_putb_other _ _ _ _ rfl rfl, get_vin]

theorem busOut_trip_keeps (s : State) (v : Nat) :
    Keeps tripParts (guardFields s .a ++ guardFields s .b ++ [Fld.PWR_STAT_UVHOLD, Fld.PWR_VIN_VIN, Fld.PWR_VIN_VMIN]) s
      ((busOut s v).wgTripBoth trgUvw) := by
  have moved := busOut_keeps s v
  have tripped := wgTripBoth_keeps (busOut s v) trgUvw
  rw [guardFields_of_msq (keeps_msq moved (by decide) .a), guardFields_of_msq (keeps_msq moved (by decide) .b)] at tripped
  exact keeps_trans (keeps_mono moved (within_of_subset (by simp) (List.subset_append_right _ _)))
    (keeps_mono tripped (within_of_subset (List.Subset.refl _) (List.subset_append_left _ _)))
end

end Sys2Proof.Proofs
end

section
/-!
PROOFS. The release of a brown-out reset, the host's links, and the halt of a core (R495, R558, R630 to R636, R658, R696, R697).
-/
namespace Sys2Proof.Proofs

open Sys2Proof.Machine Sys2Proof.Safety Sys2Proof.Laws

section
variable {s : State} {x : Act}

/-! ### The release of a BOR (R784, R529, R669) -/

theorem keeps_pwr {P : List Part} {R : List Field} {t : State} (k : Keeps P R s t) (h : Part.pwr ∉ P) : t.pwr = s.pwr :=
  k.part .pwr (by decide) h

theorem keeps_host {P : List Part} {R : List Field} {t : State} (k : Keeps P R s t) (h : Part.host ∉ P) : t.host = s.host :=
  k.part .host (by decide) h

/-- The power die at the release: the BOR is over and the times of start-up run. -/
def bootClock (s : State) : State :=
  { s with pwr := { s.pwr with bor := false, brakeBor := false }, host := { s.host with startAt := s.now },
           sys := { s.sys with porAt := s.now } }

/-- What start-up finds: straps, flash, pairs and self-test, and the isolation cells on. -/
def bootFound (s : State) (p : Straps) (memOk : Bool) : State :=
  ((((s.sampleStraps p).xspInit p.flash).admitPairs p.pairs.toNat).memSelfTest memOk).putb Fld.PWR_STAT_ISO true

/-- The start decision of start-up. -/
def bootStart (s : State) : State :=
  if s.flag Fld.SPN_CTL_RUN then (if s.spnHold then s.runClear else s.startDecision true) else s.spnCheck

theorem startUp_eq (s : State) (p : Straps) (memOk : Bool) :
    s.startUp p memOk = (bootStart (bootFound (bootClock s) p memOk)).syncMode := rfl

theorem bootClock_keeps (s : State) : Keeps [.host, .pwr, .sys] [] s (bootClock s) := by
  have power : Keeps [.host, .pwr, .sys] [] s { s with pwr := { s.pwr with bor := false, brakeBor := false } } :=
    keeps_set_pwr (by decide) (keeps_refl _ _ _)
  exact keeps_set_sys (by decide) (keeps_set_host (by decide) power)

/-- The fields of what start-up finds, beside the straps'. -/
def foundFields : List Field :=
  recFields ++ [Fld.PWR_STAT_ISO, Fld.MEM_EV_STFAIL, Fld.MEM_STAT_DIS, ⟨Reg.INTC_CORE, 0, 32⟩, Fld.XSP_EV_SLOW, Fld.XSP_STAT_READY,
    Fld.XSP_STAT_OCTAL, Fld.XSP_STAT_SIZE]

def strapFields : List Field := [Fld.SYS_COMPAT_GEN7, Fld.SPN_CTL_RUN]

theorem sampleStraps_keeps (s : State) (p : Straps) : Keeps [.pins] strapFields s (s.sampleStraps p) :=
  keeps_putb (by decide) (keeps_putb (by decide) (keeps_set_pins (by decide) (keeps_refl _ _ _)))

theorem gen7_sampleStraps (s : State) (p : Straps) : (s.sampleStraps p).flag Fld.SYS_COMPAT_GEN7 = p.gen7 := by
  rw [State.sampleStraps, flag_putb_other _ _ _ _ rfl rfl, flag_putb _ _ _ rfl rfl]

theorem xspInit_keeps (s : State) (f : FlashId) : Keeps [.rbk] foundFields s (s.xspInit f) := by
  have shown : Keeps [.rbk] foundFields s (((s.putb Fld.XSP_STAT_READY f.found).putb Fld.XSP_STAT_OCTAL (f.found && f.octal)).put
      Fld.XSP_STAT_SIZE (if f.found then f.size else 0)) :=
    keeps_put (by decide) (keeps_putb (by decide) (keeps_putb (by decide) (keeps_refl _ _ _)))
  exact keeps_ite shown (keeps_raise (by decide) shown)

/-- The pairs of one core admitted. -/
def coreAdmitted (pairs n : Nat) (s : State) : State :=
  let p0 := pairs.testBit (2 * n)
  let p1 := pairs.testBit (2 * n + 1)
  let s1 := (((s.putb (coreF n 0 1) p0).putb (coreF n 1 1) p1).putb (coreF n 4 1) (!p0 && p1)).putb (coreF n 2 1) (!p0 && !p1)
  if !p0 && !p1 then { s1 with pins := { s1.pins with faultL := true } } else s1

theorem coreAdmitted_keeps (pairs n : Nat) (s : State) (core : n = 0 ∨ n = 1) :
    Keeps [.pins, .rbk] foundFields s (coreAdmitted pairs n s) := by
  have within' (lo : Nat) (h : lo < 8) : within [.pins, .rbk] foundFields [] [coreF n lo 1] = true := by
    rcases core with rfl | rfl <;> interval_cases lo <;> decide
  have shown (p0 p1 p2 p3 : Bool) : Keeps [.pins, .rbk] foundFields s
      ((((s.putb (coreF n 0 1) p0).putb (coreF n 1 1) p1).putb (coreF n 4 1) p2).putb (coreF n 2 1) p3) :=
    keeps_putb (within' 2 (by decide)) (keeps_putb (within' 4 (by decide)) (keeps_putb (within' 1 (by decide))
      (keeps_putb (within' 0 (by decide)) (keeps_refl _ _ _))))
  exact keeps_ite (keeps_set_pins (by decide) (shown _ _ _ _)) (shown _ _ _ _)

theorem admitPairs_keeps (s : State) (pairs : Nat) : Keeps [.pins, .rbk] foundFields s (s.admitPairs pairs) :=
  keeps_trans (coreAdmitted_keeps pairs 0 s (.inl rfl)) (coreAdmitted_keeps pairs 1 _ (.inr rfl))

theorem memSelfTest_keeps (s : State) (ok : Bool) : Keeps [.rbk] foundFields s (s.memSelfTest ok) :=
  keeps_ite (keeps_refl _ _ _) (keeps_putb (by decide) (keeps_raise (by decide) (keeps_refl _ _ _)))

theorem bootFound_rest_keeps (s : State) (p : Straps) (memOk : Bool) :
    Keeps [.pins, .rbk] foundFields (s.sampleStraps p) (bootFound s p memOk) :=
  keeps_putb (by decide) (keeps_via (memSelfTest_keeps _ memOk) (by decide) (keeps_via (admitPairs_keeps _ p.pairs.toNat) (by decide)
    (keeps_mono (xspInit_keeps _ p.flash) (by decide))))

theorem bootFound_keeps (s : State) (p : Straps) (memOk : Bool) :
    Keeps [.pins, .rbk] (strapFields ++ foundFields) s (bootFound s p memOk) :=
  keeps_via (bootFound_rest_keeps s p memOk) (by decide) (keeps_mono (sampleStraps_keeps s p) (by decide))

theorem bootStart_keeps (s : State) : Keeps modeParts (spnFields ++ startNowFields) s (bootStart s) :=
  keeps_ite (keeps_ite (keeps_mono (runClear_keeps s) (by decide)) (keeps_mono (startDecision_keeps s true) (by decide)))
    (keeps_mono (spnCheck_keeps s) (by decide))

/-- The start decision of start-up and the mode that follows it. -/
theorem bootStarted_keeps (s : State) : Keeps modeParts (modeFields ++ startNowFields) s (bootStart s).syncMode :=
  keeps_via (syncMode_keeps _) (by decide) (keeps_mono (bootStart_keeps s) (by decide))

def bootFields : List Field := modeFields ++ startNowFields ++ strapFields ++ foundFields

theorem startUp_keeps (s : State) (p : Straps) (memOk : Bool) :
    Keeps [.host, .pins, .pwr, .rbk, .spn, .sys, .vale, .wrp] bootFields s (s.startUp p memOk) := by
  rw [startUp_eq]
  exact keeps_via (bootStarted_keeps _) (by decide) (keeps_via (bootFound_keeps _ p memOk) (by decide)
    (keeps_mono (bootClock_keeps s) (by decide)))

theorem startUp_found (s : State) (p : Straps) (memOk : Bool) :
    (s.startUp p memOk).flag Fld.PWR_STAT_ISO = true ∧ (s.startUp p memOk).flag Fld.SYS_COMPAT_GEN7 = p.gen7 := by
  rw [startUp_eq, keeps_flag (bootStarted_keeps _) _ (by decide) (by decide), keeps_flag (bootStarted_keeps _) _ (by decide) (by decide)]
  refine ⟨flag_putb _ _ _ rfl rfl, ?_⟩
  rw [keeps_flag (bootFound_rest_keeps _ p memOk) _ (by decide) (by decide), gen7_sampleStraps]

theorem startUp_clock (s : State) (p : Straps) (memOk : Bool) :
    (s.startUp p memOk).pwr.bor = false ∧ (s.startUp p memOk).host.startAt = s.now := by
  rw [startUp_eq, keeps_pwr (bootStarted_keeps _) (by decide), keeps_pwr (bootFound_keeps _ p memOk) (by decide),
    keeps_host (bootStarted_keeps _) (by decide), keeps_host (bootFound_keeps _ p memOk) (by decide)]
  exact ⟨rfl, rfl⟩

theorem rails_startUp (s : State) (p : Straps) (memOk : Bool) : (s.startUp p memOk).get Fld.PWR_RAIL_OK = s.get Fld.PWR_RAIL_OK :=
  keeps_get (startUp_keeps s p memOk) _ (by decide) (by decide)

/-! ### Links to the host (R630, R634, R658) -/

def linkFields : List Field :=
  recFields ++ [Fld.HIF_EV_LINK, Fld.HIF_STAT_LANEUP, Fld.SAS_EV_LINKA, Fld.SAS_EV_LINKB, Fld.SAS_STAT_UPA, Fld.SAS_STAT_UPB,
    Fld.SAS_STAT_RATEA, Fld.SAS_STAT_RATEB, Fld.SAS_CNT_RSTA, Fld.SAS_CNT_RSTB, Fld.PCIE_EV_LINK, Fld.PCIE_STAT_WIDTH, Fld.PCIE_STAT_SPEED]

/-- The PCIe link's rate, width and lanes in the registers. -/
def pcieShown (s : State) (speed width lanes : Nat) : State :=
  ((s.put Fld.PCIE_STAT_SPEED speed).put Fld.PCIE_STAT_WIDTH width).put Fld.HIF_STAT_LANEUP lanes

/-- The PCIe link after a change. -/
def pcieChanged (s : State) (speed width lanes : Nat) : State :=
  ((pcieShown s speed width lanes).raise Fld.HIF_EV_LINK).raise Fld.PCIE_EV_LINK

theorem pcieRaised_keeps (s : State) : Keeps [.rbk] (recFields ++ [Fld.HIF_EV_LINK, Fld.PCIE_EV_LINK]) s
    ((s.raise Fld.HIF_EV_LINK).raise Fld.PCIE_EV_LINK) :=
  keeps_raise (by decide) (keeps_raise (by decide) (keeps_refl _ _ _))

theorem pcieChanged_keeps (s : State) (speed width lanes : Nat) : Keeps [.host, .rbk] linkFields s (pcieChanged s speed width lanes) :=
  keeps_via (pcieRaised_keeps _) (by decide) (keeps_put (by decide) (keeps_put (by decide) (keeps_put (by decide) (keeps_refl _ _ _))))

theorem pcieChanged_shown {speed width lanes : Nat} (rate : speed < 8) (wide : width < 4) (up : lanes < 16) :
    (pcieChanged s speed width lanes).get Fld.PCIE_STAT_SPEED = speed ∧
    (pcieChanged s speed width lanes).get Fld.PCIE_STAT_WIDTH = width ∧
    (pcieChanged s speed width lanes).get Fld.HIF_STAT_LANEUP = lanes := by
  have shown (f : Field) (apart : (recFields ++ [Fld.HIF_EV_LINK, Fld.PCIE_EV_LINK]).all (fun g => Apart g f) = true) :
      (pcieChanged s speed width lanes).get f = (pcieShown s speed width lanes).get f := keeps_get (pcieRaised_keeps _) f (by decide) apart
  refine ⟨(shown _ (by decide)).trans ?_, (shown _ (by decide)).trans ?_, (shown _ (by decide)).trans ?_⟩
  · rw [pcieShown, get_put_other _ _ _ _ rfl rfl, get_put_other _ _ _ _ rfl rfl, get_put _ _ _ rfl]
    exact Nat.mod_eq_of_lt rate
  · rw [pcieShown, get_put_other _ _ _ _ rfl rfl, get_put _ _ _ rfl]
    exact Nat.mod_eq_of_lt wide
  · rw [pcieShown, get_put _ _ _ rfl]
    exact Nat.mod_eq_of_lt up

theorem pcieChanged_events (speed width lanes : Nat) :
    (pcieChanged s speed width lanes).flag Fld.HIF_EV_LINK = true ∧ (pcieChanged s speed width lanes).flag Fld.PCIE_EV_LINK = true := by
  refine ⟨?_, flag_raise _ _ rfl rfl (by decide)⟩
  rw [pcieChanged, keeps_flag (raise_keeps _ _) _ (by decide) (by decide), flag_raise _ _ rfl rfl (by decide)]

/-- The rate at which a PCIe link comes up (R658). -/
def pcieRate (s : State) (rate : Nat) : Nat := min rate (clampN 1 5 (wfield s.host.pcieCfg 8 3))

theorem clampN_bounds {lo hi : Nat} (range : lo ≤ hi) (v : Nat) : lo ≤ clampN lo hi v ∧ clampN lo hi v ≤ hi := by
  unfold clampN
  split_ifs <;> omega

theorem pcieRate_bounds {rate : Nat} (up : 1 ≤ rate) : 1 ≤ pcieRate s rate ∧ pcieRate s rate ≤ 5 := by
  have bounds := clampN_bounds (lo := 1) (hi := 5) (by decide) (wfield s.host.pcieCfg 8 3)
  unfold pcieRate
  omega

theorem exec_pcieLink_up {rate width : Nat} {reset : Bool} (pcie : s.pcieMode = true) (up : 1 ≤ rate) (wide : width = 1 ∨ width = 2) :
    exec (.hostLinkChange 2 rate width reset) s = .next (pcieChanged s (pcieRate s rate) width (if width = 1 then 4 else 12)) := by
  have running : pcieRate s rate ≠ 0 := by have := (pcieRate_bounds (s := s) up).1; omega
  have clamped : clampN 1 2 width = width := by rcases wide with rfl | rfl <;> rfl
  have nonzero : width ≠ 0 := by omega
  show execHostLinkChange 2 rate width reset s = _
  have named : min rate (clampN 1 5 (wfield s.host.pcieCfg 8 3)) = pcieRate s rate := rfl
  simp only [execHostLinkChange, pcie, named]
  simp [running, clamped, nonzero, pcieChanged, pcieShown]

theorem exec_pcieLink_down {width : Nat} {reset : Bool} (pcie : s.pcieMode = true) :
    exec (.hostLinkChange 2 0 width reset) s = .next (pcieChanged s 0 0 0) := by
  show execHostLinkChange 2 0 width reset s = _
  simp [execHostLinkChange, pcie, pcieChanged, pcieShown]

/-- The registers of a SAS port. -/
def portRate (b : Bool) : Field := if b then Fld.SAS_STAT_RATEB else Fld.SAS_STAT_RATEA
def portUp (b : Bool) : Field := if b then Fld.SAS_STAT_UPB else Fld.SAS_STAT_UPA
def portEvent (b : Bool) : Field := if b then Fld.SAS_EV_LINKB else Fld.SAS_EV_LINKA
def portEnable (b : Bool) : Field := if b then Fld.SAS_CFG_ENB else Fld.SAS_CFG_ENA
def portResets (b : Bool) : Field := if b then Fld.SAS_CNT_RSTB else Fld.SAS_CNT_RSTA
def portLane (b : Bool) : Nat := if b then 2 else 1

/-- A SAS port's rate, state and lane in the registers. -/
def portShown (s : State) (b : Bool) (rate : Nat) : State :=
  ((s.put (portRate b) rate).putb (portUp b) (rate != 0)).put Fld.HIF_STAT_LANEUP
    ((s.get Fld.HIF_STAT_LANEUP &&& (15 - portLane b)) + (if rate = 0 then 0 else portLane b))

/-- A link reset of a SAS port, where the change is one. -/
def portReset (s : State) (b reset : Bool) : State := if reset then s.sasLinkReset b else s

/-- A SAS port after a change. -/
def portChanged (s : State) (b : Bool) (rate : Nat) (reset : Bool) : State :=
  ((portReset (portShown s b rate) b reset).raise Fld.HIF_EV_LINK).raise (portEvent b)

theorem exec_sasLink (sas : s.pcieMode = false) (b : Bool) (rate width : Nat) (reset : Bool) :
    exec (.hostLinkChange (b2n b) rate width reset) s = .next (portChanged s b
      (if s.flag (portEnable b) then min (rate % 4) (s.get Fld.SAS_CFG_MAXRATE) else 0) reset) := by
  cases b
  · exact if_neg (by simp [sas])
  · exact if_neg (by simp [sas])

/-- A link reset takes the port's address and counts (R634). -/
theorem sasLinkReset_counts (s : State) (b : Bool) : ∃ t, Keeps [.host] [] s t ∧ s.sasLinkReset b = t.bump (portResets b) 1 := by
  cases b
  · exact ⟨_, keeps_set_host (by decide) (keeps_refl _ _ _), rfl⟩
  · exact ⟨_, keeps_set_host (by decide) (keeps_refl _ _ _), rfl⟩

theorem sasLinkReset_keeps (s : State) (b : Bool) : Keeps [.host] [portResets b] s (s.sasLinkReset b) := by
  obtain ⟨t, taken, counted⟩ := sasLinkReset_counts s b
  rw [counted]
  exact keeps_bump (by cases b <;> decide) (keeps_mono taken (within_nil rfl))

theorem resets_sasLinkReset (s : State) (b : Bool) : (s.sasLinkReset b).get (portResets b) = satAdd 8 (s.get (portResets b)) 1 := by
  obtain ⟨t, taken, counted⟩ := sasLinkReset_counts s b
  rw [counted, get_bump _ _ _ (by cases b <;> rfl), keeps_get taken _ (by decide) rfl]
  cases b <;> rfl

theorem portReset_keeps (s : State) (b reset : Bool) : Keeps [.host] [portResets b] s (portReset s b reset) :=
  keeps_ite (sasLinkReset_keeps s b) (keeps_refl _ _ _)

theorem portRaised_keeps (s : State) (b : Bool) : Keeps [.rbk] (recFields ++ [Fld.HIF_EV_LINK, portEvent b]) s
    ((s.raise Fld.HIF_EV_LINK).raise (portEvent b)) :=
  keeps_raise (by cases b <;> decide) (keeps_raise (by cases b <;> decide) (keeps_refl _ _ _))

theorem portShown_keeps (s : State) (b : Bool) (rate : Nat) :
    Keeps [] [portRate b, portUp b, Fld.HIF_STAT_LANEUP] s (portShown s b rate) :=
  keeps_put (by cases b <;> decide) (keeps_putb (by cases b <;> decide) (keeps_put (by cases b <;> decide) (keeps_refl _ _ _)))

/-- The fields of a change that come after the port's own registers are written. -/
def portAfter (b : Bool) : List Field := recFields ++ [Fld.HIF_EV_LINK, portEvent b, portResets b]

theorem portChanged_after (s : State) (b : Bool) (rate : Nat) (reset : Bool) :
    Keeps [.host, .rbk] (portAfter b) (portShown s b rate) (portChanged s b rate reset) :=
  keeps_via (portRaised_keeps _ b) (by cases b <;> decide) (keeps_mono (portReset_keeps _ b reset) (by cases b <;> decide))

theorem portChanged_keeps (s : State) (b : Bool) (rate : Nat) (reset : Bool) :
    Keeps [.host, .rbk] linkFields s (portChanged s b rate reset) :=
  keeps_via (portChanged_after s b rate reset) (by cases b <;> decide) (keeps_mono (portShown_keeps s b rate) (by cases b <;> decide))

theorem portChanged_rate (s : State) (b : Bool) {rate : Nat} (fits : rate < 4) (reset : Bool) :
    (portChanged s b rate reset).get (portRate b) = rate := by
  rw [keeps_get (portChanged_after s b rate reset) _ (by decide) (by cases b <;> decide), portShown,
    get_put_other _ _ _ _ (by cases b <;> rfl) (by cases b <;> rfl), get_putb_other _ _ _ _ (by cases b <;> rfl) (by cases b <;> rfl),
    get_put _ _ _ (by cases b <;> rfl)]
  cases b <;> exact Nat.mod_eq_of_lt fits

theorem portChanged_up (s : State) (b : Bool) (rate : Nat) (reset : Bool) :
    (portChanged s b rate reset).flag (portUp b) = (rate != 0) := by
  rw [keeps_flag (portChanged_after s b rate reset) _ (by decide) (by cases b <;> decide), portShown,
    flag_put_other _ _ _ _ (by cases b <;> rfl) (by cases b <;> rfl), flag_putb _ _ _ (by cases b <;> rfl) (by cases b <;> rfl)]

theorem portChanged_down_lane (s : State) (reset : Bool) :
    ((portChanged s true 0 reset).get Fld.HIF_STAT_LANEUP).testBit 1 = false := by
  rw [keeps_get (portChanged_after s true 0 reset) _ (by decide) (by decide), portShown, get_put _ _ _ rfl, Nat.testBit_mod_two_pow]
  simp [portLane, show Nat.testBit 13 1 = false from rfl]

theorem portChanged_events (s : State) (b : Bool) (rate : Nat) (reset : Bool) :
    (portChanged s b rate reset).flag Fld.HIF_EV_LINK = true ∧ (portChanged s b rate reset).flag (portEvent b) = true := by
  refine ⟨?_, flag_raise _ _ (by cases b <;> rfl) (by cases b <;> rfl) (by cases b <;> decide)⟩
  rw [portChanged, keeps_flag (raise_keeps _ _) _ (by decide) (by cases b <;> decide), flag_raise _ _ rfl rfl (by decide)]

theorem resets_portReset (s : State) (b reset : Bool) : (portReset s b reset).get (portResets b) =
    if reset = true then satAdd 8 (s.get (portResets b)) 1 else s.get (portResets b) := by
  cases reset
  · rfl
  · exact resets_sasLinkReset s b

theorem portChanged_resets (s : State) (b : Bool) (rate : Nat) (reset : Bool) : (portChanged s b rate reset).get (portResets b) =
    if reset = true then satAdd 8 (s.get (portResets b)) 1 else s.get (portResets b) := by
  rw [portChanged, keeps_get (portRaised_keeps _ b) _ (by decide) (by cases b <;> decide), resets_portReset,
    keeps_get (portShown_keeps s b rate) _ (by decide) (by cases b <;> decide)]

/-! ### The debug halt (R696, R697) -/

theorem exec_debugHalt_halts (level : s.get Fld.HWD_STAT_DBGLVL = 2) (runs : s.apc.halt0 = false) :
    exec (.debugHalt false true) s = .next { s with apc := { s.apc with
      halt0 := true, wd0 := { s.apc.wd0 with paused := some (s.now - s.apc.wd0.at_) } } } := by
  show execDebugHalt false true s = _
  simp [execDebugHalt, coreN, b2n, State.dbgLevel, level, runs, State.wd, State.setWd]

theorem exec_debugHalt_resumes {k : Nat} (level : s.get Fld.HWD_STAT_DBGLVL = 2) (halted : s.apc.halt1 = true)
    (since : s.apc.wd1.paused = some k) : exec (.debugHalt true false) s = .next { s with apc := { s.apc with
      halt1 := false, wd1 := { s.apc.wd1 with at_ := s.now - k, paused := none } } } := by
  show execDebugHalt true false s = _
  simp [execDebugHalt, coreN, b2n, State.dbgLevel, level, halted, since, State.wd, State.setWd]
end

end Sys2Proof.Proofs
end

section
/-!
PROOFS. The host's data: a write window that fills and a read window that drains (R558, R542).
-/
namespace Sys2Proof.Proofs

open Sys2Proof.Machine Sys2Proof.Safety Sys2Proof.Laws

section
variable {P : List Part} {F : List Field} {s t : State} {n : Nat} {second : Bool} {c : Ctx} {r : Resv}

/-! ### Reservations -/

theorem keeps_resvOf (k : Keeps P F s t) (h : Part.buf ∉ P) (n : Nat) : t.resvOf n = s.resvOf n := by
  have same : t.buf = s.buf := k.part .buf (by decide) h
  rw [State.resvOf, State.resvOf, same]

theorem keeps_ctx (k : Keeps P F s t) (h : Part.ccx ∉ P) (n : Nat) : t.ctx n = s.ctx n := by
  have same : t.ccx = s.ccx := k.part .ccx (by decide) h
  rw [State.ctx, State.ctx, same]

theorem keeps_dram (k : Keeps P F s t) (h : Part.mem ∉ P) : t.mem = s.mem := k.part .mem (by decide) h

/-- A reservation found is the context's. -/
theorem ctx_of_resvOf (h : s.resvOf n = some r) : r.ctx = n := by simpa using List.find?_some h

theorem resvOf_setResv {q : Resv} (h : s.resvOf n = some r) (own : q.ctx = n) : (s.setResv q).resvOf n = some q := by
  have named : ((fun p => p.ctx == n) ∘ fun p : Resv => if p.ctx == q.ctx then q else p) = fun p => p.ctx == n := by
    funext p
    by_cases e : p.ctx = n <;> simp [own, e]
  have found : s.buf.resv.find? (fun p => p.ctx == n) = some r := h
  show (s.buf.resv.map _).find? _ = _
  rw [List.find?_map, named, found]
  simp [ctx_of_resvOf h, own]

theorem resvOf_fillPos (h : s.resvOf n = some r) (p : Nat) :
    ∃ q, (s.fillPos n p).resvOf n = some q ∧ r.filled ⊆ q.filled ∧ p ∈ q.filled := by
  refine ⟨{ r with filled := if r.filled.contains p then r.filled else r.filled ++ [p] }, ?_, ?_, ?_⟩
  · rw [State.fillPos, h]
    exact resvOf_setResv h (ctx_of_resvOf (r := r) h)
  · simp only
    split
    · exact List.Subset.refl _
    · exact List.subset_append_left _ _
  · simp only
    split
    · next there => simpa using there
    · simp

/-! ### A write window fills -/

/-- Positions filled one by one. -/
def filledAll (n : Nat) (ps : List Nat) (s : State) : State := ps.foldl (fun t p => t.fillPos n p) s

theorem filledAll_keeps (n : Nat) (ps : List Nat) (s : State) : Keeps [.buf] [] s (filledAll n ps s) := by
  induction ps generalizing s with
  | nil => exact keeps_refl _ _ _
  | cons p ps ih => exact keeps_trans (fillPos_keeps s n p) (ih _)

theorem resvOf_filledAll (ps : List Nat) (h : s.resvOf n = some r) :
    ∃ q, (filledAll n ps s).resvOf n = some q ∧ r.filled ⊆ q.filled ∧ ps ⊆ q.filled := by
  induction ps generalizing s r with
  | nil => exact ⟨r, h, List.Subset.refl _, List.nil_subset _⟩
  | cons p ps ih =>
    obtain ⟨q, found, grown, here⟩ := resvOf_fillPos h p
    obtain ⟨q', found', grown', rest⟩ := ih found
    exact ⟨q', found', List.Subset.trans grown grown', List.cons_subset.2 ⟨grown' here, rest⟩⟩

theorem putWords_below (l : List (BitVec 64)) {a b : Nat} (low : b < a) (s : State) :
    mfind (State.putWords l a s).mem.dram b = mfind s.mem.dram b := by
  induction l generalizing a s with
  | nil => rfl
  | cons d l ih => exact (ih (by omega) _).trans (dramSet_other s a b _ (by omega))

theorem putWords_first (d : BitVec 64) (l : List (BitVec 64)) (a : Nat) (s : State) :
    mfind (State.putWords (d :: l) a s).mem.dram a = some (.word (encodeWord d)) :=
  (putWords_below l (Nat.lt_succ_self a) _).trans (dramSet_read s a _)

/-- A context that caches nothing keeps its window. -/
theorem cacheWin_of_uncached (found : s.ctx n = some c) (uncached : c.caching = false) (second : Bool) : s.cacheWin n second = s := by
  unfold State.cacheWin
  split
  · next c' r' ctx resv =>
    have same : c' = c := Option.some.inj (ctx.symm.trans found)
    exact if_pos (by simp [same, uncached])
  · rfl

/-- The data of a host's write in the window's segment, its positions filled. -/
def windowWritten (s : State) (n : Nat) (second : Bool) (c : Ctx) (r : Resv) (a : Nat) (data : List (BitVec 64)) : State :=
  filledAll n (winPositions (r.win second) c.len) (State.putWords (data.take (512 * min 256 (c.len - r.win second))) a s)

theorem windowWritten_keeps (s : State) (n : Nat) (second : Bool) (c : Ctx) (r : Resv) (a : Nat) (data : List (BitVec 64)) :
    Keeps [.buf, .mem] [] s (windowWritten s n second c r a data) :=
  keeps_via (filledAll_keeps n _ _) (by decide) (keeps_mono (putWords_keeps _ _ _) (by decide))

theorem fill_eq {a q : Nat} (data : List (BitVec 64)) (found : s.ctx n = some c) (kind : c.kind ≠ 2) (uncached : c.caching = false)
    (word : s.posWord n (r.win second) = some a) (info : s.piWord n (r.win second) = some q) :
    s.fill n second c r data [] = windowWritten s n second c r a data := by
  have ctx := (keeps_ctx (windowWritten_keeps s n second c r a data) (by decide) n).trans found
  have plain : s.fill n second c r data [] = (windowWritten s n second c r a data).cacheWin n second := by
    simp [State.fill, word, info, kind, windowWritten, filledAll, State.putWords]
  rw [plain, cacheWin_of_uncached ctx uncached]

theorem windowWritten_first {a : Nat} (d : BitVec 64) (rest : List (BitVec 64)) (space : r.win second < c.len) :
    mfind (windowWritten s n second c r a (d :: rest)).mem.dram a = some (.word (encodeWord d)) := by
  have some_ : 512 * min 256 (c.len - r.win second) = (512 * min 256 (c.len - r.win second) - 1) + 1 := by omega
  rw [windowWritten, keeps_dram (filledAll_keeps _ _ _) (by decide), some_, List.take_succ_cons, putWords_first]

theorem windowWritten_full {a : Nat} (data : List (BitVec 64)) (resv : s.resvOf n = some r) :
    ((windowWritten s n second c r a data).resvOf n).map (fun e =>
      (winPositions (r.win second) c.len).all (fun p => e.filled.contains p)) = some true := by
  have stored := (keeps_resvOf (putWords_keeps (data.take (512 * min 256 (c.len - r.win second))) a s) (by decide) n).trans resv
  obtain ⟨q, found, -, all⟩ := resvOf_filledAll (winPositions (r.win second) c.len) stored
  rw [windowWritten, found]
  simpa using fun p hp => all hp

/-! ### Both sequencers rest -/

/-- Neither actuator's sequencer has work or a wait. -/
structure Resting (s : State) : Prop where
  a : Quiet s .a
  b : Quiet s .b

theorem Resting.of_keeps (h : Resting s) (k : Keeps P F s t) (msq : Part.msq ∉ P) : Resting t := by
  have same (x : Act) : t.msq x = s.msq x := keeps_msq k msq x
  exact ⟨h.a.of_same (by rw [same]) (by rw [same]), h.b.of_same (by rw [same]) (by rw [same])⟩

theorem Resting.advance (h : Resting s) : (s.advance .a).advance .b = s := by rw [h.a.advance, h.b.advance]

theorem exec_hostData_fills {data pi : List (BitVec 64)} (rest : Resting (s.fill n second c r data pi)) (ctx : s.ctx n = some c)
    (resv : s.resvOf n = some r) (active : c.st = 2) (space : r.win second < c.len) (write : c.write = true)
    (open_ : r.full second c.len = false) :
    exec (.hostDataTransfer n second data pi) s = .next (s.fill n second c r data pi).syncMode := by
  show execHostDataTransfer n second data pi s = _
  simp [execHostDataTransfer, ctx, resv, active, space, write, open_, rest.advance]

/-! ### A read window drains -/

theorem readWords_keeps (k a : Nat) (s : State) : Keeps memParts dramFields s (State.readWords k a s).2 := by
  induction k generalizing a s with
  | zero => exact keeps_refl _ _ _
  | succ k ih => exact keeps_trans (dramRead_keeps s 3 a) (ih _ _)

theorem setResv_keeps (s : State) (r : Resv) : Keeps [.buf] [] s (s.setResv r) := keeps_set_buf (by decide) (keeps_refl _ _ _)

theorem ctxPut_keeps (s : State) (n i : Nat) (w : Word) : Keeps [.mem] [] s (s.ctxPut n i w) :=
  keeps_ite (keeps_set_mem (by decide) (keeps_refl _ _ _)) (keeps_refl _ _ _)

theorem setCtx_keeps (s : State) (n : Nat) (c : Ctx) : Keeps [.ccx, .mem] [] s (s.setCtx n c) :=
  keeps_via (ctxPut_keeps _ _ _ _) (by decide) (keeps_via (ctxPut_keeps _ _ _ _) (by decide) (keeps_set_ccx (by decide) (keeps_refl _ _ _)))

theorem ctx_setCtx (s : State) (n : Nat) (c : Ctx) : (s.setCtx n c).ctx n = some c := by
  rw [State.setCtx, keeps_ctx (ctxPut_keeps _ _ _ _) (by decide), keeps_ctx (ctxPut_keeps _ _ _ _) (by decide)]
  exact mfind_mput _ _ _

/-- A drained window's data read, and the window moved on. -/
def windowMoved (s : State) (second : Bool) (c : Ctx) (r : Resv) (a : Nat) : State :=
  (State.readWords (min 256 (c.len - r.win second) * 512) a s).2.setResv (r.advance second)

/-- The context after a drained window: its transfer is done with the last one. -/
def windowDrained (s : State) (n : Nat) (second : Bool) (c : Ctx) (r : Resv) (a : Nat) : State :=
  if c.len ≤ (r.advance second).win0 ∧ c.len ≤ (r.advance second).win1 then
    (windowMoved s second c r a).setCtx n { c with xferDone := true }
  else windowMoved s second c r a

theorem windowMoved_keeps (s : State) (second : Bool) (c : Ctx) (r : Resv) (a : Nat) :
    Keeps (.buf :: memParts) dramFields s (windowMoved s second c r a) :=
  keeps_via (setResv_keeps _ _) (by decide) (keeps_mono (readWords_keeps _ _ _) (by decide))

theorem windowDrained_after (s : State) (n : Nat) (second : Bool) (c : Ctx) (r : Resv) (a : Nat) :
    Keeps [.ccx, .mem] [] (windowMoved s second c r a) (windowDrained s n second c r a) :=
  keeps_ite (setCtx_keeps _ _ _) (keeps_refl _ _ _)

theorem windowDrained_keeps (s : State) (n : Nat) (second : Bool) (c : Ctx) (r : Resv) (a : Nat) :
    Keeps (.buf :: .ccx :: memParts) dramFields s (windowDrained s n second c r a) :=
  keeps_via (windowDrained_after s n second c r a) (by decide) (keeps_mono (windowMoved_keeps s second c r a) (by decide))

theorem ctx_advance (r : Resv) (second : Bool) : (r.advance second).ctx = r.ctx := by cases second <;> rfl

theorem zeroFrom_advance (r : Resv) (second : Bool) : (r.advance second).zeroFrom = r.zeroFrom := by cases second <;> rfl

theorem bad_advance (sound : r.bad = []) (second : Bool) : (r.advance second).bad = [] := by cases second <;> simp [Resv.advance, sound]

theorem resvOf_windowDrained (resv : s.resvOf n = some r) (second : Bool) (c : Ctx) (a : Nat) :
    (windowDrained s n second c r a).resvOf n = some (r.advance second) := by
  rw [keeps_resvOf (windowDrained_after s n second c r a) (by decide)]
  exact resvOf_setResv ((keeps_resvOf (readWords_keeps _ _ _) (by decide) n).trans resv)
    ((ctx_advance r second).trans (ctx_of_resvOf resv))

theorem xferDone_windowDrained (s : State) (n : Nat) {second : Bool} {c : Ctx} {r : Resv} (a : Nat)
    (last : c.len ≤ (r.advance second).win0 ∧ c.len ≤ (r.advance second).win1) :
    ((windowDrained s n second c r a).ctx n).map (fun e => e.xferDone) = some true := by
  rw [windowDrained, if_pos last, ctx_setCtx]
  rfl

/-- A read with no zeros at its end writes none. -/
theorem zeroWin_of_none (resv : s.resvOf n = some r) (plain : r.zeroFrom = none) (second : Bool) : s.zeroWin n second = s := by
  simp [State.zeroWin, resv, plain]

/-- A window without failed positions is not withheld. -/
theorem withhold_of_sound (resv : s.resvOf n = some r) (sound : r.bad = []) (second : Bool) : s.withhold n second = s := by
  simp [State.withhold, resv, sound]

theorem drain_eq {a : Nat} (resv : s.resvOf n = some r) (kind : c.kind ≠ 2) (word : s.posWord n (r.win second) = some a)
    (clean : (State.readWords (min 256 (c.len - r.win second) * 512) a s).1 = false) (plain : r.zeroFrom = none) (sound : r.bad = []) :
    s.drain n second c r = windowDrained s n second c r a := by
  have moved : s.drain n second c r = ((windowDrained s n second c r a).zeroWin n second).withhold n second := by
    simp [State.drain, word, kind, clean, windowDrained, windowMoved]
  have resv' := resvOf_windowDrained resv second c a
  rw [moved, zeroWin_of_none resv' ((zeroFrom_advance r second).trans plain), withhold_of_sound resv' (bad_advance sound second)]

theorem win_lt_of_published {len : Nat} (h : r.published second len = true) : r.win second < len := by
  simp only [Resv.published, Bool.and_eq_true, decide_eq_true_eq] at h
  exact h.1

theorem exec_hostData_drains {data pi : List (BitVec 64)} (rest : Resting (s.drain n second c r)) (ctx : s.ctx n = some c)
    (resv : s.resvOf n = some r) (active : c.st = 2) (read : c.write = false) (ready : r.published second c.len = true)
    (free : r.held second = false) :
    exec (.hostDataTransfer n second data pi) s = .next (s.drain n second c r).syncMode := by
  have space := win_lt_of_published ready
  show execHostDataTransfer n second data pi s = _
  simp [execHostDataTransfer, ctx, resv, active, space, read, ready, free, rest.advance]

theorem exec_hostData_none {data pi : List (BitVec 64)} (h : s.ctx n = none ∨ s.resvOf n = none) :
    exec (.hostDataTransfer n second data pi) s = .next s := by
  show execHostDataTransfer n second data pi s = _
  rcases h with ctx | resv
  · simp [execHostDataTransfer, ctx]
  · unfold execHostDataTransfer
    rw [resv]
    cases s.ctx n <;> rfl
end

end Sys2Proof.Proofs
end

section
/-!
PROOFS. The statement about late events (R329, R432, R434, R495, R558, R630, R636, R658, R696, R697, R800).
-/
namespace Sys2Proof.Proofs

open Sys2Proof.Machine Sys2Proof.Safety Sys2Proof.Laws

section
variable {s : State} {x : Act}

/-- An actuator whose overcurrent pause is over. -/
def pauseOver (s : State) (x : Act) : State := s.setLa x { s.la x with ocPause := false }

theorem pauseOver_keeps (s : State) (x : Act) : Keeps [.lpe] [] s (pauseOver s x) := keeps_setLa (by decide) (keeps_refl _ _ _)

theorem exec_vcmOcPauseEnd (pause : (s.la x).ocPause = true) (late : (s.la x).ocAt.getD 0 + 8000 ≤ s.now) :
    exec (.vcmOcPauseEnd x) s = .next ((pauseOver s x).retract x).syncMode :=
  if_neg (by simp [pause, late])

theorem pauseRetract_keeps (s : State) (x : Act) : Keeps [.lpe, .msq, .rbk, .spn, .sys, .vale, .wrp] (modeFields ++ retractFields) s
    ((pauseOver s x).retract x).syncMode :=
  keeps_via (syncMode_keeps _) (by decide) (keeps_via (retract_keeps _ x) (by decide) (keeps_mono (pauseOver_keeps s x) (by decide)))

theorem boostLost (s : State) :
    ((s.putb Fld.DRV_STAT_BOOSTOK false).raise Fld.DRV_FLT_BOOST).flag Fld.DRV_STAT_BOOSTOK = false ∧
    ((s.putb Fld.DRV_STAT_BOOSTOK false).raise Fld.DRV_FLT_BOOST).flag Fld.DRV_FLT_BOOST = true := by
  refine ⟨?_, flag_raise _ _ rfl rfl (by decide)⟩
  rw [keeps_flag (raise_keeps _ _) _ (by decide) (by decide), flag_putb _ _ _ rfl rfl]

theorem exec_controllerEnable (pcie : s.pcieMode = true) (untimed : s.host.ccEnAt = none) : exec .controllerEnable s =
    .next ({ s with host := { s.host with ccEnAt := some s.now } }.raise Fld.PCIE_EV_CCEN) :=
  if_neg (by simp [pcie, untimed])

theorem uartOn_of (enabled : s.flag Fld.DBG_UARTCFG_EN = true) (level : 1 ≤ s.get Fld.HWD_STAT_DBGLVL) : s.uartOn = true := by
  simp [State.uartOn, State.dbgLevel, enabled, level]

theorem exec_uartByteSent_last {b : BitVec 8} (queue : s.dbg.tx = [b]) (on : s.uartOn = true) :
    exec .uartByteSent s = .next ({ s with dbg := { s.dbg with tx := [] } }.raise Fld.DBG_EV_TXEMPTY) := by
  show execUartByteSent s = _
  simp [execUartByteSent, queue, on]

theorem exec_uartByteSent_more {b c : BitVec 8} {rest : List (BitVec 8)} (queue : s.dbg.tx = b :: c :: rest) (on : s.uartOn = true) :
    exec .uartByteSent s = .next { s with dbg := { s.dbg with tx := c :: rest } } := by
  show execUartByteSent s = _
  simp [execUartByteSent, queue, on]

/-- The mode that follows a transfer of host data is within the frame of both sequencers' advance. -/
theorem hostData_keeps {R : List Field} {t : State} (fields : R ⊆ laneFields)
    (kept : Keeps (.buf :: .ccx :: memParts) R s t) :
    Keeps [.ang, .buf, .ccx, .ch, .cph, .free, .lpe, .mem, .msq, .plk, .rbk, .spn, .sys, .vale, .wrp]
      (advFields s .a ++ advFields s .b ++ modeFields ++ [Fld.MEM_EV_CE, Fld.MEM_EV_UE, Fld.MEM_UEADDR_ADDR, Fld.MEM_UEINFO_INIT,
        Fld.MEM_UEINFO_OVF, Fld.MEM_UEINFO_VALID, Fld.MEM_CETCTL_CET_OVF, Fld.MEM_CNT_UE, Fld.MEM_CNT_CE, Fld.BUF_EV_SEGFAIL]) s
      t.syncMode := by
  have lane : Keeps (.buf :: .ccx :: memParts) (modeFields ++ laneFields) s t :=
    keeps_mono kept (within_of_subset (List.Subset.refl _) (List.Subset.trans fields (List.subset_append_right _ _)))
  have own : within [.buf, .ccx, .free, .mem, .rbk, .spn, .sys, .vale, .wrp] (modeFields ++ [Fld.MEM_EV_CE, Fld.MEM_EV_UE,
      Fld.MEM_UEADDR_ADDR, Fld.MEM_UEINFO_INIT, Fld.MEM_UEINFO_OVF, Fld.MEM_UEINFO_VALID, Fld.MEM_CETCTL_CET_OVF, Fld.MEM_CNT_UE,
      Fld.MEM_CNT_CE, Fld.BUF_EV_SEGFAIL]) (.buf :: .ccx :: memParts) (modeFields ++ laneFields) = true := by decide
  refine keeps_mono (keeps_via (syncMode_keeps t) (by decide) (keeps_mono lane own)) (within_of_subset (by decide) ?_)
  exact List.append_subset.2 ⟨fun f mode => by simp [mode], List.subset_append_right _ _⟩
end

/-- Settles O59: each event's command in the case its rule names, and what its shared operations leave. -/
theorem lateEvents : Obligations.LateEvents := by
  unfold Obligations.LateEvents
  refine ⟨?pauseEnd, ?noPause, ?boost, ?busOut, ?busWithin, ?busBack, ?busStill, ?release, ?noRelease, ?fill, ?drain, ?noContext, ?pcieUp,
    ?pcieDown, ?portA, ?portB, ?pll, ?enable, ?sasEnable, ?preamp, ?lastByte, ?nextByte, ?halt, ?resume, ?noDebug⟩
  case pauseEnd =>
    intro s x pause late ok driven
    have kept := pauseOver_keeps s x
    obtain ⟨still, told, parked⟩ := retract_result ((keeps_actOk kept (by decide) x).trans ok)
      ((keeps_flag kept _ (by decide) rfl).trans driven)
    refine ⟨_, exec_vcmOcPauseEnd pause late, still.trans ?_, told, parked, pauseRetract_keeps s x⟩
    rw [pauseOver, la_setLa]
  case noPause => exact fun s x none_ => if_pos (by simp [none_])
  case boost =>
    intro s
    obtain ⟨lost, fault⟩ := boostLost s
    exact ⟨_, rfl, lost, fault, keeps_raise (by decide) (keeps_putb (by decide) (keeps_refl _ _ _))⟩
  case busOut =>
    intro s v media free low okA okB
    have moved := busOut_keeps s v
    have held := testBit_wgTripBoth (bits := trgUvw) (i := 2) ((keeps_actOk moved (by decide) .a).trans okA)
      ((keeps_actOk moved (by decide) .b).trans okB) rfl
    exact ⟨_, exec_mediaBusExcursion_out media free low, uvhold_tripped s v, held .a, held .b, vin_tripped s v, busOut_trip_keeps s v⟩
  case busWithin => exact fun s v still => exec_mediaBusExcursion_within still
  case busBack =>
    exact fun s v media held low high => ⟨_, exec_mediaBusSettled_back media held low high, uvhold_busSettled s v,
      holding_busSettled s v .a, holding_busSettled s v .b, keeps_mono (busSettled_keeps s v) (by decide)⟩
  case busStill => exact fun s v still => exec_mediaBusSettled_still still
  case release =>
    intro s p memOk bor noBrake
    obtain ⟨iso, gen7⟩ := startUp_found (s.put Fld.PWR_RAIL_OK 0x7F) p memOk
    obtain ⟨over_, clock⟩ := startUp_clock (s.put Fld.PWR_RAIL_OK 0x7F) p memOk
    refine ⟨_, if_neg (by simp [bor, noBrake]), ?_, over_, iso, gen7, clock, ?_⟩
    · rw [rails_startUp, get_put _ _ _ rfl]
      rfl
    · exact keeps_via (startUp_keeps _ p memOk) (by decide) (keeps_put (by decide) (keeps_refl _ _ _))
  case noRelease => exact fun s p memOk h => if_pos (by simpa using h)
  case fill =>
    intro s n second data d rest c r a q ctx resv active space write open_ kind uncached word info given workA waitA workB waitB
    have resting : Resting s := ⟨quiet_of_empty workA waitA, quiet_of_empty workB waitB⟩
    have written := windowWritten_keeps s n second c r a data
    have filled := fill_eq data ctx kind uncached word info
    refine ⟨_, exec_hostData_fills (filled ▸ resting.of_keeps written (by decide)) ctx resv active space write open_, ?_, ?_, ?_⟩
    · rw [filled, keeps_dram (syncMode_keeps _) (by decide), given, windowWritten_first d rest space]
    · rw [filled, keeps_resvOf (syncMode_keeps _) (by decide), windowWritten_full data resv]
    · rw [filled]
      exact hostData_keeps (List.nil_subset _) (keeps_mono written (by decide))
  case drain =>
    intro s n second data pi c r a ctx resv active read ready free kind word clean plain sound workA waitA workB waitB
    have resting : Resting s := ⟨quiet_of_empty workA waitA, quiet_of_empty workB waitB⟩
    have moved := windowDrained_keeps s n second c r a
    have drained := drain_eq resv kind word clean plain sound
    refine ⟨_, exec_hostData_drains (drained ▸ resting.of_keeps moved (by decide)) ctx resv active read ready free,
      ?_, fun last => ?_, ?_⟩
    · rw [drained, keeps_resvOf (syncMode_keeps _) (by decide), resvOf_windowDrained resv]
    · rw [drained, keeps_ctx (syncMode_keeps _) (by decide), xferDone_windowDrained s n a last]
    · rw [drained]
      exact hostData_keeps (by simp [dramFields, laneFields]) moved
  case noContext => exact fun s n second data pi h => exec_hostData_none h
  case pcieUp =>
    intro s rate width reset pcie up wide
    have bounds := pcieRate_bounds (s := s) up
    obtain ⟨speed, lanes, shown⟩ := pcieChanged_shown (s := s) (speed := pcieRate s rate) (width := width)
      (lanes := if width = 1 then 4 else 12) (by omega) (by omega) (by split <;> omega)
    obtain ⟨link, event⟩ := pcieChanged_events (s := s) (pcieRate s rate) width (if width = 1 then 4 else 12)
    exact ⟨_, exec_pcieLink_up pcie up wide, speed, lanes, shown, link, event, pcieChanged_keeps _ _ _ _⟩
  case pcieDown =>
    intro s width reset pcie
    obtain ⟨speed, lanes, shown⟩ := pcieChanged_shown (s := s) (Nat.zero_lt_succ 7) (Nat.zero_lt_succ 3) (Nat.zero_lt_succ 15)
    obtain ⟨link, event⟩ := pcieChanged_events (s := s) 0 0 0
    exact ⟨_, exec_pcieLink_down pcie, speed, lanes, shown, link, event, pcieChanged_keeps _ _ _ _⟩
  case portA =>
    intro s rate width reset sas enabled small
    have at_ : (if s.flag (portEnable false) then min (rate % 4) (s.get Fld.SAS_CFG_MAXRATE) else 0) =
        min rate (s.get Fld.SAS_CFG_MAXRATE) := (if_pos enabled).trans (by rw [Nat.mod_eq_of_lt small])
    obtain ⟨link, event⟩ := portChanged_events s false (min rate (s.get Fld.SAS_CFG_MAXRATE)) reset
    refine ⟨_, (exec_sasLink sas false rate width reset).trans (by rw [at_]), portChanged_rate s false (by omega) reset,
      (portChanged_up s false _ reset).trans ?_, link, event, portChanged_resets s false _ reset, portChanged_keeps _ _ _ _⟩
    exact decide_not.symm
  case portB =>
    intro s rate width reset sas disabled
    have off : (if s.flag (portEnable true) then min (rate % 4) (s.get Fld.SAS_CFG_MAXRATE) else 0) = 0 :=
      if_neg (by simp [portEnable, disabled])
    obtain ⟨link, event⟩ := portChanged_events s true 0 reset
    exact ⟨_, (exec_sasLink sas true rate width reset).trans (by rw [off]), portChanged_rate s true (by decide) reset,
      portChanged_up s true 0 reset, portChanged_down_lane s reset, link, event, portChanged_keeps _ _ _ _⟩
  case pll => exact fun s => ⟨_, rfl, flag_raise _ _ rfl rfl (by decide), keeps_mono (raise_keeps _ _) (by decide)⟩
  case enable =>
    intro s pcie untimed
    refine ⟨_, exec_controllerEnable pcie untimed, flag_raise _ _ rfl rfl (by decide), ?_, ?_⟩
    · rw [keeps_host (raise_keeps _ _) (by decide)]
    · exact keeps_raise (by decide) (keeps_set_host (by decide) (keeps_refl _ _ _))
  case sasEnable => exact fun s sas => if_pos (by simp [sas])
  case preamp => exact fun s x ok => if_neg (by simp [ok])
  case lastByte =>
    intro s b queue enabled level
    refine ⟨_, exec_uartByteSent_last queue (uartOn_of enabled level), ?_, flag_raise _ _ rfl rfl (by decide), ?_⟩
    · exact (raise_keeps _ _).part .dbg (by decide) (by decide)
    · exact keeps_raise (by decide) (keeps_set_dbg (by decide) (keeps_refl _ _ _))
  case nextByte => exact fun s b c rest queue enabled level => exec_uartByteSent_more queue (uartOn_of enabled level)
  case halt =>
    exact fun s level runs => ⟨_, exec_debugHalt_halts level runs, rfl, keeps_set_apc (by decide) (keeps_refl _ _ _)⟩
  case resume =>
    exact fun s k level halted since => ⟨_, exec_debugHalt_resumes level halted since, rfl,
      keeps_set_apc (by decide) (keeps_refl _ _ _)⟩
  case noDebug => exact fun s core halt level => if_pos (.inl level)

end Sys2Proof.Proofs
end

section
/-!
PROOFS. The coefficient port of LPE and the bridges of DRV (R422, R426 to R433).
-/
namespace Sys2Proof.Proofs

open Sys2Proof.Machine Sys2Proof.Safety Sys2Proof.Laws

/-! ### The coefficient port (R429, R433) -/

section
variable {s : State} {g b w : Nat}

/-- A coefficient word stored, before LPE_COEFADDR moves on. -/
def coefStored (s : State) (g b w : Nat) (v : Word) : State :=
  { s with lpe := { s.lpe with coef := mset coefDefault s.lpe.coef (coefIx g b w) v } }

theorem coefNext_keeps (s : State) : Keeps [] [Fld.LPE_COEFADDR_WORD] s s.coefNext := keeps_put (by decide) (keeps_refl _ _ _)

theorem word_coefNext (s : State) : s.coefNext.get Fld.LPE_COEFADDR_WORD = (s.get Fld.LPE_COEFADDR_WORD + 1) % 4096 :=
  get_put _ _ _ rfl

theorem coefWrite_inactive (port : s.coefPort = some (g, b, w)) (inactive : s.flag Fld.LPE_COEFADDR_ACTV = false)
    (named : coefNamed g w = true) (v : Word) : s.coefWrite v = (coefStored s g b w v).coefNext := by
  simp [State.coefWrite, port, inactive, named, coefStored]

theorem coefWrite_active (active : s.flag Fld.LPE_COEFADDR_ACTV = true) (v : Word) : s.coefWrite v = s.coefNext := by
  unfold State.coefWrite
  split
  · simp [active]
  · rfl

theorem coefStored_keeps (s : State) (g b w : Nat) (v : Word) : Keeps [.lpe] [] s (coefStored s g b w v) :=
  keeps_set_lpe (by decide) (keeps_refl _ _ _)

theorem coefRead_named (port : s.coefPort = some (g, b, w)) : s.coefRead = (s.coefAt g b w, s.coefNext) := by
  simp only [State.coefRead, port]
end

/-! ### A fault of an actuator (R758) -/

section
variable (s : State) (x : Act)

/-- The fields of an actuator that enters FAULT. -/
def actFaultFields : List Field := recFields ++ [Fld.SYS_FLT_ACT, Fld.SYS_MODE_DEGLAT]

theorem enterFault_keeps : Keeps [.rbk, .sys] actFaultFields s (s.enterFault x) := by
  have latched : Keeps [.rbk, .sys] actFaultFields s ((s.setFaulted x true).raise Fld.SYS_FLT_ACT) := by
    refine keeps_raise (by decide) ?_
    cases x <;> exact keeps_set_sys (by decide) (keeps_refl _ _ _)
  exact keeps_ite (keeps_refl _ _ _) (keeps_ite latched (keeps_putb (by decide) latched))

theorem faulted_setFaulted (v : Bool) : (s.setFaulted x v).faulted x = v := by cases x <;> rfl

variable {s x}

/-- Whether an actuator is in FAULT is as it was where the frame leaves the drive's own state alone. -/
theorem keeps_faulted {P : List Part} {R : List Field} {t : State} (k : Keeps P R s t) (h : Part.sys ∉ P) (x : Act) :
    t.faulted x = s.faulted x := by
  have same : t.sys = s.sys := keeps_sys k h
  cases x
  · exact congrArg SysSt.faultA same
  · exact congrArg SysSt.faultB same

theorem faulted_syncMode (s : State) (x : Act) : s.syncMode.faulted x = s.faulted x := by
  cases x
  · exact syncMode_faultA s
  · exact syncMode_faultB s

theorem faulted_enterFault (ok : s.actOk x = true) : (s.enterFault x).faulted x = true := by
  have latched : ((s.setFaulted x true).raise Fld.SYS_FLT_ACT).faulted x = true :=
    (keeps_faulted (raise_keeps _ _) (by decide) x).trans (faulted_setFaulted s x true)
  cases already : s.faulted x with
  | true => simp [State.enterFault, already]
  | false =>
    simp only [State.enterFault, already, ok, Bool.not_true, Bool.or_false, Bool.false_eq_true, if_false]
    split
    · exact latched
    · exact (keeps_faulted (State_putb_keeps _ _ _) (by decide) x).trans latched

/-- FAULT leaves the heads as they are. -/
theorem loaded_enterFault (s : State) (x y : Act) : (s.enterFault x).loaded y = s.loaded y := by
  have latched : ((s.setFaulted x true).raise Fld.SYS_FLT_ACT).loaded y = s.loaded y :=
    (keeps_loaded (raise_keeps _ _) (by decide) y).trans (by cases x <;> cases y <;> rfl)
  unfold State.enterFault
  split
  · rfl
  · extract_lets s1
    split
    · exact latched
    · exact (keeps_loaded (State_putb_keeps _ _ _) (by decide) y).trans latched
end

/-! ### A bridge that switches off (R432) -/

section
variable (s : State) (x : Act)

/-- The bridge of an actuator is about to switch off: its gates low, its heads off the media, its microactuators at 0 V. -/
def loopStopped : State :=
  let s1 := ((s.gatesLow x).notLoaded x).uaZero x
  s1.setLa x { s1.la x with loading := false, unloading := false, ocPause := false }

/-- The fields of a bridge that switches off. -/
def offFields : List Field := retractFields ++ [Fld.DRV_STAT_OFFA, Fld.DRV_STAT_OFFB]

theorem loopStopped_keeps : Keeps [.lpe, .msq, .sys, .wrp] retractFields s (loopStopped s x) :=
  keeps_setLa (by decide) (keeps_via (uaZero_keeps _ x) (by decide) (keeps_via (notLoaded_keeps _ x) (by decide)
    (keeps_gatesLow (by decide) (keeps_refl _ _ _))))

theorem bridgeOff_keeps : Keeps [] offFields (loopStopped s x) (s.bridgeDown x) :=
  keeps_putb (by cases x <;> decide) (keeps_putb (by cases x <;> decide) (keeps_refl _ _ _))

theorem bridgeDown_keeps : Keeps [.lpe, .msq, .sys, .wrp] offFields s (s.bridgeDown x) :=
  keeps_via (bridgeOff_keeps s x) (by decide) (keeps_mono (loopStopped_keeps s x) (by decide))

theorem flag_off_bridgeDown : (s.bridgeDown x).flag (drvOff x) = true :=
  flag_putb _ _ _ (by cases x <;> rfl) (by cases x <;> rfl)

theorem loaded_bridgeDown : (s.bridgeDown x).loaded x = false := by
  have ended : Keeps [.lpe] [Fld.DRV_STAT_UAON] ((s.gatesLow x).notLoaded x) (loopStopped s x) :=
    keeps_setLa (by decide) (keeps_mono (uaZero_keeps _ x) (by decide))
  rw [keeps_loaded (bridgeOff_keeps s x) (by decide), keeps_loaded ended (by decide), loaded_notLoaded]

/-- Both microactuators of the actuator are at 0 V. -/
theorem ua_uaZero : ((s.uaZero x).la x).h0.ua = 0 ∧ ((s.uaZero x).la x).h1.ua = 0 := by
  rw [State.uaZero, keeps_la (State_put_keeps _ _ _) (by decide), la_setLa]
  exact ⟨rfl, rfl⟩

theorem ua_bridgeDown : ((s.bridgeDown x).la x).h0.ua = 0 ∧ ((s.bridgeDown x).la x).h1.ua = 0 := by
  rw [keeps_la (bridgeOff_keeps s x) (by decide), loopStopped, la_setLa]
  exact ua_uaZero _ x

/-- A bridge that is off for a fault of its own: the fault raised, and the actuator in FAULT. -/
def bridgeFault (f : Field) : State := (((s.bridgeDown x).raise f).enterFault x).syncMode

variable (f : Field)

/-- The mode follows the fault of a bridge: no part of LPE moves, and no field of DRV. -/
theorem bridgeFault_rest_keeps : Keeps modeParts (modeFields ++ actFaultFields) ((s.bridgeDown x).raise f) (bridgeFault s x f) :=
  keeps_via (syncMode_keeps _) (by decide) (keeps_mono (enterFault_keeps _ x) (by decide))

theorem bridgeFault_keeps : Keeps [.lpe, .msq, .rbk, .spn, .sys, .vale, .wrp] (f :: (modeFields ++ offFields ++ actFaultFields)) s
    (bridgeFault s x f) := by
  refine keeps_via (bridgeFault_rest_keeps s x f) (within_cons (by decide)) (keeps_via (raise_keeps _ f) ?_ ?_)
  · exact within_cons_cons (by decide)
  · exact keeps_mono (bridgeDown_keeps s x) (within_cons (by decide))

variable {s x f}

/-- What a bridge's fault leaves: the bridge off, the heads off the media, the actuator in FAULT, the fault's bit and 0 V. The fault has a
bit of its own, apart from what the mode and the record write. -/
theorem bridgeFault_result (ok : s.actOk x = true) (fits : Fits f = true) (one : f.len = 1)
    (own : (modeFields ++ actFaultFields).all (fun g => Apart g f) = true) (off : Apart f (drvOff x) = true) :
    (bridgeFault s x f).flag (drvOff x) = true ∧ (bridgeFault s x f).loaded x = false ∧ (bridgeFault s x f).faulted x = true ∧
      (bridgeFault s x f).flag f = true ∧ ((bridgeFault s x f).la x).h0.ua = 0 ∧ ((bridgeFault s x f).la x).h1.ua = 0 := by
  have raised := raise_keeps (s.bridgeDown x) f
  have rest := bridgeFault_rest_keeps s x f
  have record : recFields.all (fun g => Apart g f) = true :=
    List.all_eq_true.2 fun g hg => List.all_eq_true.1 own g (by simp [actFaultFields, hg])
  have shown : (f :: recFields).all (fun g => Apart g (drvOff x)) = true := by
    rw [List.all_cons, off]
    cases x <;> decide
  refine ⟨?_, ?_, ?_, ?_, ?_⟩
  · rw [keeps_flag rest _ (by decide) (by cases x <;> decide), keeps_flag raised _ (by decide) shown, flag_off_bridgeDown]
  · rw [bridgeFault, loaded_syncMode, loaded_enterFault, keeps_loaded raised (by decide), loaded_bridgeDown]
  · rw [bridgeFault, faulted_syncMode, faulted_enterFault]
    rw [keeps_actOk raised (by decide), keeps_actOk (bridgeDown_keeps s x) (by decide), ok]
  · rw [keeps_flag rest _ (by decide) own, flag_raise _ _ fits one record]
  · rw [keeps_la rest (by decide), keeps_la raised (by decide)]
    exact ua_bridgeDown s x
end

/-! ### Overcurrents of the VCM (R432) -/

section
variable {s : State} {x : Act}

theorem exec_vcmOvercurrent_first (ok : s.actOk x = true) (on : s.flag (drvOff x) = false)
    (first : ∀ a, (s.la x).ocAt = some a → a + 800000 ≤ s.now) :
    exec (.vcmOvercurrent x) s = .next (s.setLa x { s.la x with ocAt := some s.now, ocPause := true }) := by
  change execVcmOvercurrent x s = _
  cases last : (s.la x).ocAt with
  | none => simp [execVcmOvercurrent, ok, on, last]
  | some a => simp [execVcmOvercurrent, ok, on, last, Nat.not_lt.2 (first a last)]

theorem exec_vcmOvercurrent_again {a : Nat} (ok : s.actOk x = true) (on : s.flag (drvOff x) = false)
    (last : (s.la x).ocAt = some a) (soon : s.now < a + 800000) :
    exec (.vcmOvercurrent x) s = .next (bridgeFault s x Fld.DRV_FLT_OC) := by
  change execVcmOvercurrent x s = _
  simp [execVcmOvercurrent, ok, on, last, soon, bridgeFault]

theorem exec_vcmOpenCoil (ok : s.actOk x = true) (on : s.flag (drvOff x) = false) :
    exec (.vcmOpenCoil x) s = .next (bridgeFault s x (byAct x Fld.DRV_FLT_OPENA Fld.DRV_FLT_OPENB)) :=
  if_neg (by simp [ok, on])
end

/-! ### Overcurrents of the microactuators (R432) -/

section
variable (s : State) (n : Chan)

/-- A microactuator's output at 0 V, and its bit of DRV_STAT.UAON at 0. -/
def uaStopped : State :=
  let s1 := s.setLa (actOf n) ((s.la (actOf n)).setHead (isSecond n) { (s.la (actOf n)).head (isSecond n) with ua := 0 })
  s1.put Fld.DRV_STAT_UAON (s1.get Fld.DRV_STAT_UAON &&& (15 - 2 ^ n.val))

theorem uaStopped_keeps : Keeps [.lpe] [Fld.DRV_STAT_UAON] s (uaStopped s n) :=
  keeps_put (by decide) (keeps_setLa (by decide) (keeps_refl _ _ _))

theorem head_setHead (l : LpeAct) (second : Bool) (h : HeadSt) : (l.setHead second h).head second = h := by
  cases second <;> rfl

theorem ua_uaStopped : (((uaStopped s n).la (actOf n)).head (isSecond n)).ua = 0 := by
  rw [uaStopped, keeps_la (State_put_keeps _ _ _) (by decide), la_setLa, head_setHead]

/-- A bit masked out of DRV_STAT.UAON reads 0. -/
theorem testBit_uaon_masked (t : State) (v : Nat) (n : Chan) :
    ((t.put Fld.DRV_STAT_UAON (v &&& (15 - 2 ^ n.val))).get Fld.DRV_STAT_UAON).testBit n.val = false := by
  have mask : (15 - 2 ^ n.val).testBit n.val = false := by
    induction n using chan_cases <;> rfl
  rw [get_put _ _ _ rfl, Nat.testBit_mod_two_pow, Nat.testBit_and, mask, Bool.and_false, Bool.and_false]

variable {s n}

theorem exec_uactOvercurrent (ok : s.actOk (actOf n) = true) :
    exec (.uactOvercurrent n.val) s = .next ((uaStopped s n).raise Fld.DRV_FLT_UAOC) := by
  change execUactOvercurrent n.val s = _
  simp [execUactOvercurrent, Nat.mod_eq_of_lt n.isLt, ok, uaStopped]
end

/-! ### The end of a retract (R422, R494, R521) -/

section
variable {s : State} {x : Act}

/-- The retract of an actuator has ended. -/
def retractEnded (s : State) (x : Act) : State :=
  (s.putb (drvRet x) false).raise (byAct x Fld.DRV_EV_RETDONEA Fld.DRV_EV_RETDONEB)

/-- An ACTUATOR reset that waits for the retract of its actuator. -/
def resetWaits (s : State) : Act → Bool
  | .a => s.sys.actRstA
  | .b => s.sys.actRstB

/-- An ACTUATOR reset that has waited for the retract is over. -/
def resetOver (s : State) : Act → State
  | .a => { s with sys := { s.sys with actRstA := false } }
  | .b => { s with sys := { s.sys with actRstB := false } }

/-- What waited for the end of a retract goes on. -/
def retractReset (s : State) (x : Act) : State :=
  if resetWaits s x then resetOver (s.raise Fld.SYS_EV_ACT) x else s

theorem retractEnded_keeps (s : State) (x : Act) : Keeps [.rbk] (drvRet x :: byAct x Fld.DRV_EV_RETDONEA Fld.DRV_EV_RETDONEB :: recFields)
    s (retractEnded s x) :=
  keeps_raise (by cases x <;> decide) (keeps_putb (by cases x <;> decide) (keeps_refl _ _ _))

theorem retractReset_keeps (s : State) (x : Act) : Keeps [.rbk, .sys] (Fld.SYS_EV_ACT :: recFields) s (retractReset s x) := by
  have raised : Keeps [.rbk, .sys] (Fld.SYS_EV_ACT :: recFields) s (s.raise Fld.SYS_EV_ACT) := keeps_raise (by decide) (keeps_refl _ _ _)
  refine keeps_ite ?_ (keeps_refl _ _ _)
  cases x <;> exact keeps_set_sys (by decide) raised

/-- Outside RETRACT's wait for the brake and a thermal shutdown, the end of a retract is its event and what waited for it. -/
theorem exec_retractDone (ret : s.flag (drvRet x) = true) (phase : s.retph ≠ 2) (cool : s.thm.shut = false) :
    exec (.retractDone x) s = .next (retractReset (retractEnded s x) x).syncMode := by
  have ended := retractEnded_keeps s x
  have reset := retractReset_keeps (retractEnded s x) x
  have unbraked : (retractReset (retractEnded s x) x).retph ≠ 2 := by
    have same : (retractReset (retractEnded s x) x).retph = s.retph :=
      (keeps_get reset _ (by decide) (by decide)).trans (keeps_get ended _ (by decide) (by cases x <;> decide))
    rwa [same]
  have warm : (retractReset (retractEnded s x) x).thm.shut = false := by
    rw [reset.part .thm (by decide) (by decide), ended.part .thm (by decide) (by decide), cool]
  have quiet : ((retractReset (retractEnded s x) x).brakeCheck false).coolCheck = retractReset (retractEnded s x) x := by
    simp [State.brakeCheck, State.coolCheck, unbraked, warm]
  have done : exec (.retractDone x) s = .next ((retractReset (retractEnded s x) x).brakeCheck false).coolCheck.syncMode := by
    refine (if_neg (by simp [ret])).trans ?_
    cases x <;> rfl
  rw [done, quiet]

theorem retractDone_keeps (s : State) (x : Act) : Keeps [.sys, .rbk, .spn, .vale, .wrp]
    (modeFields ++ [drvRet x, byAct x Fld.DRV_EV_RETDONEA Fld.DRV_EV_RETDONEB, Fld.SYS_EV_ACT]) s
    (retractReset (retractEnded s x) x).syncMode :=
  keeps_via (syncMode_keeps _) (by cases x <;> decide) (keeps_via (retractReset_keeps _ x) (by cases x <;> decide)
    (keeps_mono (retractEnded_keeps s x) (by cases x <;> decide)))

/-- The driver no longer retracts, and the end is an event (R422). -/
theorem retractDone_shown (s : State) (x : Act) :
    (retractReset (retractEnded s x) x).syncMode.flag (drvRet x) = false ∧
      (retractReset (retractEnded s x) x).syncMode.flag (byAct x Fld.DRV_EV_RETDONEA Fld.DRV_EV_RETDONEB) = true := by
  have reset := retractReset_keeps (retractEnded s x) x
  constructor
  · rw [syncMode_flag _ _ (by cases x <;> decide), keeps_flag reset _ (by decide) (by cases x <;> decide), retractEnded,
      keeps_flag (raise_keeps _ _) _ (by decide) (by cases x <;> decide), flag_putb _ _ _ (by cases x <;> rfl) (by cases x <;> rfl)]
  · rw [syncMode_flag _ _ (by cases x <;> decide), keeps_flag reset _ (by decide) (by cases x <;> decide)]
    exact flag_raise _ _ (by cases x <;> rfl) (by cases x <;> rfl) (by cases x <;> decide)
end

/-- Settles O31: each access of the port by what it stores and shows, each fault of a bridge by what it leaves of the actuator. -/
theorem coefficientsAndDrive : Obligations.CoefficientsAndDrive := by
  unfold Obligations.CoefficientsAndDrive
  refine ⟨?write, ?active, ?read, ?retract, ?first, ?second, ?late, ?coil, ?uact⟩
  case write =>
    intro s i v g b w port inactive named
    refine ⟨_, rfl, ?_⟩
    have stored := coefStored_keeps s g b w v
    rw [coefWrite_inactive port inactive named]
    refine ⟨?_, ?_, keeps_trans (keeps_mono stored (by decide)) (keeps_mono (coefNext_keeps _) (by decide))⟩
    · exact mget_mset _ _ _ _
    · rw [word_coefNext, keeps_get stored _ (by decide) (by decide)]
  case active =>
    intro s i v active
    refine ⟨_, rfl, ?_⟩
    rw [coefWrite_active active]
    exact ⟨word_coefNext s, coefNext_keeps s⟩
  case read =>
    intro s i v g b w port
    refine ⟨_, rfl, ?_⟩
    rw [coefRead_named port]
    refine ⟨mget_mset _ _ _ _, ?_, keeps_setRead (by decide) (keeps_mono (coefNext_keeps s) (by decide))⟩
    rw [get_of_regs (setRead_regs _ _ _), word_coefNext]
  case retract =>
    intro s x ret phase cool
    obtain ⟨over_, event⟩ := retractDone_shown s x
    exact ⟨_, exec_retractDone ret phase cool, over_, event, retractDone_keeps s x⟩
  case first => exact fun s x ok on none_ => exec_vcmOvercurrent_first ok on (by simp [none_])
  case second =>
    intro s x a ok on last soon
    obtain ⟨off, parked, faulted, fault, -⟩ := bridgeFault_result (f := Fld.DRV_FLT_OC) ok rfl rfl (by decide) (by cases x <;> rfl)
    exact ⟨_, exec_vcmOvercurrent_again ok on last soon, off, parked, faulted, fault, keeps_mono (bridgeFault_keeps s x _) (by decide)⟩
  case late => exact fun s x a ok on last late => exec_vcmOvercurrent_first ok on (by simp [last, late])
  case coil =>
    intro s x ok on
    obtain ⟨off, parked, faulted, fault, zero⟩ := bridgeFault_result (f := byAct x Fld.DRV_FLT_OPENA Fld.DRV_FLT_OPENB) ok
      (by cases x <;> rfl) (by cases x <;> rfl) (by cases x <;> decide) (by cases x <;> rfl)
    exact ⟨_, exec_vcmOpenCoil ok on, off, parked, faulted, fault, zero.1, zero.2,
      keeps_mono (bridgeFault_keeps s x _) (by cases x <;> decide)⟩
  case uact =>
    intro s k small ok
    have stopped := uaStopped_keeps s ⟨k, small⟩
    refine ⟨_, exec_uactOvercurrent (n := ⟨k, small⟩) ok, flag_raise _ _ rfl rfl (by decide), ?_, ?_,
      keeps_raise (by decide) (keeps_mono stopped (by decide))⟩
    · rw [keeps_get (raise_keeps _ _) _ (by decide) (by decide)]
      exact testBit_uaon_masked _ _ ⟨k, small⟩
    · rw [keeps_la (raise_keeps _ _) (by decide)]
      exact ua_uaStopped s ⟨k, small⟩

end Sys2Proof.Proofs
end

section
/-!
PROOFS. What a squash leaves of LPE and of the notes of the sequencers (R203, R213, R221, R370): the VCM target of its actuator moves, and
no note is new.
-/
namespace Sys2Proof.Proofs

open Sys2Proof.Machine Sys2Proof.Safety Sys2Proof.Laws

/-! ### Notes of the sequencers (R221, R252) -/

/-- The notes that an item of the work list holds for its commit. -/
def workNotes (w : Work) : List Staged :=
  match w.kind with
  | .commit _ _ _ _ st _ => st
  | _ => []

theorem allStaged_eq (m : Msq) : m.allStaged = m.work.flatMap workNotes ++ m.staged := rfl

theorem mem_allStaged {m : Msq} {e : Staged} : e ∈ m.allStaged ↔ (∃ w ∈ m.work, e ∈ workNotes w) ∨ e ∈ m.staged := by
  simp only [allStaged_eq, List.mem_append, List.mem_flatMap]

/-- A squash that undoes the uncommitted work drops notes and adds none (R203). -/
theorem allStaged_undone (m : Msq) (k causes : Nat) : (undone k causes m).allStaged ⊆ m.allStaged := by
  intro e noted
  obtain ⟨w, kept, here⟩ | staged := mem_allStaged.1 noted
  · obtain ⟨v, final, rfl⟩ := List.mem_map.1 kept
    exact mem_allStaged.2 (.inl ⟨v, (List.mem_filter.1 final).1, here⟩)
  · exact absurd staged List.not_mem_nil

theorem notedFields_of_subset {s t : State} {y : Act} (h : (t.msq y).allStaged ⊆ (s.msq y).allStaged) :
    notedFields t y ⊆ notedFields s y :=
  List.filterMap_subset _ h

theorem msq_setMsq_ite (s : State) (x y : Act) (m : Msq) : (s.setMsq x m).msq y = if y = x then m else s.msq y := by
  cases x <;> cases y <;> rfl

/-! ### A step that only steers -/

/-- From s to t of LPE only the VCM target of actuator x moves, and no sequencer has a note that is new. -/
structure Steered (x : Act) (s t : State) : Prop where
  lpe : ∃ p, t.lpe = (s.setLa x { s.la x with target := p }).lpe
  notes : ∀ y, (t.msq y).allStaged ⊆ (s.msq y).allStaged

namespace Steered

variable {x y : Act} {s t u : State}

theorem refl (x : Act) (s : State) : Steered x s s :=
  ⟨⟨(s.la x).target, by cases x <;> rfl⟩, fun _ => List.Subset.refl _⟩

theorem trans (h : Steered x s t) (k : Steered x t u) : Steered x s u := by
  obtain ⟨⟨p, hp⟩, hn⟩ := h
  obtain ⟨⟨q, hq⟩, kn⟩ := k
  refine ⟨⟨q, ?_⟩, fun y => List.Subset.trans (kn y) (hn y)⟩
  rw [hq]
  cases x
  · simp only [State.setLa, State.la, hp]
  · simp only [State.setLa, State.la, hp]

/-- What leaves LPE and both sequencers alone. -/
theorem of_keeps {P : List Part} {R : List Field} (k : Keeps P R s t) (lpe : Part.lpe ∉ P) (msq : Part.msq ∉ P) : Steered x s t where
  lpe := by
    obtain ⟨p, hp⟩ := (refl x s).lpe
    exact ⟨p, (k.part .lpe (by decide) lpe).trans hp⟩
  notes y := by rw [keeps_msq k msq]; exact List.Subset.refl _

theorem ite {c : Prop} [Decidable c] (h : Steered x s t) (k : Steered x s u) : Steered x s (if c then t else u) := by
  split <;> assumption

theorem setMsq (s : State) (x y : Act) (m : Msq) (h : m.allStaged ⊆ (s.msq y).allStaged) : Steered x s (s.setMsq y m) where
  lpe := by
    obtain ⟨p, hp⟩ := (refl x s).lpe
    exact ⟨p, by rw [setMsq_lpe]; exact hp⟩
  notes z := by
    rw [msq_setMsq_ite]
    split
    · rw [‹z = y›]; exact h
    · exact List.Subset.refl _

theorem lpeReturn (s : State) (x : Act) : Steered x s (s.lpeReturn x) := by
  have aimed (p : Int) : Steered x s (s.setLa x { s.la x with target := p }) :=
    ⟨⟨p, rfl⟩, fun y => by cases x <;> cases y <;> exact List.Subset.refl _⟩
  unfold State.lpeReturn
  split
  · exact aimed _
  · exact aimed _

/-! ### A squash (R213, R214) -/

theorem sqEnd (s : State) (y : Act) (k : Nat) : Steered x s (sqEnd s y k) := by
  have marks (t : State) : Keeps [.rbk, .sys] (escFields y) t
      ((((t.put (Fld.MSQ_ESC_SLOT y) k).putb (Fld.MSQ_ESC_PEND y) true).runWatch.setHold y).takeBand y) :=
    keeps_via (takeBand_keeps _ y) (by cases y <;> decide) (keeps_holdEvent (by cases y <;> decide)
      (keeps_putb (by cases y <;> decide) (keeps_runWatch (within_nil rfl) (keeps_putb (by cases y <;> decide)
        (keeps_put (by cases y <;> decide) (keeps_refl _ _ _))))))
  have escalated (t : State) : Steered x t (t.trackEscalate y k) := by
    have slot : Steered x t _ := setMsq t x y { (t.msq y).setSlot k { (t.msq y).slot k with st := .ready } with
      sqWait := false, sqCauses := 0, counted := [], escAt := some t.now } (List.Subset.refl _)
    exact slot.trans (of_keeps (marks _) (by decide) (by decide))
  have cleared : Steered x s _ := setMsq s x y { s.msq y with escDue := false } (List.Subset.refl _)
  exact ite (cleared.trans (escalated _)) (refl x s)

theorem trackCount (s : State) (y : Act) : Steered x s (s.trackCount y) :=
  setMsq s x y _ (List.Subset.refl _)

theorem sqJoin (s : State) (y : Act) (k causes : Nat) (counts : Bool) : Steered x s (s.sqJoin y k causes counts) := by
  unfold State.sqJoin
  extract_lets m s1 s2
  have joined : Steered x s _ := setMsq s x y { m with sqCauses := m.sqCauses ||| causes } (List.Subset.refl _)
  have h1 : Steered x s s1 := joined.trans (of_keeps (sqRecord_own _ y k causes true) (by decide) (by decide))
  have h2 : Steered x s s2 := ite (h1.trans (trackCount s1 y)) h1
  exact h2.trans (sqEnd s2 y k)

theorem squashed (s : State) (x : Act) (k causes : Nat) : Steered x s (squashed s x k causes) := by
  have undone : Steered x s ((s.setMsq x (undone k causes (s.msq x))).lpeReturn x) :=
    (setMsq s x x _ (allStaged_undone _ k causes)).trans (lpeReturn _ x)
  have rest (t : State) : Keeps [.plk, .rbk, .wrp] (squashOwn x) t
      ((((((t.undoHeads x).setHeaters x).restLasers x).sqRecord x k causes false).bump (Fld.MSQ_SQCNT_SQUASH x) 1).count 6 1 |>.raise
        (Fld.MSQ_EV_SQUASH x)) :=
    keeps_raise (by cases x <;> decide) (keeps_count (within_nil rfl) (keeps_bump (by cases x <;> decide)
      (keeps_via (sqRecord_own _ x k causes false) (by cases x <;> decide) (keeps_restLasers (within_nil rfl)
        (keeps_setWrp (within_nil rfl) (keeps_setPlk (within_nil rfl) (keeps_refl _ _ _)))))))
  have key (t : State) (n : Nat) : Steered x t (t.selectKey x n) := setMsq t x x _ (List.Subset.refl _)
  exact undone.trans ((key _ _).trans (of_keeps (rest _) (by decide) (by decide)))

theorem squash (s : State) (x : Act) (causes : Nat) (counts : Bool) : Steered x s (s.squash x causes counts) := by
  cases run : (s.msq x).running with
  | none =>
    simp only [State.squash, run]
    exact refl x s
  | some k =>
    cases go : (s.msq x).sqWait with
    | true =>
      simp only [State.squash, run, go, if_true]
      exact sqJoin s x k causes counts
    | false =>
      rw [squash_eq run go]
      have stop : Steered x s (squashStop s x) := of_keeps (squashStop_keeps s x) (by decide) (by decide)
      have notes := of_keeps (x := x) (unstage_squashStop_keeps s x) (by decide) (by decide)
      have counted (t : State) : Steered x t (if counts then t.trackCount x else t) := ite (trackCount t x) (refl x t)
      exact stop.trans (notes.trans ((squashed _ x k causes).trans ((counted _).trans (sqEnd _ x k))))

theorem leaveRun (s : State) (x : Act) (k : Nat) (st : SlotState) (code : Nat) : Steered x s (s.leaveRun x k st code) := by
  have rest (t : State) : Keeps [.rbk, .sys] (escFields x) t ((t.runWatch.holdEvent x).takeBand x) :=
    keeps_via (takeBand_keeps _ x) (by cases x <;> decide) (keeps_holdEvent (by cases x <;> decide)
      (keeps_runWatch (within_nil rfl) (keeps_refl _ _ _)))
  have left : Steered x s _ := setMsq s x x { (s.msq x).setSlot k { (s.msq x).slot k with st := st, fcode := code } with
    sqWait := false, sqCauses := 0 } (List.Subset.refl _)
  exact left.trans (of_keeps (rest _) (by decide) (by decide))

theorem progError (s : State) (x : Act) (pc code : Nat) : Steered x s (s.progError x pc code) := by
  cases run : (s.msq x).running with
  | none =>
    rw [progError_none s x pc code run]
    exact refl x s
  | some k =>
    rw [progError_some s x pc code run]
    exact (squash s x _ _).trans ((of_keeps (State_put_keeps _ _ _) (by decide) (by decide)).trans
      ((of_keeps (raiseFault_keeps _ x code) (by decide) (by decide)).trans (leaveRun _ x k .fault code)))

/-! ### What is left of the loops -/

theorem la (h : Steered x s t) : ∃ p, t.la x = { s.la x with target := p } := by
  obtain ⟨p, hp⟩ := h.lpe
  exact ⟨p, (by cases x <;> simp only [State.la, hp, State.setLa])⟩

theorem la_other (h : Steered x s t) (other : y ≠ x) : t.la y = s.la y := by
  obtain ⟨p, hp⟩ := h.lpe
  cases x <;> cases y <;> simp_all [State.la, State.setLa]

theorem held (h : Steered x s t) : t.lpe.held = s.lpe.held := by
  obtain ⟨p, hp⟩ := h.lpe
  rw [hp]
  cases x <;> rfl

end Steered

/-! ### A trip that may not count (R207, R329) -/

section
variable {s : State} {x : Act} {f : Field}

theorem wgTripC_cases (ok : s.actOk x = true) (bits : Nat) (neg counts : Bool) : s.wgTripC x bits neg counts = s.guardHold x bits neg ∨
    ∃ causes c, s.wgTripC x bits neg counts = (s.guardHold x bits neg).squash x causes c := by
  unfold State.wgTripC
  extract_lets causes s1
  rw [if_neg (by simp [ok])]
  split
  · exact .inl rfl
  · exact .inr ⟨_, _, rfl⟩

variable (s x)

theorem wgTripC_trip (bits : Nat) (neg counts : Bool) : Trip x s (s.wgTripC x bits neg counts) := by
  cases ok : s.actOk x with
  | false =>
    have none_ : s.wgTripC x bits neg counts = s := if_pos (by simp [ok])
    rw [none_]
    exact (TripFrame.refl x s).trip
  | true =>
    have hold := guardHold_keeps s x bits neg
    have framed : TripFrame x s (s.guardHold x bits neg) := TripFrame.of_keeps hold (by cases x <;> decide) (by decide)
    obtain held | ⟨causes, c, squashed⟩ := wgTripC_cases ok bits neg counts
    · rw [held]
      exact framed.trip
    · rw [squashed]
      exact Trip.after framed (keeps_msq hold (by decide) x) (squash_trip _ x causes c)

theorem Steered.wgTripC (bits : Nat) (neg counts : Bool) : Steered x s (s.wgTripC x bits neg counts) := by
  cases ok : s.actOk x with
  | false =>
    have none_ : s.wgTripC x bits neg counts = s := if_pos (by simp [ok])
    rw [none_]
    exact .refl x s
  | true =>
    have hold : Steered x s (s.guardHold x bits neg) := .of_keeps (guardHold_keeps s x bits neg) (by decide) (by decide)
    obtain held | ⟨causes, c, squashed⟩ := wgTripC_cases ok bits neg counts
    · rw [held]
      exact hold
    · rw [squashed]
      exact hold.trans (.squash _ x causes c)

variable {s x}

/-- A field that neither the hold nor the squash of a trip writes, and no note puts back, is as it was. -/
theorem get_wgTripC (ok : s.actOk x = true) (spared : NotesSpare s x f)
    (apart : (guardOwn x ++ squashOwn x).all (fun g => Apart g f) = true) (bits : Nat) (neg counts : Bool) :
    (s.wgTripC x bits neg counts).get f = s.get f := by
  rw [List.all_append, Bool.and_eq_true] at apart
  have hold := guardHold_keeps s x bits neg
  have held : (s.guardHold x bits neg).get f = s.get f := keeps_get hold f (by decide) apart.1
  obtain same | ⟨causes, c, squashed⟩ := wgTripC_cases ok bits neg counts
  · rw [same, held]
  · rw [squashed, get_squash (spared.of_msq (keeps_msq hold (by decide) x)) apart.2, held]

theorem holding_wgTripC (ok : s.actOk x = true) (bits : Nat) (neg counts : Bool) (y : Act) :
    ((s.wgTripC x bits neg counts).wrp y).holding = if y = x then (s.wrp x).holding ||| bits else (s.wrp y).holding := by
  obtain same | ⟨causes, c, squashed⟩ := wgTripC_cases ok bits neg counts
  · rw [same, holding_guardHold]
  · rw [squashed, (SameGuards.squash _ x causes c).holding, holding_guardHold]
end

end Sys2Proof.Proofs
end

section
/-!
PROOFS. The supervision of the loops: retracts for a cause, the search, following errors and saturation (R407 to R409, R412, R420).
-/
namespace Sys2Proof.Proofs

open Sys2Proof.Machine Sys2Proof.Safety Sys2Proof.Laws

section
variable (s : State) (x : Act)

/-! ### A retract for a cause (R420) -/

/-- The field of LPE_RET that names why an actuator retracted. -/
abbrev retReasonField : Field := byAct x Fld.LPE_RET_REASONA Fld.LPE_RET_REASONB

/-- A retract of an actuator with its cause: the fault f raised, the reason r named. -/
def retractFor (f : Field) (r : Nat) : State := ((s.raise f).retReason x r).retract x

theorem retractFor_keeps (f : Field) (r : Nat) :
    Keeps [.lpe, .msq, .rbk, .sys] (f :: (recFields ++ retReasonField x :: retractFields)) s (retractFor s x f r) := by
  refine keeps_via (retract_keeps _ x) (within_cons (by cases x <;> decide)) (keeps_put (within_cons (by cases x <;> decide)) ?_)
  exact keeps_mono (raise_keeps s f) (within_cons_cons (by cases x <;> decide))

theorem loaded_retract {s : State} {x : Act} (ok : s.actOk x = true) : (s.retract x).loaded x = false := by
  have ended (t : State) : Keeps [.lpe] [] t (t.setLa x { t.la x with loading := false, unloading := false, seekWait := false }) :=
    keeps_setLa (by decide) (keeps_refl _ _ _)
  have idle : (moveEnded s x).loaded x = false := loaded_moveEnded s x
  simp only [State.retract, ok, Bool.not_true, Bool.false_eq_true, if_false]
  split
  · exact idle
  · exact (keeps_loaded (State_putb_keeps _ _ _) (by decide) x).trans idle

/-- What a retract with its cause shows. -/
theorem retractFor_shown {s : State} {x : Act} {f : Field} {r : Nat} (ok : s.actOk x = true) (fits : Fits f = true) (one : f.len = 1)
    (apart : (recFields ++ retReasonField x :: retractFields).all (fun g => Apart g f) = true) (small : r < 16) :
    (retractFor s x f r).flag f = true ∧ (retractFor s x f r).get (retReasonField x) = r ∧ (retractFor s x f r).loaded x = false := by
  have back := retract_keeps ((s.raise f).retReason x r) x
  rw [List.all_append, List.all_cons, Bool.and_eq_true, Bool.and_eq_true] at apart
  obtain ⟨record, reason, moved⟩ := apart
  refine ⟨?_, ?_, ?_⟩
  · rw [retractFor, keeps_flag back f (by decide) moved, State.retReason, flag_put_other _ _ _ _ (by cases x <;> rfl) reason,
      flag_raise _ _ fits one record]
  · rw [retractFor, keeps_get back _ (by decide) (by cases x <;> decide), State.retReason, get_put _ _ _ (by cases x <;> rfl)]
    cases x <;> exact Nat.mod_eq_of_lt small
  · refine loaded_retract ?_
    rw [State.retReason, keeps_actOk (State_put_keeps _ _ _) (by decide), keeps_actOk (raise_keeps _ _) (by decide), ok]

theorem driven_retractFor {s : State} {x : Act} {f : Field} (r : Nat) (ok : s.actOk x = true) (driven : s.flag (drvOff x) = false)
    (apart : (f :: recFields).all (fun g => Apart g (drvOff x)) = true) :
    retractFor s x f r = (moveEnded ((s.raise f).retReason x r) x).putb (drvRet x) true := by
  refine retract_driven ?_ ?_
  · rw [State.retReason, keeps_actOk (State_put_keeps _ _ _) (by decide), keeps_actOk (raise_keeps _ _) (by decide), ok]
  · rw [State.retReason, flag_put_other _ _ _ _ (by cases x <;> rfl) (by cases x <;> rfl), keeps_flag (raise_keeps _ _) _ (by decide)
      apart, driven]

/-- The move under way ends with the retract, and no note of a sequencer changes. -/
theorem moveEnded_lpe : ((moveEnded s x).la x).loading = false ∧ ((moveEnded s x).la x).late = (s.la x).late := by
  rw [moveEnded, la_setLa]
  refine ⟨rfl, ?_⟩
  rw [State.uaZero, keeps_la (State_put_keeps _ _ _) (by decide), la_setLa, keeps_la (notLoaded_keeps s x) (by decide)]

theorem late_retract : ((s.retract x).la x).late = (s.la x).late := by
  have late := (moveEnded_lpe s x).2
  unfold State.retract
  split
  · rfl
  · extract_lets s1 s2
    split
    · exact late
    · rw [keeps_la (State_putb_keeps _ _ _) (by decide)]
      exact late

/-! ### The search (R420, R159) -/

variable {s x}

theorem exec_searchStart (on : (s.loaded x || (s.la x).loading) = true) (idle : s.flag (lpeSearch x) = false)
    (blind : s.eff Fld.LPE_SERVO_COAST_MAX ≤ (s.la x).blind) : exec (.searchStart x) s =
      .next ((s.setLa x { s.la x with searchRev := s.rev, h0 := { (s.la x).h0 with mark := none } }).putb (lpeSearch x) true).syncMode :=
  if_neg (by simp [on, idle, Nat.not_lt.2 blind])

/-- The retract of a search that has lasted too long. -/
abbrev searchFailed (s : State) (x : Act) : State := retractFor s x (byAct x Fld.LPE_FLT_RETA Fld.LPE_FLT_RETB) 1

theorem exec_searchExpiry (on : s.flag (lpeSearch x) = true) (over_ : (s.la x).searchRev + s.eff Fld.LPE_SERVO_SEARCH_REV ≤ s.rev) :
    exec (.searchExpiry x) s = .next (if (s.la x).loading then (searchFailed s x).loadFail x else searchFailed s x).syncMode :=
  if_neg (by simp [on, Nat.not_lt.2 over_])

theorem searchFailed_shown (ok : s.actOk x = true) : (searchFailed s x).flag (byAct x Fld.LPE_FLT_RETA Fld.LPE_FLT_RETB) = true ∧
    (searchFailed s x).get (retReasonField x) = 1 ∧ (searchFailed s x).loaded x = false :=
  retractFor_shown ok (by cases x <;> rfl) (by cases x <;> rfl) (by cases x <;> decide) (by decide)

theorem searchFailed_driven (ok : s.actOk x = true) (driven : s.flag (drvOff x) = false) : (searchFailed s x).flag (drvRet x) = true := by
  rw [searchFailed, driven_retractFor 1 ok driven (by cases x <;> decide), flag_putb _ _ _ (by cases x <;> rfl) (by cases x <;> rfl)]

/-- The fields that the expiry of a search writes. -/
def searchFields (s : State) (x : Act) : List Field :=
  errFields s x ++ modeFields ++ retractFields ++ [Fld.LPE_FLT_RETA, Fld.LPE_FLT_RETB, Fld.LPE_RET_REASONA, Fld.LPE_RET_REASONB]

end
/-! ### What a frame's fields may be -/

/-- A list that is appended to covers no less. -/
theorem within_append {P P1 : List Part} {R R1 : List Field} (N : List Field) (h : within P R P1 R1 = true) :
    within P (N ++ R) P1 R1 = true := by
  induction N with
  | nil => exact h
  | cons f N ih => exact within_cons ih

section
variable {s t : State} {x : Act}

theorem errFields_of_notes (same : (t.msq x).allStaged = (s.msq x).allStaged) : errFields t x = errFields s x := by
  simp only [errFields, squashFields, notedFields, same]

/-! ### A LOADH whose search has expired (R159) -/

/-- A retract leaves the sequencer as it was, but for the mark that its heads are off the media. -/
theorem msq_moveEnded (s : State) (x : Act) : ∃ u, (moveEnded s x).msq x = { s.msq x with unloaded := u } := by
  have marked : ∃ u, (s.notLoaded x).msq x = { s.msq x with unloaded := u } := by
    have same (t : State) : Keeps [.sys] loopFields t ((((t.setLoaded x false).put (lpeRegion x) 0).putb (lpeCoast x) false).putb
        (lpeSearch x) false) :=
      keeps_putb (by cases x <;> decide) (keeps_putb (by cases x <;> decide) (keeps_put (by cases x <;> decide)
        (keeps_setLoaded (by decide) (keeps_refl _ _ _))))
    refine ⟨(s.msq x).unloaded || (s.msq x).sqWait, ?_⟩
    rw [State.notLoaded, msq_setMsq, keeps_msq (same s) (by decide)]
  have ended : Keeps [.lpe] [Fld.DRV_STAT_UAON] (s.notLoaded x) (moveEnded s x) :=
    keeps_setLa (by decide) (uaZero_keeps _ x)
  rw [keeps_msq ended (by decide)]
  exact marked

theorem msq_searchFailed (ok : s.actOk x = true) (driven : s.flag (drvOff x) = false) :
    ∃ u, (searchFailed s x).msq x = { s.msq x with unloaded := u } := by
  obtain ⟨u, same⟩ := msq_moveEnded ((s.raise (byAct x Fld.LPE_FLT_RETA Fld.LPE_FLT_RETB)).retReason x 1) x
  refine ⟨u, ?_⟩
  rw [searchFailed, driven_retractFor 1 ok driven (by cases x <;> decide), keeps_msq (State_putb_keeps _ _ _) (by decide), same,
    State.retReason, keeps_msq (State_put_keeps _ _ _) (by decide), keeps_msq (raise_keeps _ _) (by decide)]

theorem loading_searchFailed (ok : s.actOk x = true) (driven : s.flag (drvOff x) = false) :
    ((searchFailed s x).la x).loading = false := by
  rw [searchFailed, driven_retractFor 1 ok driven (by cases x <;> decide), keeps_la (State_putb_keeps _ _ _) (by decide)]
  exact (moveEnded_lpe _ x).1

/-- The LOADH under way, alone in the work list, takes the program error. -/
theorem loadFail_alone {w : Work} (alone : (s.msq x).work = [w]) (load : w.kind = .loadh) (begun : w.begun = true)
    (open_ : w.done = false) : s.loadFail x = s.progError x w.pc errState := by
  simp [State.loadFail, alone, load, begun, open_]

/-- A field that hardware owns, and that neither a trip nor a program error writes, is as it was after a program error. -/
theorem get_progError {f : Field} (pc code : Nat) (owned : hardwareOwned f = true)
    (apart : (guardOwn x ++ Fld.MSQ_FLTPC_PC x :: faultFields x).all (fun g => Apart g f) = true) :
    (s.progError x pc code).get f = s.get f := by
  rw [List.all_append, List.all_cons, Bool.and_eq_true, Bool.and_eq_true] at apart
  obtain ⟨squash, place, fault⟩ := apart
  cases run : (s.msq x).running with
  | none => rw [progError_none s x pc code run]
  | some k =>
    rw [progError_some s x pc code run, keeps_get (faultRun_keeps _ x code k) f (by decide) fault,
      get_put_other _ _ _ _ (by cases x <;> rfl) place, (squash_trip s x _ _).get f owned squash]

/-- What the expiry of a search shows is the hardware's own, and stands after the program error of its LOADH. -/
theorem searchFailed_progError {f : Field} (pc code : Nat) (shown : f ∈ [byAct x Fld.LPE_FLT_RETA Fld.LPE_FLT_RETB, drvRet x]) :
    ((searchFailed s x).progError x pc code).syncMode.get f = (searchFailed s x).get f := by
  have each : [byAct x Fld.LPE_FLT_RETA Fld.LPE_FLT_RETB, drvRet x].all (fun f => hardwareOwned f &&
      (modeFields.all (fun g => Apart g f) && (guardOwn x ++ Fld.MSQ_FLTPC_PC x :: faultFields x).all (fun g => Apart g f))) = true := by
    cases x <;> decide
  have here := List.all_eq_true.1 each f shown
  simp only [Bool.and_eq_true] at here
  obtain ⟨owned, mode, fault⟩ := here
  rw [syncMode_get _ _ mode, get_progError pc code owned fault]

theorem searchFailed_keeps (s : State) (x : Act) : Keeps doneParts (searchFields s x) s (searchFailed s x) := by
  refine keeps_mono (retractFor_keeps s x _ 1) ?_
  simp only [searchFields, List.append_assoc]
  exact within_append _ (by cases x <;> decide)

theorem sync_searchFields (k : Keeps doneParts (searchFields s x) s t) : Keeps doneParts (searchFields s x) s t.syncMode :=
  trip_mode_keeps k (fun f hf => by simp [searchFields, hf])

theorem progError_searchFields {pc : Nat} (k : Keeps doneParts (searchFields s x) s t)
    (same : (t.msq x).allStaged = (s.msq x).allStaged) : Keeps doneParts (searchFields s x) s (t.progError x pc errState) := by
  have failed := progError_keeps t x pc errState
  rw [errFields_of_notes same] at failed
  exact keeps_via failed (within_of_subset (by decide) (fun f hf => by simp [searchFields, hf])) k
end

section
variable {s : State} {x : Act}

/-! ### Following errors (R407) -/

/-- A following error shown: its bit of LPE_FESTAT, and the fault. -/
def feShown (s : State) (loop : Nat) : State :=
  (s.wr Reg.LPE_FESTAT (s.rd Reg.LPE_FESTAT ||| BitVec.ofNat 32 (2 ^ loop))).raise Fld.LPE_FLT_FE

/-- The fields of a following error. -/
def feFields : List Field := recFields ++ [Fld.LPE_FLT_FE, ⟨Reg.LPE_FESTAT, 0, 32⟩, Fld.DRV_STAT_UAON]

theorem feShown_keeps (s : State) (loop : Nat) : Keeps [.lpe, .msq, .rbk, .wrp] feFields s (feShown s loop) :=
  keeps_raise (by decide) (keeps_wr (by decide) (keeps_refl _ _ _))

theorem rd_feShown (s : State) (loop : Nat) : (feShown s loop).rd Reg.LPE_FESTAT = (s.rd Reg.LPE_FESTAT ||| BitVec.ofNat 32 (2 ^ loop)) := by
  rw [feShown, keeps_rd (raise_keeps _ _) _ (by decide) (by decide), rd_wr]

theorem fault_feShown (s : State) (loop : Nat) : (feShown s loop).flag Fld.LPE_FLT_FE = true := flag_raise _ _ rfl rfl (by decide)

/-- What a following error's action leaves of its bit and its fault, and of the rest. -/
theorem feShown_then {t : State} {loop : Nat} (act : Keeps [.lpe, .msq, .wrp] [Fld.DRV_STAT_UAON] (feShown s loop) t) :
    t.rd Reg.LPE_FESTAT = (s.rd Reg.LPE_FESTAT ||| BitVec.ofNat 32 (2 ^ loop)) ∧ t.flag Fld.LPE_FLT_FE = true ∧
      Keeps [.lpe, .msq, .rbk, .wrp] feFields s t :=
  ⟨(keeps_rd act _ (by decide) (by decide)).trans (rd_feShown s loop),
    (keeps_flag act _ (by decide) (by decide)).trans (fault_feShown s loop), keeps_via act (by decide) (feShown_keeps s loop)⟩

/-- A microactuator at 0 V, its bit of UAON at the v masked. -/
def uaOut (s t : State) (n : Chan) : State :=
  (t.setLa (actOf n) ((s.la (actOf n)).setHead (isSecond n) { (s.la (actOf n)).head (isSecond n) with ua := 0 })).put Fld.DRV_STAT_UAON
    (s.get Fld.DRV_STAT_UAON &&& (15 - 2 ^ n.val))

theorem exec_followingError_uact {n : Chan} (last : s.feTime Fld.LPE_FEUA_FE_TIME ≤ ((s.la (actOf n)).head (isSecond n)).fe) :
    exec (.followingError n.val) s = .next (uaOut s (feShown s n.val) n) := by
  change execFollowingError n.val s = _
  simp [execFollowingError, Nat.mod_eq_of_lt n.isLt, Nat.not_lt.2 last, feShown, uaOut]

theorem exec_followingError_laser {loop : Nat} (low : 4 ≤ loop) (high : loop < 8)
    (last : s.feTime Fld.LPE_FELAS_FE_TIME ≤ mget (fun _ => 0) s.lpe.feLas (loop % 4)) :
    exec (.followingError loop) s = .next (feShown s loop) := by
  change execFollowingError loop s = _
  simp [execFollowingError, Nat.not_lt.2 low, high, Nat.not_lt.2 last, feShown]

/-- A heater at 0 after its following error. -/
def heaterOut (s t : State) (n : Chan) : State :=
  (t.setMsq (actOf n) ((s.msq (actOf n)).setPos (isSecond n) { (s.msq (actOf n)).pos (isSecond n) with heat := 0, hpow := none })).setHeaters
    (actOf n)

theorem heaterOut_keeps (s t : State) (n : Chan) : Keeps [.lpe, .msq, .wrp] [Fld.DRV_STAT_UAON] t (heaterOut s t n) :=
  keeps_setWrp (by decide) (keeps_setMsq (by decide) (keeps_refl _ _ _))

theorem pos_setPos (m : Msq) (second : Bool) (p : ChPos) : (m.setPos second p).pos second = p := by
  cases second <;> rfl

theorem heat_heaterOut (s t : State) (n : Chan) : (((heaterOut s t n).msq (actOf n)).pos (isSecond n)).heat = 0 := by
  have power (u : State) : Keeps [.wrp] [] u (u.setHeaters (actOf n)) := keeps_setWrp (by decide) (keeps_refl _ _ _)
  rw [heaterOut, keeps_msq (power _) (by decide), msq_setMsq, pos_setPos]

theorem exec_followingError_heater {loop : Nat} {n : Chan} (low : 8 ≤ loop) (high : loop < 12) (pos : n.val = loop % 4)
    (last : s.feTime Fld.LPE_FEHTR_FE_TIME ≤ mget (fun _ => 0) s.lpe.feHtr n) :
    exec (.followingError loop) s = .next (heaterOut s (feShown s loop) n) := by
  change execFollowingError loop s = _
  obtain ⟨i, lt⟩ := n
  subst pos
  have a4 : ¬ loop < 4 := by omega
  have a8 : ¬ loop < 8 := by omega
  simp [execFollowingError, a4, a8, high, Nat.not_lt.2 last, feShown, heaterOut]

/-- The bus's seeks forbidden by its following error. -/
def busForbidden (s t : State) : State := { t with lpe := { s.lpe with busForbid := true, busOkSince := none } }

theorem exec_followingError_bus (last : s.feTime Fld.LPE_FEBUS_FE_TIME ≤ s.lpe.feBus) :
    exec (.followingError 12) s = .next (busForbidden s (feShown s 12)) := by
  change execFollowingError 12 s = _
  simp [execFollowingError, Nat.not_lt.2 last, feShown, busForbidden]

/-! ### Saturation (R408, R409) -/

/-- The retract of an actuator whose VCM has saturated, and its fault. -/
def satRetracted (s : State) (x : Act) : State :=
  let s1 := retractFor s x (byAct x Fld.LPE_FLT_VSATA Fld.LPE_FLT_VSATB) 3
  s1.setLa x { s1.la x with satSince := none }

/-- The actuator of one of the first two loops. -/
abbrev loopAct (loop : Nat) : Act := if loop = 0 then .a else .b

theorem byAct_loopAct (loop : Nat) (a b : Field) : byAct (loopAct loop) a b = if loop = 0 then a else b := by
  unfold loopAct
  split <;> rfl

theorem exec_outputSaturation {loop a : Nat} (vcm : loop < 2) (since : (s.la (loopAct loop)).satSince = some a)
    (last : a + s.eff Fld.LPE_SAT_VSAT_TIME * 80000 ≤ s.now) :
    exec (.outputSaturation loop) s = .next ((satRetracted s (loopAct loop)).enterFault (loopAct loop)).syncMode := by
  change execOutputSaturation loop s = _
  simp only [execOutputSaturation, vcm, if_true, since, Nat.not_lt.2 last, if_false]
  rfl

theorem satRetracted_ended (s : State) (x : Act) :
    Keeps [.lpe] [] (retractFor s x (byAct x Fld.LPE_FLT_VSATA Fld.LPE_FLT_VSATB) 3) (satRetracted s x) :=
  keeps_setLa (by decide) (keeps_refl _ _ _)

theorem satFault_keeps (s : State) (x : Act) : Keeps [.rbk, .spn, .sys, .vale, .wrp] (modeFields ++ actFaultFields) s
    (s.enterFault x).syncMode :=
  keeps_via (syncMode_keeps _) (by decide) (keeps_mono (enterFault_keeps _ x) (by decide))

theorem satRetracted_keeps (s : State) (x : Act) : Keeps [.lpe, .msq, .rbk, .spn, .sys, .vale, .wrp] (modeFields ++ retractFields ++
    [Fld.SYS_FLT_ACT, Fld.SYS_MODE_DEGLAT, Fld.LPE_FLT_VSATA, Fld.LPE_FLT_VSATB, Fld.LPE_FLT_SSAT, Fld.LPE_RET_REASONA,
      Fld.LPE_RET_REASONB]) s ((satRetracted s x).enterFault x).syncMode :=
  keeps_via (satFault_keeps _ x) (by decide) (keeps_via (satRetracted_ended s x) (by decide)
    (keeps_mono (retractFor_keeps s x _ 3) (by cases x <;> decide)))

theorem satRetracted_shown (ok : s.actOk x = true) :
    ((satRetracted s x).enterFault x).syncMode.flag (byAct x Fld.LPE_FLT_VSATA Fld.LPE_FLT_VSATB) = true ∧
      ((satRetracted s x).enterFault x).syncMode.get (retReasonField x) = 3 ∧
      ((satRetracted s x).enterFault x).syncMode.loaded x = false ∧ ((satRetracted s x).enterFault x).syncMode.faulted x = true := by
  have rest := satFault_keeps (satRetracted s x) x
  have ended := satRetracted_ended s x
  obtain ⟨fault, reason, parked⟩ := retractFor_shown (f := byAct x Fld.LPE_FLT_VSATA Fld.LPE_FLT_VSATB) (r := 3) ok
    (by cases x <;> rfl) (by cases x <;> rfl) (by cases x <;> decide) (by decide)
  refine ⟨?_, ?_, ?_, ?_⟩
  · rw [keeps_flag rest _ (by decide) (by cases x <;> decide), keeps_flag ended _ (by decide) rfl, fault]
  · rw [keeps_get rest _ (by decide) (by cases x <;> decide), keeps_get ended _ (by decide) rfl, reason]
  · rw [loaded_syncMode, loaded_enterFault, keeps_loaded ended (by decide), parked]
  · rw [faulted_syncMode]
    refine faulted_enterFault ?_
    rw [keeps_actOk ended (by decide), keeps_actOk (retractFor_keeps s x _ 3) (by decide), ok]

theorem exec_outputSaturation_spindle {a : Nat} (since : s.lpe.sSatSince = some a)
    (last : a + s.eff Fld.LPE_SAT_SSAT_TIME * 80000000 ≤ s.now) :
    exec (.outputSaturation 2) s = .next { s.raise Fld.LPE_FLT_SSAT with lpe := { s.lpe with sSatSince := none } } := by
  change execOutputSaturation 2 s = _
  simp [execOutputSaturation, since, Nat.not_lt.2 last]
end

end Sys2Proof.Proofs
end

section
/-!
PROOFS. Overruns of the loops, the SAFE law, and the two copies of the loop engine (R411 to R413, R423 to R425, R429).
-/
namespace Sys2Proof.Proofs

open Sys2Proof.Machine Sys2Proof.Safety Sys2Proof.Laws

section
variable (s : State) (x : Act)

/-! ### The SAFE law (R411, R412) -/

/-- A change of row in which only the SAFE bit moves writes that bit and rescales the integral. -/
def safeRow (v : Bool) : State := s.rowChange x (fun u => u.putb (lpeSafe x) v)

theorem safeRow_eq (v : Bool) : ∃ i, safeRow s x v = s.putb (lpeSafe x) v ∨
    safeRow s x v = (s.putb (lpeSafe x) v).setLa x { (s.putb (lpeSafe x) v).la x with integ := i } := by
  unfold safeRow State.rowChange
  extract_lets old s1 new
  refine ⟨rescale (s1.la x).integ old new, ?_⟩
  split
  · exact .inl rfl
  · exact .inr rfl

theorem safeRow_keeps (v : Bool) : Keeps [.lpe] [lpeSafe x] s (safeRow s x v) := by
  have told : Keeps [.lpe] [lpeSafe x] s (s.putb (lpeSafe x) v) := keeps_putb (by cases x <;> decide) (keeps_refl _ _ _)
  obtain ⟨i, same | same⟩ := safeRow_eq s x v
  · rw [same]
    exact told
  · rw [same]
    exact keeps_setLa (by cases x <;> decide) told

theorem flag_safeRow (v : Bool) : (safeRow s x v).flag (lpeSafe x) = v := by
  have told : (s.putb (lpeSafe x) v).flag (lpeSafe x) = v := flag_putb _ _ _ (by cases x <;> rfl) (by cases x <;> rfl)
  obtain ⟨i, same | same⟩ := safeRow_eq s x v
  · rw [same, told]
  · rw [same, State.flag, get_of_regs (setLa_regs _ _ _)]
    exact told

theorem late_safeRow (v : Bool) : ((safeRow s x v).la x).late = (s.la x).late := by
  have told : ((s.putb (lpeSafe x) v).la x).late = (s.la x).late := by
    rw [keeps_la (State_putb_keeps _ _ _) (by decide)]
  obtain ⟨i, same | same⟩ := safeRow_eq s x v
  · rw [same, told]
  · rw [same, la_setLa]
    exact told

/-- The event of an actuator that takes the SAFE law. -/
abbrev safeEvent : Field := byAct x Fld.LPE_EV_SAFEA Fld.LPE_EV_SAFEB

theorem safeLaw_keeps : Keeps [.lpe, .rbk] (lpeSafe x :: safeEvent x :: recFields) s (s.safeLaw x) :=
  keeps_ite (keeps_refl _ _ _) (keeps_raise (by cases x <;> decide) (keeps_mono (safeRow_keeps s x true) (by cases x <;> decide)))

theorem late_safeLaw : ((s.safeLaw x).la x).late = (s.la x).late := by
  unfold State.safeLaw
  split
  · rfl
  · rw [keeps_la (raise_keeps _ _) (by decide)]
    exact late_safeRow s x true

/-- An actuator that does not run the SAFE law takes it, with its event. -/
theorem safeLaw_taken {s : State} {x : Act} (plain : s.flag (lpeSafe x) = false) :
    (s.safeLaw x).flag (lpeSafe x) = true ∧ (s.safeLaw x).flag (safeEvent x) = true := by
  have taken : s.safeLaw x = (safeRow s x true).raise (safeEvent x) := if_neg (by simp [plain])
  rw [taken]
  refine ⟨?_, flag_raise _ _ (by cases x <;> rfl) (by cases x <;> rfl) (by cases x <;> decide)⟩
  rw [keeps_flag (raise_keeps _ _) _ (by decide) (by cases x <;> decide), flag_safeRow]

theorem exec_safeLawExit {s : State} {x : Act} (on : s.flag (lpeSafe x) = true) (good : 64 ≤ (s.la x).safeOk) :
    exec (.safeLawExit x) s = .next ((safeRow s x false).setLa x { (safeRow s x false).la x with safeOk := 0 }) :=
  if_pos (by simp [on, good])

/-! ### An overrun (R410 to R412) -/

/-- The overruns of this revolution, with the one that is taken. -/
def overrunsNow : Nat := if (s.la x).ovrRevNo = s.rev then (s.la x).ovrRev + 1 else 1

/-- The counter of an actuator's overruns. -/
abbrev overrunCount : Field := byAct x Fld.LPE_OVR_OVR_CNTA Fld.LPE_OVR_OVR_CNTB

/-- The fault of an actuator with eight overruns in a revolution. -/
abbrev overrunFlt : Field := byAct x Fld.LPE_FLT_OVRA Fld.LPE_FLT_OVRB

/-- An overrun counted. -/
def overrunTaken : State :=
  (s.setLa x { s.la x with ovr := (s.la x).ovr + 1, late := true, ovrRev := overrunsNow s x, ovrRevNo := s.rev, safeOk := 0 }).bump
    (overrunCount x) 1

/-- The second overrun in a row selects the SAFE law. -/
def overrunLaw (t : State) : State := if (s.la x).ovr = 1 then t.safeLaw x else t

/-- The eighth overrun of a revolution is a fault. -/
def overrunEnd (t : State) : State := if overrunsNow s x = 8 then t.overrunFault x else t

/-- The state after an overrun's trip. -/
def overrunTripped : State := (overrunTaken s x).wgTrip x trgLoop false

/-- The state after an overrun. -/
def overrunAll : State := (overrunEnd s x (overrunLaw s x (overrunTripped s x))).syncMode

theorem overrunFault_eq : s.overrunFault x = (retractFor s x (overrunFlt x) 2).enterFault x := rfl

theorem overrunTaken_keeps : Keeps [.lpe] [overrunCount x] s (overrunTaken s x) :=
  keeps_put (by cases x <;> decide) (keeps_setLa (within_nil rfl) (keeps_refl _ _ _))

theorem overrunFault_keeps : Keeps [.lpe, .msq, .rbk, .sys]
    (overrunFlt x :: (actFaultFields ++ retReasonField x :: retractFields)) s (s.overrunFault x) := by
  rw [overrunFault_eq]
  exact keeps_via (enterFault_keeps _ x) (within_cons (by cases x <;> decide))
    (keeps_mono (retractFor_keeps s x _ 2) (within_cons_cons (by cases x <;> decide)))

/-- What the SAFE law and the fault of an overrun write. -/
def overrunLate : List Field :=
  lpeSafe x :: safeEvent x :: overrunFlt x :: (actFaultFields ++ retReasonField x :: retractFields)

theorem overrunLaw_keeps (t : State) : Keeps [.lpe, .rbk] (lpeSafe x :: safeEvent x :: recFields) t (overrunLaw s x t) :=
  keeps_ite (safeLaw_keeps t x) (keeps_refl _ _ _)

theorem overrunEnd_keeps (t : State) : Keeps [.lpe, .msq, .rbk, .sys]
    (overrunFlt x :: (actFaultFields ++ retReasonField x :: retractFields)) t (overrunEnd s x t) :=
  keeps_ite (overrunFault_keeps t x) (keeps_refl _ _ _)

theorem overrunRest_keeps (t : State) : Keeps [.lpe, .msq, .rbk, .sys] (overrunLate x) t (overrunEnd s x (overrunLaw s x t)) :=
  keeps_via (overrunEnd_keeps s x _) (by cases x <;> decide) (keeps_mono (overrunLaw_keeps s x t) (by cases x <;> decide))

theorem late_overrunRest (t : State) : ((overrunEnd s x (overrunLaw s x t)).la x).late = (t.la x).late := by
  have law : ((overrunLaw s x t).la x).late = (t.la x).late := by
    unfold overrunLaw
    split
    · exact late_safeLaw t x
    · rfl
  rw [← law, overrunEnd]
  split
  · rw [overrunFault_eq, keeps_la (enterFault_keeps _ x) (by decide), retractFor, late_retract, State.retReason,
      keeps_la (State_put_keeps _ _ _) (by decide), keeps_la (raise_keeps _ _) (by decide)]
  · rfl

/-- The fields that an overrun writes. -/
def overrunFields (s : State) : List Field :=
  guardFields s .a ++ guardFields s .b ++ modeFields ++ retractFields ++ [Fld.SYS_FLT_ACT, Fld.SYS_MODE_DEGLAT, Fld.LPE_EV_SAFEA,
    Fld.LPE_EV_SAFEB, Fld.LPE_FLT_OVRA, Fld.LPE_FLT_OVRB, Fld.LPE_STAT_SAFE, ⟨Reg.LPE_STAT, 10, 1⟩, Fld.LPE_OVR_OVR_CNTA,
    Fld.LPE_OVR_OVR_CNTB, Fld.LPE_OVR_OTHER, Fld.LPE_RET_REASONA, Fld.LPE_RET_REASONB]

theorem overrunAll_keeps : Keeps doneParts (overrunFields s) s (overrunAll s x) := by
  have taken : Keeps doneParts (overrunFields s) s (overrunTaken s x) := by
    refine keeps_mono (overrunTaken_keeps s x) ?_
    simp only [overrunFields, List.append_assoc]
    exact within_append _ (within_append _ (by cases x <;> decide))
  have tripped : Keeps doneParts (overrunFields s) s (overrunTripped s x) :=
    wgTrip_keeps taken (keeps_msq (overrunTaken_keeps s x) (by decide) x) (fun f hf => by cases x <;> simp [overrunFields, hf]) _ _
  have rest : within doneParts (overrunFields s) [.lpe, .msq, .rbk, .sys] (overrunLate x) = true := by
    simp only [overrunFields, List.append_assoc]
    exact within_append _ (within_append _ (by cases x <;> decide))
  exact trip_mode_keeps (keeps_via (overrunRest_keeps s x _) rest tripped) (fun f hf => by simp [overrunFields, hf])

variable {s x}

theorem exec_loopOverrun {loop : Nat} (vcm : loop < 2) (ok : s.actOk (loopAct loop) = true) :
    exec (.loopOverrun loop) s = .next (overrunAll s (loopAct loop)) := by
  change execLoopOverrun loop s = _
  simp only [execLoopOverrun, vcm, if_true, ok, Bool.not_true, Bool.false_eq_true, if_false]
  rfl

theorem actOk_overrunTripped (ok : s.actOk x = true) : (overrunTripped s x).actOk x = true := by
  rw [overrunTripped, actOk_wgTrip, keeps_actOk (overrunTaken_keeps s x) (by decide), ok]

/-- An overrun is counted, marks its sample late, and holds the gates. -/
theorem overrunAll_shown (ok : s.actOk x = true) (spared : NotesSpare s x (overrunCount x)) :
    (overrunAll s x).get (overrunCount x) = satAdd (overrunCount x).len (s.get (overrunCount x)) 1 ∧
      ((overrunAll s x).la x).late = true ∧ ((overrunAll s x).wrp x).holding.testBit 4 = true := by
  have taken := overrunTaken_keeps s x
  have okT : (overrunTaken s x).actOk x = true := (keeps_actOk taken (by decide) x).trans ok
  refine ⟨?_, ?_, ?_⟩
  · rw [overrunAll, syncMode_get _ _ (by cases x <;> decide), keeps_get (overrunRest_keeps s x _) _ (by decide) (by cases x <;> decide),
      overrunTripped, get_wgTrip_other okT (spared.of_msq (keeps_msq taken (by decide) x)) (by cases x <;> decide), overrunTaken,
      get_bump _ _ _ (by cases x <;> rfl), get_of_regs (setLa_regs _ _ _)]
  · obtain ⟨p, same⟩ := (Steered.wgTripC (overrunTaken s x) x trgLoop false true).la
    have late : ((overrunTripped s x).la x).late = ((overrunTaken s x).la x).late :=
      (congrArg LpeAct.late same).trans rfl
    rw [overrunAll, keeps_la (syncMode_keeps _) (by decide), late_overrunRest, late, overrunTaken, State.bump,
      keeps_la (State_put_keeps _ _ _) (by decide), la_setLa]
  · rw [overrunAll, (SameGuards.syncMode _).holding, keeps_wrp (overrunRest_keeps s x _) (by decide)]
    exact testBit_wgTrip okT (by decide) false

/-- The second overrun in a row selects the SAFE law. -/
theorem overrunAll_safe (second : (s.la x).ovr = 1) (plain : s.flag (lpeSafe x) = false) :
    (overrunAll s x).flag (lpeSafe x) = true ∧ (overrunAll s x).flag (safeEvent x) = true := by
  have kept : (overrunTripped s x).flag (lpeSafe x) = false := by
    rw [overrunTripped, State.flag, (wgTrip_trip _ x _ _).get _ (by cases x <;> decide) (by cases x <;> decide), overrunTaken,
      get_bump_other _ _ _ _ (by cases x <;> rfl) (by cases x <;> rfl), get_of_regs (setLa_regs _ _ _)]
    exact plain
  obtain ⟨law, event⟩ := safeLaw_taken kept
  have select : overrunLaw s x (overrunTripped s x) = (overrunTripped s x).safeLaw x := if_pos second
  rw [overrunAll, select]
  have ended := overrunEnd_keeps s x ((overrunTripped s x).safeLaw x)
  constructor
  · rw [syncMode_flag _ _ (by cases x <;> decide), keeps_flag ended _ (by decide) (by cases x <;> decide), law]
  · rw [syncMode_flag _ _ (by cases x <;> decide), keeps_flag ended _ (by decide) (by cases x <;> decide), event]

/-- The eighth overrun of a revolution is a fault of the actuator, and its heads retract. -/
theorem overrunAll_fault (ok : s.actOk x = true) (eighth : overrunsNow s x = 8) :
    (overrunAll s x).flag (overrunFlt x) = true ∧ (overrunAll s x).get (retReasonField x) = 2 ∧ (overrunAll s x).faulted x = true ∧
      (overrunAll s x).loaded x = false := by
  have fault : overrunEnd s x (overrunLaw s x (overrunTripped s x)) = (overrunLaw s x (overrunTripped s x)).overrunFault x := if_pos eighth
  have okL : (overrunLaw s x (overrunTripped s x)).actOk x = true :=
    (keeps_actOk (overrunLaw_keeps s x _) (by decide) x).trans (actOk_overrunTripped ok)
  rw [overrunAll, fault, overrunFault_eq]
  obtain ⟨bit, reason, parked⟩ := retractFor_shown (f := overrunFlt x) (r := 2) okL (by cases x <;> rfl) (by cases x <;> rfl)
    (by cases x <;> decide) (by decide)
  have latched := enterFault_keeps (retractFor (overrunLaw s x (overrunTripped s x)) x (overrunFlt x) 2) x
  refine ⟨?_, ?_, ?_, ?_⟩
  · rw [syncMode_flag _ _ (by cases x <;> decide), keeps_flag latched _ (by decide) (by cases x <;> decide), bit]
  · rw [syncMode_get _ _ (by cases x <;> decide), keeps_get latched _ (by decide) (by cases x <;> decide), reason]
  · rw [faulted_syncMode]
    exact faulted_enterFault ((keeps_actOk (retractFor_keeps _ x _ 2) (by decide) x).trans okL)
  · rw [loaded_syncMode, loaded_enterFault, parked]
end

section
variable (s : State)

/-! ### The two copies (R423 to R425) -/

/-- A mismatch of the two copies shown: simplex from here on, the copy that stays, the count and the event. -/
def mismatched (bad : Bool) : State :=
  (((s.putb Fld.LPE_STAT_DUPLEX false).putb Fld.LPE_STAT_COPY (if bad then s.flag Fld.LPE_STAT_COPY else !s.flag Fld.LPE_STAT_COPY)).bump
    Fld.LPE_DUP_MISMATCH 1).raise Fld.LPE_EV_TAKEOVER

/-- The fields of a mismatch. -/
def mismatchOwn : List Field :=
  recFields ++ [Fld.LPE_EV_TAKEOVER, Fld.LPE_STAT_DUPLEX, Fld.LPE_STAT_COPY, Fld.LPE_DUP_MISMATCH]

theorem mismatched_keeps (bad : Bool) : Keeps [.rbk] mismatchOwn s (mismatched s bad) :=
  keeps_raise (by decide) (keeps_bump (by decide) (keeps_putb (by decide) (keeps_putb (by decide) (keeps_refl _ _ _))))

theorem mismatched_shown (bad : Bool) : (mismatched s bad).flag Fld.LPE_STAT_DUPLEX = false ∧
    (mismatched s bad).flag Fld.LPE_STAT_COPY = (if bad = true then s.flag Fld.LPE_STAT_COPY else !s.flag Fld.LPE_STAT_COPY) ∧
    (mismatched s bad).get Fld.LPE_DUP_MISMATCH = satAdd 16 (s.get Fld.LPE_DUP_MISMATCH) 1 ∧
    (mismatched s bad).flag Fld.LPE_EV_TAKEOVER = true := by
  have told (t : State) := raise_keeps t Fld.LPE_EV_TAKEOVER
  have counted (t : State) : Keeps [] [Fld.LPE_DUP_MISMATCH] t (t.bump Fld.LPE_DUP_MISMATCH 1) := keeps_bump (by decide) (keeps_refl _ _ _)
  refine ⟨?_, ?_, ?_, flag_raise _ _ rfl rfl (by decide)⟩
  · rw [mismatched, keeps_flag (told _) _ (by decide) (by decide), keeps_flag (counted _) _ (by decide) (by decide),
      flag_putb_other _ _ _ _ rfl rfl, flag_putb _ _ _ rfl rfl]
  · rw [mismatched, keeps_flag (told _) _ (by decide) (by decide), keeps_flag (counted _) _ (by decide) (by decide),
      flag_putb _ _ _ rfl rfl]
  · rw [mismatched, keeps_get (told _) _ (by decide) (by decide), get_bump _ _ _ rfl, get_putb_other _ _ _ _ rfl rfl,
      get_putb_other _ _ _ _ rfl rfl]
    rfl

/-- A trip of both guards that counts for no slot. -/
def tripBothC (bits : Nat) : State := (s.wgTripC .a bits false false).wgTripC .b bits false false

/-- The fields of a mismatch and of the trips that follow it. -/
def mismatchFields : List Field :=
  guardFields s .a ++ guardFields s .b ++ modeFields ++ [Fld.LPE_EV_TAKEOVER, Fld.LPE_STAT_DUPLEX, Fld.LPE_STAT_COPY, Fld.LPE_DUP_MISMATCH]

theorem mismatched_fields (bad : Bool) : Keeps doneParts (mismatchFields s) s (mismatched s bad) := by
  refine keeps_mono (mismatched_keeps s bad) ?_
  simp only [mismatchFields, List.append_assoc]
  exact within_append _ (within_append _ (by decide))

variable {s}

/-- A trip within a frame that holds the actuator's guard fields, after steps that left its sequencer alone. -/
theorem wgTripC_keeps {F : List Field} {t : State} {x : Act} (kept : Keeps doneParts F s t) (same : t.msq x = s.msq x)
    (fields : guardFields s x ⊆ F) (bits : Nat) (neg counts : Bool) : Keeps doneParts F s (t.wgTripC x bits neg counts) := by
  have trip := (wgTripC_trip t x bits neg counts).keeps
  rw [guardFields_of_msq same] at trip
  exact keeps_via trip (within_of_subset (by decide) fields) kept

theorem actOk_wgTripC (x y : Act) (bits : Nat) (neg counts : Bool) : (s.wgTripC x bits neg counts).actOk y = s.actOk y :=
  congrArg (fun p : PinSt => !(p.variant == 3 && y == .b)) (keeps_pins (wgTripC_trip s x bits neg counts).keeps (by decide))

/-- Both guards hold the trigger after a trip of both. -/
theorem holding_tripBothC {bits i : Nat} (okA : s.actOk .a = true) (okB : s.actOk .b = true) (trigger : bits.testBit i = true) (x : Act) :
    ((tripBothC s bits).wrp x).holding.testBit i = true := by
  have okB' : (s.wgTripC .a bits false false).actOk .b = true := (actOk_wgTripC .a .b bits false false).trans okB
  rw [tripBothC, holding_wgTripC okB']
  cases x
  · rw [if_neg (by decide), holding_wgTripC okA, if_pos rfl, Nat.testBit_or, trigger, Bool.or_true]
  · rw [if_pos rfl, Nat.testBit_or, trigger, Bool.or_true]

/-- A field that no trip writes and no note puts back is as it was. -/
theorem get_tripBothC {f : Field} (okA : s.actOk .a = true) (okB : s.actOk .b = true) (spared : ∀ x, NotesSpare s x f)
    (apart : ∀ x, (guardOwn x ++ squashOwn x).all (fun g => Apart g f) = true) (bits : Nat) : (tripBothC s bits).get f = s.get f := by
  have okB' : (s.wgTripC .a bits false false).actOk .b = true := (actOk_wgTripC .a .b bits false false).trans okB
  have other : (s.wgTripC .a bits false false).msq .b = s.msq .b := (wgTripC_trip s .a bits false false).other
  rw [tripBothC, get_wgTripC okB' ((spared .b).of_msq other) (apart .b), get_wgTripC okA (spared .a) (apart .a)]

theorem tripBothC_keeps {F : List Field} {t : State} (kept : Keeps doneParts F s t) (same : ∀ x, t.msq x = s.msq x)
    (fields : ∀ x, guardFields s x ⊆ F) (bits : Nat) : Keeps doneParts F s (tripBothC t bits) :=
  wgTripC_keeps (wgTripC_keeps kept (same .a) (fields .a) bits false false) ((wgTripC_trip t .a bits false false).other.trans (same .b))
    (fields .b) bits false false

theorem guardFields_mismatch (x : Act) : guardFields s x ⊆ mismatchFields s := by
  intro f hf
  cases x <;> simp [mismatchFields, hf]

theorem modeFields_mismatch : modeFields ⊆ mismatchFields s := by
  intro f hf
  simp [mismatchFields, hf]

theorem exec_mismatch_common {loop : Nat} (common : 2 ≤ loop) (duplex : s.flag Fld.LPE_STAT_DUPLEX = true) (bad : Bool) :
    exec (.lpeCopyMismatch loop bad) s = .next (tripBothC (mismatched s bad) trgLoop).syncMode := by
  change execLpeCopyMismatch loop bad s = _
  simp only [execLpeCopyMismatch, duplex, Bool.not_true, Bool.false_eq_true, if_false, Nat.not_lt.2 common]
  rfl

/-- A sample lost to the change of copy: its loop is late, and its guard trips. -/
def sampleLost (t : State) (x : Act) : State :=
  (t.setLa x { t.la x with late := true }).wgTripC x trgLoop false false

theorem exec_mismatch_vcm {loop : Nat} (vcm : loop < 2) (duplex : s.flag Fld.LPE_STAT_DUPLEX = true) (bad : Bool) :
    exec (.lpeCopyMismatch loop bad) s = .next (sampleLost (mismatched s bad) (loopAct loop)).syncMode := by
  change execLpeCopyMismatch loop bad s = _
  simp only [execLpeCopyMismatch, duplex, Bool.not_true, Bool.false_eq_true, if_false, vcm, if_true]
  rfl

theorem late_marked_keeps (t : State) (x : Act) : Keeps [.lpe] [] t (t.setLa x { t.la x with late := true }) :=
  keeps_setLa (by decide) (keeps_refl _ _ _)

/-- The four fields that a mismatch shows. -/
def mismatchTold : List Field := [Fld.LPE_STAT_DUPLEX, Fld.LPE_STAT_COPY, Fld.LPE_DUP_MISMATCH, Fld.LPE_EV_TAKEOVER]

theorem mismatchTold_apart {f : Field} (told : f ∈ mismatchTold) (x : Act) : modeFields.all (fun g => Apart g f) = true ∧
    (guardOwn x ++ squashOwn x).all (fun g => Apart g f) = true := by
  have all : mismatchTold.all (fun f => modeFields.all (fun g => Apart g f) && (guardOwn x ++ squashOwn x).all (fun g => Apart g f)) =
      true := by
    cases x <;> decide
  exact (Bool.and_eq_true _ _).mp (List.all_eq_true.1 all f told)

/-- The count of mismatches is spared where no note names its register; the others are the hardware's. -/
theorem mismatchTold_spared (spared : (notedFields s .a ++ notedFields s .b).all (fun f => f.addr != Reg.LPE_DUP) = true) {f : Field}
    (told : f ∈ mismatchTold) (x : Act) : NotesSpare s x f := by
  have each : mismatchTold.all (fun f => hardwareOwned f || f.addr == Reg.LPE_DUP) = true := by decide
  obtain owned | here := (Bool.or_eq_true _ _).mp (List.all_eq_true.1 each f told)
  · exact .inl owned
  · exact .of_addr spared (eq_of_beq here)

/-- What a mismatch shows is what it shows before the trips of both guards: no trip writes it, and no note puts it back. -/
theorem get_mismatch_common (okA : s.actOk .a = true) (okB : s.actOk .b = true)
    (spared : (notedFields s .a ++ notedFields s .b).all (fun f => f.addr != Reg.LPE_DUP) = true) {f : Field} (told : f ∈ mismatchTold)
    (bad : Bool) : (tripBothC (mismatched s bad) trgLoop).syncMode.get f = (mismatched s bad).get f := by
  have kept := mismatched_keeps s bad
  have notes (x : Act) := (mismatchTold_spared spared told x).of_msq (keeps_msq kept (by decide) x)
  rw [syncMode_get _ _ (mismatchTold_apart told .a).1]
  exact get_tripBothC ((keeps_actOk kept (by decide) _).trans okA) ((keeps_actOk kept (by decide) _).trans okB) notes
    (fun x => (mismatchTold_apart told x).2) _

theorem sampleLost_get {t : State} {x : Act} {f : Field} (ok : t.actOk x = true) (spared : NotesSpare t x f)
    (apart : (guardOwn x ++ squashOwn x).all (fun g => Apart g f) = true) : (sampleLost t x).get f = t.get f := by
  have late := late_marked_keeps t x
  rw [sampleLost, get_wgTripC ((keeps_actOk late (by decide) x).trans ok) (spared.of_msq (keeps_msq late (by decide) x)) apart,
    keeps_get late _ (by decide) rfl]

/-- What a mismatch shows is what it shows before the trip of its loop's guard. -/
theorem get_mismatch_vcm {x : Act} (ok : s.actOk x = true)
    (spared : (notedFields s .a ++ notedFields s .b).all (fun f => f.addr != Reg.LPE_DUP) = true) {f : Field} (told : f ∈ mismatchTold)
    (bad : Bool) : (sampleLost (mismatched s bad) x).syncMode.get f = (mismatched s bad).get f := by
  have kept := mismatched_keeps s bad
  rw [syncMode_get _ _ (mismatchTold_apart told x).1]
  exact sampleLost_get ((keeps_actOk kept (by decide) _).trans ok)
    ((mismatchTold_spared spared told x).of_msq (keeps_msq kept (by decide) x)) (mismatchTold_apart told x).2

theorem mismatch_common_keeps (bad : Bool) : Keeps doneParts (mismatchFields s) s (tripBothC (mismatched s bad) trgLoop).syncMode :=
  trip_mode_keeps (tripBothC_keeps (mismatched_fields s bad) (keeps_msq (mismatched_keeps s bad) (by decide)) guardFields_mismatch _)
    modeFields_mismatch

theorem mismatch_vcm_keeps (bad : Bool) (x : Act) : Keeps doneParts (mismatchFields s) s (sampleLost (mismatched s bad) x).syncMode := by
  have late := late_marked_keeps (mismatched s bad) x
  have same : ((mismatched s bad).setLa x { (mismatched s bad).la x with late := true }).msq x = s.msq x :=
    (keeps_msq late (by decide) x).trans (keeps_msq (mismatched_keeps s bad) (by decide) x)
  have marked := keeps_via late (P := doneParts) (R := mismatchFields s) (within_nil rfl) (mismatched_fields s bad)
  exact trip_mode_keeps (wgTripC_keeps marked same (guardFields_mismatch x) _ _ _) modeFields_mismatch

theorem holding_sampleLost {t : State} {x : Act} (ok : t.actOk x = true) :
    ((sampleLost t x).syncMode.wrp x).holding.testBit 4 = true := by
  have lit : trgLoop.testBit 4 = true := by decide
  rw [(SameGuards.syncMode _).holding, sampleLost, holding_wgTripC ((keeps_actOk (late_marked_keeps t x) (by decide) x).trans ok),
    if_pos rfl, Nat.testBit_or, lit, Bool.or_true]
end

section
variable (s : State)

/-! ### A residue check that fails in simplex (R424) -/

theorem held_setLa (x : Act) (l : LpeAct) : (s.setLa x l).lpe.held = s.lpe.held := by cases x <;> rfl

theorem held_retract (x : Act) : (s.retract x).lpe.held = s.lpe.held := by
  have ended : (moveEnded s x).lpe.held = s.lpe.held := by
    have idle : (s.notLoaded x).lpe = s.lpe := (notLoaded_keeps s x).part .lpe (by decide) (by decide)
    have zero : ((s.notLoaded x).uaZero x).lpe.held = (s.notLoaded x).lpe.held := held_setLa _ _ _
    rw [moveEnded, held_setLa, zero, idle]
  unfold State.retract
  split
  · rfl
  · extract_lets s1 s2
    split
    · exact ended
    · exact ended

theorem held_safeEnter : s.safeEnter.lpe.held = s.lpe.held := by
  have enters (t : State) : (t.spnEnter spnRect).lpe = t.lpe := (spnEnter_keeps t _).part .lpe (by decide) (by decide)
  rw [State.safeEnter, enters, held_retract, held_retract]
  rfl

/-- The loop engine holds. -/
def engineHeld : State := { s with lpe := { s.lpe with held := true } }

/-- The outputs held, both guards tripped, and the safe state of the power die. -/
def engineSafe : State := ((engineHeld s).wgTripBoth trgLoop).safeEnter

/-- The failure and its reasons shown. -/
def simplexTold (t : State) : State := ((t.raise Fld.LPE_FLT_SIMPLEX).retReason .a 4).retReason .b 4

/-- The state after a residue check that fails in simplex. -/
def simplexFailed : State := (simplexTold (engineSafe s)).syncMode

theorem engineHeld_keeps : Keeps [.lpe] [] s (engineHeld s) := keeps_set_lpe (by decide) (keeps_refl _ _ _)

/-- The fields of the failure's own. -/
def simplexOwn : List Field := recFields ++ [Fld.LPE_FLT_SIMPLEX, Fld.LPE_RET_REASONA, Fld.LPE_RET_REASONB]

theorem simplexTold_keeps (t : State) : Keeps [.rbk] simplexOwn t (simplexTold t) :=
  keeps_put (by decide) (keeps_put (by decide) (keeps_raise (by decide) (keeps_refl _ _ _)))

theorem simplexTold_shown (t : State) : (simplexTold t).flag Fld.LPE_FLT_SIMPLEX = true ∧ (simplexTold t).get Fld.LPE_RET_REASONA = 4 ∧
    (simplexTold t).get Fld.LPE_RET_REASONB = 4 := by
  refine ⟨?_, ?_, get_put _ Fld.LPE_RET_REASONB _ rfl⟩
  · rw [simplexTold, State.retReason, flag_put_other _ _ _ _ rfl rfl, State.retReason, flag_put_other _ _ _ _ rfl rfl,
      flag_raise _ _ rfl rfl (by decide)]
  · rw [simplexTold, State.retReason, get_put_other _ _ _ _ rfl rfl]
    exact get_put _ Fld.LPE_RET_REASONA _ rfl

theorem simplexFailed_shown : (simplexFailed s).flag Fld.LPE_FLT_SIMPLEX = true ∧ (simplexFailed s).get Fld.LPE_RET_REASONA = 4 ∧
    (simplexFailed s).get Fld.LPE_RET_REASONB = 4 ∧ (simplexFailed s).flag Fld.SYS_D2DSTAT_SAFE = true := by
  obtain ⟨fault, reasonA, reasonB⟩ := simplexTold_shown (engineSafe s)
  refine ⟨?_, ?_, ?_, ?_⟩
  · rw [simplexFailed, syncMode_flag _ _ (by decide), fault]
  · rw [simplexFailed, syncMode_get _ _ (by decide), reasonA]
  · rw [simplexFailed, syncMode_get _ _ (by decide), reasonB]
  · rw [simplexFailed, syncMode_flag _ _ (by decide), keeps_flag (simplexTold_keeps _) _ (by decide) (by decide)]
    exact flag_safe_safeEnter _

theorem held_simplexFailed : (simplexFailed s).lpe.held = true := by
  have mode : (simplexFailed s).lpe = (simplexTold (engineSafe s)).lpe := (syncMode_keeps _).part .lpe (by decide) (by decide)
  have told : (simplexTold (engineSafe s)).lpe = (engineSafe s).lpe := (simplexTold_keeps _).part .lpe (by decide) (by decide)
  have tripA := (Steered.wgTripC (engineHeld s) .a trgLoop false true).held
  have tripB := (Steered.wgTripC ((engineHeld s).wgTrip .a trgLoop false) .b trgLoop false true).held
  rw [mode, told, engineSafe, held_safeEnter]
  exact tripB.trans tripA

theorem holding_simplexFailed {s : State} (okA : s.actOk .a = true) (okB : s.actOk .b = true) (x : Act) :
    ((simplexFailed s).wrp x).holding.testBit 4 = true := by
  have held := engineHeld_keeps s
  rw [simplexFailed, (SameGuards.syncMode _).holding, keeps_wrp (simplexTold_keeps _) (by decide), engineSafe,
    keeps_wrp (safeEnter_keeps _) (by decide)]
  exact testBit_wgTripBoth ((keeps_actOk held (by decide) _).trans okA) ((keeps_actOk held (by decide) _).trans okB) (by decide) x

/-- The fields of the failure, the trips and the safe state. -/
def simplexFields : List Field :=
  guardFields s .a ++ guardFields s .b ++ modeFields ++ retractFields ++ [Fld.SYS_D2DSTAT_SAFE, Fld.LPE_FLT_SIMPLEX, Fld.LPE_RET_REASONA,
    Fld.LPE_RET_REASONB]

theorem simplexFailed_keeps : Keeps doneParts (simplexFields s) s (simplexFailed s) := by
  have held := engineHeld_keeps s
  have tripped := wgTripBoth_keeps (engineHeld s) trgLoop
  rw [guardFields_of_msq (keeps_msq held (by decide) .a), guardFields_of_msq (keeps_msq held (by decide) .b)] at tripped
  have guarded : Keeps doneParts (simplexFields s) s ((engineHeld s).wgTripBoth trgLoop) :=
    keeps_via tripped (within_of_subset (by decide) (fun f hf => by
      obtain a | b := List.mem_append.1 hf
      · simp [simplexFields, a]
      · simp [simplexFields, b])) (keeps_mono held (within_nil rfl))
  have own {P : List Part} {R : List Field} (k : within doneParts (modeFields ++ (retractFields ++ [Fld.SYS_D2DSTAT_SAFE,
      Fld.LPE_FLT_SIMPLEX, Fld.LPE_RET_REASONA, Fld.LPE_RET_REASONB])) P R = true) : within doneParts (simplexFields s) P R = true := by
    simp only [simplexFields, List.append_assoc]
    exact within_append _ (within_append _ k)
  exact trip_mode_keeps (keeps_via (simplexTold_keeps _) (own (by decide)) (keeps_via (safeEnter_keeps _) (own (by decide)) guarded))
    (fun f hf => by simp [simplexFields, hf])

variable {s}

theorem exec_simplexResidueFailure (simplex : s.flag Fld.LPE_STAT_DUPLEX = false) :
    exec .simplexResidueFailure s = .next (simplexFailed s) :=
  if_neg (by simp [simplex])

/-! ### A copy readmitted (R425) -/

/-- READMIT shown as running. -/
def readmitShown (s : State) : State := (s.putb Fld.LPE_CTL_READMIT true).put Fld.LPE_DUP_RDM 1

/-- The self-test of a readmitted copy begun. -/
def readmitBegun (s : State) : State := { readmitShown s with lpe := { s.lpe with readmitAt := s.now } }

theorem readmitBegun_keeps (s : State) : Keeps [.lpe] [] (readmitShown s) (readmitBegun s) := keeps_set_lpe (by decide) (keeps_refl _ _ _)

theorem readmitShown_keeps (s : State) : Keeps [] [Fld.LPE_CTL_READMIT, Fld.LPE_DUP_RDM] s (readmitShown s) :=
  keeps_put (by decide) (keeps_putb (by decide) (keeps_refl _ _ _))

theorem exec_readmit (simplex : s.flag Fld.LPE_STAT_DUPLEX = false) : exec .readmit s = .next (readmitBegun s) := by
  change execReadmit s = _
  simp only [execReadmit, State.readmit, simplex, Bool.false_eq_true, if_false, readmitBegun, readmitShown]

theorem exec_readmitTestDone (asked : s.flag Fld.LPE_CTL_READMIT = true) (over_ : s.lpe.readmitAt + 160000 ≤ s.now) (pass : Bool) :
    exec (.readmitTestDone pass) s = .next (if pass then
      (((s.putb Fld.LPE_CTL_READMIT false).put Fld.LPE_DUP_RDM 2).putb Fld.LPE_STAT_DUPLEX true).raise Fld.LPE_EV_READMIT
      else (s.putb Fld.LPE_CTL_READMIT false).put Fld.LPE_DUP_RDM 3) :=
  if_neg (by simp [asked, Nat.not_lt.2 over_])

/-! ### The swap of coefficient banks (R429) -/

theorem get_bankSwap {bits : Nat} (small : bits < 8) :
    (s.bankSwap bits).get Fld.LPE_BANK_SWAP = s.get Fld.LPE_BANK_SWAP ||| bits := by
  refine (get_put s Fld.LPE_BANK_SWAP _ rfl).trans (Nat.mod_eq_of_lt ?_)
  exact Nat.or_lt_two_pow (get_lt s Fld.LPE_BANK_SWAP) small

theorem bankSwap_keeps (s : State) (bits : Nat) : Keeps [.lpe] [Fld.LPE_BANK_SWAP] s (s.bankSwap bits) :=
  keeps_set_lpe (by decide) (keeps_put (by decide) (keeps_refl _ _ _))
end

/-- Settles O30: each supervision by what it shows before the mode follows, and each trip by what it holds. -/
theorem loopSupervision : Obligations.LoopSupervision := by
  unfold Obligations.LoopSupervision
  refine ⟨?start, ?expiry, ?load, ?soon, ?uact, ?laser, ?heater, ?bus, ?vcmSat, ?spnSat, ?overrun, ?safe, ?eighth, ?other, ?exit, ?common,
    ?vcm, ?simplex, ?readmit, ?passed, ?failed, ?swap⟩
  case start =>
    intro s x on idle blind
    have begun : Keeps [.lpe] [lpeSearch x] s ((s.setLa x { s.la x with searchRev := s.rev, h0 := { (s.la x).h0 with mark := none } }).putb
        (lpeSearch x) true) := keeps_putb (by cases x <;> decide) (keeps_setLa (within_nil rfl) (keeps_refl _ _ _))
    refine ⟨_, exec_searchStart on idle blind, ?_, ?_, keeps_via (syncMode_keeps _) (by decide)
      (keeps_mono begun (by cases x <;> decide))⟩
    · rw [syncMode_flag _ _ (by cases x <;> decide), flag_putb _ _ _ (by cases x <;> rfl) (by cases x <;> rfl)]
    · rw [keeps_la (syncMode_keeps _) (by decide), keeps_la (State_putb_keeps _ _ _) (by decide), la_setLa]
  case expiry =>
    intro s x on over_ calm ok driven
    refine ⟨_, exec_searchExpiry on over_, ?_⟩
    obtain ⟨fault, reason, parked⟩ := searchFailed_shown ok
    simp only [calm, Bool.false_eq_true, if_false]
    refine ⟨?_, ?_, ?_, ?_, sync_searchFields (searchFailed_keeps s x)⟩
    · rw [syncMode_flag _ _ (by cases x <;> decide), fault]
    · rw [syncMode_get _ _ (by cases x <;> decide), reason]
    · rw [loaded_syncMode, parked]
    · rw [syncMode_flag _ _ (by cases x <;> decide), searchFailed_driven ok driven]
  case load =>
    intro s x k w on over_ loading ok driven run alone kind begun open_
    refine ⟨_, exec_searchExpiry on over_, ?_⟩
    obtain ⟨u, same⟩ := msq_searchFailed ok driven
    have alone' : ((searchFailed s x).msq x).work = [w] := (congrArg Msq.work same).trans alone
    have run' : ((searchFailed s x).msq x).running = some k := (congrArg Msq.running same).trans run
    have notes : ((searchFailed s x).msq x).allStaged = (s.msq x).allStaged := by
      rw [same]
      rfl
    simp only [loading, if_true, loadFail_alone alone' kind begun open_]
    obtain ⟨st, code, -, -⟩ := progError_faulted (pc := w.pc) (code := errState) run'
    obtain ⟨p, steered⟩ := (Steered.progError (searchFailed s x) x w.pc errState).la
    have idle : (((searchFailed s x).progError x w.pc errState).la x).loading = false := by
      rw [steered]
      exact loading_searchFailed ok driven
    refine ⟨?_, ?_, ?_, ?_, ?_, sync_searchFields (progError_searchFields (searchFailed_keeps s x) notes)⟩
    · rw [State.flag, searchFailed_progError _ _ (List.mem_cons_self ..)]
      exact (searchFailed_shown ok).1
    · rw [keeps_la (syncMode_keeps _) (by decide), idle]
    · rw [State.flag, searchFailed_progError _ _ (by simp)]
      exact searchFailed_driven ok driven
    · rw [keeps_msq (syncMode_keeps _) (by decide), st]
    · rw [keeps_msq (syncMode_keeps _) (by decide), code]
  case soon => exact fun s x soon => if_pos (by simp [soon])
  case uact =>
    intro s loop small last
    have act : Keeps [.lpe, .msq, .wrp] [Fld.DRV_STAT_UAON] (feShown s loop) (uaOut s (feShown s loop) ⟨loop, small⟩) :=
      keeps_put (by decide) (keeps_setLa (by decide) (keeps_refl _ _ _))
    obtain ⟨shown, fault, keeps⟩ := feShown_then act
    exact ⟨_, exec_followingError_uact (n := ⟨loop, small⟩) last, shown, fault, testBit_uaon_masked _ _ ⟨loop, small⟩, keeps⟩
  case laser =>
    intro s loop low high last
    exact ⟨_, exec_followingError_laser low high last, rd_feShown s loop, fault_feShown s loop, feShown_keeps s loop⟩
  case heater =>
    rintro s loop n low high rfl last
    have act := heaterOut_keeps s (feShown s loop) ⟨loop % 4, Nat.mod_lt _ (by decide)⟩
    obtain ⟨shown, fault, keeps⟩ := feShown_then act
    exact ⟨_, exec_followingError_heater (n := ⟨loop % 4, Nat.mod_lt _ (by decide)⟩) low high rfl last, shown, fault,
      heat_heaterOut _ _ _, keeps⟩
  case bus =>
    intro s last
    have act : Keeps [.lpe, .msq, .wrp] [Fld.DRV_STAT_UAON] (feShown s 12) (busForbidden s (feShown s 12)) :=
      keeps_set_lpe (by decide) (keeps_refl _ _ _)
    obtain ⟨shown, fault, keeps⟩ := feShown_then act
    exact ⟨_, exec_followingError_bus last, shown, fault, rfl, keeps⟩
  case vcmSat =>
    intro s loop a vcm since last ok
    obtain ⟨fault, reason, parked, faulted⟩ := satRetracted_shown ok
    refine ⟨_, exec_outputSaturation vcm since last, ?_, ?_, parked, faulted, satRetracted_keeps s _⟩
    · rw [← byAct_loopAct, fault]
    · rw [← byAct_loopAct, reason]
  case spnSat =>
    intro s a since last
    exact ⟨_, exec_outputSaturation_spindle since last, flag_raise _ _ rfl rfl (by decide), rfl,
      keeps_set_lpe (by decide) (keeps_raise (by decide) (keeps_refl _ _ _))⟩
  case overrun =>
    intro s ok spared
    obtain ⟨count, late, holds⟩ := overrunAll_shown ok (.of_addr spared rfl)
    exact ⟨_, exec_loopOverrun (loop := 0) (by decide) ok, count, late, holds, overrunAll_keeps s .a⟩
  case safe =>
    intro s ok second plain
    obtain ⟨law, event⟩ := overrunAll_safe second plain
    exact ⟨_, exec_loopOverrun (loop := 1) (by decide) ok, law, event, overrunAll_keeps s .b⟩
  case eighth =>
    intro s ok rev seven
    have eighth : overrunsNow s .a = 8 := by simp [overrunsNow, rev, seven]
    obtain ⟨fault, reason, faulted, parked⟩ := overrunAll_fault ok eighth
    exact ⟨_, exec_loopOverrun (loop := 0) (by decide) ok, fault, reason, faulted, parked, overrunAll_keeps s .a⟩
  case other =>
    intro s loop other
    exact ⟨_, if_neg (Nat.not_lt.2 other), get_bump _ _ _ rfl, keeps_bump (by decide) (keeps_refl _ _ _)⟩
  case exit =>
    intro s x on good
    refine ⟨_, exec_safeLawExit on good, ?_, ?_, keeps_setLa (by decide) (keeps_mono (safeRow_keeps s x false) (by cases x <;> decide))⟩
    · rw [State.flag, get_of_regs (setLa_regs _ _ _)]
      exact flag_safeRow s x false
    · rw [la_setLa]
  case common =>
    intro s loop bad common duplex okA okB spared
    have same {f : Field} (told : f ∈ mismatchTold) := get_mismatch_common okA okB spared told bad
    have kept := mismatched_keeps s bad
    have holds := holding_tripBothC (s := mismatched s bad) (bits := trgLoop) (i := 4) ((keeps_actOk kept (by decide) _).trans okA)
      ((keeps_actOk kept (by decide) _).trans okB) (by decide)
    obtain ⟨simplex, copy, count, event⟩ := mismatched_shown s bad
    refine ⟨_, exec_mismatch_common common duplex bad, ?_, ?_, ?_, ?_, ?_, ?_, mismatch_common_keeps bad⟩
    · rw [State.flag, same (by decide)]; exact simplex
    · rw [State.flag, same (by decide)]; exact copy
    · rw [same (by decide), count]
    · rw [State.flag, same (by decide)]; exact event
    · rw [(SameGuards.syncMode _).holding, holds]
    · rw [(SameGuards.syncMode _).holding, holds]
  case vcm =>
    intro s bad ok duplex spared
    have same {f : Field} (told : f ∈ mismatchTold) := get_mismatch_vcm ok spared told bad
    obtain ⟨simplex, -, count, event⟩ := mismatched_shown s bad
    refine ⟨_, exec_mismatch_vcm (loop := 0) (by decide) duplex bad, ?_, ?_, ?_,
      holding_sampleLost ((keeps_actOk (mismatched_keeps s bad) (by decide) _).trans ok), mismatch_vcm_keeps bad .a⟩
    · exact (congrArg (· != 0) (same (f := Fld.LPE_STAT_DUPLEX) (by decide))).trans simplex
    · exact (same (f := Fld.LPE_DUP_MISMATCH) (by decide)).trans count
    · exact (congrArg (· != 0) (same (f := Fld.LPE_EV_TAKEOVER) (by decide))).trans event
  case simplex =>
    intro s simplex okA okB
    obtain ⟨fault, reasonA, reasonB, safe⟩ := simplexFailed_shown s
    have holds := holding_simplexFailed okA okB
    exact ⟨_, exec_simplexResidueFailure simplex, held_simplexFailed s, safe, fault, reasonA, reasonB, holds .a, holds .b,
      simplexFailed_keeps s⟩
  case readmit =>
    intro s simplex
    refine ⟨_, exec_readmit simplex, ?_, ?_, keeps_via (readmitBegun_keeps s) (within_nil rfl) (keeps_mono (readmitShown_keeps s)
      (by decide))⟩
    · rw [keeps_flag (readmitBegun_keeps s) _ (by decide) rfl, readmitShown, flag_put_other _ _ _ _ rfl rfl, flag_putb _ _ _ rfl rfl]
    · rw [keeps_get (readmitBegun_keeps s) _ (by decide) rfl, readmitShown, get_put _ _ _ rfl]
      rfl
  case passed =>
    intro s asked over_
    have told := raise_keeps (((s.putb Fld.LPE_CTL_READMIT false).put Fld.LPE_DUP_RDM 2).putb Fld.LPE_STAT_DUPLEX true) Fld.LPE_EV_READMIT
    refine ⟨_, exec_readmitTestDone asked over_ true, ?_, ?_, ?_, flag_raise _ _ rfl rfl (by decide), keeps_raise (by decide)
      (keeps_putb (by decide) (keeps_put (by decide) (keeps_putb (by decide) (keeps_refl _ _ _))))⟩
    · exact (keeps_flag told _ (by decide) (by decide)).trans ((flag_putb_other _ _ _ _ rfl rfl).trans
        ((flag_put_other _ _ _ _ rfl rfl).trans (flag_putb _ _ _ rfl rfl)))
    · exact (keeps_get told _ (by decide) (by decide)).trans ((get_putb_other _ _ _ _ rfl rfl).trans (get_put _ _ _ rfl))
    · exact (keeps_flag told _ (by decide) (by decide)).trans (flag_putb _ _ _ rfl rfl)
  case failed =>
    intro s asked over_
    refine ⟨_, exec_readmitTestDone asked over_ false, ?_, get_put _ _ _ rfl, ?_, keeps_put (by decide) (keeps_putb (by decide)
      (keeps_refl _ _ _))⟩
    · exact (flag_put_other _ _ _ _ rfl rfl).trans (flag_putb _ _ _ rfl rfl)
    · exact (flag_put_other _ _ _ _ rfl rfl).trans (flag_putb_other _ _ _ _ rfl rfl)
  case swap =>
    intro s g small
    have bit : 2 ^ (g % 3) = 2 ^ g := by rw [Nat.mod_eq_of_lt small]
    have power : 2 ^ g < 8 := Nat.pow_lt_pow_right (by decide) small
    refine ⟨_, rfl, ?_, bankSwap_keeps s _⟩
    rw [bit, get_bankSwap power]

end Sys2Proof.Proofs
end

section
/-!
PROOFS. The samples of the microactuator, bus, laser, heater and spindle loops (R385 to R407, R448 to R455, R496, R733).
-/
namespace Sys2Proof.Proofs

open Sys2Proof.Machine Sys2Proof.Safety Sys2Proof.Laws

section
variable {s : State} {n : Chan}

/-! ### A microactuator (R397, R431) -/

/-- A microactuator's bit of UAON at a sample. -/
def uaMark (s t : State) (n : Chan) (b : Bool) : State :=
  t.put Fld.DRV_STAT_UAON ((s.get Fld.DRV_STAT_UAON &&& (15 - 2 ^ n.val)) + b2n b * 2 ^ n.val)

theorem testBit_uaMark (s t : State) (n : Chan) (b : Bool) : ((uaMark s t n b).get Fld.DRV_STAT_UAON).testBit n.val = b := by
  have mask : (s.get Fld.DRV_STAT_UAON &&& (15 - 2 ^ n.val)).testBit n.val = false := by
    rw [Nat.testBit_and]
    induction n using chan_cases <;> exact Bool.and_false _
  have low : n.val < Fld.DRV_STAT_UAON.len := n.isLt
  rw [uaMark, get_put _ _ _ rfl, Nat.testBit_mod_two_pow, decide_eq_true low, Bool.true_and]
  cases b with
  | false => simpa [b2n] using mask
  | true =>
    rw [Nat.add_comm, b2n, if_pos rfl, Nat.one_mul, Nat.testBit_two_pow_add_eq, mask]
    rfl

theorem uaDemand_keeps (s : State) (x : Act) (second : Bool) (err : Rat) : Keeps [.free, .lpe] [] s (s.uaDemand x second err).2 :=
  keeps_setLa (within_nil rfl) (keeps_mono (free_keeps s) (within_nil rfl))

/-- The field in which a head's PES is read. -/
abbrev pesField (n : Chan) : Field := if isSecond n then Fld.LPE_PES_PES1 (actOf n) else Fld.LPE_PES_PES0 (actOf n)

/-- An actuator whose loops take a sample: there, driven, not held, no lane on the move, its heads on the media. -/
structure Sampling (s : State) (x : Act) : Prop where
  ok : s.actOk x = true
  driven : s.flag (drvOff x) = false
  free : s.lpe.held = false
  lanes : s.d2d.remapAcked = false
  loaded : s.loaded x = true

/-- The error of a microactuator's law. -/
def uaError (s : State) (n : Chan) (k : Nat) : Rat :=
  -(s.pesUnits (actOf n) k ((((s.msq (actOf n)).pos (isSecond n)).target).getD 0) (sgn 16 (s.get (pesField n)))) -
    (((s.la (actOf n)).target : Rat) - (s.la (actOf n)).p)

/-- The following-error count of a microactuator at a sample. -/
def uaCount (s : State) (n : Chan) (err : Rat) : Nat :=
  feCount ((s.la (actOf n)).head (isSecond n)).fe (decide ((s.feLim Fld.LPE_FEUA_FE_LIM : Nat) < err.abs.floor.toNat))

/-- A microactuator that is on after a sample. -/
def uaDriven (s : State) (n : Chan) (err : Rat) : State :=
  let t := (s.uaDemand (actOf n) (isSecond n) err).2
  uaMark s (t.setLa (actOf n) ((t.la (actOf n)).setHead (isSecond n) { (s.la (actOf n)).head (isSecond n) with
    ua := (s.uaDemand (actOf n) (isSecond n) err).1, fe := uaCount s n err,
    integ := ((s.la (actOf n)).head (isSecond n)).integ + err })) n true

/-- A microactuator that is off after a sample. -/
def uaResting (s : State) (n : Chan) (err : Rat) : State :=
  uaMark s (s.setLa (actOf n) ((s.la (actOf n)).setHead (isSecond n) { (s.la (actOf n)).head (isSecond n) with
    ua := 0, fe := uaCount s n err })) n false

theorem exec_microactuatorSample_on {k : Nat} (h : Sampling s (actOf n)) (head : ((s.msq (actOf n)).pos (isSecond n)).head = some k)
    (valid : s.get (pesField n) ≠ 0x8000) (on : s.uaOn n = true) :
    exec (.microactuatorSample n) s = .next (uaDriven s n (uaError s n k)) := by
  change execMicroactuatorSample n s = _
  simp only [execMicroactuatorSample, h.ok, h.driven, h.free, h.lanes, h.loaded, head, Bool.not_true, Bool.or_self, Bool.false_eq_true,
    if_false]
  rw [if_neg valid, if_pos on]
  rfl

theorem exec_microactuatorSample_off {k : Nat} (h : Sampling s (actOf n)) (head : ((s.msq (actOf n)).pos (isSecond n)).head = some k)
    (valid : s.get (pesField n) ≠ 0x8000) (off : s.uaOn n = false) :
    exec (.microactuatorSample n) s = .next (uaResting s n (uaError s n k)) := by
  change execMicroactuatorSample n s = _
  simp only [execMicroactuatorSample, h.ok, h.driven, h.free, h.lanes, h.loaded, head, Bool.not_true, Bool.or_self, Bool.false_eq_true,
    if_false]
  rw [if_neg valid, if_neg (by simp [off])]
  rfl

theorem exec_microactuatorSample_blind {k : Nat} (h : Sampling s (actOf n)) (head : ((s.msq (actOf n)).pos (isSecond n)).head = some k)
    (blind : s.get (pesField n) = 0x8000) : exec (.microactuatorSample n) s = .next s := by
  change execMicroactuatorSample n s = _
  simp only [execMicroactuatorSample, h.ok, h.driven, h.free, h.lanes, h.loaded, head, Bool.not_true, Bool.or_self, Bool.false_eq_true,
    if_false]
  exact if_pos blind

theorem uaMark_keeps (s t : State) (n : Chan) (b : Bool) : Keeps [] [Fld.DRV_STAT_UAON] t (uaMark s t n b) :=
  keeps_put (by decide) (keeps_refl _ _ _)

theorem head_uaMark (s t : State) (n : Chan) (b : Bool) (x : Act) : (uaMark s t n b).la x = t.la x :=
  keeps_la (uaMark_keeps s t n b) (by decide) x

theorem uaDriven_keeps (s : State) (n : Chan) (err : Rat) : Keeps [.free, .lpe] [Fld.DRV_STAT_UAON] s (uaDriven s n err) :=
  keeps_via (uaMark_keeps _ _ _ _) (by decide) (keeps_setLa (by decide) (keeps_mono (uaDemand_keeps _ _ _ _) (within_nil rfl)))

theorem uaResting_keeps (s : State) (n : Chan) (err : Rat) : Keeps [.free, .lpe] [Fld.DRV_STAT_UAON] s (uaResting s n err) :=
  keeps_via (uaMark_keeps _ _ _ _) (by decide) (keeps_setLa (by decide) (keeps_refl _ _ _))

theorem head_uaDriven (s : State) (n : Chan) (err : Rat) :
    (((uaDriven s n err).la (actOf n)).head (isSecond n)).ua = (s.uaDemand (actOf n) (isSecond n) err).1 ∧
      (((uaDriven s n err).la (actOf n)).head (isSecond n)).integ = ((s.la (actOf n)).head (isSecond n)).integ + err := by
  rw [uaDriven, head_uaMark, la_setLa, head_setHead]
  exact ⟨rfl, rfl⟩

theorem ua_uaResting (s : State) (n : Chan) (err : Rat) : (((uaResting s n err).la (actOf n)).head (isSecond n)).ua = 0 := by
  rw [uaResting, head_uaMark, la_setLa, head_setHead]
end

/-! ### The bus (R407, R496) -/

section
variable {s : State}

/-- The bus loop after a sample of mv. -/
def busSampled (s : State) (mv : Nat) : State :=
  let err := if mv ≤ s.busTarget then (if s.sys.retract || s.flag Fld.SYS_D2DSTAT_SAFE then s.busTarget - mv else 0) else mv - s.busTarget
  let beyond := decide (50 * s.feLim Fld.LPE_FEBUS_FE_LIM < err)
  let ok := if beyond then none else some (s.lpe.busOkSince.getD s.now)
  let free_ := match ok with
    | some a => decide (a + 800000 ≤ s.now)
    | none => false
  { s.free.2 with lpe := { s.free.2.lpe with
    buslim := if s.sys.retract then min (s.free.1.toNat % 32768) (Config.rectLimit s.speed4) else s.free.1.toNat % 32768,
    feBus := feCount s.lpe.feBus beyond, busOkSince := ok, busForbid := s.lpe.busForbid && !free_ } }

theorem exec_busVoltageSample (free : s.lpe.held = false) (lanes : s.d2d.remapAcked = false) (mv : Nat) :
    exec (.busVoltageSample mv) s = .next (busSampled s mv) := by
  change execBusVoltageSample mv s = _
  simp only [execBusVoltageSample, free, lanes, Bool.or_self, Bool.false_eq_true, if_false]
  rfl

theorem busSampled_keeps (s : State) (mv : Nat) : Keeps [.free, .lpe] [] s (busSampled s mv) :=
  keeps_set_lpe (within_nil rfl) (keeps_mono (free_keeps s) (within_nil rfl))

theorem buslim_busSampled (s : State) (mv : Nat) : (busSampled s mv).lpe.buslim < 32768 := by
  have small : s.free.1.toNat % 32768 < 32768 := Nat.mod_lt _ (by decide)
  simp only [busSampled]
  split
  · exact Nat.lt_of_le_of_lt (Nat.min_le_left _ _) small
  · exact small

theorem busSampled_beyond {mv : Nat} (far : s.busTarget + 50 * s.feLim Fld.LPE_FEBUS_FE_LIM < mv) :
    (busSampled s mv).lpe.feBus = s.lpe.feBus + 1 ∧ (busSampled s mv).lpe.busOkSince = none := by
  have above : ¬ mv ≤ s.busTarget := by omega
  have beyond : 50 * s.feLim Fld.LPE_FEBUS_FE_LIM < mv - s.busTarget := by omega
  simp [busSampled, above, beyond, feCount]

theorem busSampled_near : (busSampled s s.busTarget).lpe.feBus = 0 := by
  simp [busSampled, feCount]
end

/-! ### A laser (R319, R407) -/

section
variable {s : State} {n : Chan}

/-- The following-error count of a laser at a sample. -/
def lasCounted (s : State) (n : Chan) (reading : Nat) : State :=
  let sp := s.laserSetp (actOf n) (isSecond n)
  { s with lpe := { s.lpe with feLas := mset (fun _ => 0) s.lpe.feLas n.val (feCount (mget (fun _ => 0) s.lpe.feLas n.val)
    (decide (s.feLim Fld.LPE_FELAS_FE_LIM < max sp reading - min sp reading))) } }

/-- A laser's current after its law. -/
def lasDriven (s t : State) (n : Chan) (h : Nat) : State :=
  let lim := if s.ptOk (actOf n) h then wfield (s.ptWord (actOf n) h 1) 16 12 else 0
  t.free.2.setWrp (actOf n) ((s.wrp (actOf n)).setLas (isSecond n) { (s.wrp (actOf n)).las (isSecond n) with
    cmd := min (t.free.1.toNat % 4096) lim })

theorem exec_laserPowerSample {reading h : Nat} (mode : s.get (Fld.WRP_CFG_AMODE (actOf n)) = 1)
    (lit : s.lgOpen (actOf n) (isSecond n) = true) (free : s.lpe.held = false) (lanes : s.d2d.remapAcked = false)
    (head : ((s.msq (actOf n)).pos (isSecond n)).head = some h) : exec (.laserPowerSample n reading) s =
      .next (if (s.get Fld.LPE_FESTAT_LAS).testBit n.val then lasCounted s n reading else lasDriven s (lasCounted s n reading) n h) := by
  change execLaserPowerSample n reading s = _
  unfold execLaserPowerSample
  extract_lets x second w
  rw [if_neg (by simp [x, second, mode, lit, free, lanes])]
  simp only [x, second, head]
  split <;> rfl

theorem lasDriven_keeps (s t : State) (n : Chan) (h : Nat) : Keeps [.free, .wrp] [] t (lasDriven s t n h) :=
  keeps_setWrp (within_nil rfl) (keeps_mono (free_keeps t) (within_nil rfl))

theorem lasCounted_keeps (s : State) (n : Chan) (reading : Nat) : Keeps [.lpe] [] s (lasCounted s n reading) :=
  keeps_set_lpe (within_nil rfl) (keeps_refl _ _ _)

theorem feLas_lasCounted {reading : Nat} (far : s.laserSetp (actOf n) (isSecond n) + s.feLim Fld.LPE_FELAS_FE_LIM < reading) :
    mget (fun _ => 0) (lasCounted s n reading).lpe.feLas n.val = mget (fun _ => 0) s.lpe.feLas n.val + 1 := by
  have beyond : s.feLim Fld.LPE_FELAS_FE_LIM < max (s.laserSetp (actOf n) (isSecond n)) reading -
      min (s.laserSetp (actOf n) (isSecond n)) reading := by omega
  rw [lasCounted, mget_mset, decide_eq_true beyond]
  rfl

/-! ### A heater (R407, R733) -/

/-- The power that a heater's loop asks of the preamplifier. -/
abbrev heaterAsked (s : State) (n : Chan) : Nat := if isSecond n then (s.wrp (actOf n)).htr1 else (s.wrp (actOf n)).htr0

/-- The following-error count of a heater at a sample. -/
def htrCounted (s : State) (n : Chan) (reported : Nat) : State :=
  { s with lpe := { s.lpe with feHtr := mset (fun _ => 0) s.lpe.feHtr n.val (feCount (mget (fun _ => 0) s.lpe.feHtr n.val)
    (decide (s.feLim Fld.LPE_FEHTR_FE_LIM < max (heaterAsked s n) reported - min (heaterAsked s n) reported))) } }

/-- A heater's loop after a sample: its count, and its power staged for the histograms while it heats. -/
def htrSampled (s : State) (n : Chan) (reported h : Nat) : State :=
  if ((s.msq (actOf n)).pos (isSecond n)).heat = 0 then htrCounted s n reported
  else (htrCounted s n reported).stageContrib n (.hist (56 + 12 * (actOf n).idx + h) (reported : Nat))

theorem exec_heaterSample {reported h : Nat} (head : ((s.msq (actOf n)).pos (isSecond n)).head = some h) (free : s.lpe.held = false)
    (ok : s.actOk (actOf n) = true) : exec (.heaterSample n reported) s = .next (htrSampled s n reported h) := by
  change execHeaterSample n reported s = _
  have go : (s.lpe.held || !s.actOk (actOf n)) = false := by simp [free, ok]
  simp only [execHeaterSample, head, go, Bool.false_eq_true, if_false]
  rfl

theorem htrStaged_keeps (s : State) (n : Chan) (reported h : Nat) : Keeps [.ch] [] (htrCounted s n reported) (htrSampled s n reported h) :=
  keeps_ite (keeps_refl _ _ _) (keeps_setCh (within_nil rfl) (keeps_refl _ _ _))

theorem htrSampled_keeps (s : State) (n : Chan) (reported h : Nat) : Keeps [.ch, .lpe] [] s (htrSampled s n reported h) :=
  keeps_via (htrStaged_keeps s n reported h) (within_nil rfl) (keeps_set_lpe (within_nil rfl) (keeps_refl _ _ _))

theorem feHtr_htrSampled (s : State) (n : Chan) (reported h : Nat) : mget (fun _ => 0) (htrSampled s n reported h).lpe.feHtr n.val =
    feCount (mget (fun _ => 0) s.lpe.feHtr n.val)
      (decide (s.feLim Fld.LPE_FEHTR_FE_LIM < max (heaterAsked s n) reported - min (heaterAsked s n) reported)) := by
  have same : (htrSampled s n reported h).lpe = (htrCounted s n reported).lpe :=
    (htrStaged_keeps s n reported h).part .lpe (by decide) (by decide)
  rw [same, htrCounted, mget_mset]
end

/-! ### The spindle (R448 to R455) -/

theorem windowStep_keeps (s : State) : Keeps [.free] [Fld.SPN_CNT_VLIM, Fld.SPN_CNT_NARROW] s s.windowStep := by
  have taken : Keeps [.free] [Fld.SPN_CNT_VLIM, Fld.SPN_CNT_NARROW] s s.free.2 := keeps_mono (free_keeps s) (within_nil rfl)
  refine keeps_ite taken (keeps_bump ?_ taken)
  split <;> decide

/-- The spindle's target and the time of its last sample are as they were. -/
structure SpnTimed (s t : State) : Prop where
  target : t.spn.target = s.spn.target
  sampleAt : t.spn.sampleAt = s.spn.sampleAt

namespace SpnTimed

variable {s t u : State}

theorem refl (s : State) : SpnTimed s s := ⟨rfl, rfl⟩

theorem trans (h : SpnTimed s t) (k : SpnTimed t u) : SpnTimed s u := ⟨k.target.trans h.target, k.sampleAt.trans h.sampleAt⟩

/-- What leaves the spindle's own state alone. -/
theorem of_keeps {P : List Part} {R : List Field} (k : Keeps P R s t) (spn : Part.spn ∉ P) : SpnTimed s t := by
  have same : t.spn = s.spn := k.part .spn (by decide) spn
  exact ⟨congrArg SpnSt.target same, congrArg SpnSt.sampleAt same⟩

theorem ite {c : Prop} [Decidable c] (h : SpnTimed s t) (k : SpnTimed s u) : SpnTimed s (if c then t else u) := by
  split <;> assumption

theorem putb (h : SpnTimed s t) (f : Field) (b : Bool) : SpnTimed s (t.putb f b) := h.trans (of_keeps (State_putb_keeps t f b) (by decide))

theorem put (h : SpnTimed s t) (f : Field) (v : Nat) : SpnTimed s (t.put f v) := h.trans (of_keeps (State_put_keeps t f v) (by decide))

theorem raise (h : SpnTimed s t) (f : Field) : SpnTimed s (t.raise f) := h.trans (of_keeps (raise_keeps t f) (by decide))

/-- The spindle's state written with its target and sample time as they were. -/
theorem setSpn (h : SpnTimed s t) (p : SpnSt) (target : p.target = t.spn.target) (at_ : p.sampleAt = t.spn.sampleAt) :
    SpnTimed s { t with spn := p } :=
  ⟨target.trans h.target, at_.trans h.sampleAt⟩

theorem setSys (h : SpnTimed s t) (d : SysSt) : SpnTimed s { t with sys := d } := h.trans ⟨rfl, rfl⟩

theorem setLpe (h : SpnTimed s t) (l : LpeSt) : SpnTimed s { t with lpe := l } := h.trans ⟨rfl, rfl⟩

theorem free (h : SpnTimed s t) : SpnTimed s t.free.2 := h.trans (of_keeps (free_keeps t) (by decide))

/-- A state of the spindle entered. -/
theorem spnEnter (h : SpnTimed s t) (k : Nat) : SpnTimed s (t.spnEnter k) := by
  unfold State.spnEnter
  extract_lets s1 s2 s3 s4 none_ s5 p p1
  have step1 : SpnTimed s s1 := (h.put _ _).putb _ _
  have step2 : SpnTimed s s2 := ite step1 (step1.putb _ _)
  have step3 : SpnTimed s s3 := ite step2 (step2.putb _ _)
  have step4 : SpnTimed s s4 := ite (step3.putb _ _) (ite step3 (step3.putb _ _))
  have step5 : SpnTimed s s5 := ite (step4.putb _ _) step4
  have cleared : p1.target = p.target ∧ p1.sampleAt = p.sampleAt := by
    dsimp only [p1]
    split <;> exact ⟨rfl, rfl⟩
  exact step5.setSpn _ cleared.1 cleared.2

theorem inregClear (h : SpnTimed s t) : SpnTimed s t.inregClear := (h.putb _ _).setSpn _ rfl rfl

theorem inregStep (h : SpnTimed s t) : SpnTimed s t.inregStep := by
  unfold State.inregStep
  refine ite (ite ?_ (h.setSpn _ rfl rfl)) (ite h.inregClear (h.setSpn _ rfl rfl))
  have near : SpnTimed s { t with spn := { t.spn with inreg := t.spn.inreg + 1 } } := h.setSpn _ rfl rfl
  have told := ((near.putb Fld.SPN_STAT_INREG true).raise Fld.SPN_EV_INREG).putb Fld.VALE_STAT_TOKEN false
  exact told.setSys _

theorem levelCheck (h : SpnTimed s t) (rpm4 : Nat) (revEnd : Bool) : SpnTimed s (t.levelCheck rpm4 revEnd) :=
  ite ((h.spnEnter _).raise _) (ite ((h.spnEnter _).raise _) (ite ((h.putb _ _).raise _) h))

theorem applyTorque (h : SpnTimed s t) (out : Int) : SpnTimed s (t.applyTorque out) := h.setSpn _ rfl rfl

theorem sample (h : SpnTimed s t) (id bin : Nat) (v : Int) (ctx : Nat) : SpnTimed s (t.sample id bin v ctx) :=
  h.trans (of_keeps (keeps_sample (P := [.rbk]) (F := []) (by decide) (keeps_refl _ _ _)) (by decide))

theorem windowStep (h : SpnTimed s t) : SpnTimed s t.windowStep := by
  have counted : Keeps [.free] [Fld.SPN_CNT_VLIM, Fld.SPN_CNT_NARROW] t t.windowStep := windowStep_keeps t
  exact h.trans (of_keeps counted (by decide))

theorem spnOutput (h : SpnTimed s t) (mv : Nat) : SpnTimed s (t.spnOutput mv) := by
  unfold State.spnOutput
  have demand : SpnTimed s t.spnDemand.2 := h.free
  refine ite h (ite ((((h.put _ _).put _ _).setLpe _).applyTorque 0 |>.sample _ _ _ _) ?_)
  dsimp only
  have out (w : Nat) (o : Int) (l : LpeSt) :=
    (((((demand.setLpe l).put Fld.LPE_ARBS_WIN w).put Fld.LPE_ARBS_OUT (unsgn 16 o)).applyTorque o).sample 86 w w 0x400)
  exact ite (out _ _ _) (out _ _ _).windowStep

end SpnTimed

section
variable (s : State)

theorem swapAt_keeps (g : Nat) : Keeps [.lpe] [Fld.LPE_BANK_SWAP, Fld.LPE_BANK_ACTIVE] s (s.swapAt g) := by
  have active : Keeps [.lpe] [Fld.LPE_BANK_SWAP, Fld.LPE_BANK_ACTIVE] s
      (s.put Fld.LPE_BANK_ACTIVE (s.get Fld.LPE_BANK_ACTIVE ^^^ 2 ^ g)) := keeps_put (by decide) (keeps_refl _ _ _)
  exact keeps_ite (keeps_refl _ _ _) (keeps_ite (keeps_set_lpe (by decide) active) (keeps_put (by decide) active))

theorem spnBand_keeps : Keeps [.lpe] [] s s.spnBand := by
  have shown : Keeps [.lpe] [] s { s with lpe := { s.lpe with sBand := s.get Fld.THM_STAT_BAND } } :=
    keeps_set_lpe (by decide) (keeps_refl _ _ _)
  exact keeps_ite (keeps_refl _ _ _) (keeps_set_lpe (by decide) shown)

/-- The fields of the pin's measurement. -/
def pinFields : List Field := [Fld.SPN_PIN_TGT, Fld.SPN_PIN_RAW, Fld.SPN_PIN_VALID]

/-- Whether the pin stops the spindle. -/
def pinMark (v : Bool) : State := { s with spn := { s.spn with pinStop := v } }

/-- A measurement of the pin shown. -/
def pinShown (x t : Nat) : State := ((s.putb Fld.SPN_PIN_VALID true).put Fld.SPN_PIN_RAW x).put Fld.SPN_PIN_TGT t

theorem pinMark_keeps (v : Bool) : Keeps [.spn] [] s (pinMark s v) := keeps_set_spn (by decide) (keeps_refl _ _ _)

theorem pinShown_keeps (x t : Nat) : Keeps [] pinFields s (pinShown s x t) :=
  keeps_put (by decide) (keeps_put (by decide) (keeps_putb (by decide) (keeps_refl _ _ _)))

/-- A measurement in range, from one of the pin's sources. -/
theorem pinStep_read {a b x t : Nat} (pin : s.get Fld.SPN_CMDSRC_SRC ≠ 0) (found : s.pinTarget a b = some (x, t)) : s.pinStep a b =
    if s.get Fld.SPN_CMDSRC_SRC = 3 then pinMark (pinShown s x t) false
    else if x < 64 then pinMark (pinShown s x t) true
    else if (pinShown s x t).spn.pinStop = true then
      (if (pinMark (pinShown s x t) false).flag Fld.SPN_CTL_RUN = true then (pinMark (pinShown s x t) false).startDecision false
        else pinMark (pinShown s x t) false)
    else pinShown s x t := by
  simp only [State.pinStep, if_neg pin, found]
  rfl

/-- While RUN is 0 the pin's measurement is at most shown, and marked: it starts nothing (R451 to R453). -/
theorem pinStep_stopped (stopped : s.flag Fld.SPN_CTL_RUN = false) (a b : Nat) : s.pinStep a b = s ∨
    (∃ v, s.pinStep a b = pinMark s v) ∨ (∃ x t, s.pinStep a b = pinShown s x t) ∨ ∃ x t v, s.pinStep a b = pinMark (pinShown s x t) v := by
  by_cases pin : s.get Fld.SPN_CMDSRC_SRC = 0
  · exact .inr (.inl ⟨false, if_pos pin⟩)
  · cases found : s.pinTarget a b with
    | none => exact .inl ((if_neg pin).trans (by rw [found]))
    | some p =>
      obtain ⟨x, t⟩ := p
      have idle : ¬ (pinMark (pinShown s x t) false).flag Fld.SPN_CTL_RUN = true := by
        rw [keeps_flag (pinMark_keeps _ _) _ (by decide) rfl, keeps_flag (pinShown_keeps s x t) _ (by decide) (by decide), stopped]
        decide
      rw [pinStep_read s pin found, if_neg idle]
      split
      · exact .inr (.inr (.inr ⟨x, t, false, rfl⟩))
      · split
        · exact .inr (.inr (.inr ⟨x, t, true, rfl⟩))
        · split
          · exact .inr (.inr (.inr ⟨x, t, false, rfl⟩))
          · exact .inr (.inr (.inl ⟨x, t, rfl⟩))

theorem pinStep_keeps {s : State} (stopped : s.flag Fld.SPN_CTL_RUN = false) (a b : Nat) :
    Keeps [.spn] pinFields s (s.pinStep a b) ∧ SpnTimed s (s.pinStep a b) := by
  have mark (t : State) (v : Bool) : SpnTimed t (pinMark t v) := (SpnTimed.refl t).setSpn _ rfl rfl
  have shown (x t : Nat) : SpnTimed s (pinShown s x t) := .of_keeps (pinShown_keeps s x t) (by decide)
  obtain same | ⟨v, same⟩ | ⟨x, t, same⟩ | ⟨x, t, v, same⟩ := pinStep_stopped s stopped a b
  · rw [same]
    exact ⟨keeps_refl _ _ _, .refl s⟩
  · rw [same]
    exact ⟨keeps_mono (pinMark_keeps s v) (by decide), mark s v⟩
  · rw [same]
    exact ⟨keeps_mono (pinShown_keeps s x t) (by decide), shown x t⟩
  · rw [same]
    exact ⟨keeps_via (pinMark_keeps _ v) (by decide) (keeps_mono (pinShown_keeps s x t) (by decide)), (shown x t).trans (mark _ v)⟩

theorem inregClear_keeps : Keeps [.spn] [Fld.SPN_STAT_INREG] s s.inregClear :=
  keeps_set_spn (by decide) (keeps_putb (by decide) (keeps_refl _ _ _))

/-- The fields of INREG at a sample, with the token that it returns. -/
def inregFields : List Field := recFields ++ [Fld.SPN_EV_INREG, Fld.SPN_STAT_INREG, Fld.VALE_STAT_TOKEN]

theorem inregStep_keeps : Keeps [.rbk, .spn, .sys] inregFields s s.inregStep := by
  have near : Keeps [.rbk, .spn, .sys] inregFields s { s with spn := { s.spn with inreg := s.spn.inreg + 1 } } :=
    keeps_set_spn (by decide) (keeps_refl _ _ _)
  have told : Keeps [.rbk, .spn, .sys] inregFields s ((({ s with spn := { s.spn with inreg := s.spn.inreg + 1 } }).putb Fld.SPN_STAT_INREG
      true).raise Fld.SPN_EV_INREG).dropToken :=
    keeps_putb (by decide) (keeps_raise (by decide) (keeps_putb (by decide) near))
  exact keeps_ite (keeps_ite (keeps_set_sys (by decide) told) near) (keeps_ite (keeps_mono (inregClear_keeps s) (by decide))
    (keeps_set_spn (by decide) (keeps_refl _ _ _)))

/-- The fields of a change of Level. -/
def levelFields : List Field := recFields ++ Fld.SPN_EV_LEVEL :: spnEnterFields

theorem levelCheck_keeps (rpm4 : Nat) (revEnd : Bool) : Keeps [.rbk, .spn] levelFields s (s.levelCheck rpm4 revEnd) := by
  have enters (k : Nat) : Keeps [.rbk, .spn] levelFields s ((s.spnEnter k).raise Fld.SPN_EV_LEVEL) :=
    keeps_raise (by decide) (keeps_spnEnter (by decide) (keeps_refl _ _ _))
  exact keeps_ite (enters _) (keeps_ite (enters _) (keeps_ite (keeps_raise (by decide) (keeps_putb (by decide) (keeps_refl _ _ _)))
    (keeps_refl _ _ _)))

theorem levelCheck_of_stopped (stopped : s.spnState = spnStopped) (rpm4 : Nat) (revEnd : Bool) : s.levelCheck rpm4 revEnd = s := by
  simp [State.levelCheck, stopped, spnStopped, spnL1, spnL2, spnDecel]

/-- The fields of the spindle's output. -/
def spnOutFields : List Field := [Fld.LPE_ARBS_OUT, Fld.LPE_ARBS_WIN, Fld.SPN_CNT_VLIM, Fld.SPN_CNT_NARROW]

theorem spnOutput_keeps (mv : Nat) : Keeps [.free, .lpe, .rbk, .spn] spnOutFields s (s.spnOutput mv) := by
  unfold State.spnOutput
  have applied {t : State} (o : Int) (k : Keeps [.free, .lpe, .rbk, .spn] spnOutFields s t) :
      Keeps [.free, .lpe, .rbk, .spn] spnOutFields s (t.applyTorque o) := keeps_set_spn (by decide) k
  have demand : Keeps [.free, .lpe, .rbk, .spn] spnOutFields s s.spnDemand.2 := keeps_mono (free_keeps s) (by decide)
  refine keeps_ite (keeps_refl _ _ _) (keeps_ite ?_ ?_)
  · exact keeps_sample (by decide) (applied 0 (keeps_set_lpe (by decide) (keeps_put (by decide) (keeps_put (by decide)
      (keeps_refl _ _ _)))))
  · dsimp only
    have out (w : Nat) (o : Int) (l : LpeSt) : Keeps [.free, .lpe, .rbk, .spn] spnOutFields s
        (((({ s.spnDemand.2 with lpe := l } : State).put Fld.LPE_ARBS_WIN w).put Fld.LPE_ARBS_OUT (unsgn 16 o)).applyTorque o |>.sample 86 w
          w 0x400) :=
      keeps_sample (by decide) (applied o (keeps_put (by decide) (keeps_put (by decide) (keeps_set_lpe (by decide) demand))))
    exact keeps_ite (out _ _ _) (keeps_via (windowStep_keeps _) (by decide) (out _ _ _))
end

section
variable (s : State)

/-! ### A sample of the spindle while RUN is 0 (R448, R465) -/

theorem speedTarget_stopped {s : State} (stopped : s.flag Fld.SPN_CTL_RUN = false) :
    s.speedTarget = (if s.loaded .a || s.loaded .b then s.spn.target else 0, false) := by
  simp only [State.speedTarget, stopped, Bool.not_false, Bool.true_or, if_true]
  split <;> rfl

/-- What a sample reads before its target: the bank, the band and the pin. -/
def spnRead (a b : Nat) : State := ((s.swapAt 2).spnBand).pinStep a b

/-- The target taken. -/
def spnAimed (t : Nat) (cap : Bool) : State :=
  let s2 := s.putb Fld.SPN_STAT_LOWV cap
  if t = s2.spn.target then s2 else ({ s2 with spn := { s2.spn with target := t } }).inregClear

/-- The ramp and the time of the sample. -/
def spnClocked (u : State) (t : Nat) : State :=
  let k := u.spnState
  let ramped := if k = spnL1 ∨ k = spnL2 ∨ k = spnDecel then u.rampStep u.spn.ramped t (s.now - s.spn.sampleAt) else u.spn.ramped
  { u with spn := { u.spn with ramped := ramped, sampleAt := s.now } }

/-- What follows the target: INREG, the Level and the output. -/
def spnDriven (mv : Nat) : State := (s.inregStep.levelCheck s.inregStep.speed4 false).spnOutput mv

theorem exec_spindleSample {s : State} {a b t : Nat} {cap : Bool} (free : s.lpe.held = false)
    (aim : (spnRead s a b).speedTarget = (t, cap)) (mv : Nat) :
    exec (.spindleSample a b mv) s = .next (spnDriven (spnClocked s (spnAimed (spnRead s a b) t cap) t) mv).syncMode := by
  have go : ¬ s.lpe.held = true := by simp [free]
  have aim' : (((s.swapAt 2).spnBand).pinStep a b).speedTarget = (t, cap) := aim
  change execSpindleSample a b mv s = _
  rw [execSpindleSample, if_neg go]
  simp only [aim']
  rfl

theorem spnAimed_keeps (t : Nat) (cap : Bool) : Keeps [.spn] [Fld.SPN_STAT_INREG, Fld.SPN_STAT_LOWV] s (spnAimed s t cap) := by
  have told : Keeps [.spn] [Fld.SPN_STAT_INREG, Fld.SPN_STAT_LOWV] s (s.putb Fld.SPN_STAT_LOWV cap) := keeps_putb (by decide) (keeps_refl _ _ _)
  exact keeps_ite told (keeps_via (inregClear_keeps _) (by decide) (keeps_set_spn (by decide) told))

theorem target_spnAimed (t : Nat) (cap : Bool) : (spnAimed s t cap).spn.target = t := by
  unfold spnAimed
  extract_lets s2
  split
  · exact (‹t = _›).symm
  · rfl

theorem spnClocked_keeps (u : State) (t : Nat) : Keeps [.spn] [] u (spnClocked s u t) := keeps_set_spn (by decide) (keeps_refl _ _ _)

theorem spnClocked_shown (u : State) (t : Nat) : (spnClocked s u t).spn.target = u.spn.target ∧ (spnClocked s u t).spn.sampleAt = s.now :=
  ⟨rfl, rfl⟩

theorem spnDriven_timed (mv : Nat) : SpnTimed s (spnDriven s mv) := ((SpnTimed.refl s).inregStep.levelCheck _ _).spnOutput mv

theorem spnDriven_keeps (mv : Nat) : Keeps [.free, .lpe, .rbk, .spn, .sys] (spnOutFields ++ levelFields ++ inregFields) s (spnDriven s mv) :=
  keeps_via (spnOutput_keeps _ mv) (by decide) (keeps_via (levelCheck_keeps _ _ _) (by decide) (keeps_mono (inregStep_keeps s) (by decide)))

/-- The fields of what a sample reads and aims at. -/
def spnAimFields : List Field := pinFields ++ [Fld.LPE_BANK_SWAP, Fld.LPE_BANK_ACTIVE, Fld.SPN_STAT_INREG, Fld.SPN_STAT_LOWV]

theorem banked_keeps : Keeps [.lpe] [Fld.LPE_BANK_SWAP, Fld.LPE_BANK_ACTIVE] s (s.swapAt 2).spnBand :=
  keeps_via (spnBand_keeps _) (within_nil rfl) (swapAt_keeps s 2)

variable {s}

theorem spnRead_keeps (stopped : s.flag Fld.SPN_CTL_RUN = false) (a b : Nat) :
    Keeps [.lpe, .spn] spnAimFields s (spnRead s a b) ∧ SpnTimed s (spnRead s a b) := by
  have banked := banked_keeps s
  obtain ⟨keeps, timed⟩ := pinStep_keeps ((keeps_flag banked _ (by decide) (by decide)).trans stopped) a b
  exact ⟨keeps_via keeps (by decide) (keeps_mono banked (by decide)), (SpnTimed.of_keeps banked (by decide)).trans timed⟩

/-- The state of a sample before the mode follows. -/
def spnSampled (s : State) (a b mv t : Nat) : State := spnDriven (spnClocked s (spnAimed (spnRead s a b) t false) t) mv

theorem spnAim_keeps (stopped : s.flag Fld.SPN_CTL_RUN = false) (a b t : Nat) :
    Keeps [.lpe, .spn] spnAimFields s (spnClocked s (spnAimed (spnRead s a b) t false) t) :=
  keeps_via (spnClocked_keeps _ _ t) (within_nil rfl) (keeps_via (spnAimed_keeps _ t false) (by decide) (spnRead_keeps stopped a b).1)

theorem spnSampled_shown (a b mv t : Nat) : (spnSampled s a b mv t).spn.target = t ∧ (spnSampled s a b mv t).spn.sampleAt = s.now := by
  have timed := spnDriven_timed (spnClocked s (spnAimed (spnRead s a b) t false) t) mv
  obtain ⟨target, at_⟩ := spnClocked_shown s (spnAimed (spnRead s a b) t false) t
  exact ⟨timed.target.trans (target.trans (target_spnAimed _ _ _)), timed.sampleAt.trans at_⟩

theorem spnSampled_keeps (stopped : s.flag Fld.SPN_CTL_RUN = false) (a b mv t : Nat) : Keeps [.free, .lpe, .rbk, .spn, .sys]
    (spnAimFields ++ (spnOutFields ++ levelFields ++ inregFields)) s (spnSampled s a b mv t) :=
  keeps_via (spnDriven_keeps _ mv) (by decide) (keeps_mono (spnAim_keeps stopped a b t) (by decide))

theorem exec_spindleSample_stopped {t : Nat} (free : s.lpe.held = false) (stopped : s.flag Fld.SPN_CTL_RUN = false)
    (aim : (if s.loaded .a || s.loaded .b then s.spn.target else 0) = t) (a b mv : Nat) :
    exec (.spindleSample a b mv) s = .next (spnSampled s a b mv t).syncMode := by
  obtain ⟨keeps, timed⟩ := spnRead_keeps stopped a b
  refine exec_spindleSample (cap := false) free ?_ mv
  rw [speedTarget_stopped ((keeps_flag keeps _ (by decide) (by decide)).trans stopped), keeps_loaded keeps (by decide),
    keeps_loaded keeps (by decide), timed.target, aim]

/-- The target of a spindle that decelerates to a stop. -/
def spnNoTarget (t : State) : State := { t with spn := { t.spn with target := 0 } }

theorem spnNoTarget_shown (t : State) : (spnNoTarget t).spn.sampleAt = t.spn.sampleAt ∧ (spnNoTarget t).spn.target = 0 := ⟨rfl, rfl⟩

/-- What is to be stopped is stopped with its target as it was, or at 0. -/
theorem stopNow_timed (s : State) : s.stopNow.spn.sampleAt = s.spn.sampleAt ∧
    (s.stopNow.spn.target = s.spn.target ∨ s.stopNow.spn.target = 0) := by
  have same (t : State) (h : SpnTimed s t) : t.spn.sampleAt = s.spn.sampleAt ∧ (t.spn.target = s.spn.target ∨ t.spn.target = 0) :=
    ⟨h.sampleAt, .inl h.target⟩
  have enters (k : Nat) := same _ ((SpnTimed.refl s).spnEnter k)
  have none_ := same s (.refl s)
  have slows : (spnNoTarget (s.spnEnter spnDecel)).spn.sampleAt = s.spn.sampleAt ∧
      ((spnNoTarget (s.spnEnter spnDecel)).spn.target = s.spn.target ∨ (spnNoTarget (s.spnEnter spnDecel)).spn.target = 0) := by
    obtain ⟨at_, target⟩ := spnNoTarget_shown (s.spnEnter spnDecel)
    exact ⟨at_.trans (enters spnDecel).1, .inr target⟩
  unfold State.stopNow
  extract_lets k fast t
  split
  · split
    · exact slows
    · exact enters _
  · split
    · split
      · exact none_
      · exact enters _
    · split
      · split
        · exact none_
        · exact enters _
      · split
        · exact enters _
        · exact none_

/-- While RUN is 0, the mode that follows leaves a target of 0 at 0, and the time of the sample (R465). -/
theorem syncMode_timed (stopped : s.flag Fld.SPN_CTL_RUN = false) (zero : s.spn.target = 0) :
    s.syncMode.spn.target = 0 ∧ s.syncMode.spn.sampleAt = s.spn.sampleAt := by
  have refd : s.refCheck.spn = s.spn := (refCheck_own_keeps s).part .spn (by decide) (by decide)
  have checked : s.spnCheck = s.refCheck ∨ s.spnCheck = s.refCheck.stopNow := by
    simp only [State.spnCheck, stopped, Bool.and_false, Bool.false_eq_true, if_false]
    split
    · exact .inr rfl
    · exact .inl rfl
  have base : s.spnCheck.spn.target = 0 ∧ s.spnCheck.spn.sampleAt = s.spn.sampleAt := by
    obtain same | same := checked
    · rw [same, refd]
      exact ⟨zero, rfl⟩
    · obtain ⟨at_, target⟩ := stopNow_timed s.refCheck
      rw [refd] at at_ target
      rw [same]
      exact ⟨target.elim (·.trans zero) id, at_⟩
  have watched : (modeBase s).spn = s.spnCheck.spn := (runWatch_keeps _).part .spn (by decide) (by decide)
  have mode : s.syncMode.spn = (modeBase s).spn := (syncMode_change_keeps s).part .spn (by decide) (by decide)
  rw [mode, watched]
  exact base

/-- A stopped spindle stays stopped through its sample, and its own state is as the sample leaves it. -/
theorem spn_of_stopped (stopped : s.flag Fld.SPN_CTL_RUN = false) (idle : s.spnState = spnStopped) (a b mv t : Nat) :
    (spnSampled s a b mv t).syncMode.spn = (spnSampled s a b mv t).spn := by
  have aimed := spnAim_keeps stopped a b t
  have ranged := inregStep_keeps (spnClocked s (spnAimed (spnRead s a b) t false) t)
  have still : (spnClocked s (spnAimed (spnRead s a b) t false) t).inregStep.spnState = spnStopped :=
    (keeps_get ranged _ (by decide) (by decide)).trans ((keeps_get aimed _ (by decide) (by decide)).trans idle)
  have out : spnSampled s a b mv t = (spnClocked s (spnAimed (spnRead s a b) t false) t).inregStep.spnOutput mv := by
    rw [spnSampled, spnDriven, levelCheck_of_stopped _ still]
  have rest : (spnSampled s a b mv t).spnState = spnStopped := by
    rw [out]
    exact (keeps_get (spnOutput_keeps _ mv) _ (by decide) (by decide)).trans still
  have off : (spnSampled s a b mv t).flag Fld.SPN_CTL_RUN = false :=
    (keeps_flag (spnSampled_keeps stopped a b mv t) _ (by decide) (by decide)).trans stopped
  exact (syncMode_keeps_running _ (spnCheck_of_stopped _ off rest)).part .spn (by decide) (by decide)

theorem spnSample_keeps (stopped : s.flag Fld.SPN_CTL_RUN = false) (a b mv t : Nat) : Keeps [.free, .lpe, .msq, .rbk, .spn, .sys,
    .vale, .wrp] (modeFields ++ retractFields ++ [Fld.LPE_ARBS_OUT, Fld.LPE_ARBS_WIN, Fld.LPE_BANK_SWAP, Fld.LPE_BANK_ACTIVE,
    Fld.SPN_EV_INREG, Fld.SPN_EV_LEVEL, Fld.SPN_STAT_INREG, Fld.SPN_STAT_LOWV, Fld.SPN_PIN_TGT, Fld.SPN_PIN_RAW, Fld.SPN_PIN_VALID,
    Fld.SPN_CNT_VLIM, Fld.SPN_CNT_NARROW, Fld.SPN_CNT2_STARTS]) s (spnSampled s a b mv t).syncMode :=
  keeps_via (syncMode_keeps _) (by decide) (keeps_mono (spnSampled_keeps stopped a b mv t) (by decide))
end

end Sys2Proof.Proofs
end

section
/-!
PROOFS. What a VCM sample may touch (R385 to R406, R416 to R421, R430): the frame, and the steps that stay within it.
-/
namespace Sys2Proof.Proofs

open Sys2Proof.Machine Sys2Proof.Safety Sys2Proof.Laws

/-! ### The frame of a VCM sample -/

/-- The parts that a VCM sample may touch. -/
def sampleParts : List Part := [.ang, .ch, .free, .lpe, .mem, .msq, .plk, .rbk, .spn, .sys, .vale, .wrp]

/-- The fields that a VCM sample of an actuator may write of its own, before it shows the coil current. -/
def sampleOwn (x : Act) : List Field :=
  chanFields ++ guardOwn .a ++ guardOwn .b ++ modeFields ++ couplingFields ++ loopFields ++ [Fld.ANG_EV_BCLKRNG, ⟨Reg.ANG_BPR 0, 0, 32⟩,
    ⟨Reg.ANG_BPR 1, 0, 32⟩, ⟨Reg.ANG_BPR 2, 0, 32⟩, ⟨Reg.ANG_BPR 3, 0, 32⟩, Fld.LPE_EV_COASTA, Fld.LPE_EV_COASTB, Fld.LPE_BANK_SWAP,
    Fld.LPE_BANK_ACTIVE, Fld.LPE_POS_POS .a, Fld.LPE_POS_POS .b, Fld.LPE_ARB_OUT x, Fld.LPE_ARB_WIN x, Fld.LPE_PES_PES0 x,
    Fld.LPE_PES_PES1 x, Fld.MSQ_DOORBELL_RING x, Fld.MSQ_FLTPC_PC x, Fld.MSQ_FLT_PROG x, Fld.MSQ_FLT_SAPCAP x, Fld.MSQ_FLT_STEP x]

/-- The fields that a VCM sample may write, with those that notes put back. -/
def sampleFields (s : State) (x : Act) : List Field := notedFields s .a ++ notedFields s .b ++ sampleOwn x

/-- The field that shows the coil current. -/
abbrev coilField (x : Act) : Field := byAct x Fld.DRV_IVCM_IA Fld.DRV_IVCM_IB

theorem coil_apart (x : Act) : (sampleOwn x).all (fun g => Apart g (coilField x)) = true := by
  cases x <;> decide

theorem coil_guard_apart (x y : Act) : (guardOwn y).all (fun g => Apart g (coilField x)) = true := by
  cases x <;> cases y <;> decide

theorem coil_owned (x : Act) : hardwareOwned (coilField x) = true := by
  cases x <;> decide

/-- A part of a VCM sample of actuator x from s to t: within its frame, no note new, the deadline counts and the coil current as they
were. -/
structure Sampled (x : Act) (s t : State) : Prop where
  keeps : Keeps sampleParts (sampleFields s x) s t
  notes : ∀ y, (t.msq y).allStaged ⊆ (s.msq y).allStaged
  late : (t.la x).late = (s.la x).late
  ovr : (t.la x).ovr = (s.la x).ovr
  coil : t.get (coilField x) = s.get (coilField x)

namespace Sampled

variable {x y : Act} {s t u : State}

theorem refl (x : Act) (s : State) : Sampled x s s :=
  ⟨keeps_refl _ _ _, fun _ => List.Subset.refl _, rfl, rfl, rfl⟩

/-- A step within the sample's own fields. -/
theorem step (h : Sampled x s t) (k : Keeps sampleParts (sampleOwn x) t u) (notes : ∀ y, (u.msq y).allStaged ⊆ (s.msq y).allStaged)
    (late : (u.la x).late = (t.la x).late) (ovr : (u.la x).ovr = (t.la x).ovr) : Sampled x s u where
  keeps := keeps_via k (within_of_subset (List.Subset.refl _) (List.subset_append_right _ _)) h.keeps
  notes := notes
  late := late.trans h.late
  ovr := ovr.trans h.ovr
  coil := (keeps_get k _ (by decide) (coil_apart x)).trans h.coil

/-- What leaves LPE and both sequencers alone. -/
theorem kept {P : List Part} {R : List Field} (h : Sampled x s t) (k : Keeps P R t u) (w : within sampleParts (sampleOwn x) P R = true)
    (lpe : Part.lpe ∉ P) (msq : Part.msq ∉ P) : Sampled x s u :=
  h.step (keeps_mono k w) (fun y => by rw [keeps_msq k msq]; exact h.notes y) (by rw [keeps_la k lpe]) (by rw [keeps_la k lpe])

theorem ite {c : Prop} [Decidable c] (h : Sampled x s t) (k : Sampled x s u) : Sampled x s (if c then t else u) := by
  split <;> assumption

theorem foldl {α : Type} {g : State → α → State} {l : List α} (h : Sampled x s t)
    (k : ∀ v, ∀ a ∈ l, Sampled x s v → Sampled x s (g v a)) : Sampled x s (l.foldl g t) := by
  induction l generalizing t with
  | nil => exact h
  | cons a l ih => exact ih (k t a List.mem_cons_self h) (fun v b mem => k v b (List.mem_cons_of_mem a mem))

/-! ### The state's own operations -/

theorem put (h : Sampled x s t) (f : Field) (v : Nat) (w : within sampleParts (sampleOwn x) [] [f] = true) : Sampled x s (t.put f v) :=
  h.kept (State_put_keeps t f v) w (by decide) (by decide)

theorem putb (h : Sampled x s t) (f : Field) (b : Bool) (w : within sampleParts (sampleOwn x) [] [f] = true) : Sampled x s (t.putb f b) :=
  h.kept (State_putb_keeps t f b) w (by decide) (by decide)

theorem wr (h : Sampled x s t) (a : Nat) (v : Word) (w : within sampleParts (sampleOwn x) [] [⟨a, 0, 32⟩] = true) : Sampled x s (t.wr a v) :=
  h.kept (State_wr_keeps t a v) w (by decide) (by decide)

theorem raise (h : Sampled x s t) (f : Field) (w : within sampleParts (sampleOwn x) [.rbk] (f :: recFields) = true) :
    Sampled x s (t.raise f) :=
  h.kept (raise_keeps t f) w (by decide) (by decide)

theorem sample (h : Sampled x s t) (id bin : Nat) (v : Int) (ctx : Nat) : Sampled x s (t.sample id bin v ctx) :=
  h.kept (P := [.rbk]) (R := []) (keeps_sample (by decide) (keeps_refl _ _ _)) (within_nil rfl) (by decide) (by decide)

theorem free (h : Sampled x s t) : Sampled x s t.free.2 := h.kept (free_keeps t) (within_nil rfl) (by decide) (by decide)

theorem setPlk (h : Sampled x s t) (z : Act) (p : PlkSt) : Sampled x s (t.setPlk z p) :=
  h.kept (P := [.plk]) (R := []) (keeps_setPlk (by decide) (keeps_refl _ _ _)) (within_nil rfl) (by decide) (by decide)

theorem setCh (h : Sampled x s t) (n : Chan) (c : ChanSt) : Sampled x s (t.setCh n c) :=
  h.kept (P := [.ch]) (R := []) (keeps_setCh (by decide) (keeps_refl _ _ _)) (within_nil rfl) (by decide) (by decide)

theorem setVale (h : Sampled x s t) (v : ValeSt) : Sampled x s { t with vale := v } :=
  h.kept (P := [.vale]) (R := []) (keeps_set_vale (by decide) (keeps_refl _ _ _)) (within_nil rfl) (by decide) (by decide)

theorem setCmps (h : Sampled x s t) (z : Act) (c : List (Nat × Cmp)) : Sampled x s (t.setCmps z c) :=
  h.kept (P := [.ang]) (R := []) (keeps_setCmps (by decide) (keeps_refl _ _ _)) (within_nil rfl) (by decide) (by decide)

/-- The loop's own state written, with its deadline counts as they were. -/
theorem setLa (h : Sampled x s t) (l : LpeAct) (late : l.late = (t.la x).late) (ovr : l.ovr = (t.la x).ovr) : Sampled x s (t.setLa x l) := by
  have k : Keeps sampleParts (sampleOwn x) t (t.setLa x l) := keeps_setLa (within_nil rfl) (keeps_refl _ _ _)
  refine h.step k (fun y => ?_) ?_ ?_
  · rw [show (t.setLa x l).msq y = t.msq y by cases x <;> cases y <;> rfl]
    exact h.notes y
  · rw [la_setLa, late]
  · rw [la_setLa, ovr]

/-- A sequencer written, with no note that the sample's first state lacks. -/
theorem setMsq (h : Sampled x s t) (z : Act) (m : Msq) (notes : m.allStaged ⊆ (s.msq z).allStaged) : Sampled x s (t.setMsq z m) := by
  have k : Keeps sampleParts (sampleOwn x) t (t.setMsq z m) := keeps_setMsq (within_nil rfl) (keeps_refl _ _ _)
  have same : (t.setMsq z m).la x = t.la x := by cases x <;> cases z <;> rfl
  refine h.step k (fun y => ?_) (by rw [same]) (by rw [same])
  rw [msq_setMsq_ite]
  split
  · rw [‹y = z›]
    exact notes
  · exact h.notes y

/-! ### Trips and program errors (R184, R207, R329) -/

theorem guardFields_subset (s : State) (y : Act) : guardFields s y ⊆ notedFields s y ++ guardOwn y := by
  intro f hf
  simp only [guardFields, squashFields, guardOwn, tornFields, List.mem_append, List.mem_cons, List.not_mem_nil, or_false] at hf ⊢
  tauto

/-- The fields of a trip lie within the sample's. -/
theorem guardFields_within (h : Sampled x s t) (y : Act) : guardFields t y ⊆ sampleFields s x := by
  intro f hf
  obtain noted | own := List.mem_append.1 (guardFields_subset t y hf)
  · have here := notedFields_of_subset (h.notes y) noted
    cases y <;> simp [sampleFields, here]
  · cases y <;> simp [sampleFields, sampleOwn, own]

/-- A trip of either actuator. -/
theorem trip (h : Sampled x s t) (k : Trip y t u) (steered : Steered y t u) : Sampled x s u := by
  have la : (u.la x).late = (t.la x).late ∧ (u.la x).ovr = (t.la x).ovr := by
    by_cases same : x = y
    · subst same
      obtain ⟨p, aim⟩ := steered.la
      rw [aim]
      exact ⟨rfl, rfl⟩
    · rw [steered.la_other same]
      exact ⟨rfl, rfl⟩
  exact {
    keeps := keeps_via k.keeps (within_of_subset (by decide) (h.guardFields_within y)) h.keeps
    notes := fun z => List.Subset.trans (steered.notes z) (h.notes z)
    late := la.1.trans h.late
    ovr := la.2.trans h.ovr
    coil := (k.get _ (coil_owned x) (coil_guard_apart x y)).trans h.coil }

theorem wgTrip (h : Sampled x s t) (y : Act) (bits : Nat) (neg : Bool) : Sampled x s (t.wgTrip y bits neg) :=
  h.trip (wgTrip_trip t y bits neg) (.wgTripC t y bits neg true)

theorem errFields_within (h : Sampled x s t) : errFields t x ⊆ sampleFields s x := by
  intro f hf
  obtain squash | own := List.mem_append.1 hf
  · exact h.guardFields_within x (List.mem_append_left _ squash)
  · have here : f ∈ sampleOwn x := by
      rw [sampleOwn]
      refine List.mem_append_right _ ?_
      simp only [List.mem_cons, List.not_mem_nil, or_false] at own ⊢
      tauto
    exact List.mem_append_right _ here

theorem progError (h : Sampled x s t) (pc code : Nat) : Sampled x s (t.progError x pc code) := by
  have steered := Steered.progError t x pc code
  obtain ⟨p, aim⟩ := steered.la
  have apart : (guardOwn x ++ Fld.MSQ_FLTPC_PC x :: faultFields x).all (fun g => Apart g (coilField x)) = true := by
    cases x <;> decide
  exact {
    keeps := keeps_via (progError_keeps t x pc code) (within_of_subset (by decide) h.errFields_within) h.keeps
    notes := fun z => List.Subset.trans (steered.notes z) (h.notes z)
    late := by
      rw [aim]
      exact h.late
    ovr := by
      rw [aim]
      exact h.ovr
    coil := (get_progError pc code (coil_owned x) apart).trans h.coil }

end Sampled

end Sys2Proof.Proofs
end

section
/-!
PROOFS. The loop's own steps of a VCM sample (R389 to R406, R416 to R420).
-/
namespace Sys2Proof.Proofs

open Sys2Proof.Machine Sys2Proof.Safety Sys2Proof.Laws

theorem estimate_deadline (ku l1 l2 l3 : Rat) (l : LpeAct) (t : Rat) (y : Option Rat) :
    (estimate ku l1 l2 l3 l t y).late = l.late ∧ (estimate ku l1 l2 l3 l t y).ovr = l.ovr := by
  unfold estimate
  cases y <;> exact ⟨rfl, rfl⟩

/-- The estimator's step, the PES registers and the histograms of a sample's feedback. -/
def feedShown (t : State) (x : Act) (l : LpeAct) (pes0 pes1 : Nat) (b0 b1 : Option Nat) (ok0 ok1 : Bool) (p0 p1 : Int) : State :=
  ((((t.setLa x l).put (Fld.LPE_PES_PES0 x) pes0).put (Fld.LPE_PES_PES1 x) pes1).pesTake x b0 ok0 p0).pesTake x b1 ok1 p1

/-- The targets of heads without valid PES dropped. -/
def feedDropped (t : State) (x : Act) (c0 c1 : Bool) : State :=
  let t1 := if c0 then t.dropTarget x false else t
  if c1 then t1.dropTarget x true else t1

/-- What a search or the coasting makes of the feedback. -/
def feedTaken (t : State) (x : Act) (lost : Bool) (ym : Option Rat) (dt : Rat) : State :=
  if t.flag (lpeSearch x) then t.searchStep x ym dt
  else if t.loaded x then (t.coastStep x lost).pesTrip x
  else t

namespace Sampled

variable {x : Act} {s t u : State}

/-! ### Targets and regions (R153 to R159, R391) -/

theorem setRegion (h : Sampled x s t) (r : Nat) : Sampled x s (t.setRegion x r) :=
  (ite (h.setLa { t.la x with settleAt := t.now, fol := 0 } rfl rfl) h).put (lpeRegion x) r (by cases x <;> decide)

theorem lpeReturn (h : Sampled x s t) : Sampled x s (t.lpeReturn x) := by
  unfold State.lpeReturn
  split
  · exact h.setLa _ rfl rfl
  · exact h.setLa _ rfl rfl

theorem seekNow (h : Sampled x s t) : Sampled x s (t.seekNow x) :=
  (h.lpeReturn.setLa { (t.lpeReturn x).la x with seekWait := false } rfl rfl).setRegion _

theorem seekRelease (h : Sampled x s t) : Sampled x s (t.seekRelease x) := ite h.seekNow h

theorem restartCounts (h : Sampled x s t) (mask : Nat) : Sampled x s (t.restartCounts x mask) := by
  unfold State.restartCounts
  extract_lets clr l l1
  have first : l1.late = l.late ∧ l1.ovr = l.ovr := by
    dsimp only [l1]
    split <;> exact ⟨rfl, rfl⟩
  refine h.setLa _ ?_ ?_
  · split
    · exact first.1
    · exact first.1
  · split
    · exact first.2
    · exact first.2

theorem lpeSeek (h : Sampled x s t) (mask : Nat) : Sampled x s (t.lpeSeek x mask) := by
  have asked : Sampled x s _ := (h.restartCounts mask).setLa { (t.restartCounts x mask).la x with seekAt := t.now } rfl rfl
  exact ite (asked.setLa _ rfl rfl) asked.seekNow

theorem lpeOffset (h : Sampled x s t) (mask : Nat) : Sampled x s (t.lpeOffset x mask) := (h.restartCounts mask).lpeReturn.setRegion _

theorem lpeLoad (h : Sampled x s t) : Sampled x s (t.lpeLoad x) := h.setLa _ rfl rfl

theorem notLoaded (h : Sampled x s t) : Sampled x s (t.notLoaded x) := by
  have parked : Sampled x s (t.setLoaded x false) :=
    h.kept (P := [.sys]) (R := []) (keeps_setLoaded (by decide) (keeps_refl _ _ _)) (within_nil rfl) (by decide) (by decide)
  have shown := ((parked.put (lpeRegion x) 0 (by cases x <;> decide)).putb (lpeCoast x) false (by cases x <;> decide)).putb (lpeSearch x)
    false (by cases x <;> decide)
  exact shown.setMsq x _ (shown.notes x)

theorem lpeUnload (h : Sampled x s t) : Sampled x s (t.lpeUnload x) := h.notLoaded.setLa _ rfl rfl

/-! ### The estimator and the region (R389 to R392) -/

/-- A change of row, with what it changes within the sample's frame. -/
theorem rowChange {f : State → State} (k : Sampled x s (f t)) : Sampled x s (t.rowChange x f) := ite k (k.setLa _ rfl rfl)

theorem regionStep (h : Sampled x s t) : Sampled x s (t.regionStep x) := by
  unfold State.regionStep
  extract_lets l e set fol r n s1 us
  have counted : Sampled x s s1 := h.setLa _ rfl rfl
  exact ite h (ite (ite (h.setRegion 2) h) (ite (ite ((counted.sample _ _ _ _).setRegion 3) counted) (ite (ite (h.setRegion 2) h) h)))

/-! ### The feedback (R402, R416 to R420) -/

theorem pesTake (h : Sampled x s t) (b : Option Nat) (ok : Bool) (pes : Int) : Sampled x s (t.pesTake x b ok pes) := by
  unfold State.pesTake
  split
  · exact h.sample _ _ _ _
  · exact h

theorem dropTarget (h : Sampled x s t) (second : Bool) : Sampled x s (t.dropTarget x second) := by
  refine h.setMsq x _ ?_
  cases second <;> exact h.notes x

theorem searchStep (h : Sampled x s t) (y : Option Rat) (dt : Rat) : Sampled x s (t.searchStep x y dt) := by
  unfold State.searchStep
  extract_lets l
  have marked (m : Option Int) : Sampled x s (t.setLa x { l with h0 := { l.h0 with mark := m } }) := h.setLa _ rfl rfl
  split
  · exact marked _
  · rename_i m
    have found : Sampled x s (t.setLa x { l with p := m, blind := 0, h0 := { l.h0 with mark := none } }) := h.setLa _ rfl rfl
    split
    · exact ite (((found.putb _ false (by cases x <;> decide)).putb _ false (by cases x <;> decide)).setRegion _) (marked _)
    · exact marked _

theorem coastStep (h : Sampled x s t) (lost : Bool) : Sampled x s (t.coastStep x lost) := by
  have begun : Sampled x s (if t.flag (lpeCoast x) then t else (t.putb (lpeCoast x) true).raise (byAct x Fld.LPE_EV_COASTA
      Fld.LPE_EV_COASTB)) :=
    ite h ((h.putb _ true (by cases x <;> decide)).raise _ (by cases x <;> decide))
  exact ite (ite begun (begun.wgTrip x _ _)) (ite ((h.putb _ false (by cases x <;> decide)).setRegion 2) h)

theorem pesTrip (h : Sampled x s t) : Sampled x s (t.pesTrip x) := ite (h.wgTrip x _ _) h

theorem feedShown (h : Sampled x s t) {l : LpeAct} (late : l.late = (t.la x).late) (ovr : l.ovr = (t.la x).ovr) (pes0 pes1 : Nat)
    (b0 b1 : Option Nat) (ok0 ok1 : Bool) (p0 p1 : Int) : Sampled x s (feedShown t x l pes0 pes1 b0 b1 ok0 ok1 p0 p1) :=
  ((((h.setLa l late ovr).put _ pes0 (by cases x <;> decide)).put _ pes1 (by cases x <;> decide)).pesTake b0 ok0 p0).pesTake b1 ok1 p1

theorem feedDropped (h : Sampled x s t) (c0 c1 : Bool) : Sampled x s (feedDropped t x c0 c1) := by
  have first : Sampled x s (if c0 then t.dropTarget x false else t) := ite (h.dropTarget false) h
  exact ite (first.dropTarget true) first

theorem feedTaken (h : Sampled x s t) (lost : Bool) (ym : Option Rat) (dt : Rat) : Sampled x s (feedTaken t x lost ym dt) :=
  ite (h.searchStep ym dt) (ite (h.coastStep lost).pesTrip h)

/-- The feedback is the estimator's step with what it shows, the targets it drops, and the search or the coasting. -/
theorem feedback (h : Sampled x s t) (i0 i1 : HeadIn) (dt : Rat) : Sampled x s (t.feedback x i0 i1 dt) := by
  have est (ku l1 l2 l3 : Rat) (e0 e1 : HeadSt) (blind : Nat) (y : Option Rat) (pes0 pes1 : Nat) (b0 b1 : Option Nat) (ok0 ok1 : Bool)
      (p0 p1 : Int) := h.feedShown (estimate_deadline ku l1 l2 l3 { t.la x with h0 := e0, h1 := e1, blind := blind } dt y).1
        (estimate_deadline ku l1 l2 l3 { t.la x with h0 := e0, h1 := e1, blind := blind } dt y).2 pes0 pes1 b0 b1 ok0 ok1 p0 p1
  exact ((est _ _ _ _ _ _ _ _ _ _ _ _ _ _ _ _).feedDropped _ _).feedTaken _ _ dt

theorem vcmFollow (h : Sampled x s t) (i0 i1 : HeadIn) (dt : Rat) : Sampled x s (t.vcmFollow x i0 i1 dt) := by
  have blind (ku l1 l2 l3 : Rat) : Sampled x s (t.setLa x (estimate ku l1 l2 l3 (t.la x) dt none)) :=
    h.setLa _ (estimate_deadline ..).1 (estimate_deadline ..).2
  have followed := ite (c := (t.loaded x || (t.la x).loading) = true) (h.feedback i0 i1 dt)
    (blind (t.vcmCoef x 3) (t.vcmCoef x 4) (t.vcmCoef x 5) (t.vcmCoef x 6))
  exact ite (rowChange followed.regionStep) followed

/-! ### Shock (R329, R332, R399) -/

theorem rvTake (h : Sampled x s t) (sh0 sh1 : Int) : Sampled x s (t.rvTake x sh0 sh1) := h.setLa _ rfl rfl

theorem shockTrip (h : Sampled x s t) (bits : Nat) (neg : Bool) : Sampled x s (t.shockTrip x bits neg) := by
  have noted : Keeps [.wrp] [] t (shocked t) := keeps_set_wrpA_wrpB (within_nil rfl) (keeps_refl _ _ _)
  rw [shockTrip_eq]
  exact ((h.kept noted (within_nil rfl) (by decide) (by decide)).wgTrip x bits neg).wgTrip x.other trgShock false

theorem shockStep (h : Sampled x s t) (sh0 sh1 : Int) : Sampled x s (t.shockStep x sh0 sh1) := by
  have again : Keeps [.wrp] [] t { t with wrpA := { t.wrpA with shockAt := t.now } } := keeps_set_wrpA (within_nil rfl) (keeps_refl _ _ _)
  exact ite h (ite (h.kept again (within_nil rfl) (by decide) (by decide)) (h.shockTrip _ _))

/-! ### The output and what is learned (R393 to R406) -/

theorem vcmDemand (h : Sampled x s t) : Sampled x s (t.vcmDemand x).2 := h.free.setLa _ rfl rfl

theorem vcmOutput (h : Sampled x s t) (mv : Nat) : Sampled x s (t.vcmOutput x mv) := by
  have driven (u : Int) (integ : Rat) (since : Option Nat) (win out : Nat) : Sampled x s
      ((((t.vcmDemand x).2.setLa x { (t.vcmDemand x).2.la x with u := u, integ := integ, satSince := since }).put (Fld.LPE_ARB_WIN x)
        win).put (Fld.LPE_ARB_OUT x) out) :=
    ((h.vcmDemand.setLa { (t.vcmDemand x).2.la x with u := u, integ := integ, satSince := since } rfl rfl).put (Fld.LPE_ARB_WIN x) win
      (by cases x <;> decide)).put (Fld.LPE_ARB_OUT x) out (by cases x <;> decide)
  exact ite h ((driven _ _ _ _ _).sample _ _ _ _)

theorem coupling_within (x : Act) {k : Nat} (small : k < 8) : within sampleParts (sampleOwn x) [] [Fld.LPE_NCOEF_COEF x k] = true := by
  have here : Fld.LPE_NCOEF_COEF x k ∈ couplingFields :=
    List.mem_flatMap.2 ⟨k, List.mem_range.2 small, by cases x <;> simp⟩
  refine within_of_subset (List.nil_subset _) (List.cons_subset.2 ⟨?_, List.nil_subset _⟩)
  simp [sampleOwn, here]

theorem learn (h : Sampled x s t) : Sampled x s (t.learn x) := by
  refine ite h (foldl h (fun v k mem hv => ?_))
  have taken (value : Nat) : Sampled x s (v.free16.2.put (Fld.LPE_NCOEF_COEF x k) value) :=
    hv.free.put _ value (coupling_within x (List.mem_range.1 mem))
  exact ite (taken _) hv

/-! ### What a sample shows (R388, R433) -/

theorem showPos (h : Sampled x s t) (v : Word) : Sampled x s (t.wr (Reg.LPE_POS x) v) := h.wr _ v (by cases x <;> decide)

end Sampled

end Sys2Proof.Proofs
end

section
/-!
PROOFS. The work of the sequencer that a VCM sample lets go on (R136 to R149, R154 to R165, R222, R271, R312, R721).
-/
namespace Sys2Proof.Proofs

open Sys2Proof.Machine Sys2Proof.Safety Sys2Proof.Laws

namespace Sampled

variable {x : Act} {s t u : State}

/-! ### The channels (R106, R222, R271, R312) -/

theorem setBpr (h : Sampled x s t) (n : Chan) (v : Word) : Sampled x s (t.setBpr n v) := by
  have clocked : Sampled x s (t.wr (Reg.ANG_BPR n.val) v) := h.wr _ v (by induction n using chan_cases <;> cases x <;> decide)
  exact ite (clocked.raise _ (by cases x <;> decide)) clocked

theorem zoneClocks (h : Sampled x s t) (c : Nat) : Sampled x s (t.zoneClocks x c) := by
  unfold State.zoneClocks
  extract_lets one
  have each (second : Bool) {v : State} (k : Sampled x s v) : Sampled x s (one second v) := ite (k.setBpr _ _) k
  exact each true (each false h)

theorem loadTaps (h : Sampled x s t) (n : Chan) (addr : Nat) : Sampled x s (t.loadTaps n addr) := ite (h.setCh _ _) h

theorem waveform (h : Sampled x s t) (addr v : Nat) : Sampled x s (t.waveform x addr v) := ite h (h.setPlk _ _)

theorem waveforms (h : Sampled x s t) (head : Nat) : Sampled x s (t.waveforms x head) :=
  ((h.waveform _ _).waveform _ _).waveform _ _

/-- The zone's format, clock and presets of a channel that begins. -/
theorem formatted (h : Sampled x s t) (second : Bool) (rate pi : Nat) (keep : Prop) [Decidable keep] (sync pattern bpr target fe : Word)
    (taps : Nat) : Sampled x s ((((((if keep then t.put (Fld.CH_CFG_RATE (chanOf x second)) rate
      else (t.put (Fld.CH_CFG_RATE (chanOf x second)) rate).put (Fld.CH_CFG_PI (chanOf x second)) pi).wr (Reg.CH_SYNC (chanOf x second))
        sync).wr (Reg.CH_SMPAT (chanOf x second)) pattern).setBpr (chanOf x second) bpr).wr (Reg.CH_TARGET (chanOf x second)) target).wr
        (Reg.CH_FE (chanOf x second)) fe |>.loadTaps (chanOf x second) taps) := by
  have rated : Sampled x s (t.put (Fld.CH_CFG_RATE (chanOf x second)) rate) := h.put _ rate (by cases x <;> cases second <;> decide)
  have inverted := ite (c := keep) rated (rated.put (Fld.CH_CFG_PI (chanOf x second)) pi (by cases x <;> cases second <;> decide))
  have synced := (inverted.wr (Reg.CH_SYNC (chanOf x second)) sync (by cases x <;> cases second <;> decide)).wr
    (Reg.CH_SMPAT (chanOf x second)) pattern (by cases x <;> cases second <;> decide)
  exact (((synced.setBpr _ bpr).wr (Reg.CH_TARGET (chanOf x second)) target (by cases x <;> cases second <;> decide)).wr
    (Reg.CH_FE (chanOf x second)) fe (by cases x <;> cases second <;> decide)).loadTaps _ taps

theorem channelBegin1 (h : Sampled x s t) (second : Bool) (r : MediaRun) (ready : Nat) :
    Sampled x s (t.channelBegin1 x second r ready) := by
  have formatted := h.formatted second
  cases head : ((t.msq x).pos second).head with
  | none =>
    simp only [State.channelBegin1, head]
    exact h
  | some k =>
    simp only [State.channelBegin1, head]
    exact (ite ((formatted _ _ _ _ _ _ _ _ _).waveforms _) (formatted _ _ _ _ _ _ _ _ _)).setCh _ _

theorem channelBegin (h : Sampled x s t) (r : MediaRun) (ready : Nat) : Sampled x s (t.channelBegin x r ready) := by
  have first : Sampled x s (if inMask r.chs false then t.channelBegin1 x false r ready else t) := ite (h.channelBegin1 false r ready) h
  exact ite (first.channelBegin1 true r ready) first

/-! ### The head select and the announcements (R157, R721) -/

theorem headFrame (h : Sampled x s t) (second : Bool) (head : Nat) : Sampled x s (t.headFrame x second head) := h.setPlk _ _

theorem headStrobe (h : Sampled x s t) : Sampled x s (t.headStrobe x) := by
  unfold State.headStrobe
  extract_lets p
  split
  · exact h
  · exact h.setPlk _ _

theorem annUsed (h : Sampled x s t) (c t1 t2 : Nat) : Sampled x s (t.annUsed x c t1 t2) := by
  unfold State.annUsed
  split
  · exact h
  · exact h.setVale _

theorem announce (h : Sampled x s t) (c t1 t2 : Nat) : Sampled x s (t.announce x c t1 t2) := by
  unfold State.announce
  split
  · exact h
  · exact ite h (h.setVale _)

theorem heldAgain (h : Sampled x s t) (w : Work) : Sampled x s (t.heldAgain x w) := by
  unfold State.heldAgain
  split
  · exact h.announce _ _ _
  · exact h

/-- A comparator armed for an angle (R136). -/
theorem armQual {k ang : Nat} (h : Sampled x s t) (armed : t.armQual x ang = some (k, u)) : Sampled x s u := by
  unfold State.armQual at armed
  split at armed
  · cases armed
    exact h.setCmps _ _
  · cases armed

/-! ### What an item does as it begins (R154 to R165) -/

/-- The heads' settings changed, and no note. -/
theorem setHeads (h : Sampled x s t) (p0 p1 : ChPos) : Sampled x s (t.setMsq x { t.msq x with pos0 := p0, pos1 := p1 }) :=
  h.setMsq x _ (h.notes x)

theorem beginEffect (h : Sampled x s t) (w : Work) : Sampled x s (t.beginEffect x w) := by
  unfold State.beginEffect
  extract_lets m
  split
  · rename_i c t1 t2 _
    have used := h.annUsed c t1 t2
    have aimed (p0 p1 : ChPos) : Sampled x s ((t.annUsed x c t1 t2).setMsq x { t.msq x with pos0 := p0, pos1 := p1 }) :=
      used.setMsq x _ (h.notes x)
    exact ((aimed _ _).zoneClocks c).lpeSeek c
  · exact h
  · exact (h.setHeads _ _).lpeOffset _
  · rename_i c head _
    have selected (second : Bool) (p : ChPos) : Sampled x s (t.setMsq x (m.setPos second p)) :=
      h.setMsq x _ (by cases second <;> exact h.notes x)
    exact ((selected _ _).headFrame _ _).headStrobe
  · exact h.lpeLoad
  · exact h.lpeUnload
  · exact h
  · exact h
  · have open_ : Sampled x s (t.setMsq x { t.msq x with gate218 := false }) := h.setMsq x _ (h.notes x)
    exact open_.channelBegin _ _
  · exact h

/-! ### The work list (R138 to R140) -/

/-- The notes of the items of a list are among those of the sample's first state. -/
def Listed (s : State) (x : Act) (l : List Work) : Prop := l.flatMap workNotes ⊆ (s.msq x).allStaged

/-- An item replaced by one with the same notes. -/
theorem Listed.replace {before l : List Work} {w v : Work} (h : Listed s x (before ++ w :: l)) (same : workNotes v = workNotes w) :
    Listed s x (before ++ v :: l) := by
  rw [Listed, List.flatMap_append, List.flatMap_cons] at h ⊢
  rw [same]
  exact h

theorem Listed.pass {before l : List Work} {w : Work} (h : Listed s x (before ++ w :: l)) : Listed s x (before ++ [w] ++ l) := by
  rw [List.append_assoc]
  exact h

theorem workNotes_markReady (t : State) (x : Act) (w : Work) : workNotes (t.markReady x w) = workNotes w := by
  unfold State.markReady
  split
  · split <;> rfl
  · rfl

theorem workNotes_withGates (t : State) (x : Act) (w : Work) : workNotes (t.withGates x w) = workNotes w := by
  unfold State.withGates
  split
  · rename_i r kind
    simp only [workNotes, kind]
  · rfl

/-- The work list written with items whose notes are known. -/
theorem relist {l : List Work} (h : Sampled x s t) (listed : Listed s x l) : Sampled x s (t.setMsq x { t.msq x with work := l }) := by
  refine h.setMsq x _ ?_
  rw [allStaged_eq]
  refine List.append_subset.2 ⟨listed, fun e staged => h.notes x ?_⟩
  exact mem_allStaged.2 (.inr staged)

theorem beginItems {l : List Work} (before : List Work) (h : Sampled x s t) (listed : Listed s x (before ++ l)) :
    Sampled x s (State.beginItems x before l t) := by
  induction l generalizing t before with
  | nil => exact h
  | cons w l ih =>
    have passed := ih (before ++ [w]) h listed.pass
    have marked : Listed s x (before ++ t.markReady x w :: l) := listed.replace (workNotes_markReady t x w)
    have gated : Listed s x (before ++ t.withGates x (t.markReady x w) :: l) := marked.replace (workNotes_withGates t x _)
    unfold State.beginItems
    refine ite passed ?_
    split
    · exact h.progError _ _
    · refine ite ?_ ?_
      · split
        · split
          · rename_i k u armed
            have again : Listed s x (before ++ { w with cmp := some k } :: l) := listed.replace rfl
            exact ih _ ((h.armQual armed).relist again) again.pass
          · exact passed
        · exact passed
      · refine ite (ih _ ((h.relist marked).heldAgain w) marked.pass) ?_
        split
        · exact h.progError _ _
        · exact ih _ ((h.relist gated).beginEffect _) gated.pass

theorem beginReady (h : Sampled x s t) : Sampled x s (t.beginReady x) := by
  refine h.beginItems [] (fun e noted => h.notes x ?_)
  rw [allStaged_eq]
  exact List.mem_append_left _ noted

/-! ### The waits (R141 to R149) -/

theorem endWait (h : Sampled x s t) : Sampled x s (t.endWait x) := h.setMsq x _ (h.notes x)

theorem setSpec (h : Sampled x s t) (k : Nat) (a : Arch) : Sampled x s (t.setMsq x ((t.msq x).setSpec k a)) := h.setMsq x _ (h.notes x)

/-- A commit point takes the staged notes into its item: none is new. -/
theorem registerCommit (h : Sampled x s t) (k kind : Nat) : Sampled x s (t.registerCommit x k kind) := by
  refine h.setMsq x _ (fun e noted => h.notes x ?_)
  simp only [allStaged_eq, List.flatMap_append, List.flatMap_cons, List.flatMap_nil, workNotes, mkWork, List.append_nil] at noted ⊢
  exact noted

theorem waiteEnd (h : Sampled x s t) (k events pred : Nat) : Sampled x s (t.waiteEnd x k events pred) := by
  have ended := (h.setSpec k (((t.msq x).slot k).spec.setReg pred 1#32)).endWait
  exact ite (ended.put _ _ (by cases x <;> decide)) ended

theorem resolveWait (h : Sampled x s t) : Sampled x s (t.resolveWait x) := by
  unfold State.resolveWait
  extract_lets m
  split
  · split
    · exact ite (h.setSpec _ _).endWait h
    · exact ite h.endWait h
    · exact ite (h.registerCommit _ _) h
    · exact ite (h.registerCommit _ _) h
    · exact ite (h.waiteEnd _ _ _) h
    · split
      · rename_i armed
        have got := h.armQual armed
        exact got.setMsq x _ (got.notes x)
      · exact h
    · exact h
  · exact h

theorem advance (h : Sampled x s t) : Sampled x s (t.advance x) := ite h h.beginReady.resolveWait

theorem syncMode (h : Sampled x s t) : Sampled x s t.syncMode :=
  h.kept (syncMode_keeps t) (by cases x <;> decide) (by decide) (by decide)

end Sampled

end Sys2Proof.Proofs
end

section
/-!
PROOFS. A VCM sample as a whole (R385 to R412), and the statement of the loops' samples.
-/
namespace Sys2Proof.Proofs

open Sys2Proof.Machine Sys2Proof.Safety Sys2Proof.Laws

section
variable {s : State} {x : Act}

/-! ### What a sample takes (R410, R412, R429, R430) -/

theorem rowChange_keeps {P : List Part} {R : List Field} {f : State → State} (k : Keeps P R s (f s)) (w : within P R [.lpe] [] = true) :
    Keeps P R s (s.rowChange x f) := keeps_ite k (keeps_setLa w k)

/-- The fields of a bank that is swapped in. -/
def swapFields : List Field := [Fld.LPE_BANK_SWAP, Fld.LPE_BANK_ACTIVE]

theorem bandTake_keeps (s : State) (x : Act) : Keeps [.lpe] [] s (s.bandTake x) := by
  have banded : Keeps [.lpe] [] s (s.rowChange x (fun u => u.setLa x { u.la x with band := u.get Fld.THM_STAT_BAND })) :=
    rowChange_keeps (keeps_setLa (within_nil rfl) (keeps_refl _ _ _)) (within_nil rfl)
  exact keeps_ite banded (keeps_setLa (within_nil rfl) banded)

theorem vcmTake_keeps (s : State) (x : Act) (normal : Bool) : Keeps [.lpe] swapFields s (s.vcmTake x normal) := by
  have swapped : Keeps [.lpe] swapFields s (s.rowChange x (fun u => u.swapAt x.idx)) := rowChange_keeps (swapAt_keeps s _) (within_nil rfl)
  exact keeps_setLa (within_nil rfl) (keeps_ite swapped (keeps_via (bandTake_keeps _ x) (within_nil rfl) swapped))

/-- A sample ends an overrun. -/
theorem deadline_vcmTake (s : State) (x : Act) (normal : Bool) :
    ((s.vcmTake x normal).la x).late = false ∧ ((s.vcmTake x normal).la x).ovr = 0 := by
  rw [State.vcmTake, la_setLa]
  exact ⟨rfl, rfl⟩

/-! ### The coil current shown (R388) -/

/-- The coil current shown. -/
def coilShown (s : State) (x : Act) (iv : BitVec 16) : State := s.put (coilField x) iv.toNat

theorem get_coilShown (s : State) (x : Act) (iv : BitVec 16) : (coilShown s x iv).get (coilField x) = iv.toNat := by
  rw [coilShown, get_put _ _ _ (by cases x <;> rfl)]
  cases x <;> exact Nat.mod_eq_of_lt iv.isLt

theorem coilShown_keeps (s : State) (x : Act) (iv : BitVec 16) : Keeps [] [coilField x] s (coilShown s x iv) :=
  keeps_put (by cases x <;> decide) (keeps_refl _ _ _)

/-- What follows the coil current: the shock level of actuator A's samples, a seek let go, the sequencer and the mode. -/
theorem Sampled.afterCoil {t : State} (h : Sampled x s t) (sh0 sh1 : Int) : Sampled x s ((((if x = .a then t.sample 82 (binOf 16 0 1
    (t.shockLevel sh0 sh1)) (t.shockLevel sh0 sh1) (t.boundCtx x) else t).seekRelease x).advance x).syncMode) :=
  (Sampled.ite (h.sample _ _ _ _) h).seekRelease.advance.syncMode

/-! ### The sample (R385) -/

/-- What a sample does up to the coil current. -/
def vcmDriven (s : State) (x : Act) (h0 h1 : HeadIn) (sh0 sh1 : Int) (mv : Nat) (dt : Rat) : State :=
  let t := ((((s.vcmFollow x h0 h1 dt).rvTake x sh0 sh1).shockStep x sh0 sh1).vcmOutput x mv).learn x
  t.wr (Reg.LPE_POS x) (BitVec.ofInt 32 (t.la x).p.floor)

theorem vcmDriven_sampled (s : State) (x : Act) (h0 h1 : HeadIn) (sh0 sh1 : Int) (mv : Nat) (dt : Rat) :
    Sampled x s (vcmDriven s x h0 h1 sh0 sh1 mv dt) :=
  (((((Sampled.refl x s).vcmFollow h0 h1 dt).rvTake sh0 sh1).shockStep sh0 sh1).vcmOutput mv).learn.showPos _

/-- What a sample does from the coil current on. -/
def vcmShown (s : State) (x : Act) (sh0 sh1 : Int) (iv : BitVec 16) : State :=
  let t := coilShown s x iv
  ((((if x = .a then t.sample 82 (binOf 16 0 1 (t.shockLevel sh0 sh1)) (t.shockLevel sh0 sh1) (t.boundCtx x) else t).seekRelease x).advance
    x).syncMode)

theorem exec_vcmSample (ok : s.actOk x = true) (driven : s.flag (drvOff x) = false) (free : s.lpe.held = false) (h0 h1 : HeadIn)
    (sh0 sh1 : Int) (iv : BitVec 16) (mv : Nat) (normal : Bool) : ∃ dt, exec (.vcmSample x h0 h1 sh0 sh1 iv mv normal) s =
      .next (vcmShown (vcmDriven (s.vcmTake x normal) x h0 h1 sh0 sh1 mv dt) x sh0 sh1 iv) :=
  ⟨_, if_neg (by simp [ok, driven, free])⟩

theorem exec_vcmSample_held (held : s.lpe.held = true) (h0 h1 : HeadIn) (sh0 sh1 : Int) (iv : BitVec 16) (mv : Nat) (normal : Bool) :
    exec (.vcmSample x h0 h1 sh0 sh1 iv mv normal) s = .next s :=
  if_pos (by simp [held])

/-- The fields that a VCM sample may write. -/
def vcmFields (s : State) (x : Act) : List Field :=
  chanFields ++ guardFields s .a ++ guardFields s .b ++ modeFields ++ couplingFields ++ loopFields ++ [Fld.ANG_EV_BCLKRNG,
    ⟨Reg.ANG_BPR 0, 0, 32⟩, ⟨Reg.ANG_BPR 1, 0, 32⟩, ⟨Reg.ANG_BPR 2, 0, 32⟩, ⟨Reg.ANG_BPR 3, 0, 32⟩, Fld.LPE_EV_COASTA, Fld.LPE_EV_COASTB,
    Fld.LPE_BANK_SWAP, Fld.LPE_BANK_ACTIVE, Fld.LPE_POS_POS .a, Fld.LPE_POS_POS .b, Fld.DRV_IVCM_IA, Fld.DRV_IVCM_IB, Fld.LPE_ARB_OUT x,
    Fld.LPE_ARB_WIN x, Fld.LPE_PES_PES0 x, Fld.LPE_PES_PES1 x, Fld.MSQ_DOORBELL_RING x, Fld.MSQ_FLTPC_PC x, Fld.MSQ_FLT_PROG x,
    Fld.MSQ_FLT_SAPCAP x, Fld.MSQ_FLT_STEP x]

theorem guardFields_vcm (s : State) (x y : Act) : guardFields s y ⊆ vcmFields s x := by
  intro f hf
  cases y <;> simp [vcmFields, hf]

theorem sampleOwn_vcm (s : State) (x : Act) : sampleOwn x ⊆ vcmFields s x := by
  have ga : guardOwn .a ⊆ vcmFields s x := List.Subset.trans (guardOwn_subset s .a) (guardFields_vcm s x .a)
  have gb : guardOwn .b ⊆ vcmFields s x := List.Subset.trans (guardOwn_subset s .b) (guardFields_vcm s x .b)
  have named {l : List Field} (h : l ⊆ chanFields ∨ l ⊆ modeFields ∨ l ⊆ couplingFields ∨ l ⊆ loopFields) : l ⊆ vcmFields s x := by
    intro f hf
    obtain h | h | h | h := h <;> simp [vcmFields, h hf]
  have self (l : List Field) : l ⊆ l := List.Subset.refl l
  simp only [sampleOwn, List.append_subset]
  refine ⟨⟨⟨⟨⟨⟨named (.inl (self _)), ga⟩, gb⟩, named (.inr (.inl (self _)))⟩, named (.inr (.inr (.inl (self _))))⟩,
    named (.inr (.inr (.inr (self _))))⟩, ?_⟩
  simp [vcmFields]

/-- A part of the sample, from a state with no other notes, lies within the sample's frame. -/
theorem sampleFields_vcm {t : State} (notes : ∀ y, (t.msq y).allStaged ⊆ (s.msq y).allStaged) : sampleFields t x ⊆ vcmFields s x := by
  have noted (y : Act) : notedFields t y ⊆ vcmFields s x :=
    List.Subset.trans (notedFields_of_subset (notes y)) (List.Subset.trans (notedFields_subset s y) (guardFields_vcm s x y))
  exact List.append_subset.2 ⟨List.append_subset.2 ⟨noted .a, noted .b⟩, sampleOwn_vcm s x⟩

/-- A VCM sample shows the coil current, ends an overrun, and stays within its frame. -/
theorem vcmSample_shown (s : State) (x : Act) (h0 h1 : HeadIn) (sh0 sh1 : Int) (iv : BitVec 16) (mv : Nat) (normal : Bool) (dt : Rat) :
    (vcmShown (vcmDriven (s.vcmTake x normal) x h0 h1 sh0 sh1 mv dt) x sh0 sh1 iv).get (coilField x) = iv.toNat ∧
      ((vcmShown (vcmDriven (s.vcmTake x normal) x h0 h1 sh0 sh1 mv dt) x sh0 sh1 iv).la x).late = false ∧
      ((vcmShown (vcmDriven (s.vcmTake x normal) x h0 h1 sh0 sh1 mv dt) x sh0 sh1 iv).la x).ovr = 0 ∧
      Keeps sampleParts (vcmFields s x) s (vcmShown (vcmDriven (s.vcmTake x normal) x h0 h1 sh0 sh1 mv dt) x sh0 sh1 iv) := by
  have taken := vcmTake_keeps s x normal
  have driven := vcmDriven_sampled (s.vcmTake x normal) x h0 h1 sh0 sh1 mv dt
  generalize vcmDriven (s.vcmTake x normal) x h0 h1 sh0 sh1 mv dt = t at driven ⊢
  have coil := coilShown_keeps t x iv
  have shown : Sampled x (coilShown t x iv) (vcmShown t x sh0 sh1 iv) := (Sampled.refl x _).afterCoil sh0 sh1
  obtain ⟨late, ovr⟩ := deadline_vcmTake s x normal
  have first (y : Act) : ((s.vcmTake x normal).msq y).allStaged ⊆ (s.msq y).allStaged := by
    rw [keeps_msq taken (by decide)]
    exact List.Subset.refl _
  have then_ (y : Act) : ((coilShown t x iv).msq y).allStaged ⊆ (s.msq y).allStaged := by
    rw [keeps_msq coil (by decide)]
    exact List.Subset.trans (driven.notes y) (first y)
  refine ⟨shown.coil.trans (get_coilShown t x iv), ?_, ?_, ?_⟩
  · rw [shown.late, keeps_la coil (by decide), driven.late, late]
  · rw [shown.ovr, keeps_la coil (by decide), driven.ovr, ovr]
  · have one : Keeps sampleParts (vcmFields s x) s (s.vcmTake x normal) :=
      keeps_mono taken (within_of_subset (by decide) (by simp [swapFields, vcmFields]))
    have two := keeps_via driven.keeps (within_of_subset (List.Subset.refl _) (sampleFields_vcm first)) one
    have three := keeps_via coil (within_of_subset (List.nil_subset _) (by cases x <;> simp [vcmFields, byAct])) two
    exact keeps_via shown.keeps (within_of_subset (List.Subset.refl _) (sampleFields_vcm then_)) three
end

/-- Settles O29: each sample by what it leaves of its loop; a VCM sample as a chain of steps that keep the deadline counts and add no
note. -/
theorem loopSamples : Obligations.LoopSamples := by
  unfold Obligations.LoopSamples
  refine ⟨?vcm, ?held, ?on, ?off, ?blind, ?parked, ?loaded, ?busFar, ?busNear, ?laser, ?heaterFar, ?heaterNear⟩
  case vcm =>
    intro s x h0 h1 sh0 sh1 iv mv normal ok driven free
    obtain ⟨dt, run⟩ := exec_vcmSample ok driven free h0 h1 sh0 sh1 iv mv normal
    exact ⟨_, run, vcmSample_shown s x h0 h1 sh0 sh1 iv mv normal dt⟩
  case held => exact fun s x h0 h1 sh0 sh1 iv mv normal held => exec_vcmSample_held held h0 h1 sh0 sh1 iv mv normal
  case on =>
    rintro s n k pes err ok driven free lanes loaded head rfl valid on rfl
    obtain ⟨output, integ⟩ := head_uaDriven s n (uaError s n k)
    exact ⟨_, exec_microactuatorSample_on ⟨ok, driven, free, lanes, loaded⟩ head valid on, output, integ, testBit_uaMark _ _ n true,
      uaDriven_keeps s n _⟩
  case off =>
    intro s n k ok driven free lanes loaded head valid off
    exact ⟨_, exec_microactuatorSample_off ⟨ok, driven, free, lanes, loaded⟩ head valid off, ua_uaResting s n _,
      testBit_uaMark _ _ n false, uaResting_keeps s n _⟩
  case blind =>
    exact fun s n k ok driven free lanes loaded head blind =>
      exec_microactuatorSample_blind ⟨ok, driven, free, lanes, loaded⟩ head blind
  case parked =>
    intro s a b mv free stopped offA offB
    obtain ⟨target, at_⟩ := spnSampled_shown (s := s) a b mv 0
    have off := (keeps_flag (spnSampled_keeps stopped a b mv 0) Fld.SPN_CTL_RUN (by decide) (by decide)).trans stopped
    obtain ⟨zero, timed⟩ := syncMode_timed off target
    exact ⟨_, exec_spindleSample_stopped (t := 0) free stopped (by simp [offA, offB]) a b mv, zero, timed.trans at_,
      spnSample_keeps stopped a b mv 0⟩
  case loaded =>
    intro s a b mv free stopped _ loaded _ idle
    obtain ⟨target, at_⟩ := spnSampled_shown (s := s) a b mv s.spn.target
    have same := spn_of_stopped stopped idle a b mv s.spn.target
    exact ⟨_, exec_spindleSample_stopped (t := s.spn.target) free stopped (if_pos loaded) a b mv,
      (congrArg SpnSt.target same).trans target, (congrArg SpnSt.sampleAt same).trans at_, spnSample_keeps stopped a b mv _⟩
  case busFar =>
    intro s mv free lanes far
    obtain ⟨count, since⟩ := busSampled_beyond far
    exact ⟨_, exec_busVoltageSample free lanes mv, count, since, buslim_busSampled s mv, busSampled_keeps s mv⟩
  case busNear =>
    rintro s mv free lanes rfl
    exact ⟨_, exec_busVoltageSample free lanes _, busSampled_near, busSampled_keeps s _⟩
  case laser =>
    intro s n reading h mode lit free lanes head far
    refine ⟨_, exec_laserPowerSample mode lit free lanes head, ?_⟩
    have counted := feLas_lasCounted far
    have frame := lasCounted_keeps s n reading
    split
    · exact ⟨counted, keeps_mono frame (within_nil rfl)⟩
    · have driven := lasDriven_keeps s (lasCounted s n reading) n h
      have same : (lasDriven s (lasCounted s n reading) n h).lpe = (lasCounted s n reading).lpe := driven.part .lpe (by decide) (by decide)
      rw [same]
      exact ⟨counted, keeps_via driven (within_nil rfl) (keeps_mono frame (within_nil rfl))⟩
  case heaterFar =>
    intro s n reported h head free ok far
    have above : heaterAsked s n + s.feLim Fld.LPE_FEHTR_FE_LIM < reported := far
    have beyond : s.feLim Fld.LPE_FEHTR_FE_LIM < max (heaterAsked s n) reported - min (heaterAsked s n) reported := by omega
    refine ⟨_, exec_heaterSample head free ok, ?_, htrSampled_keeps s n reported h⟩
    rw [feHtr_htrSampled, decide_eq_true beyond]
    rfl
  case heaterNear =>
    rintro s n reported h head free ok rfl
    refine ⟨_, exec_heaterSample head free ok, ?_, htrSampled_keeps s n _ h⟩
    rw [feHtr_htrSampled, max_self, min_self, Nat.sub_self]
    rfl

end Sys2Proof.Proofs
end
